-- ==== Sys2Proof/Word.lean ====
section
/-!
DEFINITION. The register word of the block and its plainest arithmetic (spec/00_scope.md, "Registers, names and
access codes": registers are 16 bits wide).
-/
namespace Sys2Proof

/-- One register of the map (00_scope: 16 bits). -/
abbrev Word := BitVec 16

/-- One byte of a memory, a packet or a bus transfer. -/
abbrev Byte := BitVec 8

end Sys2Proof
end

