-- ==== Sys2Proof/Syntax.lean ====
section
/-!
DEFINITION. The commands of the block: one constructor of `Instr` for each row of spec/opcode_table.json, with the operands that
come from outside the block (what the host sends, what the air, the supplies and the attached parts present). The table gives
the rows no operands of its own; each operand type says which rule of spec/ it stands for.
-/
namespace Sys2Proof

/-- The blocks that apply an epoch at a boundary of their own (R83, R84). -/
inductive EpochUnit
  | control            -- SYS, PWR, BOOT, HIF, LIF, TMP, MON, GPIO, RTC, CLK, CX
  | rf                 -- AFE, BIC, SCN, CHN with FMC, AMC and CHN_IQ, and RDS
  | dab                -- DAB and DBE
  | dsc (n : Fin 48)   -- one DSC entry: its change waits for the next CIF of its ensemble
  | prg                -- PRG and PGT
  | aud                -- COD, JCK, MIX and MXT
  | prt                -- the registers shared by the ports: PRT_LEAD and PRT_AMCLK
  | port (n : Fin 3)   -- one TDM port
  | spd                -- IEC 60958
  | fsp                -- the Ferson port
  | slk                -- the site link
deriving DecidableEq, Repr

/-- How a commit is requested (R81): a write of SYS_EPOCH_CTRL, or command 0xF010 with its key bytes; with PEC when sent. -/
inductive CommitReq
  | register (hi lo : Byte) (pec : Option Byte)
  | command (k1 k2 : Byte) (pec : Option Byte)
deriving DecidableEq, Repr

/-- How an abandon is requested (R81): a write of SYS_EPOCH_CTRL, or command 0xF011; with PEC when sent. -/
inductive AbandonReq
  | register (hi lo : Byte) (pec : Option Byte)
  | command (pec : Option Byte)
deriving DecidableEq, Repr

/-- A read command of the attached flash, and the dummy cycles after its address. -/
structure FlashCmd where
  command : Byte
  dummy : Fin 64
deriving DecidableEq, Repr

/-- What the SFDP table of the attached flash says (R57, R58): size in bytes, erase sizes listed, the 1-1-4 and the 1-4-4 read where they are listed,
and the quad-enable method. -/
structure Sfdp where
  size : Nat
  erase4k : Bool
  erase64k : Bool
  read114 : Option FlashCmd
  read144 : Option FlashCmd
  quadEnable : Fin 8
deriving DecidableEq, Repr


/-- What a managed request names (R148): a frequency in kHz, a DAB block, or a subchannel of an ensemble. -/
inductive MgdTarget
  | fm (khz : Nat)
  | am (khz : Nat)
  | dbe (block : Fin 41)
  | dsc (block : Fin 41) (subch : Fin 64)
deriving DecidableEq, Repr


/-- What one FM context's signal presents over one context block (R171 to R187): mean power of each input in the fixed ±90 kHz band at its ball in
10^−22 mW; carrier-to-noise ratio × 1,000 of the combined signal and of each input; power within ±60 kHz and the largest of the four
side bands (R173); mean square of the normalised envelope from 1 kHz to 100 kHz × 10^6; amplitude and noise power of each input (R176); the complex
samples of each input at 384 kS/s; the pilot's phase error in 0.1°. -/
structure FmBlock where
  n : Nat
  powA : Nat := 0
  powB : Nat := 0
  snr : Nat := 0
  snrA : Nat := 0
  snrB : Nat := 0
  core : Nat := 0
  side : Nat := 0
  mp : Nat := 0
  ampA : Nat := 0
  noiseA : Nat := 1
  ampB : Nat := 0
  noiseB : Nat := 1
  a : List (Int × Int) := []
  b : List (Int × Int) := []
  pilotErr : Int := 0
deriving DecidableEq, Repr

/-- What one AM context's signal presents over one context block (R200 to R204): its complex samples at 48 kS/s, the power within ±100 Hz and the
noise power within ±B at the ball in 10^−22 mW, whether the carrier PLL has locked, and the carrier's offset in 0.1 Hz. -/
structure AmBlock where
  n : Nat
  z : List (Int × Int) := []
  carrier : Nat := 0
  noise : Nat := 1
  lock : Bool := false
  off : Int := 0
deriving DecidableEq, Repr


/-- The offset word that a received RDS block matches (R214, R215, R217). -/
inductive RdsOffset
  | a | b | c | c' | d | e | none
deriving DecidableEq, Repr

/-- The information word of a received RDS block, as corrected and as received (R215, R218). -/
structure RdsInfo where
  word : BitVec 16
  raw : BitVec 16
deriving DecidableEq, Repr



/-- A service component as FIG 0/2 gives it (R251). -/
structure DabComp where
  tmid : Nat
  /-- ASCTy or DSCTy -/
  kind : Nat
  subch : Nat
  primary : Bool := true
  ca : Bool := false
deriving DecidableEq, Repr

/-- A FIG that the content table of R251 names, with its fields decoded by EN 300 401; `next`: of the next configuration (R254). Identifiers
and texts as received; labels carry the character set, 16 bytes and the short-label flags. -/
inductive Fig
  | ensemble (eid change cif occurrence : Nat)
  | subch (next : Bool) (id start size : Nat) (eep : Bool) (prot rate : Nat)
  | service (next : Bool) (sid : Nat) (data : Bool) (comps : List DabComp)
  | linkage (lsn : Nat) (active hard intl : Bool) (ids : List (Nat × Nat))
  | date (mjd hour minute : Nat) (long : Bool) (second ms : Nat)
  | annSupport (sid flags : Nat) (clusters : List Nat)
  | annSwitch (cluster flags : Nat)
  | freqInfo (id rm : Nat) (khz : List Nat)
  | oe (sid : Nat) (eids : List Nat)
  | ensLabel (charset : Nat) (text : List Nat) (short : Nat)
  | svcLabel (sid charset : Nat) (text : List Nat) (short : Nat)
  | ensExt (text : List Nat)
  | svcExt (sid : Nat) (text : List Nat)
deriving DecidableEq, Repr

/-- What a transmission frame presents to the OFDM receiver of an ensemble context (R244, R248): the distance in samples of two energy
dips of null-symbol length, the integer frequency offset in Hz from the phase reference symbol, whether the null symbol was found, and
the mean offset in Hz and the modulation error ratio in 0.1 dB over the blocks that R248 admits (none: no such block). -/
structure DabFrame where
  dips : Option Nat := none
  prs : Option Int := none
  null : Bool := true
  fofs : Option Int := none
  snr : Option Int := none
deriving DecidableEq, Repr

/-- What the CIF that ended carried for one entry (R264, R266): the hard decisions of the bits of its subchannel, as bytes; and the bit error rate
over the last 1 s as 10 × (−log10 BER). -/
structure DscFrame where
  n : Nat
  bits : List Byte
  ber : Nat
deriving DecidableEq, Repr

/-- Programme-associated data met in an audio frame (R273 to R275); a data group with the place, in its superframe, of the logical frame that
carried it. -/
inductive PadItem
  | segment (toggle : Bool) (no last charset : Nat) (text : List Nat)
  | remove
  | tags (l : List (Nat × Nat × Nat))
  | group (data : List Byte) (frame : Nat)
deriving DecidableEq, Repr

/-- What a Bullfrog meets in one audio frame or superframe (R267 to R272): the CRC of each frame or access unit; for DAB+ the firecode
check, and for each Reed-Solomon codeword the bytes corrected, at most 5, or none where it is uncorrectable (R268); whether frame synchronisation was
lost, whether the frame spans two logical frames (24 kHz), whether it decodes to two channels other than dual channel, and the samples it
decodes to, as left and right in 2^−23 of the decoder's full scale, with their rate in kHz (R15, R267). -/
structure AudioFrame where
  units : List Bool
  fire : Bool := true
  words : List (Option (Fin 6)) := []
  syncLost : Bool := false
  low : Bool := false
  stereo : Bool := true
  khz : Nat := 48
  pcm : List (Int × Int) := []
  pad : List PadItem := []
deriving DecidableEq, Repr



/-- The impedances in Ω that a classification measures (R377); none: open. -/
structure JackZ where
  tip : Option Nat := none
  ring : Option Nat := none
  a : Option Nat := none
  b : Option Nat := none
deriving DecidableEq, Repr

/-- A received IEC 60958 subframe (R434): its 24-bit sample, whether it passes its parity check, and its V bit. -/
structure SpdSub where
  sample : Int := 0
  parityOk : Bool := true
  v : Bool := false
deriving DecidableEq, Repr

/-- What the pins present to one fabric frame (R358, R432): the inputs `LIN1L`, `LIN1R`, `LIN2L`, `LIN2R`, `MIC1`, `MIC2` in 2^−23 of the full scale at
0 dB, and the frames that `SPD_RX` has received since the fabric frame before, left and right. -/
structure FabricIn where
  line : List Int := []
  spd : List (SpdSub × SpdSub) := []
deriving DecidableEq, Repr

/-- One frame start of a TDM port as the pins and clocks present it (R410 to R422): the measured frame rate in 10 Hz and bit clocks per frame of a
slave, the received slots as WIDTH-bit numbers, of an underrun in legacy mode the slot words left unsent and the 24-bit samples by slot of the
frame that comes after them, and the distance in `Pn_BCLK` cycles from the group's frame start. -/
structure PortFrame where
  rate : Nat := 4800
  bpf : Nat := 64
  din : List Nat := []
  unsent : Nat := 0
  late : List Int := []
  skew : Nat := 0
deriving DecidableEq, Repr

/-- The two PLLs of R438 to R461. -/
inductive Pll
  | spl
  | apl
deriving DecidableEq, Repr

/-- A supply has stood at no less than `mv` mV for `us` µs (R550). -/
structure SupplyLevel where
  mv : Nat
  us : Nat
deriving DecidableEq, Repr

/-- The commands of the block, one constructor for each row of the table (mnemonic and rule in the comment): those with
operands in the order of the table, then those without. -/
inductive Instr
  /-- REGISTER_WRITE (R521). -/
  | registerWrite (hi : Byte) (lo pec : Option Byte)
  /-- POINTER_WRITE (R520). -/
  | pointerWrite (again : Bool) (hi lo : Byte) (pec : Option Byte)
  /-- TRANSACTION_END (R523). -/
  | transactionEnd (reads : Nat)
  /-- DTIME_SECOND (R23). -/
  | dtimeSecond (vdd08 : Nat)
  /-- SCRUB_READ (R30). -/
  | scrubRead (clean : Nat) (ecc : Fin 3) (written : Bool) (item index : Nat)
  /-- REGISTER_PARITY_ERROR (R571). -/
  | registerParityError (index value : BitVec 16) (staged : Bool)
  /-- ROM_CHECK_RETRY (R32). -/
  | romCheckRetry (ok : Bool) (sfdp : Option Sfdp)
  /-- LANE_GROUP (R99). -/
  | laneGroup (inp : Fin 2) (codes : List (BitVec 14))
  /-- CONTEXT_BLOCK_BOUNDARY (R142). -/
  | contextBlockBoundary (fm : List FmBlock) (am : List AmBlock) (dbe : List (Nat × Nat)) (iq : List (Nat × List (Int × Int)))
  /-- MEASUREMENT_UPDATE (R639). -/
  | measurementUpdate (second : Bool) (powerA powerB : Nat)
  /-- EPOCH_COMMIT (R83). -/
  | epochCommit (req : CommitReq)
  /-- EPOCH_ABANDON (R88). -/
  | epochAbandon (req : AbandonReq)
  /-- BLOCK_EPOCH_APPLY (R84). -/
  | blockEpochApply (unit : EpochUnit)
  /-- RESET_RELEASE (R556). -/
  | resetRelease (boot addr : Fin 4) (romOk : Bool) (sfdp : Option Sfdp)
  /-- FULL_WARM_RESTART (R74). -/
  | fullWarmRestart (storeOk cntOk : Bool)
  /-- MAILBOX_WRITE (R526). -/
  | mailboxWrite (count : Byte) (data : List Byte) (pec : Option Byte)
  /-- MAILBOX_READ (R528). -/
  | mailboxRead (clocked : Nat)
  /-- FLASH_ERASE (R79). -/
  | flashErase (failAt : Option Nat)
  /-- FLASH_WRITE (R79). -/
  | flashWrite (failAt : Option Nat)
  /-- PH_SENSE_SAMPLE (R94). -/
  | phSenseSample (inp : Fin 2) (mv : Nat)
  /-- PH_AVERAGE (R94). -/
  | phAverage (inp : Fin 2)
  /-- PH_SETTLE_END (R95). -/
  | phSettleEnd (inp : Fin 2)
  /-- PH_RETRY_EXPIRY (R94). -/
  | phRetryExpiry (inp : Fin 2)
  /-- PH_RESTART (R94). -/
  | phRestart (inp : Fin 2)
  /-- PEAK_WINDOW (R103). -/
  | peakWindow (inp : Fin 2)
  /-- OVERLOAD_WINDOW (R113). -/
  | overloadWindow (inp : Fin 2)
  /-- ATTENUATOR_STEP (R101). -/
  | attenuatorStep (inp : Fin 2)
  /-- REACQUIRE (R111). -/
  | reacquire (inp : Fin 2)
  /-- ACQUISITION_DONE (R110). -/
  | acquisitionDone (inp : Fin 2)
  /-- INPUT_START (R117). -/
  | inputStart (inp : Fin 2)
  /-- ESTIMATION_WINDOW (R120). -/
  | estimationWindow (inp : Fin 2) (power : Int) (flat : Byte) (est : List (Int × Int × Int))
  /-- BIC_COMMIT (R126). -/
  | bicCommit (inp : Fin 2)
  /-- BIC_COMMIT_TIMEOUT (R127). -/
  | bicCommitTimeout (inp : Fin 2)
  /-- BIC_FACTORY (R130). -/
  | bicFactory (inp : Fin 2)
  /-- BIC_RESTART (R120). -/
  | bicRestart (inp : Fin 2)
  /-- JOURNAL_WRITE (R136). -/
  | journalWrite (eraseOk writeOk : Bool)
  /-- MANAGED_REQUEST (R148). -/
  | managedRequest (prog : Fin 128) (target : MgdTarget)
  /-- MANAGED_LINGER_EXPIRY (R152). -/
  | managedLingerExpiry (pool : Fin 5) (n : Fin 256)
  /-- VIEW_LATCH (R154). -/
  | viewLatch (pool : Fin 4) (index : Fin 512)
  /-- SPECTRUM_COMPLETE (R167). -/
  | spectrumComplete (inp : Fin 2) (ffts : List (List Nat))
  /-- SCN_WINDOW_LATCH (R170). -/
  | scnWindowLatch (inp : Fin 2) (page : Fin 512)
  /-- CHN_FLAG_CLEAR (R197). -/
  | chnFlagClear (bits : Byte)
  /-- MEAS_WINDOW_LATCH (R211). -/
  | measWindowLatch (pool : Fin 2) (page : Fin 8) (index : Fin 512)
  /-- RDS_BLOCK (R215). -/
  | rdsBlock (n : Fin 256) (info : RdsInfo) (off : RdsOffset) (burst : Option Nat) (bits : Nat)
  /-- RDS_GROUP (R218). -/
  | rdsGroup (n : Fin 256)
  /-- PI_HOLD_EXPIRY (R226). -/
  | piHoldExpiry (n : Fin 256)
  /-- PS_FREEZE (R229). -/
  | psFreeze (n : Fin 256)
  /-- RDS_GROUP_LATCH (R220). -/
  | rdsGroupLatch (index : Fin 512)
  /-- RDS_FLAG_CLEAR (R242). -/
  | rdsFlagClear (bits : Byte)
  /-- DAB_FRAME (R244). -/
  | dabFrame (n : Fin 41) (frame : DabFrame)
  /-- FIB (R250). -/
  | fib (n : Fin 41) (pass : Bool) (data : List Byte) (figs : List Fig)
  /-- MCI_COMPLETE (R253). -/
  | mciComplete (n : Fin 41)
  /-- DB_AGE_OUT (R255). -/
  | dbAgeOut (n : Fin 41)
  /-- CIF (R259). -/
  | cif (n : Fin 41) (count : Fin 5000) (frames : List DscFrame)
  /-- AUDIO_FRAME_DECODE (R269). -/
  | audioFrameDecode (n : Fin 48) (frame : AudioFrame)
  /-- DAB_FLAG_CLEAR (R276). -/
  | dabFlagClear (bits : Byte)
  /-- PROGRAMME_BLOCK (R278). -/
  | programmeBlock (ecc : Option (Nat × Bool × Nat))
  /-- CROSSFADE_END (R310). -/
  | crossfadeEnd (n : Fin 128)
  /-- DISCOVERY_REQUEST (R298). -/
  | discoveryRequest (n : Fin 128)
  /-- CANDIDATE_PI_TIMEOUT (R299). -/
  | candidatePiTimeout (n : Fin 128) (i : Fin 16)
  /-- CANDIDATE_BAR_EXPIRY (R299). -/
  | candidateBarExpiry (n : Fin 128) (khz : Nat)
  /-- REQUEST_REPEAT (R300). -/
  | requestRepeat (n : Fin 128)
  /-- COARSE_ESTIMATE (R303). -/
  | coarseEstimate (n : Fin 128) (i : Fin 16)
  /-- PAGE_FILL_DONE (R304). -/
  | pageFillDone (n : Fin 128) (i : Fin 16)
  /-- PAGE_RETRY (R306). -/
  | pageRetry (n : Fin 128) (i : Fin 16)
  /-- VERIFY_REESTIMATE (R307). -/
  | verifyReestimate (n : Fin 128) (i : Fin 16)
  /-- TIMELINE_EXIT (R308). -/
  | timelineExit (n : Fin 128) (i : Fin 16)
  /-- SLEW_COMPLETE (R309). -/
  | slewComplete (n : Fin 128)
  /-- TRIM_RELEASE_END (R312). -/
  | trimReleaseEnd (n : Fin 128)
  /-- REFERENCE_SEARCH (R315). -/
  | referenceSearch (n : Fin 128)
  /-- PRG_FLAG_CLEAR (R323). -/
  | prgFlagClear (bits : Byte)
  /-- PRG_MEAS_LATCH (R324). -/
  | prgMeasLatch (page : Fin 4) (index : Fin 128)
  /-- PGT_BULK_WRITE (R530). -/
  | pgtBulkWrite (count : Byte) (data : List Byte) (pec : Option Byte)
  /-- PGT_BULK_READ (R530). -/
  | pgtBulkRead (clocked : Nat)
  /-- PACKET_BOUNDARY (R348). -/
  | packetBoundary (ecc : Fin 3) (word : Nat)
  /-- FSP_DROP_LATCH (R337). -/
  | fspDropLatch (cls : Fin 16) (stream : Fin 4096)
  /-- PGA_STEP (R359). -/
  | pgaStep (mic : Fin 2)
  /-- ADC_ENABLE_SETTLE (R360). -/
  | adcEnableSettle (ch : Fin 4)
  /-- SPK_AUTO_RESTART (R364). -/
  | spkAutoRestart (pvdd : Nat)
  /-- HP_SEQUENCE_STEP (R366). -/
  | hpSequenceStep (out : Fin 2) (left right residual : Int)
  /-- SERVO_WINDOW (R373). -/
  | servoWindow (ch : Fin 2) (mean : Int)
  /-- SERVO_STEP (R374). -/
  | servoStep (ch : Fin 2)
  /-- JACK_INSERT (R376). -/
  | jackInsert (level : Bool) (held : Nat)
  /-- JACK_REMOVE (R380). -/
  | jackRemove (level : Bool) (held : Nat)
  /-- JACK_CLASSIFY (R378). -/
  | jackClassify (z : JackZ)
  /-- BUTTON_READING (R381). -/
  | buttonReading (ohm : Option Nat)
  /-- FABRIC_FRAME (R384). -/
  | fabricFrame (inp : FabricIn)
  /-- MIX_GAIN_WRITE (R391). -/
  | mixGainWrite (n : Fin 128) (k : Fin 4) (a b : Byte)
  /-- ROUTE_RAMP_OUT_END (R393). -/
  | routeRampOutEnd (n : Fin 128) (which : Fin 9)
  /-- EQ_SELECT (R398). -/
  | eqSelect (band : Fin 8) (n : Fin 128)
  /-- TONE_LEVEL_WRITE (R405). -/
  | toneLevelWrite (t : Fin 4) (level : Byte)
  /-- MIX_METER_LATCH (R407). -/
  | mixMeterLatch (n : Fin 128)
  /-- PORT_FRAME_START (R410). -/
  | portFrameStart (n : Fin 3) (frame : PortFrame)
  /-- PORT_OVERRUN (R421). -/
  | portOverrun (n : Fin 3)
  /-- PORT_CLOCK_LOSS (R423). -/
  | portClockLoss (n : Fin 3) (bclk : Bool)
  /-- PORT_CLOCK_PRESENT (R424). -/
  | portClockPresent (n : Fin 3) (rate bpf : Nat)
  /-- PORT_START_DONE (R416). -/
  | portStartDone (n : Fin 4)
  /-- PORT_RESTART (R416). -/
  | portRestart (n : Fin 3)
  /-- ASRC_LOCK (R428). -/
  | asrcLock (k : Fin 4)
  /-- SPD_RX_LOCK (R432). -/
  | spdRxLock (rate : Nat)
  /-- SPD_RX_LOSS (R432). -/
  | spdRxLoss (still : Bool)
  /-- Z_PREAMBLE (R433). -/
  | zPreamble (cs user : List Byte)
  /-- RELOCK_BEGIN (R443). -/
  | relockBegin (pll : Pll)
  /-- LOCK_WINDOW (R442). -/
  | lockWindow (pll : Pll) (count : Nat)
  /-- BAND_TIMEOUT (R443). -/
  | bandTimeout (pll : Pll)
  /-- PLL_FAIL_RETRY (R443). -/
  | pllFailRetry (pll : Pll)
  /-- REFIN_WINDOW (R446). -/
  | refinWindow (ppm : Int)
  /-- PPS_EDGE (R447). -/
  | ppsEdge (rising : Bool) (sub : Fin 4)
  /-- DISCIPLINE_UPDATE (R450). -/
  | disciplineUpdate (off err : Int)
  /-- CLK_PHASE_CAPTURE (R451). -/
  | clkPhaseCapture (theta : Bool)
  /-- CLKOUT_START (R458). -/
  | clkoutStart (k : Fin 4)
  /-- CLKOUT_FINE_WRITE (R460). -/
  | clkoutFineWrite (k : Fin 4) (fine : Fin 64)
  /-- LSY_LOCK (R470). -/
  | lsyLock (band : Fin 64) (fcap : Fin 512)
  /-- PREAMBLE_DETECT (R474). -/
  | preambleDetect (bits : BitVec 16)
  /-- SYNC_WORD (R475). -/
  | syncWord (level : Int) (word : BitVec 32)
  /-- PHY_HEADER (R466). -/
  | phyHeader (word : BitVec 24)
  /-- PACKET_RECEIVED (R479). -/
  | packetReceived (decoded : List Byte) (its : List Nat)
  /-- NOISE_MEASURE (R477). -/
  | noiseMeasure (mean : Int)
  /-- LBT_LISTEN_END (R480). -/
  | lbtListenEnd (mean : Int)
  /-- CX_ACT_CHANGE (R49). -/
  | cxActChange (level : Bool)
  /-- RTC_TICK (R509). -/
  | rtcTick (cycles : Nat)
  /-- RTC_FREEZE (R503). -/
  | rtcFreeze (reg : Fin 4)
  /-- RTC_TIME_WRITE (R505). -/
  | rtcTimeWrite (reg : Fin 4) (value : BitVec 16)
  /-- RTC_TRIM_WRITE (R509). -/
  | rtcTrimWrite (value : BitVec 16)
  /-- BACKUP_RAM_WRITE (R516). -/
  | backupRamWrite (i : Fin 32) (value : BitVec 16)
  /-- VBAT_LOW (R516). -/
  | vbatLow (mv : Nat)
  /-- ALERT_RESPONSE (R534). -/
  | alertResponse (other : Option Byte)
  /-- LOG_READ (R593). -/
  | logRead (clocked : Nat)
  /-- UNKNOWN_COMMAND (R529). -/
  | unknownCommand (code : Byte) (bytes : List Byte) (reads : Nat)
  /-- BUS_CLEAR_DONE (R541). -/
  | busClearDone (idle : Bool) (samples : List Bool) (low : Nat)
  /-- SCRIPT_RUN (R546). -/
  | scriptRun (i : Fin 16)
  /-- SCRIPT_PERIODIC (R546). -/
  | scriptPeriodic (i : Fin 16)
  /-- LOCAL_BUS_FREE (R540). -/
  | localBusFree (stop : Bool) (high : Nat)
  /-- LOCAL_TRANSFER_DONE (R547). -/
  | localTransferDone (nack : Fin 3) (data : List Byte)
  /-- LOCAL_CLOCK_TIMEOUT (R544). -/
  | localClockTimeout (low : Nat)
  /-- BROWN_OUT (R550). -/
  | brownOut (supply : Fin 8) (mv ns : Nat)
  /-- SUPPLY_GOOD (R550). -/
  | supplyGood (supply : Fin 8) (stood : SupplyLevel)
  /-- VIO_LEVEL_SELECT (R551). -/
  | vioLevelSelect (flash : Bool) (low peak : Nat)
  /-- RESET_N_ASSERT (R553). -/
  | resetNAssert (ns : Nat)
  /-- TEMP_READING (R558). -/
  | tempReading (values : List (Option Int))
  /-- SENSOR_FAIL (R560). -/
  | sensorFail (i : Fin 4)
  /-- TEST_PIN (R601). -/
  | testPin (level : Bool)
  /-- DOMAIN_TRANSITION_DONE (R566). -/
  | domainTransitionDone (pd : Fin 8)
  /-- WATCHDOG_TRIP (R572). -/
  | watchdogTrip (e : Fin 12)
  /-- STALL_DETECTED (R574). -/
  | stallDetected (domain : Fin 8) (item : Fin 8) (index : Fin 256)
  /-- ENGINE_RELOAD (R574). -/
  | engineReload (e : Fin 12) (cntOk : Bool)
  /-- RECOVERY_COMPLETE (R580). -/
  | recoveryComplete (domain : Fin 8)
  /-- LOG_WRITE (R586). -/
  | logWrite (eraseOk writeOk : Bool)
  /-- RD_SEQ_WRITE (R593). -/
  | rdSeqWrite (value : BitVec 16)
  /-- GPIO_EDGE (R604). -/
  | gpioEdge (n : Fin 12) (drive : Option Bool) (tenths : Nat)
  /-- GPIO_OUT_WRITE (R607). -/
  | gpioOutWrite (value : BitVec 16)
  /-- JTAG_RESET (R609). -/
  | jtagReset (trst : Bool) (tms : Nat)
  /-- JTAG_INSTRUCTION (R608). -/
  | jtagInstruction (code : Byte)
  /-- PS_RELEASE (R229). -/
  | psRelease (n : Fin 256)
  /-- BACKUP_SUPPLY_SWITCH (R514). -/
  | backupSupplySwitch (vbat vdda18 : Nat)
  /-- MICBIAS_DROPOUT (R361). -/
  | micbiasDropout (pvdd : Nat)
  /-- BOUNDARY_REGISTER_UPDATE (R609). -/
  | boundaryRegisterUpdate (cells : List Bool)
  /-- HOST_BUS_TIMEOUT (R525). -/
  | hostBusTimeout
  /-- DTIME_FREEZE (R27). -/
  | dtimeFreeze
  /-- DTIME_RELEASE (R27). -/
  | dtimeRelease
  /-- EPOCH_APPLY_COMPLETE (R85). -/
  | epochApplyComplete
  /-- BANK_HEADERS_READ (R66). -/
  | bankHeadersRead
  /-- BANK_READ_DONE (R62). -/
  | bankReadDone
  /-- MAILBOX_REQUEST_COMPLETE (R75). -/
  | mailboxRequestComplete
  /-- LOAD_CHUNK (R76). -/
  | loadChunk
  /-- LOAD_END (R76). -/
  | loadEnd
  /-- FLASH_READ (R78). -/
  | flashRead
  /-- FLASH_CRC (R79). -/
  | flashCrc
  /-- RDS_ITEM_READ (R243). -/
  | rdsItemRead
  /-- DAB_DATABASE_READ (R277). -/
  | dabDatabaseRead
  /-- JOURNAL_HANDOVER (R135). -/
  | journalHandover
  /-- RELEASE_MGD (R152). -/
  | releaseMgd
  /-- SHED_STEP (R156). -/
  | shedStep
  /-- RESUME_STEP (R157). -/
  | resumeStep
  /-- DEVIATION_INTERVAL (R189). -/
  | deviationInterval
  /-- MEASUREMENT_PERIOD_END (R190). -/
  | measurementPeriodEnd
  /-- CLR_ACC (R193). -/
  | clrAcc
  /-- SCORING_INTERVAL (R286). -/
  | scoringInterval
  /-- LOUDNESS_UPDATE (R319). -/
  | loudnessUpdate
  /-- CLR_LOUD (R319). -/
  | clrLoud
  /-- REESTIMATE (R303). -/
  | reestimate
  /-- PACKET_FORMED (R350). -/
  | packetFormed
  /-- FSP_RDY_FALL (R329). -/
  | fspRdyFall
  /-- FSP_RDY_RISE (R331). -/
  | fspRdyRise
  /-- HEARTBEAT (R345). -/
  | heartbeat
  /-- FSP_PORT_RESTART (R356). -/
  | fspPortRestart
  /-- FSP_CLR_CNT (R357). -/
  | fspClrCnt
  /-- FSP_SENT_CAPTURE (R335). -/
  | fspSentCapture
  /-- RAIL_RETURN (R362). -/
  | railReturn
  /-- SPK_OVERCURRENT (R364). -/
  | spkOvercurrent
  /-- PVDD_UNDERVOLTAGE (R364). -/
  | pvddUndervoltage
  /-- SPK_RESTART (R364). -/
  | spkRestart
  /-- HP_OVERCURRENT (R365). -/
  | hpOvercurrent
  /-- SPEAKER_SEQUENCE_STEP (R368). -/
  | speakerSequenceStep
  /-- RECLASSIFY (R377). -/
  | reclassify
  /-- BUTTON_PRESS_PUBLISH (R382). -/
  | buttonPressPublish
  /-- EQ_LOAD (R398). -/
  | eqLoad
  /-- CLR_MTR (R406). -/
  | clrMtr
  /-- LEADER_LOOP_LOCK (R430). -/
  | leaderLoopLock
  /-- SPD_RX_LATCH (R433). -/
  | spdRxLatch
  /-- XO_LOSS (R438). -/
  | xoLoss
  /-- SPL_RELOCK (R443). -/
  | splRelock
  /-- APL_RELOCK (R443). -/
  | aplRelock
  /-- REFIN_EDGE_LOSS (R446). -/
  | refinEdgeLoss
  /-- PPS_MISSED (R447). -/
  | ppsMissed
  /-- DISC_RESTART (R450). -/
  | discRestart
  /-- RECAL (R471). -/
  | recal
  /-- FLUSH (R498). -/
  | flush
  /-- LSY_LOCK_TIMEOUT (R473). -/
  | lsyLockTimeout
  /-- FALSE_PREAMBLE (R475). -/
  | falsePreamble
  /-- ACK_SEND (R492). -/
  | ackSend
  /-- SITE_LINK_SEND (R497). -/
  | siteLinkSend
  /-- NEXT_REPORT (R498). -/
  | nextReport
  /-- GATEWAY_TABLE_READ (R495). -/
  | gatewayTableRead
  /-- TRANSMISSION_DUE (R496). -/
  | transmissionDue
  /-- EXT_PA_STEP (R482). -/
  | extPaStep
  /-- TX_END (R483). -/
  | txEnd
  /-- ACK_TIMEOUT (R493). -/
  | ackTimeout
  /-- BACKOFF_EXPIRY (R494). -/
  | backoffExpiry
  /-- CX_GRANT (R484). -/
  | cxGrant
  /-- CX_GRANT_TIMEOUT (R484). -/
  | cxGrantTimeout
  /-- CX_GRANT_WITHDRAWN (R485). -/
  | cxGrantWithdrawn
  /-- BLANKING_END (R49). -/
  | blankingEnd
  /-- LEDGER_BIN (R488). -/
  | ledgerBin
  /-- RTC_RELEASE (R503). -/
  | rtcRelease
  /-- RTC_HALT (R504). -/
  | rtcHalt
  /-- RTC_RESUME (R504). -/
  | rtcResume
  /-- OSF_CLEAR (R513). -/
  | osfClear
  /-- OSCILLATOR_STOP (R513). -/
  | oscillatorStop
  /-- TRIM_SPAN_END (R510). -/
  | trimSpanEnd
  /-- BROADCAST_TRIM_FIT (R511). -/
  | broadcastTrimFit
  /-- BACKUP_POR (R514). -/
  | backupPor
  /-- INBAND_REQUEST (R536). -/
  | inbandRequest
  /-- INBAND_RELEASE (R536). -/
  | inbandRelease
  /-- INBAND_HOLD_TIMEOUT (R538). -/
  | inbandHoldTimeout
  /-- BUS_CLEAR (R541). -/
  | busClear
  /-- STUCK_RETRY (R542). -/
  | stuckRetry
  /-- LOCAL_TRANSFER (R548). -/
  | localTransfer
  /-- ARBITRATION_LOST (R543). -/
  | arbitrationLost
  /-- SCRIPT_WAIT_END (R547). -/
  | scriptWaitEnd
  /-- POR (R555). -/
  | por
  /-- RESET_N_RELEASE (R553). -/
  | resetNRelease
  /-- SOFTWARE_RESET (R554). -/
  | softwareReset
  /-- THERMAL_RELEASE (R559). -/
  | thermalRelease
  /-- DOMAIN_HELD_RELEASE (R38). -/
  | domainHeldRelease
  /-- RECOVERY_RECORD (R583). -/
  | recoveryRecord
  /-- COUNTERS_PAIR (R587). -/
  | countersPair
  /-- MOULT_FLUSH (R591). -/
  | moultFlush
  /-- RD_OLDEST (R593). -/
  | rdOldest
  /-- RD_NEWEST (R593). -/
  | rdNewest
  /-- MON_SEQ_CAPTURE (R586). -/
  | monSeqCapture
  /-- PPS_OUT_END (R605). -/
  | ppsOutEnd
  /-- BASELINE_LOAD_DONE (R70). -/
  | baselineLoadDone
  /-- OSCILLATOR_START (R516). -/
  | oscillatorStart
deriving DecidableEq, Repr

end Sys2Proof
end

