-- ==== Sys2Proof/Decode.lean ====
section
/-!
DEFINITION. The command that a word spells by the bits of spec/opcode_table.json. The table gives none of its rows any bits: a command
arrives with its operands, and no word spells one.
-/
namespace Sys2Proof

/-- The rows to which the table gives bits: number of bits, word, command. There are none. -/
def tableRows : List (Nat × Nat × Instr) := []

/-- The command that the word `w` of `nbits` bits spells by the table. -/
def decodeTableWord (nbits w : Nat) : Option Instr := (tableRows.find? (fun r => r.1 == nbits && r.2.1 == w)).map (·.2.2)

end Sys2Proof
end

