-- ==== Sys2Proof/Config.lean ====
section
/-!
DEFINITION. The constants of the block and its free values: what the spec leaves open stands here as an opaque constant, so that
nothing can be proved about it.
-/
namespace Sys2Proof.Config

/-- SYS cycles in one device-time second (R23). -/
def sysPerSecond : Nat := 294912000

/-- SYS cycles in one millisecond. -/
def sysPerMs : Nat := 294912

/-- The silicon step of SYS_STEP (R3). -/
def step : Nat := 0x0B01

/-- FREE VALUE (log entry 10): the frequency correction of the discipline loop in LOCK after one update, in 0.01 ppm, before the
limits of R449: R450 gives the loop's response time and not its transfer function. Arguments: e − θ in ns, the present
correction, the code of TC. -/
opaque loopStep : Int → Int → Nat → Int

/-- FREE VALUE (log entry 11): the factory interleave correction of lane `m` of input `x` of this die: offset, gain, skew (R137). -/
opaque factory : Nat → Nat → Int × Int × Int

/-- FREE VALUE (log entry 11): the 32-bit fingerprint of this die's factory correction (R137). -/
opaque fprint : Nat

/-- FREE VALUE (log entry 12): the skew filter of R119: the sample at a position among the corrected samples of the last lane group and this
one, delayed by a time in fs, all in 2^−20 code. -/
opaque delayed : List Int → Nat → Int → Int

/-- FREE VALUE (log entry 12): the factory trim table of R100 in 0.01 dB: the attenuator entry of input and attenuation, and the LNA-mode entry of
the input. -/
opaque attTrim : Nat → Nat → Nat
opaque lnaTrim : Nat → Int

/-- FREE VALUE (log entry 13): fresh values for results that the spec leaves unstated, the logarithm of zero among them; the
argument is the state's `freeIdx`. -/
opaque free : Nat → Nat

/-- FREE VALUE (log entry 52): the response of a signal filter of which the spec gives bandwidths, corners or a standard, and no coefficients: from
its stage, its setting, what it remembers and its new samples, the samples at its output and what it remembers then. -/
opaque filter : Nat → Nat → List Int → List Int → List Int × List Int

/-- FREE VALUE (log entry 48): bit `k` of the logical frame that de-interleaving, depuncturing, Viterbi decoding and energy dispersal by EN 300 401
give (R264): from EEP or UEP, the table index or profile and level, the bit rate, and the bits of the subchannel in the 16 CIFs over which
the frame was spread, oldest first. The spec names the standard and gives none of its tables. -/
opaque msc : Bool → Nat → Nat → List (List Nat) → Nat → Bool

/-- FREE VALUE (log entry 56): sample `k` of a noise sequence at full level, in 2^−23 of full scale (R404): the spec gives its kind and level, not its
samples. -/
opaque noise : Nat → Nat → Int

/-- FREE VALUE (log entry 58): parity bit `k` of a codeword of R468 by its rate (true for 2/3) and its information bits: the spec names the codes by
their lengths and gives no parity-check matrix. -/
opaque parity : Bool → List Bool → Nat → Bool

/-- FREE VALUE (log entry 15): the steering of the leader loop after one more frame, in 0.1 ppm, before the limits of R430, which gives
the loop's bandwidth and not its transfer function. Arguments: fill in 1/16 frame, present steering, code of the bandwidth. -/
opaque leadStep : Nat → Int → Nat → Int

end Sys2Proof.Config
end

