-- ==== Sys2Proof/Machine/SMap.lean ====
section
/-!
DEFINITION. Sparse maps from a natural number (a register index, a memory address, an entry number) to a value, as plain
lists in one canonical form: keys strictly rising, and no entry equal to what an unlisted key reads as.
-/
namespace Sys2Proof.Machine

/-- A sparse map: the pairs whose value differs from the default, by rising key. -/
abbrev SMap (α : Type) := List (Nat × α)

/-- Read key `k`; an unlisted key reads as `dflt k`. -/
def smGet {α : Type} (dflt : Nat → α) : SMap α → Nat → α
  | [], k => dflt k
  | (a, v) :: t, k => if a = k then v else smGet dflt t k

/-- Return the keys that `p` selects to the default value. -/
def smDrop {α : Type} (p : Nat → Bool) : SMap α → SMap α
  | [] => []
  | (a, v) :: t => if p a then smDrop p t else (a, v) :: smDrop p t

/-- Put the entry of key `k` into its place, or replace it there. -/
def smIns {α : Type} : SMap α → Nat → α → SMap α
  | [], k, v => [(k, v)]
  | (a, w) :: t, k, v => if k < a then (k, v) :: (a, w) :: t else if k = a then (k, v) :: t else (a, w) :: smIns t k v

/-- Write `v` at key `k`, keeping the canonical form: a default value removes the entry. -/
def smSet {α : Type} [DecidableEq α] (dflt : Nat → α) (m : SMap α) (k : Nat) (v : α) : SMap α :=
  if v = dflt k then smDrop (· == k) m else smIns m k v

/-- The canonical form from key `lo` on. -/
def smWfFrom {α : Type} [DecidableEq α] (dflt : Nat → α) : Nat → SMap α → Bool
  | _, [] => true
  | lo, (a, v) :: t => decide (lo ≤ a) && (decide (v ≠ dflt a) && smWfFrom dflt (a + 1) t)

/-- The canonical form: keys strictly rising and no entry equal to the default. -/
def smWf {α : Type} [DecidableEq α] (dflt : Nat → α) (m : SMap α) : Bool := smWfFrom dflt 0 m

/-- Write the values `vs` at `k`, `k + 1`, and so on. -/
def smSetList {α : Type} [DecidableEq α] (dflt : Nat → α) : SMap α → Nat → List α → SMap α
  | m, _, [] => m
  | m, k, v :: vs => smSet dflt (smSetList dflt m (k + 1) vs) k v

/-- Read `n` values from key `k` on. -/
def smGetList {α : Type} (dflt : Nat → α) (m : SMap α) (k : Nat) : Nat → List α
  | 0 => []
  | n + 1 => smGet dflt m k :: smGetList dflt m (k + 1) n

/-- For the keys that `p` selects take `src`, for the others keep `m`: the merge of two rising lists. -/
def smTake {α : Type} [DecidableEq α] (dflt : Nat → α) (p : Nat → Bool) (m src : SMap α) : SMap α :=
  src.foldr (fun e acc => if p e.1 then smSet dflt acc e.1 e.2 else acc) (smDrop p m)

/-- The keys `lo ≤ k < lo + n` that satisfy `p`, in rising order. -/
def keysFrom (lo : Nat) (p : Nat → Bool) : Nat → List Nat
  | 0 => []
  | n + 1 => if p lo then lo :: keysFrom (lo + 1) p n else keysFrom (lo + 1) p n

end Sys2Proof.Machine
end

