-- ==== Sys2Proof/Machine/RegTable.lean ====
section
/-!
DEFINITION. The register map: one row per register or register array, written from the register descriptions of
spec/00 to spec/20 (indices by R4, access codes by R5, kinds by R633, block ranges by R632). A row's name stands in the
comment before it; the bits that no field covers are reserved and read 0 (R11).
-/
namespace Sys2Proof.Machine

/-- The access codes of R5. -/
inductive Acc | rw | rws | ro | w1c | wo
deriving DecidableEq, Repr

/-- The legal values of a field (R8): any, at most `hi`, a range, or a range in two's complement. -/
inductive Legal | any | max (hi : Nat) | range (lo hi : Nat) | srange (lo hi : Int)
deriving DecidableEq, Repr

/-- One field of a register: its bits, its access code and its legal values. -/
structure FieldDef where
  hi : Nat
  lo : Nat
  acc : Acc
  legal : Legal
deriving DecidableEq, Repr

/-- One register or array of registers: entry (i, j) lies at `base + s1 * i + s2 * j` (R4), for i below `n1` and j below
`n2`; `reset i j` is its reset word. -/
structure RegRow where
  base : Nat
  s1 : Nat
  n1 : Nat
  s2 : Nat
  n2 : Nat
  staged : Bool
  fields : List FieldDef
  reset : Nat → Nat → Nat

/-- Registers of the block at 0x0000 to 0x003F (R632). -/
def sysRows : List RegRow := [
  -- SYS_CHIP_ID (00)
  ⟨0x0000, 1, 1, 1, 1, false, [⟨15, 0, .ro, .any⟩], fun _ _ => 0x7360⟩,
  -- SYS_STEP (00)
  ⟨0x0001, 1, 1, 1, 1, false, [⟨15, 8, .ro, .any⟩, ⟨7, 0, .ro, .any⟩], fun _ _ => 0x0B01⟩,
  -- SYS_EPOCH_CTRL (02)
  ⟨0x0004, 1, 1, 1, 1, false, [⟨15, 8, .wo, .any⟩, ⟨1, 1, .wo, .any⟩, ⟨0, 0, .wo, .any⟩], fun _ _ => 0x0000⟩,
  -- SYS_EPOCH_NUM (02)
  ⟨0x0005, 1, 1, 1, 1, false, [⟨15, 0, .ro, .any⟩], fun _ _ => 0x0000⟩,
  -- SYS_EPOCH_STAT (02)
  ⟨0x0006, 1, 1, 1, 1, false, [⟨2, 2, .ro, .any⟩, ⟨1, 1, .ro, .any⟩, ⟨0, 0, .ro, .any⟩], fun _ _ => 0x0000⟩,
  -- SYS_RST (18)
  ⟨0x0008, 1, 1, 1, 1, false, [⟨15, 0, .wo, .any⟩], fun _ _ => 0x0000⟩,
  -- SYS_EVT (01)
  ⟨0x0010, 1, 1, 1, 1, false, [⟨15, 15, .ro, .any⟩, ⟨14, 14, .ro, .any⟩, ⟨13, 13, .ro, .any⟩, ⟨12, 12, .ro, .any⟩, ⟨11, 11, .ro, .any⟩, ⟨10, 10, .ro, .any⟩, ⟨9, 9, .ro, .any⟩, ⟨8, 8, .ro, .any⟩, ⟨7, 7, .ro, .any⟩, ⟨6, 6, .ro, .any⟩, ⟨5, 5, .ro, .any⟩, ⟨4, 4, .ro, .any⟩, ⟨3, 3, .ro, .any⟩, ⟨2, 2, .ro, .any⟩, ⟨1, 1, .ro, .any⟩, ⟨0, 0, .ro, .any⟩], fun _ _ => 0x0000⟩,
  -- SYS_EVT2 (01)
  ⟨0x0011, 1, 1, 1, 1, false, [⟨10, 10, .ro, .any⟩, ⟨9, 9, .ro, .any⟩, ⟨8, 8, .ro, .any⟩, ⟨7, 7, .ro, .any⟩, ⟨6, 6, .ro, .any⟩, ⟨5, 5, .ro, .any⟩, ⟨4, 4, .ro, .any⟩, ⟨3, 3, .ro, .any⟩, ⟨2, 2, .ro, .any⟩, ⟨1, 1, .ro, .any⟩, ⟨0, 0, .ro, .any⟩], fun _ _ => 0x0000⟩,
  -- SYS_EVM (01)
  ⟨0x0012, 1, 1, 1, 1, false, [⟨15, 0, .rw, .any⟩], fun _ _ => 0xFFFF⟩,
  -- SYS_EVM2 (01)
  ⟨0x0013, 1, 1, 1, 1, false, [⟨10, 0, .rw, .any⟩], fun _ _ => 0x07FF⟩,
  -- SYS_OWN_EVT (01)
  ⟨0x0014, 1, 1, 1, 1, false, [⟨2, 2, .w1c, .any⟩, ⟨1, 1, .w1c, .any⟩, ⟨0, 0, .w1c, .any⟩], fun _ _ => 0x0000⟩,
  -- SYS_OWN_EVM (01)
  ⟨0x0015, 1, 1, 1, 1, false, [⟨2, 0, .rw, .any⟩], fun _ _ => 0x0000⟩,
  -- SYS_DTIME_S1 (01)
  ⟨0x0020, 1, 1, 1, 1, false, [⟨15, 0, .ro, .any⟩], fun _ _ => 0x0000⟩,
  -- SYS_DTIME_S0 (01)
  ⟨0x0021, 1, 1, 1, 1, false, [⟨15, 0, .ro, .any⟩], fun _ _ => 0x0000⟩,
  -- SYS_DTIME_F1 (01)
  ⟨0x0022, 1, 1, 1, 1, false, [⟨15, 0, .ro, .any⟩], fun _ _ => 0x0000⟩,
  -- SYS_DTIME_F0 (01)
  ⟨0x0023, 1, 1, 1, 1, false, [⟨15, 0, .ro, .any⟩], fun _ _ => 0x0000⟩]

/-- Registers of the block at 0x0040 to 0x007F (R632). -/
def pwrRows : List RegRow := [
  -- PWR_DOM (18)
  ⟨0x0040, 1, 1, 1, 1, true, [⟨11, 10, .rws, .max 2⟩, ⟨9, 8, .rws, .max 2⟩, ⟨7, 6, .rws, .max 2⟩, ⟨5, 4, .rws, .max 2⟩, ⟨3, 2, .rws, .max 2⟩, ⟨1, 0, .rws, .max 2⟩], fun _ _ => 0x0AAA⟩,
  -- PWR_DOM_STAT (18)
  ⟨0x0041, 1, 1, 1, 1, false, [⟨11, 0, .ro, .any⟩], fun _ _ => 0x0000⟩,
  -- PWR_RST_CAUSE (18)
  ⟨0x0042, 1, 1, 1, 1, false, [⟨7, 0, .ro, .any⟩], fun _ _ => 0x0000⟩,
  -- PWR_BO_SRC (18)
  ⟨0x0043, 1, 1, 1, 1, false, [⟨7, 0, .ro, .any⟩], fun _ _ => 0x0000⟩,
  -- PWR_STAT (18)
  ⟨0x0044, 1, 1, 1, 1, false, [⟨15, 15, .ro, .any⟩, ⟨14, 14, .ro, .any⟩, ⟨9, 0, .ro, .any⟩], fun _ _ => 0x0000⟩,
  -- PWR_EVT (18)
  ⟨0x0048, 1, 1, 1, 1, false, [⟨2, 2, .w1c, .any⟩, ⟨1, 1, .w1c, .any⟩, ⟨0, 0, .w1c, .any⟩], fun _ _ => 0x0000⟩,
  -- PWR_EVM (18)
  ⟨0x0049, 1, 1, 1, 1, false, [⟨2, 0, .rw, .any⟩], fun _ _ => 0x0004⟩]

/-- Registers of the block at 0x0080 to 0x00BF (R632). -/
def bootRows : List RegRow := [
  -- BOOT_STAT (02)
  ⟨0x0080, 1, 1, 1, 1, false, [⟨15, 15, .ro, .any⟩, ⟨14, 14, .ro, .any⟩, ⟨13, 13, .ro, .any⟩, ⟨12, 12, .ro, .any⟩, ⟨11, 11, .ro, .any⟩, ⟨10, 10, .ro, .any⟩, ⟨9, 8, .ro, .any⟩, ⟨7, 6, .ro, .any⟩], fun _ _ => 0x00C0⟩,
  -- BOOT_MISMATCH (02)
  ⟨0x0081, 1, 1, 1, 1, false, [⟨6, 0, .ro, .any⟩], fun _ _ => 0x0000⟩,
  -- BOOT_SEQ_HI (02)
  ⟨0x0082, 1, 1, 1, 1, false, [⟨15, 0, .ro, .any⟩], fun _ _ => 0x0000⟩,
  -- BOOT_SEQ_LO (02)
  ⟨0x0083, 1, 1, 1, 1, false, [⟨15, 0, .ro, .any⟩], fun _ _ => 0x0000⟩,
  -- BOOT_A_RES (02)
  ⟨0x0084, 1, 1, 1, 1, false, [⟨14, 8, .ro, .any⟩, ⟨3, 0, .ro, .any⟩], fun _ _ => 0x000F⟩,
  -- BOOT_B_RES (02)
  ⟨0x0085, 1, 1, 1, 1, false, [⟨14, 8, .ro, .any⟩, ⟨3, 0, .ro, .any⟩], fun _ _ => 0x000F⟩,
  -- BOOT_H_RES (02)
  ⟨0x0086, 1, 1, 1, 1, false, [⟨14, 8, .ro, .any⟩, ⟨3, 0, .ro, .any⟩], fun _ _ => 0x000F⟩,
  -- BOOT_T_AUDIO (02)
  ⟨0x0087, 1, 1, 1, 1, false, [⟨15, 0, .ro, .any⟩], fun _ _ => 0x0000⟩,
  -- BOOT_SKIP (02)
  ⟨0x0088, 1, 1, 1, 1, false, [⟨15, 0, .ro, .any⟩], fun _ _ => 0x0000⟩,
  -- BOOT_EVT (02)
  ⟨0x0089, 1, 1, 1, 1, false, [⟨4, 4, .w1c, .any⟩, ⟨3, 3, .w1c, .any⟩, ⟨2, 2, .w1c, .any⟩, ⟨1, 1, .w1c, .any⟩, ⟨0, 0, .w1c, .any⟩], fun _ _ => 0x0000⟩,
  -- BOOT_EVM (02)
  ⟨0x008A, 1, 1, 1, 1, false, [⟨4, 0, .rw, .any⟩], fun _ _ => 0x001E⟩,
  -- BOOT_FW_VER (02)
  ⟨0x0090, 3, 7, 1, 1, false, [⟨15, 8, .ro, .any⟩, ⟨7, 0, .ro, .any⟩], fun _ _ => 0x0000⟩,
  -- BOOT_FW_BUILD (02)
  ⟨0x0091, 3, 7, 1, 1, false, [⟨15, 0, .ro, .any⟩], fun _ _ => 0x0000⟩,
  -- BOOT_FW_GEN (02)
  ⟨0x0092, 3, 7, 1, 1, false, [⟨15, 15, .ro, .any⟩, ⟨3, 0, .ro, .any⟩], fun _ _ => 0x8000⟩]

/-- Registers of the block at 0x00C0 to 0x00FF (R632). -/
def rtcRows : List RegRow := [
  -- RTC_SUB (16)
  ⟨0x00C0, 1, 1, 1, 1, false, [⟨7, 0, .ro, .any⟩], fun _ _ => 0x0000⟩,
  -- RTC_MS (16)
  ⟨0x00C1, 1, 1, 1, 1, false, [⟨13, 8, .rw, .max 59⟩, ⟨5, 0, .rw, .max 59⟩], fun _ _ => 0x0000⟩,
  -- RTC_HD (16)
  ⟨0x00C2, 1, 1, 1, 1, false, [⟨12, 8, .rw, .max 23⟩, ⟨4, 0, .rw, .range 1 31⟩], fun _ _ => 0x0001⟩,
  -- RTC_MW (16)
  ⟨0x00C3, 1, 1, 1, 1, false, [⟨10, 8, .ro, .any⟩, ⟨3, 0, .rw, .range 1 12⟩], fun _ _ => 0x0601⟩,
  -- RTC_YEAR (16)
  ⟨0x00C4, 1, 1, 1, 1, false, [⟨11, 0, .rw, .range 2000 2399⟩], fun _ _ => 0x07D0⟩,
  -- RTC_CTL (16)
  ⟨0x00C5, 1, 1, 1, 1, false, [⟨15, 15, .rw, .any⟩, ⟨14, 14, .ro, .any⟩, ⟨13, 13, .ro, .any⟩], fun _ _ => 0x0000⟩,
  -- RTC_STAT (16)
  ⟨0x00C6, 1, 1, 1, 1, false, [⟨15, 15, .w1c, .any⟩, ⟨14, 14, .ro, .any⟩, ⟨13, 13, .ro, .any⟩, ⟨12, 12, .ro, .any⟩, ⟨11, 11, .ro, .any⟩, ⟨10, 10, .ro, .any⟩], fun _ _ => 0x8000⟩,
  -- RTC_TRIM (16)
  ⟨0x00C7, 1, 1, 1, 1, false, [⟨15, 0, .rw, .srange (-32000) 32000⟩], fun _ _ => 0x0000⟩,
  -- RTC_TRIM_CFG (16)
  ⟨0x00C8, 1, 1, 1, 1, true, [⟨15, 14, .rws, .any⟩, ⟨11, 8, .rws, .range 1 15⟩], fun _ _ => 0x0300⟩,
  -- RTC_BOFS (16)
  ⟨0x00C9, 1, 1, 1, 1, false, [⟨15, 0, .ro, .any⟩], fun _ _ => 0x8000⟩,
  -- RTC_EVT (16)
  ⟨0x00CA, 1, 1, 1, 1, false, [⟨6, 6, .w1c, .any⟩, ⟨5, 5, .w1c, .any⟩, ⟨4, 4, .w1c, .any⟩, ⟨3, 3, .w1c, .any⟩, ⟨2, 2, .w1c, .any⟩, ⟨1, 1, .w1c, .any⟩, ⟨0, 0, .w1c, .any⟩], fun _ _ => 0x0000⟩,
  -- RTC_EVM (16)
  ⟨0x00CB, 1, 1, 1, 1, false, [⟨6, 0, .rw, .any⟩], fun _ _ => 0x006F⟩,
  -- RTC_ALM_MS (16)
  ⟨0x00CC, 2, 2, 1, 1, false, [⟨15, 15, .rw, .any⟩, ⟨13, 8, .rw, .max 59⟩, ⟨7, 7, .rw, .any⟩, ⟨5, 0, .rw, .max 59⟩], fun _ _ => 0x0000⟩,
  -- RTC_ALM_HD (16)
  ⟨0x00CD, 2, 2, 1, 1, false, [⟨15, 15, .rw, .any⟩, ⟨13, 13, .rw, .any⟩, ⟨12, 8, .rw, .max 23⟩, ⟨7, 7, .rw, .any⟩, ⟨4, 0, .rw, .range 1 31⟩], fun _ _ => 0x0001⟩,
  -- RTC_BRAM (16)
  ⟨0x00E0, 1, 32, 1, 1, false, [⟨15, 0, .rw, .any⟩], fun _ _ => 0x0000⟩]

/-- Registers of the block at 0x0100 to 0x013F (R632). -/
def hifRows : List RegRow := [
  -- HIF_CFG (17)
  ⟨0x0100, 1, 1, 1, 1, true, [⟨15, 15, .rws, .any⟩, ⟨14, 14, .rws, .any⟩, ⟨13, 13, .rws, .any⟩, ⟨12, 12, .rws, .any⟩], fun _ _ => 0x3000⟩,
  -- HIF_INB (17)
  ⟨0x0101, 1, 1, 1, 1, true, [⟨7, 0, .rws, .range 1 255⟩], fun _ _ => 0x0014⟩,
  -- HIF_STAT (17)
  ⟨0x0110, 1, 1, 1, 1, false, [⟨15, 15, .ro, .any⟩, ⟨14, 14, .ro, .any⟩, ⟨13, 13, .ro, .any⟩, ⟨8, 7, .ro, .any⟩, ⟨6, 0, .ro, .any⟩], fun _ _ => 0x0000⟩,
  -- HIF_PEC_ERR (17)
  ⟨0x0111, 1, 1, 1, 1, false, [⟨15, 0, .ro, .any⟩], fun _ _ => 0x0000⟩,
  -- HIF_TIMEOUT (17)
  ⟨0x0112, 1, 1, 1, 1, false, [⟨15, 0, .ro, .any⟩], fun _ _ => 0x0000⟩,
  -- HIF_MBX_CUT (17)
  ⟨0x0113, 1, 1, 1, 1, false, [⟨15, 0, .ro, .any⟩], fun _ _ => 0x0000⟩,
  -- HIF_ARA_WON (17)
  ⟨0x0114, 1, 1, 1, 1, false, [⟨15, 0, .ro, .any⟩], fun _ _ => 0x0000⟩,
  -- HIF_ARA_LOST (17)
  ⟨0x0115, 1, 1, 1, 1, false, [⟨15, 0, .ro, .any⟩], fun _ _ => 0x0000⟩,
  -- HIF_INB_REQ (17)
  ⟨0x0116, 1, 1, 1, 1, false, [⟨15, 0, .ro, .any⟩], fun _ _ => 0x0000⟩,
  -- HIF_INB_DEFER (17)
  ⟨0x0117, 1, 1, 1, 1, false, [⟨15, 0, .ro, .any⟩], fun _ _ => 0x0000⟩,
  -- HIF_INB_TMO (17)
  ⟨0x0118, 1, 1, 1, 1, false, [⟨15, 0, .ro, .any⟩], fun _ _ => 0x0000⟩,
  -- HIF_EVT (17)
  ⟨0x0120, 1, 1, 1, 1, false, [⟨3, 3, .w1c, .any⟩, ⟨2, 2, .w1c, .any⟩, ⟨1, 1, .w1c, .any⟩, ⟨0, 0, .w1c, .any⟩], fun _ _ => 0x0000⟩,
  -- HIF_EVM (17)
  ⟨0x0121, 1, 1, 1, 1, false, [⟨3, 0, .rw, .any⟩], fun _ _ => 0x0003⟩]

/-- Registers of the block at 0x0140 to 0x017F (R632). -/
def lifRows : List RegRow := [
  -- LIF_CFG (17)
  ⟨0x0140, 1, 1, 1, 1, true, [⟨15, 15, .rws, .any⟩, ⟨14, 14, .rws, .any⟩], fun _ _ => 0x8000⟩,
  -- LIF_TMO (17)
  ⟨0x0141, 1, 1, 1, 1, true, [⟨7, 0, .rws, .range 1 255⟩], fun _ _ => 0x0019⟩,
  -- LIF_RETRY (17)
  ⟨0x0142, 1, 1, 1, 1, true, [⟨3, 0, .rws, .any⟩], fun _ _ => 0x0003⟩,
  -- LIF_CMD (17)
  ⟨0x0143, 1, 1, 1, 1, false, [⟨8, 8, .wo, .any⟩, ⟨7, 7, .wo, .any⟩, ⟨3, 0, .wo, .any⟩], fun _ _ => 0x0000⟩,
  -- LIF_STAT (17)
  ⟨0x0148, 1, 1, 1, 1, false, [⟨15, 14, .ro, .any⟩, ⟨13, 13, .ro, .any⟩, ⟨12, 9, .ro, .any⟩, ⟨8, 8, .ro, .any⟩, ⟨4, 0, .ro, .any⟩], fun _ _ => 0x0000⟩,
  -- LIF_XFER (17)
  ⟨0x0149, 1, 1, 1, 1, false, [⟨15, 0, .ro, .any⟩], fun _ _ => 0x0000⟩,
  -- LIF_FAIL (17)
  ⟨0x014A, 1, 1, 1, 1, false, [⟨15, 0, .ro, .any⟩], fun _ _ => 0x0000⟩,
  -- LIF_ARB_LOST (17)
  ⟨0x014B, 1, 1, 1, 1, false, [⟨15, 0, .ro, .any⟩], fun _ _ => 0x0000⟩,
  -- LIF_NACK (17)
  ⟨0x014C, 1, 1, 1, 1, false, [⟨15, 0, .ro, .any⟩], fun _ _ => 0x0000⟩,
  -- LIF_TIMEOUT (17)
  ⟨0x014D, 1, 1, 1, 1, false, [⟨15, 0, .ro, .any⟩], fun _ _ => 0x0000⟩,
  -- LIF_CLEARS (17)
  ⟨0x014E, 1, 1, 1, 1, false, [⟨15, 0, .ro, .any⟩], fun _ _ => 0x0000⟩,
  -- LIF_EVT (17)
  ⟨0x0150, 1, 1, 1, 1, false, [⟨3, 3, .w1c, .any⟩, ⟨2, 2, .w1c, .any⟩, ⟨1, 1, .w1c, .any⟩, ⟨0, 0, .w1c, .any⟩], fun _ _ => 0x0000⟩,
  -- LIF_EVM (17)
  ⟨0x0151, 1, 1, 1, 1, false, [⟨3, 0, .rw, .any⟩], fun _ _ => 0x000E⟩,
  -- LIF_SCR (17)
  ⟨0x0160, 1, 16, 1, 1, false, [⟨15, 12, .ro, .any⟩, ⟨11, 0, .ro, .any⟩], fun _ _ => 0xF000⟩,
  -- LIF_RES (17)
  ⟨0x0170, 1, 16, 1, 1, false, [⟨15, 0, .ro, .any⟩], fun _ _ => 0x0000⟩]

/-- Registers of the block at 0x0180 to 0x01BF (R632). -/
def tmpRows : List RegRow := [
  -- TMP_CFG (18)
  ⟨0x0180, 1, 1, 1, 1, true, [⟨15, 8, .rws, .range 85 135⟩, ⟨7, 0, .rws, .range 120 140⟩], fun _ _ => 0x738C⟩,
  -- TMP_T (18)
  ⟨0x0184, 1, 4, 1, 1, false, [⟨15, 0, .ro, .any⟩], fun _ _ => 0x8000⟩,
  -- TMP_MAX (18)
  ⟨0x0188, 1, 1, 1, 1, false, [⟨15, 0, .ro, .any⟩], fun _ _ => 0x8000⟩,
  -- TMP_PEAK (18)
  ⟨0x0189, 1, 1, 1, 1, false, [⟨15, 0, .ro, .any⟩], fun _ _ => 0x8000⟩,
  -- TMP_STAT (18)
  ⟨0x018A, 1, 1, 1, 1, false, [⟨15, 15, .ro, .any⟩, ⟨14, 14, .ro, .any⟩, ⟨13, 13, .ro, .any⟩, ⟨3, 0, .ro, .any⟩], fun _ _ => 0x0000⟩,
  -- TMP_EVT (18)
  ⟨0x0190, 1, 1, 1, 1, false, [⟨4, 4, .w1c, .any⟩, ⟨3, 3, .w1c, .any⟩, ⟨2, 2, .w1c, .any⟩, ⟨1, 1, .w1c, .any⟩, ⟨0, 0, .w1c, .any⟩], fun _ _ => 0x0000⟩,
  -- TMP_EVM (18)
  ⟨0x0191, 1, 1, 1, 1, false, [⟨4, 0, .rw, .any⟩], fun _ _ => 0x001D⟩]

/-- Registers of the block at 0x01C0 to 0x01FF (R632). -/
def monRows : List RegRow := [
  -- MON_CFG (19)
  ⟨0x01C0, 1, 1, 1, 1, true, [⟨15, 8, .rws, .range 10 255⟩, ⟨0, 0, .rws, .any⟩], fun _ _ => 0x3C01⟩,
  -- MON_CMD (19)
  ⟨0x01C1, 1, 1, 1, 1, false, [⟨2, 2, .wo, .any⟩, ⟨1, 1, .wo, .any⟩, ⟨0, 0, .wo, .any⟩], fun _ _ => 0x0000⟩,
  -- MON_RD_SEQ_HI (19)
  ⟨0x01C2, 1, 1, 1, 1, false, [⟨15, 0, .rw, .any⟩], fun _ _ => 0x0000⟩,
  -- MON_RD_SEQ_LO (19)
  ⟨0x01C3, 1, 1, 1, 1, false, [⟨15, 0, .rw, .any⟩], fun _ _ => 0x0000⟩,
  -- MON_STAT (19)
  ⟨0x01C4, 1, 1, 1, 1, false, [⟨15, 15, .ro, .any⟩, ⟨14, 14, .ro, .any⟩, ⟨13, 13, .ro, .any⟩, ⟨12, 12, .ro, .any⟩, ⟨11, 11, .ro, .any⟩], fun _ _ => 0x0000⟩,
  -- MON_LOG_POS (19)
  ⟨0x01C5, 1, 1, 1, 1, false, [⟨11, 0, .ro, .any⟩], fun _ _ => 0x0000⟩,
  -- MON_SEQ_HI (19)
  ⟨0x01C6, 1, 1, 1, 1, false, [⟨15, 0, .ro, .any⟩], fun _ _ => 0x0000⟩,
  -- MON_SEQ_LO (19)
  ⟨0x01C7, 1, 1, 1, 1, false, [⟨15, 0, .ro, .any⟩], fun _ _ => 0x0000⟩,
  -- MON_EVT (19)
  ⟨0x01C8, 1, 1, 1, 1, false, [⟨6, 6, .w1c, .any⟩, ⟨5, 5, .w1c, .any⟩, ⟨4, 4, .w1c, .any⟩, ⟨3, 3, .w1c, .any⟩, ⟨2, 2, .w1c, .any⟩, ⟨1, 1, .w1c, .any⟩, ⟨0, 0, .w1c, .any⟩], fun _ _ => 0x0000⟩,
  -- MON_EVM (19)
  ⟨0x01C9, 1, 1, 1, 1, false, [⟨6, 0, .rw, .any⟩], fun _ _ => 0x005F⟩,
  -- MON_ECC_CORR (19)
  ⟨0x01D0, 1, 5, 1, 1, false, [⟨15, 0, .ro, .any⟩], fun _ _ => 0x0000⟩,
  -- MON_ECC_UNC (19)
  ⟨0x01D5, 1, 5, 1, 1, false, [⟨15, 0, .ro, .any⟩], fun _ _ => 0x0000⟩,
  -- MON_PARITY (19)
  ⟨0x01DA, 1, 1, 1, 1, false, [⟨15, 0, .ro, .any⟩], fun _ _ => 0x0000⟩,
  -- MON_SCRUB (19)
  ⟨0x01DB, 1, 1, 1, 1, false, [⟨15, 0, .ro, .any⟩], fun _ _ => 0x0000⟩,
  -- MON_RECOV (19)
  ⟨0x01E0, 1, 8, 1, 1, false, [⟨15, 0, .ro, .any⟩], fun _ _ => 0x0000⟩,
  -- MON_WDG (19)
  ⟨0x01E8, 1, 12, 1, 1, false, [⟨15, 0, .ro, .any⟩], fun _ _ => 0x0000⟩,
  -- MON_LOST_MS (19)
  ⟨0x01F4, 1, 1, 1, 1, false, [⟨15, 0, .ro, .any⟩], fun _ _ => 0x0000⟩]

/-- Registers of the block at 0x0200 to 0x02BF (R632), part 1. -/
def clkRows1 : List RegRow := [
  -- CLK_SPL_CFG (14)
  ⟨0x0200, 1, 1, 1, 1, true, [⟨9, 8, .rws, .any⟩, ⟨2, 0, .rws, .max 4⟩], fun _ _ => 0x0102⟩,
  -- CLK_SPL_LOCK (14)
  ⟨0x0201, 1, 1, 1, 1, true, [⟨15, 12, .rws, .range 1 15⟩, ⟨11, 8, .rws, .max 8⟩, ⟨7, 4, .rws, .range 1 15⟩, ⟨3, 0, .rws, .range 1 15⟩], fun _ _ => 0x2442⟩,
  -- CLK_SPL_TRIM (14)
  ⟨0x0202, 1, 1, 1, 1, true, [⟨15, 0, .rws, .srange (-20000) 20000⟩], fun _ _ => 0x0000⟩,
  -- CLK_APL_CFG (14)
  ⟨0x0203, 1, 1, 1, 1, true, [⟨1, 1, .rws, .any⟩, ⟨0, 0, .rws, .any⟩], fun _ _ => 0x0002⟩,
  -- CLK_APL_LOCK (14)
  ⟨0x0204, 1, 1, 1, 1, true, [⟨15, 12, .rws, .range 1 15⟩, ⟨11, 8, .rws, .max 8⟩, ⟨7, 4, .rws, .range 1 15⟩, ⟨3, 0, .rws, .range 1 15⟩], fun _ _ => 0x2442⟩,
  -- CLK_REF_CFG (14)
  ⟨0x0205, 1, 1, 1, 1, true, [⟨15, 8, .rws, .range 1 200⟩, ⟨2, 0, .rws, .max 5⟩], fun _ _ => 0x6400⟩,
  -- CLK_PPS_CFG (14)
  ⟨0x0206, 1, 1, 1, 1, true, [⟨15, 15, .rws, .any⟩, ⟨11, 8, .rws, .range 1 15⟩, ⟨7, 0, .rws, .range 1 255⟩], fun _ _ => 0x0214⟩,
  -- CLK_DISC (14)
  ⟨0x0207, 1, 1, 1, 1, true, [⟨15, 14, .rws, .any⟩, ⟨12, 12, .rws, .any⟩, ⟨11, 8, .rws, .max 9⟩], fun _ _ => 0x0600⟩,
  -- CLK_DISC2 (14)
  ⟨0x0208, 1, 1, 1, 1, true, [⟨15, 8, .rws, .range 1 100⟩, ⟨7, 0, .rws, .range 1 255⟩], fun _ _ => 0x0A04⟩,
  -- CLK_CMD (14)
  ⟨0x0209, 1, 1, 1, 1, false, [⟨2, 2, .wo, .any⟩, ⟨1, 1, .wo, .any⟩, ⟨0, 0, .wo, .any⟩], fun _ _ => 0x0000⟩,
  -- CLK_STAT (14)
  ⟨0x0210, 1, 1, 1, 1, false, [⟨15, 14, .ro, .any⟩, ⟨13, 12, .ro, .any⟩, ⟨11, 11, .ro, .any⟩, ⟨10, 10, .ro, .any⟩, ⟨9, 8, .ro, .any⟩, ⟨7, 7, .ro, .any⟩, ⟨6, 6, .ro, .any⟩, ⟨5, 5, .ro, .any⟩], fun _ _ => 0x0000⟩,
  -- CLK_BAND (14)
  ⟨0x0211, 1, 1, 1, 1, false, [⟨13, 8, .ro, .any⟩, ⟨4, 0, .ro, .any⟩], fun _ _ => 0x0000⟩,
  -- CLK_DISC_PPM (14)
  ⟨0x0212, 1, 1, 1, 1, false, [⟨15, 0, .ro, .any⟩], fun _ _ => 0x0000⟩,
  -- CLK_APL_PPM (14)
  ⟨0x0213, 1, 1, 1, 1, false, [⟨15, 0, .ro, .any⟩], fun _ _ => 0x0000⟩,
  -- CLK_PHASE_HI (14)
  ⟨0x0214, 1, 1, 1, 1, false, [⟨15, 0, .ro, .any⟩], fun _ _ => 0x0000⟩,
  -- CLK_PHASE_LO (14)
  ⟨0x0215, 1, 1, 1, 1, false, [⟨15, 0, .ro, .any⟩], fun _ _ => 0x0000⟩,
  -- CLK_THETA_HI (14)
  ⟨0x0216, 1, 1, 1, 1, false, [⟨15, 0, .ro, .any⟩], fun _ _ => 0x0000⟩,
  -- CLK_THETA_LO (14)
  ⟨0x0217, 1, 1, 1, 1, false, [⟨15, 0, .ro, .any⟩], fun _ _ => 0x0000⟩,
  -- CLK_REF_MEAS (14)
  ⟨0x0218, 1, 1, 1, 1, false, [⟨15, 0, .ro, .any⟩], fun _ _ => 0x8000⟩,
  -- CLK_SPL_UNLOCKS (14)
  ⟨0x0219, 1, 1, 1, 1, false, [⟨15, 0, .ro, .any⟩], fun _ _ => 0x0000⟩,
  -- CLK_APL_UNLOCKS (14)
  ⟨0x021A, 1, 1, 1, 1, false, [⟨15, 0, .ro, .any⟩], fun _ _ => 0x0000⟩,
  -- CLK_REF_LOSSES (14)
  ⟨0x021B, 1, 1, 1, 1, false, [⟨15, 0, .ro, .any⟩], fun _ _ => 0x0000⟩,
  -- CLK_PPS_LOSSES (14)
  ⟨0x021C, 1, 1, 1, 1, false, [⟨15, 0, .ro, .any⟩], fun _ _ => 0x0000⟩,
  -- CLK_JUMPS (14)
  ⟨0x021D, 1, 1, 1, 1, false, [⟨15, 0, .ro, .any⟩], fun _ _ => 0x0000⟩,
  -- CLK_EVT (14)
  ⟨0x0220, 1, 1, 1, 1, false, [⟨14, 14, .w1c, .any⟩, ⟨13, 13, .w1c, .any⟩, ⟨12, 12, .w1c, .any⟩, ⟨11, 11, .w1c, .any⟩, ⟨10, 10, .w1c, .any⟩, ⟨9, 9, .w1c, .any⟩, ⟨8, 8, .w1c, .any⟩, ⟨7, 7, .w1c, .any⟩, ⟨6, 6, .w1c, .any⟩, ⟨5, 5, .w1c, .any⟩, ⟨4, 4, .w1c, .any⟩, ⟨3, 3, .w1c, .any⟩, ⟨2, 2, .w1c, .any⟩, ⟨1, 1, .w1c, .any⟩, ⟨0, 0, .w1c, .any⟩], fun _ _ => 0x0000⟩]

/-- Registers of the block at 0x0200 to 0x02BF (R632), part 2. -/
def clkRows2 : List RegRow := [
  -- CLK_EVM (14)
  ⟨0x0221, 1, 1, 1, 1, false, [⟨14, 0, .rw, .any⟩], fun _ _ => 0x5AB6⟩,
  -- CLK_SPL_BAND (14)
  ⟨0x0240, 1, 64, 1, 1, true, [⟨11, 0, .rws, .range 800 4000⟩], fun b _ => 825 + 50 * b⟩,
  -- CLK_APL_BAND (14)
  ⟨0x0280, 1, 32, 1, 1, true, [⟨11, 0, .rws, .range 600 2200⟩], fun b _ => 625 + 50 * b⟩,
  -- CLKOUT_CFG (14)
  ⟨0x02A0, 4, 4, 1, 1, true, [⟨15, 15, .rws, .any⟩, ⟨14, 14, .rws, .any⟩, ⟨13, 13, .rws, .any⟩, ⟨7, 0, .rws, .any⟩], fun _ _ => 0x0000⟩,
  -- CLKOUT_DIV (14)
  ⟨0x02A1, 4, 4, 1, 1, true, [⟨12, 0, .rws, .range 2 4096⟩], fun _ _ => 0x0078⟩,
  -- CLKOUT_FINE (14)
  ⟨0x02A2, 4, 4, 1, 1, false, [⟨15, 15, .ro, .any⟩, ⟨5, 0, .rw, .any⟩], fun _ _ => 0x0000⟩,
  -- CLKOUT_STAT (14)
  ⟨0x02A3, 4, 4, 1, 1, false, [⟨15, 14, .ro, .any⟩, ⟨13, 13, .ro, .any⟩, ⟨5, 0, .ro, .any⟩], fun _ _ => 0x0000⟩]

/-- Registers of the block at 0x0200 to 0x02BF (R632). -/
def clkRows : List RegRow := clkRows1 ++ clkRows2

/-- Registers of the block at 0x02C0 to 0x02FF (R632). -/
def gpioRows : List RegRow := [
  -- GPIO_CFG (20)
  ⟨0x02C0, 1, 12, 1, 1, true, [⟨15, 13, .rws, .max 3⟩, ⟨12, 12, .rws, .any⟩, ⟨11, 10, .rws, .max 2⟩, ⟨9, 9, .rws, .any⟩, ⟨7, 6, .rws, .any⟩, ⟨5, 0, .rws, .max 27⟩], fun _ _ => 0x0400⟩,
  -- GPIO_OUT (20)
  ⟨0x02D0, 1, 1, 1, 1, false, [⟨11, 0, .rw, .any⟩], fun _ _ => 0x0000⟩,
  -- GPIO_IN (20)
  ⟨0x02D1, 1, 1, 1, 1, false, [⟨11, 0, .ro, .any⟩], fun _ _ => 0x0000⟩,
  -- GPIO_EVT (20)
  ⟨0x02D2, 1, 1, 1, 1, false, [⟨11, 0, .w1c, .any⟩], fun _ _ => 0x0000⟩,
  -- GPIO_EVM (20)
  ⟨0x02D3, 1, 1, 1, 1, false, [⟨11, 0, .rw, .any⟩], fun _ _ => 0x0000⟩]

/-- Registers of the block at 0x0300 to 0x037F (R632). -/
def afeRows : List RegRow := [
  -- AFE_CFG (03)
  ⟨0x0300, 64, 2, 1, 1, true, [⟨9, 8, .rws, .max 2⟩, ⟨4, 4, .rws, .any⟩, ⟨0, 0, .rws, .any⟩], fun _ _ => 0x0000⟩,
  -- AFE_ATT_MAN (03)
  ⟨0x0301, 64, 2, 1, 1, true, [⟨4, 0, .rws, .any⟩], fun _ _ => 0x0000⟩,
  -- AFE_ATT_LIM (03)
  ⟨0x0302, 64, 2, 1, 1, true, [⟨12, 8, .rws, .any⟩, ⟨4, 0, .rws, .any⟩], fun _ _ => 0x1F00⟩,
  -- AFE_WGC_TH (03)
  ⟨0x0303, 64, 2, 1, 1, true, [⟨15, 8, .rws, .range 1 20⟩, ⟨7, 0, .rws, .range 4 40⟩], fun _ _ => 0x0612⟩,
  -- AFE_WGC_TIME (03)
  ⟨0x0304, 64, 2, 1, 1, true, [⟨15, 8, .rws, .range 1 255⟩, ⟨7, 0, .rws, .range 1 255⟩], fun _ _ => 0x3232⟩,
  -- AFE_OVL_CFG (03)
  ⟨0x0305, 64, 2, 1, 1, true, [⟨12, 8, .rws, .range 1 31⟩, ⟨7, 0, .rws, .range 1 255⟩], fun _ _ => 0x0604⟩,
  -- AFE_ANT_GAIN (03)
  ⟨0x0306, 64, 2, 1, 1, true, [⟨15, 0, .rws, .srange (-400) 600⟩], fun _ _ => 0x0000⟩,
  -- AFE_PH_CFG (03)
  ⟨0x0307, 64, 2, 1, 1, true, [⟨15, 15, .rws, .any⟩, ⟨14, 14, .rws, .any⟩, ⟨5, 0, .rws, .range 1 63⟩], fun _ _ => 0x4005⟩,
  -- AFE_PH_TIME (03)
  ⟨0x0308, 64, 2, 1, 1, true, [⟨15, 8, .rws, .any⟩, ⟨7, 4, .rws, .range 1 15⟩], fun _ _ => 0x0A40⟩,
  -- AFE_PH_TH (03)
  ⟨0x0309, 64, 2, 1, 1, true, [⟨15, 8, .rws, .max 225⟩, ⟨7, 0, .rws, .max 225⟩], fun _ _ => 0x9605⟩,
  -- AFE_CMD (03)
  ⟨0x030A, 64, 2, 1, 1, false, [⟨1, 1, .wo, .any⟩, ⟨0, 0, .wo, .any⟩], fun _ _ => 0x0000⟩,
  -- AFE_STAT (03)
  ⟨0x0310, 64, 2, 1, 1, false, [⟨15, 15, .ro, .any⟩, ⟨14, 12, .ro, .any⟩, ⟨8, 8, .ro, .any⟩, ⟨4, 0, .ro, .any⟩], fun _ _ => 0x001F⟩,
  -- AFE_PEAK (03)
  ⟨0x0311, 64, 2, 1, 1, false, [⟨15, 0, .ro, .any⟩], fun _ _ => 0x0000⟩,
  -- AFE_POWER (03)
  ⟨0x0312, 64, 2, 1, 1, false, [⟨15, 0, .ro, .any⟩], fun _ _ => 0x0000⟩,
  -- AFE_SNS (03)
  ⟨0x0313, 64, 2, 1, 1, false, [⟨10, 0, .ro, .any⟩], fun _ _ => 0x0000⟩,
  -- AFE_OVL_SEC (03)
  ⟨0x0314, 64, 2, 1, 1, false, [⟨15, 0, .ro, .any⟩], fun _ _ => 0x0000⟩,
  -- AFE_OVL_BLANK (03)
  ⟨0x0315, 64, 2, 1, 1, false, [⟨15, 0, .ro, .any⟩], fun _ _ => 0x0000⟩,
  -- AFE_ATT_STEPS (03)
  ⟨0x0316, 64, 2, 1, 1, false, [⟨15, 0, .ro, .any⟩], fun _ _ => 0x0000⟩,
  -- AFE_PH_TRIPS (03)
  ⟨0x0317, 64, 2, 1, 1, false, [⟨15, 0, .ro, .any⟩], fun _ _ => 0x0000⟩,
  -- AFE_EVT (03)
  ⟨0x0318, 64, 2, 1, 1, false, [⟨5, 5, .w1c, .any⟩, ⟨4, 4, .w1c, .any⟩, ⟨3, 3, .w1c, .any⟩, ⟨2, 2, .w1c, .any⟩, ⟨1, 1, .w1c, .any⟩, ⟨0, 0, .w1c, .any⟩], fun _ _ => 0x0000⟩,
  -- AFE_EVM (03)
  ⟨0x0319, 64, 2, 1, 1, false, [⟨5, 0, .rw, .any⟩], fun _ _ => 0x000E⟩]

/-- Registers of the block at 0x0380 to 0x03BF (R632), part 1. -/
def bicRows1 : List RegRow := [
  -- BIC_CFG (04)
  ⟨0x0380, 1, 1, 1, 1, true, [⟨12, 8, .rws, .range 16 24⟩, ⟨5, 4, .rws, .max 2⟩, ⟨1, 1, .rws, .any⟩, ⟨0, 0, .rws, .any⟩], fun _ _ => 0x1603⟩,
  -- BIC_TOL (04)
  ⟨0x0381, 1, 1, 1, 1, true, [⟨15, 8, .rws, .range 1 255⟩, ⟨7, 0, .rws, .range 1 255⟩], fun _ _ => 0x0410⟩,
  -- BIC_TOL2 (04)
  ⟨0x0382, 1, 1, 1, 1, true, [⟨15, 8, .rws, .range 1 255⟩, ⟨7, 0, .rws, .range 40 120⟩], fun _ _ => 0x145A⟩,
  -- BIC_PRE (04)
  ⟨0x0383, 1, 1, 1, 1, true, [⟨15, 8, .rws, .range 10 80⟩, ⟨7, 0, .rws, .range 1 255⟩], fun _ _ => 0x2D10⟩,
  -- BIC_PRE2 (04)
  ⟨0x0384, 1, 1, 1, 1, true, [⟨7, 0, .rws, .any⟩], fun _ _ => 0x0000⟩,
  -- BIC_REF (04)
  ⟨0x0385, 1, 1, 1, 1, true, [⟨15, 8, .rws, .range 1 255⟩, ⟨5, 0, .rws, .max 40⟩], fun _ _ => 0x1900⟩,
  -- BIC_JNL (04)
  ⟨0x0386, 1, 1, 1, 1, true, [⟨7, 0, .rws, .any⟩], fun _ _ => 0x000A⟩,
  -- BIC_CMD (04)
  ⟨0x0387, 1, 1, 1, 1, false, [⟨3, 3, .wo, .any⟩, ⟨2, 2, .wo, .any⟩, ⟨1, 1, .wo, .any⟩, ⟨0, 0, .wo, .any⟩], fun _ _ => 0x0000⟩,
  -- BIC_EVT (04)
  ⟨0x0388, 1, 1, 1, 1, false, [⟨8, 8, .w1c, .any⟩, ⟨7, 7, .w1c, .any⟩, ⟨6, 6, .w1c, .any⟩, ⟨5, 5, .w1c, .any⟩, ⟨4, 4, .w1c, .any⟩, ⟨3, 3, .w1c, .any⟩, ⟨2, 2, .w1c, .any⟩, ⟨1, 1, .w1c, .any⟩, ⟨0, 0, .w1c, .any⟩], fun _ _ => 0x0000⟩,
  -- BIC_EVM (04)
  ⟨0x0389, 1, 1, 1, 1, false, [⟨8, 0, .rw, .any⟩], fun _ _ => 0x013C⟩,
  -- BIC_JNL_STAT (04)
  ⟨0x038A, 1, 1, 1, 1, false, [⟨15, 15, .ro, .any⟩, ⟨14, 14, .ro, .any⟩, ⟨8, 0, .ro, .any⟩], fun _ _ => 0x0000⟩,
  -- BICX_STAT (04)
  ⟨0x0390, 16, 2, 1, 1, false, [⟨11, 8, .ro, .any⟩, ⟨5, 4, .ro, .any⟩, ⟨2, 0, .ro, .any⟩], fun _ _ => 0x0000⟩,
  -- BICX_WINDOWS (04)
  ⟨0x0391, 16, 2, 1, 1, false, [⟨15, 0, .ro, .any⟩], fun _ _ => 0x0000⟩,
  -- BICX_COMMITS (04)
  ⟨0x0392, 16, 2, 1, 1, false, [⟨15, 0, .ro, .any⟩], fun _ _ => 0x0000⟩,
  -- BICX_NO_CHANGE (04)
  ⟨0x0393, 16, 2, 1, 1, false, [⟨15, 0, .ro, .any⟩], fun _ _ => 0x0000⟩,
  -- BICX_REJ_PRE (04)
  ⟨0x0394, 16, 2, 1, 1, false, [⟨15, 0, .ro, .any⟩], fun _ _ => 0x0000⟩,
  -- BICX_REJ_AGREE (04)
  ⟨0x0395, 16, 2, 1, 1, false, [⟨15, 0, .ro, .any⟩], fun _ _ => 0x0000⟩,
  -- BICX_REJ_RANGE (04)
  ⟨0x0396, 16, 2, 1, 1, false, [⟨15, 0, .ro, .any⟩], fun _ _ => 0x0000⟩,
  -- BICX_REVERT (04)
  ⟨0x0397, 16, 2, 1, 1, false, [⟨15, 0, .ro, .any⟩], fun _ _ => 0x0000⟩,
  -- BICX_TMO (04)
  ⟨0x0398, 16, 2, 1, 1, false, [⟨15, 0, .ro, .any⟩], fun _ _ => 0x0000⟩,
  -- BICX_LAST_S_HI (04)
  ⟨0x0399, 16, 2, 1, 1, false, [⟨15, 0, .ro, .any⟩], fun _ _ => 0x0000⟩,
  -- BICX_LAST_S_LO (04)
  ⟨0x039A, 16, 2, 1, 1, false, [⟨15, 0, .ro, .any⟩], fun _ _ => 0x0000⟩,
  -- BICX_IMG (04)
  ⟨0x039B, 16, 2, 1, 1, false, [⟨15, 0, .ro, .any⟩], fun _ _ => 0x0000⟩,
  -- BICX_OFS (04)
  ⟨0x039C, 16, 2, 1, 1, false, [⟨15, 0, .ro, .any⟩], fun _ _ => 0x0000⟩,
  -- BICX_FLAT (04)
  ⟨0x039D, 16, 2, 1, 1, false, [⟨7, 0, .ro, .any⟩], fun _ _ => 0x0000⟩]

/-- Registers of the block at 0x0380 to 0x03BF (R632), part 2. -/
def bicRows2 : List RegRow := [
  -- BIC_CORR_SEL (04)
  ⟨0x03B0, 1, 1, 1, 1, false, [⟨8, 8, .rw, .any⟩, ⟨2, 0, .rw, .any⟩], fun _ _ => 0x0000⟩,
  -- BIC_CORR_OFS (04)
  ⟨0x03B1, 1, 1, 1, 1, false, [⟨15, 0, .ro, .any⟩], fun _ _ => 0x0000⟩,
  -- BIC_CORR_GAIN (04)
  ⟨0x03B2, 1, 1, 1, 1, false, [⟨15, 0, .ro, .any⟩], fun _ _ => 0x0000⟩,
  -- BIC_CORR_SKEW (04)
  ⟨0x03B3, 1, 1, 1, 1, false, [⟨15, 0, .ro, .any⟩], fun _ _ => 0x0000⟩]

/-- Registers of the block at 0x0380 to 0x03BF (R632). -/
def bicRows : List RegRow := bicRows1 ++ bicRows2

/-- Registers of the block at 0x03C0 to 0x03FF (R632). -/
def scnRows : List RegRow := [
  -- SCN_CFG (05)
  ⟨0x03C0, 1, 1, 1, 1, true, [⟨15, 8, .rws, .range 1 255⟩, ⟨2, 2, .rws, .any⟩, ⟨1, 1, .rws, .any⟩, ⟨0, 0, .rws, .any⟩], fun _ _ => 0x4003⟩,
  -- SCN_PERIOD (05)
  ⟨0x03C1, 1, 1, 1, 1, true, [⟨7, 0, .rws, .range 1 255⟩], fun _ _ => 0x0001⟩,
  -- SCN_STAT_A (05)
  ⟨0x03C2, 1, 1, 1, 1, false, [⟨15, 15, .ro, .any⟩, ⟨14, 14, .ro, .any⟩, ⟨13, 13, .ro, .any⟩, ⟨7, 0, .ro, .any⟩], fun _ _ => 0x0000⟩,
  -- SCN_STAT_B (05)
  ⟨0x03C3, 1, 1, 1, 1, false, [⟨15, 15, .ro, .any⟩, ⟨14, 14, .ro, .any⟩, ⟨13, 13, .ro, .any⟩, ⟨7, 0, .ro, .any⟩], fun _ _ => 0x0000⟩,
  -- SCN_CNT_A (05)
  ⟨0x03C4, 1, 1, 1, 1, false, [⟨15, 0, .ro, .any⟩], fun _ _ => 0x0000⟩,
  -- SCN_CNT_B (05)
  ⟨0x03C5, 1, 1, 1, 1, false, [⟨15, 0, .ro, .any⟩], fun _ _ => 0x0000⟩,
  -- SCN_EVT (05)
  ⟨0x03C6, 1, 1, 1, 1, false, [⟨3, 3, .w1c, .any⟩, ⟨2, 2, .w1c, .any⟩, ⟨1, 1, .w1c, .any⟩, ⟨0, 0, .w1c, .any⟩], fun _ _ => 0x0000⟩,
  -- SCN_EVM (05)
  ⟨0x03C7, 1, 1, 1, 1, false, [⟨3, 0, .rw, .any⟩], fun _ _ => 0x0000⟩,
  -- SCN_WIN_SEL (05)
  ⟨0x03C8, 1, 1, 1, 1, false, [⟨15, 15, .rw, .any⟩, ⟨8, 0, .rw, .any⟩], fun _ _ => 0x0000⟩,
  -- SCN_WIN_SEQ (05)
  ⟨0x03C9, 1, 1, 1, 1, false, [⟨15, 0, .ro, .any⟩], fun _ _ => 0x0000⟩,
  -- SCN_WIN (05)
  ⟨0x03E0, 1, 32, 1, 1, false, [⟨15, 0, .ro, .any⟩], fun _ _ => 0xB1E0⟩]

/-- Registers of the block at 0x0400 to 0x047F (R632), part 1. -/
def chnRows1 : List RegRow := [
  -- CHN_SEG (05)
  ⟨0x0400, 1, 1, 1, 1, true, [⟨4, 4, .rws, .any⟩, ⟨3, 3, .rws, .any⟩, ⟨2, 2, .rws, .any⟩, ⟨1, 1, .rws, .any⟩, ⟨0, 0, .rws, .any⟩], fun _ _ => 0x001F⟩,
  -- CHN_MGD_FM (05)
  ⟨0x0401, 1, 1, 1, 1, true, [⟨8, 0, .rws, .max 256⟩], fun _ _ => 0x0040⟩,
  -- CHN_MGD_AD (05)
  ⟨0x0402, 1, 1, 1, 1, true, [⟨15, 8, .rws, .max 160⟩, ⟨5, 0, .rws, .max 41⟩], fun _ _ => 0x1029⟩,
  -- CHN_MGD_TIME (05)
  ⟨0x0403, 1, 1, 1, 1, true, [⟨7, 0, .rws, .range 1 255⟩], fun _ _ => 0x000A⟩,
  -- CHN_SHED (05)
  ⟨0x0404, 1, 1, 1, 1, true, [⟨11, 8, .rws, .range 1 15⟩, ⟨2, 0, .rws, .max 4⟩], fun _ _ => 0x0504⟩,
  -- CHN_SHED_TIME (05)
  ⟨0x0405, 1, 1, 1, 1, true, [⟨15, 8, .rws, .range 1 255⟩, ⟨7, 0, .rws, .range 1 255⟩], fun _ _ => 0x1E32⟩,
  -- CHN_CMD (05)
  ⟨0x0406, 1, 1, 1, 1, false, [⟨0, 0, .wo, .any⟩], fun _ _ => 0x0000⟩,
  -- CHN_FM_LIM (06)
  ⟨0x0407, 1, 1, 1, 1, true, [⟨15, 8, .rws, .max 150⟩, ⟨7, 0, .rws, .any⟩], fun _ _ => 0x4B00⟩,
  -- CHN_FM_PERIOD (06)
  ⟨0x0408, 1, 1, 1, 1, true, [⟨15, 0, .rws, .range 10 36000⟩], fun _ _ => 0x0384⟩,
  -- CHN_FM_MQ (06)
  ⟨0x0409, 1, 1, 1, 1, true, [⟨15, 8, .rws, .any⟩, ⟨7, 0, .rws, .max 60⟩], fun _ _ => 0x141A⟩,
  -- CHN_FM_DIV (06)
  ⟨0x040A, 1, 1, 1, 1, true, [⟨15, 8, .rws, .max 40⟩, ⟨5, 4, .rws, .any⟩, ⟨3, 3, .rws, .any⟩], fun _ _ => 0x0800⟩,
  -- CHN_AM_CFG (06)
  ⟨0x040B, 1, 1, 1, 1, true, [⟨15, 8, .rws, .any⟩, ⟨7, 7, .rws, .any⟩, ⟨5, 0, .rws, .any⟩], fun _ _ => 0x000A⟩,
  -- CHN_AM_NB (06)
  ⟨0x040C, 1, 1, 1, 1, true, [⟨15, 8, .rws, .range 6 40⟩, ⟨4, 0, .rws, .range 1 25⟩], fun _ _ => 0x0C0A⟩,
  -- CHN_AM_MOD (06)
  ⟨0x040D, 1, 1, 1, 1, true, [⟨7, 0, .rws, .range 50 150⟩], fun _ _ => 0x0064⟩,
  -- CHN_MEAS_CMD (06)
  ⟨0x040E, 1, 1, 1, 1, false, [⟨0, 0, .wo, .any⟩], fun _ _ => 0x0000⟩,
  -- CHN_N_FM (05)
  ⟨0x0410, 1, 1, 1, 1, false, [⟨8, 0, .ro, .any⟩], fun _ _ => 0x0000⟩,
  -- CHN_N_AM (05)
  ⟨0x0411, 1, 1, 1, 1, false, [⟨8, 0, .ro, .any⟩], fun _ _ => 0x0000⟩,
  -- CHN_N_DBE (05)
  ⟨0x0412, 1, 1, 1, 1, false, [⟨8, 0, .ro, .any⟩], fun _ _ => 0x0000⟩,
  -- CHN_N_IQ (05)
  ⟨0x0413, 1, 1, 1, 1, false, [⟨8, 0, .ro, .any⟩], fun _ _ => 0x0000⟩,
  -- CHN_N_MGD (05)
  ⟨0x0414, 1, 1, 1, 1, false, [⟨8, 0, .ro, .any⟩], fun _ _ => 0x0000⟩,
  -- CHN_N_SHED (05)
  ⟨0x0415, 1, 1, 1, 1, false, [⟨8, 0, .ro, .any⟩], fun _ _ => 0x0000⟩,
  -- CHN_MGD_GRANT (05)
  ⟨0x0418, 1, 1, 1, 1, false, [⟨15, 0, .ro, .any⟩], fun _ _ => 0x0000⟩,
  -- CHN_MGD_REFUSED (05)
  ⟨0x0419, 1, 1, 1, 1, false, [⟨15, 0, .ro, .any⟩], fun _ _ => 0x0000⟩,
  -- CHN_MGD_PREEMPT (05)
  ⟨0x041A, 1, 1, 1, 1, false, [⟨15, 0, .ro, .any⟩], fun _ _ => 0x0000⟩,
  -- CHN_SHED_STEPS (05)
  ⟨0x041B, 1, 1, 1, 1, false, [⟨15, 0, .ro, .any⟩], fun _ _ => 0x0000⟩]

/-- Registers of the block at 0x0400 to 0x047F (R632), part 2. -/
def chnRows2 : List RegRow := [
  -- CHN_RESUMES (05)
  ⟨0x041C, 1, 1, 1, 1, false, [⟨15, 0, .ro, .any⟩], fun _ _ => 0x0000⟩,
  -- CHN_FLAG_NEXT (06)
  ⟨0x041D, 1, 1, 1, 1, false, [⟨15, 15, .ro, .any⟩, ⟨13, 12, .ro, .any⟩, ⟨8, 0, .ro, .any⟩], fun _ _ => 0x0000⟩,
  -- CHN_FLAG_CTX (06)
  ⟨0x041E, 1, 1, 1, 1, false, [⟨13, 12, .rw, .max 1⟩, ⟨8, 0, .rw, .max 255⟩], fun _ _ => 0x0000⟩,
  -- CHN_FLAG (06)
  ⟨0x041F, 1, 1, 1, 1, false, [⟨7, 0, .w1c, .any⟩], fun _ _ => 0x0000⟩,
  -- CHN_EVT (05)
  ⟨0x0420, 1, 1, 1, 1, false, [⟨15, 15, .w1c, .any⟩, ⟨14, 14, .w1c, .any⟩, ⟨13, 13, .w1c, .any⟩, ⟨12, 12, .w1c, .any⟩, ⟨11, 11, .w1c, .any⟩, ⟨10, 10, .w1c, .any⟩, ⟨9, 9, .w1c, .any⟩, ⟨8, 8, .w1c, .any⟩, ⟨5, 5, .w1c, .any⟩, ⟨4, 4, .w1c, .any⟩, ⟨3, 3, .w1c, .any⟩, ⟨2, 2, .w1c, .any⟩, ⟨1, 1, .w1c, .any⟩, ⟨0, 0, .w1c, .any⟩], fun _ _ => 0x0000⟩,
  -- CHN_EVM (05)
  ⟨0x0421, 1, 1, 1, 1, false, [⟨15, 8, .rw, .any⟩, ⟨5, 0, .rw, .any⟩], fun _ _ => 0x003C⟩,
  -- CHN_RDS_CFG (07)
  ⟨0x0422, 1, 1, 1, 1, true, [⟨15, 13, .rws, .max 5⟩, ⟨12, 11, .rws, .max 2⟩, ⟨5, 0, .rws, .range 1 50⟩], fun _ _ => 0xA82D⟩,
  -- CHN_RDS_CFG2 (07)
  ⟨0x0423, 1, 1, 1, 1, true, [⟨15, 8, .rws, .range 1 255⟩, ⟨7, 7, .rws, .any⟩], fun _ _ => 0x0500⟩,
  -- CHN_RDS_CT (07)
  ⟨0x0424, 1, 1, 1, 1, true, [⟨15, 15, .rws, .any⟩, ⟨8, 0, .rws, .max 255⟩], fun _ _ => 0x0000⟩,
  -- CHN_RDS_EVT (07)
  ⟨0x0425, 1, 1, 1, 1, false, [⟨7, 0, .w1c, .any⟩], fun _ _ => 0x0000⟩,
  -- CHN_RDS_EVM (07)
  ⟨0x0426, 1, 1, 1, 1, false, [⟨7, 0, .rw, .any⟩], fun _ _ => 0x0000⟩,
  -- CHN_RDS_NEXT (07)
  ⟨0x0427, 1, 1, 1, 1, false, [⟨15, 15, .ro, .any⟩, ⟨8, 0, .ro, .any⟩], fun _ _ => 0x0000⟩,
  -- CHN_VIEW_SEL (05)
  ⟨0x0428, 1, 1, 1, 1, false, [⟨13, 12, .rw, .any⟩, ⟨8, 0, .rw, .max 255⟩], fun _ _ => 0x0000⟩,
  -- CHN_VIEW_FREQ (05)
  ⟨0x0429, 1, 1, 1, 1, false, [⟨15, 0, .ro, .any⟩], fun _ _ => 0x0000⟩,
  -- CHN_VIEW_CTL (05)
  ⟨0x042A, 1, 1, 1, 1, false, [⟨15, 13, .ro, .any⟩, ⟨12, 12, .ro, .any⟩, ⟨11, 10, .ro, .any⟩, ⟨9, 8, .ro, .any⟩, ⟨7, 7, .ro, .any⟩, ⟨6, 0, .ro, .any⟩], fun _ _ => 0x0000⟩,
  -- CHN_VIEW_FHI (05)
  ⟨0x042B, 1, 1, 1, 1, false, [⟨1, 0, .ro, .any⟩], fun _ _ => 0x0000⟩,
  -- FMP_BLEND (06)
  ⟨0x042C, 3, 4, 1, 1, true, [⟨15, 8, .rws, .range 1 63⟩, ⟨7, 0, .rws, .max 62⟩], fun _ _ => 0x1E0F⟩,
  -- FMP_HICUT (06)
  ⟨0x042D, 3, 4, 1, 1, true, [⟨15, 8, .rws, .range 1 63⟩, ⟨7, 0, .rws, .max 62⟩], fun _ _ => 0x180C⟩,
  -- FMP_MUTE (06)
  ⟨0x042E, 3, 4, 1, 1, true, [⟨15, 12, .rws, .any⟩, ⟨11, 8, .rws, .any⟩, ⟨7, 0, .rws, .max 63⟩], fun _ _ => 0x640C⟩,
  -- CHN_RDS_FCTX (07)
  ⟨0x0438, 1, 1, 1, 1, false, [⟨8, 0, .rw, .max 255⟩], fun _ _ => 0x0000⟩,
  -- CHN_RDS_FLAG (07)
  ⟨0x0439, 1, 1, 1, 1, false, [⟨7, 0, .w1c, .any⟩], fun _ _ => 0x0000⟩,
  -- CHN_RDS_GSEL (07)
  ⟨0x043A, 1, 1, 1, 1, false, [⟨8, 0, .rw, .max 255⟩], fun _ _ => 0x0000⟩,
  -- CHN_RDS_GINF (07)
  ⟨0x043B, 1, 1, 1, 1, false, [⟨15, 15, .ro, .any⟩, ⟨14, 14, .ro, .any⟩, ⟨13, 13, .ro, .any⟩, ⟨12, 8, .ro, .any⟩, ⟨7, 0, .ro, .any⟩], fun _ _ => 0x0000⟩,
  -- CHN_RDS_GBLK (07)
  ⟨0x043C, 1, 4, 1, 1, false, [⟨15, 0, .ro, .any⟩], fun _ _ => 0x0000⟩,
  -- CHN_IQ_CTL (05)
  ⟨0x0440, 4, 8, 1, 1, true, [⟨15, 15, .rws, .any⟩, ⟨13, 12, .rws, .any⟩, ⟨11, 10, .rws, .max 1⟩], fun _ _ => 0x1000⟩]

/-- Registers of the block at 0x0400 to 0x047F (R632), part 3. -/
def chnRows3 : List RegRow := [
  -- CHN_IQ_FREQ (05)
  ⟨0x0441, 4, 8, 1, 1, true, [⟨15, 0, .rws, .any⟩], fun _ _ => 0x3A98⟩,
  -- CHN_IQ_STAT (05)
  ⟨0x0442, 4, 8, 1, 1, false, [⟨15, 13, .ro, .any⟩, ⟨12, 12, .ro, .any⟩, ⟨11, 11, .ro, .any⟩, ⟨10, 10, .ro, .any⟩, ⟨9, 9, .ro, .any⟩], fun _ _ => 0x0000⟩,
  -- CHN_IQ_CFG (05)
  ⟨0x0443, 4, 8, 1, 1, true, [⟨10, 8, .rws, .max 6⟩, ⟨1, 0, .rws, .any⟩], fun _ _ => 0x0000⟩,
  -- CHN_MEAS_SEL (06)
  ⟨0x0460, 1, 1, 1, 1, false, [⟨15, 15, .rw, .any⟩, ⟨14, 12, .rw, .any⟩, ⟨8, 0, .rw, .max 255⟩], fun _ _ => 0x0000⟩,
  -- CHN_MEAS_HDR (06)
  ⟨0x0461, 1, 1, 1, 1, false, [⟨15, 15, .ro, .any⟩, ⟨14, 12, .ro, .any⟩], fun _ _ => 0x0000⟩,
  -- CHN_MEAS (06)
  ⟨0x0462, 1, 30, 1, 1, false, [⟨15, 0, .ro, .any⟩], fun _ _ => 0x8000⟩]

/-- Registers of the block at 0x0400 to 0x047F (R632). -/
def chnRows : List RegRow := chnRows1 ++ chnRows2 ++ chnRows3

/-- Registers of the block at 0x0480 to 0x04FF (R632). -/
def dabRows : List RegRow := [
  -- DAB_CFG (08)
  ⟨0x0480, 1, 1, 1, 1, true, [⟨15, 8, .rws, .range 1 255⟩], fun _ _ => 0x0A00⟩,
  -- DAB_MGD (08)
  ⟨0x0481, 1, 1, 1, 1, true, [⟨5, 0, .rws, .max 48⟩], fun _ _ => 0x0020⟩,
  -- DAB_CT (08)
  ⟨0x0482, 1, 1, 1, 1, true, [⟨15, 15, .rws, .any⟩, ⟨5, 0, .rws, .max 40⟩], fun _ _ => 0x0000⟩,
  -- DAB_CU_USED (08)
  ⟨0x0484, 1, 1, 1, 1, false, [⟨11, 0, .ro, .any⟩], fun _ _ => 0x0000⟩,
  -- DAB_N_SUB (08)
  ⟨0x0485, 1, 1, 1, 1, false, [⟨11, 0, .ro, .any⟩], fun _ _ => 0x0000⟩,
  -- DAB_N_PCM (08)
  ⟨0x0486, 1, 1, 1, 1, false, [⟨11, 0, .ro, .any⟩], fun _ _ => 0x0000⟩,
  -- DAB_N_LOCK (08)
  ⟨0x0487, 1, 1, 1, 1, false, [⟨11, 0, .ro, .any⟩], fun _ _ => 0x0000⟩,
  -- DAB_REFUSED (08)
  ⟨0x0488, 1, 1, 1, 1, false, [⟨15, 0, .ro, .any⟩], fun _ _ => 0x0000⟩,
  -- DAB_PREEMPT (08)
  ⟨0x0489, 1, 1, 1, 1, false, [⟨15, 0, .ro, .any⟩], fun _ _ => 0x0000⟩,
  -- DAB_SYNC_LOSS (08)
  ⟨0x048A, 1, 1, 1, 1, false, [⟨15, 0, .ro, .any⟩], fun _ _ => 0x0000⟩,
  -- DAB_RECONF (08)
  ⟨0x048B, 1, 1, 1, 1, false, [⟨15, 0, .ro, .any⟩], fun _ _ => 0x0000⟩,
  -- DAB_DB_OVF (08)
  ⟨0x048C, 1, 1, 1, 1, false, [⟨15, 0, .ro, .any⟩], fun _ _ => 0x0000⟩,
  -- DAB_EVT (08)
  ⟨0x0490, 1, 1, 1, 1, false, [⟨15, 8, .w1c, .any⟩, ⟨7, 0, .w1c, .any⟩], fun _ _ => 0x0000⟩,
  -- DAB_EVM (08)
  ⟨0x0491, 1, 1, 1, 1, false, [⟨15, 0, .rw, .any⟩], fun _ _ => 0x0203⟩,
  -- DAB_FLAG_NEXT (08)
  ⟨0x0492, 1, 1, 1, 1, false, [⟨15, 15, .ro, .any⟩, ⟨13, 12, .ro, .any⟩, ⟨5, 0, .ro, .any⟩], fun _ _ => 0x0000⟩,
  -- DAB_FLAG_CTX (08)
  ⟨0x0493, 1, 1, 1, 1, false, [⟨13, 12, .rw, .max 1⟩, ⟨5, 0, .rw, .any⟩], fun _ _ => 0x0000⟩,
  -- DAB_FLAG (08)
  ⟨0x0494, 1, 1, 1, 1, false, [⟨7, 0, .w1c, .any⟩], fun _ _ => 0x0000⟩]

/-- Registers of the block at 0x0500 to 0x057F (R632), part 1. -/
def prgRows1 : List RegRow := [
  -- PRG_SCORE_FM (09)
  ⟨0x0500, 1, 1, 1, 1, true, [⟨15, 8, .rws, .range 1 80⟩, ⟨7, 0, .rws, .max 79⟩], fun _ _ => 0x280A⟩,
  -- PRG_SCORE_AM (09)
  ⟨0x0501, 1, 1, 1, 1, true, [⟨15, 8, .rws, .range 1 80⟩, ⟨7, 0, .rws, .max 79⟩], fun _ _ => 0x280A⟩,
  -- PRG_SCORE_DAB (09)
  ⟨0x0502, 1, 1, 1, 1, true, [⟨15, 8, .rws, .range 1 80⟩, ⟨7, 0, .rws, .max 79⟩], fun _ _ => 0x1E0A⟩,
  -- PRG_USABLE (09)
  ⟨0x0503, 1, 1, 1, 1, true, [⟨9, 0, .rws, .range 1 1000⟩], fun _ _ => 0x0190⟩,
  -- PRG_DISC (09)
  ⟨0x0504, 1, 1, 1, 1, true, [⟨15, 8, .rws, .any⟩, ⟨7, 0, .rws, .range 1 255⟩], fun _ _ => 0x1414⟩,
  -- PRG_EST (09)
  ⟨0x0505, 1, 1, 1, 1, true, [⟨15, 8, .rws, .range 26 255⟩, ⟨7, 0, .rws, .range 5 255⟩], fun _ _ => 0x9A1E⟩,
  -- PRG_ALIGN (09)
  ⟨0x0506, 1, 1, 1, 1, true, [⟨15, 15, .rws, .any⟩, ⟨14, 8, .rws, .range 1 127⟩, ⟨7, 0, .rws, .range 1 50⟩], fun _ _ => 0xBC14⟩,
  -- PRG_XF (09)
  ⟨0x0507, 1, 1, 1, 1, true, [⟨15, 8, .rws, .range 2 20⟩, ⟨7, 0, .rws, .any⟩], fun _ _ => 0x050A⟩,
  -- PRG_SIL (09)
  ⟨0x0508, 1, 1, 1, 1, true, [⟨15, 8, .rws, .range 30 90⟩, ⟨7, 0, .rws, .range 1 255⟩], fun _ _ => 0x3C0A⟩,
  -- PRG_REF (09)
  ⟨0x0509, 1, 1, 1, 1, true, [⟨15, 8, .rws, .range 1 237⟩, ⟨7, 0, .rws, .range 1 255⟩], fun _ _ => 0x960A⟩,
  -- PRG_CMD (09)
  ⟨0x050A, 1, 1, 1, 1, false, [⟨1, 1, .wo, .any⟩, ⟨0, 0, .wo, .any⟩], fun _ _ => 0x0000⟩,
  -- PRG_PAGES_FREE (09)
  ⟨0x0510, 1, 1, 1, 1, false, [⟨7, 0, .ro, .any⟩], fun _ _ => 0x0080⟩,
  -- PRG_N_ALIGNED (09)
  ⟨0x0511, 1, 1, 1, 1, false, [⟨7, 0, .ro, .any⟩], fun _ _ => 0x0000⟩,
  -- PRG_N_REF (09)
  ⟨0x0512, 1, 1, 1, 1, false, [⟨7, 0, .ro, .any⟩], fun _ _ => 0x0000⟩,
  -- PRG_SWITCHES (09)
  ⟨0x0518, 1, 1, 1, 1, false, [⟨15, 0, .ro, .any⟩], fun _ _ => 0x0000⟩,
  -- PRG_UNALIGNED (09)
  ⟨0x0519, 1, 1, 1, 1, false, [⟨15, 0, .ro, .any⟩], fun _ _ => 0x0000⟩,
  -- PRG_PAGE_REFUSED (09)
  ⟨0x051A, 1, 1, 1, 1, false, [⟨15, 0, .ro, .any⟩], fun _ _ => 0x0000⟩,
  -- PRG_EST_FAIL (09)
  ⟨0x051B, 1, 1, 1, 1, false, [⟨15, 0, .ro, .any⟩], fun _ _ => 0x0000⟩,
  -- PRG_MISMATCH (09)
  ⟨0x051C, 1, 1, 1, 1, false, [⟨15, 0, .ro, .any⟩], fun _ _ => 0x0000⟩,
  -- PRG_REQUESTS (09)
  ⟨0x051D, 1, 1, 1, 1, false, [⟨15, 0, .ro, .any⟩], fun _ _ => 0x0000⟩,
  -- PRG_EVT (09)
  ⟨0x0520, 1, 1, 1, 1, false, [⟨7, 0, .w1c, .any⟩], fun _ _ => 0x0000⟩,
  -- PRG_EVM (09)
  ⟨0x0521, 1, 1, 1, 1, false, [⟨7, 0, .rw, .any⟩], fun _ _ => 0x0014⟩,
  -- PRG_FLAG_NEXT (09)
  ⟨0x0522, 1, 1, 1, 1, false, [⟨15, 15, .ro, .any⟩, ⟨6, 0, .ro, .any⟩], fun _ _ => 0x0000⟩,
  -- PRG_FLAG_CTX (09)
  ⟨0x0523, 1, 1, 1, 1, false, [⟨6, 0, .rw, .any⟩], fun _ _ => 0x0000⟩,
  -- PRG_FLAG (09)
  ⟨0x0524, 1, 1, 1, 1, false, [⟨7, 0, .w1c, .any⟩], fun _ _ => 0x0000⟩]

/-- Registers of the block at 0x0500 to 0x057F (R632), part 2. -/
def prgRows2 : List RegRow := [
  -- PRG_MEAS_SEL (09)
  ⟨0x0540, 1, 1, 1, 1, false, [⟨15, 14, .rw, .max 2⟩, ⟨6, 0, .rw, .any⟩], fun _ _ => 0x0000⟩,
  -- PRG_MEAS_HDR (09)
  ⟨0x0541, 1, 1, 1, 1, false, [⟨15, 15, .ro, .any⟩], fun _ _ => 0x0000⟩,
  -- PRG_MEAS (09)
  ⟨0x0542, 1, 30, 1, 1, false, [⟨15, 0, .ro, .any⟩], fun _ _ => 0x8000⟩]

/-- Registers of the block at 0x0500 to 0x057F (R632). -/
def prgRows : List RegRow := prgRows1 ++ prgRows2

/-- Registers of the block at 0x0580 to 0x05BF (R632). -/
def fspRows : List RegRow := [
  -- FSP_CFG (10)
  ⟨0x0580, 1, 1, 1, 1, true, [⟨15, 15, .rws, .any⟩, ⟨9, 8, .rws, .any⟩, ⟨4, 4, .rws, .any⟩], fun _ _ => 0x0000⟩,
  -- FSP_SRC (10)
  ⟨0x0581, 1, 1, 1, 1, true, [⟨15, 8, .rws, .any⟩, ⟨4, 4, .rws, .any⟩, ⟨3, 3, .rws, .any⟩, ⟨2, 2, .rws, .any⟩, ⟨1, 1, .rws, .any⟩, ⟨0, 0, .rws, .any⟩], fun _ _ => 0x0A0C⟩,
  -- FSP_STALL_TH (10)
  ⟨0x0582, 1, 1, 1, 1, true, [⟨7, 0, .rws, .range 1 255⟩], fun _ _ => 0x000A⟩,
  -- FSP_WM (10)
  ⟨0x0583, 1, 6, 1, 1, true, [⟨8, 0, .rws, .range 1 496⟩], fun c _ => [448, 480, 464, 384, 416, 496].getD c 0⟩,
  -- FSP_MAP_SEL (10)
  ⟨0x0589, 1, 1, 1, 1, false, [⟨2, 0, .rw, .any⟩], fun _ _ => 0x0000⟩,
  -- FSP_CMD (10)
  ⟨0x058A, 1, 1, 1, 1, false, [⟨0, 0, .wo, .any⟩], fun _ _ => 0x0000⟩,
  -- FSP_MAP (10)
  ⟨0x0590, 1, 16, 1, 1, true, [⟨15, 0, .rws, .any⟩], fun _ _ => 0x0000⟩,
  -- FSP_STAT (10)
  ⟨0x05A0, 1, 1, 1, 1, false, [⟨15, 15, .ro, .any⟩, ⟨14, 14, .ro, .any⟩, ⟨13, 13, .ro, .any⟩, ⟨12, 12, .ro, .any⟩], fun _ _ => 0x0000⟩,
  -- FSP_FILL (10)
  ⟨0x05A1, 1, 1, 1, 1, false, [⟨15, 0, .ro, .any⟩], fun _ _ => 0x0000⟩,
  -- FSP_FILL_PEAK (10)
  ⟨0x05A2, 1, 1, 1, 1, false, [⟨15, 0, .ro, .any⟩], fun _ _ => 0x0000⟩,
  -- FSP_C0_FILL (10)
  ⟨0x05A3, 1, 1, 1, 1, false, [⟨15, 0, .ro, .any⟩], fun _ _ => 0x0000⟩,
  -- FSP_STALL_MAX (10)
  ⟨0x05A4, 1, 1, 1, 1, false, [⟨15, 0, .ro, .any⟩], fun _ _ => 0x0000⟩,
  -- FSP_STALLS (10)
  ⟨0x05A5, 1, 1, 1, 1, false, [⟨15, 0, .ro, .any⟩], fun _ _ => 0x0000⟩,
  -- FSP_C0_DEFER (10)
  ⟨0x05A6, 1, 1, 1, 1, false, [⟨15, 0, .ro, .any⟩], fun _ _ => 0x0000⟩,
  -- FSP_POISON (10)
  ⟨0x05A7, 1, 1, 1, 1, false, [⟨15, 0, .ro, .any⟩], fun _ _ => 0x0000⟩,
  -- FSP_DROP_CLS (10)
  ⟨0x05A8, 1, 6, 1, 1, false, [⟨15, 0, .ro, .any⟩], fun _ _ => 0x0000⟩,
  -- FSP_SENT_HI (10)
  ⟨0x05AE, 1, 1, 1, 1, false, [⟨15, 0, .ro, .any⟩], fun _ _ => 0x0000⟩,
  -- FSP_SENT_LO (10)
  ⟨0x05AF, 1, 1, 1, 1, false, [⟨15, 0, .ro, .any⟩], fun _ _ => 0x0000⟩,
  -- FSP_DROP_SEL (10)
  ⟨0x05B0, 1, 1, 1, 1, false, [⟨15, 12, .rw, .range 1 6⟩, ⟨11, 0, .rw, .any⟩], fun _ _ => 0x1000⟩,
  -- FSP_DROP_HI (10)
  ⟨0x05B1, 1, 1, 1, 1, false, [⟨15, 0, .ro, .any⟩], fun _ _ => 0x0000⟩,
  -- FSP_DROP_LO (10)
  ⟨0x05B2, 1, 1, 1, 1, false, [⟨15, 0, .ro, .any⟩], fun _ _ => 0x0000⟩,
  -- FSP_EVT (10)
  ⟨0x05B8, 1, 1, 1, 1, false, [⟨4, 4, .w1c, .any⟩, ⟨3, 3, .w1c, .any⟩, ⟨2, 2, .w1c, .any⟩, ⟨1, 1, .w1c, .any⟩, ⟨0, 0, .w1c, .any⟩], fun _ _ => 0x0000⟩,
  -- FSP_EVM (10)
  ⟨0x05B9, 1, 1, 1, 1, false, [⟨4, 0, .rw, .any⟩], fun _ _ => 0x001A⟩]

/-- Registers of the block at 0x0600 to 0x067F (R632). -/
def codRows : List RegRow := [
  -- COD_PWR (11)
  ⟨0x0600, 1, 1, 1, 1, true, [⟨15, 15, .rws, .any⟩, ⟨14, 14, .rws, .any⟩, ⟨13, 13, .rws, .any⟩, ⟨12, 12, .rws, .any⟩, ⟨7, 4, .rws, .any⟩, ⟨2, 2, .rws, .any⟩, ⟨1, 1, .rws, .any⟩], fun _ _ => 0x1000⟩,
  -- COD_ADC_SRC (11)
  ⟨0x0601, 1, 1, 1, 1, true, [⟨15, 15, .rws, .any⟩, ⟨5, 4, .rws, .max 2⟩, ⟨1, 0, .rws, .max 2⟩], fun _ _ => 0x8000⟩,
  -- COD_MIC1_GAIN (11)
  ⟨0x0602, 1, 1, 1, 1, false, [⟨5, 0, .rw, .max 42⟩], fun _ _ => 0x0000⟩,
  -- COD_MIC2_GAIN (11)
  ⟨0x0603, 1, 1, 1, 1, false, [⟨5, 0, .rw, .max 42⟩], fun _ _ => 0x0000⟩,
  -- COD_LIN_CFG (11)
  ⟨0x0604, 1, 1, 1, 1, true, [⟨1, 1, .rws, .any⟩, ⟨0, 0, .rws, .any⟩], fun _ _ => 0x0000⟩,
  -- COD_BIAS (11)
  ⟨0x0605, 1, 1, 1, 1, true, [⟨11, 8, .rws, .max 8⟩, ⟨3, 0, .rws, .max 8⟩], fun _ _ => 0x0505⟩,
  -- COD_HP_CFG (11)
  ⟨0x0606, 1, 1, 1, 1, true, [⟨0, 0, .rws, .any⟩], fun _ _ => 0x0000⟩,
  -- COD_SPK_CFG (11)
  ⟨0x0607, 1, 1, 1, 1, true, [⟨1, 0, .rws, .max 2⟩], fun _ _ => 0x0000⟩,
  -- COD_RAMP (11)
  ⟨0x0608, 1, 1, 1, 1, true, [⟨15, 8, .rws, .range 1 100⟩, ⟨7, 0, .rws, .range 1 100⟩], fun _ _ => 0x0A0A⟩,
  -- COD_SERVO (11)
  ⟨0x0609, 1, 1, 1, 1, true, [⟨15, 15, .rws, .any⟩, ⟨14, 8, .rws, .range 60 120⟩, ⟨7, 0, .rws, .range 10 255⟩], fun _ _ => 0xDA32⟩,
  -- COD_CMD (11)
  ⟨0x060A, 1, 1, 1, 1, false, [⟨0, 0, .wo, .any⟩], fun _ _ => 0x0000⟩,
  -- COD_STAT (11)
  ⟨0x0610, 1, 1, 1, 1, false, [⟨15, 13, .ro, .any⟩, ⟨12, 10, .ro, .any⟩, ⟨9, 8, .ro, .any⟩, ⟨7, 7, .ro, .any⟩, ⟨6, 6, .ro, .any⟩, ⟨5, 5, .ro, .any⟩], fun _ _ => 0x0000⟩,
  -- COD_HP_OFS_L (11)
  ⟨0x0611, 1, 1, 1, 1, false, [⟨15, 0, .ro, .any⟩], fun _ _ => 0x0000⟩,
  -- COD_HP_OFS_R (11)
  ⟨0x0612, 1, 1, 1, 1, false, [⟨15, 0, .ro, .any⟩], fun _ _ => 0x0000⟩,
  -- COD_SERVO_STEPS (11)
  ⟨0x0613, 1, 1, 1, 1, false, [⟨15, 0, .ro, .any⟩], fun _ _ => 0x0000⟩,
  -- COD_SERVO_REJ (11)
  ⟨0x0614, 1, 1, 1, 1, false, [⟨15, 0, .ro, .any⟩], fun _ _ => 0x0000⟩,
  -- COD_SPK_OC (11)
  ⟨0x0615, 1, 1, 1, 1, false, [⟨15, 0, .ro, .any⟩], fun _ _ => 0x0000⟩,
  -- COD_HP_OC (11)
  ⟨0x0616, 1, 1, 1, 1, false, [⟨15, 0, .ro, .any⟩], fun _ _ => 0x0000⟩,
  -- COD_EVT (11)
  ⟨0x0618, 1, 1, 1, 1, false, [⟨6, 6, .w1c, .any⟩, ⟨5, 5, .w1c, .any⟩, ⟨4, 4, .w1c, .any⟩, ⟨3, 3, .w1c, .any⟩, ⟨2, 2, .w1c, .any⟩, ⟨1, 1, .w1c, .any⟩, ⟨0, 0, .w1c, .any⟩], fun _ _ => 0x0000⟩,
  -- COD_EVM (11)
  ⟨0x0619, 1, 1, 1, 1, false, [⟨6, 0, .rw, .any⟩], fun _ _ => 0x005C⟩]

/-- Registers of the block at 0x0680 to 0x06BF (R632). -/
def jckRows : List RegRow := [
  -- JCK_CFG (11)
  ⟨0x0680, 1, 1, 1, 1, true, [⟨15, 15, .rws, .any⟩, ⟨14, 14, .rws, .any⟩, ⟨13, 13, .rws, .any⟩, ⟨12, 12, .rws, .any⟩], fun _ _ => 0xB000⟩,
  -- JCK_DEB (11)
  ⟨0x0681, 1, 1, 1, 1, true, [⟨15, 8, .rws, .range 1 255⟩, ⟨7, 0, .rws, .range 1 50⟩], fun _ _ => 0x0A02⟩,
  -- JCK_BTN_TIME (11)
  ⟨0x0682, 1, 1, 1, 1, true, [⟨15, 8, .rws, .range 5 255⟩, ⟨7, 0, .rws, .any⟩], fun _ _ => 0x141E⟩,
  -- JCK_BTN (11)
  ⟨0x0683, 1, 4, 1, 1, true, [⟨15, 8, .rws, .any⟩, ⟨7, 0, .rws, .any⟩], fun i _ => [14, 36, 66, 136].getD i 0 * 256 + [0, 22, 38, 72].getD i 0 * 1⟩,
  -- JCK_CMD (11)
  ⟨0x0687, 1, 1, 1, 1, false, [⟨0, 0, .wo, .any⟩], fun _ _ => 0x0000⟩,
  -- JCK_STAT (11)
  ⟨0x0690, 1, 1, 1, 1, false, [⟨15, 15, .ro, .any⟩, ⟨14, 12, .ro, .any⟩, ⟨3, 0, .ro, .any⟩], fun _ _ => 0x0000⟩,
  -- JCK_Z_TIP (11)
  ⟨0x0691, 1, 1, 1, 1, false, [⟨15, 0, .ro, .any⟩], fun _ _ => 0xFFFF⟩,
  -- JCK_Z_RING (11)
  ⟨0x0692, 1, 1, 1, 1, false, [⟨15, 0, .ro, .any⟩], fun _ _ => 0xFFFF⟩,
  -- JCK_Z_MIC (11)
  ⟨0x0693, 1, 1, 1, 1, false, [⟨15, 0, .ro, .any⟩], fun _ _ => 0xFFFF⟩,
  -- JCK_INSERTS (11)
  ⟨0x0694, 1, 1, 1, 1, false, [⟨15, 0, .ro, .any⟩], fun _ _ => 0x0000⟩,
  -- JCK_BTN_DISC (11)
  ⟨0x0695, 1, 1, 1, 1, false, [⟨15, 0, .ro, .any⟩], fun _ _ => 0x0000⟩,
  -- JCK_EVT (11)
  ⟨0x0696, 1, 1, 1, 1, false, [⟨5, 5, .w1c, .any⟩, ⟨4, 4, .w1c, .any⟩, ⟨3, 3, .w1c, .any⟩, ⟨2, 2, .w1c, .any⟩, ⟨1, 1, .w1c, .any⟩, ⟨0, 0, .w1c, .any⟩], fun _ _ => 0x0000⟩,
  -- JCK_EVM (11)
  ⟨0x0697, 1, 1, 1, 1, false, [⟨5, 0, .rw, .any⟩], fun _ _ => 0x003E⟩]

/-- Registers of the block at 0x06C0 to 0x07FF (R632). -/
def mixRows : List RegRow := [
  -- MIX_LIM_HP (12)
  ⟨0x06C0, 1, 1, 1, 1, true, [⟨15, 15, .rws, .any⟩, ⟨14, 8, .rws, .max 48⟩, ⟨7, 0, .rws, .range 1 255⟩], fun _ _ => 0x8214⟩,
  -- MIX_LIM_SPK (12)
  ⟨0x06C1, 1, 1, 1, 1, true, [⟨15, 15, .rws, .any⟩, ⟨14, 8, .rws, .max 48⟩, ⟨7, 0, .rws, .range 1 255⟩], fun _ _ => 0x8214⟩,
  -- MIX_TONE_FREQ (12)
  ⟨0x06C4, 3, 4, 1, 1, true, [⟨14, 0, .rws, .range 10 20000⟩], fun _ _ => 0x03E8⟩,
  -- MIX_TONE_TYPE (12)
  ⟨0x06C5, 3, 4, 1, 1, true, [⟨1, 0, .rws, .any⟩], fun _ _ => 0x0000⟩,
  -- MIX_TONE_LEVEL (12)
  ⟨0x06C6, 3, 4, 1, 1, false, [⟨7, 0, .rw, .max 240⟩], fun _ _ => 0x0028⟩,
  -- MIX_EQ_SEL (12)
  ⟨0x06D0, 1, 1, 1, 1, false, [⟨10, 8, .rw, .max 4⟩, ⟨6, 0, .rw, .any⟩], fun _ _ => 0x0000⟩,
  -- MIX_EQ_C (12)
  ⟨0x06D1, 1, 10, 1, 1, false, [⟨15, 0, .rw, .any⟩], fun i _ => if i = 0 then 0x1000 else 0⟩,
  -- MIX_EQ_CMD (12)
  ⟨0x06DB, 1, 1, 1, 1, false, [⟨0, 0, .wo, .any⟩], fun _ _ => 0x0000⟩,
  -- MIX_EVT (12)
  ⟨0x06E0, 1, 1, 1, 1, false, [⟨3, 3, .w1c, .any⟩, ⟨2, 2, .w1c, .any⟩, ⟨1, 1, .w1c, .any⟩, ⟨0, 0, .w1c, .any⟩], fun _ _ => 0x0000⟩,
  -- MIX_EVM (12)
  ⟨0x06E1, 1, 1, 1, 1, false, [⟨3, 0, .rw, .any⟩], fun _ _ => 0x0006⟩,
  -- MIX_FLAG_NEXT (12)
  ⟨0x06E2, 1, 1, 1, 1, false, [⟨15, 15, .ro, .any⟩, ⟨6, 0, .ro, .any⟩], fun _ _ => 0x0000⟩,
  -- MIX_CMD (12)
  ⟨0x06E3, 1, 1, 1, 1, false, [⟨0, 0, .wo, .any⟩], fun _ _ => 0x0000⟩,
  -- MIX_MTR_SEL (12)
  ⟨0x06E8, 1, 1, 1, 1, false, [⟨6, 0, .rw, .any⟩], fun _ _ => 0x0000⟩,
  -- MIX_MTR (12)
  ⟨0x06E9, 1, 6, 1, 1, false, [⟨15, 0, .ro, .any⟩], fun _ _ => 0x0000⟩]

/-- Registers of the block at 0x0800 to 0x08FF (R632), part 1. -/
def prtRows1 : List RegRow := [
  -- P_CFG (13)
  ⟨0x0800, 64, 3, 1, 1, true, [⟨15, 15, .rws, .any⟩, ⟨14, 14, .rws, .any⟩, ⟨13, 13, .rws, .any⟩, ⟨12, 12, .rws, .any⟩, ⟨11, 11, .rws, .any⟩, ⟨10, 10, .rws, .any⟩, ⟨9, 9, .rws, .any⟩, ⟨8, 8, .rws, .any⟩, ⟨7, 6, .rws, .max 2⟩, ⟨5, 4, .rws, .any⟩, ⟨3, 0, .rws, .max 6⟩], fun _ _ => 0x0032⟩,
  -- P_FRAME (13)
  ⟨0x0801, 64, 3, 1, 1, true, [⟨13, 8, .rws, .any⟩, ⟨4, 0, .rws, .any⟩], fun _ _ => 0x0001⟩,
  -- P_BPF (13)
  ⟨0x0802, 64, 3, 1, 1, true, [⟨10, 0, .rws, .range 16 1536⟩], fun _ _ => 0x0040⟩,
  -- P_TXMASK_HI (13)
  ⟨0x0803, 64, 3, 1, 1, true, [⟨15, 0, .rws, .any⟩], fun _ _ => 0x0000⟩,
  -- P_TXMASK_LO (13)
  ⟨0x0804, 64, 3, 1, 1, true, [⟨15, 0, .rws, .any⟩], fun _ _ => 0x0000⟩,
  -- P_RXMASK_HI (13)
  ⟨0x0805, 64, 3, 1, 1, true, [⟨15, 0, .rws, .any⟩], fun _ _ => 0x0000⟩,
  -- P_RXMASK_LO (13)
  ⟨0x0806, 64, 3, 1, 1, true, [⟨15, 0, .rws, .any⟩], fun _ _ => 0x0000⟩,
  -- P_CMD (13)
  ⟨0x0807, 64, 3, 1, 1, false, [⟨0, 0, .wo, .any⟩], fun _ _ => 0x0000⟩,
  -- P_STAT (13)
  ⟨0x0810, 64, 3, 1, 1, false, [⟨15, 13, .ro, .any⟩, ⟨12, 12, .ro, .any⟩, ⟨11, 11, .ro, .any⟩, ⟨10, 10, .ro, .any⟩, ⟨9, 9, .ro, .any⟩, ⟨8, 8, .ro, .any⟩, ⟨7, 7, .ro, .any⟩, ⟨6, 6, .ro, .any⟩, ⟨5, 5, .ro, .any⟩, ⟨4, 4, .ro, .any⟩], fun _ _ => 0x0000⟩,
  -- P_FS_MEAS (13)
  ⟨0x0811, 64, 3, 1, 1, false, [⟨15, 0, .ro, .any⟩], fun _ _ => 0x0000⟩,
  -- P_BPF_MEAS (13)
  ⟨0x0812, 64, 3, 1, 1, false, [⟨15, 0, .ro, .any⟩], fun _ _ => 0x0000⟩,
  -- P_UNDERRUN (13)
  ⟨0x0813, 64, 3, 1, 1, false, [⟨15, 0, .ro, .any⟩], fun _ _ => 0x0000⟩,
  -- P_OVERRUN (13)
  ⟨0x0814, 64, 3, 1, 1, false, [⟨15, 0, .ro, .any⟩], fun _ _ => 0x0000⟩,
  -- P_CLK_LOSS (13)
  ⟨0x0815, 64, 3, 1, 1, false, [⟨15, 0, .ro, .any⟩], fun _ _ => 0x0000⟩,
  -- P_SLIPS (13)
  ⟨0x0816, 64, 3, 1, 1, false, [⟨15, 0, .ro, .any⟩], fun _ _ => 0x0000⟩,
  -- P_EVT (13)
  ⟨0x0818, 64, 3, 1, 1, false, [⟨7, 7, .w1c, .any⟩, ⟨6, 6, .w1c, .any⟩, ⟨5, 5, .w1c, .any⟩, ⟨4, 4, .w1c, .any⟩, ⟨3, 3, .w1c, .any⟩, ⟨2, 2, .w1c, .any⟩, ⟨1, 1, .w1c, .any⟩, ⟨0, 0, .w1c, .any⟩], fun _ _ => 0x0000⟩,
  -- P_EVM (13)
  ⟨0x0819, 64, 3, 1, 1, false, [⟨7, 0, .rw, .any⟩], fun _ _ => 0x00F1⟩,
  -- PRT_LEAD (13)
  ⟨0x0830, 1, 1, 1, 1, true, [⟨10, 8, .rws, .max 6⟩, ⟨2, 0, .rws, .max 4⟩], fun _ _ => 0x0300⟩,
  -- PRT_LEAD_STAT (13)
  ⟨0x0831, 1, 1, 1, 1, false, [⟨15, 14, .ro, .any⟩, ⟨13, 13, .ro, .any⟩, ⟨12, 12, .ro, .any⟩, ⟨7, 0, .ro, .any⟩], fun _ _ => 0x0000⟩,
  -- PRT_LEAD_PPM (13)
  ⟨0x0832, 1, 1, 1, 1, false, [⟨15, 0, .ro, .any⟩], fun _ _ => 0x0000⟩,
  -- PRT_ASRC (13)
  ⟨0x0833, 1, 1, 1, 1, false, [⟨15, 0, .ro, .any⟩], fun _ _ => 0x0000⟩,
  -- PRT_AMCLK (13)
  ⟨0x0834, 1, 1, 1, 1, true, [⟨15, 15, .rws, .any⟩, ⟨1, 0, .rws, .max 2⟩], fun _ _ => 0x0000⟩,
  -- SPD_TX_CFG (13)
  ⟨0x08C0, 1, 1, 1, 1, true, [⟨15, 15, .rws, .any⟩, ⟨14, 14, .rws, .any⟩], fun _ _ => 0x4000⟩,
  -- SPD_RX_CFG (13)
  ⟨0x08C1, 1, 1, 1, 1, true, [⟨15, 15, .rws, .any⟩, ⟨14, 14, .rws, .any⟩], fun _ _ => 0x4000⟩,
  -- SPD_RX_STAT (13)
  ⟨0x08C2, 1, 1, 1, 1, false, [⟨15, 15, .ro, .any⟩, ⟨14, 14, .ro, .any⟩, ⟨13, 13, .ro, .any⟩, ⟨12, 12, .ro, .any⟩, ⟨11, 11, .ro, .any⟩, ⟨10, 10, .ro, .any⟩], fun _ _ => 0x0000⟩]

/-- Registers of the block at 0x0800 to 0x08FF (R632), part 2. -/
def prtRows2 : List RegRow := [
  -- SPD_RX_FS (13)
  ⟨0x08C3, 1, 1, 1, 1, false, [⟨15, 0, .ro, .any⟩], fun _ _ => 0x0000⟩,
  -- SPD_RX_LATCH (13)
  ⟨0x08C4, 1, 1, 1, 1, false, [⟨0, 0, .wo, .any⟩], fun _ _ => 0x0000⟩,
  -- SPD_RX_LOSS (13)
  ⟨0x08C5, 1, 1, 1, 1, false, [⟨15, 0, .ro, .any⟩], fun _ _ => 0x0000⟩,
  -- SPD_RX_PARITY (13)
  ⟨0x08C6, 1, 1, 1, 1, false, [⟨15, 0, .ro, .any⟩], fun _ _ => 0x0000⟩,
  -- SPD_RX_VSAMP (13)
  ⟨0x08C7, 1, 1, 1, 1, false, [⟨15, 0, .ro, .any⟩], fun _ _ => 0x0000⟩,
  -- SPD_EVT (13)
  ⟨0x08C8, 1, 1, 1, 1, false, [⟨9, 9, .w1c, .any⟩, ⟨8, 8, .w1c, .any⟩, ⟨7, 7, .w1c, .any⟩, ⟨6, 6, .w1c, .any⟩, ⟨5, 5, .w1c, .any⟩, ⟨4, 4, .w1c, .any⟩, ⟨3, 3, .w1c, .any⟩, ⟨2, 2, .w1c, .any⟩, ⟨1, 1, .w1c, .any⟩, ⟨0, 0, .w1c, .any⟩], fun _ _ => 0x0000⟩,
  -- SPD_EVM (13)
  ⟨0x08C9, 1, 1, 1, 1, false, [⟨9, 0, .rw, .any⟩], fun _ _ => 0x03C6⟩,
  -- SPD_TX_CS (13)
  ⟨0x08D0, 1, 12, 1, 1, true, [⟨15, 0, .rws, .any⟩], fun _ _ => 0x0000⟩,
  -- SPD_RX_CS (13)
  ⟨0x08E0, 1, 12, 1, 1, false, [⟨15, 0, .ro, .any⟩], fun _ _ => 0x0000⟩,
  -- SPD_RX_U (13)
  ⟨0x08F0, 1, 12, 1, 1, false, [⟨15, 0, .ro, .any⟩], fun _ _ => 0x0000⟩]

/-- Registers of the block at 0x0800 to 0x08FF (R632). -/
def prtRows : List RegRow := prtRows1 ++ prtRows2

/-- Registers of the block at 0x0900 to 0x09FF (R632), part 1. -/
def slkRows1 : List RegRow := [
  -- SLK_CFG (15)
  ⟨0x0900, 1, 1, 1, 1, true, [⟨15, 14, .rws, .max 2⟩, ⟨13, 13, .rws, .any⟩, ⟨12, 12, .rws, .any⟩, ⟨11, 11, .rws, .any⟩], fun _ _ => 0x1000⟩,
  -- SLK_ADDR (15)
  ⟨0x0901, 1, 1, 1, 1, true, [⟨15, 0, .rws, .max 65534⟩], fun _ _ => 0x0000⟩,
  -- SLK_SYNC_HI (15)
  ⟨0x0902, 1, 1, 1, 1, true, [⟨15, 0, .rws, .any⟩], fun _ _ => 0x7A0E⟩,
  -- SLK_SYNC_LO (15)
  ⟨0x0903, 1, 1, 1, 1, true, [⟨15, 0, .rws, .any⟩], fun _ _ => 0x93D5⟩,
  -- SLK_PHY (15)
  ⟨0x0904, 1, 1, 1, 1, true, [⟨14, 12, .rws, .any⟩, ⟨10, 5, .rws, .range 1 32⟩, ⟨4, 0, .rws, .range 2 16⟩], fun _ _ => 0x3404⟩,
  -- SLK_CAPT_DB (15)
  ⟨0x0905, 1, 1, 1, 1, true, [⟨7, 0, .rws, .range 3 12⟩], fun _ _ => 0x0008⟩,
  -- SLK_LOCK_TMO (15)
  ⟨0x0906, 1, 1, 1, 1, true, [⟨7, 0, .rws, .range 1 255⟩], fun _ _ => 0x000A⟩,
  -- SLK_RAMP (15)
  ⟨0x0907, 1, 1, 1, 1, true, [⟨7, 0, .rws, .range 2 250⟩], fun _ _ => 0x0032⟩,
  -- SLK_LISTEN (15)
  ⟨0x0908, 1, 1, 1, 1, true, [⟨5, 0, .rws, .any⟩], fun _ _ => 0x0000⟩,
  -- SLK_LBT (15)
  ⟨0x0909, 1, 1, 1, 1, true, [⟨15, 8, .rws, .range 60 140⟩, ⟨7, 4, .rws, .range 1 15⟩], fun _ _ => 0x5F50⟩,
  -- SLK_RETRY (15)
  ⟨0x090A, 1, 1, 1, 1, true, [⟨15, 12, .rws, .any⟩, ⟨11, 8, .rws, .max 10⟩, ⟨7, 0, .rws, .range 1 255⟩], fun _ _ => 0x350A⟩,
  -- SLK_ACK (15)
  ⟨0x090B, 1, 1, 1, 1, true, [⟨7, 0, .rws, .range 5 255⟩], fun _ _ => 0x0078⟩,
  -- SLK_XPA_ON (15)
  ⟨0x090C, 1, 1, 1, 1, true, [⟨15, 8, .rws, .any⟩, ⟨7, 0, .rws, .any⟩], fun _ _ => 0x0A0A⟩,
  -- SLK_XPA_OFF (15)
  ⟨0x090D, 1, 1, 1, 1, true, [⟨15, 8, .rws, .any⟩, ⟨7, 0, .rws, .any⟩], fun _ _ => 0x0A0A⟩,
  -- SLK_RX_GAIN (15)
  ⟨0x090E, 1, 1, 1, 1, true, [⟨15, 0, .rws, .srange (-200) 400⟩], fun _ _ => 0x0000⟩,
  -- SLK_CMD (15)
  ⟨0x090F, 1, 1, 1, 1, false, [⟨1, 1, .wo, .any⟩, ⟨0, 0, .wo, .any⟩], fun _ _ => 0x0000⟩,
  -- SLK_STAT (15)
  ⟨0x0910, 1, 1, 1, 1, false, [⟨15, 13, .ro, .any⟩, ⟨12, 12, .ro, .any⟩, ⟨9, 6, .ro, .any⟩, ⟨5, 0, .ro, .any⟩], fun _ _ => 0x0000⟩,
  -- SLK_RSSI (15)
  ⟨0x0911, 1, 1, 1, 1, false, [⟨15, 0, .ro, .any⟩], fun _ _ => 0x8000⟩,
  -- SLK_NOISE (15)
  ⟨0x0912, 1, 1, 1, 1, false, [⟨15, 0, .ro, .any⟩], fun _ _ => 0x8000⟩,
  -- SLK_TX_PKT (15)
  ⟨0x0924, 1, 1, 1, 1, false, [⟨15, 0, .ro, .any⟩], fun _ _ => 0x0000⟩,
  -- SLK_RX_PKT (15)
  ⟨0x0925, 1, 1, 1, 1, false, [⟨15, 0, .ro, .any⟩], fun _ _ => 0x0000⟩,
  -- SLK_HDR_ERR (15)
  ⟨0x0926, 1, 1, 1, 1, false, [⟨15, 0, .ro, .any⟩], fun _ _ => 0x0000⟩,
  -- SLK_CRC_ERR (15)
  ⟨0x0927, 1, 1, 1, 1, false, [⟨15, 0, .ro, .any⟩], fun _ _ => 0x0000⟩,
  -- SLK_LDPC_FAIL (15)
  ⟨0x0928, 1, 1, 1, 1, false, [⟨15, 0, .ro, .any⟩], fun _ _ => 0x0000⟩,
  -- SLK_FALSE_PRE (15)
  ⟨0x0929, 1, 1, 1, 1, false, [⟨15, 0, .ro, .any⟩], fun _ _ => 0x0000⟩]

/-- Registers of the block at 0x0900 to 0x09FF (R632), part 2. -/
def slkRows2 : List RegRow := [
  -- SLK_CAPT_TAKEN (15)
  ⟨0x092A, 1, 1, 1, 1, false, [⟨15, 0, .ro, .any⟩], fun _ _ => 0x0000⟩,
  -- SLK_CAPT_IGNORED (15)
  ⟨0x092B, 1, 1, 1, 1, false, [⟨15, 0, .ro, .any⟩], fun _ _ => 0x0000⟩,
  -- SLK_TX_DEFER (15)
  ⟨0x092C, 1, 1, 1, 1, false, [⟨15, 0, .ro, .any⟩], fun _ _ => 0x0000⟩,
  -- SLK_LOCK_ABORT (15)
  ⟨0x092D, 1, 1, 1, 1, false, [⟨15, 0, .ro, .any⟩], fun _ _ => 0x0000⟩,
  -- SLK_LDG_REFUSE (15)
  ⟨0x092E, 1, 1, 1, 1, false, [⟨15, 0, .ro, .any⟩], fun _ _ => 0x0000⟩,
  -- SLK_LBT_BUSY (15)
  ⟨0x092F, 1, 1, 1, 1, false, [⟨15, 0, .ro, .any⟩], fun _ _ => 0x0000⟩,
  -- SLK_RETRIES (15)
  ⟨0x0930, 1, 1, 1, 1, false, [⟨15, 0, .ro, .any⟩], fun _ _ => 0x0000⟩,
  -- SLK_ACK_FAIL (15)
  ⟨0x0931, 1, 1, 1, 1, false, [⟨15, 0, .ro, .any⟩], fun _ _ => 0x0000⟩,
  -- SLK_RX_DUP (15)
  ⟨0x0932, 1, 1, 1, 1, false, [⟨15, 0, .ro, .any⟩], fun _ _ => 0x0000⟩,
  -- SLK_RXQ_OVF (15)
  ⟨0x0933, 1, 1, 1, 1, false, [⟨15, 0, .ro, .any⟩], fun _ _ => 0x0000⟩,
  -- SLK_GW_NODES (15)
  ⟨0x0934, 1, 1, 1, 1, false, [⟨15, 0, .ro, .any⟩], fun _ _ => 0x0000⟩,
  -- SLK_CALT (15)
  ⟨0x0935, 1, 1, 1, 1, false, [⟨15, 0, .ro, .any⟩], fun _ _ => 0x0000⟩,
  -- SLK_EVT (15)
  ⟨0x0938, 1, 1, 1, 1, false, [⟨9, 9, .w1c, .any⟩, ⟨8, 8, .w1c, .any⟩, ⟨7, 7, .w1c, .any⟩, ⟨6, 6, .w1c, .any⟩, ⟨5, 5, .w1c, .any⟩, ⟨4, 4, .w1c, .any⟩, ⟨3, 3, .w1c, .any⟩, ⟨2, 2, .w1c, .any⟩, ⟨1, 1, .w1c, .any⟩, ⟨0, 0, .w1c, .any⟩], fun _ _ => 0x0000⟩,
  -- SLK_EVM (15)
  ⟨0x0939, 1, 1, 1, 1, false, [⟨9, 0, .rw, .any⟩], fun _ _ => 0x025B⟩,
  -- SLK_LDG_LO (15)
  ⟨0x0940, 3, 8, 1, 1, true, [⟨15, 0, .rws, .max 5200⟩], fun j _ => [0, 400, 456, 512, 536].getD j 0⟩,
  -- SLK_LDG_HI (15)
  ⟨0x0941, 3, 8, 1, 1, true, [⟨15, 0, .rws, .max 5200⟩], fun j _ => [400, 448, 496, 532, 560].getD j 0⟩,
  -- SLK_LDG_LIM (15)
  ⟨0x0942, 3, 8, 1, 1, true, [⟨15, 0, .rws, .max 10000⟩], fun j _ => [10, 100, 10, 1000, 100].getD j 0⟩,
  -- SLK_LDG_USED (15)
  ⟨0x0960, 1, 8, 1, 1, false, [⟨15, 0, .ro, .any⟩], fun _ _ => 0x0000⟩]

/-- Registers of the block at 0x0900 to 0x09FF (R632). -/
def slkRows : List RegRow := slkRows1 ++ slkRows2

/-- Registers of the block at 0x0A00 to 0x0A3F (R632). -/
def cxRows : List RegRow := [
  -- CX_CFG (15)
  ⟨0x0A00, 1, 1, 1, 1, true, [⟨15, 15, .rws, .any⟩, ⟨14, 14, .rws, .any⟩, ⟨13, 13, .rws, .any⟩, ⟨7, 0, .rws, .range 1 255⟩], fun _ _ => 0x600A⟩,
  -- CX_STAT (15)
  ⟨0x0A01, 1, 1, 1, 1, false, [⟨3, 3, .ro, .any⟩, ⟨2, 2, .ro, .any⟩, ⟨1, 1, .ro, .any⟩, ⟨0, 0, .ro, .any⟩], fun _ _ => 0x0000⟩,
  -- CX_DENIED (15)
  ⟨0x0A02, 1, 1, 1, 1, false, [⟨15, 0, .ro, .any⟩], fun _ _ => 0x0000⟩,
  -- CX_ABORTS (15)
  ⟨0x0A03, 1, 1, 1, 1, false, [⟨15, 0, .ro, .any⟩], fun _ _ => 0x0000⟩,
  -- CX_EVT (15)
  ⟨0x0A04, 1, 1, 1, 1, false, [⟨2, 2, .w1c, .any⟩, ⟨1, 1, .w1c, .any⟩, ⟨0, 0, .w1c, .any⟩], fun _ _ => 0x0000⟩,
  -- CX_EVM (15)
  ⟨0x0A05, 1, 1, 1, 1, false, [⟨2, 0, .rw, .any⟩], fun _ _ => 0x0003⟩]

/-- Registers of the block at 0x0A40 to 0x0AFF (R632). -/
def hopRows : List RegRow := [
  -- SLK_HOP_FREQ (15)
  ⟨0x0A40, 3, 64, 1, 1, true, [⟨12, 0, .rws, .max 5200⟩], fun _ _ => 0x01A8⟩,
  -- SLK_HOP_CAL (15)
  ⟨0x0A41, 3, 64, 1, 1, false, [⟨15, 15, .rw, .any⟩, ⟨14, 9, .rw, .any⟩, ⟨8, 0, .rw, .any⟩], fun _ _ => 0x0000⟩,
  -- SLK_HOP_CFG (15)
  ⟨0x0A42, 3, 64, 1, 1, true, [⟨15, 15, .rws, .any⟩, ⟨14, 12, .rws, .max 4⟩, ⟨11, 11, .rws, .any⟩, ⟨4, 0, .rws, .any⟩], fun _ _ => 0x800A⟩]

/-- Registers of the block at 0x0B00 to 0x0B3F (R632). -/
def powRows : List RegRow := [
  -- SLK_PWR_LEVEL (15)
  ⟨0x0B00, 2, 32, 1, 1, true, [⟨15, 0, .rws, .srange (-100) 160⟩], fun p _ => if p ≤ 26 then (65536 - 100 + 10 * p) % 65536 else 160⟩,
  -- SLK_PWR_CFG (15)
  ⟨0x0B01, 2, 32, 1, 1, true, [⟨15, 15, .rws, .any⟩, ⟨7, 0, .rws, .srange (-100) 100⟩], fun _ _ => 0x0000⟩]

/-- Registers of the block at 0x1000 to 0x17FF (R632). -/
def fmcRows : List RegRow := [
  -- FMC_CTL (06)
  ⟨0x1000, 8, 256, 1, 1, true, [⟨15, 15, .rws, .any⟩, ⟨13, 12, .rws, .any⟩, ⟨11, 10, .rws, .max 2⟩, ⟨7, 4, .rws, .max 11⟩, ⟨3, 3, .rws, .any⟩, ⟨2, 2, .rws, .any⟩, ⟨1, 1, .rws, .any⟩, ⟨0, 0, .rws, .any⟩], fun _ _ => 0x10B0⟩,
  -- FMC_FREQ (05)
  ⟨0x1001, 8, 256, 1, 1, true, [⟨15, 0, .rws, .max 44000⟩], fun _ _ => 0x0000⟩,
  -- FMC_STAT (06)
  ⟨0x1002, 8, 256, 1, 1, false, [⟨15, 13, .ro, .any⟩, ⟨12, 12, .ro, .any⟩, ⟨11, 11, .ro, .any⟩, ⟨10, 10, .ro, .any⟩, ⟨9, 9, .ro, .any⟩, ⟨7, 7, .ro, .any⟩, ⟨6, 6, .ro, .any⟩, ⟨5, 5, .ro, .any⟩, ⟨4, 4, .ro, .any⟩, ⟨3, 0, .ro, .any⟩], fun _ _ => 0x0000⟩,
  -- FMC_CFG (06)
  ⟨0x1003, 8, 256, 1, 1, true, [⟨15, 14, .rws, .any⟩, ⟨7, 0, .rws, .any⟩], fun _ _ => 0x0000⟩,
  -- FMC_LEVEL (06)
  ⟨0x1004, 8, 256, 1, 1, false, [⟨15, 0, .ro, .any⟩], fun _ _ => 0x8000⟩,
  -- FMC_SNR (06)
  ⟨0x1005, 8, 256, 1, 1, false, [⟨15, 0, .ro, .any⟩], fun _ _ => 0x8000⟩,
  -- FMC_FOFS (06)
  ⟨0x1006, 8, 256, 1, 1, false, [⟨15, 0, .ro, .any⟩], fun _ _ => 0x8000⟩,
  -- FMC_DEV (06)
  ⟨0x1007, 8, 256, 1, 1, false, [⟨15, 0, .ro, .any⟩], fun _ _ => 0x8000⟩]

/-- Registers of the block at 0x1800 to 0x1A7F (R632). -/
def amcRows : List RegRow := [
  -- AMC_CTL (06)
  ⟨0x1800, 4, 160, 1, 1, true, [⟨15, 15, .rws, .any⟩, ⟨13, 12, .rws, .any⟩, ⟨11, 10, .rws, .max 0⟩, ⟨7, 5, .rws, .any⟩, ⟨4, 4, .rws, .any⟩, ⟨3, 3, .rws, .any⟩, ⟨2, 2, .rws, .any⟩, ⟨1, 1, .rws, .any⟩], fun _ _ => 0x107A⟩,
  -- AMC_FREQ (05)
  ⟨0x1801, 4, 160, 1, 1, true, [⟨15, 0, .rws, .range 144 30000⟩], fun _ _ => 0x0090⟩,
  -- AMC_STAT (06)
  ⟨0x1802, 4, 160, 1, 1, false, [⟨15, 13, .ro, .any⟩, ⟨12, 12, .ro, .any⟩, ⟨11, 11, .ro, .any⟩, ⟨10, 10, .ro, .any⟩, ⟨9, 9, .ro, .any⟩, ⟨7, 7, .ro, .any⟩, ⟨6, 6, .ro, .any⟩, ⟨5, 5, .ro, .any⟩, ⟨4, 4, .ro, .any⟩, ⟨3, 3, .ro, .any⟩], fun _ _ => 0x0000⟩,
  -- AMC_LEVEL (06)
  ⟨0x1803, 4, 160, 1, 1, false, [⟨15, 0, .ro, .any⟩], fun _ _ => 0x8000⟩]

/-- Registers of the block at 0x1C00 to 0x1D47 (R632). -/
def dbeRows : List RegRow := [
  -- DBE_CTL (08)
  ⟨0x1C00, 8, 41, 1, 1, true, [⟨15, 15, .rws, .any⟩, ⟨13, 12, .rws, .any⟩, ⟨11, 10, .rws, .max 1⟩, ⟨1, 1, .rws, .any⟩, ⟨0, 0, .rws, .any⟩], fun _ _ => 0x1000⟩,
  -- DBE_CFG (08)
  ⟨0x1C01, 8, 41, 1, 1, true, [⟨15, 8, .rws, .any⟩], fun _ _ => 0x0000⟩,
  -- DBE_STAT (08)
  ⟨0x1C02, 8, 41, 1, 1, false, [⟨15, 13, .ro, .any⟩, ⟨12, 12, .ro, .any⟩, ⟨11, 11, .ro, .any⟩, ⟨10, 10, .ro, .any⟩, ⟨9, 9, .ro, .any⟩, ⟨7, 6, .ro, .any⟩, ⟨5, 5, .ro, .any⟩, ⟨4, 4, .ro, .any⟩, ⟨3, 3, .ro, .any⟩, ⟨2, 2, .ro, .any⟩, ⟨1, 1, .ro, .any⟩], fun _ _ => 0x0000⟩,
  -- DBE_EID (08)
  ⟨0x1C03, 8, 41, 1, 1, false, [⟨15, 0, .ro, .any⟩], fun _ _ => 0x0000⟩,
  -- DBE_LEVEL (08)
  ⟨0x1C04, 8, 41, 1, 1, false, [⟨15, 0, .ro, .any⟩], fun _ _ => 0x8000⟩,
  -- DBE_SNR (08)
  ⟨0x1C05, 8, 41, 1, 1, false, [⟨15, 0, .ro, .any⟩], fun _ _ => 0x8000⟩,
  -- DBE_FOFS (08)
  ⟨0x1C06, 8, 41, 1, 1, false, [⟨15, 0, .ro, .any⟩], fun _ _ => 0x8000⟩,
  -- DBE_FIBQ (08)
  ⟨0x1C07, 8, 41, 1, 1, false, [⟨15, 8, .ro, .any⟩, ⟨7, 0, .ro, .any⟩], fun _ _ => 0xFF00⟩]

/-- Registers of the block at 0x1E00 to 0x1EBF (R632). -/
def dscRows : List RegRow := [
  -- DSC_CTL (08)
  ⟨0x1E00, 4, 48, 1, 1, true, [⟨15, 15, .rws, .any⟩, ⟨14, 14, .rws, .any⟩, ⟨13, 13, .rws, .any⟩, ⟨12, 12, .rws, .any⟩], fun _ _ => 0x0000⟩,
  -- DSC_SEL (08)
  ⟨0x1E01, 4, 48, 1, 1, true, [⟨13, 8, .rws, .max 40⟩, ⟨5, 0, .rws, .any⟩], fun _ _ => 0x0000⟩,
  -- DSC_STAT (08)
  ⟨0x1E02, 4, 48, 1, 1, false, [⟨15, 13, .ro, .any⟩, ⟨12, 12, .ro, .any⟩, ⟨11, 11, .ro, .any⟩, ⟨10, 9, .ro, .any⟩, ⟨8, 8, .ro, .any⟩, ⟨7, 4, .ro, .any⟩, ⟨3, 3, .ro, .any⟩, ⟨2, 2, .ro, .any⟩, ⟨1, 1, .ro, .any⟩], fun _ _ => 0x0000⟩,
  -- DSC_QUAL (08)
  ⟨0x1E03, 4, 48, 1, 1, false, [⟨15, 8, .ro, .any⟩, ⟨7, 0, .ro, .any⟩], fun _ _ => 0xFFFF⟩]

/-- Registers of the block at 0x2000 to 0x27FF (R632). -/
def pgtRows : List RegRow := [
  -- PGT_CTL (09)
  ⟨0x2000, 16, 128, 1, 1, true, [⟨15, 15, .rws, .any⟩, ⟨13, 12, .rws, .any⟩, ⟨11, 10, .rws, .max 2⟩, ⟨9, 9, .rws, .any⟩, ⟨8, 8, .rws, .any⟩, ⟨7, 7, .rws, .any⟩, ⟨6, 6, .rws, .any⟩, ⟨2, 0, .rws, .any⟩], fun _ _ => 0x1300⟩,
  -- PGT_PI (09)
  ⟨0x2001, 16, 128, 1, 1, true, [⟨15, 0, .rws, .any⟩], fun _ _ => 0x0000⟩,
  -- PGT_SID (09)
  ⟨0x2002, 16, 128, 1, 1, true, [⟨15, 0, .rws, .any⟩], fun _ _ => 0x0000⟩,
  -- PGT_SW (09)
  ⟨0x2003, 16, 128, 1, 1, true, [⟨15, 8, .rws, .max 250⟩, ⟨7, 0, .rws, .range 1 255⟩], fun _ _ => 0x1914⟩,
  -- PGT_XF (09)
  ⟨0x2004, 16, 128, 1, 1, true, [⟨15, 8, .rws, .range 2 200⟩, ⟨7, 7, .rws, .any⟩, ⟨3, 0, .rws, .any⟩], fun _ _ => 0x3286⟩,
  -- PGT_SRC (09)
  ⟨0x2005, 16, 128, 1, 8, true, [⟨15, 12, .rws, .any⟩, ⟨11, 0, .rws, .any⟩], fun _ _ => 0x0000⟩,
  -- PGT_REF (09)
  ⟨0x200D, 16, 128, 1, 1, true, [⟨15, 14, .rws, .any⟩, ⟨11, 0, .rws, .any⟩], fun _ _ => 0x0000⟩,
  -- PGT_STAT (09)
  ⟨0x200E, 16, 128, 1, 1, false, [⟨15, 12, .ro, .any⟩, ⟨11, 11, .ro, .any⟩, ⟨10, 10, .ro, .any⟩, ⟨9, 9, .ro, .any⟩, ⟨8, 8, .ro, .any⟩, ⟨7, 7, .ro, .any⟩, ⟨6, 6, .ro, .any⟩, ⟨5, 5, .ro, .any⟩, ⟨4, 4, .ro, .any⟩, ⟨3, 3, .ro, .any⟩], fun _ _ => 0x0000⟩,
  -- PGT_SCORE (09)
  ⟨0x200F, 16, 128, 1, 1, false, [⟨9, 0, .ro, .any⟩], fun _ _ => 0x0000⟩]

/-- Registers of the block at 0x2800 to 0x2FFF (R632). -/
def mxtRows : List RegRow := [
  -- MXT_CTL (12)
  ⟨0x2800, 16, 128, 1, 1, true, [⟨15, 15, .rws, .any⟩, ⟨14, 14, .rws, .any⟩, ⟨11, 8, .rws, .any⟩, ⟨4, 0, .rws, .any⟩], fun _ _ => 0x0600⟩,
  -- MXT_SINK (12)
  ⟨0x2801, 16, 128, 1, 1, true, [⟨15, 12, .rws, .any⟩, ⟨11, 0, .rws, .any⟩], fun _ _ => 0x0000⟩,
  -- MXT_TERM (12)
  ⟨0x2802, 16, 128, 1, 8, true, [⟨15, 12, .rws, .any⟩, ⟨9, 9, .rws, .any⟩, ⟨8, 0, .rws, .max 361⟩], fun _ _ => 0x6000⟩,
  -- MXT_GAIN (12)
  ⟨0x280A, 16, 128, 1, 4, false, [⟨15, 8, .rw, .any⟩, ⟨7, 0, .rw, .any⟩], fun _ _ => 0x0000⟩,
  -- MXT_PEAK (12)
  ⟨0x280E, 16, 128, 1, 1, false, [⟨15, 0, .ro, .any⟩], fun _ _ => 0xFB50⟩,
  -- MXT_STAT (12)
  ⟨0x280F, 16, 128, 1, 1, false, [⟨15, 15, .ro, .any⟩, ⟨14, 14, .ro, .any⟩, ⟨3, 3, .w1c, .any⟩, ⟨2, 2, .w1c, .any⟩, ⟨1, 1, .w1c, .any⟩, ⟨0, 0, .w1c, .any⟩], fun _ _ => 0x0000⟩]

/-- Registers of the block at 0x3000 to 0x37FF (R632). -/
def rdsRows : List RegRow := [
  -- RDS_CTL (07)
  ⟨0x3000, 8, 256, 1, 1, true, [⟨15, 15, .rws, .any⟩, ⟨14, 14, .rws, .any⟩], fun _ _ => 0x8000⟩,
  -- RDS_STAT (07)
  ⟨0x3001, 8, 256, 1, 1, false, [⟨15, 15, .ro, .any⟩, ⟨14, 14, .ro, .any⟩, ⟨13, 13, .ro, .any⟩, ⟨12, 12, .ro, .any⟩, ⟨11, 11, .ro, .any⟩, ⟨10, 10, .ro, .any⟩, ⟨9, 9, .ro, .any⟩, ⟨8, 7, .ro, .any⟩, ⟨4, 0, .ro, .any⟩], fun _ _ => 0x0000⟩,
  -- RDS_PI (07)
  ⟨0x3002, 8, 256, 1, 1, false, [⟨15, 0, .ro, .any⟩], fun _ _ => 0x0000⟩,
  -- RDS_PS0 (07)
  ⟨0x3003, 8, 256, 1, 1, false, [⟨15, 8, .ro, .any⟩, ⟨7, 0, .ro, .any⟩], fun _ _ => 0x2020⟩,
  -- RDS_PS1 (07)
  ⟨0x3004, 8, 256, 1, 1, false, [⟨15, 8, .ro, .any⟩, ⟨7, 0, .ro, .any⟩], fun _ _ => 0x2020⟩,
  -- RDS_PS2 (07)
  ⟨0x3005, 8, 256, 1, 1, false, [⟨15, 8, .ro, .any⟩, ⟨7, 0, .ro, .any⟩], fun _ _ => 0x2020⟩,
  -- RDS_PS3 (07)
  ⟨0x3006, 8, 256, 1, 1, false, [⟨15, 8, .ro, .any⟩, ⟨7, 0, .ro, .any⟩], fun _ _ => 0x2020⟩,
  -- RDS_QUAL (07)
  ⟨0x3007, 8, 256, 1, 1, false, [⟨15, 8, .ro, .any⟩, ⟨4, 0, .ro, .any⟩], fun _ _ => 0xFF00⟩]

/-- The rows of the block whose range holds index `idx` (R632); none outside every block. -/
def blockRows (idx : Nat) : List RegRow :=
  if idx ≤ 0x003F then (if 0x0000 ≤ idx then sysRows else []) else
  if idx ≤ 0x007F then (if 0x0040 ≤ idx then pwrRows else []) else
  if idx ≤ 0x00BF then (if 0x0080 ≤ idx then bootRows else []) else
  if idx ≤ 0x00FF then (if 0x00C0 ≤ idx then rtcRows else []) else
  if idx ≤ 0x013F then (if 0x0100 ≤ idx then hifRows else []) else
  if idx ≤ 0x017F then (if 0x0140 ≤ idx then lifRows else []) else
  if idx ≤ 0x01BF then (if 0x0180 ≤ idx then tmpRows else []) else
  if idx ≤ 0x01FF then (if 0x01C0 ≤ idx then monRows else []) else
  if idx ≤ 0x02BF then (if 0x0200 ≤ idx then clkRows else []) else
  if idx ≤ 0x02FF then (if 0x02C0 ≤ idx then gpioRows else []) else
  if idx ≤ 0x037F then (if 0x0300 ≤ idx then afeRows else []) else
  if idx ≤ 0x03BF then (if 0x0380 ≤ idx then bicRows else []) else
  if idx ≤ 0x03FF then (if 0x03C0 ≤ idx then scnRows else []) else
  if idx ≤ 0x047F then (if 0x0400 ≤ idx then chnRows else []) else
  if idx ≤ 0x04FF then (if 0x0480 ≤ idx then dabRows else []) else
  if idx ≤ 0x057F then (if 0x0500 ≤ idx then prgRows else []) else
  if idx ≤ 0x05BF then (if 0x0580 ≤ idx then fspRows else []) else
  if idx ≤ 0x067F then (if 0x0600 ≤ idx then codRows else []) else
  if idx ≤ 0x06BF then (if 0x0680 ≤ idx then jckRows else []) else
  if idx ≤ 0x07FF then (if 0x06C0 ≤ idx then mixRows else []) else
  if idx ≤ 0x08FF then (if 0x0800 ≤ idx then prtRows else []) else
  if idx ≤ 0x09FF then (if 0x0900 ≤ idx then slkRows else []) else
  if idx ≤ 0x0A3F then (if 0x0A00 ≤ idx then cxRows else []) else
  if idx ≤ 0x0AFF then (if 0x0A40 ≤ idx then hopRows else []) else
  if idx ≤ 0x0B3F then (if 0x0B00 ≤ idx then powRows else []) else
  if idx ≤ 0x17FF then (if 0x1000 ≤ idx then fmcRows else []) else
  if idx ≤ 0x1A7F then (if 0x1800 ≤ idx then amcRows else []) else
  if idx ≤ 0x1D47 then (if 0x1C00 ≤ idx then dbeRows else []) else
  if idx ≤ 0x1EBF then (if 0x1E00 ≤ idx then dscRows else []) else
  if idx ≤ 0x27FF then (if 0x2000 ≤ idx then pgtRows else []) else
  if idx ≤ 0x2FFF then (if 0x2800 ≤ idx then mxtRows else []) else
  if idx ≤ 0x37FF then (if 0x3000 ≤ idx then rdsRows else []) else
  []

/-- Entry numbers (i, j) of index `idx` in a row, if the row holds it (R4). -/
def RegRow.entry (r : RegRow) (idx : Nat) : Option (Nat × Nat) :=
  if r.base ≤ idx then
    let d := idx - r.base
    let i := d / r.s1
    let e := d % r.s1
    if i < r.n1 ∧ e % r.s2 = 0 ∧ e / r.s2 < r.n2 then some (i, e / r.s2) else none
  else none

/-- The row that holds index `idx`, with the entry numbers, in a list of rows. -/
def findIn (idx : Nat) : List RegRow → Option (RegRow × Nat × Nat)
  | [] => none
  | r :: t =>
    match r.entry idx with
    | some e => some (r, e)
    | none => findIn idx t

/-- The row of the register map that holds index `idx`; none for an unassigned index (R11). -/
def findRow (idx : Nat) : Option (RegRow × Nat × Nat) := findIn idx (blockRows idx)

/-- The reset word of index `idx`; 0 for an unassigned index (R11). -/
def resetWord (idx : Nat) : Word :=
  match findRow idx with
  | some (r, i, j) => BitVec.ofNat 16 (r.reset i j)
  | none => 0

/-- Index `idx` is assigned and staged (R633). -/
def isStaged (idx : Nat) : Bool :=
  match findRow idx with
  | some (r, _) => r.staged
  | none => false

end Sys2Proof.Machine
end

