-- ==== Sys2Proof/Machine/Fields.lean ====
section
/-!
DEFINITION. The fields of the register map under the manual's own names: `<register>_<field>` of spec/00 to spec/20, with the
index of entry 0, the distance between entries (R4), the bits, and whether the register is staged (R633).
-/
namespace Sys2Proof.Machine

/-- A named field: index of entry 0, stride between entries, bits, kind. -/
structure Fld where
  base : Nat
  stride : Nat
  hi : Nat
  lo : Nat
  staged : Bool
deriving DecidableEq, Repr

namespace R

/-- The whole of `SYS_CHIP_ID`. -/
def SYS_CHIP_ID : Fld := ⟨0x0000, 1, 15, 0, false⟩
def SYS_CHIP_ID_ID : Fld := ⟨0x0000, 1, 15, 0, false⟩
/-- The whole of `SYS_STEP`. -/
def SYS_STEP : Fld := ⟨0x0001, 1, 15, 0, false⟩
def SYS_STEP_LETTER : Fld := ⟨0x0001, 1, 15, 8, false⟩
def SYS_STEP_NUMBER : Fld := ⟨0x0001, 1, 7, 0, false⟩
/-- The whole of `SYS_EPOCH_CTRL`. -/
def SYS_EPOCH_CTRL : Fld := ⟨0x0004, 1, 15, 0, false⟩
def SYS_EPOCH_CTRL_KEY : Fld := ⟨0x0004, 1, 15, 8, false⟩
def SYS_EPOCH_CTRL_ABANDON : Fld := ⟨0x0004, 1, 1, 1, false⟩
def SYS_EPOCH_CTRL_COMMIT : Fld := ⟨0x0004, 1, 0, 0, false⟩
/-- The whole of `SYS_EPOCH_NUM`. -/
def SYS_EPOCH_NUM : Fld := ⟨0x0005, 1, 15, 0, false⟩
def SYS_EPOCH_NUM_NUM : Fld := ⟨0x0005, 1, 15, 0, false⟩
/-- The whole of `SYS_EPOCH_STAT`. -/
def SYS_EPOCH_STAT : Fld := ⟨0x0006, 1, 15, 0, false⟩
def SYS_EPOCH_STAT_PENDING : Fld := ⟨0x0006, 1, 2, 2, false⟩
def SYS_EPOCH_STAT_HELD : Fld := ⟨0x0006, 1, 1, 1, false⟩
def SYS_EPOCH_STAT_APPLYING : Fld := ⟨0x0006, 1, 0, 0, false⟩
/-- The whole of `SYS_RST`. -/
def SYS_RST : Fld := ⟨0x0008, 1, 15, 0, false⟩
def SYS_RST_KEY : Fld := ⟨0x0008, 1, 15, 0, false⟩
/-- The whole of `SYS_EVT`. -/
def SYS_EVT : Fld := ⟨0x0010, 1, 15, 0, false⟩
def SYS_EVT_DAB : Fld := ⟨0x0010, 1, 15, 15, false⟩
def SYS_EVT_CHN : Fld := ⟨0x0010, 1, 14, 14, false⟩
def SYS_EVT_SCN : Fld := ⟨0x0010, 1, 13, 13, false⟩
def SYS_EVT_BIC : Fld := ⟨0x0010, 1, 12, 12, false⟩
def SYS_EVT_AFEB : Fld := ⟨0x0010, 1, 11, 11, false⟩
def SYS_EVT_AFEA : Fld := ⟨0x0010, 1, 10, 10, false⟩
def SYS_EVT_GPIO : Fld := ⟨0x0010, 1, 9, 9, false⟩
def SYS_EVT_CLK : Fld := ⟨0x0010, 1, 8, 8, false⟩
def SYS_EVT_MON : Fld := ⟨0x0010, 1, 7, 7, false⟩
def SYS_EVT_TMP : Fld := ⟨0x0010, 1, 6, 6, false⟩
def SYS_EVT_LIF : Fld := ⟨0x0010, 1, 5, 5, false⟩
def SYS_EVT_HIF : Fld := ⟨0x0010, 1, 4, 4, false⟩
def SYS_EVT_RTC : Fld := ⟨0x0010, 1, 3, 3, false⟩
def SYS_EVT_BOOT : Fld := ⟨0x0010, 1, 2, 2, false⟩
def SYS_EVT_PWR : Fld := ⟨0x0010, 1, 1, 1, false⟩
def SYS_EVT_SYS : Fld := ⟨0x0010, 1, 0, 0, false⟩
/-- The whole of `SYS_EVT2`. -/
def SYS_EVT2 : Fld := ⟨0x0011, 1, 15, 0, false⟩
def SYS_EVT2_CX : Fld := ⟨0x0011, 1, 10, 10, false⟩
def SYS_EVT2_SLK : Fld := ⟨0x0011, 1, 9, 9, false⟩
def SYS_EVT2_SPD : Fld := ⟨0x0011, 1, 8, 8, false⟩
def SYS_EVT2_P2 : Fld := ⟨0x0011, 1, 7, 7, false⟩
def SYS_EVT2_P1 : Fld := ⟨0x0011, 1, 6, 6, false⟩
def SYS_EVT2_P0 : Fld := ⟨0x0011, 1, 5, 5, false⟩
def SYS_EVT2_MIX : Fld := ⟨0x0011, 1, 4, 4, false⟩
def SYS_EVT2_JCK : Fld := ⟨0x0011, 1, 3, 3, false⟩
def SYS_EVT2_COD : Fld := ⟨0x0011, 1, 2, 2, false⟩
def SYS_EVT2_FSP : Fld := ⟨0x0011, 1, 1, 1, false⟩
def SYS_EVT2_PRG : Fld := ⟨0x0011, 1, 0, 0, false⟩
/-- The whole of `SYS_EVM`. -/
def SYS_EVM : Fld := ⟨0x0012, 1, 15, 0, false⟩
def SYS_EVM_EN : Fld := ⟨0x0012, 1, 15, 0, false⟩
/-- The whole of `SYS_EVM2`. -/
def SYS_EVM2 : Fld := ⟨0x0013, 1, 15, 0, false⟩
def SYS_EVM2_EN : Fld := ⟨0x0013, 1, 10, 0, false⟩
/-- The whole of `SYS_OWN_EVT`. -/
def SYS_OWN_EVT : Fld := ⟨0x0014, 1, 15, 0, false⟩
def SYS_OWN_EVT_RECOVERED : Fld := ⟨0x0014, 1, 2, 2, false⟩
def SYS_OWN_EVT_TIME_STEP : Fld := ⟨0x0014, 1, 1, 1, false⟩
def SYS_OWN_EVT_EPOCH_APPLIED : Fld := ⟨0x0014, 1, 0, 0, false⟩
/-- The whole of `SYS_OWN_EVM`. -/
def SYS_OWN_EVM : Fld := ⟨0x0015, 1, 15, 0, false⟩
def SYS_OWN_EVM_EN : Fld := ⟨0x0015, 1, 2, 0, false⟩
/-- The whole of `SYS_DTIME_S1`. -/
def SYS_DTIME_S1 : Fld := ⟨0x0020, 1, 15, 0, false⟩
def SYS_DTIME_S1_SEC_HI : Fld := ⟨0x0020, 1, 15, 0, false⟩
/-- The whole of `SYS_DTIME_S0`. -/
def SYS_DTIME_S0 : Fld := ⟨0x0021, 1, 15, 0, false⟩
def SYS_DTIME_S0_SEC_LO : Fld := ⟨0x0021, 1, 15, 0, false⟩
/-- The whole of `SYS_DTIME_F1`. -/
def SYS_DTIME_F1 : Fld := ⟨0x0022, 1, 15, 0, false⟩
def SYS_DTIME_F1_FRAC_HI : Fld := ⟨0x0022, 1, 15, 0, false⟩
/-- The whole of `SYS_DTIME_F0`. -/
def SYS_DTIME_F0 : Fld := ⟨0x0023, 1, 15, 0, false⟩
def SYS_DTIME_F0_FRAC_LO : Fld := ⟨0x0023, 1, 15, 0, false⟩
/-- The whole of `PWR_DOM`. -/
def PWR_DOM : Fld := ⟨0x0040, 1, 15, 0, true⟩
def PWR_DOM_PD7 : Fld := ⟨0x0040, 1, 11, 10, true⟩
def PWR_DOM_PD6 : Fld := ⟨0x0040, 1, 9, 8, true⟩
def PWR_DOM_PD5 : Fld := ⟨0x0040, 1, 7, 6, true⟩
def PWR_DOM_PD4 : Fld := ⟨0x0040, 1, 5, 4, true⟩
def PWR_DOM_PD3 : Fld := ⟨0x0040, 1, 3, 2, true⟩
def PWR_DOM_PD2 : Fld := ⟨0x0040, 1, 1, 0, true⟩
/-- The whole of `PWR_DOM_STAT`. -/
def PWR_DOM_STAT : Fld := ⟨0x0041, 1, 15, 0, false⟩
def PWR_DOM_STAT_STATE : Fld := ⟨0x0041, 1, 11, 0, false⟩
/-- The whole of `PWR_RST_CAUSE`. -/
def PWR_RST_CAUSE : Fld := ⟨0x0042, 1, 15, 0, false⟩
def PWR_RST_CAUSE_CAUSE : Fld := ⟨0x0042, 1, 7, 0, false⟩
/-- The whole of `PWR_BO_SRC`. -/
def PWR_BO_SRC : Fld := ⟨0x0043, 1, 15, 0, false⟩
def PWR_BO_SRC_SUPPLY : Fld := ⟨0x0043, 1, 7, 0, false⟩
/-- The whole of `PWR_STAT`. -/
def PWR_STAT : Fld := ⟨0x0044, 1, 15, 0, false⟩
def PWR_STAT_VIOH_33 : Fld := ⟨0x0044, 1, 15, 15, false⟩
def PWR_STAT_VIOF_33 : Fld := ⟨0x0044, 1, 14, 14, false⟩
def PWR_STAT_VDD08 : Fld := ⟨0x0044, 1, 9, 0, false⟩
/-- The whole of `PWR_EVT`. -/
def PWR_EVT : Fld := ⟨0x0048, 1, 15, 0, false⟩
def PWR_EVT_DOM_HELD : Fld := ⟨0x0048, 1, 2, 2, false⟩
def PWR_EVT_DOM_DONE : Fld := ⟨0x0048, 1, 1, 1, false⟩
def PWR_EVT_RESET : Fld := ⟨0x0048, 1, 0, 0, false⟩
/-- The whole of `PWR_EVM`. -/
def PWR_EVM : Fld := ⟨0x0049, 1, 15, 0, false⟩
def PWR_EVM_EN : Fld := ⟨0x0049, 1, 2, 0, false⟩
/-- The whole of `BOOT_STAT`. -/
def BOOT_STAT : Fld := ⟨0x0080, 1, 15, 0, false⟩
def BOOT_STAT_NO_IMAGE : Fld := ⟨0x0080, 1, 15, 15, false⟩
def BOOT_STAT_FW_MISMATCH : Fld := ⟨0x0080, 1, 14, 14, false⟩
def BOOT_STAT_FALLBACK : Fld := ⟨0x0080, 1, 13, 13, false⟩
def BOOT_STAT_SLOW_FLASH : Fld := ⟨0x0080, 1, 12, 12, false⟩
def BOOT_STAT_WAIT_COMMIT : Fld := ⟨0x0080, 1, 11, 11, false⟩
def BOOT_STAT_IMG_WAIT : Fld := ⟨0x0080, 1, 10, 10, false⟩
def BOOT_STAT_MODE : Fld := ⟨0x0080, 1, 9, 8, false⟩
def BOOT_STAT_BANK : Fld := ⟨0x0080, 1, 7, 6, false⟩
/-- The whole of `BOOT_MISMATCH`. -/
def BOOT_MISMATCH : Fld := ⟨0x0081, 1, 15, 0, false⟩
def BOOT_MISMATCH_CLASS : Fld := ⟨0x0081, 1, 6, 0, false⟩
/-- The whole of `BOOT_SEQ_HI`. -/
def BOOT_SEQ_HI : Fld := ⟨0x0082, 1, 15, 0, false⟩
def BOOT_SEQ_HI_SEQ_HI : Fld := ⟨0x0082, 1, 15, 0, false⟩
/-- The whole of `BOOT_SEQ_LO`. -/
def BOOT_SEQ_LO : Fld := ⟨0x0083, 1, 15, 0, false⟩
def BOOT_SEQ_LO_SEQ_LO : Fld := ⟨0x0083, 1, 15, 0, false⟩
/-- The whole of `BOOT_A_RES`. -/
def BOOT_A_RES : Fld := ⟨0x0084, 1, 15, 0, false⟩
def BOOT_A_RES_CLASS : Fld := ⟨0x0084, 1, 14, 8, false⟩
def BOOT_A_RES_CODE : Fld := ⟨0x0084, 1, 3, 0, false⟩
/-- The whole of `BOOT_B_RES`. -/
def BOOT_B_RES : Fld := ⟨0x0085, 1, 15, 0, false⟩
def BOOT_B_RES_CLASS : Fld := ⟨0x0085, 1, 14, 8, false⟩
def BOOT_B_RES_CODE : Fld := ⟨0x0085, 1, 3, 0, false⟩
/-- The whole of `BOOT_H_RES`. -/
def BOOT_H_RES : Fld := ⟨0x0086, 1, 15, 0, false⟩
def BOOT_H_RES_CLASS : Fld := ⟨0x0086, 1, 14, 8, false⟩
def BOOT_H_RES_CODE : Fld := ⟨0x0086, 1, 3, 0, false⟩
/-- The whole of `BOOT_T_AUDIO`. -/
def BOOT_T_AUDIO : Fld := ⟨0x0087, 1, 15, 0, false⟩
def BOOT_T_AUDIO_MS : Fld := ⟨0x0087, 1, 15, 0, false⟩
/-- The whole of `BOOT_SKIP`. -/
def BOOT_SKIP : Fld := ⟨0x0088, 1, 15, 0, false⟩
def BOOT_SKIP_COUNT : Fld := ⟨0x0088, 1, 15, 0, false⟩
/-- The whole of `BOOT_EVT`. -/
def BOOT_EVT : Fld := ⟨0x0089, 1, 15, 0, false⟩
def BOOT_EVT_FLASH_ERR : Fld := ⟨0x0089, 1, 4, 4, false⟩
def BOOT_EVT_MBX_DONE : Fld := ⟨0x0089, 1, 3, 3, false⟩
def BOOT_EVT_FW_MISMATCH : Fld := ⟨0x0089, 1, 2, 2, false⟩
def BOOT_EVT_WAIT_COMMIT : Fld := ⟨0x0089, 1, 1, 1, false⟩
def BOOT_EVT_IMAGE_LOADED : Fld := ⟨0x0089, 1, 0, 0, false⟩
/-- The whole of `BOOT_EVM`. -/
def BOOT_EVM : Fld := ⟨0x008A, 1, 15, 0, false⟩
def BOOT_EVM_EN : Fld := ⟨0x008A, 1, 4, 0, false⟩
/-- The whole of `BOOT_FW_VER`. -/
def BOOT_FW_VER : Fld := ⟨0x0090, 3, 15, 0, false⟩
def BOOT_FW_VER_MAJOR : Fld := ⟨0x0090, 3, 15, 8, false⟩
def BOOT_FW_VER_MINOR : Fld := ⟨0x0090, 3, 7, 0, false⟩
/-- The whole of `BOOT_FW_BUILD`. -/
def BOOT_FW_BUILD : Fld := ⟨0x0091, 3, 15, 0, false⟩
def BOOT_FW_BUILD_BUILD : Fld := ⟨0x0091, 3, 15, 0, false⟩
/-- The whole of `BOOT_FW_GEN`. -/
def BOOT_FW_GEN : Fld := ⟨0x0092, 3, 15, 0, false⟩
def BOOT_FW_GEN_TADPOLE : Fld := ⟨0x0092, 3, 15, 15, false⟩
def BOOT_FW_GEN_GEN : Fld := ⟨0x0092, 3, 3, 0, false⟩
/-- The whole of `RTC_SUB`. -/
def RTC_SUB : Fld := ⟨0x00C0, 1, 15, 0, false⟩
def RTC_SUB_SUB : Fld := ⟨0x00C0, 1, 7, 0, false⟩
/-- The whole of `RTC_MS`. -/
def RTC_MS : Fld := ⟨0x00C1, 1, 15, 0, false⟩
def RTC_MS_MIN : Fld := ⟨0x00C1, 1, 13, 8, false⟩
def RTC_MS_SEC : Fld := ⟨0x00C1, 1, 5, 0, false⟩
/-- The whole of `RTC_HD`. -/
def RTC_HD : Fld := ⟨0x00C2, 1, 15, 0, false⟩
def RTC_HD_HOUR : Fld := ⟨0x00C2, 1, 12, 8, false⟩
def RTC_HD_DAY : Fld := ⟨0x00C2, 1, 4, 0, false⟩
/-- The whole of `RTC_MW`. -/
def RTC_MW : Fld := ⟨0x00C3, 1, 15, 0, false⟩
def RTC_MW_WDAY : Fld := ⟨0x00C3, 1, 10, 8, false⟩
def RTC_MW_MONTH : Fld := ⟨0x00C3, 1, 3, 0, false⟩
/-- The whole of `RTC_YEAR`. -/
def RTC_YEAR : Fld := ⟨0x00C4, 1, 15, 0, false⟩
def RTC_YEAR_YEAR : Fld := ⟨0x00C4, 1, 11, 0, false⟩
/-- The whole of `RTC_CTL`. -/
def RTC_CTL : Fld := ⟨0x00C5, 1, 15, 0, false⟩
def RTC_CTL_HALT : Fld := ⟨0x00C5, 1, 15, 15, false⟩
def RTC_CTL_HALTED : Fld := ⟨0x00C5, 1, 14, 14, false⟩
def RTC_CTL_BUSY : Fld := ⟨0x00C5, 1, 13, 13, false⟩
/-- The whole of `RTC_STAT`. -/
def RTC_STAT : Fld := ⟨0x00C6, 1, 15, 0, false⟩
def RTC_STAT_OSF : Fld := ⟨0x00C6, 1, 15, 15, false⟩
def RTC_STAT_RAM_VALID : Fld := ⟨0x00C6, 1, 14, 14, false⟩
def RTC_STAT_SUPPLY : Fld := ⟨0x00C6, 1, 13, 13, false⟩
def RTC_STAT_VBAT_LOW : Fld := ⟨0x00C6, 1, 12, 12, false⟩
def RTC_STAT_END : Fld := ⟨0x00C6, 1, 11, 11, false⟩
def RTC_STAT_RUN : Fld := ⟨0x00C6, 1, 10, 10, false⟩
/-- The whole of `RTC_TRIM`. -/
def RTC_TRIM : Fld := ⟨0x00C7, 1, 15, 0, false⟩
def RTC_TRIM_TRIM : Fld := ⟨0x00C7, 1, 15, 0, false⟩
/-- The whole of `RTC_TRIM_CFG`. -/
def RTC_TRIM_CFG : Fld := ⟨0x00C8, 1, 15, 0, true⟩
def RTC_TRIM_CFG_SRC : Fld := ⟨0x00C8, 1, 15, 14, true⟩
def RTC_TRIM_CFG_DAYS : Fld := ⟨0x00C8, 1, 11, 8, true⟩
/-- The whole of `RTC_BOFS`. -/
def RTC_BOFS : Fld := ⟨0x00C9, 1, 15, 0, false⟩
def RTC_BOFS_OFS : Fld := ⟨0x00C9, 1, 15, 0, false⟩
/-- The whole of `RTC_EVT`. -/
def RTC_EVT : Fld := ⟨0x00CA, 1, 15, 0, false⟩
def RTC_EVT_END : Fld := ⟨0x00CA, 1, 6, 6, false⟩
def RTC_EVT_VBAT_LOW : Fld := ⟨0x00CA, 1, 5, 5, false⟩
def RTC_EVT_TRIM : Fld := ⟨0x00CA, 1, 4, 4, false⟩
def RTC_EVT_COLD : Fld := ⟨0x00CA, 1, 3, 3, false⟩
def RTC_EVT_OSF : Fld := ⟨0x00CA, 1, 2, 2, false⟩
def RTC_EVT_ALM1 : Fld := ⟨0x00CA, 1, 1, 1, false⟩
def RTC_EVT_ALM0 : Fld := ⟨0x00CA, 1, 0, 0, false⟩
/-- The whole of `RTC_EVM`. -/
def RTC_EVM : Fld := ⟨0x00CB, 1, 15, 0, false⟩
def RTC_EVM_EN : Fld := ⟨0x00CB, 1, 6, 0, false⟩
/-- The whole of `RTC_ALM_MS`. -/
def RTC_ALM_MS : Fld := ⟨0x00CC, 2, 15, 0, false⟩
def RTC_ALM_MS_MIN_EN : Fld := ⟨0x00CC, 2, 15, 15, false⟩
def RTC_ALM_MS_MIN : Fld := ⟨0x00CC, 2, 13, 8, false⟩
def RTC_ALM_MS_SEC_EN : Fld := ⟨0x00CC, 2, 7, 7, false⟩
def RTC_ALM_MS_SEC : Fld := ⟨0x00CC, 2, 5, 0, false⟩
/-- The whole of `RTC_ALM_HD`. -/
def RTC_ALM_HD : Fld := ⟨0x00CD, 2, 15, 0, false⟩
def RTC_ALM_HD_EN : Fld := ⟨0x00CD, 2, 15, 15, false⟩
def RTC_ALM_HD_HOUR_EN : Fld := ⟨0x00CD, 2, 13, 13, false⟩
def RTC_ALM_HD_HOUR : Fld := ⟨0x00CD, 2, 12, 8, false⟩
def RTC_ALM_HD_DAY_EN : Fld := ⟨0x00CD, 2, 7, 7, false⟩
def RTC_ALM_HD_DAY : Fld := ⟨0x00CD, 2, 4, 0, false⟩
/-- The whole of `RTC_BRAM`. -/
def RTC_BRAM : Fld := ⟨0x00E0, 1, 15, 0, false⟩
def RTC_BRAM_DATA : Fld := ⟨0x00E0, 1, 15, 0, false⟩
/-- The whole of `HIF_CFG`. -/
def HIF_CFG : Fld := ⟨0x0100, 1, 15, 0, true⟩
def HIF_CFG_PEC_EN : Fld := ⟨0x0100, 1, 15, 15, true⟩
def HIF_CFG_INBAND : Fld := ⟨0x0100, 1, 14, 14, true⟩
def HIF_CFG_ARA_EN : Fld := ⟨0x0100, 1, 13, 13, true⟩
def HIF_CFG_TO_EN : Fld := ⟨0x0100, 1, 12, 12, true⟩
/-- The whole of `HIF_INB`. -/
def HIF_INB : Fld := ⟨0x0101, 1, 15, 0, true⟩
def HIF_INB_HOLD : Fld := ⟨0x0101, 1, 7, 0, true⟩
/-- The whole of `HIF_STAT`. -/
def HIF_STAT : Fld := ⟨0x0110, 1, 15, 0, false⟩
def HIF_STAT_ALERT : Fld := ⟨0x0110, 1, 15, 15, false⟩
def HIF_STAT_INB_HOLD : Fld := ⟨0x0110, 1, 14, 14, false⟩
def HIF_STAT_INB_WAIT : Fld := ⟨0x0110, 1, 13, 13, false⟩
def HIF_STAT_STRAP : Fld := ⟨0x0110, 1, 8, 7, false⟩
def HIF_STAT_ADDRESS : Fld := ⟨0x0110, 1, 6, 0, false⟩
/-- The whole of `HIF_PEC_ERR`. -/
def HIF_PEC_ERR : Fld := ⟨0x0111, 1, 15, 0, false⟩
def HIF_PEC_ERR_COUNT : Fld := ⟨0x0111, 1, 15, 0, false⟩
/-- The whole of `HIF_TIMEOUT`. -/
def HIF_TIMEOUT : Fld := ⟨0x0112, 1, 15, 0, false⟩
def HIF_TIMEOUT_COUNT : Fld := ⟨0x0112, 1, 15, 0, false⟩
/-- The whole of `HIF_MBX_CUT`. -/
def HIF_MBX_CUT : Fld := ⟨0x0113, 1, 15, 0, false⟩
def HIF_MBX_CUT_COUNT : Fld := ⟨0x0113, 1, 15, 0, false⟩
/-- The whole of `HIF_ARA_WON`. -/
def HIF_ARA_WON : Fld := ⟨0x0114, 1, 15, 0, false⟩
def HIF_ARA_WON_COUNT : Fld := ⟨0x0114, 1, 15, 0, false⟩
/-- The whole of `HIF_ARA_LOST`. -/
def HIF_ARA_LOST : Fld := ⟨0x0115, 1, 15, 0, false⟩
def HIF_ARA_LOST_COUNT : Fld := ⟨0x0115, 1, 15, 0, false⟩
/-- The whole of `HIF_INB_REQ`. -/
def HIF_INB_REQ : Fld := ⟨0x0116, 1, 15, 0, false⟩
def HIF_INB_REQ_COUNT : Fld := ⟨0x0116, 1, 15, 0, false⟩
/-- The whole of `HIF_INB_DEFER`. -/
def HIF_INB_DEFER : Fld := ⟨0x0117, 1, 15, 0, false⟩
def HIF_INB_DEFER_COUNT : Fld := ⟨0x0117, 1, 15, 0, false⟩
/-- The whole of `HIF_INB_TMO`. -/
def HIF_INB_TMO : Fld := ⟨0x0118, 1, 15, 0, false⟩
def HIF_INB_TMO_COUNT : Fld := ⟨0x0118, 1, 15, 0, false⟩
/-- The whole of `HIF_EVT`. -/
def HIF_EVT : Fld := ⟨0x0120, 1, 15, 0, false⟩
def HIF_EVT_INB_TMO : Fld := ⟨0x0120, 1, 3, 3, false⟩
def HIF_EVT_MBX_CUT : Fld := ⟨0x0120, 1, 2, 2, false⟩
def HIF_EVT_TIMEOUT : Fld := ⟨0x0120, 1, 1, 1, false⟩
def HIF_EVT_PEC_ERR : Fld := ⟨0x0120, 1, 0, 0, false⟩
/-- The whole of `HIF_EVM`. -/
def HIF_EVM : Fld := ⟨0x0121, 1, 15, 0, false⟩
def HIF_EVM_EN : Fld := ⟨0x0121, 1, 3, 0, false⟩
/-- The whole of `LIF_CFG`. -/
def LIF_CFG : Fld := ⟨0x0140, 1, 15, 0, true⟩
def LIF_CFG_EN : Fld := ⟨0x0140, 1, 15, 15, true⟩
def LIF_CFG_FAST : Fld := ⟨0x0140, 1, 14, 14, true⟩
/-- The whole of `LIF_TMO`. -/
def LIF_TMO : Fld := ⟨0x0141, 1, 15, 0, true⟩
def LIF_TMO_TMO : Fld := ⟨0x0141, 1, 7, 0, true⟩
/-- The whole of `LIF_RETRY`. -/
def LIF_RETRY : Fld := ⟨0x0142, 1, 15, 0, true⟩
def LIF_RETRY_RETRY : Fld := ⟨0x0142, 1, 3, 0, true⟩
/-- The whole of `LIF_CMD`. -/
def LIF_CMD : Fld := ⟨0x0143, 1, 15, 0, false⟩
def LIF_CMD_BUS_CLEAR : Fld := ⟨0x0143, 1, 8, 8, false⟩
def LIF_CMD_RUN : Fld := ⟨0x0143, 1, 7, 7, false⟩
def LIF_CMD_SCRIPT : Fld := ⟨0x0143, 1, 3, 0, false⟩
/-- The whole of `LIF_STAT`. -/
def LIF_STAT : Fld := ⟨0x0148, 1, 15, 0, false⟩
def LIF_STAT_STATE : Fld := ⟨0x0148, 1, 15, 14, false⟩
def LIF_STAT_EXT_BUSY : Fld := ⟨0x0148, 1, 13, 13, false⟩
def LIF_STAT_RUNNING : Fld := ⟨0x0148, 1, 12, 9, false⟩
def LIF_STAT_RUN : Fld := ⟨0x0148, 1, 8, 8, false⟩
def LIF_STAT_NSCR : Fld := ⟨0x0148, 1, 4, 0, false⟩
/-- The whole of `LIF_XFER`. -/
def LIF_XFER : Fld := ⟨0x0149, 1, 15, 0, false⟩
def LIF_XFER_COUNT : Fld := ⟨0x0149, 1, 15, 0, false⟩
/-- The whole of `LIF_FAIL`. -/
def LIF_FAIL : Fld := ⟨0x014A, 1, 15, 0, false⟩
def LIF_FAIL_COUNT : Fld := ⟨0x014A, 1, 15, 0, false⟩
/-- The whole of `LIF_ARB_LOST`. -/
def LIF_ARB_LOST : Fld := ⟨0x014B, 1, 15, 0, false⟩
def LIF_ARB_LOST_COUNT : Fld := ⟨0x014B, 1, 15, 0, false⟩
/-- The whole of `LIF_NACK`. -/
def LIF_NACK : Fld := ⟨0x014C, 1, 15, 0, false⟩
def LIF_NACK_COUNT : Fld := ⟨0x014C, 1, 15, 0, false⟩
/-- The whole of `LIF_TIMEOUT`. -/
def LIF_TIMEOUT : Fld := ⟨0x014D, 1, 15, 0, false⟩
def LIF_TIMEOUT_COUNT : Fld := ⟨0x014D, 1, 15, 0, false⟩
/-- The whole of `LIF_CLEARS`. -/
def LIF_CLEARS : Fld := ⟨0x014E, 1, 15, 0, false⟩
def LIF_CLEARS_COUNT : Fld := ⟨0x014E, 1, 15, 0, false⟩
/-- The whole of `LIF_EVT`. -/
def LIF_EVT : Fld := ⟨0x0150, 1, 15, 0, false⟩
def LIF_EVT_ARB : Fld := ⟨0x0150, 1, 3, 3, false⟩
def LIF_EVT_STUCK : Fld := ⟨0x0150, 1, 2, 2, false⟩
def LIF_EVT_FAIL : Fld := ⟨0x0150, 1, 1, 1, false⟩
def LIF_EVT_DONE : Fld := ⟨0x0150, 1, 0, 0, false⟩
/-- The whole of `LIF_EVM`. -/
def LIF_EVM : Fld := ⟨0x0151, 1, 15, 0, false⟩
def LIF_EVM_EN : Fld := ⟨0x0151, 1, 3, 0, false⟩
/-- The whole of `LIF_SCR`. -/
def LIF_SCR : Fld := ⟨0x0160, 1, 15, 0, false⟩
def LIF_SCR_RESULT : Fld := ⟨0x0160, 1, 15, 12, false⟩
def LIF_SCR_RUNS : Fld := ⟨0x0160, 1, 11, 0, false⟩
/-- The whole of `LIF_RES`. -/
def LIF_RES : Fld := ⟨0x0170, 1, 15, 0, false⟩
def LIF_RES_DATA : Fld := ⟨0x0170, 1, 15, 0, false⟩
/-- The whole of `TMP_CFG`. -/
def TMP_CFG : Fld := ⟨0x0180, 1, 15, 0, true⟩
def TMP_CFG_SHED : Fld := ⟨0x0180, 1, 15, 8, true⟩
def TMP_CFG_TRIP : Fld := ⟨0x0180, 1, 7, 0, true⟩
/-- The whole of `TMP_T`. -/
def TMP_T : Fld := ⟨0x0184, 1, 15, 0, false⟩
def TMP_T_TEMP : Fld := ⟨0x0184, 1, 15, 0, false⟩
/-- The whole of `TMP_MAX`. -/
def TMP_MAX : Fld := ⟨0x0188, 1, 15, 0, false⟩
def TMP_MAX_TEMP : Fld := ⟨0x0188, 1, 15, 0, false⟩
/-- The whole of `TMP_PEAK`. -/
def TMP_PEAK : Fld := ⟨0x0189, 1, 15, 0, false⟩
def TMP_PEAK_TEMP : Fld := ⟨0x0189, 1, 15, 0, false⟩
/-- The whole of `TMP_STAT`. -/
def TMP_STAT : Fld := ⟨0x018A, 1, 15, 0, false⟩
def TMP_STAT_NONE : Fld := ⟨0x018A, 1, 15, 15, false⟩
def TMP_STAT_SHEDDING : Fld := ⟨0x018A, 1, 14, 14, false⟩
def TMP_STAT_HOT : Fld := ⟨0x018A, 1, 13, 13, false⟩
def TMP_STAT_FAILED : Fld := ⟨0x018A, 1, 3, 0, false⟩
/-- The whole of `TMP_EVT`. -/
def TMP_EVT : Fld := ⟨0x0190, 1, 15, 0, false⟩
def TMP_EVT_TRIPPED : Fld := ⟨0x0190, 1, 4, 4, false⟩
def TMP_EVT_FAIL : Fld := ⟨0x0190, 1, 3, 3, false⟩
def TMP_EVT_HOT : Fld := ⟨0x0190, 1, 2, 2, false⟩
def TMP_EVT_SHED_OFF : Fld := ⟨0x0190, 1, 1, 1, false⟩
def TMP_EVT_SHED_ON : Fld := ⟨0x0190, 1, 0, 0, false⟩
/-- The whole of `TMP_EVM`. -/
def TMP_EVM : Fld := ⟨0x0191, 1, 15, 0, false⟩
def TMP_EVM_EN : Fld := ⟨0x0191, 1, 4, 0, false⟩
/-- The whole of `MON_CFG`. -/
def MON_CFG : Fld := ⟨0x01C0, 1, 15, 0, true⟩
def MON_CFG_WIN : Fld := ⟨0x01C0, 1, 15, 8, true⟩
def MON_CFG_LOG_EN : Fld := ⟨0x01C0, 1, 0, 0, true⟩
/-- The whole of `MON_CMD`. -/
def MON_CMD : Fld := ⟨0x01C1, 1, 15, 0, false⟩
def MON_CMD_RD_OLDEST : Fld := ⟨0x01C1, 1, 2, 2, false⟩
def MON_CMD_RD_NEWEST : Fld := ⟨0x01C1, 1, 1, 1, false⟩
def MON_CMD_FLUSH : Fld := ⟨0x01C1, 1, 0, 0, false⟩
/-- The whole of `MON_RD_SEQ_HI`. -/
def MON_RD_SEQ_HI : Fld := ⟨0x01C2, 1, 15, 0, false⟩
def MON_RD_SEQ_HI_SEQ : Fld := ⟨0x01C2, 1, 15, 0, false⟩
/-- The whole of `MON_RD_SEQ_LO`. -/
def MON_RD_SEQ_LO : Fld := ⟨0x01C3, 1, 15, 0, false⟩
def MON_RD_SEQ_LO_SEQ : Fld := ⟨0x01C3, 1, 15, 0, false⟩
/-- The whole of `MON_STAT`. -/
def MON_STAT : Fld := ⟨0x01C4, 1, 15, 0, false⟩
def MON_STAT_FLUSHING : Fld := ⟨0x01C4, 1, 15, 15, false⟩
def MON_STAT_LOG_STOP : Fld := ⟨0x01C4, 1, 14, 14, false⟩
def MON_STAT_FRESH : Fld := ⟨0x01C4, 1, 13, 13, false⟩
def MON_STAT_FOREIGN : Fld := ⟨0x01C4, 1, 12, 12, false⟩
def MON_STAT_RD_END : Fld := ⟨0x01C4, 1, 11, 11, false⟩
/-- The whole of `MON_LOG_POS`. -/
def MON_LOG_POS : Fld := ⟨0x01C5, 1, 15, 0, false⟩
def MON_LOG_POS_UNIT : Fld := ⟨0x01C5, 1, 11, 0, false⟩
/-- The whole of `MON_SEQ_HI`. -/
def MON_SEQ_HI : Fld := ⟨0x01C6, 1, 15, 0, false⟩
def MON_SEQ_HI_SEQ : Fld := ⟨0x01C6, 1, 15, 0, false⟩
/-- The whole of `MON_SEQ_LO`. -/
def MON_SEQ_LO : Fld := ⟨0x01C7, 1, 15, 0, false⟩
def MON_SEQ_LO_SEQ : Fld := ⟨0x01C7, 1, 15, 0, false⟩
/-- The whole of `MON_EVT`. -/
def MON_EVT : Fld := ⟨0x01C8, 1, 15, 0, false⟩
def MON_EVT_STAGE_LOST : Fld := ⟨0x01C8, 1, 6, 6, false⟩
def MON_EVT_FLUSH_DONE : Fld := ⟨0x01C8, 1, 5, 5, false⟩
def MON_EVT_CNT_LOST : Fld := ⟨0x01C8, 1, 4, 4, false⟩
def MON_EVT_LOG_ERR : Fld := ⟨0x01C8, 1, 3, 3, false⟩
def MON_EVT_ESCALATE : Fld := ⟨0x01C8, 1, 2, 2, false⟩
def MON_EVT_UNCORR : Fld := ⟨0x01C8, 1, 1, 1, false⟩
def MON_EVT_RECOVERY : Fld := ⟨0x01C8, 1, 0, 0, false⟩
/-- The whole of `MON_EVM`. -/
def MON_EVM : Fld := ⟨0x01C9, 1, 15, 0, false⟩
def MON_EVM_EN : Fld := ⟨0x01C9, 1, 6, 0, false⟩
/-- The whole of `MON_ECC_CORR`. -/
def MON_ECC_CORR : Fld := ⟨0x01D0, 1, 15, 0, false⟩
def MON_ECC_CORR_COUNT : Fld := ⟨0x01D0, 1, 15, 0, false⟩
/-- The whole of `MON_ECC_UNC`. -/
def MON_ECC_UNC : Fld := ⟨0x01D5, 1, 15, 0, false⟩
def MON_ECC_UNC_COUNT : Fld := ⟨0x01D5, 1, 15, 0, false⟩
/-- The whole of `MON_PARITY`. -/
def MON_PARITY : Fld := ⟨0x01DA, 1, 15, 0, false⟩
def MON_PARITY_COUNT : Fld := ⟨0x01DA, 1, 15, 0, false⟩
/-- The whole of `MON_SCRUB`. -/
def MON_SCRUB : Fld := ⟨0x01DB, 1, 15, 0, false⟩
def MON_SCRUB_COUNT : Fld := ⟨0x01DB, 1, 15, 0, false⟩
/-- The whole of `MON_RECOV`. -/
def MON_RECOV : Fld := ⟨0x01E0, 1, 15, 0, false⟩
def MON_RECOV_COUNT : Fld := ⟨0x01E0, 1, 15, 0, false⟩
/-- The whole of `MON_WDG`. -/
def MON_WDG : Fld := ⟨0x01E8, 1, 15, 0, false⟩
def MON_WDG_COUNT : Fld := ⟨0x01E8, 1, 15, 0, false⟩
/-- The whole of `MON_LOST_MS`. -/
def MON_LOST_MS : Fld := ⟨0x01F4, 1, 15, 0, false⟩
def MON_LOST_MS_MS : Fld := ⟨0x01F4, 1, 15, 0, false⟩
/-- The whole of `CLK_SPL_CFG`. -/
def CLK_SPL_CFG : Fld := ⟨0x0200, 1, 15, 0, true⟩
def CLK_SPL_CFG_REFMUL : Fld := ⟨0x0200, 1, 9, 8, true⟩
def CLK_SPL_CFG_BW : Fld := ⟨0x0200, 1, 2, 0, true⟩
/-- The whole of `CLK_SPL_LOCK`. -/
def CLK_SPL_LOCK : Fld := ⟨0x0201, 1, 15, 0, true⟩
def CLK_SPL_LOCK_LOSS : Fld := ⟨0x0201, 1, 15, 12, true⟩
def CLK_SPL_LOCK_WIN : Fld := ⟨0x0201, 1, 11, 8, true⟩
def CLK_SPL_LOCK_GOOD : Fld := ⟨0x0201, 1, 7, 4, true⟩
def CLK_SPL_LOCK_TOL : Fld := ⟨0x0201, 1, 3, 0, true⟩
/-- The whole of `CLK_SPL_TRIM`. -/
def CLK_SPL_TRIM : Fld := ⟨0x0202, 1, 15, 0, true⟩
def CLK_SPL_TRIM_TRIM : Fld := ⟨0x0202, 1, 15, 0, true⟩
/-- The whole of `CLK_APL_CFG`. -/
def CLK_APL_CFG : Fld := ⟨0x0203, 1, 15, 0, true⟩
def CLK_APL_CFG_DISC : Fld := ⟨0x0203, 1, 1, 1, true⟩
def CLK_APL_CFG_FAM : Fld := ⟨0x0203, 1, 0, 0, true⟩
/-- The whole of `CLK_APL_LOCK`. -/
def CLK_APL_LOCK : Fld := ⟨0x0204, 1, 15, 0, true⟩
def CLK_APL_LOCK_LOSS : Fld := ⟨0x0204, 1, 15, 12, true⟩
def CLK_APL_LOCK_WIN : Fld := ⟨0x0204, 1, 11, 8, true⟩
def CLK_APL_LOCK_GOOD : Fld := ⟨0x0204, 1, 7, 4, true⟩
def CLK_APL_LOCK_TOL : Fld := ⟨0x0204, 1, 3, 0, true⟩
/-- The whole of `CLK_REF_CFG`. -/
def CLK_REF_CFG : Fld := ⟨0x0205, 1, 15, 0, true⟩
def CLK_REF_CFG_TOL : Fld := ⟨0x0205, 1, 15, 8, true⟩
def CLK_REF_CFG_FREQ : Fld := ⟨0x0205, 1, 2, 0, true⟩
/-- The whole of `CLK_PPS_CFG`. -/
def CLK_PPS_CFG : Fld := ⟨0x0206, 1, 15, 0, true⟩
def CLK_PPS_CFG_POL : Fld := ⟨0x0206, 1, 15, 15, true⟩
def CLK_PPS_CFG_MISS : Fld := ⟨0x0206, 1, 11, 8, true⟩
def CLK_PPS_CFG_WIN : Fld := ⟨0x0206, 1, 7, 0, true⟩
/-- The whole of `CLK_DISC`. -/
def CLK_DISC : Fld := ⟨0x0207, 1, 15, 0, true⟩
def CLK_DISC_SRC : Fld := ⟨0x0207, 1, 15, 14, true⟩
def CLK_DISC_MODE : Fld := ⟨0x0207, 1, 12, 12, true⟩
def CLK_DISC_TC : Fld := ⟨0x0207, 1, 11, 8, true⟩
/-- The whole of `CLK_DISC2`. -/
def CLK_DISC2 : Fld := ⟨0x0208, 1, 15, 0, true⟩
def CLK_DISC2_SLEW : Fld := ⟨0x0208, 1, 15, 8, true⟩
def CLK_DISC2_RAMP : Fld := ⟨0x0208, 1, 7, 0, true⟩
/-- The whole of `CLK_CMD`. -/
def CLK_CMD : Fld := ⟨0x0209, 1, 15, 0, false⟩
def CLK_CMD_DISC_RESTART : Fld := ⟨0x0209, 1, 2, 2, false⟩
def CLK_CMD_APL_RELOCK : Fld := ⟨0x0209, 1, 1, 1, false⟩
def CLK_CMD_SPL_RELOCK : Fld := ⟨0x0209, 1, 0, 0, false⟩
/-- The whole of `CLK_STAT`. -/
def CLK_STAT : Fld := ⟨0x0210, 1, 15, 0, false⟩
def CLK_STAT_SPL : Fld := ⟨0x0210, 1, 15, 14, false⟩
def CLK_STAT_APL : Fld := ⟨0x0210, 1, 13, 12, false⟩
def CLK_STAT_REF_OK : Fld := ⟨0x0210, 1, 11, 11, false⟩
def CLK_STAT_PPS_OK : Fld := ⟨0x0210, 1, 10, 10, false⟩
def CLK_STAT_DISC : Fld := ⟨0x0210, 1, 9, 8, false⟩
def CLK_STAT_SLEWING : Fld := ⟨0x0210, 1, 7, 7, false⟩
def CLK_STAT_ALIGNED : Fld := ⟨0x0210, 1, 6, 6, false⟩
def CLK_STAT_LIMIT : Fld := ⟨0x0210, 1, 5, 5, false⟩
/-- The whole of `CLK_BAND`. -/
def CLK_BAND : Fld := ⟨0x0211, 1, 15, 0, false⟩
def CLK_BAND_SPL : Fld := ⟨0x0211, 1, 13, 8, false⟩
def CLK_BAND_APL : Fld := ⟨0x0211, 1, 4, 0, false⟩
/-- The whole of `CLK_DISC_PPM`. -/
def CLK_DISC_PPM : Fld := ⟨0x0212, 1, 15, 0, false⟩
def CLK_DISC_PPM_PPM : Fld := ⟨0x0212, 1, 15, 0, false⟩
/-- The whole of `CLK_APL_PPM`. -/
def CLK_APL_PPM : Fld := ⟨0x0213, 1, 15, 0, false⟩
def CLK_APL_PPM_PPM : Fld := ⟨0x0213, 1, 15, 0, false⟩
/-- The whole of `CLK_PHASE_HI`. -/
def CLK_PHASE_HI : Fld := ⟨0x0214, 1, 15, 0, false⟩
def CLK_PHASE_HI_NS : Fld := ⟨0x0214, 1, 15, 0, false⟩
/-- The whole of `CLK_PHASE_LO`. -/
def CLK_PHASE_LO : Fld := ⟨0x0215, 1, 15, 0, false⟩
def CLK_PHASE_LO_NS : Fld := ⟨0x0215, 1, 15, 0, false⟩
/-- The whole of `CLK_THETA_HI`. -/
def CLK_THETA_HI : Fld := ⟨0x0216, 1, 15, 0, false⟩
def CLK_THETA_HI_NS : Fld := ⟨0x0216, 1, 15, 0, false⟩
/-- The whole of `CLK_THETA_LO`. -/
def CLK_THETA_LO : Fld := ⟨0x0217, 1, 15, 0, false⟩
def CLK_THETA_LO_NS : Fld := ⟨0x0217, 1, 15, 0, false⟩
/-- The whole of `CLK_REF_MEAS`. -/
def CLK_REF_MEAS : Fld := ⟨0x0218, 1, 15, 0, false⟩
def CLK_REF_MEAS_PPM : Fld := ⟨0x0218, 1, 15, 0, false⟩
/-- The whole of `CLK_SPL_UNLOCKS`. -/
def CLK_SPL_UNLOCKS : Fld := ⟨0x0219, 1, 15, 0, false⟩
def CLK_SPL_UNLOCKS_COUNT : Fld := ⟨0x0219, 1, 15, 0, false⟩
/-- The whole of `CLK_APL_UNLOCKS`. -/
def CLK_APL_UNLOCKS : Fld := ⟨0x021A, 1, 15, 0, false⟩
def CLK_APL_UNLOCKS_COUNT : Fld := ⟨0x021A, 1, 15, 0, false⟩
/-- The whole of `CLK_REF_LOSSES`. -/
def CLK_REF_LOSSES : Fld := ⟨0x021B, 1, 15, 0, false⟩
def CLK_REF_LOSSES_COUNT : Fld := ⟨0x021B, 1, 15, 0, false⟩
/-- The whole of `CLK_PPS_LOSSES`. -/
def CLK_PPS_LOSSES : Fld := ⟨0x021C, 1, 15, 0, false⟩
def CLK_PPS_LOSSES_COUNT : Fld := ⟨0x021C, 1, 15, 0, false⟩
/-- The whole of `CLK_JUMPS`. -/
def CLK_JUMPS : Fld := ⟨0x021D, 1, 15, 0, false⟩
def CLK_JUMPS_COUNT : Fld := ⟨0x021D, 1, 15, 0, false⟩
/-- The whole of `CLK_EVT`. -/
def CLK_EVT : Fld := ⟨0x0220, 1, 15, 0, false⟩
def CLK_EVT_LIMIT : Fld := ⟨0x0220, 1, 14, 14, false⟩
def CLK_EVT_ALIGNED : Fld := ⟨0x0220, 1, 13, 13, false⟩
def CLK_EVT_JUMP : Fld := ⟨0x0220, 1, 12, 12, false⟩
def CLK_EVT_COAST : Fld := ⟨0x0220, 1, 11, 11, false⟩
def CLK_EVT_DISC_LOCK : Fld := ⟨0x0220, 1, 10, 10, false⟩
def CLK_EVT_PPS_LOSS : Fld := ⟨0x0220, 1, 9, 9, false⟩
def CLK_EVT_PPS_UP : Fld := ⟨0x0220, 1, 8, 8, false⟩
def CLK_EVT_REF_LOSS : Fld := ⟨0x0220, 1, 7, 7, false⟩
def CLK_EVT_REF_UP : Fld := ⟨0x0220, 1, 6, 6, false⟩
def CLK_EVT_APL_FAIL : Fld := ⟨0x0220, 1, 5, 5, false⟩
def CLK_EVT_APL_UNLOCK : Fld := ⟨0x0220, 1, 4, 4, false⟩
def CLK_EVT_APL_LOCK : Fld := ⟨0x0220, 1, 3, 3, false⟩
def CLK_EVT_SPL_FAIL : Fld := ⟨0x0220, 1, 2, 2, false⟩
def CLK_EVT_SPL_UNLOCK : Fld := ⟨0x0220, 1, 1, 1, false⟩
def CLK_EVT_SPL_LOCK : Fld := ⟨0x0220, 1, 0, 0, false⟩
/-- The whole of `CLK_EVM`. -/
def CLK_EVM : Fld := ⟨0x0221, 1, 15, 0, false⟩
def CLK_EVM_EN : Fld := ⟨0x0221, 1, 14, 0, false⟩
/-- The whole of `CLK_SPL_BAND`. -/
def CLK_SPL_BAND : Fld := ⟨0x0240, 1, 15, 0, true⟩
def CLK_SPL_BAND_CENTRE : Fld := ⟨0x0240, 1, 11, 0, true⟩
/-- The whole of `CLK_APL_BAND`. -/
def CLK_APL_BAND : Fld := ⟨0x0280, 1, 15, 0, true⟩
def CLK_APL_BAND_CENTRE : Fld := ⟨0x0280, 1, 11, 0, true⟩
/-- The whole of `CLKOUT_CFG`. -/
def CLKOUT_CFG : Fld := ⟨0x02A0, 4, 15, 0, true⟩
def CLKOUT_CFG_EN : Fld := ⟨0x02A0, 4, 15, 15, true⟩
def CLKOUT_CFG_SRC : Fld := ⟨0x02A0, 4, 14, 14, true⟩
def CLKOUT_CFG_SEC : Fld := ⟨0x02A0, 4, 13, 13, true⟩
def CLKOUT_CFG_COARSE : Fld := ⟨0x02A0, 4, 7, 0, true⟩
/-- The whole of `CLKOUT_DIV`. -/
def CLKOUT_DIV : Fld := ⟨0x02A1, 4, 15, 0, true⟩
def CLKOUT_DIV_DIV : Fld := ⟨0x02A1, 4, 12, 0, true⟩
/-- The whole of `CLKOUT_FINE`. -/
def CLKOUT_FINE : Fld := ⟨0x02A2, 4, 15, 0, false⟩
def CLKOUT_FINE_STEPPING : Fld := ⟨0x02A2, 4, 15, 15, false⟩
def CLKOUT_FINE_FINE : Fld := ⟨0x02A2, 4, 5, 0, false⟩
/-- The whole of `CLKOUT_STAT`. -/
def CLKOUT_STAT : Fld := ⟨0x02A3, 4, 15, 0, false⟩
def CLKOUT_STAT_STATE : Fld := ⟨0x02A3, 4, 15, 14, false⟩
def CLKOUT_STAT_SEC_OK : Fld := ⟨0x02A3, 4, 13, 13, false⟩
def CLKOUT_STAT_FINE : Fld := ⟨0x02A3, 4, 5, 0, false⟩
/-- The whole of `GPIO_CFG`. -/
def GPIO_CFG : Fld := ⟨0x02C0, 1, 15, 0, true⟩
def GPIO_CFG_FUNC : Fld := ⟨0x02C0, 1, 15, 13, true⟩
def GPIO_CFG_OD : Fld := ⟨0x02C0, 1, 12, 12, true⟩
def GPIO_CFG_PULL : Fld := ⟨0x02C0, 1, 11, 10, true⟩
def GPIO_CFG_INV : Fld := ⟨0x02C0, 1, 9, 9, true⟩
def GPIO_CFG_EDGE : Fld := ⟨0x02C0, 1, 7, 6, true⟩
def GPIO_CFG_SEL : Fld := ⟨0x02C0, 1, 5, 0, true⟩
/-- The whole of `GPIO_OUT`. -/
def GPIO_OUT : Fld := ⟨0x02D0, 1, 15, 0, false⟩
def GPIO_OUT_OUT : Fld := ⟨0x02D0, 1, 11, 0, false⟩
/-- The whole of `GPIO_IN`. -/
def GPIO_IN : Fld := ⟨0x02D1, 1, 15, 0, false⟩
def GPIO_IN_IN : Fld := ⟨0x02D1, 1, 11, 0, false⟩
/-- The whole of `GPIO_EVT`. -/
def GPIO_EVT : Fld := ⟨0x02D2, 1, 15, 0, false⟩
def GPIO_EVT_EDGE : Fld := ⟨0x02D2, 1, 11, 0, false⟩
/-- The whole of `GPIO_EVM`. -/
def GPIO_EVM : Fld := ⟨0x02D3, 1, 15, 0, false⟩
def GPIO_EVM_EN : Fld := ⟨0x02D3, 1, 11, 0, false⟩
/-- The whole of `AFE_CFG`. -/
def AFE_CFG : Fld := ⟨0x0300, 64, 15, 0, true⟩
def AFE_CFG_WGC_MODE : Fld := ⟨0x0300, 64, 9, 8, true⟩
def AFE_CFG_LNA_MODE : Fld := ⟨0x0300, 64, 4, 4, true⟩
def AFE_CFG_ZIN : Fld := ⟨0x0300, 64, 0, 0, true⟩
/-- The whole of `AFE_ATT_MAN`. -/
def AFE_ATT_MAN : Fld := ⟨0x0301, 64, 15, 0, true⟩
def AFE_ATT_MAN_ATT : Fld := ⟨0x0301, 64, 4, 0, true⟩
/-- The whole of `AFE_ATT_LIM`. -/
def AFE_ATT_LIM : Fld := ⟨0x0302, 64, 15, 0, true⟩
def AFE_ATT_LIM_MAX : Fld := ⟨0x0302, 64, 12, 8, true⟩
def AFE_ATT_LIM_MIN : Fld := ⟨0x0302, 64, 4, 0, true⟩
/-- The whole of `AFE_WGC_TH`. -/
def AFE_WGC_TH : Fld := ⟨0x0303, 64, 15, 0, true⟩
def AFE_WGC_TH_UP : Fld := ⟨0x0303, 64, 15, 8, true⟩
def AFE_WGC_TH_DN : Fld := ⟨0x0303, 64, 7, 0, true⟩
/-- The whole of `AFE_WGC_TIME`. -/
def AFE_WGC_TIME : Fld := ⟨0x0304, 64, 15, 0, true⟩
def AFE_WGC_TIME_HOLD : Fld := ⟨0x0304, 64, 15, 8, true⟩
def AFE_WGC_TIME_INTERVAL : Fld := ⟨0x0304, 64, 7, 0, true⟩
/-- The whole of `AFE_OVL_CFG`. -/
def AFE_OVL_CFG : Fld := ⟨0x0305, 64, 15, 0, true⟩
def AFE_OVL_CFG_STEP : Fld := ⟨0x0305, 64, 12, 8, true⟩
def AFE_OVL_CFG_CNT : Fld := ⟨0x0305, 64, 7, 0, true⟩
/-- The whole of `AFE_ANT_GAIN`. -/
def AFE_ANT_GAIN : Fld := ⟨0x0306, 64, 15, 0, true⟩
def AFE_ANT_GAIN_GAIN : Fld := ⟨0x0306, 64, 15, 0, true⟩
/-- The whole of `AFE_PH_CFG`. -/
def AFE_PH_CFG : Fld := ⟨0x0307, 64, 15, 0, true⟩
def AFE_PH_CFG_PH_EN : Fld := ⟨0x0307, 64, 15, 15, true⟩
def AFE_PH_CFG_AUTO_OFF : Fld := ⟨0x0307, 64, 14, 14, true⟩
def AFE_PH_CFG_SETTLE : Fld := ⟨0x0307, 64, 5, 0, true⟩
/-- The whole of `AFE_PH_TIME`. -/
def AFE_PH_TIME : Fld := ⟨0x0308, 64, 15, 0, true⟩
def AFE_PH_TIME_RETRY : Fld := ⟨0x0308, 64, 15, 8, true⟩
def AFE_PH_TIME_DEB : Fld := ⟨0x0308, 64, 7, 4, true⟩
/-- The whole of `AFE_PH_TH`. -/
def AFE_PH_TH : Fld := ⟨0x0309, 64, 15, 0, true⟩
def AFE_PH_TH_OC : Fld := ⟨0x0309, 64, 15, 8, true⟩
def AFE_PH_TH_OL : Fld := ⟨0x0309, 64, 7, 0, true⟩
/-- The whole of `AFE_CMD`. -/
def AFE_CMD : Fld := ⟨0x030A, 64, 15, 0, false⟩
def AFE_CMD_REACQUIRE : Fld := ⟨0x030A, 64, 1, 1, false⟩
def AFE_CMD_PH_RESTART : Fld := ⟨0x030A, 64, 0, 0, false⟩
/-- The whole of `AFE_STAT`. -/
def AFE_STAT : Fld := ⟨0x0310, 64, 15, 0, false⟩
def AFE_STAT_SAMPLING : Fld := ⟨0x0310, 64, 15, 15, false⟩
def AFE_STAT_PH_STATE : Fld := ⟨0x0310, 64, 14, 12, false⟩
def AFE_STAT_ACQ : Fld := ⟨0x0310, 64, 8, 8, false⟩
def AFE_STAT_ATT : Fld := ⟨0x0310, 64, 4, 0, false⟩
/-- The whole of `AFE_PEAK`. -/
def AFE_PEAK : Fld := ⟨0x0311, 64, 15, 0, false⟩
def AFE_PEAK_PEAK : Fld := ⟨0x0311, 64, 15, 0, false⟩
/-- The whole of `AFE_POWER`. -/
def AFE_POWER : Fld := ⟨0x0312, 64, 15, 0, false⟩
def AFE_POWER_POWER : Fld := ⟨0x0312, 64, 15, 0, false⟩
/-- The whole of `AFE_SNS`. -/
def AFE_SNS : Fld := ⟨0x0313, 64, 15, 0, false⟩
def AFE_SNS_MV : Fld := ⟨0x0313, 64, 10, 0, false⟩
/-- The whole of `AFE_OVL_SEC`. -/
def AFE_OVL_SEC : Fld := ⟨0x0314, 64, 15, 0, false⟩
def AFE_OVL_SEC_COUNT : Fld := ⟨0x0314, 64, 15, 0, false⟩
/-- The whole of `AFE_OVL_BLANK`. -/
def AFE_OVL_BLANK : Fld := ⟨0x0315, 64, 15, 0, false⟩
def AFE_OVL_BLANK_COUNT : Fld := ⟨0x0315, 64, 15, 0, false⟩
/-- The whole of `AFE_ATT_STEPS`. -/
def AFE_ATT_STEPS : Fld := ⟨0x0316, 64, 15, 0, false⟩
def AFE_ATT_STEPS_COUNT : Fld := ⟨0x0316, 64, 15, 0, false⟩
/-- The whole of `AFE_PH_TRIPS`. -/
def AFE_PH_TRIPS : Fld := ⟨0x0317, 64, 15, 0, false⟩
def AFE_PH_TRIPS_COUNT : Fld := ⟨0x0317, 64, 15, 0, false⟩
/-- The whole of `AFE_EVT`. -/
def AFE_EVT : Fld := ⟨0x0318, 64, 15, 0, false⟩
def AFE_EVT_INPUT_UP : Fld := ⟨0x0318, 64, 5, 5, false⟩
def AFE_EVT_PH_OK : Fld := ⟨0x0318, 64, 4, 4, false⟩
def AFE_EVT_PH_OC : Fld := ⟨0x0318, 64, 3, 3, false⟩
def AFE_EVT_PH_OPEN : Fld := ⟨0x0318, 64, 2, 2, false⟩
def AFE_EVT_SATURATED : Fld := ⟨0x0318, 64, 1, 1, false⟩
def AFE_EVT_OVERLOAD : Fld := ⟨0x0318, 64, 0, 0, false⟩
/-- The whole of `AFE_EVM`. -/
def AFE_EVM : Fld := ⟨0x0319, 64, 15, 0, false⟩
def AFE_EVM_EN : Fld := ⟨0x0319, 64, 5, 0, false⟩
/-- The whole of `BIC_CFG`. -/
def BIC_CFG : Fld := ⟨0x0380, 1, 15, 0, true⟩
def BIC_CFG_WIN : Fld := ⟨0x0380, 1, 12, 8, true⟩
def BIC_CFG_COMMIT : Fld := ⟨0x0380, 1, 5, 4, true⟩
def BIC_CFG_EN_B : Fld := ⟨0x0380, 1, 1, 1, true⟩
def BIC_CFG_EN_A : Fld := ⟨0x0380, 1, 0, 0, true⟩
/-- The whole of `BIC_TOL`. -/
def BIC_TOL : Fld := ⟨0x0381, 1, 15, 0, true⟩
def BIC_TOL_OFS : Fld := ⟨0x0381, 1, 15, 8, true⟩
def BIC_TOL_GAIN : Fld := ⟨0x0381, 1, 7, 0, true⟩
/-- The whole of `BIC_TOL2`. -/
def BIC_TOL2 : Fld := ⟨0x0382, 1, 15, 0, true⟩
def BIC_TOL2_SKEW : Fld := ⟨0x0382, 1, 15, 8, true⟩
def BIC_TOL2_IMG_MIN : Fld := ⟨0x0382, 1, 7, 0, true⟩
/-- The whole of `BIC_PRE`. -/
def BIC_PRE : Fld := ⟨0x0383, 1, 15, 0, true⟩
def BIC_PRE_PWR_MIN : Fld := ⟨0x0383, 1, 15, 8, true⟩
def BIC_PRE_FLAT_MIN : Fld := ⟨0x0383, 1, 7, 0, true⟩
/-- The whole of `BIC_PRE2`. -/
def BIC_PRE2 : Fld := ⟨0x0384, 1, 15, 0, true⟩
def BIC_PRE2_OVL_MAX : Fld := ⟨0x0384, 1, 7, 0, true⟩
/-- The whole of `BIC_REF`. -/
def BIC_REF : Fld := ⟨0x0385, 1, 15, 0, true⟩
def BIC_REF_TMO : Fld := ⟨0x0385, 1, 15, 8, true⟩
def BIC_REF_BLOCK : Fld := ⟨0x0385, 1, 5, 0, true⟩
/-- The whole of `BIC_JNL`. -/
def BIC_JNL : Fld := ⟨0x0386, 1, 15, 0, true⟩
def BIC_JNL_MIN_INT : Fld := ⟨0x0386, 1, 7, 0, true⟩
/-- The whole of `BIC_CMD`. -/
def BIC_CMD : Fld := ⟨0x0387, 1, 15, 0, false⟩
def BIC_CMD_FACTORY_B : Fld := ⟨0x0387, 1, 3, 3, false⟩
def BIC_CMD_FACTORY_A : Fld := ⟨0x0387, 1, 2, 2, false⟩
def BIC_CMD_RESTART_B : Fld := ⟨0x0387, 1, 1, 1, false⟩
def BIC_CMD_RESTART_A : Fld := ⟨0x0387, 1, 0, 0, false⟩
/-- The whole of `BIC_EVT`. -/
def BIC_EVT : Fld := ⟨0x0388, 1, 15, 0, false⟩
def BIC_EVT_JNL_ERR : Fld := ⟨0x0388, 1, 8, 8, false⟩
def BIC_EVT_TMO_B : Fld := ⟨0x0388, 1, 7, 7, false⟩
def BIC_EVT_TMO_A : Fld := ⟨0x0388, 1, 6, 6, false⟩
def BIC_EVT_RANGE_B : Fld := ⟨0x0388, 1, 5, 5, false⟩
def BIC_EVT_RANGE_A : Fld := ⟨0x0388, 1, 4, 4, false⟩
def BIC_EVT_REVERT_B : Fld := ⟨0x0388, 1, 3, 3, false⟩
def BIC_EVT_REVERT_A : Fld := ⟨0x0388, 1, 2, 2, false⟩
def BIC_EVT_COMMIT_B : Fld := ⟨0x0388, 1, 1, 1, false⟩
def BIC_EVT_COMMIT_A : Fld := ⟨0x0388, 1, 0, 0, false⟩
/-- The whole of `BIC_EVM`. -/
def BIC_EVM : Fld := ⟨0x0389, 1, 15, 0, false⟩
def BIC_EVM_EN : Fld := ⟨0x0389, 1, 8, 0, false⟩
/-- The whole of `BIC_JNL_STAT`. -/
def BIC_JNL_STAT : Fld := ⟨0x038A, 1, 15, 0, false⟩
def BIC_JNL_STAT_STOPPED : Fld := ⟨0x038A, 1, 15, 15, false⟩
def BIC_JNL_STAT_SLOT : Fld := ⟨0x038A, 1, 14, 14, false⟩
def BIC_JNL_STAT_POS : Fld := ⟨0x038A, 1, 8, 0, false⟩
/-- The whole of `BICX_STAT`. -/
def BICX_STAT : Fld := ⟨0x0390, 16, 15, 0, false⟩
def BICX_STAT_LAST_REJ : Fld := ⟨0x0390, 16, 11, 8, false⟩
def BICX_STAT_SRC : Fld := ⟨0x0390, 16, 5, 4, false⟩
def BICX_STAT_STATE : Fld := ⟨0x0390, 16, 2, 0, false⟩
/-- The whole of `BICX_WINDOWS`. -/
def BICX_WINDOWS : Fld := ⟨0x0391, 16, 15, 0, false⟩
def BICX_WINDOWS_COUNT : Fld := ⟨0x0391, 16, 15, 0, false⟩
/-- The whole of `BICX_COMMITS`. -/
def BICX_COMMITS : Fld := ⟨0x0392, 16, 15, 0, false⟩
def BICX_COMMITS_COUNT : Fld := ⟨0x0392, 16, 15, 0, false⟩
/-- The whole of `BICX_NO_CHANGE`. -/
def BICX_NO_CHANGE : Fld := ⟨0x0393, 16, 15, 0, false⟩
def BICX_NO_CHANGE_COUNT : Fld := ⟨0x0393, 16, 15, 0, false⟩
/-- The whole of `BICX_REJ_PRE`. -/
def BICX_REJ_PRE : Fld := ⟨0x0394, 16, 15, 0, false⟩
def BICX_REJ_PRE_COUNT : Fld := ⟨0x0394, 16, 15, 0, false⟩
/-- The whole of `BICX_REJ_AGREE`. -/
def BICX_REJ_AGREE : Fld := ⟨0x0395, 16, 15, 0, false⟩
def BICX_REJ_AGREE_COUNT : Fld := ⟨0x0395, 16, 15, 0, false⟩
/-- The whole of `BICX_REJ_RANGE`. -/
def BICX_REJ_RANGE : Fld := ⟨0x0396, 16, 15, 0, false⟩
def BICX_REJ_RANGE_COUNT : Fld := ⟨0x0396, 16, 15, 0, false⟩
/-- The whole of `BICX_REVERT`. -/
def BICX_REVERT : Fld := ⟨0x0397, 16, 15, 0, false⟩
def BICX_REVERT_COUNT : Fld := ⟨0x0397, 16, 15, 0, false⟩
/-- The whole of `BICX_TMO`. -/
def BICX_TMO : Fld := ⟨0x0398, 16, 15, 0, false⟩
def BICX_TMO_COUNT : Fld := ⟨0x0398, 16, 15, 0, false⟩
/-- The whole of `BICX_LAST_S_HI`. -/
def BICX_LAST_S_HI : Fld := ⟨0x0399, 16, 15, 0, false⟩
def BICX_LAST_S_HI_SEC : Fld := ⟨0x0399, 16, 15, 0, false⟩
/-- The whole of `BICX_LAST_S_LO`. -/
def BICX_LAST_S_LO : Fld := ⟨0x039A, 16, 15, 0, false⟩
def BICX_LAST_S_LO_SEC : Fld := ⟨0x039A, 16, 15, 0, false⟩
/-- The whole of `BICX_IMG`. -/
def BICX_IMG : Fld := ⟨0x039B, 16, 15, 0, false⟩
def BICX_IMG_LEVEL : Fld := ⟨0x039B, 16, 15, 0, false⟩
/-- The whole of `BICX_OFS`. -/
def BICX_OFS : Fld := ⟨0x039C, 16, 15, 0, false⟩
def BICX_OFS_LEVEL : Fld := ⟨0x039C, 16, 15, 0, false⟩
/-- The whole of `BICX_FLAT`. -/
def BICX_FLAT : Fld := ⟨0x039D, 16, 15, 0, false⟩
def BICX_FLAT_FLAT : Fld := ⟨0x039D, 16, 7, 0, false⟩
/-- The whole of `BIC_CORR_SEL`. -/
def BIC_CORR_SEL : Fld := ⟨0x03B0, 1, 15, 0, false⟩
def BIC_CORR_SEL_INPUT : Fld := ⟨0x03B0, 1, 8, 8, false⟩
def BIC_CORR_SEL_LANE : Fld := ⟨0x03B0, 1, 2, 0, false⟩
/-- The whole of `BIC_CORR_OFS`. -/
def BIC_CORR_OFS : Fld := ⟨0x03B1, 1, 15, 0, false⟩
def BIC_CORR_OFS_VALUE : Fld := ⟨0x03B1, 1, 15, 0, false⟩
/-- The whole of `BIC_CORR_GAIN`. -/
def BIC_CORR_GAIN : Fld := ⟨0x03B2, 1, 15, 0, false⟩
def BIC_CORR_GAIN_VALUE : Fld := ⟨0x03B2, 1, 15, 0, false⟩
/-- The whole of `BIC_CORR_SKEW`. -/
def BIC_CORR_SKEW : Fld := ⟨0x03B3, 1, 15, 0, false⟩
def BIC_CORR_SKEW_VALUE : Fld := ⟨0x03B3, 1, 15, 0, false⟩
/-- The whole of `SCN_CFG`. -/
def SCN_CFG : Fld := ⟨0x03C0, 1, 15, 0, true⟩
def SCN_CFG_NFFT : Fld := ⟨0x03C0, 1, 15, 8, true⟩
def SCN_CFG_MODE : Fld := ⟨0x03C0, 1, 2, 2, true⟩
def SCN_CFG_EN_B : Fld := ⟨0x03C0, 1, 1, 1, true⟩
def SCN_CFG_EN_A : Fld := ⟨0x03C0, 1, 0, 0, true⟩
/-- The whole of `SCN_PERIOD`. -/
def SCN_PERIOD : Fld := ⟨0x03C1, 1, 15, 0, true⟩
def SCN_PERIOD_PERIOD : Fld := ⟨0x03C1, 1, 7, 0, true⟩
/-- The whole of `SCN_STAT_A`. -/
def SCN_STAT_A : Fld := ⟨0x03C2, 1, 15, 0, false⟩
def SCN_STAT_A_VALID : Fld := ⟨0x03C2, 1, 15, 15, false⟩
def SCN_STAT_A_BLANKED : Fld := ⟨0x03C2, 1, 14, 14, false⟩
def SCN_STAT_A_OVL : Fld := ⟨0x03C2, 1, 13, 13, false⟩
def SCN_STAT_A_USED : Fld := ⟨0x03C2, 1, 7, 0, false⟩
/-- The whole of `SCN_STAT_B`. -/
def SCN_STAT_B : Fld := ⟨0x03C3, 1, 15, 0, false⟩
def SCN_STAT_B_VALID : Fld := ⟨0x03C3, 1, 15, 15, false⟩
def SCN_STAT_B_BLANKED : Fld := ⟨0x03C3, 1, 14, 14, false⟩
def SCN_STAT_B_OVL : Fld := ⟨0x03C3, 1, 13, 13, false⟩
def SCN_STAT_B_USED : Fld := ⟨0x03C3, 1, 7, 0, false⟩
/-- The whole of `SCN_CNT_A`. -/
def SCN_CNT_A : Fld := ⟨0x03C4, 1, 15, 0, false⟩
def SCN_CNT_A_COUNT : Fld := ⟨0x03C4, 1, 15, 0, false⟩
/-- The whole of `SCN_CNT_B`. -/
def SCN_CNT_B : Fld := ⟨0x03C5, 1, 15, 0, false⟩
def SCN_CNT_B_COUNT : Fld := ⟨0x03C5, 1, 15, 0, false⟩
/-- The whole of `SCN_EVT`. -/
def SCN_EVT : Fld := ⟨0x03C6, 1, 15, 0, false⟩
def SCN_EVT_OVL_B : Fld := ⟨0x03C6, 1, 3, 3, false⟩
def SCN_EVT_OVL_A : Fld := ⟨0x03C6, 1, 2, 2, false⟩
def SCN_EVT_NEW_B : Fld := ⟨0x03C6, 1, 1, 1, false⟩
def SCN_EVT_NEW_A : Fld := ⟨0x03C6, 1, 0, 0, false⟩
/-- The whole of `SCN_EVM`. -/
def SCN_EVM : Fld := ⟨0x03C7, 1, 15, 0, false⟩
def SCN_EVM_EN : Fld := ⟨0x03C7, 1, 3, 0, false⟩
/-- The whole of `SCN_WIN_SEL`. -/
def SCN_WIN_SEL : Fld := ⟨0x03C8, 1, 15, 0, false⟩
def SCN_WIN_SEL_INPUT : Fld := ⟨0x03C8, 1, 15, 15, false⟩
def SCN_WIN_SEL_PAGE : Fld := ⟨0x03C8, 1, 8, 0, false⟩
/-- The whole of `SCN_WIN_SEQ`. -/
def SCN_WIN_SEQ : Fld := ⟨0x03C9, 1, 15, 0, false⟩
def SCN_WIN_SEQ_SEQ : Fld := ⟨0x03C9, 1, 15, 0, false⟩
/-- The whole of `SCN_WIN`. -/
def SCN_WIN : Fld := ⟨0x03E0, 1, 15, 0, false⟩
def SCN_WIN_LEVEL : Fld := ⟨0x03E0, 1, 15, 0, false⟩
/-- The whole of `CHN_SEG`. -/
def CHN_SEG : Fld := ⟨0x0400, 1, 15, 0, true⟩
def CHN_SEG_B_B3 : Fld := ⟨0x0400, 1, 4, 4, true⟩
def CHN_SEG_B_VHF : Fld := ⟨0x0400, 1, 3, 3, true⟩
def CHN_SEG_A_B3 : Fld := ⟨0x0400, 1, 2, 2, true⟩
def CHN_SEG_A_VHF : Fld := ⟨0x0400, 1, 1, 1, true⟩
def CHN_SEG_A_LF : Fld := ⟨0x0400, 1, 0, 0, true⟩
/-- The whole of `CHN_MGD_FM`. -/
def CHN_MGD_FM : Fld := ⟨0x0401, 1, 15, 0, true⟩
def CHN_MGD_FM_LIM : Fld := ⟨0x0401, 1, 8, 0, true⟩
/-- The whole of `CHN_MGD_AD`. -/
def CHN_MGD_AD : Fld := ⟨0x0402, 1, 15, 0, true⟩
def CHN_MGD_AD_AM : Fld := ⟨0x0402, 1, 15, 8, true⟩
def CHN_MGD_AD_DBE : Fld := ⟨0x0402, 1, 5, 0, true⟩
/-- The whole of `CHN_MGD_TIME`. -/
def CHN_MGD_TIME : Fld := ⟨0x0403, 1, 15, 0, true⟩
def CHN_MGD_TIME_LINGER : Fld := ⟨0x0403, 1, 7, 0, true⟩
/-- The whole of `CHN_SHED`. -/
def CHN_SHED : Fld := ⟨0x0404, 1, 15, 0, true⟩
def CHN_SHED_HYST : Fld := ⟨0x0404, 1, 11, 8, true⟩
def CHN_SHED_KEEP : Fld := ⟨0x0404, 1, 2, 0, true⟩
/-- The whole of `CHN_SHED_TIME`. -/
def CHN_SHED_TIME : Fld := ⟨0x0405, 1, 15, 0, true⟩
def CHN_SHED_TIME_RESUME : Fld := ⟨0x0405, 1, 15, 8, true⟩
def CHN_SHED_TIME_STEP : Fld := ⟨0x0405, 1, 7, 0, true⟩
/-- The whole of `CHN_CMD`. -/
def CHN_CMD : Fld := ⟨0x0406, 1, 15, 0, false⟩
def CHN_CMD_RELEASE_MGD : Fld := ⟨0x0406, 1, 0, 0, false⟩
/-- The whole of `CHN_FM_LIM`. -/
def CHN_FM_LIM : Fld := ⟨0x0407, 1, 15, 0, true⟩
def CHN_FM_LIM_DEV : Fld := ⟨0x0407, 1, 15, 8, true⟩
def CHN_FM_LIM_MPX : Fld := ⟨0x0407, 1, 7, 0, true⟩
/-- The whole of `CHN_FM_PERIOD`. -/
def CHN_FM_PERIOD : Fld := ⟨0x0408, 1, 15, 0, true⟩
def CHN_FM_PERIOD_PERIOD : Fld := ⟨0x0408, 1, 15, 0, true⟩
/-- The whole of `CHN_FM_MQ`. -/
def CHN_FM_MQ : Fld := ⟨0x0409, 1, 15, 0, true⟩
def CHN_FM_MQ_FOFS_LIM : Fld := ⟨0x0409, 1, 15, 8, true⟩
def CHN_FM_MQ_MIN_SNR : Fld := ⟨0x0409, 1, 7, 0, true⟩
/-- The whole of `CHN_FM_DIV`. -/
def CHN_FM_DIV : Fld := ⟨0x040A, 1, 15, 0, true⟩
def CHN_FM_DIV_SEL_HYST : Fld := ⟨0x040A, 1, 15, 8, true⟩
def CHN_FM_DIV_MGD_PROF : Fld := ⟨0x040A, 1, 5, 4, true⟩
def CHN_FM_DIV_MGD_DE75 : Fld := ⟨0x040A, 1, 3, 3, true⟩
/-- The whole of `CHN_AM_CFG`. -/
def CHN_AM_CFG : Fld := ⟨0x040B, 1, 15, 0, true⟩
def CHN_AM_CFG_LOW_TH : Fld := ⟨0x040B, 1, 15, 8, true⟩
def CHN_AM_CFG_MGD_N10 : Fld := ⟨0x040B, 1, 7, 7, true⟩
def CHN_AM_CFG_MUTE_SNR : Fld := ⟨0x040B, 1, 5, 0, true⟩
/-- The whole of `CHN_AM_NB`. -/
def CHN_AM_NB : Fld := ⟨0x040C, 1, 15, 0, true⟩
def CHN_AM_NB_NB_TH : Fld := ⟨0x040C, 1, 15, 8, true⟩
def CHN_AM_NB_NB_LEN : Fld := ⟨0x040C, 1, 4, 0, true⟩
/-- The whole of `CHN_AM_MOD`. -/
def CHN_AM_MOD : Fld := ⟨0x040D, 1, 15, 0, true⟩
def CHN_AM_MOD_OVM : Fld := ⟨0x040D, 1, 7, 0, true⟩
/-- The whole of `CHN_MEAS_CMD`. -/
def CHN_MEAS_CMD : Fld := ⟨0x040E, 1, 15, 0, false⟩
def CHN_MEAS_CMD_CLR_ACC : Fld := ⟨0x040E, 1, 0, 0, false⟩
/-- The whole of `CHN_N_FM`. -/
def CHN_N_FM : Fld := ⟨0x0410, 1, 15, 0, false⟩
def CHN_N_FM_COUNT : Fld := ⟨0x0410, 1, 8, 0, false⟩
/-- The whole of `CHN_N_AM`. -/
def CHN_N_AM : Fld := ⟨0x0411, 1, 15, 0, false⟩
def CHN_N_AM_COUNT : Fld := ⟨0x0411, 1, 8, 0, false⟩
/-- The whole of `CHN_N_DBE`. -/
def CHN_N_DBE : Fld := ⟨0x0412, 1, 15, 0, false⟩
def CHN_N_DBE_COUNT : Fld := ⟨0x0412, 1, 8, 0, false⟩
/-- The whole of `CHN_N_IQ`. -/
def CHN_N_IQ : Fld := ⟨0x0413, 1, 15, 0, false⟩
def CHN_N_IQ_COUNT : Fld := ⟨0x0413, 1, 8, 0, false⟩
/-- The whole of `CHN_N_MGD`. -/
def CHN_N_MGD : Fld := ⟨0x0414, 1, 15, 0, false⟩
def CHN_N_MGD_COUNT : Fld := ⟨0x0414, 1, 8, 0, false⟩
/-- The whole of `CHN_N_SHED`. -/
def CHN_N_SHED : Fld := ⟨0x0415, 1, 15, 0, false⟩
def CHN_N_SHED_COUNT : Fld := ⟨0x0415, 1, 8, 0, false⟩
/-- The whole of `CHN_MGD_GRANT`. -/
def CHN_MGD_GRANT : Fld := ⟨0x0418, 1, 15, 0, false⟩
def CHN_MGD_GRANT_COUNT : Fld := ⟨0x0418, 1, 15, 0, false⟩
/-- The whole of `CHN_MGD_REFUSED`. -/
def CHN_MGD_REFUSED : Fld := ⟨0x0419, 1, 15, 0, false⟩
def CHN_MGD_REFUSED_COUNT : Fld := ⟨0x0419, 1, 15, 0, false⟩
/-- The whole of `CHN_MGD_PREEMPT`. -/
def CHN_MGD_PREEMPT : Fld := ⟨0x041A, 1, 15, 0, false⟩
def CHN_MGD_PREEMPT_COUNT : Fld := ⟨0x041A, 1, 15, 0, false⟩
/-- The whole of `CHN_SHED_STEPS`. -/
def CHN_SHED_STEPS : Fld := ⟨0x041B, 1, 15, 0, false⟩
def CHN_SHED_STEPS_COUNT : Fld := ⟨0x041B, 1, 15, 0, false⟩
/-- The whole of `CHN_RESUMES`. -/
def CHN_RESUMES : Fld := ⟨0x041C, 1, 15, 0, false⟩
def CHN_RESUMES_COUNT : Fld := ⟨0x041C, 1, 15, 0, false⟩
/-- The whole of `CHN_FLAG_NEXT`. -/
def CHN_FLAG_NEXT : Fld := ⟨0x041D, 1, 15, 0, false⟩
def CHN_FLAG_NEXT_ANY : Fld := ⟨0x041D, 1, 15, 15, false⟩
def CHN_FLAG_NEXT_POOL : Fld := ⟨0x041D, 1, 13, 12, false⟩
def CHN_FLAG_NEXT_INDEX : Fld := ⟨0x041D, 1, 8, 0, false⟩
/-- The whole of `CHN_FLAG_CTX`. -/
def CHN_FLAG_CTX : Fld := ⟨0x041E, 1, 15, 0, false⟩
def CHN_FLAG_CTX_POOL : Fld := ⟨0x041E, 1, 13, 12, false⟩
def CHN_FLAG_CTX_INDEX : Fld := ⟨0x041E, 1, 8, 0, false⟩
/-- The whole of `CHN_FLAG`. -/
def CHN_FLAG : Fld := ⟨0x041F, 1, 15, 0, false⟩
def CHN_FLAG_FLAGS : Fld := ⟨0x041F, 1, 7, 0, false⟩
/-- The whole of `CHN_EVT`. -/
def CHN_EVT : Fld := ⟨0x0420, 1, 15, 0, false⟩
def CHN_EVT_OVL : Fld := ⟨0x0420, 1, 15, 15, false⟩
def CHN_EVT_FOFS : Fld := ⟨0x0420, 1, 14, 14, false⟩
def CHN_EVT_MUTE : Fld := ⟨0x0420, 1, 13, 13, false⟩
def CHN_EVT_PERIOD : Fld := ⟨0x0420, 1, 12, 12, false⟩
def CHN_EVT_MPX : Fld := ⟨0x0420, 1, 11, 11, false⟩
def CHN_EVT_DEV : Fld := ⟨0x0420, 1, 10, 10, false⟩
def CHN_EVT_LOCK : Fld := ⟨0x0420, 1, 9, 9, false⟩
def CHN_EVT_LOW : Fld := ⟨0x0420, 1, 8, 8, false⟩
def CHN_EVT_RESUME : Fld := ⟨0x0420, 1, 5, 5, false⟩
def CHN_EVT_SHED : Fld := ⟨0x0420, 1, 4, 4, false⟩
def CHN_EVT_PREEMPT : Fld := ⟨0x0420, 1, 3, 3, false⟩
def CHN_EVT_MGD_REFUSED : Fld := ⟨0x0420, 1, 2, 2, false⟩
def CHN_EVT_MGD_RELEASE : Fld := ⟨0x0420, 1, 1, 1, false⟩
def CHN_EVT_MGD_GRANT : Fld := ⟨0x0420, 1, 0, 0, false⟩
/-- The whole of `CHN_EVM`. -/
def CHN_EVM : Fld := ⟨0x0421, 1, 15, 0, false⟩
def CHN_EVM_EN_CTX : Fld := ⟨0x0421, 1, 15, 8, false⟩
def CHN_EVM_EN : Fld := ⟨0x0421, 1, 5, 0, false⟩
/-- The whole of `CHN_RDS_CFG`. -/
def CHN_RDS_CFG : Fld := ⟨0x0422, 1, 15, 0, true⟩
def CHN_RDS_CFG_CORR_MAX : Fld := ⟨0x0422, 1, 15, 13, true⟩
def CHN_RDS_CFG_USE_MAX : Fld := ⟨0x0422, 1, 12, 11, true⟩
def CHN_RDS_CFG_LOSS : Fld := ⟨0x0422, 1, 5, 0, true⟩
/-- The whole of `CHN_RDS_CFG2`. -/
def CHN_RDS_CFG2 : Fld := ⟨0x0423, 1, 15, 0, true⟩
def CHN_RDS_CFG2_PI_HOLD : Fld := ⟨0x0423, 1, 15, 8, true⟩
def CHN_RDS_CFG2_MGD_RBDS : Fld := ⟨0x0423, 1, 7, 7, true⟩
/-- The whole of `CHN_RDS_CT`. -/
def CHN_RDS_CT : Fld := ⟨0x0424, 1, 15, 0, true⟩
def CHN_RDS_CT_EN : Fld := ⟨0x0424, 1, 15, 15, true⟩
def CHN_RDS_CT_CTX : Fld := ⟨0x0424, 1, 8, 0, true⟩
/-- The whole of `CHN_RDS_EVT`. -/
def CHN_RDS_EVT : Fld := ⟨0x0425, 1, 15, 0, false⟩
def CHN_RDS_EVT_FLAGS : Fld := ⟨0x0425, 1, 7, 0, false⟩
/-- The whole of `CHN_RDS_EVM`. -/
def CHN_RDS_EVM : Fld := ⟨0x0426, 1, 15, 0, false⟩
def CHN_RDS_EVM_EN : Fld := ⟨0x0426, 1, 7, 0, false⟩
/-- The whole of `CHN_RDS_NEXT`. -/
def CHN_RDS_NEXT : Fld := ⟨0x0427, 1, 15, 0, false⟩
def CHN_RDS_NEXT_ANY : Fld := ⟨0x0427, 1, 15, 15, false⟩
def CHN_RDS_NEXT_INDEX : Fld := ⟨0x0427, 1, 8, 0, false⟩
/-- The whole of `CHN_VIEW_SEL`. -/
def CHN_VIEW_SEL : Fld := ⟨0x0428, 1, 15, 0, false⟩
def CHN_VIEW_SEL_POOL : Fld := ⟨0x0428, 1, 13, 12, false⟩
def CHN_VIEW_SEL_INDEX : Fld := ⟨0x0428, 1, 8, 0, false⟩
/-- The whole of `CHN_VIEW_FREQ`. -/
def CHN_VIEW_FREQ : Fld := ⟨0x0429, 1, 15, 0, false⟩
def CHN_VIEW_FREQ_FREQ : Fld := ⟨0x0429, 1, 15, 0, false⟩
/-- The whole of `CHN_VIEW_CTL`. -/
def CHN_VIEW_CTL : Fld := ⟨0x042A, 1, 15, 0, false⟩
def CHN_VIEW_CTL_STATE : Fld := ⟨0x042A, 1, 15, 13, false⟩
def CHN_VIEW_CTL_MANAGED : Fld := ⟨0x042A, 1, 12, 12, false⟩
def CHN_VIEW_CTL_SRC : Fld := ⟨0x042A, 1, 11, 10, false⟩
def CHN_VIEW_CTL_PRIO : Fld := ⟨0x042A, 1, 9, 8, false⟩
def CHN_VIEW_CTL_HELD : Fld := ⟨0x042A, 1, 7, 7, false⟩
def CHN_VIEW_CTL_OWNER : Fld := ⟨0x042A, 1, 6, 0, false⟩
/-- The whole of `CHN_VIEW_FHI`. -/
def CHN_VIEW_FHI : Fld := ⟨0x042B, 1, 15, 0, false⟩
def CHN_VIEW_FHI_FREQ_HI : Fld := ⟨0x042B, 1, 1, 0, false⟩
/-- The whole of `FMP_BLEND`. -/
def FMP_BLEND : Fld := ⟨0x042C, 3, 15, 0, true⟩
def FMP_BLEND_HI : Fld := ⟨0x042C, 3, 15, 8, true⟩
def FMP_BLEND_LO : Fld := ⟨0x042C, 3, 7, 0, true⟩
/-- The whole of `FMP_HICUT`. -/
def FMP_HICUT : Fld := ⟨0x042D, 3, 15, 0, true⟩
def FMP_HICUT_HI : Fld := ⟨0x042D, 3, 15, 8, true⟩
def FMP_HICUT_LO : Fld := ⟨0x042D, 3, 7, 0, true⟩
/-- The whole of `FMP_MUTE`. -/
def FMP_MUTE : Fld := ⟨0x042E, 3, 15, 0, true⟩
def FMP_MUTE_DEPTH : Fld := ⟨0x042E, 3, 15, 12, true⟩
def FMP_MUTE_HC_MIN : Fld := ⟨0x042E, 3, 11, 8, true⟩
def FMP_MUTE_SM_TH : Fld := ⟨0x042E, 3, 7, 0, true⟩
/-- The whole of `CHN_RDS_FCTX`. -/
def CHN_RDS_FCTX : Fld := ⟨0x0438, 1, 15, 0, false⟩
def CHN_RDS_FCTX_INDEX : Fld := ⟨0x0438, 1, 8, 0, false⟩
/-- The whole of `CHN_RDS_FLAG`. -/
def CHN_RDS_FLAG : Fld := ⟨0x0439, 1, 15, 0, false⟩
def CHN_RDS_FLAG_FLAGS : Fld := ⟨0x0439, 1, 7, 0, false⟩
/-- The whole of `CHN_RDS_GSEL`. -/
def CHN_RDS_GSEL : Fld := ⟨0x043A, 1, 15, 0, false⟩
def CHN_RDS_GSEL_INDEX : Fld := ⟨0x043A, 1, 8, 0, false⟩
/-- The whole of `CHN_RDS_GINF`. -/
def CHN_RDS_GINF : Fld := ⟨0x043B, 1, 15, 0, false⟩
def CHN_RDS_GINF_VALID : Fld := ⟨0x043B, 1, 15, 15, false⟩
def CHN_RDS_GINF_BLANKED : Fld := ⟨0x043B, 1, 14, 14, false⟩
def CHN_RDS_GINF_VER_B : Fld := ⟨0x043B, 1, 13, 13, false⟩
def CHN_RDS_GINF_LEFT : Fld := ⟨0x043B, 1, 12, 8, false⟩
def CHN_RDS_GINF_CLASS : Fld := ⟨0x043B, 1, 7, 0, false⟩
/-- The whole of `CHN_RDS_GBLK`. -/
def CHN_RDS_GBLK : Fld := ⟨0x043C, 1, 15, 0, false⟩
def CHN_RDS_GBLK_BLOCK : Fld := ⟨0x043C, 1, 15, 0, false⟩
/-- The whole of `CHN_IQ_CTL`. -/
def CHN_IQ_CTL : Fld := ⟨0x0440, 4, 15, 0, true⟩
def CHN_IQ_CTL_EN : Fld := ⟨0x0440, 4, 15, 15, true⟩
def CHN_IQ_CTL_PRIO : Fld := ⟨0x0440, 4, 13, 12, true⟩
def CHN_IQ_CTL_SRC : Fld := ⟨0x0440, 4, 11, 10, true⟩
/-- The whole of `CHN_IQ_FREQ`. -/
def CHN_IQ_FREQ : Fld := ⟨0x0441, 4, 15, 0, true⟩
def CHN_IQ_FREQ_FREQ : Fld := ⟨0x0441, 4, 15, 0, true⟩
/-- The whole of `CHN_IQ_STAT`. -/
def CHN_IQ_STAT : Fld := ⟨0x0442, 4, 15, 0, false⟩
def CHN_IQ_STAT_STATE : Fld := ⟨0x0442, 4, 15, 13, false⟩
def CHN_IQ_STAT_MANAGED : Fld := ⟨0x0442, 4, 12, 12, false⟩
def CHN_IQ_STAT_OVL : Fld := ⟨0x0442, 4, 11, 11, false⟩
def CHN_IQ_STAT_BLANKED : Fld := ⟨0x0442, 4, 10, 10, false⟩
def CHN_IQ_STAT_ONE_INPUT : Fld := ⟨0x0442, 4, 9, 9, false⟩
/-- The whole of `CHN_IQ_CFG`. -/
def CHN_IQ_CFG : Fld := ⟨0x0443, 4, 15, 0, true⟩
def CHN_IQ_CFG_RATE : Fld := ⟨0x0443, 4, 10, 8, true⟩
def CHN_IQ_CFG_FREQ_HI : Fld := ⟨0x0443, 4, 1, 0, true⟩
/-- The whole of `CHN_MEAS_SEL`. -/
def CHN_MEAS_SEL : Fld := ⟨0x0460, 1, 15, 0, false⟩
def CHN_MEAS_SEL_POOL : Fld := ⟨0x0460, 1, 15, 15, false⟩
def CHN_MEAS_SEL_PAGE : Fld := ⟨0x0460, 1, 14, 12, false⟩
def CHN_MEAS_SEL_INDEX : Fld := ⟨0x0460, 1, 8, 0, false⟩
/-- The whole of `CHN_MEAS_HDR`. -/
def CHN_MEAS_HDR : Fld := ⟨0x0461, 1, 15, 0, false⟩
def CHN_MEAS_HDR_VALID : Fld := ⟨0x0461, 1, 15, 15, false⟩
def CHN_MEAS_HDR_STATE : Fld := ⟨0x0461, 1, 14, 12, false⟩
/-- The whole of `CHN_MEAS`. -/
def CHN_MEAS : Fld := ⟨0x0462, 1, 15, 0, false⟩
def CHN_MEAS_VALUE : Fld := ⟨0x0462, 1, 15, 0, false⟩
/-- The whole of `DAB_CFG`. -/
def DAB_CFG : Fld := ⟨0x0480, 1, 15, 0, true⟩
def DAB_CFG_AGE : Fld := ⟨0x0480, 1, 15, 8, true⟩
/-- The whole of `DAB_MGD`. -/
def DAB_MGD : Fld := ⟨0x0481, 1, 15, 0, true⟩
def DAB_MGD_LIM : Fld := ⟨0x0481, 1, 5, 0, true⟩
/-- The whole of `DAB_CT`. -/
def DAB_CT : Fld := ⟨0x0482, 1, 15, 0, true⟩
def DAB_CT_EN : Fld := ⟨0x0482, 1, 15, 15, true⟩
def DAB_CT_DBE : Fld := ⟨0x0482, 1, 5, 0, true⟩
/-- The whole of `DAB_CU_USED`. -/
def DAB_CU_USED : Fld := ⟨0x0484, 1, 15, 0, false⟩
def DAB_CU_USED_COUNT : Fld := ⟨0x0484, 1, 11, 0, false⟩
/-- The whole of `DAB_N_SUB`. -/
def DAB_N_SUB : Fld := ⟨0x0485, 1, 15, 0, false⟩
def DAB_N_SUB_COUNT : Fld := ⟨0x0485, 1, 11, 0, false⟩
/-- The whole of `DAB_N_PCM`. -/
def DAB_N_PCM : Fld := ⟨0x0486, 1, 15, 0, false⟩
def DAB_N_PCM_COUNT : Fld := ⟨0x0486, 1, 11, 0, false⟩
/-- The whole of `DAB_N_LOCK`. -/
def DAB_N_LOCK : Fld := ⟨0x0487, 1, 15, 0, false⟩
def DAB_N_LOCK_COUNT : Fld := ⟨0x0487, 1, 11, 0, false⟩
/-- The whole of `DAB_REFUSED`. -/
def DAB_REFUSED : Fld := ⟨0x0488, 1, 15, 0, false⟩
def DAB_REFUSED_COUNT : Fld := ⟨0x0488, 1, 15, 0, false⟩
/-- The whole of `DAB_PREEMPT`. -/
def DAB_PREEMPT : Fld := ⟨0x0489, 1, 15, 0, false⟩
def DAB_PREEMPT_COUNT : Fld := ⟨0x0489, 1, 15, 0, false⟩
/-- The whole of `DAB_SYNC_LOSS`. -/
def DAB_SYNC_LOSS : Fld := ⟨0x048A, 1, 15, 0, false⟩
def DAB_SYNC_LOSS_COUNT : Fld := ⟨0x048A, 1, 15, 0, false⟩
/-- The whole of `DAB_RECONF`. -/
def DAB_RECONF : Fld := ⟨0x048B, 1, 15, 0, false⟩
def DAB_RECONF_COUNT : Fld := ⟨0x048B, 1, 15, 0, false⟩
/-- The whole of `DAB_DB_OVF`. -/
def DAB_DB_OVF : Fld := ⟨0x048C, 1, 15, 0, false⟩
def DAB_DB_OVF_COUNT : Fld := ⟨0x048C, 1, 15, 0, false⟩
/-- The whole of `DAB_EVT`. -/
def DAB_EVT : Fld := ⟨0x0490, 1, 15, 0, false⟩
def DAB_EVT_DSC : Fld := ⟨0x0490, 1, 15, 8, false⟩
def DAB_EVT_DBE : Fld := ⟨0x0490, 1, 7, 0, false⟩
/-- The whole of `DAB_EVM`. -/
def DAB_EVM : Fld := ⟨0x0491, 1, 15, 0, false⟩
def DAB_EVM_EN : Fld := ⟨0x0491, 1, 15, 0, false⟩
/-- The whole of `DAB_FLAG_NEXT`. -/
def DAB_FLAG_NEXT : Fld := ⟨0x0492, 1, 15, 0, false⟩
def DAB_FLAG_NEXT_ANY : Fld := ⟨0x0492, 1, 15, 15, false⟩
def DAB_FLAG_NEXT_POOL : Fld := ⟨0x0492, 1, 13, 12, false⟩
def DAB_FLAG_NEXT_INDEX : Fld := ⟨0x0492, 1, 5, 0, false⟩
/-- The whole of `DAB_FLAG_CTX`. -/
def DAB_FLAG_CTX : Fld := ⟨0x0493, 1, 15, 0, false⟩
def DAB_FLAG_CTX_POOL : Fld := ⟨0x0493, 1, 13, 12, false⟩
def DAB_FLAG_CTX_INDEX : Fld := ⟨0x0493, 1, 5, 0, false⟩
/-- The whole of `DAB_FLAG`. -/
def DAB_FLAG : Fld := ⟨0x0494, 1, 15, 0, false⟩
def DAB_FLAG_FLAGS : Fld := ⟨0x0494, 1, 7, 0, false⟩
/-- The whole of `PRG_SCORE_FM`. -/
def PRG_SCORE_FM : Fld := ⟨0x0500, 1, 15, 0, true⟩
def PRG_SCORE_FM_HI : Fld := ⟨0x0500, 1, 15, 8, true⟩
def PRG_SCORE_FM_LO : Fld := ⟨0x0500, 1, 7, 0, true⟩
/-- The whole of `PRG_SCORE_AM`. -/
def PRG_SCORE_AM : Fld := ⟨0x0501, 1, 15, 0, true⟩
def PRG_SCORE_AM_HI : Fld := ⟨0x0501, 1, 15, 8, true⟩
def PRG_SCORE_AM_LO : Fld := ⟨0x0501, 1, 7, 0, true⟩
/-- The whole of `PRG_SCORE_DAB`. -/
def PRG_SCORE_DAB : Fld := ⟨0x0502, 1, 15, 0, true⟩
def PRG_SCORE_DAB_HI : Fld := ⟨0x0502, 1, 15, 8, true⟩
def PRG_SCORE_DAB_LO : Fld := ⟨0x0502, 1, 7, 0, true⟩
/-- The whole of `PRG_USABLE`. -/
def PRG_USABLE : Fld := ⟨0x0503, 1, 15, 0, true⟩
def PRG_USABLE_USABLE : Fld := ⟨0x0503, 1, 9, 0, true⟩
/-- The whole of `PRG_DISC`. -/
def PRG_DISC : Fld := ⟨0x0504, 1, 15, 0, true⟩
def PRG_DISC_MIN_LVL : Fld := ⟨0x0504, 1, 15, 8, true⟩
def PRG_DISC_PI_WAIT : Fld := ⟨0x0504, 1, 7, 0, true⟩
/-- The whole of `PRG_EST`. -/
def PRG_EST : Fld := ⟨0x0505, 1, 15, 0, true⟩
def PRG_EST_MIN_CORR : Fld := ⟨0x0505, 1, 15, 8, true⟩
def PRG_EST_VERIFY : Fld := ⟨0x0505, 1, 7, 0, true⟩
/-- The whole of `PRG_ALIGN`. -/
def PRG_ALIGN : Fld := ⟨0x0506, 1, 15, 0, true⟩
def PRG_ALIGN_GROW : Fld := ⟨0x0506, 1, 15, 15, true⟩
def PRG_ALIGN_KEEP : Fld := ⟨0x0506, 1, 14, 8, true⟩
def PRG_ALIGN_SLEW : Fld := ⟨0x0506, 1, 7, 0, true⟩
/-- The whole of `PRG_XF`. -/
def PRG_XF : Fld := ⟨0x0507, 1, 15, 0, true⟩
def PRG_XF_UNAL : Fld := ⟨0x0507, 1, 15, 8, true⟩
def PRG_XF_TRIM_REL : Fld := ⟨0x0507, 1, 7, 0, true⟩
/-- The whole of `PRG_SIL`. -/
def PRG_SIL : Fld := ⟨0x0508, 1, 15, 0, true⟩
def PRG_SIL_TH : Fld := ⟨0x0508, 1, 15, 8, true⟩
def PRG_SIL_TIME : Fld := ⟨0x0508, 1, 7, 0, true⟩
/-- The whole of `PRG_REF`. -/
def PRG_REF : Fld := ⟨0x0509, 1, 15, 0, true⟩
def PRG_REF_TH : Fld := ⟨0x0509, 1, 15, 8, true⟩
def PRG_REF_TIME : Fld := ⟨0x0509, 1, 7, 0, true⟩
/-- The whole of `PRG_CMD`. -/
def PRG_CMD : Fld := ⟨0x050A, 1, 15, 0, false⟩
def PRG_CMD_CLR_LOUD : Fld := ⟨0x050A, 1, 1, 1, false⟩
def PRG_CMD_REESTIMATE : Fld := ⟨0x050A, 1, 0, 0, false⟩
/-- The whole of `PRG_PAGES_FREE`. -/
def PRG_PAGES_FREE : Fld := ⟨0x0510, 1, 15, 0, false⟩
def PRG_PAGES_FREE_COUNT : Fld := ⟨0x0510, 1, 7, 0, false⟩
/-- The whole of `PRG_N_ALIGNED`. -/
def PRG_N_ALIGNED : Fld := ⟨0x0511, 1, 15, 0, false⟩
def PRG_N_ALIGNED_COUNT : Fld := ⟨0x0511, 1, 7, 0, false⟩
/-- The whole of `PRG_N_REF`. -/
def PRG_N_REF : Fld := ⟨0x0512, 1, 15, 0, false⟩
def PRG_N_REF_COUNT : Fld := ⟨0x0512, 1, 7, 0, false⟩
/-- The whole of `PRG_SWITCHES`. -/
def PRG_SWITCHES : Fld := ⟨0x0518, 1, 15, 0, false⟩
def PRG_SWITCHES_COUNT : Fld := ⟨0x0518, 1, 15, 0, false⟩
/-- The whole of `PRG_UNALIGNED`. -/
def PRG_UNALIGNED : Fld := ⟨0x0519, 1, 15, 0, false⟩
def PRG_UNALIGNED_COUNT : Fld := ⟨0x0519, 1, 15, 0, false⟩
/-- The whole of `PRG_PAGE_REFUSED`. -/
def PRG_PAGE_REFUSED : Fld := ⟨0x051A, 1, 15, 0, false⟩
def PRG_PAGE_REFUSED_COUNT : Fld := ⟨0x051A, 1, 15, 0, false⟩
/-- The whole of `PRG_EST_FAIL`. -/
def PRG_EST_FAIL : Fld := ⟨0x051B, 1, 15, 0, false⟩
def PRG_EST_FAIL_COUNT : Fld := ⟨0x051B, 1, 15, 0, false⟩
/-- The whole of `PRG_MISMATCH`. -/
def PRG_MISMATCH : Fld := ⟨0x051C, 1, 15, 0, false⟩
def PRG_MISMATCH_COUNT : Fld := ⟨0x051C, 1, 15, 0, false⟩
/-- The whole of `PRG_REQUESTS`. -/
def PRG_REQUESTS : Fld := ⟨0x051D, 1, 15, 0, false⟩
def PRG_REQUESTS_COUNT : Fld := ⟨0x051D, 1, 15, 0, false⟩
/-- The whole of `PRG_EVT`. -/
def PRG_EVT : Fld := ⟨0x0520, 1, 15, 0, false⟩
def PRG_EVT_FLAGS : Fld := ⟨0x0520, 1, 7, 0, false⟩
/-- The whole of `PRG_EVM`. -/
def PRG_EVM : Fld := ⟨0x0521, 1, 15, 0, false⟩
def PRG_EVM_EN : Fld := ⟨0x0521, 1, 7, 0, false⟩
/-- The whole of `PRG_FLAG_NEXT`. -/
def PRG_FLAG_NEXT : Fld := ⟨0x0522, 1, 15, 0, false⟩
def PRG_FLAG_NEXT_ANY : Fld := ⟨0x0522, 1, 15, 15, false⟩
def PRG_FLAG_NEXT_INDEX : Fld := ⟨0x0522, 1, 6, 0, false⟩
/-- The whole of `PRG_FLAG_CTX`. -/
def PRG_FLAG_CTX : Fld := ⟨0x0523, 1, 15, 0, false⟩
def PRG_FLAG_CTX_INDEX : Fld := ⟨0x0523, 1, 6, 0, false⟩
/-- The whole of `PRG_FLAG`. -/
def PRG_FLAG : Fld := ⟨0x0524, 1, 15, 0, false⟩
def PRG_FLAG_FLAGS : Fld := ⟨0x0524, 1, 7, 0, false⟩
/-- The whole of `PRG_MEAS_SEL`. -/
def PRG_MEAS_SEL : Fld := ⟨0x0540, 1, 15, 0, false⟩
def PRG_MEAS_SEL_PAGE : Fld := ⟨0x0540, 1, 15, 14, false⟩
def PRG_MEAS_SEL_INDEX : Fld := ⟨0x0540, 1, 6, 0, false⟩
/-- The whole of `PRG_MEAS_HDR`. -/
def PRG_MEAS_HDR : Fld := ⟨0x0541, 1, 15, 0, false⟩
def PRG_MEAS_HDR_VALID : Fld := ⟨0x0541, 1, 15, 15, false⟩
/-- The whole of `PRG_MEAS`. -/
def PRG_MEAS : Fld := ⟨0x0542, 1, 15, 0, false⟩
def PRG_MEAS_VALUE : Fld := ⟨0x0542, 1, 15, 0, false⟩
/-- The whole of `FSP_CFG`. -/
def FSP_CFG : Fld := ⟨0x0580, 1, 15, 0, true⟩
def FSP_CFG_EN : Fld := ⟨0x0580, 1, 15, 15, true⟩
def FSP_CFG_DIV : Fld := ⟨0x0580, 1, 9, 8, true⟩
def FSP_CFG_PCM24 : Fld := ⟨0x0580, 1, 4, 4, true⟩
/-- The whole of `FSP_SRC`. -/
def FSP_SRC : Fld := ⟨0x0581, 1, 15, 0, true⟩
def FSP_SRC_HB : Fld := ⟨0x0581, 1, 15, 8, true⟩
def FSP_SRC_SLK_LOG : Fld := ⟨0x0581, 1, 4, 4, true⟩
def FSP_SRC_MOULT : Fld := ⟨0x0581, 1, 3, 3, true⟩
def FSP_SRC_EVT : Fld := ⟨0x0581, 1, 2, 2, true⟩
def FSP_SRC_SPEC_B : Fld := ⟨0x0581, 1, 1, 1, true⟩
def FSP_SRC_SPEC_A : Fld := ⟨0x0581, 1, 0, 0, true⟩
/-- The whole of `FSP_STALL_TH`. -/
def FSP_STALL_TH : Fld := ⟨0x0582, 1, 15, 0, true⟩
def FSP_STALL_TH_TH : Fld := ⟨0x0582, 1, 7, 0, true⟩
/-- The whole of `FSP_WM`. -/
def FSP_WM : Fld := ⟨0x0583, 1, 15, 0, true⟩
def FSP_WM_WM : Fld := ⟨0x0583, 1, 8, 0, true⟩
/-- The whole of `FSP_MAP_SEL`. -/
def FSP_MAP_SEL : Fld := ⟨0x0589, 1, 15, 0, false⟩
def FSP_MAP_SEL_PAGE : Fld := ⟨0x0589, 1, 2, 0, false⟩
/-- The whole of `FSP_CMD`. -/
def FSP_CMD : Fld := ⟨0x058A, 1, 15, 0, false⟩
def FSP_CMD_CLR_CNT : Fld := ⟨0x058A, 1, 0, 0, false⟩
/-- The whole of `FSP_MAP`. -/
def FSP_MAP : Fld := ⟨0x0590, 1, 15, 0, true⟩
def FSP_MAP_BITS : Fld := ⟨0x0590, 1, 15, 0, true⟩
/-- The whole of `FSP_STAT`. -/
def FSP_STAT : Fld := ⟨0x05A0, 1, 15, 0, false⟩
def FSP_STAT_RUN : Fld := ⟨0x05A0, 1, 15, 15, false⟩
def FSP_STAT_STOPPED : Fld := ⟨0x05A0, 1, 14, 14, false⟩
def FSP_STAT_RDY : Fld := ⟨0x05A0, 1, 13, 13, false⟩
def FSP_STAT_C0_RES_FULL : Fld := ⟨0x05A0, 1, 12, 12, false⟩
/-- The whole of `FSP_FILL`. -/
def FSP_FILL : Fld := ⟨0x05A1, 1, 15, 0, false⟩
def FSP_FILL_KIB : Fld := ⟨0x05A1, 1, 15, 0, false⟩
/-- The whole of `FSP_FILL_PEAK`. -/
def FSP_FILL_PEAK : Fld := ⟨0x05A2, 1, 15, 0, false⟩
def FSP_FILL_PEAK_KIB : Fld := ⟨0x05A2, 1, 15, 0, false⟩
/-- The whole of `FSP_C0_FILL`. -/
def FSP_C0_FILL : Fld := ⟨0x05A3, 1, 15, 0, false⟩
def FSP_C0_FILL_KIB : Fld := ⟨0x05A3, 1, 15, 0, false⟩
/-- The whole of `FSP_STALL_MAX`. -/
def FSP_STALL_MAX : Fld := ⟨0x05A4, 1, 15, 0, false⟩
def FSP_STALL_MAX_COUNT : Fld := ⟨0x05A4, 1, 15, 0, false⟩
/-- The whole of `FSP_STALLS`. -/
def FSP_STALLS : Fld := ⟨0x05A5, 1, 15, 0, false⟩
def FSP_STALLS_COUNT : Fld := ⟨0x05A5, 1, 15, 0, false⟩
/-- The whole of `FSP_C0_DEFER`. -/
def FSP_C0_DEFER : Fld := ⟨0x05A6, 1, 15, 0, false⟩
def FSP_C0_DEFER_COUNT : Fld := ⟨0x05A6, 1, 15, 0, false⟩
/-- The whole of `FSP_POISON`. -/
def FSP_POISON : Fld := ⟨0x05A7, 1, 15, 0, false⟩
def FSP_POISON_COUNT : Fld := ⟨0x05A7, 1, 15, 0, false⟩
/-- The whole of `FSP_DROP_CLS`. -/
def FSP_DROP_CLS : Fld := ⟨0x05A8, 1, 15, 0, false⟩
def FSP_DROP_CLS_COUNT : Fld := ⟨0x05A8, 1, 15, 0, false⟩
/-- The whole of `FSP_SENT_HI`. -/
def FSP_SENT_HI : Fld := ⟨0x05AE, 1, 15, 0, false⟩
def FSP_SENT_HI_COUNT : Fld := ⟨0x05AE, 1, 15, 0, false⟩
/-- The whole of `FSP_SENT_LO`. -/
def FSP_SENT_LO : Fld := ⟨0x05AF, 1, 15, 0, false⟩
def FSP_SENT_LO_COUNT : Fld := ⟨0x05AF, 1, 15, 0, false⟩
/-- The whole of `FSP_DROP_SEL`. -/
def FSP_DROP_SEL : Fld := ⟨0x05B0, 1, 15, 0, false⟩
def FSP_DROP_SEL_CLASS : Fld := ⟨0x05B0, 1, 15, 12, false⟩
def FSP_DROP_SEL_STREAM : Fld := ⟨0x05B0, 1, 11, 0, false⟩
/-- The whole of `FSP_DROP_HI`. -/
def FSP_DROP_HI : Fld := ⟨0x05B1, 1, 15, 0, false⟩
def FSP_DROP_HI_COUNT : Fld := ⟨0x05B1, 1, 15, 0, false⟩
/-- The whole of `FSP_DROP_LO`. -/
def FSP_DROP_LO : Fld := ⟨0x05B2, 1, 15, 0, false⟩
def FSP_DROP_LO_COUNT : Fld := ⟨0x05B2, 1, 15, 0, false⟩
/-- The whole of `FSP_EVT`. -/
def FSP_EVT : Fld := ⟨0x05B8, 1, 15, 0, false⟩
def FSP_EVT_RESTART : Fld := ⟨0x05B8, 1, 4, 4, false⟩
def FSP_EVT_ECC : Fld := ⟨0x05B8, 1, 3, 3, false⟩
def FSP_EVT_STALL : Fld := ⟨0x05B8, 1, 2, 2, false⟩
def FSP_EVT_C0_DEFER : Fld := ⟨0x05B8, 1, 1, 1, false⟩
def FSP_EVT_DROP : Fld := ⟨0x05B8, 1, 0, 0, false⟩
/-- The whole of `FSP_EVM`. -/
def FSP_EVM : Fld := ⟨0x05B9, 1, 15, 0, false⟩
def FSP_EVM_EN : Fld := ⟨0x05B9, 1, 4, 0, false⟩
/-- The whole of `COD_PWR`. -/
def COD_PWR : Fld := ⟨0x0600, 1, 15, 0, true⟩
def COD_PWR_HP_EN : Fld := ⟨0x0600, 1, 15, 15, true⟩
def COD_PWR_LO_EN : Fld := ⟨0x0600, 1, 14, 14, true⟩
def COD_PWR_SPK_EN : Fld := ⟨0x0600, 1, 13, 13, true⟩
def COD_PWR_HP_AUTO : Fld := ⟨0x0600, 1, 12, 12, true⟩
def COD_PWR_ADC_EN : Fld := ⟨0x0600, 1, 7, 4, true⟩
def COD_PWR_BIAS2_EN : Fld := ⟨0x0600, 1, 2, 2, true⟩
def COD_PWR_BIAS1_EN : Fld := ⟨0x0600, 1, 1, 1, true⟩
/-- The whole of `COD_ADC_SRC`. -/
def COD_ADC_SRC : Fld := ⟨0x0601, 1, 15, 0, true⟩
def COD_ADC_SRC_HPF : Fld := ⟨0x0601, 1, 15, 15, true⟩
def COD_ADC_SRC_PAIR1 : Fld := ⟨0x0601, 1, 5, 4, true⟩
def COD_ADC_SRC_PAIR0 : Fld := ⟨0x0601, 1, 1, 0, true⟩
/-- The whole of `COD_MIC1_GAIN`. -/
def COD_MIC1_GAIN : Fld := ⟨0x0602, 1, 15, 0, false⟩
def COD_MIC1_GAIN_GAIN : Fld := ⟨0x0602, 1, 5, 0, false⟩
/-- The whole of `COD_MIC2_GAIN`. -/
def COD_MIC2_GAIN : Fld := ⟨0x0603, 1, 15, 0, false⟩
def COD_MIC2_GAIN_GAIN : Fld := ⟨0x0603, 1, 5, 0, false⟩
/-- The whole of `COD_LIN_CFG`. -/
def COD_LIN_CFG : Fld := ⟨0x0604, 1, 15, 0, true⟩
def COD_LIN_CFG_ATT2 : Fld := ⟨0x0604, 1, 1, 1, true⟩
def COD_LIN_CFG_ATT1 : Fld := ⟨0x0604, 1, 0, 0, true⟩
/-- The whole of `COD_BIAS`. -/
def COD_BIAS : Fld := ⟨0x0605, 1, 15, 0, true⟩
def COD_BIAS_BIAS2 : Fld := ⟨0x0605, 1, 11, 8, true⟩
def COD_BIAS_BIAS1 : Fld := ⟨0x0605, 1, 3, 0, true⟩
/-- The whole of `COD_HP_CFG`. -/
def COD_HP_CFG : Fld := ⟨0x0606, 1, 15, 0, true⟩
def COD_HP_CFG_RANGE : Fld := ⟨0x0606, 1, 0, 0, true⟩
/-- The whole of `COD_SPK_CFG`. -/
def COD_SPK_CFG : Fld := ⟨0x0607, 1, 15, 0, true⟩
def COD_SPK_CFG_FSW : Fld := ⟨0x0607, 1, 1, 0, true⟩
/-- The whole of `COD_RAMP`. -/
def COD_RAMP : Fld := ⟨0x0608, 1, 15, 0, true⟩
def COD_RAMP_UP : Fld := ⟨0x0608, 1, 15, 8, true⟩
def COD_RAMP_DN : Fld := ⟨0x0608, 1, 7, 0, true⟩
/-- The whole of `COD_SERVO`. -/
def COD_SERVO : Fld := ⟨0x0609, 1, 15, 0, true⟩
def COD_SERVO_BG_EN : Fld := ⟨0x0609, 1, 15, 15, true⟩
def COD_SERVO_SIL_TH : Fld := ⟨0x0609, 1, 14, 8, true⟩
def COD_SERVO_SIL_MIN : Fld := ⟨0x0609, 1, 7, 0, true⟩
/-- The whole of `COD_CMD`. -/
def COD_CMD : Fld := ⟨0x060A, 1, 15, 0, false⟩
def COD_CMD_SPK_RESTART : Fld := ⟨0x060A, 1, 0, 0, false⟩
/-- The whole of `COD_STAT`. -/
def COD_STAT : Fld := ⟨0x0610, 1, 15, 0, false⟩
def COD_STAT_HP : Fld := ⟨0x0610, 1, 15, 13, false⟩
def COD_STAT_LO : Fld := ⟨0x0610, 1, 12, 10, false⟩
def COD_STAT_SPK : Fld := ⟨0x0610, 1, 9, 8, false⟩
def COD_STAT_RAIL_HI : Fld := ⟨0x0610, 1, 7, 7, false⟩
def COD_STAT_BIAS_LOW : Fld := ⟨0x0610, 1, 6, 6, false⟩
def COD_STAT_PVDD_OK : Fld := ⟨0x0610, 1, 5, 5, false⟩
/-- The whole of `COD_HP_OFS_L`. -/
def COD_HP_OFS_L : Fld := ⟨0x0611, 1, 15, 0, false⟩
def COD_HP_OFS_L_OFS : Fld := ⟨0x0611, 1, 15, 0, false⟩
/-- The whole of `COD_HP_OFS_R`. -/
def COD_HP_OFS_R : Fld := ⟨0x0612, 1, 15, 0, false⟩
def COD_HP_OFS_R_OFS : Fld := ⟨0x0612, 1, 15, 0, false⟩
/-- The whole of `COD_SERVO_STEPS`. -/
def COD_SERVO_STEPS : Fld := ⟨0x0613, 1, 15, 0, false⟩
def COD_SERVO_STEPS_COUNT : Fld := ⟨0x0613, 1, 15, 0, false⟩
/-- The whole of `COD_SERVO_REJ`. -/
def COD_SERVO_REJ : Fld := ⟨0x0614, 1, 15, 0, false⟩
def COD_SERVO_REJ_COUNT : Fld := ⟨0x0614, 1, 15, 0, false⟩
/-- The whole of `COD_SPK_OC`. -/
def COD_SPK_OC : Fld := ⟨0x0615, 1, 15, 0, false⟩
def COD_SPK_OC_COUNT : Fld := ⟨0x0615, 1, 15, 0, false⟩
/-- The whole of `COD_HP_OC`. -/
def COD_HP_OC : Fld := ⟨0x0616, 1, 15, 0, false⟩
def COD_HP_OC_COUNT : Fld := ⟨0x0616, 1, 15, 0, false⟩
/-- The whole of `COD_EVT`. -/
def COD_EVT : Fld := ⟨0x0618, 1, 15, 0, false⟩
def COD_EVT_SERVO_RANGE : Fld := ⟨0x0618, 1, 6, 6, false⟩
def COD_EVT_SERVO_REJ : Fld := ⟨0x0618, 1, 5, 5, false⟩
def COD_EVT_PVDD_UV : Fld := ⟨0x0618, 1, 4, 4, false⟩
def COD_EVT_SPK_OC : Fld := ⟨0x0618, 1, 3, 3, false⟩
def COD_EVT_HP_OC : Fld := ⟨0x0618, 1, 2, 2, false⟩
def COD_EVT_HP_OFF : Fld := ⟨0x0618, 1, 1, 1, false⟩
def COD_EVT_HP_ON : Fld := ⟨0x0618, 1, 0, 0, false⟩
/-- The whole of `COD_EVM`. -/
def COD_EVM : Fld := ⟨0x0619, 1, 15, 0, false⟩
def COD_EVM_EN : Fld := ⟨0x0619, 1, 6, 0, false⟩
/-- The whole of `JCK_CFG`. -/
def JCK_CFG : Fld := ⟨0x0680, 1, 15, 0, true⟩
def JCK_CFG_EN : Fld := ⟨0x0680, 1, 15, 15, true⟩
def JCK_CFG_POL : Fld := ⟨0x0680, 1, 14, 14, true⟩
def JCK_CFG_BTN_EN : Fld := ⟨0x0680, 1, 13, 13, true⟩
def JCK_CFG_BTN_MUTE : Fld := ⟨0x0680, 1, 12, 12, true⟩
/-- The whole of `JCK_DEB`. -/
def JCK_DEB : Fld := ⟨0x0681, 1, 15, 0, true⟩
def JCK_DEB_INS : Fld := ⟨0x0681, 1, 15, 8, true⟩
def JCK_DEB_REM : Fld := ⟨0x0681, 1, 7, 0, true⟩
/-- The whole of `JCK_BTN_TIME`. -/
def JCK_BTN_TIME : Fld := ⟨0x0682, 1, 15, 0, true⟩
def JCK_BTN_TIME_DEB : Fld := ⟨0x0682, 1, 15, 8, true⟩
def JCK_BTN_TIME_GUARD : Fld := ⟨0x0682, 1, 7, 0, true⟩
/-- The whole of `JCK_BTN`. -/
def JCK_BTN : Fld := ⟨0x0683, 1, 15, 0, true⟩
def JCK_BTN_HI : Fld := ⟨0x0683, 1, 15, 8, true⟩
def JCK_BTN_LO : Fld := ⟨0x0683, 1, 7, 0, true⟩
/-- The whole of `JCK_CMD`. -/
def JCK_CMD : Fld := ⟨0x0687, 1, 15, 0, false⟩
def JCK_CMD_RECLASSIFY : Fld := ⟨0x0687, 1, 0, 0, false⟩
/-- The whole of `JCK_STAT`. -/
def JCK_STAT : Fld := ⟨0x0690, 1, 15, 0, false⟩
def JCK_STAT_INSERTED : Fld := ⟨0x0690, 1, 15, 15, false⟩
def JCK_STAT_CLASS : Fld := ⟨0x0690, 1, 14, 12, false⟩
def JCK_STAT_BTN : Fld := ⟨0x0690, 1, 3, 0, false⟩
/-- The whole of `JCK_Z_TIP`. -/
def JCK_Z_TIP : Fld := ⟨0x0691, 1, 15, 0, false⟩
def JCK_Z_TIP_OHM : Fld := ⟨0x0691, 1, 15, 0, false⟩
/-- The whole of `JCK_Z_RING`. -/
def JCK_Z_RING : Fld := ⟨0x0692, 1, 15, 0, false⟩
def JCK_Z_RING_OHM : Fld := ⟨0x0692, 1, 15, 0, false⟩
/-- The whole of `JCK_Z_MIC`. -/
def JCK_Z_MIC : Fld := ⟨0x0693, 1, 15, 0, false⟩
def JCK_Z_MIC_OHM : Fld := ⟨0x0693, 1, 15, 0, false⟩
/-- The whole of `JCK_INSERTS`. -/
def JCK_INSERTS : Fld := ⟨0x0694, 1, 15, 0, false⟩
def JCK_INSERTS_COUNT : Fld := ⟨0x0694, 1, 15, 0, false⟩
/-- The whole of `JCK_BTN_DISC`. -/
def JCK_BTN_DISC : Fld := ⟨0x0695, 1, 15, 0, false⟩
def JCK_BTN_DISC_COUNT : Fld := ⟨0x0695, 1, 15, 0, false⟩
/-- The whole of `JCK_EVT`. -/
def JCK_EVT : Fld := ⟨0x0696, 1, 15, 0, false⟩
def JCK_EVT_FAULT : Fld := ⟨0x0696, 1, 5, 5, false⟩
def JCK_EVT_RELEASE : Fld := ⟨0x0696, 1, 4, 4, false⟩
def JCK_EVT_PRESS : Fld := ⟨0x0696, 1, 3, 3, false⟩
def JCK_EVT_CLASS : Fld := ⟨0x0696, 1, 2, 2, false⟩
def JCK_EVT_REMOVE : Fld := ⟨0x0696, 1, 1, 1, false⟩
def JCK_EVT_INSERT : Fld := ⟨0x0696, 1, 0, 0, false⟩
/-- The whole of `JCK_EVM`. -/
def JCK_EVM : Fld := ⟨0x0697, 1, 15, 0, false⟩
def JCK_EVM_EN : Fld := ⟨0x0697, 1, 5, 0, false⟩
/-- The whole of `MIX_LIM_HP`. -/
def MIX_LIM_HP : Fld := ⟨0x06C0, 1, 15, 0, true⟩
def MIX_LIM_HP_LINK : Fld := ⟨0x06C0, 1, 15, 15, true⟩
def MIX_LIM_HP_THR : Fld := ⟨0x06C0, 1, 14, 8, true⟩
def MIX_LIM_HP_REL : Fld := ⟨0x06C0, 1, 7, 0, true⟩
/-- The whole of `MIX_LIM_SPK`. -/
def MIX_LIM_SPK : Fld := ⟨0x06C1, 1, 15, 0, true⟩
def MIX_LIM_SPK_LINK : Fld := ⟨0x06C1, 1, 15, 15, true⟩
def MIX_LIM_SPK_THR : Fld := ⟨0x06C1, 1, 14, 8, true⟩
def MIX_LIM_SPK_REL : Fld := ⟨0x06C1, 1, 7, 0, true⟩
/-- The whole of `MIX_TONE_FREQ`. -/
def MIX_TONE_FREQ : Fld := ⟨0x06C4, 3, 15, 0, true⟩
def MIX_TONE_FREQ_FREQ : Fld := ⟨0x06C4, 3, 14, 0, true⟩
/-- The whole of `MIX_TONE_TYPE`. -/
def MIX_TONE_TYPE : Fld := ⟨0x06C5, 3, 15, 0, true⟩
def MIX_TONE_TYPE_TYPE : Fld := ⟨0x06C5, 3, 1, 0, true⟩
/-- The whole of `MIX_TONE_LEVEL`. -/
def MIX_TONE_LEVEL : Fld := ⟨0x06C6, 3, 15, 0, false⟩
def MIX_TONE_LEVEL_LEVEL : Fld := ⟨0x06C6, 3, 7, 0, false⟩
/-- The whole of `MIX_EQ_SEL`. -/
def MIX_EQ_SEL : Fld := ⟨0x06D0, 1, 15, 0, false⟩
def MIX_EQ_SEL_BAND : Fld := ⟨0x06D0, 1, 10, 8, false⟩
def MIX_EQ_SEL_MIX : Fld := ⟨0x06D0, 1, 6, 0, false⟩
/-- The whole of `MIX_EQ_C`. -/
def MIX_EQ_C : Fld := ⟨0x06D1, 1, 15, 0, false⟩
def MIX_EQ_C_HALF : Fld := ⟨0x06D1, 1, 15, 0, false⟩
/-- The whole of `MIX_EQ_CMD`. -/
def MIX_EQ_CMD : Fld := ⟨0x06DB, 1, 15, 0, false⟩
def MIX_EQ_CMD_LOAD : Fld := ⟨0x06DB, 1, 0, 0, false⟩
/-- The whole of `MIX_EVT`. -/
def MIX_EVT : Fld := ⟨0x06E0, 1, 15, 0, false⟩
def MIX_EVT_LIMIT : Fld := ⟨0x06E0, 1, 3, 3, false⟩
def MIX_EVT_CONFLICT : Fld := ⟨0x06E0, 1, 2, 2, false⟩
def MIX_EVT_EQ_REJ : Fld := ⟨0x06E0, 1, 1, 1, false⟩
def MIX_EVT_CLIP : Fld := ⟨0x06E0, 1, 0, 0, false⟩
/-- The whole of `MIX_EVM`. -/
def MIX_EVM : Fld := ⟨0x06E1, 1, 15, 0, false⟩
def MIX_EVM_EN : Fld := ⟨0x06E1, 1, 3, 0, false⟩
/-- The whole of `MIX_FLAG_NEXT`. -/
def MIX_FLAG_NEXT : Fld := ⟨0x06E2, 1, 15, 0, false⟩
def MIX_FLAG_NEXT_ANY : Fld := ⟨0x06E2, 1, 15, 15, false⟩
def MIX_FLAG_NEXT_INDEX : Fld := ⟨0x06E2, 1, 6, 0, false⟩
/-- The whole of `MIX_CMD`. -/
def MIX_CMD : Fld := ⟨0x06E3, 1, 15, 0, false⟩
def MIX_CMD_CLR_MTR : Fld := ⟨0x06E3, 1, 0, 0, false⟩
/-- The whole of `MIX_MTR_SEL`. -/
def MIX_MTR_SEL : Fld := ⟨0x06E8, 1, 15, 0, false⟩
def MIX_MTR_SEL_MIX : Fld := ⟨0x06E8, 1, 6, 0, false⟩
/-- The whole of `MIX_MTR`. -/
def MIX_MTR : Fld := ⟨0x06E9, 1, 15, 0, false⟩
def MIX_MTR_VALUE : Fld := ⟨0x06E9, 1, 15, 0, false⟩
/-- The whole of `P_CFG`. -/
def P_CFG : Fld := ⟨0x0800, 64, 15, 0, true⟩
def P_CFG_EN : Fld := ⟨0x0800, 64, 15, 15, true⟩
def P_CFG_MASTER : Fld := ⟨0x0800, 64, 14, 14, true⟩
def P_CFG_LEGACY : Fld := ⟨0x0800, 64, 13, 13, true⟩
def P_CFG_GRP : Fld := ⟨0x0800, 64, 12, 12, true⟩
def P_CFG_TRI : Fld := ⟨0x0800, 64, 11, 11, true⟩
def P_CFG_BCLK_INV : Fld := ⟨0x0800, 64, 10, 10, true⟩
def P_CFG_FS_INV : Fld := ⟨0x0800, 64, 9, 9, true⟩
def P_CFG_JUST : Fld := ⟨0x0800, 64, 8, 8, true⟩
def P_CFG_FMT : Fld := ⟨0x0800, 64, 7, 6, true⟩
def P_CFG_WIDTH : Fld := ⟨0x0800, 64, 5, 4, true⟩
def P_CFG_RATE : Fld := ⟨0x0800, 64, 3, 0, true⟩
/-- The whole of `P_FRAME`. -/
def P_FRAME : Fld := ⟨0x0801, 64, 15, 0, true⟩
def P_FRAME_OFFSET : Fld := ⟨0x0801, 64, 13, 8, true⟩
def P_FRAME_SLOTS : Fld := ⟨0x0801, 64, 4, 0, true⟩
/-- The whole of `P_BPF`. -/
def P_BPF : Fld := ⟨0x0802, 64, 15, 0, true⟩
def P_BPF_BPF : Fld := ⟨0x0802, 64, 10, 0, true⟩
/-- The whole of `P_TXMASK_HI`. -/
def P_TXMASK_HI : Fld := ⟨0x0803, 64, 15, 0, true⟩
def P_TXMASK_HI_MASK : Fld := ⟨0x0803, 64, 15, 0, true⟩
/-- The whole of `P_TXMASK_LO`. -/
def P_TXMASK_LO : Fld := ⟨0x0804, 64, 15, 0, true⟩
def P_TXMASK_LO_MASK : Fld := ⟨0x0804, 64, 15, 0, true⟩
/-- The whole of `P_RXMASK_HI`. -/
def P_RXMASK_HI : Fld := ⟨0x0805, 64, 15, 0, true⟩
def P_RXMASK_HI_MASK : Fld := ⟨0x0805, 64, 15, 0, true⟩
/-- The whole of `P_RXMASK_LO`. -/
def P_RXMASK_LO : Fld := ⟨0x0806, 64, 15, 0, true⟩
def P_RXMASK_LO_MASK : Fld := ⟨0x0806, 64, 15, 0, true⟩
/-- The whole of `P_CMD`. -/
def P_CMD : Fld := ⟨0x0807, 64, 15, 0, false⟩
def P_CMD_RESTART : Fld := ⟨0x0807, 64, 0, 0, false⟩
/-- The whole of `P_STAT`. -/
def P_STAT : Fld := ⟨0x0810, 64, 15, 0, false⟩
def P_STAT_STATE : Fld := ⟨0x0810, 64, 15, 13, false⟩
def P_STAT_REF : Fld := ⟨0x0810, 64, 12, 12, false⟩
def P_STAT_LEADER : Fld := ⟨0x0810, 64, 11, 11, false⟩
def P_STAT_ASRC_RX : Fld := ⟨0x0810, 64, 10, 10, false⟩
def P_STAT_ASRC_TX : Fld := ⟨0x0810, 64, 9, 9, false⟩
def P_STAT_SLIPPED : Fld := ⟨0x0810, 64, 8, 8, false⟩
def P_STAT_NO_ASRC : Fld := ⟨0x0810, 64, 7, 7, false⟩
def P_STAT_RATIO_ERR : Fld := ⟨0x0810, 64, 6, 6, false⟩
def P_STAT_FIT : Fld := ⟨0x0810, 64, 5, 5, false⟩
def P_STAT_GRP_ERR : Fld := ⟨0x0810, 64, 4, 4, false⟩
/-- The whole of `P_FS_MEAS`. -/
def P_FS_MEAS : Fld := ⟨0x0811, 64, 15, 0, false⟩
def P_FS_MEAS_VALUE : Fld := ⟨0x0811, 64, 15, 0, false⟩
/-- The whole of `P_BPF_MEAS`. -/
def P_BPF_MEAS : Fld := ⟨0x0812, 64, 15, 0, false⟩
def P_BPF_MEAS_VALUE : Fld := ⟨0x0812, 64, 15, 0, false⟩
/-- The whole of `P_UNDERRUN`. -/
def P_UNDERRUN : Fld := ⟨0x0813, 64, 15, 0, false⟩
def P_UNDERRUN_COUNT : Fld := ⟨0x0813, 64, 15, 0, false⟩
/-- The whole of `P_OVERRUN`. -/
def P_OVERRUN : Fld := ⟨0x0814, 64, 15, 0, false⟩
def P_OVERRUN_COUNT : Fld := ⟨0x0814, 64, 15, 0, false⟩
/-- The whole of `P_CLK_LOSS`. -/
def P_CLK_LOSS : Fld := ⟨0x0815, 64, 15, 0, false⟩
def P_CLK_LOSS_COUNT : Fld := ⟨0x0815, 64, 15, 0, false⟩
/-- The whole of `P_SLIPS`. -/
def P_SLIPS : Fld := ⟨0x0816, 64, 15, 0, false⟩
def P_SLIPS_COUNT : Fld := ⟨0x0816, 64, 15, 0, false⟩
/-- The whole of `P_EVT`. -/
def P_EVT : Fld := ⟨0x0818, 64, 15, 0, false⟩
def P_EVT_FIT : Fld := ⟨0x0818, 64, 7, 7, false⟩
def P_EVT_ASRC_ERR : Fld := ⟨0x0818, 64, 6, 6, false⟩
def P_EVT_CFG_ERR : Fld := ⟨0x0818, 64, 5, 5, false⟩
def P_EVT_SLIP : Fld := ⟨0x0818, 64, 4, 4, false⟩
def P_EVT_OVERRUN : Fld := ⟨0x0818, 64, 3, 3, false⟩
def P_EVT_UNDERRUN : Fld := ⟨0x0818, 64, 2, 2, false⟩
def P_EVT_CLK_BACK : Fld := ⟨0x0818, 64, 1, 1, false⟩
def P_EVT_CLK_LOSS : Fld := ⟨0x0818, 64, 0, 0, false⟩
/-- The whole of `P_EVM`. -/
def P_EVM : Fld := ⟨0x0819, 64, 15, 0, false⟩
def P_EVM_EN : Fld := ⟨0x0819, 64, 7, 0, false⟩
/-- The whole of `PRT_LEAD`. -/
def PRT_LEAD : Fld := ⟨0x0830, 1, 15, 0, true⟩
def PRT_LEAD_BW : Fld := ⟨0x0830, 1, 10, 8, true⟩
def PRT_LEAD_SRC : Fld := ⟨0x0830, 1, 2, 0, true⟩
/-- The whole of `PRT_LEAD_STAT`. -/
def PRT_LEAD_STAT : Fld := ⟨0x0831, 1, 15, 0, false⟩
def PRT_LEAD_STAT_STATE : Fld := ⟨0x0831, 1, 15, 14, false⟩
def PRT_LEAD_STAT_LIMIT : Fld := ⟨0x0831, 1, 13, 13, false⟩
def PRT_LEAD_STAT_ERR : Fld := ⟨0x0831, 1, 12, 12, false⟩
def PRT_LEAD_STAT_FILL : Fld := ⟨0x0831, 1, 7, 0, false⟩
/-- The whole of `PRT_LEAD_PPM`. -/
def PRT_LEAD_PPM : Fld := ⟨0x0832, 1, 15, 0, false⟩
def PRT_LEAD_PPM_PPM : Fld := ⟨0x0832, 1, 15, 0, false⟩
/-- The whole of `PRT_ASRC`. -/
def PRT_ASRC : Fld := ⟨0x0833, 1, 15, 0, false⟩
def PRT_ASRC_USER : Fld := ⟨0x0833, 1, 15, 0, false⟩
/-- The whole of `PRT_AMCLK`. -/
def PRT_AMCLK : Fld := ⟨0x0834, 1, 15, 0, true⟩
def PRT_AMCLK_EN : Fld := ⟨0x0834, 1, 15, 15, true⟩
def PRT_AMCLK_DIV : Fld := ⟨0x0834, 1, 1, 0, true⟩
/-- The whole of `SPD_TX_CFG`. -/
def SPD_TX_CFG : Fld := ⟨0x08C0, 1, 15, 0, true⟩
def SPD_TX_CFG_EN : Fld := ⟨0x08C0, 1, 15, 15, true⟩
def SPD_TX_CFG_AUTO : Fld := ⟨0x08C0, 1, 14, 14, true⟩
/-- The whole of `SPD_RX_CFG`. -/
def SPD_RX_CFG : Fld := ⟨0x08C1, 1, 15, 0, true⟩
def SPD_RX_CFG_EN : Fld := ⟨0x08C1, 1, 15, 15, true⟩
def SPD_RX_CFG_VMUTE : Fld := ⟨0x08C1, 1, 14, 14, true⟩
/-- The whole of `SPD_RX_STAT`. -/
def SPD_RX_STAT : Fld := ⟨0x08C2, 1, 15, 0, false⟩
def SPD_RX_STAT_LOCK : Fld := ⟨0x08C2, 1, 15, 15, false⟩
def SPD_RX_STAT_NONAUDIO : Fld := ⟨0x08C2, 1, 14, 14, false⟩
def SPD_RX_STAT_ASRC : Fld := ⟨0x08C2, 1, 13, 13, false⟩
def SPD_RX_STAT_RATIO_ERR : Fld := ⟨0x08C2, 1, 12, 12, false⟩
def SPD_RX_STAT_NO_ASRC : Fld := ⟨0x08C2, 1, 11, 11, false⟩
def SPD_RX_STAT_VBIT : Fld := ⟨0x08C2, 1, 10, 10, false⟩
/-- The whole of `SPD_RX_FS`. -/
def SPD_RX_FS : Fld := ⟨0x08C3, 1, 15, 0, false⟩
def SPD_RX_FS_FS : Fld := ⟨0x08C3, 1, 15, 0, false⟩
/-- The whole of `SPD_RX_LATCH`. -/
def SPD_RX_LATCH : Fld := ⟨0x08C4, 1, 15, 0, false⟩
def SPD_RX_LATCH_LATCH : Fld := ⟨0x08C4, 1, 0, 0, false⟩
/-- The whole of `SPD_RX_LOSS`. -/
def SPD_RX_LOSS : Fld := ⟨0x08C5, 1, 15, 0, false⟩
def SPD_RX_LOSS_COUNT : Fld := ⟨0x08C5, 1, 15, 0, false⟩
/-- The whole of `SPD_RX_PARITY`. -/
def SPD_RX_PARITY : Fld := ⟨0x08C6, 1, 15, 0, false⟩
def SPD_RX_PARITY_COUNT : Fld := ⟨0x08C6, 1, 15, 0, false⟩
/-- The whole of `SPD_RX_VSAMP`. -/
def SPD_RX_VSAMP : Fld := ⟨0x08C7, 1, 15, 0, false⟩
def SPD_RX_VSAMP_COUNT : Fld := ⟨0x08C7, 1, 15, 0, false⟩
/-- The whole of `SPD_EVT`. -/
def SPD_EVT : Fld := ⟨0x08C8, 1, 15, 0, false⟩
def SPD_EVT_ASRC_ERR : Fld := ⟨0x08C8, 1, 9, 9, false⟩
def SPD_EVT_LEAD_ERR : Fld := ⟨0x08C8, 1, 8, 8, false⟩
def SPD_EVT_LEAD_LIMIT : Fld := ⟨0x08C8, 1, 7, 7, false⟩
def SPD_EVT_LEAD_COAST : Fld := ⟨0x08C8, 1, 6, 6, false⟩
def SPD_EVT_LEAD_LOCK : Fld := ⟨0x08C8, 1, 5, 5, false⟩
def SPD_EVT_PARITY : Fld := ⟨0x08C8, 1, 4, 4, false⟩
def SPD_EVT_BLOCK : Fld := ⟨0x08C8, 1, 3, 3, false⟩
def SPD_EVT_CS_CHG : Fld := ⟨0x08C8, 1, 2, 2, false⟩
def SPD_EVT_LOSS : Fld := ⟨0x08C8, 1, 1, 1, false⟩
def SPD_EVT_LOCK : Fld := ⟨0x08C8, 1, 0, 0, false⟩
/-- The whole of `SPD_EVM`. -/
def SPD_EVM : Fld := ⟨0x08C9, 1, 15, 0, false⟩
def SPD_EVM_EN : Fld := ⟨0x08C9, 1, 9, 0, false⟩
/-- The whole of `SPD_TX_CS`. -/
def SPD_TX_CS : Fld := ⟨0x08D0, 1, 15, 0, true⟩
def SPD_TX_CS_CS : Fld := ⟨0x08D0, 1, 15, 0, true⟩
/-- The whole of `SPD_RX_CS`. -/
def SPD_RX_CS : Fld := ⟨0x08E0, 1, 15, 0, false⟩
def SPD_RX_CS_DATA : Fld := ⟨0x08E0, 1, 15, 0, false⟩
/-- The whole of `SPD_RX_U`. -/
def SPD_RX_U : Fld := ⟨0x08F0, 1, 15, 0, false⟩
def SPD_RX_U_DATA : Fld := ⟨0x08F0, 1, 15, 0, false⟩
/-- The whole of `SLK_CFG`. -/
def SLK_CFG : Fld := ⟨0x0900, 1, 15, 0, true⟩
def SLK_CFG_ROLE : Fld := ⟨0x0900, 1, 15, 14, true⟩
def SLK_CFG_RASTER25 : Fld := ⟨0x0900, 1, 13, 13, true⟩
def SLK_CFG_CAPT_EN : Fld := ⟨0x0900, 1, 12, 12, true⟩
def SLK_CFG_XLNA : Fld := ⟨0x0900, 1, 11, 11, true⟩
/-- The whole of `SLK_ADDR`. -/
def SLK_ADDR : Fld := ⟨0x0901, 1, 15, 0, true⟩
def SLK_ADDR_ADDR : Fld := ⟨0x0901, 1, 15, 0, true⟩
/-- The whole of `SLK_SYNC_HI`. -/
def SLK_SYNC_HI : Fld := ⟨0x0902, 1, 15, 0, true⟩
def SLK_SYNC_HI_SYNC : Fld := ⟨0x0902, 1, 15, 0, true⟩
/-- The whole of `SLK_SYNC_LO`. -/
def SLK_SYNC_LO : Fld := ⟨0x0903, 1, 15, 0, true⟩
def SLK_SYNC_LO_SYNC : Fld := ⟨0x0903, 1, 15, 0, true⟩
/-- The whole of `SLK_PHY`. -/
def SLK_PHY : Fld := ⟨0x0904, 1, 15, 0, true⟩
def SLK_PHY_SYNC_ERR : Fld := ⟨0x0904, 1, 14, 12, true⟩
def SLK_PHY_MAX_IT : Fld := ⟨0x0904, 1, 10, 5, true⟩
def SLK_PHY_PRE : Fld := ⟨0x0904, 1, 4, 0, true⟩
/-- The whole of `SLK_CAPT_DB`. -/
def SLK_CAPT_DB : Fld := ⟨0x0905, 1, 15, 0, true⟩
def SLK_CAPT_DB_VALUE : Fld := ⟨0x0905, 1, 7, 0, true⟩
/-- The whole of `SLK_LOCK_TMO`. -/
def SLK_LOCK_TMO : Fld := ⟨0x0906, 1, 15, 0, true⟩
def SLK_LOCK_TMO_VALUE : Fld := ⟨0x0906, 1, 7, 0, true⟩
/-- The whole of `SLK_RAMP`. -/
def SLK_RAMP : Fld := ⟨0x0907, 1, 15, 0, true⟩
def SLK_RAMP_VALUE : Fld := ⟨0x0907, 1, 7, 0, true⟩
/-- The whole of `SLK_LISTEN`. -/
def SLK_LISTEN : Fld := ⟨0x0908, 1, 15, 0, true⟩
def SLK_LISTEN_HOP : Fld := ⟨0x0908, 1, 5, 0, true⟩
/-- The whole of `SLK_LBT`. -/
def SLK_LBT : Fld := ⟨0x0909, 1, 15, 0, true⟩
def SLK_LBT_TH : Fld := ⟨0x0909, 1, 15, 8, true⟩
def SLK_LBT_TRIES : Fld := ⟨0x0909, 1, 7, 4, true⟩
/-- The whole of `SLK_RETRY`. -/
def SLK_RETRY : Fld := ⟨0x090A, 1, 15, 0, true⟩
def SLK_RETRY_MAX : Fld := ⟨0x090A, 1, 15, 12, true⟩
def SLK_RETRY_BE_MAX : Fld := ⟨0x090A, 1, 11, 8, true⟩
def SLK_RETRY_SLOT : Fld := ⟨0x090A, 1, 7, 0, true⟩
/-- The whole of `SLK_ACK`. -/
def SLK_ACK : Fld := ⟨0x090B, 1, 15, 0, true⟩
def SLK_ACK_TMO : Fld := ⟨0x090B, 1, 7, 0, true⟩
/-- The whole of `SLK_XPA_ON`. -/
def SLK_XPA_ON : Fld := ⟨0x090C, 1, 15, 0, true⟩
def SLK_XPA_ON_D1 : Fld := ⟨0x090C, 1, 15, 8, true⟩
def SLK_XPA_ON_D2 : Fld := ⟨0x090C, 1, 7, 0, true⟩
/-- The whole of `SLK_XPA_OFF`. -/
def SLK_XPA_OFF : Fld := ⟨0x090D, 1, 15, 0, true⟩
def SLK_XPA_OFF_D3 : Fld := ⟨0x090D, 1, 15, 8, true⟩
def SLK_XPA_OFF_D4 : Fld := ⟨0x090D, 1, 7, 0, true⟩
/-- The whole of `SLK_RX_GAIN`. -/
def SLK_RX_GAIN : Fld := ⟨0x090E, 1, 15, 0, true⟩
def SLK_RX_GAIN_GAIN : Fld := ⟨0x090E, 1, 15, 0, true⟩
/-- The whole of `SLK_CMD`. -/
def SLK_CMD : Fld := ⟨0x090F, 1, 15, 0, false⟩
def SLK_CMD_FLUSH : Fld := ⟨0x090F, 1, 1, 1, false⟩
def SLK_CMD_RECAL : Fld := ⟨0x090F, 1, 0, 0, false⟩
/-- The whole of `SLK_STAT`. -/
def SLK_STAT : Fld := ⟨0x0910, 1, 15, 0, false⟩
def SLK_STAT_STATE : Fld := ⟨0x0910, 1, 15, 13, false⟩
def SLK_STAT_LOCKED : Fld := ⟨0x0910, 1, 12, 12, false⟩
def SLK_STAT_TXQ : Fld := ⟨0x0910, 1, 9, 6, false⟩
def SLK_STAT_HOP : Fld := ⟨0x0910, 1, 5, 0, false⟩
/-- The whole of `SLK_RSSI`. -/
def SLK_RSSI : Fld := ⟨0x0911, 1, 15, 0, false⟩
def SLK_RSSI_LEVEL : Fld := ⟨0x0911, 1, 15, 0, false⟩
/-- The whole of `SLK_NOISE`. -/
def SLK_NOISE : Fld := ⟨0x0912, 1, 15, 0, false⟩
def SLK_NOISE_LEVEL : Fld := ⟨0x0912, 1, 15, 0, false⟩
/-- The whole of `SLK_TX_PKT`. -/
def SLK_TX_PKT : Fld := ⟨0x0924, 1, 15, 0, false⟩
def SLK_TX_PKT_COUNT : Fld := ⟨0x0924, 1, 15, 0, false⟩
/-- The whole of `SLK_RX_PKT`. -/
def SLK_RX_PKT : Fld := ⟨0x0925, 1, 15, 0, false⟩
def SLK_RX_PKT_COUNT : Fld := ⟨0x0925, 1, 15, 0, false⟩
/-- The whole of `SLK_HDR_ERR`. -/
def SLK_HDR_ERR : Fld := ⟨0x0926, 1, 15, 0, false⟩
def SLK_HDR_ERR_COUNT : Fld := ⟨0x0926, 1, 15, 0, false⟩
/-- The whole of `SLK_CRC_ERR`. -/
def SLK_CRC_ERR : Fld := ⟨0x0927, 1, 15, 0, false⟩
def SLK_CRC_ERR_COUNT : Fld := ⟨0x0927, 1, 15, 0, false⟩
/-- The whole of `SLK_LDPC_FAIL`. -/
def SLK_LDPC_FAIL : Fld := ⟨0x0928, 1, 15, 0, false⟩
def SLK_LDPC_FAIL_COUNT : Fld := ⟨0x0928, 1, 15, 0, false⟩
/-- The whole of `SLK_FALSE_PRE`. -/
def SLK_FALSE_PRE : Fld := ⟨0x0929, 1, 15, 0, false⟩
def SLK_FALSE_PRE_COUNT : Fld := ⟨0x0929, 1, 15, 0, false⟩
/-- The whole of `SLK_CAPT_TAKEN`. -/
def SLK_CAPT_TAKEN : Fld := ⟨0x092A, 1, 15, 0, false⟩
def SLK_CAPT_TAKEN_COUNT : Fld := ⟨0x092A, 1, 15, 0, false⟩
/-- The whole of `SLK_CAPT_IGNORED`. -/
def SLK_CAPT_IGNORED : Fld := ⟨0x092B, 1, 15, 0, false⟩
def SLK_CAPT_IGNORED_COUNT : Fld := ⟨0x092B, 1, 15, 0, false⟩
/-- The whole of `SLK_TX_DEFER`. -/
def SLK_TX_DEFER : Fld := ⟨0x092C, 1, 15, 0, false⟩
def SLK_TX_DEFER_COUNT : Fld := ⟨0x092C, 1, 15, 0, false⟩
/-- The whole of `SLK_LOCK_ABORT`. -/
def SLK_LOCK_ABORT : Fld := ⟨0x092D, 1, 15, 0, false⟩
def SLK_LOCK_ABORT_COUNT : Fld := ⟨0x092D, 1, 15, 0, false⟩
/-- The whole of `SLK_LDG_REFUSE`. -/
def SLK_LDG_REFUSE : Fld := ⟨0x092E, 1, 15, 0, false⟩
def SLK_LDG_REFUSE_COUNT : Fld := ⟨0x092E, 1, 15, 0, false⟩
/-- The whole of `SLK_LBT_BUSY`. -/
def SLK_LBT_BUSY : Fld := ⟨0x092F, 1, 15, 0, false⟩
def SLK_LBT_BUSY_COUNT : Fld := ⟨0x092F, 1, 15, 0, false⟩
/-- The whole of `SLK_RETRIES`. -/
def SLK_RETRIES : Fld := ⟨0x0930, 1, 15, 0, false⟩
def SLK_RETRIES_COUNT : Fld := ⟨0x0930, 1, 15, 0, false⟩
/-- The whole of `SLK_ACK_FAIL`. -/
def SLK_ACK_FAIL : Fld := ⟨0x0931, 1, 15, 0, false⟩
def SLK_ACK_FAIL_COUNT : Fld := ⟨0x0931, 1, 15, 0, false⟩
/-- The whole of `SLK_RX_DUP`. -/
def SLK_RX_DUP : Fld := ⟨0x0932, 1, 15, 0, false⟩
def SLK_RX_DUP_COUNT : Fld := ⟨0x0932, 1, 15, 0, false⟩
/-- The whole of `SLK_RXQ_OVF`. -/
def SLK_RXQ_OVF : Fld := ⟨0x0933, 1, 15, 0, false⟩
def SLK_RXQ_OVF_COUNT : Fld := ⟨0x0933, 1, 15, 0, false⟩
/-- The whole of `SLK_GW_NODES`. -/
def SLK_GW_NODES : Fld := ⟨0x0934, 1, 15, 0, false⟩
def SLK_GW_NODES_VALUE : Fld := ⟨0x0934, 1, 15, 0, false⟩
/-- The whole of `SLK_CALT`. -/
def SLK_CALT : Fld := ⟨0x0935, 1, 15, 0, false⟩
def SLK_CALT_VALUE : Fld := ⟨0x0935, 1, 15, 0, false⟩
/-- The whole of `SLK_EVT`. -/
def SLK_EVT : Fld := ⟨0x0938, 1, 15, 0, false⟩
def SLK_EVT_LOCK_FAIL : Fld := ⟨0x0938, 1, 9, 9, false⟩
def SLK_EVT_CAL : Fld := ⟨0x0938, 1, 8, 8, false⟩
def SLK_EVT_GW_FULL : Fld := ⟨0x0938, 1, 7, 7, false⟩
def SLK_EVT_RXQ_OVF : Fld := ⟨0x0938, 1, 6, 6, false⟩
def SLK_EVT_CAPT : Fld := ⟨0x0938, 1, 5, 5, false⟩
def SLK_EVT_LDG_REFUSE : Fld := ⟨0x0938, 1, 4, 4, false⟩
def SLK_EVT_TX_FAIL : Fld := ⟨0x0938, 1, 3, 3, false⟩
def SLK_EVT_TX_DEFER : Fld := ⟨0x0938, 1, 2, 2, false⟩
def SLK_EVT_TX_DONE : Fld := ⟨0x0938, 1, 1, 1, false⟩
def SLK_EVT_RX : Fld := ⟨0x0938, 1, 0, 0, false⟩
/-- The whole of `SLK_EVM`. -/
def SLK_EVM : Fld := ⟨0x0939, 1, 15, 0, false⟩
def SLK_EVM_EN : Fld := ⟨0x0939, 1, 9, 0, false⟩
/-- The whole of `SLK_LDG_LO`. -/
def SLK_LDG_LO : Fld := ⟨0x0940, 3, 15, 0, true⟩
def SLK_LDG_LO_VALUE : Fld := ⟨0x0940, 3, 15, 0, true⟩
/-- The whole of `SLK_LDG_HI`. -/
def SLK_LDG_HI : Fld := ⟨0x0941, 3, 15, 0, true⟩
def SLK_LDG_HI_VALUE : Fld := ⟨0x0941, 3, 15, 0, true⟩
/-- The whole of `SLK_LDG_LIM`. -/
def SLK_LDG_LIM : Fld := ⟨0x0942, 3, 15, 0, true⟩
def SLK_LDG_LIM_VALUE : Fld := ⟨0x0942, 3, 15, 0, true⟩
/-- The whole of `SLK_LDG_USED`. -/
def SLK_LDG_USED : Fld := ⟨0x0960, 1, 15, 0, false⟩
def SLK_LDG_USED_USED : Fld := ⟨0x0960, 1, 15, 0, false⟩
/-- The whole of `CX_CFG`. -/
def CX_CFG : Fld := ⟨0x0A00, 1, 15, 0, true⟩
def CX_CFG_EN : Fld := ⟨0x0A00, 1, 15, 15, true⟩
def CX_CFG_ACT_BUSY : Fld := ⟨0x0A00, 1, 14, 14, true⟩
def CX_CFG_GNT_ABORT : Fld := ⟨0x0A00, 1, 13, 13, true⟩
def CX_CFG_GNT_TMO : Fld := ⟨0x0A00, 1, 7, 0, true⟩
/-- The whole of `CX_STAT`. -/
def CX_STAT : Fld := ⟨0x0A01, 1, 15, 0, false⟩
def CX_STAT_ACT : Fld := ⟨0x0A01, 1, 3, 3, false⟩
def CX_STAT_GNT : Fld := ⟨0x0A01, 1, 2, 2, false⟩
def CX_STAT_PRI : Fld := ⟨0x0A01, 1, 1, 1, false⟩
def CX_STAT_REQ : Fld := ⟨0x0A01, 1, 0, 0, false⟩
/-- The whole of `CX_DENIED`. -/
def CX_DENIED : Fld := ⟨0x0A02, 1, 15, 0, false⟩
def CX_DENIED_COUNT : Fld := ⟨0x0A02, 1, 15, 0, false⟩
/-- The whole of `CX_ABORTS`. -/
def CX_ABORTS : Fld := ⟨0x0A03, 1, 15, 0, false⟩
def CX_ABORTS_COUNT : Fld := ⟨0x0A03, 1, 15, 0, false⟩
/-- The whole of `CX_EVT`. -/
def CX_EVT : Fld := ⟨0x0A04, 1, 15, 0, false⟩
def CX_EVT_ACT_RISE : Fld := ⟨0x0A04, 1, 2, 2, false⟩
def CX_EVT_ABORT : Fld := ⟨0x0A04, 1, 1, 1, false⟩
def CX_EVT_DENIED : Fld := ⟨0x0A04, 1, 0, 0, false⟩
/-- The whole of `CX_EVM`. -/
def CX_EVM : Fld := ⟨0x0A05, 1, 15, 0, false⟩
def CX_EVM_EN : Fld := ⟨0x0A05, 1, 2, 0, false⟩
/-- The whole of `SLK_HOP_FREQ`. -/
def SLK_HOP_FREQ : Fld := ⟨0x0A40, 3, 15, 0, true⟩
def SLK_HOP_FREQ_FREQ : Fld := ⟨0x0A40, 3, 12, 0, true⟩
/-- The whole of `SLK_HOP_CAL`. -/
def SLK_HOP_CAL : Fld := ⟨0x0A41, 3, 15, 0, false⟩
def SLK_HOP_CAL_VALID : Fld := ⟨0x0A41, 3, 15, 15, false⟩
def SLK_HOP_CAL_BAND : Fld := ⟨0x0A41, 3, 14, 9, false⟩
def SLK_HOP_CAL_FCAP : Fld := ⟨0x0A41, 3, 8, 0, false⟩
/-- The whole of `SLK_HOP_CFG`. -/
def SLK_HOP_CFG : Fld := ⟨0x0A42, 3, 15, 0, true⟩
def SLK_HOP_CFG_LBT : Fld := ⟨0x0A42, 3, 15, 15, true⟩
def SLK_HOP_CFG_MODE : Fld := ⟨0x0A42, 3, 14, 12, true⟩
def SLK_HOP_CFG_R23 : Fld := ⟨0x0A42, 3, 11, 11, true⟩
def SLK_HOP_CFG_PWR : Fld := ⟨0x0A42, 3, 4, 0, true⟩
/-- The whole of `SLK_PWR_LEVEL`. -/
def SLK_PWR_LEVEL : Fld := ⟨0x0B00, 2, 15, 0, true⟩
def SLK_PWR_LEVEL_LEVEL : Fld := ⟨0x0B00, 2, 15, 0, true⟩
/-- The whole of `SLK_PWR_CFG`. -/
def SLK_PWR_CFG : Fld := ⟨0x0B01, 2, 15, 0, true⟩
def SLK_PWR_CFG_EXT : Fld := ⟨0x0B01, 2, 15, 15, true⟩
def SLK_PWR_CFG_TRIM : Fld := ⟨0x0B01, 2, 7, 0, true⟩
/-- The whole of `FMC_CTL`. -/
def FMC_CTL : Fld := ⟨0x1000, 8, 15, 0, true⟩
def FMC_CTL_EN : Fld := ⟨0x1000, 8, 15, 15, true⟩
def FMC_CTL_PRIO : Fld := ⟨0x1000, 8, 13, 12, true⟩
def FMC_CTL_SRC : Fld := ⟨0x1000, 8, 11, 10, true⟩
def FMC_CTL_BW_MAX : Fld := ⟨0x1000, 8, 7, 4, true⟩
def FMC_CTL_BW_FIX : Fld := ⟨0x1000, 8, 3, 3, true⟩
def FMC_CTL_DIV : Fld := ⟨0x1000, 8, 2, 2, true⟩
def FMC_CTL_MONO : Fld := ⟨0x1000, 8, 1, 1, true⟩
def FMC_CTL_DE75 : Fld := ⟨0x1000, 8, 0, 0, true⟩
/-- The whole of `FMC_FREQ`. -/
def FMC_FREQ : Fld := ⟨0x1001, 8, 15, 0, true⟩
def FMC_FREQ_FREQ : Fld := ⟨0x1001, 8, 15, 0, true⟩
/-- The whole of `FMC_STAT`. -/
def FMC_STAT : Fld := ⟨0x1002, 8, 15, 0, false⟩
def FMC_STAT_STATE : Fld := ⟨0x1002, 8, 15, 13, false⟩
def FMC_STAT_MANAGED : Fld := ⟨0x1002, 8, 12, 12, false⟩
def FMC_STAT_OVL : Fld := ⟨0x1002, 8, 11, 11, false⟩
def FMC_STAT_BLANKED : Fld := ⟨0x1002, 8, 10, 10, false⟩
def FMC_STAT_ONE_INPUT : Fld := ⟨0x1002, 8, 9, 9, false⟩
def FMC_STAT_PILOT : Fld := ⟨0x1002, 8, 7, 7, false⟩
def FMC_STAT_STEREO : Fld := ⟨0x1002, 8, 6, 6, false⟩
def FMC_STAT_MUTED : Fld := ⟨0x1002, 8, 5, 5, false⟩
def FMC_STAT_LOW : Fld := ⟨0x1002, 8, 4, 4, false⟩
def FMC_STAT_BW : Fld := ⟨0x1002, 8, 3, 0, false⟩
/-- The whole of `FMC_CFG`. -/
def FMC_CFG : Fld := ⟨0x1003, 8, 15, 0, true⟩
def FMC_CFG_PROFILE : Fld := ⟨0x1003, 8, 15, 14, true⟩
def FMC_CFG_LOW_TH : Fld := ⟨0x1003, 8, 7, 0, true⟩
/-- The whole of `FMC_LEVEL`. -/
def FMC_LEVEL : Fld := ⟨0x1004, 8, 15, 0, false⟩
def FMC_LEVEL_VALUE : Fld := ⟨0x1004, 8, 15, 0, false⟩
/-- The whole of `FMC_SNR`. -/
def FMC_SNR : Fld := ⟨0x1005, 8, 15, 0, false⟩
def FMC_SNR_VALUE : Fld := ⟨0x1005, 8, 15, 0, false⟩
/-- The whole of `FMC_FOFS`. -/
def FMC_FOFS : Fld := ⟨0x1006, 8, 15, 0, false⟩
def FMC_FOFS_VALUE : Fld := ⟨0x1006, 8, 15, 0, false⟩
/-- The whole of `FMC_DEV`. -/
def FMC_DEV : Fld := ⟨0x1007, 8, 15, 0, false⟩
def FMC_DEV_VALUE : Fld := ⟨0x1007, 8, 15, 0, false⟩
/-- The whole of `AMC_CTL`. -/
def AMC_CTL : Fld := ⟨0x1800, 4, 15, 0, true⟩
def AMC_CTL_EN : Fld := ⟨0x1800, 4, 15, 15, true⟩
def AMC_CTL_PRIO : Fld := ⟨0x1800, 4, 13, 12, true⟩
def AMC_CTL_SRC : Fld := ⟨0x1800, 4, 11, 10, true⟩
def AMC_CTL_BW : Fld := ⟨0x1800, 4, 7, 5, true⟩
def AMC_CTL_SYNC : Fld := ⟨0x1800, 4, 4, 4, true⟩
def AMC_CTL_NOTCH_EN : Fld := ⟨0x1800, 4, 3, 3, true⟩
def AMC_CTL_NOTCH_10 : Fld := ⟨0x1800, 4, 2, 2, true⟩
def AMC_CTL_NB_EN : Fld := ⟨0x1800, 4, 1, 1, true⟩
/-- The whole of `AMC_FREQ`. -/
def AMC_FREQ : Fld := ⟨0x1801, 4, 15, 0, true⟩
def AMC_FREQ_FREQ : Fld := ⟨0x1801, 4, 15, 0, true⟩
/-- The whole of `AMC_STAT`. -/
def AMC_STAT : Fld := ⟨0x1802, 4, 15, 0, false⟩
def AMC_STAT_STATE : Fld := ⟨0x1802, 4, 15, 13, false⟩
def AMC_STAT_MANAGED : Fld := ⟨0x1802, 4, 12, 12, false⟩
def AMC_STAT_OVL : Fld := ⟨0x1802, 4, 11, 11, false⟩
def AMC_STAT_BLANKED : Fld := ⟨0x1802, 4, 10, 10, false⟩
def AMC_STAT_ONE_INPUT : Fld := ⟨0x1802, 4, 9, 9, false⟩
def AMC_STAT_CARRIER : Fld := ⟨0x1802, 4, 7, 7, false⟩
def AMC_STAT_SYNC : Fld := ⟨0x1802, 4, 6, 6, false⟩
def AMC_STAT_MUTED : Fld := ⟨0x1802, 4, 5, 5, false⟩
def AMC_STAT_LOW : Fld := ⟨0x1802, 4, 4, 4, false⟩
def AMC_STAT_NB : Fld := ⟨0x1802, 4, 3, 3, false⟩
/-- The whole of `AMC_LEVEL`. -/
def AMC_LEVEL : Fld := ⟨0x1803, 4, 15, 0, false⟩
def AMC_LEVEL_LEVEL : Fld := ⟨0x1803, 4, 15, 0, false⟩
/-- The whole of `DBE_CTL`. -/
def DBE_CTL : Fld := ⟨0x1C00, 8, 15, 0, true⟩
def DBE_CTL_EN : Fld := ⟨0x1C00, 8, 15, 15, true⟩
def DBE_CTL_PRIO : Fld := ⟨0x1C00, 8, 13, 12, true⟩
def DBE_CTL_SRC : Fld := ⟨0x1C00, 8, 11, 10, true⟩
def DBE_CTL_FIC_ALL : Fld := ⟨0x1C00, 8, 1, 1, true⟩
def DBE_CTL_FIC_OUT : Fld := ⟨0x1C00, 8, 0, 0, true⟩
/-- The whole of `DBE_CFG`. -/
def DBE_CFG : Fld := ⟨0x1C01, 8, 15, 0, true⟩
def DBE_CFG_LOW_TH : Fld := ⟨0x1C01, 8, 15, 8, true⟩
/-- The whole of `DBE_STAT`. -/
def DBE_STAT : Fld := ⟨0x1C02, 8, 15, 0, false⟩
def DBE_STAT_STATE : Fld := ⟨0x1C02, 8, 15, 13, false⟩
def DBE_STAT_MANAGED : Fld := ⟨0x1C02, 8, 12, 12, false⟩
def DBE_STAT_OVL : Fld := ⟨0x1C02, 8, 11, 11, false⟩
def DBE_STAT_BLANKED : Fld := ⟨0x1C02, 8, 10, 10, false⟩
def DBE_STAT_ONE_INPUT : Fld := ⟨0x1C02, 8, 9, 9, false⟩
def DBE_STAT_SYNC : Fld := ⟨0x1C02, 8, 7, 6, false⟩
def DBE_STAT_MCI : Fld := ⟨0x1C02, 8, 5, 5, false⟩
def DBE_STAT_STALE : Fld := ⟨0x1C02, 8, 4, 4, false⟩
def DBE_STAT_RECONF : Fld := ⟨0x1C02, 8, 3, 3, false⟩
def DBE_STAT_CXA : Fld := ⟨0x1C02, 8, 2, 2, false⟩
def DBE_STAT_LOW : Fld := ⟨0x1C02, 8, 1, 1, false⟩
/-- The whole of `DBE_EID`. -/
def DBE_EID : Fld := ⟨0x1C03, 8, 15, 0, false⟩
def DBE_EID_EID : Fld := ⟨0x1C03, 8, 15, 0, false⟩
/-- The whole of `DBE_LEVEL`. -/
def DBE_LEVEL : Fld := ⟨0x1C04, 8, 15, 0, false⟩
def DBE_LEVEL_VALUE : Fld := ⟨0x1C04, 8, 15, 0, false⟩
/-- The whole of `DBE_SNR`. -/
def DBE_SNR : Fld := ⟨0x1C05, 8, 15, 0, false⟩
def DBE_SNR_VALUE : Fld := ⟨0x1C05, 8, 15, 0, false⟩
/-- The whole of `DBE_FOFS`. -/
def DBE_FOFS : Fld := ⟨0x1C06, 8, 15, 0, false⟩
def DBE_FOFS_VALUE : Fld := ⟨0x1C06, 8, 15, 0, false⟩
/-- The whole of `DBE_FIBQ`. -/
def DBE_FIBQ : Fld := ⟨0x1C07, 8, 15, 0, false⟩
def DBE_FIBQ_ERR : Fld := ⟨0x1C07, 8, 15, 8, false⟩
def DBE_FIBQ_NSVC : Fld := ⟨0x1C07, 8, 7, 0, false⟩
/-- The whole of `DSC_CTL`. -/
def DSC_CTL : Fld := ⟨0x1E00, 4, 15, 0, true⟩
def DSC_CTL_EN : Fld := ⟨0x1E00, 4, 15, 15, true⟩
def DSC_CTL_AUDIO : Fld := ⟨0x1E00, 4, 14, 14, true⟩
def DSC_CTL_MSC_OUT : Fld := ⟨0x1E00, 4, 13, 13, true⟩
def DSC_CTL_PAD_OUT : Fld := ⟨0x1E00, 4, 12, 12, true⟩
/-- The whole of `DSC_SEL`. -/
def DSC_SEL : Fld := ⟨0x1E01, 4, 15, 0, true⟩
def DSC_SEL_DBE : Fld := ⟨0x1E01, 4, 13, 8, true⟩
def DSC_SEL_SUBCH : Fld := ⟨0x1E01, 4, 5, 0, true⟩
/-- The whole of `DSC_STAT`. -/
def DSC_STAT : Fld := ⟨0x1E02, 4, 15, 0, false⟩
def DSC_STAT_STATE : Fld := ⟨0x1E02, 4, 15, 13, false⟩
def DSC_STAT_MANAGED : Fld := ⟨0x1E02, 4, 12, 12, false⟩
def DSC_STAT_MIRROR : Fld := ⟨0x1E02, 4, 11, 11, false⟩
def DSC_STAT_CODING : Fld := ⟨0x1E02, 4, 10, 9, false⟩
def DSC_STAT_PCM : Fld := ⟨0x1E02, 4, 8, 8, false⟩
def DSC_STAT_SLOT : Fld := ⟨0x1E02, 4, 7, 4, false⟩
def DSC_STAT_CONCEAL : Fld := ⟨0x1E02, 4, 3, 3, false⟩
def DSC_STAT_DLS : Fld := ⟨0x1E02, 4, 2, 2, false⟩
def DSC_STAT_BLANKED : Fld := ⟨0x1E02, 4, 1, 1, false⟩
/-- The whole of `DSC_QUAL`. -/
def DSC_QUAL : Fld := ⟨0x1E03, 4, 15, 0, false⟩
def DSC_QUAL_BER : Fld := ⟨0x1E03, 4, 15, 8, false⟩
def DSC_QUAL_FER : Fld := ⟨0x1E03, 4, 7, 0, false⟩
/-- The whole of `PGT_CTL`. -/
def PGT_CTL : Fld := ⟨0x2000, 16, 15, 0, true⟩
def PGT_CTL_EN : Fld := ⟨0x2000, 16, 15, 15, true⟩
def PGT_CTL_PRIO : Fld := ⟨0x2000, 16, 13, 12, true⟩
def PGT_CTL_POLICY : Fld := ⟨0x2000, 16, 11, 10, true⟩
def PGT_CTL_ALIGN : Fld := ⟨0x2000, 16, 9, 9, true⟩
def PGT_CTL_DISC : Fld := ⟨0x2000, 16, 8, 8, true⟩
def PGT_CTL_REG : Fld := ⟨0x2000, 16, 7, 7, true⟩
def PGT_CTL_SILDROP : Fld := ⟨0x2000, 16, 6, 6, true⟩
def PGT_CTL_FIX : Fld := ⟨0x2000, 16, 2, 0, true⟩
/-- The whole of `PGT_PI`. -/
def PGT_PI : Fld := ⟨0x2001, 16, 15, 0, true⟩
def PGT_PI_ID : Fld := ⟨0x2001, 16, 15, 0, true⟩
/-- The whole of `PGT_SID`. -/
def PGT_SID : Fld := ⟨0x2002, 16, 15, 0, true⟩
def PGT_SID_ID : Fld := ⟨0x2002, 16, 15, 0, true⟩
/-- The whole of `PGT_SW`. -/
def PGT_SW : Fld := ⟨0x2003, 16, 15, 0, true⟩
def PGT_SW_MARGIN : Fld := ⟨0x2003, 16, 15, 8, true⟩
def PGT_SW_HOLD : Fld := ⟨0x2003, 16, 7, 0, true⟩
/-- The whole of `PGT_XF`. -/
def PGT_XF : Fld := ⟨0x2004, 16, 15, 0, true⟩
def PGT_XF_TIME : Fld := ⟨0x2004, 16, 15, 8, true⟩
def PGT_XF_LMATCH : Fld := ⟨0x2004, 16, 7, 7, true⟩
def PGT_XF_LMAX : Fld := ⟨0x2004, 16, 3, 0, true⟩
/-- The whole of `PGT_SRC`. -/
def PGT_SRC : Fld := ⟨0x2005, 1, 15, 0, true⟩
def PGT_SRC_KIND : Fld := ⟨0x2005, 1, 15, 12, true⟩
def PGT_SRC_ARG : Fld := ⟨0x2005, 1, 11, 0, true⟩
/-- The whole of `PGT_REF`. -/
def PGT_REF : Fld := ⟨0x200D, 16, 15, 0, true⟩
def PGT_REF_KIND : Fld := ⟨0x200D, 16, 15, 14, true⟩
def PGT_REF_ARG : Fld := ⟨0x200D, 16, 11, 0, true⟩
/-- The whole of `PGT_STAT`. -/
def PGT_STAT : Fld := ⟨0x200E, 16, 15, 0, false⟩
def PGT_STAT_ACTIVE : Fld := ⟨0x200E, 16, 15, 12, false⟩
def PGT_STAT_XFADE : Fld := ⟨0x200E, 16, 11, 11, false⟩
def PGT_STAT_ALIGNED : Fld := ⟨0x200E, 16, 10, 10, false⟩
def PGT_STAT_SLEW : Fld := ⟨0x200E, 16, 9, 9, false⟩
def PGT_STAT_SILENT : Fld := ⟨0x200E, 16, 8, 8, false⟩
def PGT_STAT_STEREO : Fld := ⟨0x200E, 16, 7, 7, false⟩
def PGT_STAT_MISMATCH : Fld := ⟨0x200E, 16, 6, 6, false⟩
def PGT_STAT_REF_LOCK : Fld := ⟨0x200E, 16, 5, 5, false⟩
def PGT_STAT_NOSRC : Fld := ⟨0x200E, 16, 4, 4, false⟩
def PGT_STAT_NOREF : Fld := ⟨0x200E, 16, 3, 3, false⟩
/-- The whole of `PGT_SCORE`. -/
def PGT_SCORE : Fld := ⟨0x200F, 16, 15, 0, false⟩
def PGT_SCORE_SCORE : Fld := ⟨0x200F, 16, 9, 0, false⟩
/-- The whole of `MXT_CTL`. -/
def MXT_CTL : Fld := ⟨0x2800, 16, 15, 0, true⟩
def MXT_CTL_EN : Fld := ⟨0x2800, 16, 15, 15, true⟩
def MXT_CTL_LIM_EN : Fld := ⟨0x2800, 16, 14, 14, true⟩
def MXT_CTL_RAMP : Fld := ⟨0x2800, 16, 11, 8, true⟩
def MXT_CTL_EQ_EN : Fld := ⟨0x2800, 16, 4, 0, true⟩
/-- The whole of `MXT_SINK`. -/
def MXT_SINK : Fld := ⟨0x2801, 16, 15, 0, true⟩
def MXT_SINK_KIND : Fld := ⟨0x2801, 16, 15, 12, true⟩
def MXT_SINK_ARG : Fld := ⟨0x2801, 16, 11, 0, true⟩
/-- The whole of `MXT_TERM`. -/
def MXT_TERM : Fld := ⟨0x2802, 1, 15, 0, true⟩
def MXT_TERM_RAMP : Fld := ⟨0x2802, 1, 15, 12, true⟩
def MXT_TERM_INV : Fld := ⟨0x2802, 1, 9, 9, true⟩
def MXT_TERM_SRC : Fld := ⟨0x2802, 1, 8, 0, true⟩
/-- The whole of `MXT_GAIN`. -/
def MXT_GAIN : Fld := ⟨0x280A, 1, 15, 0, false⟩
def MXT_GAIN_G_A : Fld := ⟨0x280A, 1, 15, 8, false⟩
def MXT_GAIN_G_B : Fld := ⟨0x280A, 1, 7, 0, false⟩
/-- The whole of `MXT_PEAK`. -/
def MXT_PEAK : Fld := ⟨0x280E, 16, 15, 0, false⟩
def MXT_PEAK_PEAK : Fld := ⟨0x280E, 16, 15, 0, false⟩
/-- The whole of `MXT_STAT`. -/
def MXT_STAT : Fld := ⟨0x280F, 16, 15, 0, false⟩
def MXT_STAT_FEEDING : Fld := ⟨0x280F, 16, 15, 15, false⟩
def MXT_STAT_RAMPING : Fld := ⟨0x280F, 16, 14, 14, false⟩
def MXT_STAT_LIMIT : Fld := ⟨0x280F, 16, 3, 3, false⟩
def MXT_STAT_CONFLICT : Fld := ⟨0x280F, 16, 2, 2, false⟩
def MXT_STAT_EQ_REJ : Fld := ⟨0x280F, 16, 1, 1, false⟩
def MXT_STAT_CLIP : Fld := ⟨0x280F, 16, 0, 0, false⟩
/-- The whole of `RDS_CTL`. -/
def RDS_CTL : Fld := ⟨0x3000, 8, 15, 0, true⟩
def RDS_CTL_EN : Fld := ⟨0x3000, 8, 15, 15, true⟩
def RDS_CTL_RBDS : Fld := ⟨0x3000, 8, 14, 14, true⟩
/-- The whole of `RDS_STAT`. -/
def RDS_STAT : Fld := ⟨0x3001, 8, 15, 0, false⟩
def RDS_STAT_SYNC : Fld := ⟨0x3001, 8, 15, 15, false⟩
def RDS_STAT_PI_CONF : Fld := ⟨0x3001, 8, 14, 14, false⟩
def RDS_STAT_TP : Fld := ⟨0x3001, 8, 13, 13, false⟩
def RDS_STAT_TA : Fld := ⟨0x3001, 8, 12, 12, false⟩
def RDS_STAT_MS : Fld := ⟨0x3001, 8, 11, 11, false⟩
def RDS_STAT_PS_VALID : Fld := ⟨0x3001, 8, 10, 10, false⟩
def RDS_STAT_RT_VALID : Fld := ⟨0x3001, 8, 9, 9, false⟩
def RDS_STAT_AFM : Fld := ⟨0x3001, 8, 8, 7, false⟩
def RDS_STAT_PTY : Fld := ⟨0x3001, 8, 4, 0, false⟩
/-- The whole of `RDS_PI`. -/
def RDS_PI : Fld := ⟨0x3002, 8, 15, 0, false⟩
def RDS_PI_PI : Fld := ⟨0x3002, 8, 15, 0, false⟩
/-- The whole of `RDS_PS0`. -/
def RDS_PS0 : Fld := ⟨0x3003, 8, 15, 0, false⟩
def RDS_PS0_CHAR0 : Fld := ⟨0x3003, 8, 15, 8, false⟩
def RDS_PS0_CHAR1 : Fld := ⟨0x3003, 8, 7, 0, false⟩
/-- The whole of `RDS_PS1`. -/
def RDS_PS1 : Fld := ⟨0x3004, 8, 15, 0, false⟩
def RDS_PS1_CHAR0 : Fld := ⟨0x3004, 8, 15, 8, false⟩
def RDS_PS1_CHAR1 : Fld := ⟨0x3004, 8, 7, 0, false⟩
/-- The whole of `RDS_PS2`. -/
def RDS_PS2 : Fld := ⟨0x3005, 8, 15, 0, false⟩
def RDS_PS2_CHAR0 : Fld := ⟨0x3005, 8, 15, 8, false⟩
def RDS_PS2_CHAR1 : Fld := ⟨0x3005, 8, 7, 0, false⟩
/-- The whole of `RDS_PS3`. -/
def RDS_PS3 : Fld := ⟨0x3006, 8, 15, 0, false⟩
def RDS_PS3_CHAR0 : Fld := ⟨0x3006, 8, 15, 8, false⟩
def RDS_PS3_CHAR1 : Fld := ⟨0x3006, 8, 7, 0, false⟩
/-- The whole of `RDS_QUAL`. -/
def RDS_QUAL : Fld := ⟨0x3007, 8, 15, 0, false⟩
def RDS_QUAL_BLER : Fld := ⟨0x3007, 8, 15, 8, false⟩
def RDS_QUAL_UNREAD : Fld := ⟨0x3007, 8, 4, 0, false⟩

end R

end Sys2Proof.Machine
end

