-- ==== Sys2Proof/Machine/Operands.lean ====
section
/-!
DEFINITION. The operand forms of the block: bit fields of a word, two's complement values, the clamp of a field (R8), and the
effect of a write on the word of one register by its access codes (R5, R10, R11).
-/
namespace Sys2Proof.Machine

/-- Bits [hi:lo] of a word as a number. -/
def bitsOf (w : Word) (hi lo : Nat) : Nat := w.toNat / 2 ^ lo % 2 ^ (hi + 1 - lo)

/-- The word with bits [hi:lo] replaced by the low bits of `v`. -/
def putBits (w : Word) (hi lo v : Nat) : Word :=
  BitVec.ofNat 16 (w.toNat - bitsOf w hi lo * 2 ^ lo + v % 2 ^ (hi + 1 - lo) * 2 ^ lo)

/-- The two's complement value of the `n`-bit number `v`. -/
def sgn (n v : Nat) : Int := if v < 2 ^ (n - 1) then v else (v : Int) - (2 ^ n : Nat)

/-- The `n`-bit number whose two's complement value is `x` modulo 2^n. -/
def unsgn (n : Nat) (x : Int) : Nat := (x % ((2 ^ n : Nat) : Int)).toNat

/-- `x` held between `lo` and `hi`. -/
def clampInt (lo hi x : Int) : Int := if x < lo then lo else if hi < x then hi else x

/-- `v` held between `lo` and `hi`. -/
def clampNat (lo hi v : Nat) : Nat := if v < lo then lo else if hi < v then hi else v

/-- The legal value nearest to the `n`-bit value `v` (R8). -/
def Legal.clamp (n : Nat) (v : Nat) : Legal → Nat
  | .any => v
  | .max hi => clampNat 0 hi v
  | .range lo hi => clampNat lo hi v
  | .srange lo hi => unsgn n (clampInt lo hi (sgn n v))

/-- `a / b` rounded to the nearest number; a value exactly midway goes to the lower one (R9). -/
def divNear (a b : Nat) : Nat := if 2 * (a % b) ≤ b then a / b else a / b + 1

/-- `a / b` rounded to the nearest integer; a value exactly midway goes to the lower one (R9). -/
def divNearInt (a : Int) (b : Nat) : Int :=
  if 2 * (a % (b : Int)) ≤ (b : Int) then a / (b : Int) else a / (b : Int) + 1

/-- What a write of `new` leaves in one field of a register that holds `old` (R5): RW and RWS fields take the clamped value,
RO fields are kept, W1C bits are cleared by a 1, WO fields store nothing. -/
def FieldDef.write (f : FieldDef) (old new : Word) : Nat :=
  let o := bitsOf old f.hi f.lo
  let v := bitsOf new f.hi f.lo
  match f.acc with
  | .rw => f.legal.clamp (f.hi + 1 - f.lo) v
  | .rws => f.legal.clamp (f.hi + 1 - f.lo) v
  | .ro => o
  | .w1c => o - (o &&& v)
  | .wo => 0

/-- What a write of `new` leaves in a register with the given fields that holds `old`; bits of no field read 0 (R11). -/
def writeFields (fs : List FieldDef) (old new : Word) : Word :=
  fs.foldl (fun w f => putBits w f.hi f.lo (f.write old new)) 0

/-- The record addresses a register with an RWS or RW field (R64). -/
def recordTakes (fs : List FieldDef) : Bool := fs.any (fun f => f.acc == .rw || f.acc == .rws)

/-- The virtual index that holds page `page` of `FSP_MAP[i]` (each page has its own staged and applied values). -/
def mapIdx (page i : Nat) : Nat := 0x10000 + 16 * page + i

/-- The bits of `FSP_MAP[i]` that page `page` assigns; entries beyond the page's size and bits beyond its last index are reserved. -/
def mapMask (page i : Nat) : Nat :=
  match page with
  | 0 => if i < 8 then 0xFFFF else 0
  | 1 => if i < 16 then 0xFFFF else 0
  | 2 => if i < 10 then 0xFFFF else 0
  | 3 => if i < 3 then 0xFFFF else 0
  | 4 => if i < 16 then 0xFFFF else 0
  | _ => 0

/-- The two bytes of a word, the more significant first. -/
def beWord (w : Nat) : List Nat := [w / 256 % 256, w % 256]

/-- The four bytes of a 32-bit number, the most significant first (R59, R333). -/
def be32 (w : Nat) : List Nat := beWord (w / 65536) ++ beWord w

/-- The eight bytes of a 64-bit number, the most significant first. -/
def be64 (w : Nat) : List Nat := be32 (w / 2 ^ 32) ++ be32 w

/-- The number whose bytes, the most significant first, are `bs`. -/
def ofBe (bs : List Nat) : Nat := bs.foldl (fun a b => a * 256 + b % 256) 0

/-- One bit of the CRC-8 with polynomial 0x07 (R334). -/
def crc8Bit (c : Nat) : Nat := if 128 ≤ c then (c * 2 % 256) ^^^ 7 else c * 2

/-- The CRC-8 of R334 carried on over one byte. -/
def crc8Byte (c b : Nat) : Nat :=
  crc8Bit (crc8Bit (crc8Bit (crc8Bit (crc8Bit (crc8Bit (crc8Bit (crc8Bit (c ^^^ b % 256))))))))

/-- The CRC-8 of R334 carried on from `c` over `bs`: polynomial 0x07, no reflection, no final XOR. -/
def crc8From (c : Nat) (bs : List Nat) : Nat := bs.foldl crc8Byte c

/-- One bit of the reflected CRC-32 of R60. -/
def crc32Bit (c : Nat) : Nat := if c % 2 = 1 then (c / 2) ^^^ 0xEDB88320 else c / 2

/-- The CRC-32 of R60 carried on over one byte. -/
def crc32Byte (c b : Nat) : Nat :=
  crc32Bit (crc32Bit (crc32Bit (crc32Bit (crc32Bit (crc32Bit (crc32Bit (crc32Bit (c ^^^ b % 256))))))))

/-- The CRC-32 of R60: polynomial 0x04C11DB7, reflected, initial value and final XOR 0xFFFFFFFF. -/
def crc32 (bs : List Nat) : Nat := (bs.foldl crc32Byte 0xFFFFFFFF) ^^^ 0xFFFFFFFF

/-- One bit of the CRC-16 with polynomial 0x1021. -/
def crc16Bit (c : Nat) : Nat := if 32768 ≤ c then (c * 2 % 65536) ^^^ 0x1021 else c * 2

/-- The CRC-16 carried on over one byte. -/
def crc16Byte (c b : Nat) : Nat :=
  crc16Bit (crc16Bit (crc16Bit (crc16Bit (crc16Bit (crc16Bit (crc16Bit (crc16Bit (c ^^^ b % 256 * 256))))))))

/-- The CRC-16 of R467: polynomial 0x1021, initial value 0xFFFF, no reflection, no final XOR. -/
def crc16 (bs : List Nat) : Nat := bs.foldl crc16Byte 0xFFFF

/-- Bit `k` of a number. -/
def bitAt (v k : Nat) : Bool := v / 2 ^ k % 2 == 1

/-- 1 or 0. -/
def b2n (b : Bool) : Nat := if b then 1 else 0

/-- Some `L` in `lo ≤ L < lo + 2^n` is the greatest with `p L`, where `p` holds up to some point and `p lo` holds: search by
halves. -/
def greatest (p : Int → Bool) (lo : Int) : Nat → Int
  | 0 => lo
  | n + 1 => if p (lo + (2 ^ n : Nat)) then greatest p (lo + (2 ^ n : Nat)) n else greatest p lo n

/-- `num / den > 10 ^ (k / m)`, compared exactly. -/
def aboveTenTo (num den : Nat) (k : Int) (m : Nat) : Bool :=
  if 0 ≤ k then decide (den ^ m * 10 ^ k.toNat < num ^ m) else decide (den ^ m < num ^ m * 10 ^ (-k).toNat)

/-- 10 log10(num / den) in steps of 0.1, rounded to the nearest with ties down (R9), for positive `num` and `den`. -/
def levelTenths (num den : Nat) : Int := greatest (fun l => aboveTenTo num den (2 * l - 1) 200) (-4096) 13

/-- 10 log10(num / den) in steps of 0.01, rounded as in R9, for positive `num` and `den` (R166). -/
def levelHundredths (num den : Nat) : Int := greatest (fun l => aboveTenTo num den (2 * l - 1) 2000) (-32768) 16

/-- 10^(2^i / 2000) in 2^−40, for bit `i` of a gain in 0.01 dB. -/
def dbBits : List Nat :=
  [1100778216285, 1102046263847, 1104586742858, 1109685283608, 1119953075118, 1140774557340, 1183586019282, 1274089177096, 1476385688141,
   1982438971162, 3574372635176, 11619831398177]

/-- The amplitude factor of a gain of `k` hundredths of a decibel, up to 40.95 dB, in 2^−40. -/
def dbUp (k : Nat) : Nat := dbBits.zipIdx.foldl (fun g b => if bitAt k b.2 then g * b.1 / 2 ^ 40 else g) (2 ^ 40)

/-- The amplitude factor of a gain of `c` hundredths of a decibel, from −131 dB to +131 dB, in 2^−40. -/
def dbAmp (c : Int) : Nat :=
  let n := min c.natAbs 13100
  let up := (List.replicate (n / 4000) (dbUp 4000)).foldl (fun g f => g * f / 2 ^ 40) (dbUp (n % 4000))
  if c < 0 then 2 ^ 80 / up else up

/-- Values shifted as evenly as whole numbers allow so that they sum to zero: the lower lanes take the greater part (log entry 49). -/
def zeroSum (l : List Int) : List Int :=
  let s := l.foldl (· + ·) 0
  let n : Int := (l.length : Nat)
  l.zipIdx.map (fun p => p.1 - s / n - (if ((p.2 : Nat) : Int) < s % n then 1 else 0))

/-- |code| lies above −`db` dBFS, where full scale is 8,192 (R103). -/
def aboveDbfs (code db : Nat) : Bool := aboveTenTo (code ^ 2) (8192 ^ 2) (-(db : Int)) 10

end Sys2Proof.Machine
end

