-- ==== Sys2Proof/Machine/State.lean ====
section
/-!
DEFINITION. The state of the block: its registers in four layers, the hidden state of its engines, its two byte-addressed
memories, and the queue of waiting commands. Everything is plain data.
-/
namespace Sys2Proof.Machine

/-- The register map in its layers (R5, R6, R83). An unlisted index reads its reset word. `imm` holds the immediate registers;
a staged register has its staged value in `staged`, its value in the last committed epoch in `committed`, and its value in
force in `applied`. -/
structure RegFile where
  imm : SMap Word := []
  staged : SMap Word := []
  committed : SMap Word := []
  applied : SMap Word := []
deriving DecidableEq, Repr

/-- Device time (R23 to R27) and the cycle counter that times the engines. -/
structure TimeSt where
  /-- device-time seconds, modulo 2^32 (R26) -/
  sec : Nat := 0
  /-- SYS cycles since the start of the current second, below 294,912,000 (R23) -/
  cyc : Nat := 0
  /-- SYS cycles counted since reset: the model's own base for times that span several commands -/
  clk : Nat := 0
  /-- the cycle at which lane group 0 of the common counter begins (R142, R639) -/
  smpClk : Nat := 0
  /-- the cycle of the last step of device time and the seconds it added (R24) -/
  stepClk : Nat := 0
  stepBy : Int := 0
  /-- the seconds value that waits for the next boundary after the RTC was set (R24) -/
  secPending : Option Nat := none
  /-- the captured device-time registers S1, S0, F1, F0 (R27) -/
  frozen : Option (Nat × Nat × Nat × Nat) := none
deriving DecidableEq, Repr

/-- The in-band attention (R536 to R538): no request; `HSDA` held low; released since the host pulled `HSCL` low, the first
transaction still to come. -/
inductive InbState
  | idle | hold | asked
deriving DecidableEq, Repr

/-- What the next byte of a host write is (R520, R531): the PEC of the pointer (with the pointer before it), the high or the low byte of a
register value, the PEC of that value, or a byte without effect. -/
inductive BusPhase
  | ptrPec (old : Nat) | hi | lo (h : Nat) | pec (v : Nat) | ignore
deriving DecidableEq, Repr

/-- The host two-wire interface (R518 to R538). -/
structure BusSt where
  /-- the 16-bit pointer (R520) -/
  pointer : Nat := 0
  /-- a transaction addressed to the PQ7360 is in progress; it has turned to reading -/
  active : Bool := false
  reading : Bool := false
  phase : BusPhase := .hi
  /-- `HIF_CFG` as latched at the last START (R533) -/
  cfg : Nat := 0x3000
  /-- the CRC-8 over the bytes of the transaction so far (R531) -/
  crc : Nat := 0
  /-- no further byte is acknowledged until the STOP (R532) -/
  dead : Bool := false
  /-- the bytes that the PQ7360 sent in the last transaction in which the host read -/
  out : List Nat := []
  /-- the bulk read position of 0xF030, a register offset from 0x2000 (R530) -/
  bulkPos : Nat := 0
  /-- cycle of the end of the last transaction -/
  idleClk : Nat := 0
  /-- cycle of the last edge of `HSCL`; the low period since then has been counted as a timeout (R525) -/
  edgeClk : Nat := 0
  timedOut : Bool := false
  inb : InbState := .idle
  /-- cycle in which the present in-band request began -/
  inbClk : Nat := 0
  /-- the cycle from which an in-band request may be made again after a hold timeout (R538) -/
  inbNotBefore : Nat := 0
deriving DecidableEq, Repr

/-- A mailbox request in its parts (R636). -/
structure MbxReq where
  opcode : Nat
  tag : Nat
  offset : Nat
  data : List Nat
deriving DecidableEq, Repr

/-- The mailbox (R75): the request in progress, its result once its work is done, and the response that waits. -/
structure MbxSt where
  req : Option MbxReq := none
  /-- status and payload of the request in progress, once known -/
  result : Option (Nat × List Nat) := none
  /-- what a read of RDS or DAB items is answered, as of the moment when its request was taken (R75, R243, R277); none for status 0x02 -/
  snap : Option (List Nat) := none
  /-- the response that waits for the host, whole -/
  resp : Option (List Nat) := none
  /-- the response that waits is a status 0x01 answer to a request that was not taken -/
  busyAnswer : Bool := false
deriving DecidableEq, Repr

/-- Where the boot stands (R55 to R71). -/
inductive BootPhase
  | inReset      -- the main reset is held
  | romHold      -- the ROM checksum failed (R32)
  | headers      -- the headers of the banks are to be read (R66)
  | reading (bank : Fin 2) (first : Bool)   -- that bank is read in full; `first`: it is the preferred bank
  | baseline     -- the ROM baselines of every class are loaded
  | imgWait      -- mode 0b10 waits for load end
  | released     -- the engines run
deriving DecidableEq, Repr

/-- How the flash is read (R58): the lines of address and data, the command with its dummy cycles, the clock in MHz, and the method by which quad
operation was enabled. -/
structure FlashRead where
  addrLines : Nat := 1
  dataLines : Nat := 1
  command : FlashCmd := ⟨0x03, 0⟩
  mhz : Nat := 26
  enable : Option (Fin 8) := none
deriving DecidableEq, Repr

/-- Boot, images and the flash device (R55 to R80). -/
structure BootSt where
  phase : BootPhase := .inReset
  /-- what the SFDP table said at this boot (R57) -/
  sfdp : Option Sfdp := none
  /-- the commands sent to the flash before it is first read (R58) -/
  sent : List Byte := []
  /-- how it is read (R58) -/
  read : FlashRead := {}
  /-- the check of the preferred bank: valid, and the classes that failed (R66) -/
  prefValid : Bool := false
  prefFail : Nat := 0
  /-- the boot ended by R70: no valid image -/
  noImage : Bool := false
  /-- a load end has succeeded (R76) -/
  hostLoaded : Bool := false
  /-- classes that run their Tadpole baseline, bit c for class c (R69) -/
  tadpole : Nat := 127
  /-- cycle count at the release of reset, for BOOT_T_AUDIO (R73) -/
  releaseClk : Nat := 0
  /-- the first FM programme audio has been delivered (R73) -/
  audioSeen : Bool := false
deriving DecidableEq, Repr

/-- The epoch in flight (R83 to R89). -/
structure EpochSt where
  /-- the blocks that have not yet applied the epoch in flight -/
  waiting : List EpochUnit := []
  /-- staged registers whose applied value failed its parity and waits for its block's boundary (R571) -/
  bad : List Nat := []
deriving DecidableEq, Repr

/-- The content of a packet to be stored: an EVENT alert (R346) or given bytes. -/
inductive PktBody
  | event (reg bits value epoch : Nat)
  | bytes (b : List Nat)
deriving DecidableEq, Repr

/-- A formed Ferson packet that has not yet been judged by PACKET_FORMED (R333, R349). -/
structure PktReq where
  /-- the cycle in which it was formed (R349) -/
  formedAt : Nat
  cls : Nat
  stream : Nat
  time : Nat
  mark : Bool
  /-- payload units less one -/
  len : Nat
  body : PktBody
deriving DecidableEq, Repr

/-- A packet stored in the Lilypad (R347). -/
structure Packet where
  cls : Nat
  stream : Nat
  seq : Nat
  time : Nat
  drop : Bool
  mark : Bool
  len : Nat
  payload : List Nat
  /-- blocks taken from the reserve and from the general area (R351) -/
  resBlocks : Nat
  genBlocks : Nat
  /-- read with an uncorrectable error (R354) -/
  poisoned : Bool
deriving DecidableEq, Repr

/-- A class 1 packet in assembly (R340): blocks so far with their marks, the time of the first, the sample width (R339), bytes 8 to 13 of the
descriptor at the end of the last block (R341), and their samples; the last sample delivered, and whether the block before was missing (R20). -/
structure PcmAsm where
  marks : List Nat := []
  time : Nat := 0
  wide : Bool := false
  info : List Nat := []
  pcm : List (Int × Int) := []
  last : Int × Int := (0, 0)
  gap : Bool := false
deriving DecidableEq, Repr

/-- A class 4 packet in assembly (R345): samples so far, each with whether it is overloaded or blanked (R338), and the time of the first. -/
structure IqAsm where
  iq : List ((Int × Int) × Bool) := []
  time : Nat := 0
deriving DecidableEq, Repr

/-- The Ferson port and the Lilypad (R325 to R357). -/
structure FspSt where
  formed : List PktReq := []
  /-- stored packets, oldest first -/
  stored : List Packet := []
  /-- how many packets at the front of `stored` go before every other: the START packet of a restart and the cut packet (R356) -/
  head : Nat := 0
  transit : Option Packet := none
  /-- the bytes of the packet last begun on the wire -/
  wire : List Nat := []
  /-- next SEQ of each stream, by class × 4096 + stream (R335) -/
  seq : SMap Nat := []
  /-- drop counter of each stream since reset or CLR_CNT (R350) -/
  drops : SMap Nat := []
  /-- streams that owe a DROP mark (R336) -/
  dropMark : SMap Bool := []
  /-- packets dropped, all classes, modulo 2^32 -/
  dropAll : Nat := 0
  /-- alerts deferred since the last DEFER packet (R353) -/
  deferred : Nat := 0
  /-- bytes of the packet on the wire, then idle cycles after it, already clocked out before cycle `runClk`, from which the clock runs (R326 to R331) -/
  pos : Nat := 0
  runClk : Nat := 0
  /-- cycle since which stored packets wait without a gap (R574) -/
  waitClk : Nat := 0
  /-- cycle in which the clock stops or stopped by FSP_RDY, and the drop count at the stop -/
  stopClk : Nat := 0
  stopDrops : Nat := 0
  /-- packets sent, modulo 2^32 -/
  sent : Nat := 0
  /-- class 1 packets in assembly, by stream -/
  asm : SMap PcmAsm := []
  /-- class 4 packets in assembly, by tap -/
  iq : SMap IqAsm := []
  /-- FSP_CFG.DIV in force on the wire (R332) -/
  divNow : Nat := 0
  /-- second plus one of the last HEARTBEAT packet -/
  beat : Nat := 0
deriving DecidableEq, Repr

/-- One antenna input (R92 to R118). Counters of averages hold the debounce of R94; windows are peak windows, 90 in 1 ms. -/
structure AfeSt where
  snsSum : Nat := 0
  snsN : Nat := 0
  /-- the overcurrent check is armed (R97) -/
  armed : Bool := true
  /-- the present SETTLE follows a trip -/
  tripped : Bool := false
  /-- `PH_EN` became 0 within the 1 ms average in progress (R96): 1 in SETTLE, 2 in ON or OPEN -/
  closing : Nat := 0
  /-- cycle in which the present SETTLE or WAIT began -/
  phClk : Nat := 0
  /-- consecutive averages above OC, at or below OC, below OL, from OL to OC -/
  ocRun : Nat := 0
  okRun : Nat := 0
  olRun : Nat := 0
  inRun : Nat := 0
  /-- the pin ANT_EN_x -/
  antEn : Bool := false
  /-- the attenuation of the change that waits, and its target lane group (R102) -/
  attTarget : Option (Nat × Nat) := none
  /-- LNA mode in force, and the target lane group of a change that waits (R98) -/
  lnaNow : Nat := 0
  lnaTarget : Option Nat := none
  /-- cycle of the last attenuator step (none: no step yet), and the cycle since which the peak of every peak window has stayed below −DN, without a
  step (R103, R104) -/
  stepClk : Option Nat := none
  lowClk : Nat := 0
  /-- lane groups with which the peak window and the overload window in progress begin -/
  peakAt : Nat := 0
  ovlAt : Nat := 0
  /-- the window in progress: highest |code|, touched by blanking, an attack decided in it -/
  peak : Nat := 0
  blanked : Bool := false
  attacked : Bool := false
  /-- clipped samples of the overload window in progress, and whether blanking touched it -/
  clips : Nat := 0
  ovlBlanked : Bool := false
  /-- an overloaded window outside blanking has fallen in this device-time second (R114) -/
  ovlSecond : Bool := false
  /-- the context block in progress contains an overloaded lane group (R115), or was blanked (R49) -/
  blockOvl : Bool := false
  /-- the cycles that the overloaded windows of the context block in progress span (R115, R338) -/
  flagged : List (Nat × Nat) := []
  /-- later of domain ON and SPL lock while the input does not sample (R117) -/
  onClk : Nat := 0
  /-- acquisition: at the start of the input; the attenuation at which it measures, and the cycle from which that is in force; since then the highest
  |code| and whether a sample clipped (R110, R111) -/
  starting : Bool := false
  acqMax : Nat := 31
  acqClk : Option Nat := none
  acqPeak : Nat := 0
  acqClip : Bool := false
  /-- highest |code| since the last update of AFEx_PEAK -/
  peak100 : Nat := 0
  /-- lane groups delivered since sampling began, and the compensated samples of the last one (R100) -/
  groups : Nat := 0
  group : List Int := []
  /-- its samples with offset and gain corrected, in 2^−20 code (R119) -/
  corrected : List Int := []
deriving DecidableEq, Repr

/-- Offset, gain and skew of one lane (R119). -/
structure LaneCorr where
  ofs : Int
  gain : Int
  skew : Int
deriving DecidableEq, Repr

/-- A commit that waits for its target lane group (R126 to R130); `set = none` stands for the factory correction. -/
structure BicPend where
  set : Option (List LaneCorr)
  /-- NULL mode, and not yet timed out -/
  null : Bool
  /-- its target lane group, once known (R126) -/
  target : Option Nat
  /-- the timeout in force at the decision in cycles, and the cycle from which it runs (R127, R132, R133) -/
  tmo : Nat
  clk : Nat
  /-- the DBE index of the reference ensemble when it was accepted (R132) -/
  ref : Nat
  /-- 0 an accepted pair, 1 a revert, 2 the factory correction -/
  kind : Nat
  /-- the residual image figure of the pair that produced it -/
  img : Nat
  /-- origin of the set, as BICx_STAT.SRC will read -/
  src : Nat
deriving DecidableEq, Repr

/-- Interleave calibration of one input (R119 to R134). -/
structure BicSt where
  /-- correction in force and the one before it; `none` is the factory correction -/
  corr : Option (List LaneCorr) := none
  prev : Option (List LaneCorr) := none
  prevSrc : Nat := 0
  /-- estimates of window E1 -/
  e1 : List LaneCorr := []
  pend : Option BicPend := none
  /-- the residual image figure that the verify window is held against -/
  img : Nat := 0
  /-- the verify window is still to come (R130) -/
  verify : Bool := false
  /-- target lane group of the last commit (R52) -/
  commitAt : Option Nat := none
  /-- lane group with which the window in progress begins (R120) -/
  start : Nat := 0
  /-- within the window in progress: overloaded windows, an attenuator or LNA change, blanking -/
  ovl : Nat := 0
  moved : Bool := false
  blank : Bool := false
  /-- device time of the newest commit -/
  time : Nat := 0
deriving DecidableEq, Repr

/-- A record handed over to Anole (R135). -/
structure JnlRec where
  time : Nat
  a : Option (List LaneCorr)
  b : Option (List LaneCorr)
deriving DecidableEq, Repr

/-- The calibration journal (R135 to R139). -/
structure JnlSt where
  /-- a commit or revert waits to be recorded -/
  dirty : Bool := false
  /-- cycle of the last handover -/
  last : Option Nat := none
  queue : List JnlRec := []
  slot : Nat := 0
  /-- next position in the active slot, 512 when it is full -/
  pos : Nat := 0
  /-- SEQ of the newest valid record -/
  seq : Nat := 0
deriving DecidableEq, Repr

/-- A 1 ms block of audio: time stamp of its first sample, mark (0 valid, 1 concealed, 2 missing, 3 blanked), its samples as left and
right in 2^−23 of full scale (none for a missing block), and the cycle from which the programme layer has it (R198). -/
structure Blk where
  stamp : Nat
  mark : Nat
  pcm : List (Int × Int) := []
  ready : Nat := 0
deriving DecidableEq, Repr

/-- The grid of context blocks (R142, R639): the cycle of the next boundary, and what the last boundaries have made due: the update of
measurements (`true`: with the 1 s values), the end of a deviation interval, the end of a measurement period; and a restart of the accumulators
that waits for the end of the block in progress (R208). -/
structure GridSt where
  due : Nat := 0
  meas : Option Bool := none
  dev : Bool := false
  period : Bool := false
  clr : Bool := false
  /-- the cycle at which the next programme block is due, and whether a scoring interval and a loudness update are -/
  prg : Nat := 0
  score : Bool := false
  loud : Bool := false
deriving DecidableEq, Repr

/-- Thermal shedding (R156, R157): cycle plus one of the last step while the threshold is reached, cycle plus one since which the hottest sensor has
stayed below the resumption level, and cycle plus one of the last resumption. -/
structure ShedSt where
  stepClk : Nat := 0
  coolClk : Nat := 0
  resumeClk : Nat := 0
deriving DecidableEq, Repr

/-- A reception context (R144 to R164), or a managed DSC entry, beside its registers. Keys: pool × 256 + entry, with pools 0 FM,
1 AM, 2 DAB ensemble, 3 I/Q tap, 4 DSC. -/
structure CtxSt where
  managed : Bool := false
  /-- centre in force in kHz (a DBE entry: its block), input in force, class of a managed context -/
  freq : Nat := 0
  src : Nat := 0
  prio : Nat := 0
  /-- programmes that hold a managed context -/
  holders : List Nat := []
  /-- a managed context that has started (R148); cycle plus one since which no programme holds it (R152) -/
  granted : Bool := false
  freeClk : Nat := 0
  /-- what the next block boundary carries out: release after LINGER, release by RELEASE_MGD, shedding, resumption -/
  release : Bool := false
  releaseCmd : Bool := false
  shed : Bool := false
  resume : Bool := false
  /-- blocks since the last overloaded one, held at 100 (R164) -/
  ovlAge : Nat := 100
  /-- what the last boundary delivered: a complete block, and a block marked missing (R162) -/
  data : Bool := false
  missing : Bool := false
  /-- the block in progress is to be delivered as missing: a START block (R162), or one with a memory error (R569) -/
  missNext : Bool := false
  /-- inputs that serve the block in progress and that served the block that ended: bit 0 A, bit 1 B (R146, R164) -/
  inputs : Nat := 0
  inputsWas : Nat := 0
  /-- blocks on their way to the programme layer, oldest first, and those overwritten there (R19) -/
  ring : List Blk := []
  lost : Nat := 0
  /-- a recovery takes the context through START at the next boundary (R574) -/
  restart : Bool := false
deriving DecidableEq, Repr

/-- The newest spectrum of one input (R166 to R170): its bins in order. -/
structure ScnSt where
  bins : List Word := []
  /-- cycle in which the period in progress began; within it, as lane groups: the coexistence blanking windows with their ends (none: still
  open), and the overloaded windows (R168) -/
  start : Nat := 0
  blanks : List (Nat × Option Nat) := []
  ovls : List Nat := []
deriving DecidableEq, Repr

/-- A window of the last blocks' values, newest first; `first`: its one value is of a blanked block, and leaves it with the next one (R49, R205). -/
structure Win (α : Type) where
  vals : List α := []
  first : Bool := false
deriving DecidableEq, Repr

/-- An FM context's pipeline and accumulators (R171 to R194). -/
structure FmSt where
  /-- consecutive blocks with the target above the index in force (R174), BW_MAX in force over the block that ended (R206), and the index that the block in
  progress crossfades from (R175) -/
  widen : Nat := 0
  top : Nat := 0
  bwWas : Option Nat := none
  /-- weight of input A in 0.001 and that of the block before, input in use in selection mode, blocks in which the
  other one led (R176 to R178) -/
  weight : Nat := 500
  weightWas : Nat := 500
  sel : Nat := 0
  lead : Nat := 0
  both : Bool := false
  /-- powers of inputs A and B, ratios (combined, A, B) and envelope figures of the RUN blocks of the last 10 ms, newest first (R187, R205, R207) -/
  powsA : Win Nat := {}
  powsB : Win Nat := {}
  snrs : Win (Nat × Nat × Nat) := {}
  mps : Win Nat := {}
  /-- the last two phases of the demodulator in 2^−24 turn, none at a start; the MPX signal of the last block in Hz (R179) -/
  phases : List Int := []
  mpx : List Int := []
  /-- samples of the mute ramp that are open, 480 without mute (R184) -/
  open_ : Nat := 480
  /-- memory of the de-emphasis of both channels in 2^−16 Hz (R186) -/
  deemp : Int × Int := (0, 0)
  /-- consecutive blocks with and without the pilot (R180) -/
  pilotGood : Nat := 0
  pilotBad : Nat := 0
  /-- the control SNR in 10^−6 dB; none until the first RUN block (R181) -/
  sc : Option Int := none
  /-- sum of the frequencies and blocks of the present 100 ms -/
  freqSum : Int := 0
  freqN : Nat := 0
  /-- highest injections over the eligible blocks of the present 100 ms -/
  pilotInj : Option Nat := none
  rdsInj : Option Nat := none
  /-- the present deviation interval: peak in Hz, and eligible blocks (R189) -/
  devPeak : Nat := 0
  devN : Nat := 0
  /-- deviation values of the last 20 intervals, newest first -/
  devLast : List (Option Nat) := []
  /-- second, plus one, of the last DEV flag (R196) -/
  devSec : Nat := 0
  /-- updates with the offset within its limit since the last FOFS flag, held at 10; 10 is armed (R196) -/
  fofsOk : Nat := 10
  /-- the current period: counts by bin, valid values, peak, milliseconds, excluded blocks (R190) -/
  bins : SMap Nat := []
  count : Nat := 0
  peak : Option Nat := none
  elapsed : Nat := 0
  excluded : Nat := 0
  /-- results of the last completed period: bins, peak, valid values; and completed periods -/
  hist : List Nat := []
  lastPeak : Option Nat := none
  lastN : Nat := 0
  periods : Nat := 0
  /-- MPX: sum of the squares of its samples in Hz² and eligible blocks of the present second, the same for the last 60, and the highest (R192) -/
  mpxSum : Nat := 0
  mpxN : Nat := 0
  mpxHist : List (Nat × Nat) := []
  mpxMax : Option Int := none
  /-- sticky flags -/
  flags : Nat := 0
  /-- entries of the measurement window that differ from 0x8000 -/
  meas : SMap Nat := []
deriving DecidableEq, Repr

/-- An AM context's pipeline (R200 to R204). -/
structure AmSt where
  /-- carrier and noise powers of the RUN blocks of the last 10 ms, newest first -/
  pows : Win (Nat × Nat) := {}
  /-- envelope sums of the RUN blocks of the last 100 ms; the last sample of the block before, and samples that its last blank still covers (R202) -/
  envs : Win Nat := {}
  last : Int × Int := (0, 0)
  nbLeft : Nat := 0
  /-- samples of the crossfade towards the synchronous detector, 240 when it serves alone (R201), and of the mute ramp that are open (R200) -/
  sync : Nat := 0
  open_ : Nat := 0
  /-- highest and lowest modulation in 0.1 % over the eligible blocks of the present 100 ms -/
  pos : Option Int := none
  neg : Option Int := none
  /-- sum of squares and count of the samples of the eligible blocks of the present second -/
  sqSum : Nat := 0
  sqN : Nat := 0
  /-- sum of the carrier offsets and blocks of the present 100 ms -/
  freqSum : Int := 0
  freqN : Nat := 0
  blanks : Nat := 0
  /-- blocks since the last blank, held at 100 -/
  blankAge : Nat := 100
  devSec : Nat := 0
  flags : Nat := 0
  meas : SMap Nat := []
deriving DecidableEq, Repr

/-- One RDS block of a group: its word, its class (R215) and whether it carried offset C′. -/
structure RdsBlk where
  word : Nat := 0
  cls : Nat := 3
  cPrime : Bool := false
deriving DecidableEq, Repr

/-- A formed group (R218 to R222). -/
structure RdsGrp where
  blks : List RdsBlk
  time : Nat
  blanked : Bool
deriving DecidableEq, Repr

/-- A method B list (R232, R233): tuning frequency, the last complete list, and the published one. Entries are flags × 65,536 +
frequency, as the mailbox gives them. -/
structure AfB where
  tune : Nat
  cur : List Nat
  pub : Option (List Nat)
  /-- order of its last completion -/
  heard : Nat
deriving DecidableEq, Repr

/-- An entry of the EON table (R235). -/
structure EonEnt where
  pi : Nat
  /-- characters by segment: last received, and confirmed since the last publication; the published name, as four pairs of characters -/
  psLast : SMap Nat := []
  ps : SMap Nat := []
  name : List Nat := []
  freqs : List Nat := []
  pty : Nat := 0
  tp : Bool := false
  ta : Bool := false
  /-- last reception of each other item -/
  last : SMap Nat := []
  /-- order of its last reception -/
  heard : Nat := 0
deriving DecidableEq, Repr

/-- An accepted clock-time record (R236). -/
structure CtRec where
  mjd : Nat
  hour : Nat
  minute : Nat
  /-- half-hours -/
  loc : Int
  time : Nat
  offered : Bool
deriving DecidableEq, Repr

/-- The RDS decoder of one FM context (R212 to R243). -/
structure RdsSt where
  /-- positions tested in the search over the last 6 blocks: bits since they ended, position in A to D of a class 0 block, the block (R214), and
  whether it lay within blanking -/
  seen : List (Nat × Option Nat × RdsBlk × Bool) := []
  /-- expected position, the cycle in which the group in progress began, its blocks, and whether blanking met one of them -/
  pos : Nat := 0
  start : Nat := 0
  blks : List RdsBlk := [{}, {}, {}, {}]
  blank : Bool := false
  /-- a complete group position that RDS_GROUP has still to take, and whether it straddled a step -/
  ready : Option (RdsGrp × Bool) := none
  /-- the last 50 blocks: class 3 or not (R216); the last 100 outside blanking (R223); bits without synchronisation -/
  last50 : List Bool := []
  last100 : List Bool := []
  noSync : Nat := 2600
  /-- candidate and whether a PI has been confirmed since START, or ever (R224, R225) -/
  piCand : Option Nat := none
  piFirst : Bool := true
  piEver : Bool := false
  /-- cycle of the last PI block of class 0 to 2 (R226), and the frequency whose station the fields describe (R239) -/
  piClk : Nat := 0
  freq : Nat := 0
  /-- last reception of PTY, TP, TA, MS -/
  ptyLast : Option Nat := none
  tpLast : Option Bool := none
  taLast : Option Bool := none
  msLast : Option Bool := none
  /-- PS segments: last received, confirmed since the last publication (R228) -/
  psLast : SMap Nat := []
  psOk : SMap Nat := []
  /-- PS1 to PS3 as frozen (R229) -/
  psFrozen : Option (Nat × Nat × Nat) := none
  /-- RadioText: A/B flag and form of the working text, segments last received and accepted (R230) -/
  rtFlag : Option (Bool × Bool) := none
  rtLast : SMap Nat := []
  rtOk : SMap Nat := []
  /-- published text: characters, A/B flag, form 2B, seconds of publication -/
  rtPub : Option (List Nat × Bool × Bool × Nat) := none
  /-- the AF list in progress: announced codes, and the codes so far as pairs of entries (R231) -/
  afWant : Option Nat := none
  afPairs : List (List Nat) := []
  afA : Option (List Nat) := none
  afALast : Option (List Nat) := none
  /-- method B lists and EON entries in their places, and the running number of completions and receptions -/
  afB : List AfB := []
  eon : List EonEnt := []
  serial : Nat := 0
  ct : Option CtRec := none
  /-- the base of R237: UTC minute count and time stamp -/
  ctBase : Option (Nat × Nat) := none
  /-- unread groups, oldest first (R220) -/
  ring : List RdsGrp := []
  /-- the eight counters of item 0x06 -/
  counts : SMap Nat := []
  flags : Nat := 0
deriving DecidableEq, Repr

/-- An entry of a table of the service database (R251): its key, its content, whether it is stale, and the order of its last reception. -/
structure DbEnt (α : Type) where
  key : Nat
  body : α
  stale : Bool
  heard : Nat
deriving DecidableEq, Repr

/-- A label: character set, 16 bytes, short-label flags. -/
structure DabLabel where
  charset : Nat := 0
  text : List Nat := List.replicate 16 0
  short : Nat := 0
deriving DecidableEq, Repr

/-- A subchannel (FIG 0/1). -/
structure DabSub where
  start : Nat
  size : Nat
  eep : Bool
  prot : Nat
  rate : Nat
deriving DecidableEq, Repr

/-- A service (FIG 0/2, 0/18, 1/1, 2/1). -/
structure DabSvc where
  data : Bool
  comps : List DabComp
  label : Option DabLabel := none
  ext : List Nat := []
  asu : Nat := 0
  clusters : List Nat := []
deriving DecidableEq, Repr

/-- A linkage set (FIG 0/6). -/
structure DabLink where
  lsn : Nat
  active : Bool
  hard : Bool
  intl : Bool
  ids : List (Nat × Nat)
deriving DecidableEq, Repr

/-- A FIG 0/10 record (R257, R258); its time stamp is known at the null symbol that follows. -/
structure DabDate where
  mjd : Nat
  hour : Nat
  minute : Nat
  long : Bool
  second : Nat
  ms : Nat
  time : Nat := 0
  accepted : Bool := false
  offered : Bool := false
deriving DecidableEq, Repr

/-- One ensemble context: its OFDM receiver (R244 to R247) and its service database (R250 to R258). -/
structure DbeSt where
  /-- frames since the present SYNC state was entered, consecutive missed null symbols, consecutive failed FIBs -/
  frames : Nat := 0
  missed : Nat := 0
  failed : Nat := 0
  /-- the last 12 FIBs, and the last 120 outside blanking, newest first -/
  last12 : List Bool := []
  last120 : List Bool := []
  /-- FIBs of the frame in progress, and the time stamp of the first -/
  fic : List (Bool × List Nat) := []
  ficTime : Nat := 0
  cif : Nat := 0
  /-- cycle at which the last null symbol began (R247), and the mean powers of the last 10 blocks, newest first (R248) -/
  nullClk : Nat := 0
  pows : List Nat := []
  /-- CIFs since the last one within coexistence blanking, held at 16, and the CIF in progress met it -/
  blankAge : Nat := 16
  cifBlank : Bool := false
  /-- cycle of the LOCK in force -/
  lockClk : Nat := 0
  /-- FIG 0/0 has carried the EId of the database since LOCK -/
  sameEid : Bool := false
  haveEid : Bool := false
  /-- the ensemble label, its extended label and the record of FIG 0/10, and whether each is stale -/
  label : DabLabel := {}
  labelStale : Bool := false
  ext : List Nat := []
  extStale : Bool := false
  dateStale : Bool := false
  subs : SMap (Option (DbEnt DabSub)) := []
  svcs : SMap (Option (DbEnt DabSvc)) := []
  links : SMap (Option (DbEnt DabLink)) := []
  freqs : SMap (Option (DbEnt (List Nat))) := []
  oes : SMap (Option (DbEnt (List Nat))) := []
  annSw : SMap (Option (DbEnt Nat)) := []
  serial : Nat := 0
  /-- cycle of the newest arrival of a service or subchannel (R253) -/
  newClk : Nat := 0
  /-- the announced change flags and occurrence (R254), the running number of the frame in progress and of the last one whose FIG 0/0 carried no change
  flags, and the next organisation -/
  change : Nat := 0
  occurrence : Nat := 0
  frameNo : Nat := 0
  unchanged : Option Nat := none
  nextSubs : SMap (Option DabSub) := []
  nextSvcs : SMap (Option DabSvc) := []
  date : Option DabDate := none
  /-- the FIG 0/10 record that waits for the next null symbol -/
  dateNew : Option DabDate := none
  /-- the base of R258 (UTC in ms, time stamp), and a device-time step since it -/
  ctBase : Option (Nat × Nat) := none
  ctStep : Bool := false
  flags : Nat := 0
  /-- the six counters of item 0x09 -/
  counts : SMap Nat := []
deriving DecidableEq, Repr

/-- A Dynamic Label in assembly or published (R273, R274). -/
structure DlsSt where
  toggle : Option Bool := none
  segs : SMap (Option (List Nat)) := []
  last : Option Nat := none
  /-- published: toggle, character set, text, seconds of publication, tags -/
  pub : Option (Bool × Nat × List Nat × Nat) := none
  tags : List (Nat × Nat × Nat) := []
deriving DecidableEq, Repr

/-- A subchannel entry (R259 to R275). -/
structure DscSt where
  /-- the ensemble and SubChId in force, and the subchannel as it was when FILL began -/
  block : Nat := 0
  subch : Nat := 0
  sub : Option DabSub := none
  /-- CU reserved, CIFs of FILL passed; the de-interleaver: what the last 16 CIFs carried, newest first (R264); a coding has been determined -/
  cu : Nat := 0
  fill : Nat := 0
  inter : List (List Nat) := []
  coded : Bool := false
  slot : Option Nat := none
  noSlot : Bool := false
  /-- logical frames at the Bullfrog hand-off (R19): CIF count, time stamp and first cycle of the block in which the frame began, blanked; a
  frame was discarded there -/
  queue : List (Nat × Nat × Nat × Bool) := []
  lost : Bool := false
  /-- logical frames of a superframe that the Bullfrog has taken (R268) -/
  build : List (Nat × Nat × Nat × Bool) := []
  /-- the coding of frames that are still decoded after the ensemble left LOCK; 0: none -/
  drain : Nat := 0
  /-- DAB+ superframe synchronisation (R268): confirmed, consecutive failures -/
  sync : Bool := false
  fails : Nat := 0
  /-- consecutive concealed frames, second plus one of the last CONCEAL flag, cycle plus one of the last concealment -/
  conceal : Nat := 0
  concealSec : Nat := 0
  concealClk : Nat := 0
  /-- the last 100 logical frames: concealed or not -/
  last100 : List Bool := []
  /-- a frame has been decoded in the slot; the audio of the newest good frame; blocks decoded and not yet available; the ring of 8 available
  blocks for the programme layer, and how many were overwritten there (R19, R270) -/
  heard : Bool := false
  prev : List (Int × Int) := []
  pend : List Blk := []
  ring : List Blk := []
  overrun : Nat := 0
  stereo : Bool := false
  dls : DlsSt := {}
  flags : Nat := 0
  counts : SMap Nat := []
deriving DecidableEq, Repr

/-- A silence detector (R321): ms below the level, ms of the silence that stands, the present 100 ms window, and its state. -/
structure SilSt where
  run : Nat := 0
  len : Nat := 0
  win : Nat := 0
  n : Nat := 0
  silent : Bool := false
deriving DecidableEq, Repr

/-- A candidate that a follow slot has found (R281, R282): kind 1 FM, 2 AM, 3 DAB, the entry of its pool, the SId of a DAB service. -/
structure CandSt where
  kind : Nat
  idx : Nat
  sid : Nat
  slot : Nat
  /-- cycle of discovery, and of the begin of scores below USABLE / 2, plus one -/
  since : Nat
  low : Nat := 0
  /-- centre of its context in kHz -/
  freq : Nat := 0
deriving DecidableEq, Repr

/-- What Eft offers a programme of one ensemble (R256), each with its stale mark: a linkage set, a frequency list with its identifier and R&M code, an
OE entry, and the announcement switching of a cluster. -/
inductive EftOffer
  | link (l : DabLink) (stale : Bool)
  | freq (id rm : Nat) (khz : List Nat) (stale : Bool)
  | oe (sid : Nat) (eids : List Nat) (stale : Bool)
  | ann (cluster flags : Nat) (stale : Bool)
deriving DecidableEq, Repr

/-- A loudness meter (R312, R319): K-weighted energy and frames of the present 100 ms, and of the last 30, newest first. -/
structure LoudSt where
  sum : Nat := 0
  n : Nat := 0
  win : List (Nat × Nat) := []
deriving DecidableEq, Repr

/-- One source of a programme (R286 to R309). Lags and delays in samples at 48 kHz. -/
structure SrcSt where
  score : Nat := 0
  /-- the interval in progress: sum of SNRs, blocks, a missing one -/
  sum : Int := 0
  n : Nat := 0
  missing : Bool := false
  /-- blocks delivered, newest first, with the silence of R20 filled in; its last sample, and whether a gap stands -/
  hist : List Blk := []
  last : Int × Int := (0, 0)
  gap : Bool := true
  /-- envelope of those blocks in 0.01 dBFS, newest first (R303) -/
  env : List Int := []
  sil : SilSt := {}
  /-- energies of L − R and of L + R of the last 1,000 blocks, newest first (R322) -/
  energy : List (Nat × Nat) := []
  meter : LoudSt := {}
  loud : Option Int := none
  /-- consecutive intervals at USABLE or above, and above the active score by MARGIN -/
  usable : Nat := 0
  lead : Nat := 0
  /-- cycle plus one since which the score is 0 -/
  zero : Nat := 0
  /-- alignment state (the table after R309), lag, pages -/
  align : Nat := 0
  lag : Option Int := none
  pages : Nat := 0
  /-- start of the coarse estimation plus one, the last estimate with its cycle -/
  est : Nat := 0
  prev : Option Int := none
  prevClk : Nat := 0
  /-- cycle of the last change of alignment state; the fine estimate has been made -/
  clk : Nat := 0
  fine : Bool := false
  /-- an ALIGNED source is to be estimated again (R307) -/
  verify : Bool := false
deriving DecidableEq, Repr

/-- A crossfade (R310 to R313): from the source `old` (none: silence) to `target`. -/
structure XfSt where
  old : Option Nat
  target : Nat
  start : Nat
  dur : Nat
  aligned : Bool
  reversed : Bool := false
  /-- the source that the switch brings in, which bears the new trim and, not aligned, plays at P_min; the trim of the other one in 0.1 dB and the
  cycle from which it is released; for a crossfade of a source into itself the K_p of before (R309) -/
  fresh : Nat := 0
  trimOld : Int := 0
  trimOldClk : Nat := 0
  kpOld : Option Int := none
deriving DecidableEq, Repr

/-- One programme (R278 to R324). -/
structure PrgSt where
  on : Bool := false
  /-- the first source has been chosen -/
  begun : Bool := false
  active : Option Nat := none
  srcs : SMap SrcSt := []
  cands : SMap (Option CandSt) := []
  xf : Option XfSt := none
  /-- intervals since the last switch (R295), and in which the active source scored below USABLE -/
  since : Nat := 0
  below : Nat := 0
  /-- content delay, its target while it slews, the value and cycle from which it slews -/
  kp : Int := 0
  kpTo : Int := 0
  kpClk : Nat := 0
  /-- trim in force at the end of the crossfade in 0.1 dB, and the cycle of that end -/
  trim : Int := 0
  trimClk : Nat := 0
  switches : Nat := 0
  unaligned : Nat := 0
  /-- cycle plus one of the last request; refused requests with the cycle of the refusal: pool and frequency, block or subchannel (R300) -/
  req : Nat := 0
  refused : List ((Nat × Nat) × Nat) := []
  /-- what Eft offers it, with the ensemble (R256) -/
  offers : List (Nat × EftOffer) := []
  /-- barred frequencies in kHz and the cycle of the bar (R299) -/
  bars : List (Nat × Nat) := []
  /-- output blocks with the cycle at which they begin, newest first, for the rate adapter; the last sample, and whether a gap stands (R20) -/
  out : List (Nat × List (Int × Int)) := []
  last : Int × Int := (0, 0)
  gap : Bool := true
  sil : SilSt := {}
  /-- momentary, short-term and integrated loudness in 0.1 LUFS; its meter; mean squares of the gating blocks (R319) -/
  loud : Option Int × Option Int × Option Int := (none, none, none)
  meter : LoudSt := {}
  gates : List Nat := []
  /-- ends of 100 ms that must pass before a gating block lies wholly after the start or the last CLR_LOUD -/
  gateWait : Nat := 4
  /-- true peak of the present 100 ms and of the last 30 (R320) -/
  tp : Nat := 0
  peaks : List Nat := []
  /-- envelopes of the output and of the reference in 0.01 dBFS per ms, newest first; a search is due (R315) -/
  envO : List Int := []
  envR : List Int := []
  refDue : Bool := false
  /-- the reference port has lost its clock in the second in progress (R317) -/
  refLost : Bool := false
  /-- comparison: last best delay, delay in force, similarity, counted seconds below and at or above -/
  refPrev : Option Nat := none
  refD : Option Nat := none
  sim : Nat := 0
  low : Nat := 0
  high : Nat := 0
  mismatches : Nat := 0
  flags : Nat := 0
deriving DecidableEq, Repr

/-- The start and stop sequence of the headphone or line output (R365 to R371): when the present step began and how long it lasts, the
level in 0.001 at the start of a ramp; in CAL, whether the calibration runs for the second time, and whether its check is under way; and a ramp-out of
a removal, which nothing reverses. -/
structure OutSeq where
  clk : Nat := 0
  dur : Nat := 0
  frac : Nat := 0
  again : Bool := false
  check : Bool := false
  forced : Bool := false
deriving DecidableEq, Repr

/-- The speaker output (R364, R368): phase 0 off, 1 common mode rising, 2 ramping in, 3 on, 4 ramping out, 5 common mode falling. -/
structure SpkSt where
  phase : Nat := 0
  clk : Nat := 0
  dur : Nat := 0
  frac : Nat := 0
  /-- cycles of the overcurrents of the last 1 s, the cycle plus one of the one after which a restart waits (0: none), and an undervoltage after which
  `PVDD` has not risen above 2.9 V -/
  ocs : List Nat := []
  ocWait : Nat := 0
  uv : Bool := false
deriving DecidableEq, Repr

/-- The background servo of one headphone channel (R372 to R374): first mean of a pair in µV, correction still to apply, last step; when silence and the present window began. -/
structure ServoSt where
  first : Option Int := none
  todo : Int := 0
  clk : Nat := 0
  /-- cycle plus one since which the mix output is below SIL_TH, and of the begin of the window in progress -/
  quiet : Nat := 0
  win : Nat := 0
deriving DecidableEq, Repr

/-- Converters (R358 to R375). -/
structure CodSt where
  hp : OutSeq := {}
  lo : OutSeq := {}
  spk : SpkSt := {}
  servo : SMap ServoSt := []
  /-- the headphone output has been in FAULT and waits for a classification or its enable (R365) -/
  hpHold : Bool := false
  /-- the corrections of the line outputs in µV (R366, R375) -/
  loOfs : Int × Int := (0, 0)
  /-- PGA gains in force in dB, and the cycle of the last step or, before the first of a move, of the write (R359) -/
  pga : SMap Nat := []
  pgaClk : SMap Nat := []
  /-- ADC channels: cycle of enabling plus one, and whether they deliver signal (R360) -/
  adcClk : SMap Nat := []
  adcOn : SMap Bool := []
  /-- `PVDD` in mV as last reported; 0 before the first report -/
  pvdd : Nat := 0
  /-- the last frame in which the headphone level asked for the high rail -/
  railClk : Nat := 0
  /-- PD6 is to leave ON, or the AUD clock to stop (R371) -/
  leaving : Bool := false
deriving DecidableEq, Repr

/-- Jack detection and buttons (R376 to R383). -/
structure JckSt where
  /-- start of the classification in progress -/
  clk : Nat := 0
  /-- window of the present run of readings (4: none), its length, and the debounced button -/
  win : Nat := 4
  run : Nat := 0
  held : Option Nat := none
  /-- the presses that wait for their publication, oldest first: button, end of its debounce -/
  press : List (Nat × Nat) := []
  /-- tip and ring impedance that the classification in progress has measured -/
  load : Option (Option Nat × Option Nat) := none
deriving DecidableEq, Repr

/-- A ramp, linear in dB, in 0.001 dB from −100,000 (R391, R394). Phase 0 steady or gain ramp, 2 ramp-out of a route change, 3 ramp-in. -/
structure RampSt where
  from_ : Int := -100000
  dest : Int := -100000
  clk : Nat := 0
  dur : Nat := 0
  phase : Nat := 0
deriving DecidableEq, Repr

/-- A term: its source and polarity in force, and those that wait (R393, R395, R405), as SRC + 512 × INV + 1,024 × TYPE of a tone. -/
structure TermSt where
  src : Nat := 0
  pend : Nat := 0
  ramp : RampSt := {}
deriving DecidableEq, Repr

/-- A mix (R384 to R409). -/
structure MixSt where
  terms : SMap TermSt := []
  /-- sink fed, or ramping out, and the one that waits, as KIND × 4,096 + ARG; the ramp of the connection -/
  sink : Option Nat := none
  pend : Option Nat := none
  ramp : RampSt := {}
  conflict : Bool := false
  /-- coefficients that differ from reset, by band × 5 + coefficient, as 32-bit numbers -/
  coef : SMap Nat := []
  /-- filter state of bands as x[k−1], x[k−2], y[k−1], y[k−2] in 2^−16 (R384, R398); the equaliser's samples of the last 1.0 ms, newest first (R385); the output -/
  eq : SMap (List Int) := []
  line : List Int := []
  y : Int := 0
  /-- meters: the magnitudes of the last 300 ms, newest first, those not listed 0 (R406), and the peak hold -/
  mags : List Nat := []
  hold : Nat := 0
  clips : Nat := 0
  /-- gain reduction in force in 0.1 dB and its largest; that of the mix's own limiter in µdB (R402) -/
  red : Nat := 0
  redMax : Nat := 0
  own : Nat := 0
  /-- the LIMIT flag is armed (R403); second plus one of the last CLIP flag -/
  armed : Bool := true
  clipSec : Nat := 0
deriving DecidableEq, Repr

/-- A test tone: its level ramps from this code, in 0.001 dB below full scale, since that cycle (R405). -/
structure ToneSt where
  from_ : Nat := 20000
  clk : Nat := 0
  /-- phase of the sine, in turns divided by the fabric rate -/
  phase : Nat := 0
deriving DecidableEq, Repr

/-- What the fabric keeps between frames (R16 to R18). -/
structure FabSt where
  /-- frames since reset; frames of the ramp-in after a restart of SYS still to come, and the cycle of its last stop (R37) -/
  frames : Nat := 0
  rise : Nat := 0
  stop : Nat := 0
  /-- codec ADC: samples of the last 0.5 ms by channel, newest first (R358), and the frames of the button mute's ramp (R383) -/
  adc : List (List Int) := []
  mute : Nat := 0
  /-- microphone inputs: their last sample, and cycle plus one of the last zero crossing (R359) -/
  mic : SMap Int := []
  zero : SMap Nat := []
  /-- DAC channels: samples on their way to the ball, newest first (R362), and the sample at the ball -/
  dac : SMap (List Int) := []
  ball : SMap Int := []
  /-- frames of the return pairs since the last programme block, and sums of |L + R| with their frames for references, by KIND × 4,096 + ARG -/
  ret : SMap (List (Int × Int)) := []
  env : SMap (Nat × Nat) := []
deriving DecidableEq, Repr

/-- One TDM port (R410 to R428), beside its registers. -/
structure PortSt where
  /-- masks in force (R415) -/
  txMask : Nat := 0
  rxMask : Nat := 0
  /-- cycle plus one in which masks of an epoch arrived (R415) -/
  maskAt : Nat := 0
  /-- frames in the transmit queue; the frames of the fabric with their cycles, newest first, of which they are the newest; received frames in the
  receive queue, as 24-bit samples by slot, and for an ASRC with their cycles, newest first -/
  txFill : Nat := 0
  txHist : List (Nat × List Int) := []
  rxQueue : List (List Int) := []
  rxHist : List (Nat × List Int) := []
  /-- the queues fill up to 4 frames after SYS has stood still (R37) -/
  txPrime : Bool := false
  rxPrime : Bool := false
  /-- samples last sent by slot; cycle plus one of the last frame start, and of the end of sending (R416) -/
  sent : List Int := []
  edge : Nat := 0
  fall : Nat := 0
  /-- the next frame start restores the fill (R420); slots of the legacy shift (R422) -/
  realign : Bool := false
  shift : Nat := 0
  /-- cycle plus one at which the outputs began to ramp in -/
  ramp : Nat := 0
  /-- a group member that waits for the group's next frame start -/
  wait : Bool := false
  /-- cycle plus one at which an epoch switched the port off (R437) -/
  offAt : Nat := 0
  /-- slots last sent on `Pn_DOUT` (none: not driven with a word), and the frame last delivered to the source pool -/
  dout : List (Option Nat) := []
  src : List Int := []
  /-- the return-channel block in progress contains a discarded or zero frame (R421) -/
  gap : Bool := false
  /-- consecutive frames with the ratio in range (R428) -/
  inRange : Nat := 0
deriving DecidableEq, Repr

/-- What the ports share, and the IEC 60958 receiver (R425 to R434). -/
structure PrtSt where
  /-- the ports are stopped for an APL re-lock or with PD6, and the cycle of that stop (R425) -/
  held : Bool := false
  heldClk : Nat := 0
  /-- bit k: ASRC k has locked; bit u: the user of code u found no ASRC (R427) -/
  locked : Nat := 0
  unserved : Nat := 0
  /-- the leader whose loop runs; cycle since which its fill lies within ±1/4 frame -/
  leader : Nat := 0
  acqClk : Nat := 0
  /-- SPD_RX: 0 no lock, 2 START, 3 delivering; the last completed block of channel status and of user data -/
  spd : Nat := 0
  spdGap : Bool := false
  /-- frames received, with their cycles, newest first; the sample last taken of each subframe; the samples given to the source pool; frames of the
  receive queue; a sample with V = 1 in the block in progress; cycle plus one of the last preamble (R432, R434) -/
  spdHist : List (Nat × List Int) := []
  spdLast : Int × Int := (0, 0)
  spdSrc : Int × Int := (0, 0)
  spdQueue : List (List Int) := []
  /-- frames taken from the receive queue on their way to the source pool, newest first (R417) -/
  spdLine : List (Int × Int) := []
  spdV : Bool := false
  spdEdge : Nat := 0
  /-- SPD_TX: samples of the last frames, newest first, the frame's place in its block of 192, the channel status of the block (R417, R435) -/
  txLine : List (Int × Int) := []
  txPos : Nat := 0
  txCs : List Nat := []
  cs : Option (List Nat) := none
  user : List Nat := []
deriving DecidableEq, Repr

/-- One PLL: counts of consecutive good and bad windows (R442), the attempt in the order of R440, an ordered re-lock (R443); the cycles in which the
present lock window began, in which the present band (or FAILED) was entered, and in which the dividers last started (R457). -/
structure PllSt where
  good : Nat := 0
  bad : Nat := 0
  attempt : Nat := 0
  want : Bool := false
  winClk : Nat := 0
  bandClk : Nat := 0
  lockClk : Nat := 0
deriving DecidableEq, Repr

/-- One clock output: divider and delay in force (R459), the phase from which the present FINE steps run and since when (R460). -/
structure ClkOutSt where
  div : Nat := 120
  coarse : Nat := 0
  /-- VCO periods by which the last change lengthened a low phase (R459) -/
  stretch : Nat := 0
  fineFrom : Nat := 0
  fineClk : Nat := 0
  /-- cycle of the boundary that enabled the output, or of the guard's release (R458, R461) -/
  enClk : Nat := 0
deriving DecidableEq, Repr

/-- References, PLLs, discipline loop and clock outputs (R438 to R462). -/
structure ClkSt where
  spl : PllSt := {}
  apl : PllSt := {}
  /-- frequency correction and slew term of d, in 0.01 ppm (R449) -/
  corr : Int := 0
  slew : Int := 0
  /-- phase error and build-out offset in ns (R451) -/
  e : Int := 0
  theta : Int := 0
  /-- consecutive measurements within ±0.05 ppm in ACQ (R450) -/
  acqGood : Nat := 0
  /-- d at the last ten updates, newest first (R450) -/
  hist : List Int := []
  /-- the mean that d approaches in COAST (R450); cycle plus one of the loop's last update -/
  goal : Int := 0
  discClk : Nat := 0
  /-- the part of d that the APL follows, in 0.01 ppm (R454) -/
  aplPart : Int := 0
  /-- consecutive good windows of REFIN (R446) -/
  refGood : Nat := 0
  /-- cycle plus one of the end of REFIN's last window -/
  refClk : Nat := 0
  /-- PPS_IN: a valid edge has been seen since the last loss; consecutive valid edges; consecutive missed edges (R447) -/
  ppsSeen : Bool := false
  ppsValid : Nat := 0
  ppsMiss : Nat := 0
  /-- time of the last valid edge in ns of the SPL timebase (R447), and the frequency offset that PPS_IN last showed, in 0.01 ppm -/
  ppsNs : Nat := 0
  ppsOff : Int := 0
  outs : SMap ClkOutSt := []
  /-- the first context block and the first programme block after an SPL re-lock are still to come (R36, R37) -/
  gap : Bool := false
  gapPrg : Bool := false
deriving DecidableEq, Repr

/-- Coexistence (R49, R484 to R487): the transmitter is active from the start of its ramp-up to the end of its ramp-down; the
blanking window lasts 200 µs beyond it and beyond `CX_ACT`; `rel` is the cycle of the last end of either. -/
structure CxSt where
  tx : Bool := false
  /-- twice the alias in kHz of the transmission whose blanking window is open (R51) -/
  image : Option Int := none
  /-- cycle plus one at which the last blanking window closed -/
  endClk : Nat := 0
  blank : Bool := false
  /-- the cycle in which the window that is open began, and the first and last cycles of the windows that have closed in the context block in
  progress (R338) -/
  since : Nat := 0
  spans : List (Nat × Nat) := []
  rel : Nat := 0
deriving DecidableEq, Repr

/-- A send request (R497). -/
structure SlkReq where
  seq : Nat
  dst : Nat
  ack : Bool
  prio : Bool
  pwr : Nat
  hop : Nat
  data : List Nat
deriving DecidableEq, Repr

/-- The request in service (R493, R494): phase 0 due or in transmission, 1 acknowledgement wait, 2 back-off; `clk` is the end of the last
bit, or the start of the back-off, which lasts `wait` ms; airtime in µs and end of the last transmission. -/
structure SlkCur where
  req : SlkReq
  phase : Nat := 0
  retries : Nat := 0
  busy : Nat := 0
  denied : Nat := 0
  clk : Nat := 0
  wait : Nat := 0
  air : Nat := 0
  time : Nat := 0
deriving DecidableEq, Repr

/-- A transmission being carried out (R473, R480 to R485): phase 1 waits for lock, 2 for the grant, 3 listens, 4 PA sequence before the
ramp-up, 5 on air, 6 PA sequence after the ramp-down; `due` is the cycle in which it fell due, `clk` the start of the present phase or
step, `stop` the cycle in which the ramp-down ends; `wait` the length of the listen in 0.5 ms (R480). -/
structure SlkTx where
  isAck : Bool
  frame : List Nat
  hop : Nat
  mode : Nat
  r23 : Bool
  pwr : Nat
  prio : Bool
  phase : Nat := 1
  due : Nat
  clk : Nat
  step : Nat := 0
  stop : Nat := 0
  wait : Nat := 10
  /-- airtime in µs; an outcome by which it was cut short -/
  air : Nat := 0
  cut : Option Nat := none
deriving DecidableEq, Repr

/-- A reception (R475 to R479): latched strength in 0.1 dBm, device time of the sync word, LEN and RATE of the header; the cycle in which the header's
last bit ends, then that of the packet's last bit. -/
structure SlkRx where
  level : Int
  time : Nat
  hop : Nat
  mode : Nat
  head : Option (Nat × Bool) := none
  stop : Nat
deriving DecidableEq, Repr

/-- An acknowledgement that is due 2 ms after `clk` (R492). -/
structure SlkAck where
  dst : Nat
  seq : Nat
  hop : Nat
  mode : Nat
  r23 : Bool
  clk : Nat
deriving DecidableEq, Repr

/-- An entry of the gateway table (R495). -/
structure GwEnt where
  addr : Nat
  level : Int
  seq : Nat
  time : Nat
  clk : Nat
deriving DecidableEq, Repr

/-- The site link (R463 to R498). -/
structure SlkSt where
  queue : List SlkReq := []
  cur : Option SlkCur := none
  tx : Option SlkTx := none
  rx : Option SlkRx := none
  /-- a reception whose last bit met a capturing sync word and that is still to be decoded (R479) -/
  prev : Option SlkRx := none
  ack : Option SlkAck := none
  /-- cycle plus one of a detected preamble that waits for its sync word (R475) -/
  pre : Nat := 0
  /-- LSY calibrates the entry to which it hops (R470) -/
  calib : Bool := false
  /-- band and fine capacitor that LSY has; cycle in which the present hop began; the SLK domain has its clock (R470, R472) -/
  band : Nat := 0
  fcap : Nat := 0
  hopClk : Nat := 0
  /-- FREQ to which LSY is tuned or hops (R463, R470) -/
  freq : Nat := 0
  runs : Bool := false
  nextSeq : Nat := 0
  /-- pins `SLK_PA_EN` and `SLK_TR` (R482); output power in 0.1 dBm (R481) -/
  paEn : Bool := false
  tr : Bool := false
  power : Int := 0
  /-- the packet on air as deviations in Hz, one for each symbol (R464 to R468) -/
  onAir : List Int := []
  /-- airtime in ms by ledger entry × 60 + age of the bin, and the cycle in which the present bin began (R487) -/
  bins : SMap Nat := []
  binClk : Nat := 0
  /-- noise floor by hop entry (R477) -/
  noise : SMap Int := []
  /-- cycle in which the present noise measurement began (R477) -/
  noiseClk : Nat := 0
  /-- last frame delivered from each source: sequence and cycle (R492) -/
  last : SMap (Option (Nat × Nat)) := []
  gw : SMap (Option GwEnt) := []
  reports : List (List Nat) := []
deriving DecidableEq, Repr

/-- A write in transit to the backup domain (R504 to R506): 0 to 3 the time registers, 4 HALT = 1, 5 HALT = 0, 6 any other; its word, and the cycle
of the BKP32 edge at which it takes effect. -/
structure RtcMove where
  what : Nat
  word : Nat
  due : Nat
deriving DecidableEq, Repr

/-- The RTC beside its registers (R499 to R517). -/
structure RtcSt where
  /-- the trim accumulator, and the length of the last tick in cycles (R509) -/
  acc : Int := 0
  tick : Nat := 128
  /-- cycle of a BKP32 edge: the end of the last tick, or the last resumption -/
  edge : Nat := 0
  /-- writes in transit, the oldest first (R504) -/
  transit : List RtcMove := []
  /-- the frozen time registers (R503) -/
  shadow : Option (List Nat) := none
  /-- a backup-domain power-on reset has occurred since the last boot (R515) -/
  cold : Bool := false
  /-- the last two second ticks: RTC seconds and device-time stamp, newest first (R511) -/
  ticks : List (Nat × Nat) := []
  /-- the disciplined span: RTC seconds so far and the cycle of its start, and the cycle of its newest second tick, up to the 1,000th (R510) -/
  span : Option (Nat × Nat) := none
  tickClk : Nat := 0
  /-- broadcast records of the span: time stamp and offset in ms, newest first; a disciplined measurement was applied during it (R512) -/
  recs : List (Nat × Int) := []
  discApplied : Bool := false
deriving DecidableEq, Repr

/-- An operation of a local bus script (R545). -/
inductive LifOp
  | write (addr : Nat) (data : List Nat)
  | read (addr n d : Nat)
  | writeRead (addr n d : Nat) (data : List Nat)
  | wait (ms : Nat)
deriving DecidableEq, Repr

/-- A script of the running image: none where its check failed (R545). -/
structure LifScript where
  ops : Option (List LifOp)
  trigger : Nat
  period : Nat
deriving DecidableEq, Repr

/-- What waits for the local bus (R539): the start of a script, the next operation of the running one, a host transfer, a bus clear. -/
inductive LifJob
  | script (s : Nat)
  | step
  | host (addr n : Nat) (data : List Nat)
  | clear
deriving DecidableEq, Repr

/-- The running script: the operations still to do, and since when it waits (cycle plus one). -/
structure LifRun where
  s : Nat
  rest : List LifOp
  wait : Nat := 0
deriving DecidableEq, Repr

/-- The local two-wire controller (R539 to R548). -/
structure LifSt where
  scripts : List LifScript := []
  /-- the first epoch has been applied; cycle at which each periodic script falls due (R546) -/
  started : Bool := false
  due : SMap Nat := []
  queue : List LifJob := []
  run : Option LifRun := none
  /-- the transfer on the bus, or repeated after a loss of arbitration, and its repeats -/
  act : Option LifJob := none
  repeats : Nat := 0
  /-- `FAST`, `LIF_TMO` and `LIF_RETRY` as the present transfer, or the last, took them (R539) -/
  fast : Bool := false
  tmo : Nat := 25
  retry : Nat := 3
  /-- a bus clear comes before the next transfer (R541); cycle of the last failed clear -/
  needClear : Bool := true
  stuckClk : Nat := 0
deriving DecidableEq, Repr

/-- A power domain from PD2 to PD7 in transition (R566, R567): the state it reaches and that it left, the cycle of the start, its blocks
are still being stopped (R563); and it was OFF since it last was ON; `PWR_EVT.DOM_HELD` has been set for the present hold (R38). -/
structure DomSt where
  goal : Option Nat := none
  old : Nat := 0
  clk : Nat := 0
  stopping : Bool := false
  lost : Bool := true
  held : Bool := false
deriving DecidableEq, Repr

/-- The reset controller and the supplies (R550 to R568). Causes and supplies by the bits of their registers: `active` holds the main
reset now, `seen` was asserted since the last release, `bo` is in brown-out now, `boSeen` since the last release. -/
structure PwrSt where
  active : Nat := 0
  seen : Nat := 1
  bo : Nat := 0
  boSeen : Nat := 0
  /-- cycle of the newest brown-out of each supply (R550), of the end of the last cause, and of the write of `SYS_RST` -/
  boClk : SMap Nat := []
  endClk : Nat := 0
  softClk : Nat := 0
  /-- the ball `TEST` is high (R601) -/
  test : Bool := false
  /-- 0x5A5A has been written to `SYS_RST` (R554) -/
  soft : Bool := false
  doms : SMap DomSt := []
deriving DecidableEq, Repr

/-- One temperature sensor (R558 to R560, R638): valid with its value in 0.1 °C; failed; consecutive readings in range while failed and
at or above TRIP; cycle of its last reading. -/
structure SensorSt where
  val : Option Int := none
  failed : Bool := false
  good : Nat := 0
  high : Nat := 0
  clk : Nat := 0
deriving DecidableEq, Repr

/-- The temperature sensors: they keep running through every main reset. `cool`: cycle plus one since which the hottest valid sensor
has stayed below TRIP − 20 °C (R559); `above`: SHED_ON has been reported and SHED_OFF not yet. -/
structure TmpSt where
  sensors : SMap SensorSt := []
  /-- cycle plus one of the last reading -/
  readClk : Nat := 0
  cool : Nat := 0
  above : Bool := false
deriving DecidableEq, Repr

/-- Lifetime counts by their offset in the COUNTERS record (R585), and the seconds of the HISTOGRAMS bins from key 0x1000. -/
structure LifeSt where
  counts : SMap Nat := []
  seconds : SMap Nat := []
deriving DecidableEq, Repr

/-- A Moult log record that Monitor has formed and that is not yet in the flash (R584, R585): the bytes from 0x10 up to the CRC. -/
structure MonRec where
  type : Nat
  seq : Nat
  time : Nat
  body : List Nat
  /-- the record belongs to a pair formed by FLUSH (R591) -/
  flush : Bool
deriving DecidableEq, Repr

/-- A recovery from its detection to its RECOVERY record (R574 to R583). Domain codes of R574; items and causes as in the record. -/
structure RecovSt where
  domain : Nat
  cause : Nat
  item : Nat
  index : Nat
  /-- device time and cycle of detection -/
  detect : Nat
  clk : Nat
  /-- its restart has been carried out -/
  acted : Bool
  /-- completed: its duration in µs, and the epoch restored -/
  done : Bool
  duration : Nat
  epoch : Nat
  /-- programmes that may lose output by it, each with the blocks of its present stretch; the longest stretch in ms and its programme; the cycle of
  completion (R582, R583) -/
  watch : List (Nat × Nat) := []
  lost : Nat := 0
  prog : Option Nat := none
  doneClk : Nat := 0
deriving DecidableEq, Repr

/-- Monitor (R569 to R593). -/
structure MonSt where
  /-- records in the order of formation -/
  queue : List MonRec := []
  /-- SEQ of the newest record, and the unit of the ring at which the next is written -/
  seq : Nat := 0
  unit : Nat := 0
  /-- read position of 0xF020: the SEQ from which the next record is taken; none: the oldest -/
  rd : Option Nat := none
  /-- per region, the cycle of its last ERROR record, plus one (R570) -/
  errAt : SMap Nat := []
  /-- seconds since the last pair, and of the present minute of power-on time -/
  pairSec : Nat := 0
  minSec : Nat := 0
  /-- cycle, plus one, of the last reload of engine e (key e), of the last restart of domain d (16 + d) (R573) -/
  last : SMap Nat := []
  recov : List RecovSt := []
  /-- a full warm restart has been ordered, with its cause (R573) -/
  warm : Option Nat := none
  /-- per fault domain and item, the cycle of its last progress, plus one (R574) -/
  prog : SMap Nat := []
  /-- the pair of this boot is still due (R587) -/
  bootPair : Bool := false
  /-- the scrub: words of the present pass that have been read, and the cycle in which the pass began (R30) -/
  scrub : Nat := 0
  scrubClk : Nat := 0
deriving DecidableEq, Repr

/-- Pins and the test access port (R603 to R609): `PPS_OUT` is high; the instruction register and the boundary register of the port; what its selected
data register holds to be shifted out, bit 0 first. -/
structure PinSt where
  pps : Bool := false
  ir : Nat := 1
  boundary : List Bool := List.replicate 198 false
  shift : List Bool := []
deriving DecidableEq, Repr

/-- Everything of the block but its two memories and the queue. -/
structure Dev where
  regs : RegFile := {}
  time : TimeSt := {}
  bus : BusSt := {}
  mbx : MbxSt := {}
  boot : BootSt := {}
  epoch : EpochSt := {}
  fsp : FspSt := {}
  /-- antenna inputs A (0) and B (1) -/
  afe : SMap AfeSt := []
  /-- calibration of inputs A (0) and B (1) -/
  bic : SMap BicSt := []
  jnl : JnlSt := {}
  /-- the flash records that wait for Anole in the order of arrival (R28): `true` one of the journal, `false` one of the Moult log -/
  anole : List Bool := []
  ctx : SMap CtxSt := []
  scn : SMap ScnSt := []
  grid : GridSt := {}
  shed : ShedSt := {}
  /-- the context block in progress has met a coexistence blanking window -/
  blockBlank : Bool := false
  fm : SMap FmSt := []
  am : SMap AmSt := []
  /-- what the signal filters remember (log entry 52), by filter -/
  filt : SMap (List Int) := []
  rds : SMap RdsSt := []
  /-- clock-time records offered to Monitor: UTC in ms since MJD 0 and time stamp, newest first (R237, R258) -/
  ctOffer : List (Nat × Nat) := []
  /-- ensemble contexts and subchannel entries -/
  dbe : SMap DbeSt := []
  dsc : SMap DscSt := []
  /-- programmes; return pairs in order (R284) as KIND × 4,096 + ARG; programmes compared (R314); the scoring interval met blanking -/
  prg : SMap PrgSt := []
  pairs : List Nat := []
  refs : List Nat := []
  scoreBlank : Bool := false
  fab : FabSt := {}
  cod : CodSt := {}
  jck : JckSt := {}
  mix : SMap MixSt := []
  tone : SMap ToneSt := []
  /-- the TDM ports; what they share -/
  ports : SMap PortSt := []
  prt : PrtSt := {}
  clk : ClkSt := {}
  cx : CxSt := {}
  slk : SlkSt := {}
  rtc : RtcSt := {}
  lif : LifSt := {}
  pwr : PwrSt := {}
  tmp : TmpSt := {}
  life : LifeSt := {}
  mon : MonSt := {}
  pin : PinSt := {}
  /-- the MODEL's own counter: how many fresh free values have been taken -/
  freeIdx : Nat := 0
deriving DecidableEq, Repr

/-- The state of the block. -/
structure State where
  dev : Dev := {}
  /-- the attached flash (02, flash layout), by byte address; an unlisted byte is erased -/
  flash : SMap Byte := []
  /-- the Lilypad while it holds a host-loaded image (R76), by byte offset; an unlisted byte is cleared -/
  lily : SMap Byte := []
  /-- the commands that wait, first in first out -/
  pending : List Instr := []
deriving DecidableEq, Repr

/-- The reasons a step could stop the block. -/
inductive Fault
  /-- Raised by no command: the spec gives every command an effect. Safe. -/
  | none
deriving DecidableEq, Repr

/-- The reasons a step could refuse a command. -/
inductive Refusal
  /-- Raised by an arm of the dispatch whose command has no meaning yet. Safe. -/
  | notModelled (mnemonic : String)
deriving DecidableEq, Repr

/-- The block right after reset: the main reset held after a power-on, every register at its reset value, memories with nothing
listed, no command waiting. -/
def State.reset : State := {}

end Sys2Proof.Machine
end

