-- ==== Sys2Proof/Machine/Ops.lean ====
section
/-!
DEFINITION. The named operations that every command is built from: reading and writing fields of the register layers, counters,
device time, Ferson packets, and event bits.
-/
namespace Sys2Proof.Machine

/-- The answer of a command: what `f` makes of the block, its memories and the queue kept. -/
def nextDev (s : State) (f : Dev → Dev) : Host.Outcome State Fault Refusal :=
  .next { s with dev := f s.dev }

/-- The word in force at index `idx` of the given kind: the applied layer of a staged register, else the immediate layer. -/
def Dev.word (d : Dev) (staged : Bool) (idx : Nat) : Word :=
  if staged then smGet resetWord d.regs.applied idx else smGet resetWord d.regs.imm idx

/-- Set an immediate register. -/
def Dev.setImm (d : Dev) (idx : Nat) (w : Word) : Dev :=
  { d with regs := { d.regs with imm := smSet resetWord d.regs.imm idx w } }

/-- Set the staged value of a staged register. -/
def Dev.setStaged (d : Dev) (idx : Nat) (w : Word) : Dev :=
  { d with regs := { d.regs with staged := smSet resetWord d.regs.staged idx w } }

/-- The value in force of field `f` of entry `n` (R4). -/
def Dev.fget (d : Dev) (f : Fld) (n : Nat := 0) : Nat :=
  bitsOf (d.word f.staged (f.base + f.stride * n)) f.hi f.lo

/-- A field in force as a two's complement value. -/
def Dev.fgetI (d : Dev) (f : Fld) (n : Nat := 0) : Int := sgn (f.hi + 1 - f.lo) (d.fget f n)

/-- A one-bit field in force. -/
def Dev.fbit (d : Dev) (f : Fld) (n : Nat := 0) : Bool := d.fget f n == 1

/-- The staged value of field `f` of entry `n`. -/
def Dev.fstaged (d : Dev) (f : Fld) (n : Nat := 0) : Nat :=
  bitsOf (smGet resetWord d.regs.staged (f.base + f.stride * n)) f.hi f.lo

/-- Set field `f` of entry `n` of an immediate register. -/
def Dev.fput (d : Dev) (f : Fld) (n v : Nat) : Dev :=
  let idx := f.base + f.stride * n
  d.setImm idx (putBits (smGet resetWord d.regs.imm idx) f.hi f.lo v)

/-- Set a field to a two's complement value, held to the field's range. -/
def Dev.fputI (d : Dev) (f : Fld) (n : Nat) (v : Int) : Dev :=
  let k := f.hi + 1 - f.lo
  d.fput f n (unsgn k (clampInt (-(2 ^ (k - 1) : Nat)) ((2 ^ (k - 1) : Nat) - 1) v))

/-- Set a one-bit field. -/
def Dev.fputB (d : Dev) (f : Fld) (n : Nat) (b : Bool) : Dev := d.fput f n (b2n b)

/-- Add `k` to a counter field that holds at its largest value. -/
def Dev.bumpBy (d : Dev) (f : Fld) (n k : Nat) : Dev :=
  d.fput f n (min (d.fget f n + k) (2 ^ (f.hi + 1 - f.lo) - 1))

/-- Count one in a counter field that holds at its largest value. -/
def Dev.bump (d : Dev) (f : Fld) (n : Nat := 0) : Dev := d.bumpBy f n 1

/-- `f` applied while `c` holds. -/
def onlyIf {α : Type} (c : Bool) (f : α → α) (x : α) : α := if c then f x else x

/-- The 32-bit fraction of device time (R23). -/
def TimeSt.frac (t : TimeSt) : Nat := t.cyc * 2 ^ 32 / Config.sysPerSecond

/-- The 64-bit device time: seconds above, fraction below. -/
def TimeSt.stamp (t : TimeSt) : Nat := t.sec * 2 ^ 32 + t.frac

/-- The Ferson port runs: enabled, its clock running or stopped by `FSP_RDY` (R325). -/
def Dev.fspRuns (d : Dev) : Bool := d.fbit R.FSP_STAT_RUN

/-- Form a packet (R325: none while the port does not run). It waits for PACKET_FORMED. -/
def Dev.formPacket (d : Dev) (p : PktReq) : Dev :=
  if d.fspRuns then { d with fsp := { d.fsp with formed := d.fsp.formed ++ [p] } } else d

/-- Form a class 0 packet of one unit with the given leading bytes, stamped with the present device time. -/
def Dev.alertPacket (d : Dev) (bs : List Nat) : Dev :=
  d.formPacket ⟨d.time.clk, 0, 0, d.time.stamp, false, 0, .bytes bs⟩

/-- Join newly set bits to an EVENT packet of the same register formed in the same cycle (R346); `none` if there is none. -/
def joinEvent (clk reg bits value : Nat) : List PktReq → Option (List PktReq)
  | [] => none
  | p :: t =>
    match p.body with
    | .event r b _ e =>
      if p.formedAt = clk ∧ r = reg then some ({ p with body := .event r (b ||| bits) value e } :: t)
      else (joinEvent clk reg bits value t).map (p :: ·)
    | .bytes _ => (joinEvent clk reg bits value t).map (p :: ·)

/-- Form the EVENT alert for bits of register `reg` that went from 0 to 1 (class 0 type 0x01, R346). -/
def Dev.eventAlert (d : Dev) (reg bits value : Nat) : Dev :=
  if d.fbit R.FSP_SRC_EVT && d.fspRuns && bits != 0 then
    match joinEvent d.time.clk reg bits value d.fsp.formed with
    | some l => { d with fsp := { d.fsp with formed := l } }
    | none =>
      d.formPacket ⟨d.time.clk, 0, 0, d.time.stamp, false, 0, .event reg bits value (d.fget R.SYS_EPOCH_NUM)⟩
  else d

/-- Set event bits `bits` of the event register at `idx` (R41), with the alert for those newly set. -/
def Dev.setEvtBits (d : Dev) (idx bits : Nat) : Dev :=
  let old := smGet resetWord d.regs.imm idx
  let new := old ||| BitVec.ofNat 16 bits
  (d.setImm idx new).eventAlert idx (new.toNat - (old.toNat &&& new.toNat)) new.toNat

/-- Set the one-bit event field `f` of entry `n` (R41). -/
def Dev.event (d : Dev) (f : Fld) (n : Nat := 0) : Dev := d.setEvtBits (f.base + f.stride * n) (2 ^ f.lo)

/-- Count and set an event: the common close of many rules. -/
def Dev.bumpEvt (d : Dev) (c : Fld) (e : Fld) (n : Nat := 0) : Dev := (d.bump c n).event e n

/-- Apply `f` for every element of a list, in order. -/
def Dev.each {α : Type} (d : Dev) (l : List α) (f : Dev → α → Dev) : Dev := l.foldl f d

/-- The fault domain or item of key `k` makes progress in this cycle (R574). -/
def Dev.progress (d : Dev) (k : Nat) : Dev :=
  { d with mon := { d.mon with prog := smSet (fun _ => 0) d.mon.prog k (d.time.clk + 1) } }

/-- EXTEST, HIGHZ or CLAMP keeps the functional logic from the balls of the chain (R609). -/
def Dev.chainHeld (d : Dev) : Bool := d.pin.ir == 0 || d.pin.ir == 7 || d.pin.ir == 8

/-- Cycles since the cycle count `t`. -/
def Dev.since (d : Dev) (t : Nat) : Nat := d.time.clk - t

/-- The cycle `t` has been reached: something that falls due in it is due. -/
def Dev.reached (d : Dev) (t : Nat) : Bool := decide (t ≤ d.time.clk)

/-- The number of the present lane group by the common counter (R142): 92,160 in 1 ms, so 3.2 SYS cycles each. -/
def Dev.lg (d : Dev) : Nat := (d.time.clk - d.time.smpClk) * 5 / 16

/-- The cycle in which lane group `n` begins. -/
def Dev.lgClk (d : Dev) (n : Nat) : Nat := d.time.smpClk + (16 * n + 4) / 5

/-- `ms` milliseconds in SYS cycles. -/
def msCycles (ms : Nat) : Nat := ms * Config.sysPerMs

/-- Add `k` to the lifetime count at `off` of the COUNTERS record, which has `size` bytes and holds at its largest value (R585). -/
def Dev.lifeBy (d : Dev) (off size k : Nat) : Dev :=
  let v := min (smGet (fun _ => 0) d.life.counts off + k) (2 ^ (8 * size) - 1)
  { d with life := { d.life with counts := smSet (fun _ => 0) d.life.counts off v } }

/-- The state of PLL `p`. -/
def Dev.pll (d : Dev) : Pll → PllSt
  | .spl => d.clk.spl
  | .apl => d.clk.apl

/-- Set the state of PLL `p`. -/
def Dev.setPll (d : Dev) (p : Pll) (v : PllSt) : Dev :=
  match p with
  | .spl => { d with clk := { d.clk with spl := v } }
  | .apl => { d with clk := { d.clk with apl := v } }

/-- Order a re-lock of PLL `p`, or its first lock; RELOCK_BEGIN carries it out (R443). -/
def Dev.wantLock (d : Dev) (p : Pll) : Dev := d.setPll p { d.pll p with want := true }

/-- The SYS domain and the domains on the SPL are stopped: the SPL is not locked (R36). -/
def Dev.splStopped (d : Dev) : Bool := d.fget R.CLK_STAT_SPL != 2

/-- The block that applies the staged register at `idx` (R83, R632). -/
def unitOf (idx : Nat) : EpochUnit :=
  if 0x10000 ≤ idx then .fsp
  else if 0x3000 ≤ idx then .rf
  else if 0x2800 ≤ idx then .aud
  else if 0x2000 ≤ idx then .prg
  else if 0x1E00 ≤ idx then (if h : (idx - 0x1E00) / 4 < 48 then .dsc ⟨(idx - 0x1E00) / 4, h⟩ else .dab)
  else if 0x1C00 ≤ idx then .dab
  else if 0x1000 ≤ idx then .rf
  else if 0x0A40 ≤ idx then .slk
  else if 0x0A00 ≤ idx then .control
  else if 0x0900 ≤ idx then .slk
  else if 0x08C0 ≤ idx then .spd
  else if 0x0800 ≤ idx then
    (if idx % 64 < 0x20 then (if h : (idx - 0x0800) / 64 < 3 then .port ⟨(idx - 0x0800) / 64, h⟩ else .prt) else .prt)
  else if 0x0600 ≤ idx then .aud
  else if 0x0580 ≤ idx then .fsp
  else if 0x0500 ≤ idx then .prg
  else if 0x0480 ≤ idx then .dab
  else if 0x0300 ≤ idx then .rf
  else .control

/-- State of power domain `pd` (2 to 7): 0 OFF, 1 RETAIN, 2 ON, 3 in transition (PWR_DOM_STAT). -/
def Dev.domState (d : Dev) (pd : Nat) : Nat := d.fget R.PWR_DOM_STAT_STATE / 4 ^ (pd - 2) % 4

/-- Power domain `pd` is ON. -/
def Dev.domOn (d : Dev) (pd : Nat) : Bool := d.domState pd == 2

/-- A coexistence blanking window is open (R49). -/
def Dev.blanking (d : Dev) : Bool := d.cx.blank

/-- Input `x` of the antenna inputs. -/
def Dev.afeOf (d : Dev) (x : Nat) : AfeSt := smGet (fun _ => {}) d.afe x

/-- Change the state of input `x`. -/
def Dev.updAfe (d : Dev) (x : Nat) (f : AfeSt → AfeSt) : Dev :=
  { d with afe := smSet (fun _ => {}) d.afe x (f (d.afeOf x)) }

/-- The calibration of input `x`. -/
def Dev.bicOf (d : Dev) (x : Nat) : BicSt := smGet (fun _ => {}) d.bic x

/-- Change the calibration of input `x`. -/
def Dev.updBic (d : Dev) (x : Nat) (f : BicSt → BicSt) : Dev :=
  { d with bic := smSet (fun _ => {}) d.bic x (f (d.bicOf x)) }

/-- The scanner of input `x`. -/
def Dev.scnOf (d : Dev) (x : Nat) : ScnSt := smGet (fun _ => {}) d.scn x

/-- Change the scanner of input `x`. -/
def Dev.updScn (d : Dev) (x : Nat) (f : ScnSt → ScnSt) : Dev := { d with scn := smSet (fun _ => {}) d.scn x (f (d.scnOf x)) }

/-- The time stamp of the moment `k` SYS cycles ago; a moment before the last step of device time keeps the seconds of its own time (R24). -/
def TimeSt.stampAgo (t : TimeSt) (k : Nat) : Nat :=
  let back : Int := if t.clk < t.stepClk + k then t.stepBy else 0
  let whole := (((t.sec : Int) - back + 2 ^ 33) * Config.sysPerSecond + t.cyc - k).toNat
  (whole / Config.sysPerSecond % 2 ^ 32) * 2 ^ 32 + whole % Config.sysPerSecond * 2 ^ 32 / Config.sysPerSecond

/-- The time stamp of cycle `c`. -/
def Dev.stampAt (d : Dev) (c : Nat) : Nat := d.time.stampAgo (d.time.clk - c)

/-- The level in 0.1 dBm at the antenna of the mean of the given powers at ball `x`, in 10^−22 mW (R93): less the gain entered for the input. -/
def Dev.levelDbm (d : Dev) (x : Nat) (powers : List Nat) : Int :=
  let sum := powers.foldl (· + ·) 0
  if sum = 0 then -32768 else levelTenths sum (max powers.length 1 * 10 ^ 22) - d.fgetI R.AFE_ANT_GAIN_GAIN x

/-- The same level in 0.1 dBµV, held to −20.0 to +130.0 (R93, R187, R205). -/
def Dev.levelDbuv (d : Dev) (x : Nat) (powers : List Nat) : Int :=
  clampInt (-200) 1300 (d.levelDbm x powers + (if d.fbit R.AFE_CFG_ZIN x then 1088 else 1070))

/-- The pointer after a register has been transferred (R520): it wraps in its 32-register page; a command code does not advance. -/
def ptrNext (p : Nat) : Nat := if 0xF000 ≤ p ∧ p ≤ 0xF0FF then p else p / 32 * 32 + (p + 1) % 32

/-- The main reset is held, by a cause or by a failed ROM checksum (R32, R555). -/
def Dev.inReset (d : Dev) : Bool := d.boot.phase == .inReset || d.boot.phase == .romHold

/-- The request of the mailbox with that opcode whose work is still to be done (R75). -/
def Dev.mbxWork (d : Dev) (opcode : Nat) : Option MbxReq :=
  match d.mbx.req, d.mbx.result with
  | some r, none => if r.opcode = opcode then some r else none
  | _, _ => none

/-- The work of the mailbox request is done: its status and payload (R75). -/
def Dev.mbxDone (d : Dev) (status : Nat) (payload : List Nat) : Dev := { d with mbx := { d.mbx with result := some (status, payload) } }

end Sys2Proof.Machine
end

