-- ==== Sys2Proof/Machine/Afe.lean ====
section
/-!
DEFINITION. Antenna inputs: phantom supply, gain control, overload, start-up (spec/03_rf_front_end.md, R92 to R118).
-/
namespace Sys2Proof.Machine

/-! ### Phantom supply -/

/-- PH_STATE of input `x`: 0 OFF, 1 SETTLE, 2 ON, 3 OPEN, 4 TRIPPED, 5 WAIT. -/
def Dev.phState (d : Dev) (x : Nat) : Nat := d.fget R.AFE_STAT_PH_STATE x

/-- Enter SETTLE: `ANT_EN_x` high and the overcurrent check armed (R94, R97). -/
def Dev.phSettle (d : Dev) (x : Nat) (afterTrip : Bool) : Dev :=
  (d.updAfe x (fun a => { a with
    antEn := true, armed := true, tripped := afterTrip, closing := 0, phClk := d.time.clk, ocRun := 0, okRun := 0, olRun := 0, inRun := 0 })).fput R.AFE_STAT_PH_STATE x 1

/-- OFF while `PH_EN` = 0 or the input's domain is not ON, else out of OFF (R94). An average in which `PH_EN` becomes 0 can still count its
overcurrent (R96); one in which the domain leaves ON cannot (R118). -/
def Dev.phCheck (d : Dev) (x : Nat) : Dev :=
  if d.fbit R.AFE_PH_CFG_PH_EN x && d.domOn (2 + x) then
    if d.phState x = 0 then d.phSettle x false else d
  else
    let was := if d.fbit R.AFE_PH_CFG_PH_EN x then 0
      else if d.phState x = 0 then (d.afeOf x).closing else if d.phState x = 1 then 1 else if d.phState x = 2 ∨ d.phState x = 3 then 2 else 0
    (d.updAfe x (fun a => { a with antEn := false, tripped := false, closing := was })).fput R.AFE_STAT_PH_STATE x 0

/-- Count a trip and set `PH_OC` (R94). -/
def Dev.phCount (d : Dev) (x : Nat) : Dev := d.bumpEvt R.AFE_PH_TRIPS_COUNT R.AFE_EVT_PH_OC x

/-- An overcurrent in SETTLE, ON or OPEN (R94, R97): with AUTO_OFF the supply trips, and waits when RETRY ≠ 0; without it one
armed check counts. -/
def Dev.phOvercurrent (d : Dev) (x : Nat) : Dev :=
  if d.fbit R.AFE_PH_CFG_AUTO_OFF x then
    ((d.phCount x).updAfe x (fun a => { a with antEn := false, armed := false, phClk := d.time.clk })).fput R.AFE_STAT_PH_STATE x
      (if d.fget R.AFE_PH_TIME_RETRY x = 0 then 4 else 5)
  else if (d.afeOf x).armed then
    (d.phCount x).updAfe x (fun a => { a with armed := false, ocRun := 0, okRun := 0 })
  else d

/-- An overcurrent of the average in which `PH_EN` became 0 (R96): it counts as it would have counted in the state before (R97). -/
def Dev.phClosing (d : Dev) (x : Nat) : Dev :=
  if d.fbit R.AFE_PH_CFG_AUTO_OFF x || (d.afeOf x).armed then
    (d.phCount x).updAfe x (fun a => { a with closing := 0, armed := false })
  else d

/-- PH_SENSE_SAMPLE (R94): one 100 µs sample of the sense input, in mV up to 1,800. -/
def execPhSenseSample (inp : Fin 2) (mv : Nat) (s : State) : Host.Outcome State Fault Refusal :=
  nextDev s (fun d =>
    let mv := min mv 1800
    let d := d.updAfe inp (fun a => { a with snsSum := a.snsSum + mv, snsN := a.snsN + 1 })
    if 1750 ≤ mv then
      if d.phState inp == 1 || d.phState inp == 2 || d.phState inp == 3 then d.phOvercurrent inp
      else if 0 < (d.afeOf inp).closing then d.phClosing inp
      else d
    else d)

/-- PH_AVERAGE (R94 to R97): the average of the ten samples of 1 ms, once they are taken, and what its debounced conditions do. -/
def execPhAverage (inp : Fin 2) (s : State) : Host.Outcome State Fault Refusal :=
  nextDev s (fun d =>
    let x := (inp : Nat)
    let a := d.afeOf x
    if a.snsN < 10 then d else
    let avg := divNear a.snsSum a.snsN
    let oc := d.fget R.AFE_PH_TH_OC x * 8
    let ol := d.fget R.AFE_PH_TH_OL x * 8
    let deb := d.fget R.AFE_PH_TIME_DEB x
    let live := d.phState x == 2 || d.phState x == 3
    let run (c : Bool) (n : Nat) : Nat := if c && (live || a.closing == 2) then min (n + 1) 15 else 0
    let d := (d.updAfe x (fun a => { a with
      snsSum := 0, snsN := 0, closing := 0,
      ocRun := run (decide (oc < avg)) a.ocRun, okRun := run (decide (avg ≤ oc)) a.okRun,
      olRun := run (decide (avg < ol)) a.olRun,
      inRun := run (decide (ol ≤ avg) && decide (avg ≤ oc)) a.inRun })).fput R.AFE_SNS_MV x avg
    let n := d.afeOf x
    if 0 < a.closing then onlyIf (a.closing == 2 && decide (deb ≤ n.ocRun)) (fun d => d.phClosing x) d
    else if !live then d
    else if decide (deb ≤ n.ocRun) then d.phOvercurrent x
    else
      let d := onlyIf (!n.armed && decide (deb ≤ n.okRun)) (fun d => d.updAfe x (fun a => { a with armed := true })) d
      if d.phState x = 2 && decide (deb ≤ n.olRun) then (d.fput R.AFE_STAT_PH_STATE x 3).event R.AFE_EVT_PH_OPEN x
      else if d.phState x = 3 && decide (deb ≤ n.inRun) then (d.fput R.AFE_STAT_PH_STATE x 2).event R.AFE_EVT_PH_OK x
      else d)

/-- PH_SETTLE_END (R94, R95): `PH_CFG.SETTLE` ms have passed; to ON; `PH_OK` after a trip when the last average lies within the thresholds. An epoch
that changes SETTLE counts for a SETTLE in progress (DESIGN CHOICE, log entry 51). -/
def execPhSettleEnd (inp : Fin 2) (s : State) : Host.Outcome State Fault Refusal :=
  nextDev s (fun d =>
    let x := (inp : Nat)
    if d.phState x = 1 ∧ d.reached ((d.afeOf x).phClk + msCycles (d.fget R.AFE_PH_CFG_SETTLE x)) then
      let mv := d.fget R.AFE_SNS_MV x
      let ok := (d.afeOf x).tripped && decide (d.fget R.AFE_PH_TH_OL x * 8 ≤ mv) && decide (mv ≤ d.fget R.AFE_PH_TH_OC x * 8)
      onlyIf ok (fun d => d.event R.AFE_EVT_PH_OK x)
        ((d.fput R.AFE_STAT_PH_STATE x 2).updAfe x (fun a => { a with tripped := false }))
    else d)

/-- PH_RETRY_EXPIRY (R94): `PH_TIME.RETRY` has passed; from WAIT to SETTLE. An epoch that changes RETRY counts for a WAIT in progress (DESIGN CHOICE, log
entry 51). -/
def execPhRetryExpiry (inp : Fin 2) (s : State) : Host.Outcome State Fault Refusal :=
  nextDev s (fun d =>
    if d.phState inp = 5 ∧ d.reached ((d.afeOf inp).phClk + msCycles (100 * d.fget R.AFE_PH_TIME_RETRY inp)) then d.phSettle inp true else d)

/-- A write of 1 to `PH_RESTART` (R94): from TRIPPED to SETTLE; no effect in any other state. -/
def Dev.phRestart (d : Dev) (x : Nat) : Dev := if d.phState x = 4 then d.phSettle x true else d

/-- PH_RESTART (R94). -/
def execPhRestart (inp : Fin 2) (s : State) : Host.Outcome State Fault Refusal := nextDev s (fun d => d.phRestart inp)

/-! ### Gain control -/

/-- Gain control mode of input `x`: 0 AUTO, 1 MANUAL, 2 PROTECT. -/
def Dev.wgcMode (d : Dev) (x : Nat) : Nat := d.fget R.AFE_CFG_WGC_MODE x

/-- The attenuation of MANUAL mode, or the floor of PROTECT mode with MAX in place of a higher `ATT_MAN` (R110). -/
def Dev.attFloor (d : Dev) (x : Nat) : Nat :=
  if d.wgcMode x = 2 then min (d.fget R.AFE_ATT_MAN_ATT x) (d.fget R.AFE_ATT_LIM_MAX x) else d.fget R.AFE_ATT_MAN_ATT x

/-- The lane group on which a change that is decided now takes effect (log entry 50): the next one, or once SMP runs again the first whole one (R112). -/
def Dev.lgNext (d : Dev) : Nat := if d.splStopped then 1 else d.lg + 1

/-- Order an attenuator change for the next lane group; of two that wait for one lane group the higher is taken (R102). -/
def Dev.attOrder (d : Dev) (x v : Nat) : Dev :=
  d.updAfe x (fun a => { a with attTarget := some (match a.attTarget with | some w => (max v w.1, w.2) | none => (v, d.lgNext)) })

/-- The attenuation that mode and limits demand in place of the one in force (R108, R110): into the limits in AUTO, also where the mode has only now
become AUTO (DESIGN CHOICE, log entry 51); `ATT_MAN` in MANUAL; from the floor to MAX in PROTECT. -/
def Dev.attWant (d : Dev) (x : Nat) : Nat :=
  let att := d.fget R.AFE_STAT_ATT x
  match d.wgcMode x with
  | 0 => clampNat (d.fget R.AFE_ATT_LIM_MIN x) (d.fget R.AFE_ATT_LIM_MAX x) att
  | 1 => d.attFloor x
  | _ => clampNat (d.attFloor x) (d.fget R.AFE_ATT_LIM_MAX x) att

/-- Order the attenuation that mode and limits demand, where it is another one. -/
def Dev.attHold (d : Dev) (x : Nat) : Dev := if d.attWant x = d.fget R.AFE_STAT_ATT x then d else d.attOrder x (d.attWant x)

/-- A calibration commit of input `x` takes effect, or waits to, on lane group `n` (R52). -/
def Dev.commitOn (d : Dev) (x n : Nat) : Bool :=
  let b := d.bicOf x
  b.commitAt == some n || (match b.pend with | some p => p.target == some n | none => false)

/-- The lane group on which a change with target `n` takes effect: the next one where a commit takes effect on `n` (R52). -/
def Dev.stepOn (d : Dev) (x n : Nat) : Nat := if d.commitOn x n then n + 1 else n

/-- The attenuation takes effect (R101); a change is counted, and INTERVAL and HOLD start anew (R103, R104). -/
def Dev.attSet (d : Dev) (x v : Nat) : Dev :=
  if d.fget R.AFE_STAT_ATT x = v then d
  else
    (((d.fput R.AFE_STAT_ATT x v).bump R.AFE_ATT_STEPS_COUNT x).updAfe x (fun a => { a with stepClk := some d.time.clk, lowClk := d.time.clk })).updBic x
      (fun b => { b with moved := true })

/-- The attenuation that an acquisition measures at is in force: its 1 ms begins (R110). -/
def Dev.acqBegin (d : Dev) (x : Nat) : Dev :=
  if d.fbit R.AFE_STAT_ACQ x && (d.afeOf x).acqClk.isNone && (d.fget R.AFE_STAT_ATT x == (d.afeOf x).acqMax || d.wgcMode x != 0) then
    d.updAfe x (fun a => { a with acqClk := some d.time.clk, acqPeak := 0, acqClip := false })
  else d

/-- Input `x` takes lane groups: it samples, or acquires at its start. -/
def Dev.inputRuns (d : Dev) (x : Nat) : Bool := d.fbit R.AFE_STAT_SAMPLING x || d.fbit R.AFE_STAT_ACQ x

/-- ATTENUATOR_STEP (R52, R98, R101, R112): a change of attenuation or of LNA mode whose target lane group has come takes effect. Where a decision of gain
control has won over an epoch (R102), the attenuation then moves on to what mode and limits demand. -/
def execAttenuatorStep (inp : Fin 2) (s : State) : Host.Outcome State Fault Refusal :=
  nextDev s (fun d =>
    let x := (inp : Nat)
    if d.splStopped then d else
    let d := match (d.afeOf x).attTarget with
      | some (v, n) =>
        if d.stepOn x n ≤ d.lg then
          let d := (d.updAfe x (fun a => { a with attTarget := none })).attSet x v
          if d.inputRuns x then d.attHold x else d
        else d
      | none => d
    let d := match (d.afeOf x).lnaTarget with
      | some n =>
        if d.stepOn x n ≤ d.lg then
          (d.updAfe x (fun a => { a with lnaNow := d.fget R.AFE_CFG_LNA_MODE x, lnaTarget := none })).updBic x (fun b => { b with moved := true })
        else d
      | none => d
    d.acqBegin x)

/-- PEAK_WINDOW (R103, R104, R106, R107, R112): the 1,024 lane groups of the window have passed; the slow steps of gain control, from its highest
|code|. -/
def execPeakWindow (inp : Fin 2) (s : State) : Host.Outcome State Fault Refusal :=
  nextDev s (fun d =>
    let x := (inp : Nat)
    let a := d.afeOf x
    if d.splStopped || !d.inputRuns x || decide (d.lg < a.peakAt + 1024) then d else
    let att := d.fget R.AFE_STAT_ATT x
    let out := a.blanked || d.blanking
    let low := !aboveDbfs a.peak (d.fget R.AFE_WGC_TH_DN x) && decide (10 ^ d.fget R.AFE_WGC_TH_DN x * a.peak ^ 20 ≠ 8192 ^ 20)
    let lowClk := if out || low then a.lowClk else max a.lowClk (d.lgClk (a.peakAt + 1024))
    let due := (match a.stepClk with | none => true | some t => d.reached (t + msCycles (d.fget R.AFE_WGC_TIME_INTERVAL x))) &&
      a.attTarget.isNone && !out && !d.fbit R.AFE_STAT_ACQ x && d.fbit R.AFE_STAT_SAMPLING x
    let d := d.updAfe x (fun a => { a with peak := 0, peakAt := a.peakAt + 1024, blanked := d.blanking, attacked := false, lowClk := lowClk })
    let floor := if d.wgcMode x = 0 then d.fget R.AFE_ATT_LIM_MIN x else d.attFloor x
    if due && d.wgcMode x == 0 && aboveDbfs a.peak (d.fget R.AFE_WGC_TH_UP x) && decide (att < d.fget R.AFE_ATT_LIM_MAX x) then
      d.attOrder x (att + 1)
    else if due && d.wgcMode x != 1 && d.reached (lowClk + msCycles (10 * d.fget R.AFE_WGC_TIME_HOLD x)) && low && !a.attacked &&
        decide (floor < att) then
      d.attOrder x (att - 1)
    else d)

/-- The cycles that the overload window from lane group `g` on spans. -/
def Dev.lgSpan (d : Dev) (g : Nat) : Nat × Nat := (d.lgClk g, d.lgClk (g + 64))

/-- The context block in progress or just ended that has not yet been reported holds the lane group `g` (R115, R142). -/
def Dev.inBlock (d : Dev) (g : Nat) : Bool := decide (d.grid.due ≤ d.lgClk g + Config.sysPerMs)

/-- OVERLOAD_WINDOW (R105, R112 to R115): the 64 lane groups of the window have passed; an overloaded window, its counts, and the attack. A window
that lies only partly within coexistence blanking counts as within it (DESIGN CHOICE, log entry 51). Lane groups that the input delivers carry the flag. -/
def execOverloadWindow (inp : Fin 2) (s : State) : Host.Outcome State Fault Refusal :=
  nextDev s (fun d =>
    let x := (inp : Nat)
    let a := d.afeOf x
    if d.splStopped || !d.inputRuns x || decide (d.lg < a.ovlAt + 64) then d else
    let out := a.ovlBlanked || d.blanking
    let max' := d.fget R.AFE_ATT_LIM_MAX x
    let att := d.fget R.AFE_STAT_ATT x
    let manual := d.wgcMode x == 1
    let ovlAt := a.ovlAt
    let d := d.updAfe x (fun a => { a with clips := 0, ovlAt := a.ovlAt + 64, ovlBlanked := d.blanking })
    if d.fget R.AFE_OVL_CFG_CNT x ≤ a.clips then
      let d := d.event R.AFE_EVT_OVERLOAD x
      let d := onlyIf (manual || att == max') (fun d => d.event R.AFE_EVT_SATURATED x) d
      let d := if out then d.bump R.AFE_OVL_BLANK_COUNT x else d.updAfe x (fun a => { a with ovlSecond := true })
      let d := d.updBic x (fun b => { b with ovl := b.ovl + 1 })
      let d := onlyIf (d.fbit R.AFE_STAT_SAMPLING x) (fun d =>
        (d.updAfe x (fun a => { a with blockOvl := a.blockOvl || d.inBlock ovlAt, flagged := a.flagged ++ [d.lgSpan ovlAt] })).updScn x (fun c => { c with ovls := c.ovls ++ [ovlAt] })) d
      if !manual && !d.fbit R.AFE_STAT_ACQ x && decide (att < max') then
        (d.attOrder x (min (att + d.fget R.AFE_OVL_CFG_STEP x) max')).updAfe x (fun a => { a with attacked := true })
      else d
    else d)

/-- An overloaded window of input `x` has ended by the next boundary and is still to be judged. -/
def Dev.ovlOwed (d : Dev) (x : Nat) : Bool :=
  let a := d.afeOf x
  d.fbit R.AFE_STAT_SAMPLING x && decide (d.fget R.AFE_OVL_CFG_CNT x ≤ a.clips) && decide (d.lgClk (a.ovlAt + 64) ≤ d.grid.due)

/-- The context block that ends with the next boundary holds an overloaded window of input `x` (R115): one that has been judged, or one that has ended and is
still to be judged. -/
def Dev.inputOvl (d : Dev) (x : Nat) : Bool := (d.afeOf x).blockOvl || d.ovlOwed x

/-- The spans of the lane groups of input `x` that carry the overload flag in the context block that ends (R115). -/
def Dev.ovlSpans (d : Dev) (x : Nat) : List (Nat × Nat) :=
  let a := d.afeOf x
  a.flagged ++ (if d.ovlOwed x then [d.lgSpan a.ovlAt] else [])

/-- The attenuation that acquisition sets in AUTO (R110, R111): the lowest whole A from MIN to MAX with A ≥ P + M + UP, where P was measured at M dB; MAX
when none is or a sample clipped. -/
def Dev.acqResult (d : Dev) (x : Nat) : Nat :=
  let lo := d.fget R.AFE_ATT_LIM_MIN x
  let hi := d.fget R.AFE_ATT_LIM_MAX x
  let a := d.afeOf x
  if a.acqClip then hi
  else
    let fits := (List.range (hi + 1)).filter (fun k => decide (lo ≤ k) && !aboveTenTo (a.acqPeak ^ 2) (8192 ^ 2) ((k : Int) - a.acqMax - d.fget R.AFE_WGC_TH_UP x) 10)
    fits.headD hi

/-- The estimator of input `x` begins a window (R120, R128). -/
def Dev.bicWindow (d : Dev) (x : Nat) : Dev :=
  d.updBic x (fun b => { b with start := d.lg, ovl := 0, moved := false, blank := d.blanking })

/-- The input delivers its first lane group (R117): its scanner starts (R169), and its estimator with a verify window or with E1 (R120, R130). -/
def Dev.inputUp (d : Dev) (x : Nat) : Dev :=
  let d := (((d.fputB R.AFE_STAT_SAMPLING x true).event R.AFE_EVT_INPUT_UP x).progress 17).updAfe x
    (fun a => { a with groups := 0, starting := false })
  let d := d.updScn x (fun c => { c with start := d.time.clk, blanks := if d.blanking then [(d.lg, none)] else [], ovls := [] })
  let d := (d.fputB (if x = 0 then R.SCN_STAT_A_VALID else R.SCN_STAT_B_VALID) 0 false).bicWindow x
  if d.fbit (if x = 0 then R.BIC_CFG_EN_A else R.BIC_CFG_EN_B) && (d.bicOf x).pend.isNone then
    d.fput R.BICX_STAT_STATE x (if (d.bicOf x).verify then 4 else 1)
  else d

/-- Begin an acquisition (R110, R111): in AUTO the attenuation goes to MAX and 1 ms is measured; in MANUAL and PROTECT `ATT_MAN`
is set without measuring. At the start of the input the attenuator stands at MAX before it (R117). -/
def Dev.acquire (d : Dev) (x : Nat) (start : Bool) : Dev :=
  let top := d.fget R.AFE_ATT_LIM_MAX x
  let d := if start then d.attSet x top else d
  if d.wgcMode x = 0 then
    (((if start then d else d.attOrder x top).fputB R.AFE_STAT_ACQ x true).updAfe x
      (fun a => { a with starting := start, acqMax := top, acqClk := none, acqPeak := 0, acqClip := false })).acqBegin x
  else if start then (d.attSet x (d.attFloor x)).inputUp x
  else d.attOrder x (d.attFloor x)

/-- A write of 1 to `REACQUIRE` (R111): no effect while an acquisition runs; nor while the input does not sample or SMP is stopped (R112), of which the spec
says nothing (DESIGN CHOICE, log entry 51). -/
def Dev.reacquire (d : Dev) (x : Nat) : Dev :=
  if d.fbit R.AFE_STAT_SAMPLING x && !d.fbit R.AFE_STAT_ACQ x && !d.splStopped then d.acquire x false else d

/-- REACQUIRE (R111). -/
def execReacquire (inp : Fin 2) (s : State) : Host.Outcome State Fault Refusal := nextDev s (fun d => d.reacquire inp)

/-- ACQUISITION_DONE (R110 to R112, R117): MAX has been in force for 1 ms; the result is applied, or `ATT_MAN` where the mode has left AUTO; at
the start of the input its first lane group follows. -/
def execAcquisitionDone (inp : Fin 2) (s : State) : Host.Outcome State Fault Refusal :=
  nextDev s (fun d =>
    let x := (inp : Nat)
    let a := d.afeOf x
    match a.acqClk with
    | none => d
    | some t =>
      if !d.fbit R.AFE_STAT_ACQ x || d.splStopped || !d.reached (t + Config.sysPerMs) then d
      else
        let auto := d.wgcMode x == 0
        let v := if auto then d.acqResult x else d.attFloor x
        let d := ((onlyIf (auto && a.acqClip) (fun d => d.event R.AFE_EVT_SATURATED x) d).fputB R.AFE_STAT_ACQ x false).updAfe x
          (fun a => { a with acqClk := none })
        if a.starting then ((d.attSet x v).updAfe x (fun a => { a with attTarget := none })).inputUp x else d.attOrder x v)

/-- The time of an input's start runs from the later of domain ON and SPL lock; 0.5 ms later the attenuator is at MAX (R117). -/
def Dev.afePower (d : Dev) (x : Nat) : Dev :=
  let d := d.phCheck x
  if d.fbit R.AFE_STAT_SAMPLING x then d
  else
    d.updAfe x (fun a => { a with
      onClk := d.time.clk
      attTarget := if d.domOn (2 + x) && !d.splStopped then some (d.fget R.AFE_ATT_LIM_MAX x, d.lg + 46080) else none })

/-- The windows of input `x` begin anew, and with them HOLD. -/
def Dev.windowsBegin (d : Dev) (x : Nat) : Dev :=
  d.updAfe x (fun a => { a with
    peak := 0, clips := 0, peakAt := d.lg / 1024 * 1024, ovlAt := d.lg / 64 * 64, blanked := d.blanking, ovlBlanked := d.blanking, attacked := false,
    lowClk := d.time.clk })

/-- INPUT_START (R117): domain ON and SPL locked for the 2 ms of its bias, amplifier and sub-ADCs, the phantom supply not in SETTLE: the
acquisition begins. Peak windows and overload windows begin at the multiples of their lengths in the count of lane groups, the first ones before the start
(DESIGN CHOICE, log entry 51). -/
def execInputStart (inp : Fin 2) (s : State) : Host.Outcome State Fault Refusal :=
  nextDev s (fun d =>
    let x := (inp : Nat)
    if d.domOn (2 + x) && !d.splStopped && d.reached ((d.afeOf x).onClk + msCycles 2) && !d.fbit R.AFE_STAT_SAMPLING x &&
        !d.fbit R.AFE_STAT_ACQ x && d.phState x != 1 then
      ((d.windowsBegin x).updAfe x (fun a => { a with
        attTarget := none, lnaTarget := none, lnaNow := d.fget R.AFE_CFG_LNA_MODE x })).acquire x true
    else d)

/-- SMP stops for an SPL re-lock (R112): the attenuation is held, and a step that gain control has decided is dropped; an acquisition ends without result,
at the start of the input to begin again. -/
def Dev.afeSplStops (d : Dev) (x : Nat) : Dev :=
  (d.fputB R.AFE_STAT_ACQ x false).updAfe x (fun a => { a with
    acqClk := none, starting := false, attTarget := none, lnaTarget := a.lnaTarget.map (fun _ => 1) })

/-- SMP starts after an SPL lock with a new count of lane groups (R112, R117, R639): windows begin anew. The attenuation held is the one in force, and
moves only where an epoch has meanwhile asked for another (R110). -/
def Dev.afeSplStarts (d : Dev) (x : Nat) : Dev :=
  let d := (d.windowsBegin x).afePower x
  if d.fbit R.AFE_STAT_SAMPLING x then d.attHold x else d

/-- A coexistence blanking window opens: the windows in progress lie partly within it (R107, R114, R121, R168). -/
def Dev.afeBlank (d : Dev) (x : Nat) : Dev :=
  let d := (d.updAfe x (fun a => { a with blanked := true, ovlBlanked := true })).updBic x (fun b => { b with blank := true })
  d.updScn x (fun c => { c with blanks := c.blanks ++ [(d.lg, none)] })

/-- A coexistence blanking window ends (R168). -/
def Dev.afeUnblank (d : Dev) (x : Nat) : Dev :=
  d.updScn x (fun c => { c with blanks := c.blanks.map (fun b => if b.2.isNone then (b.1, some d.lg) else b) })

/-! ### Samples -/

/-- A raw code at either end of its range is clipped (R99). -/
def clipped (c : BitVec 14) : Bool := c.toInt == -8192 || c.toInt == 8191

/-- The factory correction of input `x` (R137); its gains and its skews sum to zero (R119). -/
def factoryCorr (x : Nat) : List LaneCorr :=
  let f := (List.range 8).map (Config.factory x)
  (f.zip ((zeroSum (f.map (·.2.1))).zip (zeroSum (f.map (·.2.2))))).map (fun p => ⟨p.1.1, p.2.1, p.2.2⟩)

/-- The correction of lane `m` of input `x` in force (R119); the factory correction stands for `none`. -/
def laneOf (x : Nat) (c : Option (List LaneCorr)) (m : Nat) : LaneCorr := (c.getD (factoryCorr x)).getD m ⟨0, 0, 0⟩

/-- The compensation gain of input `x` in 0.01 dB (R100): the attenuator's trim entry, and in high-linearity mode the LNA-mode entry; 0 at
0 dB in normal mode. -/
def compGain (x att lna : Nat) : Int := (if att = 0 then 0 else (Config.attTrim x att : Int)) + (if lna = 0 then 0 else Config.lnaTrim x)

/-- The codes of a lane group with offset and gain corrected, in 2^−20 code: (1 + g)(x − o) (R119). -/
def Dev.corrected (d : Dev) (x : Nat) (codes : List (BitVec 14)) : List Int :=
  codes.zipIdx.map (fun p => let l := laneOf x (d.bicOf x).corr p.2; (65536 + l.gain) * (16 * p.1.toInt - l.ofs))

/-- The compensated samples of a lane group, 20-bit two's complement (R100): each corrected sample, delayed by −t of its lane (R119), times the
compensation gain of the attenuator state and LNA mode in force. -/
def Dev.compensated (d : Dev) (x : Nat) (codes : List (BitVec 14)) : List Int :=
  let all := (d.afeOf x).corrected ++ d.corrected x codes
  let g := dbAmp (compGain x (d.fget R.AFE_STAT_ATT x) (d.afeOf x).lnaNow)
  (List.range codes.length).map (fun m =>
    let t := (laneOf x (d.bicOf x).corr m).skew
    let k := (d.afeOf x).corrected.length + m
    let y := if t = 0 then all.getD k 0 else Config.delayed all k (-t)
    clampInt (-524288) 524287 (divNearInt (y * g) (2 ^ 60)))

/-- LANE_GROUP (R99, R100, R115): eight codes enter the windows in progress; once the input samples they are delivered. -/
def execLaneGroup (inp : Fin 2) (codes : List (BitVec 14)) (s : State) : Host.Outcome State Fault Refusal :=
  nextDev s (fun d =>
    let x := (inp : Nat)
    let codes := codes.take 8
    let live := d.fbit R.AFE_STAT_SAMPLING x
    if (live || d.fbit R.AFE_STAT_ACQ x) && !d.splStopped then
      let top := codes.foldl (fun m c => max m c.toInt.natAbs) 0
      let clips := (codes.filter clipped).length
      let d := d.updAfe x (fun a => { a with
        peak := max a.peak top, peak100 := max a.peak100 top, clips := a.clips + clips,
        acqPeak := max a.acqPeak top, acqClip := a.acqClip || decide (0 < clips) })
      let d := d.progress 17
      if live then d.updAfe x (fun a => { a with groups := a.groups + 1, group := d.compensated x codes, corrected := d.corrected x codes })
      else d
    else d)

/-! ### Epochs and domains -/

/-- What an applied mode and applied limits do to the attenuation of input `x` (R102, R108, R110). A step that waits is held to the new limits, and the
attenuation moves where it lies outside them, or to `ATT_MAN` on a change to MANUAL or PROTECT. An acquisition whose MAX has moved begins its measurement
anew at the new one (DESIGN CHOICE, log entry 51). An input that is still to start goes to the new MAX (R117). -/
def Dev.attApplied (d : Dev) (x : Nat) (changed : Bool) : Dev :=
  let lo := d.fget R.AFE_ATT_LIM_MIN x
  let hi := d.fget R.AFE_ATT_LIM_MAX x
  if !d.inputRuns x then d.updAfe x (fun a => { a with attTarget := a.attTarget.map (fun w => (hi, w.2)) })
  else
    let into (v : Nat) : Nat := if d.wgcMode x = 0 then clampNat lo hi v else if d.wgcMode x = 2 then min v hi else v
    let d := d.updAfe x (fun a => { a with attTarget := a.attTarget.map (fun w => (into w.1, w.2)) })
    if d.fbit R.AFE_STAT_ACQ x && d.wgcMode x == 0 then
      if (d.afeOf x).acqMax = hi then d
      else ((d.updAfe x (fun a => { a with acqMax := hi, acqClk := none, attTarget := none })).attOrder x hi).acqBegin x
    else if changed && d.wgcMode x == 2 then
      (if d.fget R.AFE_STAT_ATT x = d.attFloor x then d else d.attOrder x (d.attFloor x))
    else d.attHold x

/-- What applied AFE settings do at their boundary (R94, R97, R98, R108, R110, R116), against the block `old` before it. -/
def Dev.afeApplied (old d : Dev) (x : Nat) : Dev :=
  let d := d.phCheck x
  let d := onlyIf (old.fget R.AFE_PH_CFG_AUTO_OFF x != d.fget R.AFE_PH_CFG_AUTO_OFF x)
    (fun d => d.updAfe x (fun a => { a with armed := true })) d
  let d := onlyIf (d.phState x == 4 && d.fget R.AFE_PH_TIME_RETRY x != 0)
    (fun d => (d.fput R.AFE_STAT_PH_STATE x 5).updAfe x (fun a => { a with phClk := d.time.clk })) d
  let d := onlyIf ((d.afeOf x).lnaNow != d.fget R.AFE_CFG_LNA_MODE x && (d.afeOf x).lnaTarget.isNone)
    (fun d => d.updAfe x (fun a => { a with lnaTarget := some d.lgNext })) d
  d.attApplied x (old.wgcMode x != d.wgcMode x)

/-- The input's domain leaves ON (R118, R563): sampling stops and `ANT_EN_x` goes low; counters and the other status fields keep
their values. The pair in progress of its calibration ends; so does an acquisition, with a change that waits (DESIGN CHOICE, log entry 51). -/
def Dev.afeStop (d : Dev) (x : Nat) : Dev :=
  let d := ((d.fputB R.AFE_STAT_SAMPLING x false).fputB R.AFE_STAT_ACQ x false).updAfe x
    (fun a => { a with starting := false, acqClk := none, attTarget := none, lnaTarget := none, clips := 0, peak := 0 })
  let d := if (d.bicOf x).pend.isNone then d.fput R.BICX_STAT_STATE x 0 else d
  d.phCheck x

/-- The end of a device-time second for input `x` (R114). -/
def Dev.overloadSecond (d : Dev) (x : Nat) : Dev :=
  if (d.afeOf x).ovlSecond then
    ((d.bump R.AFE_OVL_SEC_COUNT x).lifeBy (0x78 + 4 * x) 4 1).updAfe x (fun a => { a with ovlSecond := false })
  else d

end Sys2Proof.Machine
end

