-- ==== Sys2Proof/Machine/Bic.lean ====
section
/-!
DEFINITION. Interleave calibration and its journal (spec/04_interleave_calibration.md, R119 to R139).
-/
namespace Sys2Proof.Machine

/-- The field of `BIC_EVT` or `BIC_CFG` for input `x`. -/
def ofInput (x : Nat) (a b : Fld) : Fld := if x = 0 then a else b

/-- Calibration of input `x` is enabled. -/
def Dev.bicEn (d : Dev) (x : Nat) : Bool := d.fbit (ofInput x R.BIC_CFG_EN_A R.BIC_CFG_EN_B)

/-- STATE of input `x`: 0 idle, 1 E1, 2 E2, 3 commit pending, 4 VERIFY. -/
def Dev.bicState (d : Dev) (x : Nat) : Nat := d.fget R.BICX_STAT_STATE x

/-- Set the state. -/
def Dev.bicTo (d : Dev) (x st : Nat) : Dev := d.fput R.BICX_STAT_STATE x st

/-- Discard the pair in progress and begin its first window anew; a verify window that is still to come stays due (R120, R130, R132). -/
def Dev.bicDiscard (d : Dev) (x : Nat) : Dev :=
  if d.bicState x = 0 ∨ d.bicState x = 3 then d else (d.bicTo x (if (d.bicOf x).verify then 4 else 1)).bicWindow x

/-- A reason of R121 to R123 in LAST_REJ, with the Moult log count of rejects. -/
def Dev.bicReject (d : Dev) (x reason : Nat) (c : Fld) : Dev :=
  ((d.bump c x).fput R.BICX_STAT_LAST_REJ x reason).lifeBy 0x84 4 1

/-- The first failing condition of R121, in table order; 0 when all hold. -/
def Dev.bicPre (d : Dev) (x : Nat) (power : Int) (flat : Nat) : Nat :=
  let b := d.bicOf x
  if power < -(10 * d.fget R.BIC_PRE_PWR_MIN : Nat) then 1
  else if d.fget R.BIC_PRE2_OVL_MAX < b.ovl then 2
  else if flat < d.fget R.BIC_PRE_FLAT_MIN then 3
  else if b.moved then 4
  else if b.blank || d.blanking then 5
  else 0

/-- The sum of the squares of a list. -/
def sumSq (l : List Int) : Nat := (l.map (fun v => v.natAbs ^ 2)).foldl (· + ·) 0

/-- The residual image figure of R124: (σg² + (2π × 200 MHz × σt)²) / 4 times `imgDen`, with π² to 20 digits. -/
def imgNum (l : List LaneCorr) : Nat :=
  sumSq (l.map (·.gain)) * 10 ^ 32 +
    sumSq (l.map (·.skew)) * (16 * 98696044010893586188) * 2 ^ 32 / 10 ^ 1

/-- The denominator of the residual image figure. -/
def imgDen : Nat := 8 * 4 * 2 ^ 32 * 10 ^ 32

/-- The residual offset level of R124 as a power ratio to full scale: numerator; the denominator is `ofsDen`. -/
def ofsNum (l : List LaneCorr) : Nat := sumSq (l.map (·.ofs))

/-- The denominator of the residual offset level: eight lanes, 1/16 code, full scale 8,192 codes (DESIGN CHOICE, log entry 51: 0 dBFS of an rms of
offsets is the full-scale code). -/
def ofsDen : Nat := 8 * 256 * 8192 ^ 2

/-- A level of R124 in steps of 0.1; where the ratio is zero the logarithm has no value and a free value stands there. -/
def Dev.level (d : Dev) (f : Fld) (x num den : Nat) : Dev :=
  if num = 0 then { d.fput f x (Config.free d.freeIdx) with freeIdx := d.freeIdx + 1 } else d.fputI f x (levelTenths num den)

/-- Two estimates agree (R122). -/
def Dev.bicAgree (d : Dev) (e1 e2 : List LaneCorr) : Bool :=
  (e1.zip e2).all (fun p =>
    decide ((p.1.ofs - p.2.ofs).natAbs ≤ d.fget R.BIC_TOL_OFS) &&
    decide ((p.1.gain - p.2.gain).natAbs ≤ d.fget R.BIC_TOL_GAIN) &&
    decide ((p.1.skew - p.2.skew).natAbs ≤ 10 * d.fget R.BIC_TOL2_SKEW))

/-- A set whose gains and whose skews sum to zero (R119). -/
def balanced (l : List LaneCorr) : List LaneCorr :=
  (l.zip ((zeroSum (l.map (·.gain))).zip (zeroSum (l.map (·.skew))))).map (fun p => ⟨p.1.ofs, p.2.1, p.2.2⟩)

/-- The mean of two estimates, rounded (R123). -/
def meanCorr (e1 e2 : List LaneCorr) : List LaneCorr :=
  (e1.zip e2).map (fun p =>
    ⟨divNearInt (p.1.ofs + p.2.ofs) 2, divNearInt (p.1.gain + p.2.gain) 2, divNearInt (p.1.skew + p.2.skew) 2⟩)

/-- The candidate: the correction in force plus the residual (R123), its gains and skews held to a sum of zero (R119). -/
def Dev.bicCandidate (d : Dev) (x : Nat) (r : List LaneCorr) : List LaneCorr :=
  balanced (r.zipIdx.map (fun p =>
    let c := laneOf x (d.bicOf x).corr p.2
    ⟨c.ofs + p.1.ofs, c.gain + p.1.gain, c.skew + p.1.skew⟩))

/-- Every value lies in the range of the correction table. -/
def inRange (l : List LaneCorr) : Bool :=
  l.all (fun c => decide (c.ofs.natAbs ≤ 2047) && decide (c.gain.natAbs ≤ 2047) && decide (c.skew.natAbs ≤ 8000))

/-- The lane group 0.648 ms after the start of the next null symbol of ensemble `n` (R126), while it runs in LOCK: null symbols follow the last
one every 96 ms, and one that begins in this cycle is the next. DAB_FRAME comes at the time of the null symbol at the ADC, so that nothing remains to be
allowed for (DESIGN CHOICE, log entry 21). -/
def Dev.nullTarget (d : Dev) (n : Nat) : Option Nat :=
  if d.fget R.DBE_STAT_STATE n = 3 ∧ d.fget R.DBE_STAT_SYNC n = 3 then
    let t := (smGet (fun _ => ({} : DbeSt)) d.dbe n).nullClk
    let next := t + (d.time.clk - t + msCycles 96 - 1) / msCycles 96 * msCycles 96
    some ((next + 648 * Config.sysPerMs / 1000 - d.time.smpClk) * 5 / 16)
  else none

/-- Schedule a commit (R126 to R128): NULL mode targets a null symbol of the reference ensemble, IMMEDIATE the lane group 256 after the decision;
OBSERVE commits nothing (R131). A commit that is pending already gives way to the new one (DESIGN CHOICE, log entry 51). -/
def Dev.bicSchedule (d : Dev) (x : Nat) (set : Option (List LaneCorr)) (kind img src : Nat) : Dev :=
  if d.fget R.BIC_CFG_COMMIT = 2 then d.bicTo x 1
  else
    let null := d.fget R.BIC_CFG_COMMIT == 0
    let ref := d.fget R.BIC_REF_BLOCK
    (d.updBic x (fun b => { b with
      pend := some ⟨set, null, if null then d.nullTarget ref else some (d.lg + 256), msCycles (10 * d.fget R.BIC_REF_TMO), d.time.clk, ref, kind, img, src⟩ })).bicTo x 3

/-- The target lane group of a commit has come. -/
def BicPend.come (p : BicPend) (lg : Nat) : Bool := match p.target with | some n => decide (n ≤ lg) | none => false

/-- A null symbol of ensemble `n` has been timed: commits that wait for one take it (R126, R127). -/
def Dev.bicNull (d : Dev) (n : Nat) : Dev :=
  d.each [0, 1] (fun d x => d.updBic x (fun b => { b with
    pend := b.pend.map (fun p => if p.null && p.ref == n && !p.come d.lg then { p with target := d.nullTarget n } else p) }))

/-- Ensemble `n` is no longer in LOCK: a commit whose null symbol has not come yet waits for another one (R53, R127); one whose target lies within the block
in which the ensemble is shed keeps it (R54). -/
def Dev.bicNullLost (d : Dev) (n : Nat) : Dev :=
  d.each [0, 1] (fun d x => d.updBic x (fun b => { b with
    pend := b.pend.map (fun p => if p.null && p.ref == n && !p.come d.lg then { p with target := none } else p) }))

/-- A pair that agrees is judged (R123 to R125). -/
def Dev.bicJudge (d : Dev) (x : Nat) (r : List LaneCorr) : Dev :=
  let d := (d.level R.BICX_IMG_LEVEL x (imgNum r) imgDen).level R.BICX_OFS_LEVEL x (ofsNum r) ofsDen
  let c := d.bicCandidate x r
  let m := d.fget R.BIC_TOL2_IMG_MIN
  if !inRange c then
    ((d.bicReject x 7 R.BICX_REJ_RANGE_COUNT).event (ofInput x R.BIC_EVT_RANGE_A R.BIC_EVT_RANGE_B)).bicTo x 1
  else if aboveTenTo (imgNum r) imgDen (-(m : Int)) 10 || aboveTenTo (ofsNum r) ofsDen (-(m + 20 : Nat)) 10 then
    d.bicSchedule x (some c) 0 (imgNum r) 2
  else (d.bump R.BICX_NO_CHANGE_COUNT x).bicTo x 1

/-- A window that passes R121: the verify window, E1 or E2 (R120, R122, R130). A verify window that fails once the mode has become OBSERVE neither
counts nor reverts (DESIGN CHOICE, log entry 51). -/
def Dev.bicPass (d : Dev) (x : Nat) (est : List LaneCorr) : Dev :=
  match d.bicState x with
  | 4 =>
    let b := d.bicOf x
    let d := d.updBic x (fun b => { b with verify := false })
    if b.img < imgNum est && d.fget R.BIC_CFG_COMMIT != 2 then
      ((d.bump R.BICX_REVERT_COUNT x).event (ofInput x R.BIC_EVT_REVERT_A R.BIC_EVT_REVERT_B)).bicSchedule x b.prev 1 0 b.prevSrc
    else (d.updBic x (fun b => { b with e1 := est })).bicTo x 2
  | 2 =>
    if d.bicAgree (d.bicOf x).e1 est then d.bicJudge x (meanCorr (d.bicOf x).e1 est)
    else (d.bicReject x 6 R.BICX_REJ_AGREE_COUNT).bicTo x 1
  | _ => (d.updBic x (fun b => { b with e1 := est })).bicTo x 2

/-- ESTIMATION_WINDOW (R120 to R125, R130): 2^WIN lane groups have passed since the window began; the mean power in 0.1 dBFS, the flatness in 1/256
and the estimates of the eight lanes over it, gains and skews against their means (R119). No window is taken while a commit is pending, the input
does not sample, or calibration is off. The next window follows at once. -/
def execEstimationWindow (inp : Fin 2) (power : Int) (flat : Byte) (est : List (Int × Int × Int)) (s : State) :
    Host.Outcome State Fault Refusal :=
  nextDev s (fun d =>
    let x := (inp : Nat)
    let b := d.bicOf x
    let stop := b.start + 2 ^ d.fget R.BIC_CFG_WIN
    if d.bicEn x && d.fbit R.AFE_STAT_SAMPLING x && !d.splStopped && b.pend.isNone && decide (stop ≤ d.lg) then
      let why := d.bicPre x power flat.toNat
      let d := (d.bump R.BICX_WINDOWS_COUNT x).fput R.BICX_FLAT_FLAT x flat.toNat
      let d := d.updBic x (fun b => { b with start := stop, ovl := 0, moved := false, blank := d.blanking })
      if why = 0 then d.bicPass x (balanced ((est.take 8).map (fun e => ⟨e.1, e.2.1, e.2.2⟩)))
      else
        let d := d.bicReject x why R.BICX_REJ_PRE_COUNT
        if d.bicState x = 4 then d else d.bicTo x 1
    else d)

/-- BIC_COMMIT (R126 to R130): the target lane group of the pending commit has come; the whole set is replaced in one step, also while the input's domain is
not ON, and estimation resumes with the target lane group itself (DESIGN CHOICE, log entry 51). -/
def execBicCommit (inp : Fin 2) (s : State) : Host.Outcome State Fault Refusal :=
  nextDev s (fun d =>
    let x := (inp : Nat)
    match (d.bicOf x).pend with
    | none => d
    | some p =>
      match p.target with
      | none => d
      | some n =>
        if d.splStopped || decide (d.lg < n) then d
        else
          let d := d.updBic x (fun b => { b with
            corr := p.set, prev := b.corr, prevSrc := d.fget R.BICX_STAT_SRC x, pend := none, img := p.img, verify := p.kind == 0,
            commitAt := some n, time := d.time.stamp })
          let d := (d.bump R.BICX_COMMITS_COUNT x).event (ofInput x R.BIC_EVT_COMMIT_A R.BIC_EVT_COMMIT_B)
          let d := (d.fput R.BICX_LAST_S_HI_SEC x (d.time.sec / 65536)).fput R.BICX_LAST_S_LO_SEC x (d.time.sec % 65536)
          let d := (((d.fput R.BICX_STAT_SRC x p.src).lifeBy 0x80 4 1).bicTo x
            (if !d.bicEn x || !d.fbit R.AFE_STAT_SAMPLING x then 0 else if p.kind = 0 then 4 else 1)).bicWindow x
          { d with jnl := { d.jnl with dirty := true } })

/-- BIC_COMMIT_TIMEOUT (R127): TMO has elapsed since the decision and no null symbol has its target by then (R7); the commit takes the IMMEDIATE
target. -/
def execBicCommitTimeout (inp : Fin 2) (s : State) : Host.Outcome State Fault Refusal :=
  nextDev s (fun d =>
    let x := (inp : Nat)
    match (d.bicOf x).pend with
    | none => d
    | some p =>
      let meets := match p.target with | some n => decide (d.lgClk n ≤ p.clk + p.tmo) | none => false
      if p.null && !d.splStopped && d.reached (p.clk + p.tmo) && !meets then
        ((d.updBic x (fun b => { b with pend := some { p with null := false, target := some (d.lg + 256) } })).bump R.BICX_TMO_COUNT x).event
          (ofInput x R.BIC_EVT_TMO_A R.BIC_EVT_TMO_B)
      else d)

/-- SMP starts after an SPL lock: the pending commit finds a target by the new count of lane groups, one of IMMEDIATE mode or past its timeout 256 lane groups
later (DESIGN CHOICE, log entry 51); its timeout restarts (R133), and a window begins (R120). -/
def Dev.bicSplStarts (d : Dev) (x : Nat) : Dev :=
  (d.updBic x (fun b => { b with
    commitAt := none,
    pend := b.pend.map (fun p => { p with clk := d.time.clk, target := if p.null then d.nullTarget p.ref else some (d.lg + 256) }) })).bicWindow x

/-- A write of 1 to `FACTORY_x` (R130): the factory correction is scheduled as an accepted commit, also while calibration is off or the input does
not sample (DESIGN CHOICE, log entry 51). -/
def Dev.bicFactory (d : Dev) (x : Nat) : Dev :=
  if d.fget R.BIC_CFG_COMMIT = 2 then d else d.bicSchedule x none 2 0 0

/-- BIC_FACTORY (R130). -/
def execBicFactory (inp : Fin 2) (s : State) : Host.Outcome State Fault Refusal := nextDev s (fun d => d.bicFactory inp)

/-- BIC_RESTART (R120): the pair in progress is discarded and a new one starts. -/
def execBicRestart (inp : Fin 2) (s : State) : Host.Outcome State Fault Refusal := nextDev s (fun d => d.bicDiscard inp)

/-- What applied BIC settings do at their boundary (R132, R133), against the block `old` before it. -/
def Dev.bicApplied (old d : Dev) : Dev :=
  let changed := [R.BIC_CFG, R.BIC_TOL, R.BIC_TOL2, R.BIC_PRE, R.BIC_PRE2, R.BIC_REF, R.BIC_JNL].any
    (fun f => old.fget f != d.fget f)
  d.each [0, 1] (fun d x =>
    let d := onlyIf changed (fun d => d.bicDiscard x) d
    if !d.bicEn x then
      if old.bicEn x then (d.updBic x (fun b => { b with pend := none })).bicTo x 0 else d
    else if d.bicState x = 0 && d.fbit R.AFE_STAT_SAMPLING x then (d.bicTo x (if (d.bicOf x).verify then 4 else 1)).bicWindow x
    else d)

/-! ### Journal -/

/-- JOURNAL_HANDOVER (R28, R135): the sets in force are handed to Anole no sooner than MIN_INT minutes after the previous record. A commit made
before a change to OBSERVE is still handed over after it (DESIGN CHOICE, log entry 51). -/
def execJournalHandover (s : State) : Host.Outcome State Fault Refusal :=
  nextDev s (fun d =>
    let due := match d.jnl.last with
      | none => true
      | some t => decide (d.fget R.BIC_JNL_MIN_INT * 60 * Config.sysPerSecond ≤ d.since t)
    if d.jnl.dirty && due && !d.fbit R.BIC_JNL_STAT_STOPPED then
      { d with anole := d.anole ++ [true], jnl := { d.jnl with
          dirty := false, last := some d.time.clk,
          queue := d.jnl.queue ++ [⟨max (d.bicOf 0).time (d.bicOf 1).time, (d.bicOf 0).corr, (d.bicOf 1).corr⟩] } }
    else d)

/-- The 48 bytes of one input's correction set. -/
def corrBytes (x : Nat) (c : Option (List LaneCorr)) : List Nat :=
  (List.range 8).flatMap (fun m =>
    let l := laneOf x c m
    beWord (unsgn 16 l.ofs) ++ beWord (unsgn 16 l.gain) ++ beWord (unsgn 16 l.skew))

/-- The 128 bytes of a journal record with sequence number `seq`. -/
def jnlBytes (seq : Nat) (r : JnlRec) : List Nat :=
  let body := [0x42, 0x49, 0x43, 0x4A] ++ be32 seq ++ be64 r.time ++ be32 Config.fprint ++
    beWord (b2n r.a.isSome + 2 * b2n r.b.isSome) ++ [0, 0] ++ corrBytes 0 r.a ++ corrBytes 1 r.b ++ [0, 0, 0, 0]
  body ++ be32 (crc32 body)

/-- The flash address of position `pos` of journal slot `slot`. -/
def jnlAddr (slot pos : Nat) : Nat := 0xC00000 + slot * 0x10000 + pos * 128

/-- What an unlisted byte of the flash reads as: erased. -/
def erased : Nat → Byte := fun _ => 0xFF

/-- The slot and position as `BIC_JNL_STAT` shows them; POS reads 0 while the active slot is full (DESIGN CHOICE, log entry 51). -/
def Dev.jnlShow (d : Dev) : Dev :=
  (d.fput R.BIC_JNL_STAT_SLOT 0 d.jnl.slot).fput R.BIC_JNL_STAT_POS 0 (d.jnl.pos % 512)

/-- Program bytes into the flash from address `a`: programming clears bits and sets none (log entry 30). -/
def flashProg (flash : SMap Byte) (a : Nat) : List Nat → SMap Byte
  | [] => flash
  | b :: t => flashProg (smSet erased flash a (smGet erased flash a &&& BitVec.ofNat 8 b)) (a + 1) t

/-- Fresh free bytes: what a failed erase or write leaves (log entry 13). -/
def freeBytes (k n : Nat) : List Nat := (List.range n).map (fun i => Config.free (k + i) % 256)

/-- A flash request of the mailbox is in progress (R80). -/
def Dev.flashBusy (d : Dev) : Bool :=
  match d.mbx.req, d.mbx.result with
  | some r, none => decide (0x20 ≤ r.opcode) && decide (r.opcode ≤ 0x23)
  | _, _ => false

/-- A flash erase of the mailbox is in progress: an engine's firmware cannot be read (R574). -/
def Dev.eraseBusy (d : Dev) : Bool :=
  match d.mbx.req, d.mbx.result with
  | some r, none => r.opcode == 0x20
  | _, _ => false

/-- Anole is free for a flash record of that kind: it comes first in the order of arrival (R28), and no flash request is in progress (R80). -/
def Dev.anoleFree (d : Dev) (jnl : Bool) : Bool := d.anole.head? == some jnl && !d.flashBusy

/-- JOURNAL_WRITE (R28, R136, R139): the oldest record handed over is written in its turn, after an erase of the other slot when the active one is
full. With no valid record so far SEQ is 1 (DESIGN CHOICE, log entry 51). `eraseOk` and `writeOk` say whether the flash reports an error; a write
error skips to the next position, and either leaves free bytes (log entry 13). -/
def execJournalWrite (eraseOk writeOk : Bool) (s : State) : Host.Outcome State Fault Refusal :=
  let d := s.dev
  match d.jnl.queue with
  | [] => .next s
  | r :: rest =>
    if d.fbit R.BIC_JNL_STAT_STOPPED || !d.anoleFree true then .next s
    else if d.jnl.pos = 512 && !eraseOk then
      .next { s with
        dev := (({ d with
          jnl := { d.jnl with queue := [], dirty := false }, anole := d.anole.filter (fun b => !b), freeIdx := d.freeIdx + 65536 }).fputB
          R.BIC_JNL_STAT_STOPPED 0 true).event R.BIC_EVT_JNL_ERR
        flash := smSetList erased s.flash (jnlAddr (1 - d.jnl.slot) 0) ((freeBytes d.freeIdx 65536).map (BitVec.ofNat 8)) }
    else
      let full := d.jnl.pos = 512
      let slot := if full then 1 - d.jnl.slot else d.jnl.slot
      let pos := if full then 0 else d.jnl.pos
      let flash := if full then smDrop (fun a => decide (jnlAddr slot 0 ≤ a) && decide (a < jnlAddr slot 512)) s.flash else s.flash
      if writeOk then
        .next { s with
          dev := ({ d with
            jnl := { d.jnl with queue := rest, slot := slot, pos := pos + 1, seq := d.jnl.seq + 1 }, anole := d.anole.tail }).jnlShow
          flash := smSetList erased flash (jnlAddr slot pos) ((jnlBytes ((d.jnl.seq + 1) % 2 ^ 32) r).map (BitVec.ofNat 8)) }
      else
        .next { s with
          dev := ({ d with jnl := { d.jnl with slot := slot, pos := pos + 1 }, freeIdx := d.freeIdx + 128 }).jnlShow
          flash := flashProg flash (jnlAddr slot pos) (freeBytes d.freeIdx 128) }

/-- `n` bytes of the flash from address `a`, as numbers. -/
def flashBytes (flash : SMap Byte) (a n : Nat) : List Nat := (smGetList erased flash a n).map BitVec.toNat

/-- The position of a valid record at `a` (R137): MAGIC, CRC and FPRINT are correct. -/
def jnlValid (bs : List Nat) : Bool :=
  bs.take 4 == [0x42, 0x49, 0x43, 0x4A] && ofBe ((bs.drop 0x7C).take 4) == crc32 (bs.take 0x7C) &&
    ofBe ((bs.drop 0x10).take 4) == Config.fprint % 2 ^ 32

/-- The correction set that 48 bytes carry. -/
def corrOf (bs : List Nat) : List LaneCorr :=
  (List.range 8).map (fun m =>
    let w (k : Nat) : Int := sgn 16 (ofBe ((bs.drop (6 * m + 2 * k)).take 2))
    ⟨w 0, w 1, w 2⟩)

/-- The newer of two sequence numbers by R65: `a` is newer than `b` when a − b modulo 2^32 lies from 1 to 2^31 − 1. -/
def seqNewer (a b : Nat) : Bool :=
  let x := (a + 2 ^ 32 - b) % 2 ^ 32
  decide (0 < x) && decide (x < 2 ^ 31)

/-- The next position of a slot: after the last one that is not erased (R137). -/
def jnlNext (flash : SMap Byte) (slot : Nat) : Nat :=
  flash.foldl (fun p e =>
    if jnlAddr slot 0 ≤ e.1 ∧ e.1 < jnlAddr slot 512 then (e.1 - jnlAddr slot 0) / 128 + 1 else p) 0

/-- Load the newest valid record at boot (R137); with none valid each input runs its factory correction, and slot 0 is the active one (DESIGN
CHOICE, log entry 51). -/
def Dev.journalLoad (d : Dev) (flash : SMap Byte) : Dev :=
  let ps := ((List.range 2).flatMap (fun sl => (List.range 512).map (fun p => (sl, p)))).filter
    (fun p => flashBytes flash (jnlAddr p.1 p.2) 4 == [0x42, 0x49, 0x43, 0x4A])
  let rs := (ps.map (fun p => (p.1, flashBytes flash (jnlAddr p.1 p.2) 128))).filter (fun r => jnlValid r.2)
  let best := rs.foldl (fun b r =>
    match b with
    | none => some r
    | some q => if seqNewer (ofBe ((r.2.drop 4).take 4)) (ofBe ((q.2.drop 4).take 4)) then some r else some q) (none : Option (Nat × List Nat))
  match best with
  | none => ({ d with jnl := { d.jnl with slot := 0, pos := jnlNext flash 0 } }).jnlShow
  | some (slot, bs) =>
    let flags := ofBe ((bs.drop 0x14).take 2)
    let take (d : Dev) (x : Nat) (valid : Bool) (off : Nat) : Dev :=
      (d.updBic x (fun b => { b with
        corr := if valid then some (corrOf (bs.drop off)) else none, time := ofBe ((bs.drop 8).take 8) })).fput
        R.BICX_STAT_SRC x (b2n valid)
    (take (take { d with jnl := { d.jnl with slot := slot, pos := jnlNext flash slot, seq := ofBe ((bs.drop 4).take 4) } } 0
      (bitAt flags 0) 0x18) 1 (bitAt flags 1) 0x48).jnlShow

/-- Read-only view of the correction in force for the selected lane (BIC_CORR_OFS, GAIN, SKEW). -/
def Dev.corrView (d : Dev) : LaneCorr :=
  let x := d.fget R.BIC_CORR_SEL_INPUT
  laneOf x (d.bicOf x).corr (d.fget R.BIC_CORR_SEL_LANE)

end Sys2Proof.Machine
end

