-- ==== Sys2Proof/Machine/Lif.lean ====
section
/-!
DEFINITION. The local two-wire controller: scripts, host transfers, bus clears, arbitration (spec/17_two_wire.md, R539 to R549).
-/
namespace Sys2Proof.Machine

/-- Change the state of the local interface. -/
def Dev.updLif (d : Dev) (f : LifSt → LifSt) : Dev := { d with lif := f d.lif }

/-! ### Scripts -/

/-- The operations of a script body from its first byte on (R545); none where it is malformed. -/
def scriptOps : Nat → List Nat → Option (List LifOp)
  | 0, _ => none
  | fuel + 1, bs =>
    match bs with
    | 0 :: _ => some []
    | 1 :: a :: n :: rest =>
      if 1 ≤ n ∧ n ≤ 32 ∧ n ≤ rest.length then (scriptOps fuel (rest.drop n)).map (LifOp.write (a % 128) (rest.take n) :: ·) else none
    | 2 :: a :: n :: t :: rest =>
      if 1 ≤ n ∧ n ≤ 32 ∧ t + n ≤ 32 then (scriptOps fuel rest).map (LifOp.read (a % 128) n t :: ·) else none
    | 3 :: a :: w :: n :: t :: rest =>
      if 1 ≤ w ∧ w ≤ 8 ∧ 1 ≤ n ∧ n ≤ 32 ∧ t + n ≤ 32 ∧ w ≤ rest.length then
        (scriptOps fuel (rest.drop w)).map (LifOp.writeRead (a % 128) n t (rest.take w) :: ·)
      else none
    | 4 :: h :: l :: rest => if h * 256 + l = 0 then none else (scriptOps fuel rest).map (LifOp.wait (h * 256 + l) :: ·)
    | _ => none

/-- The scripts of a section (R545). -/
def scriptsOf (sec : List Nat) : List LifScript :=
  let m := sec.getD 0 0
  if 1 ≤ m ∧ m ≤ 16 then
    (List.range m).map (fun s =>
      let h := (sec.drop (2 + 4 * s)).take 4
      if h.length = 4 then ⟨scriptOps (sec.length + 1) (sec.drop (ofBe (h.take 2))), h.getD 2 0, h.getD 3 0⟩ else ⟨none, 2, 0⟩)
  else []

/-- The scripts of the running image are checked as its configuration is applied (R545). -/
def Dev.lifLoad (d : Dev) (sec : Option (List Nat)) : Dev :=
  let l := scriptsOf (sec.getD [])
  let d := (d.updLif (fun c => { c with scripts := l })).fput R.LIF_STAT_NSCR 0 l.length
  d.each (List.range l.length) (fun d s => if (l.getD s ⟨none, 2, 0⟩).ops.isNone then d.fput R.LIF_SCR_RESULT s 6 else d)

/-- Script `s`, when it may run. -/
def Dev.scriptAt (d : Dev) (s : Nat) : Option LifScript := (d.lif.scripts[s]?).filter (fun x => x.ops.isSome)

/-- The running script ends with a result (R547). -/
def Dev.scriptEnd (d : Dev) (result : Nat) : Dev :=
  match d.lif.run with
  | none => d
  | some r =>
    let d := ((d.fput R.LIF_SCR_RESULT r.s result).fput R.LIF_SCR_RUNS r.s ((d.fget R.LIF_SCR_RUNS r.s + 1) % 4096)).fputB R.LIF_STAT_RUN 0 false
    let d := (d.updLif (fun c => { c with run := none, queue := c.queue.filter (· != .step) })).event R.LIF_EVT_DONE
    if result = 0 then d else d.bumpEvt R.LIF_FAIL_COUNT R.LIF_EVT_FAIL

/-- The running script goes on to its next operation: a transfer joins the queue, a wait begins, or it ends (R539, R547). -/
def Dev.scriptNext (d : Dev) : Dev :=
  match d.lif.run with
  | none => d
  | some r =>
    match r.rest with
    | [] => d.scriptEnd 0
    | .wait _ :: _ => d.updLif (fun c => { c with run := some { r with wait := d.time.clk + 1 } })
    | _ => d.updLif (fun c => { c with queue := c.queue ++ [.step] })

/-- A script begins. -/
def Dev.scriptBegin (d : Dev) (s : Nat) : Dev :=
  let ops := ((d.scriptAt s).bind (·.ops)).getD []
  ((d.updLif (fun c => { c with run := some { s := s, rest := ops } })).fput R.LIF_STAT_RUNNING 0 s).fputB R.LIF_STAT_RUN 0 true

/-- A job ends with a failure (R547, R548); a script that waits meanwhile goes on. -/
def Dev.jobFail (d : Dev) (j : LifJob) (result : Nat) : Dev :=
  match j with
  | .script s =>
    let e := (d.scriptBegin s).scriptEnd result
    match d.lif.run with
    | none => e
    | some r => ((e.updLif (fun c => { c with run := some r })).fput R.LIF_STAT_RUNNING 0 r.s).fputB R.LIF_STAT_RUN 0 true
  | .step => d.scriptEnd result
  | .host _ _ _ => if (d.mbxWork 0x70).isSome then d.mbxDone 7 [result] else d
  | .clear => d

/-- While the bus is stuck every transfer of the queue ends at once with result 0x5 (R542). -/
def Dev.lifDrain (d : Dev) : Dev :=
  if d.fget R.LIF_STAT_STATE = 3 then
    let jobs := d.lif.queue.filter (· != .clear)
    (d.updLif (fun c => { c with queue := c.queue.filter (· == .clear) })).each jobs (fun d j => d.jobFail j 5)
  else d

/-- Queue script `s` (R546): not while it is queued or running, nor while the interface is off. -/
def Dev.scriptQueue (d : Dev) (s : Nat) : Dev :=
  if !d.fbit R.LIF_CFG_EN || (d.scriptAt s).isNone || d.lif.queue.contains (.script s) || (d.lif.run.map (·.s)) == some s then d
  else (d.updLif (fun c => { c with queue := c.queue ++ [.script s] })).lifDrain

/-- The first epoch has been applied (R546). -/
def Dev.lifStart (d : Dev) : Dev :=
  if d.lif.started then d
  else
    let n := d.lif.scripts.length
    let trig (s : Nat) : Nat := match d.scriptAt s with | some x => x.trigger | none => 2
    let d := d.updLif (fun c => { c with started := true })
    let d := d.each ((List.range n).filter (fun s => trig s == 0)) (fun d s => d.scriptQueue s)
    d.each ((List.range n).filter (fun s => trig s == 1)) (fun d s => d.updLif (fun c => { c with
      due := smSet (fun _ => 0) c.due s (d.time.clk + (match d.scriptAt s with | some x => x.period | none => 1) * Config.sysPerSecond) }))

/-- SCRIPT_RUN (R546). -/
def execScriptRun (i : Fin 16) (s : State) : Host.Outcome State Fault Refusal := nextDev s (fun d => d.scriptQueue i)

/-- SCRIPT_PERIODIC (R546). -/
def execScriptPeriodic (i : Fin 16) (s : State) : Host.Outcome State Fault Refusal :=
  nextDev s (fun d =>
    match d.scriptAt i with
    | none => d
    | some x =>
      let t := smGet (fun _ => 0) d.lif.due i
      if x.trigger = 1 && t != 0 && decide (t ≤ d.time.clk) then
        (d.updLif (fun c => { c with due := smSet (fun _ => 0) c.due i (t + x.period * Config.sysPerSecond) })).scriptQueue i
      else d)

/-- SCRIPT_WAIT_END (R547). -/
def execScriptWaitEnd (s : State) : Host.Outcome State Fault Refusal :=
  nextDev s (fun d =>
    match d.lif.run with
    | none => d
    | some r =>
      match r.rest with
      | .wait ms :: t =>
        if r.wait ≠ 0 && decide (msCycles ms ≤ d.time.clk + 1 - r.wait) then
          ((d.updLif (fun c => { c with run := some { r with rest := t, wait := 0 } })).scriptNext).lifDrain
        else d
      | _ => d)

/-! ### Transfers -/

/-- LOCAL_TRANSFER (R548): request 0x70 joins the queue, or is answered with status 0x02. -/
def execLocalTransfer (s : State) : Host.Outcome State Fault Refusal :=
  nextDev s (fun d =>
    match d.mbxWork 0x70 with
    | none => d
    | some r =>
      let n := r.offset % 256
      let addr := r.offset / 65536
      let isHost (j : LifJob) : Bool := match j with | .host _ _ _ => true | _ => false
      if 32 < n || 127 < addr || r.offset / 256 % 256 != 0 || decide (32 < r.data.length) then d.mbxDone 2 []
      else if d.lif.queue.any isHost || d.lif.act.any isHost then d
      else (d.updLif (fun c => { c with queue := c.queue ++ [.host addr n r.data] })).lifDrain)

/-- The next operation is a transfer. -/
def transferFirst : List LifOp → Bool
  | [] => false
  | .wait _ :: _ => false
  | _ :: _ => true

/-- A transfer starts, with the settings that are applied now (R539). -/
def Dev.transferStart (d : Dev) (j : LifJob) : Dev :=
  (d.updLif (fun c => { c with
    act := some j, fast := d.fbit R.LIF_CFG_FAST, tmo := d.fget R.LIF_TMO_TMO, retry := d.fget R.LIF_RETRY_RETRY })).fput R.LIF_STAT_STATE 0 1

/-- The bus free time of R540 in SYS cycles: 4.7 µs at 100 kHz, 1.3 µs at 400 kHz. -/
def freeCycles (fast : Bool) : Nat := if fast then 384 else 1387

/-- No controller holds the bus (R540): there is no START since the last STOP, or both lines have been high for LIF_TMO. -/
def Dev.lifUnheld (d : Dev) (stop : Bool) (high : Nat) : Bool := stop || decide (msCycles (d.fget R.LIF_TMO_TMO) ≤ high)

/-- The bus is free, and the bus free time has passed (R540). -/
def Dev.lifFree (d : Dev) (stop : Bool) (high : Nat) : Bool :=
  d.lifUnheld stop high && decide (freeCycles (d.fbit R.LIF_CFG_FAST) ≤ high)

/-- The job of the queue that is next: a script waits for the one that runs. -/
def Dev.lifNext (d : Dev) : Option LifJob := d.lif.queue.find? (fun j => match j with | .script _ => d.lif.run.isNone | _ => true)

/-- LOCAL_BUS_FREE (R539 to R541): both lines have been high for `high` SYS cycles, with no START since the last STOP where `stop`. Where the bus is free
by that, the next transfer of the queue starts; a bus clear, which begins with no START, needs only that no controller holds the bus, for `LSDA` may be
low (R541). A bus that is held is so by another controller while the PQ7360 does nothing there. -/
def execLocalBusFree (stop : Bool) (high : Nat) (s : State) : Host.Outcome State Fault Refusal :=
  nextDev s (fun d =>
    let d := d.fputB R.LIF_STAT_EXT_BUSY 0 (!d.lifUnheld stop high && d.fget R.LIF_STAT_STATE == 0)
    let free := d.lifFree stop high
    if d.fget R.LIF_STAT_STATE ≠ 0 || !d.lifUnheld stop high then d
    else
      match d.lif.act with
      | some _ => if free then d.fput R.LIF_STAT_STATE 0 1 else d
      | none =>
        match d.lifNext with
        | none => d
        | some .clear => (d.updLif (fun c => { c with queue := c.queue.erase .clear })).fput R.LIF_STAT_STATE 0 2
        | some j =>
          if d.lif.needClear then d.fput R.LIF_STAT_STATE 0 2
          else if !free then d
          else
            let d := d.updLif (fun c => { c with queue := c.queue.erase j, repeats := 0 })
            match j with
            | .script s =>
              let d := d.scriptBegin s
              if transferFirst ((d.lif.run.map (·.rest)).getD []) then d.transferStart .step else d.scriptNext
            | _ => d.transferStart j)

/-- Bytes read go to the result area from byte `t` on (R545). -/
def Dev.lifResult (d : Dev) (t : Nat) (bs : List Nat) : Dev :=
  d.each (bs.zipIdx t) (fun d b =>
    let w := d.fget R.LIF_RES_DATA (b.2 / 2)
    d.fput R.LIF_RES_DATA (b.2 / 2) (if b.2 % 2 = 0 then b.1 * 256 + w % 256 else w / 256 * 256 + b.1))

/-- The transfer on the bus ends: the bus is idle, and its job fails or goes on. -/
def Dev.transferEnd (d : Dev) (result : Nat) (data : List Nat) : Dev :=
  match d.lif.act with
  | none => d
  | some j =>
    let d := (d.updLif (fun c => { c with act := none, repeats := 0 })).fput R.LIF_STAT_STATE 0 0
    if result ≠ 0 then d.jobFail j result
    else
      let d := d.bump R.LIF_XFER_COUNT
      let take (n : Nat) : List Nat := data.take n ++ List.replicate (n - data.length) 0xFF
      match j with
      | .host _ n _ => if (d.mbxWork 0x70).isSome then d.mbxDone 0 (take n) else d
      | .step =>
        match d.lif.run with
        | none => d
        | some r =>
          let d := match r.rest with
            | .read _ n t :: _ => d.lifResult t (take n)
            | .writeRead _ n t _ :: _ => d.lifResult t (take n)
            | _ => d
          (d.updLif (fun c => { c with run := some { r with rest := r.rest.drop 1 } })).scriptNext
      | _ => d

/-- LOCAL_TRANSFER_DONE (R547): 0 complete with the bytes read, 1 address not acknowledged, 2 data byte not acknowledged. -/
def execLocalTransferDone (nack : Fin 3) (data : List Byte) (s : State) : Host.Outcome State Fault Refusal :=
  nextDev s (fun d =>
    if d.fget R.LIF_STAT_STATE ≠ 1 then d
    else (if (nack : Nat) = 0 then d else d.bump R.LIF_NACK_COUNT).transferEnd nack (data.map (·.toNat)))

/-- ARBITRATION_LOST (R543): the transfer is repeated once the bus is free, or ends with result 0x3. -/
def execArbitrationLost (s : State) : Host.Outcome State Fault Refusal :=
  nextDev s (fun d =>
    if d.fget R.LIF_STAT_STATE ≠ 1 then d
    else
      let d := (d.bump R.LIF_ARB_LOST_COUNT).fputB R.LIF_STAT_EXT_BUSY 0 true
      if d.lif.repeats < d.lif.retry then
        (d.updLif (fun c => { c with repeats := c.repeats + 1 })).fput R.LIF_STAT_STATE 0 0
      else (d.event R.LIF_EVT_ARB).transferEnd 3 [])

/-- LOCAL_CLOCK_TIMEOUT (R544): a target has held `LSCL` low for `low` SYS cycles; more than LIF_TMO end the transfer with result 0x4, and a bus clear
follows. -/
def execLocalClockTimeout (low : Nat) (s : State) : Host.Outcome State Fault Refusal :=
  nextDev s (fun d =>
    if d.fget R.LIF_STAT_STATE ≠ 1 || decide (low ≤ msCycles d.lif.tmo) then d
    else (((d.bump R.LIF_TIMEOUT_COUNT).transferEnd 4 []).updLif (fun c => { c with needClear := true })).fput R.LIF_STAT_STATE 0 2)

/-! ### Bus clear -/

/-- `LIF_CMD.BUS_CLEAR` (R541). -/
def Dev.lifClear (d : Dev) : Dev := d.updLif (fun c => { c with queue := c.queue ++ [.clear] })

/-- BUS_CLEAR (R541). -/
def execBusClear (s : State) : Host.Outcome State Fault Refusal := nextDev s Dev.lifClear

/-- BUS_CLEAR_DONE (R541, R542): `idle` is `LSDA` at the start of the clear, `samples` what it was in the high phase of each pulse so far, `low` the SYS
cycles for which `LSCL` was low at the start. The clear ends with a STOP once `LSDA` is high; the bus is stuck when it is still low after the ninth
pulse, or when `LSCL` stayed low for longer than LIF_TMO (a release in the cycle in which it expires has come in time, R7); till then the clear goes
on. -/
def execBusClearDone (idle : Bool) (samples : List Bool) (low : Nat) (s : State) : Host.Outcome State Fault Refusal :=
  nextDev s (fun d =>
    if d.fget R.LIF_STAT_STATE ≠ 2 then d
    else
      let held := decide (msCycles (d.fget R.LIF_TMO_TMO) < low)
      let freed := !held && (idle || (samples.take 9).any (fun b => b))
      if freed then ((d.bump R.LIF_CLEARS_COUNT).updLif (fun c => { c with needClear := false })).fput R.LIF_STAT_STATE 0 0
      else if held || 9 ≤ samples.length then
        ((((d.bump R.LIF_CLEARS_COUNT).updLif (fun c => { c with needClear := true, stuckClk := d.time.clk })).fput
          R.LIF_STAT_STATE 0 3).event R.LIF_EVT_STUCK).lifDrain
      else d)

/-- STUCK_RETRY (R542): the clear is repeated every 1 s. -/
def execStuckRetry (s : State) : Host.Outcome State Fault Refusal :=
  nextDev s (fun d =>
    if d.fget R.LIF_STAT_STATE = 3 && decide (Config.sysPerSecond ≤ d.since d.lif.stuckClk) then d.fput R.LIF_STAT_STATE 0 2 else d)

end Sys2Proof.Machine
end

