-- ==== Sys2Proof/Machine/Audio.lean ====
section
/-!
DEFINITION. Audio and signal samples: gains, ramps, crossfades, filters, and the phase of a complex sample
(spec/01_architecture.md, R20; spec/06_fm_am_reception.md, R171 to R186).
-/
namespace Sys2Proof.Machine

/-- A sample of 24-bit two's complement: beyond full scale it saturates (R186). -/
def sat24 (x : Int) : Int := clampInt (-8388608) 8388607 x

/-- A sample times a factor in 2^−40. -/
def scaled (g : Nat) (x : Int) : Int := divNearInt (x * g) (2 ^ 40)

/-- Both channels of a stereo sample. -/
def both (f : Int → Int) (p : Int × Int) : Int × Int := (f p.1, f p.2)

/-- Sample `k` of `n` on a straight line from `a` to `b`, which is reached with the last one. -/
def line (n k : Nat) (a b : Int) : Int := divNearInt (a * ((n - min n (k + 1) : Nat) : Int) + b * (min n (k + 1) : Nat)) (max n 1)

/-- Silence of one 1 ms block. -/
def silence : List (Int × Int) := List.replicate 48 (0, 0)

/-- The 48 samples of a block; what is not there is silence. -/
def block48 (pcm : List (Int × Int)) : List (Int × Int) := (pcm ++ silence).take 48

/-- What a reader is given of a block (R20): a missing block ramps from the last sample `last` to zero; the first block after a gap ramps in. -/
def delivered (last : Int × Int) (gap missing : Bool) (pcm : List (Int × Int)) : List (Int × Int) :=
  if missing then (List.range 48).map (fun k => both (fun x => line 48 k x 0) last)
  else if gap then (block48 pcm).zipIdx.map (fun p => both (fun x => line 48 p.2 0 x) p.1)
  else block48 pcm

/-- The last sample of a block. -/
def lastSample (pcm : List (Int × Int)) : Int × Int := pcm.getLastD (0, 0)

/-- The highest magnitude of a stereo block. -/
def peakOfBlock (pcm : List (Int × Int)) : Nat := pcm.foldl (fun m p => max m (max p.1.natAbs p.2.natAbs)) 0

/-- Two complex signals crossfaded linearly over `n` samples (R175, R177). -/
def fadeC (n : Nat) (old new : List (Int × Int)) : List (Int × Int) :=
  new.zipIdx.map (fun p => let o := old.getD p.2 (0, 0); (line n p.2 o.1 p.1.1, line n p.2 o.2 p.1.2))

/-- Samples through the filter with memory `key` (log entry 52). -/
def Dev.filter (d : Dev) (key stage param : Nat) (x : List Int) : List Int × Dev :=
  let r := Config.filter stage param (smGet (fun _ => []) d.filt key) x
  (r.1, { d with filt := smSet (fun _ => []) d.filt key r.2 })

/-- Pairs of samples through two like filters, one pair out for each of `n`. -/
def Dev.filter2 (d : Dev) (key stage param n : Nat) (z : List (Int × Int)) : List (Int × Int) × Dev :=
  let (a, d) := d.filter (2 * key) stage param (z.map (·.1))
  let (b, d) := d.filter (2 * key + 1) stage param (z.map (·.2))
  ((List.range n).map (fun k => (a.getD k 0, b.getD k 0)), d)

/-- atan(2^−i) in 2^−24 turn. -/
def atanTable : List Int :=
  [2097152, 1238021, 654136, 332050, 166669, 83416, 41718, 20860, 10430, 5215, 2608, 1304, 652, 326, 163, 81, 41, 20, 10, 5, 3, 1, 1]

/-- The phase of a complex sample in 2^−24 turn, by successive rotations (log entry 52). -/
def phaseOf (z : Int × Int) : Int :=
  let s : Int := if z.1 < 0 then -1 else 1
  let r := atanTable.zipIdx.foldl (fun (a : Int × Int × Int) t =>
    let q : Int := (2 ^ t.2 : Nat)
    if a.2.1 < 0 then (a.1 - a.2.1 / q, a.2.1 + a.1 / q, a.2.2 - t.1) else (a.1 + a.2.1 / q, a.2.1 - a.1 / q, a.2.2 + t.1))
    (s * z.1 * 2 ^ 24, s * z.2 * 2 ^ 24, 0)
  if z.1 < 0 then r.2.2 + 2 ^ 23 else r.2.2

/-- An angle in 2^−24 turn, from −1/2 to below 1/2 turn. -/
def wrap24 (x : Int) : Int := (x + 2 ^ 23) % 2 ^ 24 - 2 ^ 23

/-- The magnitude of a complex sample. -/
def magOf (z : Int × Int) : Nat := Nat.sqrt (z.1.natAbs ^ 2 + z.2.natAbs ^ 2)

/-- A first-order section: its memory, in 2^−16 of a sample, goes `a` × 2^−32 of the way to each sample, and is what it gives (log entry 52). -/
def onePole (a : Nat) : Int → List Int → List Int × Int
  | y, [] => ([], y)
  | y, x :: l =>
    let y' := y + divNearInt ((x * 2 ^ 16 - y) * a) (2 ^ 32)
    let r := onePole a y' l
    (divNearInt y' (2 ^ 16) :: r.1, r.2)

/-- Walk a ramp of `n` samples one step per sample, up or down, over a block: the position at each of its `k` samples. -/
def walk (n pos k : Nat) (up : Bool) : List Nat := (List.range k).map (fun i => if up then min n (pos + i + 1) else pos - (i + 1))

/-- Cosine and sine of an angle in 2^−24 turn, from 0 to a quarter turn, in 2^−40, by successive rotations (log entry 52). -/
def cosSin (a : Int) : Int × Int :=
  let r := atanTable.zipIdx.foldl (fun (s : Int × Int × Int) t =>
    let q : Int := (2 ^ t.2 : Nat)
    if s.2.2 < 0 then (s.1 + s.2.1 / q, s.2.1 - s.1 / q, s.2.2 + t.1) else (s.1 - s.2.1 / q, s.2.1 + s.1 / q, s.2.2 - t.1)) (667681663043, 0, a)
  (r.1, r.2.1)

/-- A signed product in 2^−40, rounded. -/
def scaledInt (g x : Int) : Int := divNearInt (x * g) (2 ^ 40)

/-- Two stereo signals added. -/
def addPcm (a b : List (Int × Int)) : List (Int × Int) := List.zipWith (fun x y => (x.1 + y.1, x.2 + y.2)) a b

/-- The two gains in 2^−40, of the source that goes and of the one that comes, at `pos` of `len` samples of a crossfade: linear when aligned, else of
equal power (R310, R311). -/
def fadeGains (aligned : Bool) (pos len : Nat) : Int × Int :=
  let p := min pos len
  if aligned then ((2 ^ 40 * (len - p) / max 1 len : Nat), (2 ^ 40 * p / max 1 len : Nat)) else cosSin (2 ^ 22 * p / max 1 len : Nat)

/-- What a normalised correlation is formed from: the covariance and both variances, each times the square of the count of pairs. -/
structure Corr where
  num : Int
  va : Nat
  vb : Nat
deriving DecidableEq, Repr

/-- The correlation of two signals over the length they have in common, means removed. -/
def correlate (a b : List Int) : Corr :=
  let l := a.zip b
  let n : Int := l.length
  let s := l.foldl (fun (s : Int × Int × Int × Int × Int) p =>
    (s.1 + p.1, s.2.1 + p.2, s.2.2.1 + p.1 * p.2, s.2.2.2.1 + p.1 * p.1, s.2.2.2.2 + p.2 * p.2)) (0, 0, 0, 0, 0)
  ⟨n * s.2.2.1 - s.1 * s.2.1, (n * s.2.2.2.1 - s.1 * s.1).toNat, (n * s.2.2.2.2 - s.2.1 * s.2.1).toNat⟩

/-- The first correlation is the higher one; one without a variance is the lowest. -/
def Corr.above (x y : Corr) : Bool :=
  let sq (c : Corr) : Int := c.num * c.num.natAbs
  if x.va * x.vb = 0 then false
  else if y.va * y.vb = 0 then true
  else decide (sq y * (x.va * x.vb : Nat) < sq x * (y.va * y.vb : Nat))

/-- The correlation is at least `k` / `m`. -/
def Corr.atLeast (x : Corr) (k m : Nat) : Bool :=
  decide (0 < x.va * x.vb) && decide (0 ≤ x.num) && decide (k ^ 2 * (x.va * x.vb) ≤ m ^ 2 * x.num.natAbs ^ 2)

/-- round(1000 × max(0, ρ)) (R316); 0 where ρ has no value (log entry 54). -/
def Corr.score (x : Corr) : Nat :=
  let w := x.va * x.vb
  if w = 0 || decide (x.num ≤ 0) then 0
  else
    let r := Nat.sqrt (4000000 * x.num.natAbs ^ 2 / w)
    min 1000 (if r % 2 = 1 && decide (r ^ 2 * w = 4000000 * x.num.natAbs ^ 2) then r / 2 else (r + 1) / 2)

/-- The lag of a list with the highest correlation, the first of equals. -/
def bestLag (f : Int → Corr) (lags : List Int) : Option (Int × Corr) :=
  lags.foldl (fun best l =>
    let c := f l
    match best with
    | none => if c.va * c.vb = 0 then none else some (l, c)
    | some b => if c.above b.2 then some (l, c) else best) none

/-- The lists, newest first, of two signals with the second `o` entries further back. -/
def shifted (o : Int) (a b : List Int) : List Int × List Int := if 0 ≤ o then (a, b.drop o.toNat) else (a.drop (-o).toNat, b)

/-- The integers from `lo` to `hi`. -/
def intRange (lo hi : Int) : List Int := (List.range (hi + 1 - lo).toNat).map (fun k => lo + (k : Nat))

/-- The mean of |(L + R) / 2| over `n` frames of which the sum of |L + R| is `sum`, in 0.01 dBFS with the floor of R315. -/
def envDb (sum n : Nat) : Int := if sum = 0 then -9000 else clampInt (-9000) 0 (levelHundredths (sum ^ 2) ((2 ^ 24 * max 1 n) ^ 2))

/-- The sum of |L + R| of a block. -/
def envSum (pcm : List (Int × Int)) : Nat := pcm.foldl (fun s z => s + (z.1 + z.2).natAbs) 0

end Sys2Proof.Machine
end

