-- ==== Sys2Proof/Machine/Chn.lean ====
section
/-!
DEFINITION. Reception contexts: life cycle, managed contexts, thermal shedding, and the spectrum scanner
(spec/05_reception_contexts.md, R140 to R170; R45 to R48).
-/
namespace Sys2Proof.Machine

/-! ### Entries -/

/-- Base index, stride and size of the entries of a pool: 0 FMC, 1 AMC, 2 DBE, 3 CHN_IQ, 4 DSC (R165). -/
def poolBase : Nat → Nat × Nat × Nat
  | 0 => (0x1000, 8, 256)
  | 1 => (0x1800, 4, 160)
  | 2 => (0x1C00, 8, 41)
  | 3 => (0x0440, 4, 8)
  | _ => (0x1E00, 4, 48)

/-- The field at bits [hi:lo] of register `off` of the entries of `pool`. -/
def ctxFld (pool off hi lo : Nat) (staged : Bool) : Fld := ⟨(poolBase pool).1 + off, (poolBase pool).2.1, hi, lo, staged⟩

/-- Number of entries of a pool. -/
def poolSize (pool : Nat) : Nat := (poolBase pool).2.2

/-- The key of entry `n` of `pool`. -/
def ctxKey (pool n : Nat) : Nat := pool * 256 + n

/-- The run-time state of an entry. -/
def Dev.ctxOf (d : Dev) (pool n : Nat) : CtxSt := smGet (fun _ => {}) d.ctx (ctxKey pool n)

/-- Change the run-time state of an entry. -/
def Dev.updCtx (d : Dev) (pool n : Nat) (f : CtxSt → CtxSt) : Dev :=
  { d with ctx := smSet (fun _ => {}) d.ctx (ctxKey pool n) (f (d.ctxOf pool n)) }

/-- Applied EN: the entry is a pinned context (R165). -/
def Dev.ctxEn (d : Dev) (pool n : Nat) : Bool := d.fbit (ctxFld pool 0 15 15 true) n

/-- STATE: 0 OFF, 1 WAIT, 2 START, 3 RUN, 4 SHED. -/
def Dev.ctxState (d : Dev) (pool n : Nat) : Nat := d.fget (ctxFld pool 2 15 13 false) n

/-- Set STATE. -/
def Dev.ctxTo (d : Dev) (pool n st : Nat) : Dev := d.fput (ctxFld pool 2 15 13 false) n st

/-- The entry holds a managed context. -/
def Dev.ctxManaged (d : Dev) (pool n : Nat) : Bool := (d.ctxOf pool n).managed

/-- Centre of DAB block `n` in kHz (the table of the DBE index). -/
def dbeCentre (n : Nat) : Nat :=
  [174928, 176640, 178352, 180064, 181936, 183648, 185360, 187072, 188928, 190640, 192352, 194064, 195936, 197648, 199360, 201072,
   202928, 204640, 206352, 208064, 209936, 210096, 211648, 213360, 215072, 216928, 217088, 218640, 220352, 222064, 223936, 224096,
   225648, 227360, 229072, 230784, 232496, 234208, 235776, 237488, 239200].getD n 0

/-- The pinned centre of an entry in kHz; a DBE entry's block. -/
def Dev.pinFreq (d : Dev) (pool n : Nat) : Nat :=
  match pool with
  | 0 => 64000 + d.fget R.FMC_FREQ_FREQ n
  | 1 => d.fget R.AMC_FREQ_FREQ n
  | 3 => d.fget R.CHN_IQ_CFG_FREQ_HI n * 65536 + d.fget R.CHN_IQ_FREQ_FREQ n
  | _ => n

/-- The pinned input of an entry: 0 A, 1 B, 2 combined. -/
def Dev.pinSrc (d : Dev) (pool n : Nat) : Nat := d.fget (ctxFld pool 0 11 10 true) n

/-- The class of a context (R151, R165). -/
def Dev.ctxPrio (d : Dev) (pool n : Nat) : Nat :=
  if d.ctxManaged pool n then (d.ctxOf pool n).prio else d.fget (ctxFld pool 0 13 12 true) n

/-! ### Inputs and segments -/

/-- The segment that serves a context: 0 LF/HF, 1 VHF I/II, 2 Band III (R140). -/
def segOf (pool freq : Nat) : Nat :=
  match pool with
  | 0 => 1
  | 1 => 0
  | 3 => if freq ≤ 30000 then 0 else if freq ≤ 108000 then 1 else 2
  | _ => 2

/-- Input `x` samples and its segment `seg` is on (R141). -/
def Dev.serves (d : Dev) (seg x : Nat) : Bool :=
  d.fbit R.AFE_STAT_SAMPLING x &&
    (match seg, x with
     | 0, 0 => d.fbit R.CHN_SEG_A_LF
     | 1, 0 => d.fbit R.CHN_SEG_A_VHF
     | 2, 0 => d.fbit R.CHN_SEG_A_B3
     | 1, 1 => d.fbit R.CHN_SEG_B_VHF
     | 2, 1 => d.fbit R.CHN_SEG_B_B3
     | _, _ => false)

/-- Some input serves a context with that centre and input setting (R146). -/
def Dev.served (d : Dev) (pool freq src : Nat) : Bool :=
  let seg := segOf pool freq
  if src = 2 then d.serves seg 0 || d.serves seg 1 else d.serves seg src

/-- A combined context runs on one input (R146). -/
def Dev.oneInput (d : Dev) (freq src : Nat) : Bool :=
  src == 2 && (d.serves (segOf 0 freq) 0 != d.serves (segOf 0 freq) 1)

/-- The inputs that serve a context with that centre and input setting (R146): bit 0 A, bit 1 B. -/
def Dev.servedBy (d : Dev) (pool freq src : Nat) : Nat :=
  let seg := segOf pool freq
  let on (x : Nat) : Nat := b2n ((src == 2 || src == x) && d.serves seg x)
  on 0 + 2 * on 1

/-- The block of inputs `m` (bit 0 A, bit 1 B) holds a lane group flagged by R115. -/
def Dev.blockOvl (d : Dev) (m : Nat) : Bool := (bitAt m 0 && d.inputOvl 0) || (bitAt m 1 && d.inputOvl 1)

/-! ### Thermal shedding -/

/-- The hottest sensor is at or above the shedding threshold, or all sensors have failed (R156, R560); no decision without a
valid sensor (R638). -/
def Dev.hotShed (d : Dev) : Bool :=
  d.fbit R.TMP_STAT_NONE ||
    (d.fget R.TMP_MAX_TEMP != 0x8000 && decide ((10 * d.fget R.TMP_CFG_SHED : Nat) ≤ d.fgetI R.TMP_MAX_TEMP))

/-- The hottest sensor is below the shedding threshold less the hysteresis (R157). -/
def Dev.coolResume (d : Dev) : Bool :=
  !d.fbit R.TMP_STAT_NONE && d.fget R.TMP_MAX_TEMP != 0x8000 &&
    decide (d.fgetI R.TMP_MAX_TEMP < (10 * d.fget R.TMP_CFG_SHED : Int) - 10 * d.fget R.CHN_SHED_HYST)

/-- The place of a context in the shedding order of R155; a lower number is shed first. -/
def Dev.shedKey (d : Dev) (pool n : Nat) : Nat :=
  let rank := match pool with | 3 => 0 | 1 => 1 | 0 => 2 | _ => 3
  b2n (!d.ctxManaged pool n) * 2 ^ 16 + d.ctxPrio pool n * 2 ^ 12 + rank * 2 ^ 10 + (1023 - n)

/-- The contexts of the four pools that satisfy `p`. -/
def ctxAll (p : Nat → Nat → Bool) : List (Nat × Nat) :=
  [0, 1, 2, 3].flatMap (fun pool => ((List.range (poolSize pool)).filter (p pool)).map (fun n => (pool, n)))

/-- Some context is in SHED or is shed at the next boundary: managed requests are refused (R48, R150). -/
def Dev.anyShed (d : Dev) : Bool := !(ctxAll (fun pool n => d.ctxState pool n == 4 || (d.ctxOf pool n).shed)).isEmpty

/-- The context is shed, or will be at the next boundary. -/
def Dev.ctxShed (d : Dev) (pool n : Nat) : Bool :=
  (d.ctxState pool n == 4 && !(d.ctxOf pool n).resume) || (d.ctxOf pool n).shed

/-- The contexts that are shed or about to be. -/
def Dev.shedSet (d : Dev) : List (Nat × Nat) := ctxAll d.ctxShed

/-- The element of a list with the least key. -/
def leastBy {α : Type} (key : α → Nat) : List α → Option α
  | [] => none
  | a :: t =>
    match leastBy key t with
    | none => some a
    | some b => if key b < key a then some b else some a

/-- The class 0 SHED packet of a shedding step (1) or a resumption (0), and the Moult log count (R47). -/
def Dev.shedPacket (d : Dev) (pool n kind : Nat) : Dev :=
  (d.alertPacket ([3, 0, pool] ++ beWord n ++ [kind] ++ beWord (d.fget R.TMP_MAX_TEMP))).lifeBy 0x88 4 1

/-- Count and report a shedding step (R47, R158). -/
def Dev.shedCount (d : Dev) (pool n : Nat) : Dev :=
  (d.bumpEvt R.CHN_SHED_STEPS_COUNT R.CHN_EVT_SHED).shedPacket pool n 1

/-! ### Managed contexts -/

/-- The managed contexts of a pool. -/
def Dev.managedCount (d : Dev) (pool : Nat) : Nat := ((List.range (poolSize pool)).filter (d.ctxManaged pool)).length

/-- The largest number of managed contexts of a pool (R150). -/
def Dev.managedLimit (d : Dev) : Nat → Nat
  | 0 => d.fget R.CHN_MGD_FM_LIM
  | 1 => d.fget R.CHN_MGD_AD_AM
  | 2 => d.fget R.CHN_MGD_AD_DBE
  | _ => d.fget R.DAB_MGD_LIM

/-- The class of programme `p`. -/
def Dev.progPrio (d : Dev) (p : Nat) : Nat := d.fget R.PGT_CTL_PRIO p

/-- Programme `p` holds an entry; the class of a managed context is the highest of its programmes (R151). -/
def Dev.hold (d : Dev) (pool n p : Nat) : Dev :=
  d.updCtx pool n (fun c => { c with
    holders := if c.holders.contains p then c.holders else c.holders ++ [p], prio := max c.prio (d.progPrio p), release := false, freeClk := 0 })

/-- Programme `p` releases an entry; the class is computed again at the next block (R151), and with the last release LINGER begins (R152). -/
def Dev.unhold (d : Dev) (pool n p : Nat) : Dev :=
  d.updCtx pool n (fun c => { c with
    holders := c.holders.filter (· != p), freeClk := if c.holders == [p] then d.time.clk + 1 else c.freeClk })

/-- Pool and frequency, block or subchannel of a request. -/
def targetKey : MgdTarget → Nat × Nat
  | .fm f => (0, f)
  | .am f => (1, f)
  | .dbe b => (2, b)
  | .dsc b sc => (4, b * 64 + sc)

/-- A request of the programmes `ps` is refused (R48, R150), which they note (R300). -/
def Dev.mgdRefuse (d : Dev) (key : Nat × Nat) (ps : List Nat) : Dev :=
  (d.each ps (fun d p =>
    let g := smGet (fun _ => {}) d.prg p
    { d with prg := smSet (fun _ => {}) d.prg p { g with refused := (key, d.time.clk) :: g.refused.filter (fun r => r.1 != key) } })).bumpEvt
    R.CHN_MGD_REFUSED_COUNT R.CHN_EVT_MGD_REFUSED

/-- A request of programme `p` is granted or served: the note of an earlier refusal goes. -/
def Dev.mgdServed (d : Dev) (key : Nat × Nat) (p : Nat) : Dev :=
  let g := smGet (fun _ => ({} : PrgSt)) d.prg p
  if g.refused.any (fun r => r.1 == key) then
    { d with prg := smSet (fun _ => {}) d.prg p { g with refused := g.refused.filter (fun r => r.1 != key) } }
  else d

/-- The entry that a managed request of `pool` takes: the highest-numbered free entry, or the entry of the block (R148). -/
def Dev.mgdFree (d : Dev) (pool : Nat) (block : Option Nat) : Option Nat :=
  let free (n : Nat) : Bool := d.ctxState pool n == 0 && !d.ctxEn pool n && !d.ctxManaged pool n
  match block with
  | some b => if free b then some b else none
  | none => ((List.range (poolSize pool)).reverse.filter free).head?

/-- The entry of `pool` that already receives `freq` (R149): of several the lowest (DESIGN CHOICE, log entry 51). -/
def Dev.receiving (d : Dev) (pool freq : Nat) : Option Nat :=
  ((List.range (poolSize pool)).filter (fun n => d.ctxState pool n != 0 && (d.ctxOf pool n).freq == freq)).head?

/-- Place a managed context (R148, R150), or refuse it. A placed context enters the life cycle at the next boundary, and counts as granted when
it starts there. -/
def Dev.mgdPlace (d : Dev) (pool freq src p : Nat) (block : Option Nat) : Dev :=
  if d.anyShed || decide (d.managedLimit pool ≤ d.managedCount pool) then d.mgdRefuse (pool, freq) [p]
  else
    match d.mgdFree pool block with
    | none => d.mgdRefuse (pool, freq) [p]
    | some n =>
      ((d.mgdServed (pool, freq) p).updCtx pool n (fun c => { c with
        managed := true, granted := false, freeClk := 0, freq := freq, src := src, holders := [p], prio := d.progPrio p, release := false,
        releaseCmd := false })).fputB (ctxFld pool 2 12 12 false) n true

/-- A managed context starts: the request has been granted (R148). -/
def Dev.mgdGranted (d : Dev) (pool n : Nat) : Dev :=
  if d.ctxManaged pool n && !(d.ctxOf pool n).granted then
    (d.updCtx pool n (fun c => { c with granted := true })).bumpEvt R.CHN_MGD_GRANT_COUNT R.CHN_EVT_MGD_GRANT
  else d

/-- An existing DSC entry that decodes the subchannel, in FILL or RUN or waiting for it (R263). -/
def Dev.dscNaming (d : Dev) (block subch : Nat) : Option Nat :=
  ((List.range 48).filter (fun n => d.ctxState 4 n != 0 &&
    (if d.ctxManaged 4 n then (d.ctxOf 4 n).freq == block * 64 + subch
     else d.fget R.DSC_SEL_DBE n == block && d.fget R.DSC_SEL_SUBCH n == subch))).head?

/-- A managed request of programme `p` (R148 to R150). -/
def Dev.mgdRequest (d : Dev) (p : Nat) (t : MgdTarget) : Dev :=
  match t with
  | .fm f =>
    (match d.receiving 0 f with
     | some n => (d.mgdServed (targetKey t) p).hold 0 n p
     | none => d.mgdPlace 0 f 2 p none)
  | .am f =>
    (match d.receiving 1 f with
     | some n => (d.mgdServed (targetKey t) p).hold 1 n p
     | none => d.mgdPlace 1 f 0 p none)
  | .dbe b =>
    (match d.receiving 2 b with
     | some n => (d.mgdServed (targetKey t) p).hold 2 n p
     | none => d.mgdPlace 2 b (if d.serves 2 0 then 0 else 1) p (some b))
  | .dsc b sc =>
    (match d.dscNaming b sc with
     | some n => (d.mgdServed (targetKey t) p).hold 4 n p
     | none => d.mgdPlace 4 (b * 64 + sc) 0 p none)

/-- MANAGED_REQUEST (R148 to R150, R298): the request counts among those sent to the pools. -/
def execManagedRequest (prog : Fin 128) (target : MgdTarget) (s : State) : Host.Outcome State Fault Refusal :=
  nextDev s (fun d => (d.bump R.PRG_REQUESTS_COUNT).mgdRequest prog target)

/-- MANAGED_LINGER_EXPIRY (R152): a managed context that no programme has held for LINGER seconds is released at the next boundary. -/
def execManagedLingerExpiry (pool : Fin 5) (n : Fin 256) (s : State) : Host.Outcome State Fault Refusal :=
  nextDev s (fun d =>
    let c := d.ctxOf pool n
    if c.managed && c.holders.isEmpty && c.freeClk != 0 && d.reached (c.freeClk - 1 + msCycles (1000 * d.fget R.CHN_MGD_TIME_LINGER)) then
      d.updCtx pool n (fun c => { c with release := true })
    else d)

/-- `CHN_CMD.RELEASE_MGD` (R152): every managed context is released at the next boundary. -/
def Dev.releaseMgd (d : Dev) : Dev :=
  { d with ctx := d.ctx.map (fun e => (e.1, if e.2.managed then { e.2 with releaseCmd := true } else e.2)) }

/-- RELEASE_MGD (R152). -/
def execReleaseMgd (s : State) : Host.Outcome State Fault Refusal := nextDev s Dev.releaseMgd

/-- The managed part of an entry ends; its programmes find at their next block that they no longer hold it (R152, R153). -/
def Dev.mgdEnd (d : Dev) (pool n : Nat) : Dev :=
  (d.updCtx pool n (fun c => { c with
    managed := false, granted := false, freeClk := 0, holders := [], release := false, releaseCmd := false, prio := 0 })).fputB
    (ctxFld pool 2 12 12 false) n false

/-! ### Shedding and resuming -/

/-- A shedding step meets the requests placed in the same block: they are refused (R48). -/
def Dev.mgdRevoke (d : Dev) : Dev :=
  d.each ([0, 1, 2, 4].flatMap (fun pool => (List.range (poolSize pool)).map (fun n => (pool, n)))) (fun d p =>
    if d.ctxManaged p.1 p.2 && !(d.ctxOf p.1 p.2).granted then (d.mgdEnd p.1 p.2).mgdRefuse (p.1, (d.ctxOf p.1 p.2).freq) (d.ctxOf p.1 p.2).holders else d)

/-- The interval between shedding or resumption steps in cycles. -/
def Dev.shedGap (d : Dev) : Nat := msCycles (10 * d.fget R.CHN_SHED_TIME_STEP)

/-- SHED_STEP (R45, R48, R155, R156): the threshold is reached, and it is the first step or STEP has passed since the last one; the first context
in the order is shed at its next block boundary. With none that may be shed Anole checks again after STEP. -/
def execShedStep (s : State) : Host.Outcome State Fault Refusal :=
  nextDev s (fun d =>
    if d.hotShed && (d.shed.stepClk == 0 || d.reached (d.shed.stepClk - 1 + d.shedGap)) then
      let d := { d with shed := { d.shed with stepClk := d.time.clk + 1 } }
      let may (pool n : Nat) : Bool :=
        d.ctxState pool n != 0 && !d.ctxShed pool n && d.ctxState pool n != 4 &&
          (d.ctxManaged pool n || decide (d.ctxPrio pool n < d.fget R.CHN_SHED_KEEP))
      match leastBy (fun p => d.shedKey p.1 p.2) (ctxAll may) with
      | none => d
      | some (pool, n) => ((d.updCtx pool n (fun c => { c with shed := true, resume := false })).shedCount pool n).mgdRevoke
    else d)

/-- RESUME_STEP (R157): the hottest sensor has stayed below the resumption level for RESUME, and STEP has passed since the last resumption; the
shed context that comes last in the order is resumed. -/
def execResumeStep (s : State) : Host.Outcome State Fault Refusal :=
  nextDev s (fun d =>
    let h := d.shed
    if d.coolResume && h.coolClk != 0 && d.reached (h.coolClk - 1 + msCycles (1000 * d.fget R.CHN_SHED_TIME_RESUME)) &&
        (h.resumeClk == 0 || d.reached (h.resumeClk - 1 + d.shedGap)) then
      match leastBy (fun p => 2 ^ 20 - d.shedKey p.1 p.2) (ctxAll (fun pool n => d.ctxState pool n == 4 && !(d.ctxOf pool n).resume)) with
      | none => d
      | some (pool, n) =>
        (({ d with shed := { h with resumeClk := d.time.clk + 1 } }.updCtx pool n (fun c => { c with resume := true })).bumpEvt
          R.CHN_RESUMES_COUNT R.CHN_EVT_RESUME).shedPacket pool n 0
    else d)

/-- A reading or a setting has changed: the times of R156 and R157 start or stop with their levels. -/
def Dev.shedWatch (d : Dev) : Dev :=
  { d with shed := {
      stepClk := if d.hotShed then d.shed.stepClk else 0
      coolClk := if d.coolResume then (if d.shed.coolClk = 0 then d.time.clk + 1 else d.shed.coolClk) else 0
      resumeClk := if d.coolResume then d.shed.resumeClk else 0 } }

/-! ### Life cycle -/

/-- Enter START (R161, R162): from OFF nothing is delivered in place of the START block, else one block marked missing. -/
def Dev.ctxStart (d : Dev) (pool n : Nat) (miss : Bool) : Dev :=
  (d.ctxTo pool n 2).updCtx pool n (fun c => { c with missNext := miss })

/-- To START when an input serves the context, else to WAIT. -/
def Dev.ctxEnter (d : Dev) (pool n : Nat) (miss : Bool) : Dev :=
  let c := d.ctxOf pool n
  if d.served pool c.freq c.src then d.ctxStart pool n miss else d.ctxTo pool n 1

/-- A pinned context that is enabled now enters SHED at once (R158): it comes before the latest of the other contexts that are shed. -/
def Dev.ctxShedAtOnce (d : Dev) (pool n : Nat) : Bool :=
  !d.ctxManaged pool n && d.shedSet.any (fun p => p != (pool, n) && decide (d.shedKey pool n < d.shedKey p.1 p.2))

/-- A context that is enabled or granted: R158 may take it to SHED at once; else it starts, with a missing block where it was not in OFF (R162). -/
def Dev.ctxEnable (d : Dev) (pool n : Nat) (miss : Bool) : Dev :=
  if d.ctxShedAtOnce pool n then (d.ctxTo pool n 4).shedCount pool n else d.ctxEnter pool n miss

/-- Take the settings of the pinned configuration, or keep those of the managed context; the class of a managed context is
computed again (R151, R160), and one that no programme holds keeps its class (DESIGN CHOICE, log entry 51). -/
def Dev.ctxSettings (d : Dev) (pool n : Nat) : Dev :=
  if d.ctxManaged pool n then
    d.updCtx pool n (fun c => { c with prio := if c.holders.isEmpty then c.prio else c.holders.foldl (fun m p => max m (d.progPrio p)) 0 })
  else d.updCtx pool n (fun c => { c with freq := d.pinFreq pool n, src := d.pinSrc pool n })

/-- The transitions of R161 for one context at a block boundary. A START block that owes a missing block delivers it as it ends (R162); the
first block after an SPL re-lock is missing (R36). -/
def Dev.ctxStep (d : Dev) (pool n : Nat) : Dev :=
  let st := d.ctxState pool n
  let c := d.ctxOf pool n
  let d := d.updCtx pool n (fun c => { c with
    data := st == 3 && !d.clk.gap && !c.missNext, missing := c.missNext || (st == 3 && d.clk.gap), missNext := false,
    shed := false, resume := false, restart := false, inputsWas := c.inputs })
  if c.managed && (c.release || c.releaseCmd) then
    (((d.mgdEnd pool n).ctxTo pool n 0).event R.CHN_EVT_MGD_RELEASE)
  else if !c.managed && !d.ctxEn pool n then d.ctxTo pool n 0
  else
    let taken := c.managed && d.ctxEn pool n
    let d := if taken then (d.mgdEnd pool n).bumpEvt R.CHN_MGD_PREEMPT_COUNT R.CHN_EVT_PREEMPT else d.mgdGranted pool n
    let d := d.ctxSettings pool n
    let e := d.ctxOf pool n
    let moved := taken || c.restart || e.freq != c.freq || (pool != 0 && e.src != c.src)
    let ok := d.served pool e.freq e.src
    let d := match st with
      | 0 => d.ctxEnable pool n false
      | 4 => if taken then d.ctxEnable pool n true else if c.resume then d.ctxEnter pool n true else d
      | 1 => if c.shed then d.ctxTo pool n 4 else if ok then d.ctxStart pool n true else d
      | 2 =>
        if c.shed then d.ctxTo pool n 4
        else if !ok then d.ctxTo pool n 1
        else if moved then d
        else d.ctxTo pool n 3
      | _ =>
        if c.shed then d.ctxTo pool n 4
        else if !ok then (d.ctxTo pool n 1).updCtx pool n (fun c => { c with data := false, missing := true })
        else if moved then d.ctxStart pool n true
        else d
    d.updCtx pool n (fun c => { c with inputs := d.servedBy pool c.freq c.src })

/-- The status bits of R146 and R164 after a boundary. -/
def Dev.ctxMarks (d : Dev) (pool n : Nat) : Dev :=
  let c := d.ctxOf pool n
  let age := if d.blockOvl c.inputsWas then 0 else min (c.ovlAge + 1) 100
  let off := d.ctxState pool n == 0
  let d := d.updCtx pool n (fun c => { c with ovlAge := if off then 100 else age })
  ((d.fputB (ctxFld pool 2 11 11 false) n (!off && decide (age < 100))).fputB (ctxFld pool 2 10 10 false) n
    (!off && d.blockBlank)).fputB (ctxFld pool 2 9 9 false) n (!off && d.ctxState pool n == 3 && d.oneInput c.freq c.src)

/-- The contexts that a boundary concerns: enabled, managed, or not in OFF. -/
def Dev.ctxLive (d : Dev) : List (Nat × Nat) :=
  ctxAll (fun pool n => d.ctxEn pool n || d.ctxManaged pool n || d.ctxState pool n != 0)

/-- The six counts of CHN_N_FM to CHN_N_SHED. -/
def Dev.ctxCounts (d : Dev) : Dev :=
  let count (p : Nat → Nat → Bool) (pools : List Nat) : Nat :=
    (pools.map (fun pool => ((List.range (poolSize pool)).filter (p pool)).length)).foldl (· + ·) 0
  let up (pool n : Nat) : Bool := d.ctxState pool n == 2 || d.ctxState pool n == 3
  ((((((d.fput R.CHN_N_FM_COUNT 0 (count up [0])).fput R.CHN_N_AM_COUNT 0 (count up [1])).fput R.CHN_N_DBE_COUNT 0 (count up [2])).fput
    R.CHN_N_IQ_COUNT 0 (count up [3])).fput R.CHN_N_MGD_COUNT 0
      (count (fun pool n => d.ctxManaged pool n && d.ctxState pool n != 0) [0, 1, 2])).fput
    R.CHN_N_SHED_COUNT 0 (count (fun pool n => d.ctxState pool n == 4) [0, 1, 2, 3]))

/-- Every context of the given pools leaves for OFF with its domain (R565); a shed one leaves the shed set. -/
def Dev.ctxStopAll (d : Dev) (pools : List Nat) : Dev :=
  (d.each ((ctxAll (fun pool n => d.ctxState pool n != 0)).filter (fun p => pools.contains p.1)) (fun d p =>
    (d.ctxTo p.1 p.2 0).updCtx p.1 p.2 (fun c => { c with
      data := false, missing := false, missNext := false, shed := false, resume := false, ring := [] }))).ctxCounts

/-- A write to `CHN_VIEW_SEL` (R154): the index is clamped to the pool, and the settings in force are latched. -/
def Dev.viewLatch (d : Dev) (pool index : Nat) : Dev :=
  let n := min index (poolSize pool - 1)
  let c := d.ctxOf pool n
  let d := (d.fput R.CHN_VIEW_SEL_POOL 0 pool).fput R.CHN_VIEW_SEL_INDEX 0 n
  let off := d.ctxState pool n == 0 && !c.managed
  let khz := if off then (if pool = 2 then dbeCentre n else d.pinFreq pool n) else if pool = 2 then dbeCentre c.freq else c.freq
  let d := (d.fput R.CHN_VIEW_FREQ_FREQ 0 khz).fput R.CHN_VIEW_FHI_FREQ_HI 0 (khz / 65536)
  let d := ((d.fput R.CHN_VIEW_CTL_STATE 0 (d.ctxState pool n)).fputB R.CHN_VIEW_CTL_MANAGED 0 c.managed).fput R.CHN_VIEW_CTL_SRC 0
    (if off then d.pinSrc pool n else c.src)
  ((d.fput R.CHN_VIEW_CTL_PRIO 0 (d.ctxPrio pool n)).fputB R.CHN_VIEW_CTL_HELD 0 (!c.holders.isEmpty)).fput R.CHN_VIEW_CTL_OWNER 0
    ((leastBy id c.holders).getD 0)

/-- VIEW_LATCH (R154). -/
def execViewLatch (pool : Fin 4) (index : Fin 512) (s : State) : Host.Outcome State Fault Refusal :=
  nextDev s (fun d => d.viewLatch pool index)

/-! ### Scanner -/

/-- Bin `k` of the newest spectrum of input `x` (R166). -/
def Dev.scnBin (d : Dev) (x k : Nat) : Word := (d.scnOf x).bins.getD k 0xB1E0#16

/-- A transform of 4,096 lane groups that begins with lane group `g` overlaps a coexistence blanking window, or an overloaded window (R168). -/
def ScnSt.blanked (c : ScnSt) (g : Nat) : Bool :=
  c.blanks.any (fun b => decide (b.1 < g + 4096) && (match b.2 with | none => true | some e => decide (g < e)))

def ScnSt.overloaded (c : ScnSt) (g : Nat) : Bool := c.ovls.any (fun o => decide (o < g + 4096) && decide (g < o + 64))

/-- One bin from the powers that the transforms kept give it, in 10^−22 mW (R166, R167): their mean, or in peak mode their maximum, in 0.01 dBm
referred to the antenna (R93). -/
def Dev.scnLevel (d : Dev) (x : Nat) (powers : List Nat) : Word :=
  let num := if d.fbit R.SCN_CFG_MODE then powers.foldl max 0 else powers.foldl (· + ·) 0
  let den := if d.fbit R.SCN_CFG_MODE then 1 else powers.length
  let v := if num = 0 then -20000 else levelHundredths num (den * 10 ^ 22) - 10 * d.fgetI R.AFE_ANT_GAIN_GAIN x
  BitVec.ofNat 16 (unsgn 16 (clampInt (-20000) 5000 v))

/-- The scanner of input `x` runs: its input delivers lane groups to the DSP domain (R169). -/
def Dev.scnRuns (d : Dev) (x : Nat) : Bool :=
  d.fbit (ofInput x R.SCN_CFG_EN_A R.SCN_CFG_EN_B) && d.fbit R.AFE_STAT_SAMPLING x && d.domOn 4 && !d.splStopped

/-- The period of input `x` begins anew (R169). -/
def Dev.scnRestart (d : Dev) (x : Nat) : Dev :=
  d.updScn x (fun c => { c with start := d.time.clk, blanks := if d.blanking then [(d.lg, none)] else [], ovls := [] })

/-- The period of a scanner that an epoch enables begins at its boundary (R167, R169). -/
def Dev.scnApplied (old d : Dev) (x : Nat) : Dev :=
  let f := ofInput x R.SCN_CFG_EN_A R.SCN_CFG_EN_B
  if d.fbit f && !old.fbit f then d.scnRestart x else d

/-- SPECTRUM_COMPLETE (R166 to R169): the period has passed; `ffts` holds the transforms of the period in order, each with the powers of its 16,384
bins at the ball. They lie spread evenly over it; those that overlap blanking are left out. The spectrum goes to Ferson class 5 as 16 packets
stamped with the start of its period (R344). -/
def execSpectrumComplete (inp : Fin 2) (ffts : List (List Nat)) (s : State) : Host.Outcome State Fault Refusal :=
  nextDev s (fun d =>
    let x := (inp : Nat)
    let c := d.scnOf x
    let period := msCycles (100 * d.fget R.SCN_PERIOD_PERIOD)
    if d.scnRuns x && d.reached (c.start + period) then
      let n := d.fget R.SCN_CFG_NFFT
      let place (i : Nat) : Nat := (c.start + i * period / n - d.time.smpClk) * 5 / 16
      let all := (ffts.take n).zipIdx
      let kept := all.filter (fun f => !c.blanked (place f.2))
      let used := kept.length
      let o := kept.any (fun f => c.overloaded (place f.2))
      let levels : List Word :=
        if used = 0 then [] else (List.range 16384).map (fun k => d.scnLevel x (kept.map (fun f => f.1.getD k 0)))
      let stamp := d.time.stampAgo (d.time.clk - c.start)
      let d := d.updScn x (fun c => ⟨levels, c.start + period, c.blanks.filter (fun b => b.2.isNone), []⟩)
      let w := 0x8000 + b2n (used == 0) * 0x4000 + b2n o * 0x2000 + used
      let d := d.fput (ofInput x R.SCN_STAT_A R.SCN_STAT_B) 0 w
      let cnt := ofInput x R.SCN_CNT_A_COUNT R.SCN_CNT_B_COUNT
      let d := (d.fput cnt 0 (d.fget cnt + 1)).event (ofInput x R.SCN_EVT_NEW_A R.SCN_EVT_NEW_B)
      let d := onlyIf o (fun d => d.event (ofInput x R.SCN_EVT_OVL_A R.SCN_EVT_OVL_B)) d
      if d.fbit (ofInput x R.FSP_SRC_SPEC_A R.FSP_SRC_SPEC_B) then
        d.each (List.range 16) (fun d k =>
          let body := (List.range 1024).flatMap (fun i => beWord (d.scnBin x (k * 1024 + i)).toNat)
          d.formPacket ⟨d.time.clk, 5, x * 16 + k, stamp, o || used == 0, 31, .bytes body⟩)
      else d
    else d)

/-- A write to `SCN_WIN_SEL` (R170): 32 bins of the newest spectrum and its count are latched. -/
def Dev.scnLatch (d : Dev) (x page : Nat) : Dev :=
  let d := (d.fput R.SCN_WIN_SEL_INPUT 0 x).fput R.SCN_WIN_SEL_PAGE 0 page
  let d := d.fput R.SCN_WIN_SEQ_SEQ 0 (d.fget (ofInput x R.SCN_CNT_A_COUNT R.SCN_CNT_B_COUNT))
  d.each (List.range 32) (fun d i => d.fput R.SCN_WIN_LEVEL i (d.scnBin x (page * 32 + i)).toNat)

/-- SCN_WINDOW_LATCH (R170). -/
def execScnWindowLatch (inp : Fin 2) (page : Fin 512) (s : State) : Host.Outcome State Fault Refusal :=
  nextDev s (fun d => d.scnLatch inp page)

end Sys2Proof.Machine
end

