-- ==== Sys2Proof/Machine/MonLog.lean ====
section
/-!
DEFINITION. Forming Moult log records and counting memory errors (spec/19_reliability_moult_log.md, R569, R570, R584, R585, R592).
-/
namespace Sys2Proof.Machine

/-- Units of 64 bytes of a record type: 1 COUNTERS, 2 HISTOGRAMS, 3 RECOVERY, 4 ERROR (R584). -/
def recUnits : Nat → Nat
  | 1 => 3
  | 2 => 2
  | _ => 1

/-- The bytes of a record: header, body padded with 0, and the CRC-32 (R584). -/
def MonRec.bytes (r : MonRec) : List Nat :=
  let head := [0x4D, 0x4C, r.type, recUnits r.type] ++ be32 r.seq ++ be64 r.time
  let whole := (head ++ r.body ++ List.replicate (recUnits r.type * 64) 0).take (recUnits r.type * 64 - 4)
  whole ++ be32 (crc32 whole)

/-- Form a record (R586: SEQ one greater than the newest): it waits for the flash while `MON_CFG.LOG_EN` = 1 and writing has not
stopped, and goes to Ferson class 6 while `FSP_SRC.MOULT` = 1 (R587, R589, R592). -/
def Dev.formRecord (d : Dev) (type : Nat) (body : List Nat) (flush : Bool) : Dev :=
  let seq := (d.mon.seq + 1) % 2 ^ 32
  let r : MonRec := ⟨type, seq, d.time.stamp, body, flush⟩
  let toFlash := d.fbit R.MON_CFG_LOG_EN && !d.fbit R.MON_STAT_LOG_STOP
  let d := { d with mon := { d.mon with seq := seq, queue := if toFlash then d.mon.queue ++ [r] else d.mon.queue }
                    anole := if toFlash then d.anole ++ [false] else d.anole }
  let d := d.fput R.MON_SEQ_HI_SEQ 0 (seq / 65536)
  if d.fbit R.FSP_SRC_MOULT then d.formPacket ⟨d.time.clk, 6, 0, r.time, false, recUnits type - 1, .bytes r.bytes⟩ else d

/-- A corrected single-bit error in region `r` (R569). -/
def Dev.eccCorrected (d : Dev) (r : Nat) : Dev := (d.bump R.MON_ECC_CORR_COUNT r).lifeBy (0x38 + 4 * r) 4 1

/-- An uncorrectable error in region `r` is counted (R569). -/
def Dev.eccUncorrectable (d : Dev) (r : Nat) : Dev :=
  ((d.bump R.MON_ECC_UNC_COUNT r).event R.MON_EVT_UNCORR).lifeBy (0x4C + 2 * r) 2 1

/-- Add one to the COUNT field of the queued ERROR record of a region. -/
def joinError (region : Nat) : List MonRec → List MonRec
  | [] => []
  | r :: t =>
    if r.type = 4 ∧ r.body.head? = some region then
      { r with body := r.body.take 2 ++ beWord (min (ofBe ((r.body.drop 2).take 2) + 1) 65535) ++ r.body.drop 4 } :: t
    else r :: joinError region t

/-- The ERROR record of an uncorrectable error that restarts nothing (R570): effect 1 block missing, 2 packet poisoned, 3 erasures;
`word` is the word index in the region. Errors of the region within 1 s join the record. -/
def Dev.errorRecord (d : Dev) (region effect word : Nat) : Dev :=
  let at' := smGet (fun _ => 0) d.mon.errAt region
  if at' ≠ 0 ∧ d.time.clk + 1 - at' < Config.sysPerSecond then
    { d with mon := { d.mon with queue := (joinError region d.mon.queue.reverse).reverse } }
  else
    ({ d with mon := { d.mon with errAt := smSet (fun _ => 0) d.mon.errAt region (d.time.clk + 1) } }).formRecord 4
      ([region, effect] ++ beWord 1 ++ be32 word) false

end Sys2Proof.Machine
end

