-- ==== Sys2Proof/Machine/Fsp.lean ====
section
/-!
DEFINITION. The Ferson port and the Lilypad (spec/10_stream_port.md, R325 to R357).
-/
namespace Sys2Proof.Machine

/-! ### Selection -/

/-- Index `n` of `FSP_MAP` page `page` is selected (R337). -/
def Dev.mapSel (d : Dev) (page n : Nat) : Bool :=
  bitAt (smGet resetWord d.regs.applied (mapIdx page (n / 16))).toNat (n % 16)

/-- The streams of the table of R337. -/
def streamExists (cls stream : Nat) : Bool :=
  match cls with
  | 0 => stream == 0
  | 1 => decide (stream < 0x80) || (decide (0x100 ≤ stream) && decide (stream < 0x200)) ||
      (decide (0x200 ≤ stream) && decide (stream < 0x2A0)) || (decide (0x300 ≤ stream) && decide (stream < 0x330))
  | 2 => decide (stream < 0x100)
  | 3 => decide (stream < 0x29) || (decide (0x100 ≤ stream) && decide (stream < 0x130)) ||
      (decide (0x200 ≤ stream) && decide (stream < 0x230))
  | 4 => decide (stream < 8)
  | 5 => decide (stream < 32)
  | 6 => decide (stream < 2)
  | _ => false

/-! ### Fill and room -/

/-- Blocks in use of the general area and of the class 0 reserve (R347). -/
def Dev.genUsed (d : Dev) : Nat :=
  (d.fsp.stored.map (·.genBlocks)).foldl (· + ·) 0 + (match d.fsp.transit with | some p => p.genBlocks | none => 0)

/-- Reserve blocks in use. -/
def Dev.resUsed (d : Dev) : Nat :=
  (d.fsp.stored.map (·.resBlocks)).foldl (· + ·) 0 + (match d.fsp.transit with | some p => p.resBlocks | none => 0)

/-- Blocks of the reserve and of the general area (R347). -/
def resBlocksAll : Nat := 4096
/-- Blocks of the general area (R347). -/
def genBlocksAll : Nat := 126976

/-- The fill registers as the areas stand. -/
def Dev.fillShow (d : Dev) : Dev :=
  let kib := divNear d.genUsed 16
  (((d.fput R.FSP_FILL_KIB 0 kib).fput R.FSP_FILL_PEAK_KIB 0 (max (d.fget R.FSP_FILL_PEAK_KIB) kib)).fput R.FSP_C0_FILL_KIB 0
    (divNear d.resUsed 16)).fputB R.FSP_STAT_C0_RES_FULL 0 (decide (resBlocksAll ≤ d.resUsed))

/-- The key of a stream in the per-stream maps. -/
def streamKey (cls stream : Nat) : Nat := cls * 4096 + stream

/-- Take the next SEQ of a stream (R335). -/
def Dev.takeSeq (d : Dev) (cls stream : Nat) : Nat × Dev :=
  let n := smGet (fun _ => 0) d.fsp.seq (streamKey cls stream)
  (n, { d with fsp := { d.fsp with seq := smSet (fun _ => 0) d.fsp.seq (streamKey cls stream) ((n + 1) % 65536) } })

/-- Drop one packet of a stream: counted, and the next stored packet of the stream carries DROP (R336, R350). -/
def Dev.dropOne (d : Dev) (cls stream : Nat) : Dev :=
  let k := streamKey cls stream
  let d := { d with fsp := { d.fsp with
    drops := smSet (fun _ => 0) d.fsp.drops k ((smGet (fun _ => 0) d.fsp.drops k + 1) % 2 ^ 32)
    dropMark := smSet (fun _ => false) d.fsp.dropMark k true
    dropAll := (d.fsp.dropAll + 1) % 2 ^ 32 } }
  (onlyIf (cls != 0) (fun d => d.bump R.FSP_DROP_CLS_COUNT (cls - 1)) d).event R.FSP_EVT_DROP

/-- The payload of a packet: its bytes, filled up or cut to LEN + 1 units. -/
def fitUnits (len : Nat) (bs : List Nat) : List Nat := (bs ++ List.replicate ((len + 1) * 64) 0).take ((len + 1) * 64)

/-- Store a packet behind those stored, with its SEQ and DROP mark (R335, R336, R347). -/
def Dev.store (d : Dev) (cls stream time : Nat) (mark : Bool) (len : Nat) (payload : List Nat) (res gen : Nat) : Dev :=
  let (seq, d) := d.takeSeq cls stream
  let k := streamKey cls stream
  let p : Packet := ⟨cls, stream, seq, time, smGet (fun _ => false) d.fsp.dropMark k, mark, len, fitUnits len payload, res, gen, false⟩
  ({ d with fsp := { d.fsp with
    stored := d.fsp.stored ++ [p], waitClk := if d.fsp.stored.isEmpty then d.time.clk else d.fsp.waitClk, dropMark := smSet (fun _ => false) d.fsp.dropMark k false } }).fillShow

/-- Store a class 0 packet where there is room: reserve blocks first, then general ones (R351); else count a deferral (R352). -/
def Dev.storeAlert (d : Dev) (time : Nat) (payload : List Nat) : Dev :=
  let res := min 2 (resBlocksAll - d.resUsed)
  if 2 - res ≤ genBlocksAll - d.genUsed then d.store 0 0 time false 0 payload res (2 - res)
  else
    ({ d with fsp := { d.fsp with deferred := d.fsp.deferred + 1 } }).bumpEvt R.FSP_C0_DEFER_COUNT R.FSP_EVT_C0_DEFER

/-- Room for one class 0 packet. -/
def Dev.alertRoom (d : Dev) : Bool :=
  decide (2 ≤ (resBlocksAll - d.resUsed) + (genBlocksAll - d.genUsed))

/-- The bytes of a packet's payload as formed. -/
def PktBody.payload : PktBody → List Nat
  | .event reg bits value epoch => [1, 0] ++ beWord reg ++ beWord bits ++ beWord value ++ beWord epoch
  | .bytes b => b

/-- Judge one formed packet (R349 to R353): class 0 by room, with the DEFER packet first after deferrals; the others by their
watermark. -/
def Dev.judge (d : Dev) (p : PktReq) : Dev :=
  let payload := p.body.payload
  if p.cls = 0 then
    let d :=
      if d.fsp.deferred ≠ 0 && d.alertRoom then
        ({ d with fsp := { d.fsp with deferred := 0 } }).storeAlert d.time.stamp ([4, 0] ++ be32 d.fsp.deferred)
      else d
    d.storeAlert p.time payload
  else if d.genUsed + p.len + 2 ≤ d.fget R.FSP_WM_WM (p.cls - 1) * 256 then
    d.store p.cls p.stream p.time p.mark p.len payload 0 (p.len + 2)
  else ((d.takeSeq p.cls p.stream).2).dropOne p.cls p.stream

/-- The order of R349: cycle of formation, class, stream. -/
def PktReq.before (a b : PktReq) : Bool :=
  decide (a.formedAt < b.formedAt) ||
    (a.formedAt == b.formedAt && (decide (a.cls < b.cls) || (a.cls == b.cls && decide (a.stream < b.stream))))

/-- The first packet of a list in the order of R349, with the others in their order. -/
def takeFirst : List PktReq → Option (PktReq × List PktReq)
  | [] => none
  | a :: t =>
    match takeFirst t with
    | none => some (a, [])
    | some (b, r) => if b.before a then some (b, a :: r) else some (a, t)

/-- PACKET_FORMED (R349 to R353): the first packet that waits is judged. -/
def execPacketFormed (s : State) : Host.Outcome State Fault Refusal :=
  nextDev s (fun d =>
    match takeFirst d.fsp.formed with
    | none => d
    | some (p, rest) => ({ d with fsp := { d.fsp with formed := rest } }).judge p)

/-! ### The wire -/

/-- The header of a packet (R333). -/
def Packet.header (p : Packet) : List Nat :=
  let h := [0xA5, 0xC3, p.cls * 16 + p.stream / 256, p.stream % 256] ++ beWord p.seq ++ be64 p.time ++
    [b2n p.drop * 64 + b2n p.mark * 32 + p.len]
  h ++ [crc8From 0 h]

/-- The bytes of a packet on the wire (R333, R334); a poisoned packet carries the complement of its CRC-32 (R354). -/
def Packet.wire (p : Packet) : List Nat :=
  let b := p.header ++ p.payload
  b ++ be32 (if p.poisoned then crc32 b ^^^ 0xFFFFFFFF else crc32 b)

/-- The index of the packet that is sent next: one that a restart puts first (R356), the oldest of class 0, else the oldest (R348). -/
def nextIdx (head : Nat) (l : List Packet) : Nat := if head = 0 && l.any (·.cls == 0) then l.findIdx (·.cls == 0) else 0

/-- Five byte cycles of the port in SYS cycles (R326): 184.32, 122.88, 92.16 or 46.08 MHz. -/
def Dev.fspFive (d : Dev) : Nat := [8, 12, 16, 32].getD d.fsp.divNow 8

/-- The byte cycles since the packet on the wire began (R326, R327): its bytes, then idle cycles. -/
def Dev.fspOut (d : Dev) : Nat :=
  if d.fbit R.FSP_STAT_STOPPED then d.fsp.pos else d.fsp.pos + 5 * (d.time.clk - d.fsp.runClk) / d.fspFive

/-- The byte cycles since then with the one in progress, which the clock completes (R329). -/
def Dev.fspBegun (d : Dev) : Nat :=
  if d.fbit R.FSP_STAT_STOPPED then d.fsp.pos else d.fsp.pos + (5 * (d.time.clk - d.fsp.runClk) + d.fspFive - 1) / d.fspFive

/-- A packet in transit whose last byte is out has been sent (R327). -/
def Dev.sentWhole (d : Dev) : Dev :=
  if d.fsp.transit.isSome && decide (d.fsp.wire.length ≤ d.fspOut) then
    ({ d with fsp := { d.fsp with transit := none, sent := (d.fsp.sent + 1) % 2 ^ 32 } }).fillShow
  else d

/-- Discard every packet that is stored or waits to be stored, counted as dropped (R355, R564), and what is in assembly. -/
def Dev.discardAll (d : Dev) : Dev :=
  let d := d.sentWhole
  let gone := d.fsp.stored.map (fun p => (p.cls, p.stream)) ++
    (match d.fsp.transit with | some p => [(p.cls, p.stream)] | none => []) ++ d.fsp.formed.map (fun p => (p.cls, p.stream))
  (({ d with fsp := { d.fsp with stored := [], head := 0, transit := none, formed := [], asm := [], iq := [] } }).each gone (fun d g => d.dropOne g.1 g.2)).fillShow

/-- The clock runs on from byte cycle `pos` at cycle `clk`. -/
def Dev.fspAt (d : Dev) (pos clk : Nat) : Dev := { d with fsp := { d.fsp with pos := pos, runClk := clk } }

/-- The byte cycle at which the port stops once it sees `FSP_RDY` low (R328, R329): the end of the 64-byte block that has begun, or at once. -/
def Dev.fspStopAt (d : Dev) : Nat :=
  let o := d.fspBegun
  if o < d.fsp.wire.length then min d.fsp.wire.length ((o + 63) / 64 * 64) else o

/-- A stop of the port that began at `stopClk` ends (R357): one of at least `FSP_STALL_TH` is counted. -/
def Dev.stallEnd (d : Dev) : Dev :=
  let len := d.since d.fsp.stopClk
  if msCycles (d.fget R.FSP_STALL_TH_TH) ≤ len then
    (d.bumpEvt R.FSP_STALLS_COUNT R.FSP_EVT_STALL).fput R.FSP_STALL_MAX_COUNT 0
      (max (d.fget R.FSP_STALL_MAX_COUNT) (min (divNear len Config.sysPerMs) 65535))
  else d

/-- The port stops by an epoch (R325, R355, R357). -/
def Dev.fspStop (d : Dev) : Dev :=
  let d := onlyIf (d.fbit R.FSP_STAT_STOPPED) Dev.stallEnd (d.sentWhole.fput R.FSP_STAT_RUN 0 0)
  ({ (d.fput R.FSP_STAT_STOPPED 0 0) with fsp := { d.fsp with wire := [] } }).discardAll

/-- The port starts (R335, R355): the Lilypad is cleared, every SEQ restarts at 0, and a START packet is formed. -/
def Dev.fspStart (d : Dev) : Dev :=
  let d := { d with fsp := { d.fsp with
    stored := [], head := 0, transit := none, formed := [], asm := [], iq := [], seq := [], dropMark := [], wire := [] } }
  let rdy := d.fbit R.FSP_STAT_RDY
  let d := (((d.fput R.FSP_STAT_RUN 0 1).fputB R.FSP_STAT_STOPPED 0 (!rdy)).fillShow)
  let d := { d with fsp := { d.fsp with stopClk := d.time.clk, stopDrops := d.fsp.dropAll, divNow := d.fget R.FSP_CFG_DIV, pos := 0, runClk := d.time.clk } }
  d.alertPacket ([5, 0, 0] ++ beWord (smGet resetWord d.regs.applied 0x580).toNat)

/-- PACKET_BOUNDARY (R327, R348, R354, R569): the packet in transit is complete, an ordered stop takes effect, else the next packet
begins while the port sees `FSP_RDY`. There is no boundary before the packet's last byte and 2 idle cycles are out. `ecc`: 0 no error, 1 a corrected one, 2 an uncorrectable one at word `word` in reading it. -/
def execPacketBoundary (ecc : Fin 3) (word : Nat) (s : State) : Host.Outcome State Fault Refusal :=
  nextDev s (fun d =>
    if !d.fspRuns || d.fbit R.FSP_STAT_STOPPED || d.splStopped || decide (d.fspOut < d.fsp.wire.length + 2) then d
    else
      let d := d.sentWhole
      let d := { d with fsp := { d.fsp with divNow := d.fget R.FSP_CFG_DIV } }
      if !d.fbit R.FSP_CFG_EN then d.fspStop
      else
        let i := nextIdx d.fsp.head d.fsp.stored
        match d.fsp.stored[i]? with
        | none => { d with fsp := { d.fsp with wire := [] } }.fspAt 2 d.time.clk
        | some p =>
          let p := { p with poisoned := p.poisoned || ecc == 2 }
          let d := { d with fsp := { d.fsp with stored := d.fsp.stored.eraseIdx i, head := d.fsp.head - 1, transit := some p, wire := p.wire } }.fspAt 0 d.time.clk
          if ecc = 1 then d.eccCorrected 0
          else if ecc = 2 then
            ((d.eccUncorrectable 0).bumpEvt R.FSP_POISON_COUNT R.FSP_EVT_ECC).errorRecord 0 2 word
          else d)

/-- The clock stops at byte cycle `at`; the port stays enabled (R329, R445). -/
def Dev.fspPause (d : Dev) (at_ : Nat) : Dev :=
  if d.fspRuns && !d.fbit R.FSP_STAT_STOPPED then
    let fsp := { d.fsp with
      pos := at_, stopClk := max d.time.clk (d.fsp.runClk + ((at_ - d.fsp.pos) * d.fspFive + 4) / 5), stopDrops := d.fsp.dropAll }
    { (d.fputB R.FSP_STAT_STOPPED 0 true) with fsp := fsp }
  else d

/-- The clock stops with the SPL, after completing its cycle (R445). -/
def Dev.fspHalt (d : Dev) : Dev := d.fspPause d.fspBegun

/-- The clock restarts once `FSP_RDY` is high and the SPL is locked, with the next block or idle cycle and at the rate applied meanwhile
(R331, R332, R445); a stop of at least `FSP_STALL_TH` is counted and forms a STALL packet (R357). -/
def Dev.fspResume (d : Dev) : Dev :=
  if d.fspRuns && d.fbit R.FSP_STAT_STOPPED && d.fbit R.FSP_STAT_RDY && !d.splStopped && d.domOn 4 then
    let d := ((d.fputB R.FSP_STAT_STOPPED 0 false).fspAt d.fsp.pos (max d.time.clk d.fsp.stopClk))
    let d := { d with fsp := { d.fsp with divNow := d.fget R.FSP_CFG_DIV } }
    let len := d.since d.fsp.stopClk
    onlyIf (decide (msCycles (d.fget R.FSP_STALL_TH_TH) ≤ len)) (fun d => d.alertPacket
      ([7, 0] ++ be32 (len * 1000 / Config.sysPerMs) ++ be32 ((d.fsp.dropAll + 2 ^ 32 - d.fsp.stopDrops) % 2 ^ 32))) d.stallEnd
  else d

/-- FSP_RDY_FALL (R329): the PQ7360 sees `FSP_RDY` fall; an EN of 0 that waits for the packet boundary takes effect at once (R355). -/
def execFspRdyFall (s : State) : Host.Outcome State Fault Refusal :=
  nextDev s (fun d =>
    let d := (d.fputB R.FSP_STAT_RDY 0 false).fspPause d.fspStopAt
    if d.fspRuns && !d.fbit R.FSP_CFG_EN then d.fspStop else d)

/-- FSP_RDY_RISE (R331, R357): it sees `FSP_RDY` high again. -/
def execFspRdyRise (s : State) : Host.Outcome State Fault Refusal :=
  nextDev s (fun d => (d.fputB R.FSP_STAT_RDY 0 true).fspResume)

/-- The restart of the port (R356): the packet in transit is cut; a START packet goes first, formed as any alert (R351 to R353), then the cut packet
whole with its SEQ, then those stored. -/
def Dev.fspRestart (d : Dev) : Dev :=
  if d.fspRuns then
    let d := d.sentWhole
    let cut := match d.fsp.transit with | some p => [{ p with poisoned := false }] | none => []
    let d := ({ d with fsp := { d.fsp with transit := none, wire := [], stored := cut ++ d.fsp.stored, divNow := d.fget R.FSP_CFG_DIV } }.fspAt 0 d.time.clk).event R.FSP_EVT_RESTART
    let later := d.fsp.stored
    let d := d.judge ⟨d.time.clk, 0, 0, d.time.stamp, false, 0, .bytes ([5, 0, 1] ++ beWord (smGet resetWord d.regs.applied 0x580).toNat)⟩
    let new := d.fsp.stored.drop later.length
    { d with fsp := { d.fsp with stored := new ++ later, head := new.length + cut.length } }
  else d

/-- FSP_PORT_RESTART (R356). -/
def execFspPortRestart (s : State) : Host.Outcome State Fault Refusal := nextDev s Dev.fspRestart

/-- `FSP_CMD.CLR_CNT` (R350, R357): every counter at 0x05A2 and from 0x05A4 to 0x05B2, and every per-stream drop counter. -/
def Dev.fspClear (d : Dev) : Dev :=
  let d := { d with fsp := { d.fsp with drops := [], sent := 0 } }
  let d := d.each [0x05A2, 0x05A4, 0x05A5, 0x05A6, 0x05A7, 0x05A8, 0x05A9, 0x05AA, 0x05AB, 0x05AC, 0x05AD, 0x05AE, 0x05AF, 0x05B1, 0x05B2]
    (fun d i => d.setImm i 0)
  d

/-- FSP_CLR_CNT (R357). -/
def execFspClrCnt (s : State) : Host.Outcome State Fault Refusal := nextDev s Dev.fspClear

/-- A write to `FSP_DROP_SEL` (R337): the stream's drop counter is latched. -/
def Dev.dropLatch (d : Dev) (cls stream : Nat) : Dev :=
  let c := clampNat 1 6 cls
  let n := if streamExists c stream then smGet (fun _ => 0) d.fsp.drops (streamKey c stream) else 0
  (((d.fput R.FSP_DROP_SEL_CLASS 0 c).fput R.FSP_DROP_SEL_STREAM 0 stream).fput R.FSP_DROP_HI_COUNT 0 (n / 65536)).fput
    R.FSP_DROP_LO_COUNT 0 (n % 65536)

/-- FSP_DROP_LATCH (R337). -/
def execFspDropLatch (cls : Fin 16) (stream : Fin 4096) (s : State) : Host.Outcome State Fault Refusal :=
  nextDev s (fun d => d.dropLatch cls stream)

/-- A read of `FSP_SENT_HI` captures `SENT_LO`. -/
def Dev.sentCapture (d : Dev) : Dev :=
  (d.fput R.FSP_SENT_LO_COUNT 0 (d.fsp.sent % 65536)).fput R.FSP_SENT_HI_COUNT 0 (d.fsp.sent / 65536)

/-! ### PCM streams -/

/-- Blocks in a full class 1 packet of either width (R339). -/
def pcmFull (wide : Bool) : Nat := if wide then 5 else 10

/-- The bytes of a stereo sample (R339): two 16-bit numbers, rounded by R9, or two 24-bit ones in 32-bit containers with the low byte 0. -/
def frameBytes (wide : Bool) (p : Int × Int) : List Nat :=
  if wide then be32 (unsgn 24 p.1 * 256) ++ be32 (unsgn 24 p.2 * 256)
  else [p.1, p.2].flatMap (fun x => beWord (unsgn 16 (clampInt (-32768) 32767 (divNearInt x 256))))

/-- Complete the packet in assembly of a class 1 stream (R339 to R341): the descriptor, with KIND and index by the stream (R337), and the frames. -/
def Dev.pcmFlush (d : Dev) (stream : Nat) : Dev :=
  let a := smGet (fun _ => {}) d.fsp.asm stream
  if a.marks.isEmpty then d
  else
    let n := a.marks.length
    let m := (a.marks ++ List.replicate (12 - n) 0).foldl (fun v k => v * 4 + k) 0
    let desc := [stream / 256 + 1, if a.wide then 0x18 else 0x10] ++ beWord (stream % 256) ++ [n] ++ [m / 65536, m / 256 % 256, m % 256] ++ a.info ++
      List.replicate 50 0
    ({ d with fsp := { d.fsp with asm := smSet (fun _ => {}) d.fsp.asm stream { last := a.last, gap := a.gap } } }).formPacket
      ⟨d.time.clk, 1, stream, a.time, a.marks.any (· != 0), (if a.wide then 6 else 3) * n, .bytes (desc ++ a.pcm.flatMap (frameBytes a.wide))⟩

/-- A selected source delivers one 1 ms block (R20, R340); `info` are bytes 8 to 13 of the descriptor at its end (R341). -/
def Dev.pcmBlock (d : Dev) (stream : Nat) (b : Blk) (info : List Nat) : Dev :=
  if !d.fspRuns then d
  else
    let a := smGet (fun _ => ({} : PcmAsm)) d.fsp.asm stream
    let pcm := delivered a.last a.gap (b.mark == 2) b.pcm
    let first := a.marks.isEmpty
    let a : PcmAsm := ⟨a.marks ++ [b.mark], if first then b.stamp else a.time, if first then d.fbit R.FSP_CFG_PCM24 else a.wide, info, a.pcm ++ pcm,
      lastSample pcm, b.mark == 2⟩
    let d := { d with fsp := { d.fsp with asm := smSet (fun _ => {}) d.fsp.asm stream a } }
    if pcmFull a.wide ≤ a.marks.length then d.pcmFlush stream else d

/-- A class 1 stream is selected (R337). -/
def Dev.pcmSel (d : Dev) (stream : Nat) : Bool := d.mapSel (stream / 256) (stream % 256)

/-- What applied Ferson settings do at their boundary (R325, R338, R355), against the block `old` before it: class 1 packets in assembly of streams no longer
selected are completed, and every one when the sample width changes (DESIGN CHOICE, log entry 63). -/
def Dev.fspApplied (old d : Dev) : Dev :=
  let was := old.fbit R.FSP_CFG_EN
  let now := d.fbit R.FSP_CFG_EN
  let width := old.fbit R.FSP_CFG_PCM24 != d.fbit R.FSP_CFG_PCM24
  let d := d.each ((d.fsp.asm.map (·.1)).filter (fun k => width || !d.pcmSel k)) Dev.pcmFlush
  if now then (if was && d.fspRuns then d else d.fspStart)
  else if d.fspRuns && (d.fsp.transit.isNone || d.fbit R.FSP_STAT_STOPPED || decide (d.fsp.wire.length ≤ d.fspOut)) then d.fspStop
  else d

/-- Every packet that waits is judged, against the settings still in force: before an epoch changes a watermark (R349, R350). -/
def Dev.judgeAll (d : Dev) : Nat → Dev
  | 0 => d
  | k + 1 =>
    match takeFirst d.fsp.formed with
    | none => d
    | some (p, rest) => (({ d with fsp := { d.fsp with formed := rest } }).judge p).judgeAll k

/-! ### Heartbeat -/

/-- The summary word of R42 over blocks whose event and enable registers are listed from bit 0 on. -/
def Dev.summary (d : Dev) (l : List (Fld × Fld)) : Nat :=
  (l.zipIdx.map (fun p => if d.fget p.1.1 &&& d.fget p.1.2 = 0 then 0 else 2 ^ p.2)).foldl (· + ·) 0

/-- `SYS_EVT` (R42); the CHN bit also shows the RDS events (R241). -/
def Dev.sysEvt (d : Dev) : Nat :=
  (if d.fget R.CHN_RDS_EVT &&& d.fget R.CHN_RDS_EVM = 0 then 0 else 0x4000) ||| d.summary [(R.SYS_OWN_EVT, R.SYS_OWN_EVM), (R.PWR_EVT, R.PWR_EVM), (R.BOOT_EVT, R.BOOT_EVM), (R.RTC_EVT, R.RTC_EVM),
    (R.HIF_EVT, R.HIF_EVM), (R.LIF_EVT, R.LIF_EVM), (R.TMP_EVT, R.TMP_EVM), (R.MON_EVT, R.MON_EVM), (R.CLK_EVT, R.CLK_EVM),
    (R.GPIO_EVT, R.GPIO_EVM), (R.AFE_EVT, R.AFE_EVM), (⟨0x0358, 1, 15, 0, false⟩, ⟨0x0359, 1, 15, 0, false⟩),
    (R.BIC_EVT, R.BIC_EVM), (R.SCN_EVT, R.SCN_EVM), (R.CHN_EVT, R.CHN_EVM), (R.DAB_EVT, R.DAB_EVM)]

/-- `SYS_EVT2` (R42). -/
def Dev.sysEvt2 (d : Dev) : Nat :=
  d.summary [(R.PRG_EVT, R.PRG_EVM), (R.FSP_EVT, R.FSP_EVM), (R.COD_EVT, R.COD_EVM), (R.JCK_EVT, R.JCK_EVM), (R.MIX_EVT, R.MIX_EVM),
    (R.P_EVT, R.P_EVM), (⟨R.P_EVT.base + R.P_EVT.stride, 1, 15, 0, false⟩, ⟨R.P_EVM.base + R.P_EVM.stride, 1, 15, 0, false⟩),
    (⟨R.P_EVT.base + 2 * R.P_EVT.stride, 1, 15, 0, false⟩, ⟨R.P_EVM.base + 2 * R.P_EVM.stride, 1, 15, 0, false⟩),
    (R.SPD_EVT, R.SPD_EVM), (R.SLK_EVT, R.SLK_EVM), (R.CX_EVT, R.CX_EVM)]

/-- `HALERT_N` is asserted (R43): a summary bit is 1 together with its bit in `SYS_EVM` or `SYS_EVM2`; it is released in reset-hold (R32). -/
def Dev.halert (d : Dev) : Bool :=
  !d.inReset && (d.sysEvt &&& d.fget R.SYS_EVM_EN != 0 || d.sysEvt2 &&& d.fget R.SYS_EVM2_EN != 0)

/-- HEARTBEAT (the class 0 table of 10): one packet when the device-time seconds are a multiple of HB. -/
def execHeartbeat (s : State) : Host.Outcome State Fault Refusal :=
  nextDev s (fun d =>
    let hb := d.fget R.FSP_SRC_HB
    if hb ≠ 0 && decide (d.time.sec % hb = 0) && d.fspRuns && d.fsp.beat != d.time.sec + 1 then
      { d with fsp := { d.fsp with beat := d.time.sec + 1 } }.alertPacket ([6, 0] ++ beWord d.sysEvt ++ beWord d.sysEvt2 ++ beWord (d.fget R.SYS_EPOCH_NUM) ++
        beWord (d.fget R.FSP_FILL_KIB) ++ beWord (d.fget R.FSP_C0_FILL_KIB) ++ be32 d.fsp.dropAll)
    else d)

end Sys2Proof.Machine
end

