-- ==== Sys2Proof/Machine/Dab.lean ====
section
/-!
DEFINITION. DAB and DAB+ reception: ensemble synchronisation, the service database, subchannel decoding and audio frames
(spec/08_dab.md, R244 to R277; R15, R19 to R21, R343).
-/
namespace Sys2Proof.Machine

/-! ### Entries, flags and counts -/

/-- Ensemble context `n`. -/
def Dev.dbeOf (d : Dev) (n : Nat) : DbeSt := smGet (fun _ => {}) d.dbe n

/-- Change ensemble context `n`. -/
def Dev.updDbe (d : Dev) (n : Nat) (f : DbeSt → DbeSt) : Dev := { d with dbe := smSet (fun _ => {}) d.dbe n (f (d.dbeOf n)) }

/-- Subchannel entry `n`. -/
def Dev.dscOf (d : Dev) (n : Nat) : DscSt := smGet (fun _ => {}) d.dsc n

/-- Change subchannel entry `n`. -/
def Dev.updDsc (d : Dev) (n : Nat) (f : DscSt → DscSt) : Dev := { d with dsc := smSet (fun _ => {}) d.dsc n (f (d.dscOf n)) }

/-- Set DBE flag `bit` of entry `n` (R276 and the flag table). -/
def Dev.dbeFlag (d : Dev) (n bit : Nat) : Dev :=
  (d.updDbe n (fun e => { e with flags := e.flags ||| 2 ^ bit })).setEvtBits R.DAB_EVT.base (2 ^ bit)

/-- Set DSC flag `bit` of entry `n`. -/
def Dev.dscFlag (d : Dev) (n bit : Nat) : Dev :=
  (d.updDsc n (fun e => { e with flags := e.flags ||| 2 ^ bit })).setEvtBits R.DAB_EVT.base (2 ^ (bit + 8))

/-- Add `k` to one of the 32-bit counters of items 0x09 and 0x0A (R277). -/
def addCount (m : SMap Nat) (i k : Nat) : SMap Nat := smSet (fun _ => 0) m i ((smGet (fun _ => 0) m i + k) % 2 ^ 32)

/-- Count `k` in ensemble counter `i`. -/
def Dev.dbeCount (d : Dev) (n i k : Nat) : Dev := d.updDbe n (fun e => { e with counts := addCount e.counts i k })

/-- Count `k` in subchannel counter `i`. -/
def Dev.dscCount (d : Dev) (n i k : Nat) : Dev := d.updDsc n (fun e => { e with counts := addCount e.counts i k })

/-- SYNC of an ensemble context: 0 SEARCH, 1 COARSE, 2 FINE, 3 LOCK (R244). -/
def Dev.dbeSync (d : Dev) (n : Nat) : Nat := d.fget R.DBE_STAT_SYNC n

/-- The ensemble is in LOCK. -/
def Dev.locked (d : Dev) (n : Nat) : Bool := d.dbeSync n == 3

/-- State of a subchannel entry: 0 OFF, 1 WAIT, 2 FILL, 3 RUN, 4 REFUSED (R259). -/
def Dev.dscState (d : Dev) (n : Nat) : Nat := d.ctxState 4 n

/-- The entry is in FILL or RUN. -/
def Dev.dscUp (d : Dev) (n : Nat) : Bool := d.dscState n == 2 || d.dscState n == 3

/-- The ensemble and SubChId that an entry names. -/
def Dev.dscTarget (d : Dev) (n : Nat) : Nat × Nat :=
  if d.ctxManaged 4 n then ((d.ctxOf 4 n).freq / 64, (d.ctxOf 4 n).freq % 64)
  else (d.fget R.DSC_SEL_DBE n, d.fget R.DSC_SEL_SUBCH n)

/-- The entries whose ensemble is `b`. -/
def Dev.dscOn (d : Dev) (b : Nat) : List Nat :=
  (List.range 48).filter (fun n => (d.ctxEn 4 n || d.ctxManaged 4 n || d.dscState n != 0) &&
    ((d.dscTarget n).1 == b || (d.dscState n != 0 && (d.dscOf n).block == b && d.dscUp n)))

/-- The four counts of 0x0484 to 0x0487. -/
def Dev.dabCounts (d : Dev) : Dev :=
  let all := List.range 48
  let d := d.fput R.DAB_CU_USED_COUNT 0 ((all.map (fun n => (d.dscOf n).cu)).foldl (· + ·) 0)
  let d := d.fput R.DAB_N_SUB_COUNT 0 ((all.filter (fun n => d.dscUp n && !d.fbit R.DSC_STAT_MIRROR n)).length)
  let d := d.fput R.DAB_N_PCM_COUNT 0 ((all.filter (fun n => (d.dscOf n).slot.isSome)).length)
  d.fput R.DAB_N_LOCK_COUNT 0 (((List.range 41).filter d.locked).length)

/-- CU reserved by all entries in FILL and RUN (R260). -/
def Dev.cuUsed (d : Dev) : Nat := ((List.range 48).map (fun n => (d.dscOf n).cu)).foldl (· + ·) 0

/-- The time stamp of the context block that contained the moment `k` SYS cycles ago (R142, R143). -/
def Dev.blockStamp (d : Dev) (k : Nat) : Nat :=
  let into := (((d.time.clk : Int) - k - d.time.smpClk) % (Config.sysPerMs : Int)).toNat
  d.time.stampAgo (k + into)

/-- The cycle in which that block began. -/
def Dev.blockClk (d : Dev) (k : Nat) : Nat :=
  d.time.clk - (k + (((d.time.clk : Int) - k - d.time.smpClk) % (Config.sysPerMs : Int)).toNat)

/-- `ms` milliseconds after a time stamp. -/
def stampPlus (t ms : Nat) : Nat := (t + ms * 2 ^ 32 / 1000) % 2 ^ 64

/-- `ms` milliseconds before a time stamp. -/
def stampBack (t ms : Nat) : Nat := (t + 2 ^ 64 - ms * 2 ^ 32 / 1000 % 2 ^ 64) % 2 ^ 64

/-! ### Subchannel entries: freeing and state -/

/-- Set the state of an entry; RUN entered or left sets the RUN flag (R259). -/
def Dev.dscTo (d : Dev) (n st : Nat) : Dev :=
  let was := d.dscState n
  onlyIf ((was == 3) != (st == 3)) (fun d => d.dscFlag n 0) (d.ctxTo 4 n st)

/-- Bytes 8 to 13 of the descriptor of a DAB service. -/
def Dev.dscInfo (d : Dev) (n : Nat) : List Nat := beWord (d.fget R.DSC_STAT n) ++ beWord (d.fget R.DSC_QUAL n) ++ [0, 0]

/-- The logical frames of the DAB+ superframe in hand, those that follow, and whether the superframe is at its end (R268): it begins at a multiple of 5.
Before synchronisation frames ahead of a start are left out. -/
def DscSt.super (e : DscSt) : List (Nat × Nat × Nat × Bool) × List (Nat × Nat × Nat × Bool) × Bool :=
  let all := e.build ++ e.queue
  let all := if e.sync then all else all.dropWhile (fun q => q.1 % 5 != 0)
  let of := (all.headD (0, 0, 0, false)).1 / 5
  let mine := all.takeWhile (fun q => q.1 / 5 == of)
  let rest := all.dropWhile (fun q => q.1 / 5 == of)
  (mine, rest, !rest.isEmpty || mine.any (fun q => q.1 % 5 == 4))

/-- The decoder of an entry of that coding can take a whole frame or superframe. -/
def DscSt.whole (e : DscSt) (coding : Nat) : Bool :=
  if coding = 2 then e.super.2.2 else coding != 0 && !e.queue.isEmpty

/-- The slot of an entry is freed and its decoder ends (R259, R267, R272). -/
def Dev.dscSlotFree (d : Dev) (n : Nat) : Dev :=
  let d := (d.pcmFlush (0x300 + n)).updDsc n (fun e => { e with
    stereo := false, slot := none, queue := [], build := [], lost := false, drain := 0, sync := false, fails := 0, conceal := 0, heard := false, prev := [], pend := [] })
  ((d.fputB R.DSC_STAT_PCM n false).fput R.DSC_STAT_SLOT n 0).fput R.DSC_QUAL_FER n 0xFF

/-- The slot of an entry whose ensemble has left LOCK: the frames already de-interleaved are still decoded (the table of coinciding events of 08). -/
def Dev.dscSlotDrain (d : Dev) (n : Nat) : Dev :=
  let e := d.dscOf n
  let c := d.fget R.DSC_STAT_CODING n
  let go := d.fbit R.DSC_STAT_PCM n && e.whole c
  let d := (d.dscSlotFree n).updDsc n (fun x => { x with pend := e.pend })
  if go then d.updDsc n (fun x => { x with
    queue := e.queue, build := e.build, lost := e.lost, drain := c, sync := e.sync, fails := e.fails, conceal := e.conceal, heard := e.heard, prev := e.prev })
  else d

/-- Free the CU and the slot and discard the de-interleaver content (R259). -/
def Dev.dscFree (d : Dev) (n : Nat) (drain : Bool := false) : Dev :=
  let d := (if drain then d.dscSlotDrain n else d.dscSlotFree n).updDsc n (fun e => { e with
    cu := 0, fill := 0, inter := [], coded := false, sub := none, noSlot := false })
  (((d.fput R.DSC_STAT_CODING n 0).fput R.DSC_QUAL_BER n 0xFF).fputB R.DSC_STAT_MIRROR n false).fputB R.DSC_STAT_BLANKED n false

/-- An entry goes to OFF. -/
def Dev.dscOff (d : Dev) (n : Nat) : Dev := (d.dscFree n).dscTo n 0

/-! ### The service database -/

/-- The place and entry of a key. -/
def dbFind {α : Type} (key : Nat) (t : SMap (Option (DbEnt α))) : Option (Nat × DbEnt α) :=
  t.findSome? (fun e => match e.2 with
    | some x => if x.key = key then some (e.1, x) else none
    | none => none)

/-- The entries of a table with their places. -/
def dbAll {α : Type} (t : SMap (Option (DbEnt α))) : List (Nat × DbEnt α) := t.filterMap (fun e => e.2.map (fun x => (e.1, x)))

/-- Receive an entry (R251, R252, R255): the table, whether the entry is new, and whether the table overflowed. One held loses its stale mark when the
database is `fresh`, in LOCK with its EId. -/
def dbPut {α : Type} [DecidableEq α] (fresh : Bool) (cap key : Nat) (named : DbEnt α → Bool) (upd : Option α → α) (serial : Nat)
    (t : SMap (Option (DbEnt α))) : SMap (Option (DbEnt α)) × Bool × Bool :=
  match dbFind key t with
  | some (i, e) => (smSet (fun _ => none) t i (some ⟨key, upd (some e.body), e.stale && !fresh, serial⟩), false, false)
  | none =>
    let e : Option (DbEnt α) := some ⟨key, upd none, false, serial⟩
    match ((List.range cap).filter (fun i => (smGet (fun _ => none) t i).isNone)).head? with
    | some i => (smSet (fun _ => none) t i e, true, false)
    | none =>
      match leastBy (fun p => p.2.heard) ((dbAll t).filter (fun p => !named p.2)) with
      | some (i, _) => (smSet (fun _ => none) t i e, true, true)
      | none => (t, false, true)

/-- Change the body of an entry that is held, without counting as its reception. -/
def dbEdit {α : Type} [DecidableEq α] (key : Nat) (f : α → α) (t : SMap (Option (DbEnt α))) : SMap (Option (DbEnt α)) :=
  match dbFind key t with
  | some (i, e) => smSet (fun _ => none) t i (some { e with body := f e.body })
  | none => t

/-- Mark every entry stale (R255). -/
def dbStaleAll {α : Type} (t : SMap (Option (DbEnt α))) : SMap (Option (DbEnt α)) :=
  t.map (fun e => (e.1, e.2.map (fun x => { x with stale := true })))

/-- Keep the entries that satisfy `p`. -/
def dbKeep {α : Type} (p : DbEnt α → Bool) (t : SMap (Option (DbEnt α))) : SMap (Option (DbEnt α)) :=
  t.filter (fun e => match e.2 with | some x => p x | none => false)

/-- Some entry is stale. -/
def dbAnyStale {α : Type} (t : SMap (Option (DbEnt α))) : Bool := (dbAll t).any (fun p => p.2.stale)

/-- Some entry of the database of an ensemble is stale. -/
def DbeSt.anyStale (e : DbeSt) : Bool :=
  dbAnyStale e.subs || dbAnyStale e.svcs || dbAnyStale e.links || dbAnyStale e.freqs || dbAnyStale e.oes || dbAnyStale e.annSw ||
    e.labelStale || e.extStale || e.dateStale

/-- Receptions end stale marks: the ensemble is in LOCK, and FIG 0/0 has carried the EId of the database (R255). -/
def Dev.dbFreshens (d : Dev) (n : Nat) : Bool := d.locked n && (d.dbeOf n).sameEid

/-- A subchannel entry names that subchannel (R252). -/
def Dev.dscNames (d : Dev) (b subch : Nat) : Bool :=
  (List.range 48).any (fun n => (d.ctxEn 4 n || d.ctxManaged 4 n) && d.dscTarget n == (b, subch))

/-- An enabled programme has that identity (R252, R279). -/
def Dev.progNames (d : Dev) (id : Nat) : Bool :=
  id != 0 && (List.range 128).any (fun p => d.fbit R.PGT_CTL_EN p && (d.fget R.PGT_SID_ID p == id || d.fget R.PGT_PI_ID p == id))

/-- The shown counts of the database. -/
def Dev.dbShow (d : Dev) (n : Nat) : Dev := d.fput R.DBE_FIBQ_NSVC n ((dbAll (d.dbeOf n).svcs).length)

/-- A service or subchannel has been added or removed: the DB flag; an arrival restarts MCI (R253). -/
def Dev.dbChanged (d : Dev) (n : Nat) (new : Bool) : Dev :=
  let d := (d.dbeFlag n 2).dbShow n
  if new then (d.updDbe n (fun e => { e with newClk := d.time.clk })).fputB R.DBE_STAT_MCI n false else d

/-- A replacement or drop (R252). -/
def Dev.dbOverflow (d : Dev) (n : Nat) : Dev := (d.bump R.DAB_DB_OVF_COUNT).dbeCount n 5 1

/-- Clear the database of an ensemble (R255); its flags, counters and receiver stay. -/
def Dev.dbClear (d : Dev) (n : Nat) : Dev :=
  let had := !(dbAll (d.dbeOf n).svcs).isEmpty || !(dbAll (d.dbeOf n).subs).isEmpty
  let d := d.updDbe n (fun e => { e with
    label := {}, labelStale := false, ext := [], extStale := false, dateStale := false, subs := [], svcs := [], links := [], freqs := [], oes := [], annSw := [], nextSubs := [], nextSvcs := [],
    date := none, dateNew := none, change := 0, unchanged := none })
  let d := (((d.fputB R.DBE_STAT_STALE n false).fputB R.DBE_STAT_MCI n false).fputB R.DBE_STAT_RECONF n false).dbShow n
  onlyIf had (fun d => d.dbeFlag n 2) d

/-- The components of a service, at most 4 (R251). -/
def svcUpd (data : Bool) (comps : List DabComp) (o : Option DabSvc) : DabSvc :=
  match o with
  | some v => { v with data := data, comps := comps.take 4 }
  | none => { data := data, comps := comps.take 4 }

/-- Receive a subchannel of the current organisation. -/
def Dev.dbSub (d : Dev) (n id : Nat) (v : DabSub) : Dev :=
  let e := d.dbeOf n
  let (t, new, ovf) := dbPut (d.dbFreshens n) 64 id (fun x => d.dscNames n x.key) (fun _ => v) (e.serial + 1) e.subs
  let d := d.updDbe n (fun e => { e with subs := t, serial := e.serial + 1 })
  onlyIf ovf (fun d => d.dbOverflow n) (onlyIf new (fun d => d.dbChanged n true) d)

/-- Receive a service of the current organisation. -/
def Dev.dbSvc (d : Dev) (n sid : Nat) (data : Bool) (comps : List DabComp) : Dev :=
  let e := d.dbeOf n
  let named (x : DbEnt DabSvc) : Bool := d.progNames x.key || x.body.comps.any (fun c => d.dscNames n c.subch)
  let (t, new, ovf) := dbPut (d.dbFreshens n) 64 sid named (svcUpd data comps) (e.serial + 1) e.svcs
  let d := d.updDbe n (fun e => { e with svcs := t, serial := e.serial + 1 })
  onlyIf ovf (fun d => d.dbOverflow n) (onlyIf new (fun d => d.dbChanged n true) d)

/-- The length to which a UTF-8 text is cut so that no character is split: at most `k` bytes. -/
def utf8Len (text : List Nat) : Nat → Nat
  | 0 => 0
  | k + 1 => if text.length ≤ k + 1 then text.length else if text.getD (k + 1) 0 / 64 = 2 then utf8Len text k else k + 1

/-- An extended label of at most 64 bytes (R251). -/
def extCut (text : List Nat) : List Nat := text.take (utf8Len text 64)

/-- FIG 0/0 (R250, R254, R255): without change flags in two consecutive frames it cancels an announcement. -/
def Dev.figEnsemble (d : Dev) (n eid change cif occ : Nat) : Dev :=
  let e := d.dbeOf n
  let other := e.haveEid && d.fget R.DBE_EID_EID n != eid
  let d := onlyIf other (fun d => d.dbClear n) d
  let d := (d.updDbe n (fun e => { e with haveEid := true, sameEid := true, cif := cif })).fput R.DBE_EID_EID n eid
  let now := (d.dbeOf n).frameNo
  if change ≠ 0 then
    (d.updDbe n (fun e => { e with change := change, occurrence := occ, unchanged := none })).fputB R.DBE_STAT_RECONF n true
  else if d.fbit R.DBE_STAT_RECONF n then
    match (d.dbeOf n).unchanged with
    | some k =>
      if k + 1 = now then
        (d.updDbe n (fun e => { e with change := 0, unchanged := none, nextSubs := [], nextSvcs := [] })).fputB R.DBE_STAT_RECONF n false
      else d.updDbe n (fun e => { e with unchanged := some now })
    | none => d.updDbe n (fun e => { e with unchanged := some now })
  else d

/-- A FIG 0/10 record lies in range (R257). -/
def DabDate.ok (r : DabDate) : Bool :=
  decide (r.mjd < 2 ^ 17) && decide (r.hour ≤ 23) && decide (r.minute ≤ 59) &&
    (!r.long || (decide (r.second ≤ 59) && decide (r.ms ≤ 999)))

/-- Take one FIG into the database (R250, R251). -/
def Dev.fig (d : Dev) (n : Nat) (f : Fig) : Dev :=
  let e := d.dbeOf n
  match f with
  | .ensemble eid change cif occ => d.figEnsemble n eid change cif occ
  | .subch next id start size eep prot rate =>
    let v : DabSub := ⟨start, size, eep, prot, rate⟩
    if next then d.updDbe n (fun e => { e with nextSubs := smSet (fun _ => none) e.nextSubs id (some v) }) else d.dbSub n id v
  | .service next sid data comps =>
    if next then d.updDbe n (fun e => { e with nextSvcs := smSet (fun _ => none) e.nextSvcs sid (some { data := data, comps := comps.take 4 }) })
    else d.dbSvc n sid data comps
  | .linkage lsn active hard intl ids =>
    let key := lsn + 4096 * b2n hard + 8192 * b2n intl
    let named (x : DbEnt DabLink) : Bool := x.body.ids.any (fun i => d.progNames i.2)
    let (t, _, ovf) := dbPut (d.dbFreshens n) 32 key named (fun _ => ⟨lsn, active, hard, intl, ids.take 12⟩) (e.serial + 1) e.links
    onlyIf ovf (fun d => d.dbOverflow n) (d.updDbe n (fun e => { e with links := t, serial := e.serial + 1 }))
  | .date mjd hour minute long second ms =>
    d.updDbe n (fun e => { e with dateStale := e.dateStale && !d.dbFreshens n, dateNew := some { mjd := mjd, hour := hour, minute := minute, long := long, second := second, ms := ms } })
  | .annSupport sid flags clusters =>
    d.updDbe n (fun e => { e with svcs := dbEdit sid (fun v => { v with asu := flags, clusters := clusters }) e.svcs })
  | .annSwitch cluster flags =>
    let had := (dbFind cluster e.annSw).map (·.2.body)
    let (t, _, _) := dbPut (d.dbFreshens n) 16 cluster (fun _ => true) (fun _ => flags) (e.serial + 1) e.annSw
    let d := d.updDbe n (fun e => { e with annSw := t, serial := e.serial + 1 })
    onlyIf (had != (dbFind cluster t).map (·.2.body)) (fun d => d.dbeFlag n 4) d
  | .freqInfo id rm khz =>
    let (t, _, ovf) := dbPut (d.dbFreshens n) 48 (id * 16 + rm) (fun x => d.progNames (x.key / 16)) (fun _ => khz.take 8) (e.serial + 1) e.freqs
    onlyIf ovf (fun d => d.dbOverflow n) (d.updDbe n (fun e => { e with freqs := t, serial := e.serial + 1 }))
  | .oe sid eids =>
    let (t, _, ovf) := dbPut (d.dbFreshens n) 64 sid (fun x => d.progNames x.key) (fun _ => eids.take 4) (e.serial + 1) e.oes
    onlyIf ovf (fun d => d.dbOverflow n) (d.updDbe n (fun e => { e with oes := t, serial := e.serial + 1 }))
  | .ensLabel cs text short => d.updDbe n (fun e => { e with label := ⟨cs, text, short⟩, labelStale := e.labelStale && !d.dbFreshens n })
  | .svcLabel sid cs text short => d.updDbe n (fun e => { e with svcs := dbEdit sid (fun v => { v with label := some ⟨cs, text, short⟩ }) e.svcs })
  | .ensExt text => d.updDbe n (fun e => { e with ext := extCut text, extStale := e.extStale && !d.dbFreshens n })
  | .svcExt sid text => d.updDbe n (fun e => { e with svcs := dbEdit sid (fun v => { v with ext := extCut text }) e.svcs })

/-- `STAT.STALE` after a reception in LOCK (R255). -/
def Dev.dbFresh (d : Dev) (n : Nat) : Dev :=
  if d.locked n && (d.dbeOf n).sameEid then d.fputB R.DBE_STAT_STALE n (d.dbeOf n).anyStale else d

/-! ### Synchronisation -/

/-- An entry goes to WAIT; from FILL, as from RUN, that sets the RUN flag (R259). -/
def Dev.dscWait (d : Dev) (n : Nat) : Dev := (onlyIf (d.dscState n == 2) (fun d => d.dscFlag n 0) d).dscTo n 1

/-- An entry whose ensemble is lost: FILL and RUN, and REFUSED, go to WAIT (R259). -/
def Dev.dscLost (d : Dev) (n : Nat) : Dev :=
  if d.dscState n = 0 ∨ d.dscState n = 1 then d else (d.dscFree n true).dscWait n

/-- Every entry of the database of an ensemble is stale (R159, R255). -/
def Dev.dbStale (d : Dev) (n : Nat) : Dev :=
  (d.updDbe n (fun e => { e with
    subs := dbStaleAll e.subs, svcs := dbStaleAll e.svcs, links := dbStaleAll e.links, freqs := dbStaleAll e.freqs,
    oes := dbStaleAll e.oes, annSw := dbStaleAll e.annSw, labelStale := e.label != {}, extStale := !e.ext.isEmpty, dateStale := e.date.isSome })).fputB R.DBE_STAT_STALE n true

/-- The context leaves LOCK, for any reason (R53, R127, R255, R259), with the values of R248 that hold outside LOCK. -/
def Dev.dabUnlock (d : Dev) (n : Nat) : Dev :=
  let d := (((d.bicNullLost n).dbStale n).updDbe n (fun e => { e with sameEid := false, ctBase := none, ctStep := false })).dbeFlag n 0
  let d := d.each ((List.range 48).filter (fun m => d.dscState m != 0 && (d.dscOf m).block == n || (d.dscState m == 4 && (d.dscTarget m).1 == n)))
    (fun d m => d.dscLost m)
  (d.fput R.DBE_SNR_VALUE n 0x8000).fput R.DBE_FIBQ_ERR n 0xFF

/-- The OFDM receiver goes to SEARCH; from LOCK the rules of leaving LOCK apply. -/
def Dev.dabSearch (d : Dev) (n : Nat) : Dev :=
  let d := onlyIf (d.locked n) (fun d => d.dabUnlock n) d
  let d := d.updDbe n (fun e => { e with frames := 0, missed := 0, failed := 0, last12 := [], last120 := [], fic := [], dateNew := none })
  ((d.fput R.DBE_STAT_SYNC n 0).fput R.DBE_FOFS_VALUE n 0x8000).dabCounts

/-- LOCK is lost by the conditions of R244. -/
def Dev.dabLoss (d : Dev) (n : Nat) : Dev := ((d.bump R.DAB_SYNC_LOSS_COUNT).dbeCount n 3 1).dabSearch n

/-- Go to a state of R244 short of LOCK. -/
def Dev.dabTo (d : Dev) (n st : Nat) : Dev := (d.updDbe n (fun e => { e with frames := 0 })).fput R.DBE_STAT_SYNC n st

/-- Enter LOCK (R244). -/
def Dev.dabLock (d : Dev) (n : Nat) : Dev :=
  let d := d.progress 18
  ((((d.updDbe n (fun e => { e with missed := 0, failed := 0, lockClk := d.time.clk, ctBase := none, ctStep := false })).fput
    R.DBE_STAT_SYNC n 3).dbeFlag n 0).dbFresh n).dabCounts

/-- Show an optional measurement. -/
def Dev.dabShow (d : Dev) (f : Fld) (n : Nat) (lo hi : Int) (v : Option Int) : Dev :=
  match v with
  | some x => d.fput f n (unsgn 16 (clampInt lo hi x))
  | none => d

/-- The UTC of a long-form record in ms since MJD 0. -/
def DabDate.utc (r : DabDate) : Nat := ((r.mjd * 24 + r.hour) * 60 + r.minute) * 60000 + r.second * 1000 + r.ms

/-- The FIG 0/10 record of the frame before takes its time stamp (R257) and is judged for Monitor (R258). -/
def Dev.dabDate (d : Dev) (n : Nat) : Dev :=
  match (d.dbeOf n).dateNew with
  | none => d
  | some r =>
    let ok := r.ok
    let r := { r with time := d.time.stamp, accepted := ok }
    let e := d.dbeOf n
    if !ok then d.updDbe n (fun e => { e with dateNew := none, date := some r })
    else
      let pass := match e.ctBase with
        | some (u, t) =>
          decide (u < r.utc) && decide (((r.time : Int) - t) * 1000 - ((r.utc - u : Nat) : Int) * 2 ^ 32 ≤ 20 * 2 ^ 32) &&
            decide (-(20 * 2 ^ 32) ≤ ((r.time : Int) - t) * 1000 - ((r.utc - u : Nat) : Int) * 2 ^ 32)
        | none => false
      let stepped := e.ctStep && e.ctBase.isSome
      let chosen := d.fbit R.DAB_CT_EN && d.fget R.DAB_CT_DBE == n && d.locked n
      let offered := r.long && pass && !stepped && chosen
      let base := if !r.long then e.ctBase else if stepped then none else if e.ctBase.isSome && !pass then none else some (r.utc, r.time)
      let d := (d.updDbe n (fun e => { e with
        dateNew := none, date := some { r with offered := offered }, ctBase := base, ctStep := if r.long then false else e.ctStep })).dbeFlag n 3
      if offered then { d with ctOffer := (r.utc, r.time) :: d.ctOffer } else d

/-- Device time has stepped (R24): intervals of R258 that contain it do not count. -/
def Dev.dabStep (d : Dev) : Dev := { d with dbe := d.dbe.map (fun p => (p.1, { p.2 with ctStep := p.2.ctBase.isSome })) }

/-- DAB_FRAME (R244, R248, R257): one transmission frame of a context in RUN, at the null symbol that ends it. -/
def execDabFrame (n : Fin 41) (frame : DabFrame) (s : State) : Host.Outcome State Fault Refusal :=
  nextDev s (fun d =>
    if d.ctxState 2 n ≠ 3 then d
    else
      let d := ((d.dabDate n).updDbe n (fun e => { e with
        fic := [], frameNo := e.frameNo + 1, nullClk := d.time.clk })).bicNull n
      let k := (d.dbeOf n).frames + 1
      match d.dbeSync n with
      | 0 =>
        (match frame.dips with
         | some x => if ((x : Int) - 196608).natAbs ≤ 16 then d.dabTo n 1 else d
         | none => d)
      | 1 =>
        (match frame.prs with
         | some f => if f.natAbs ≤ 25000 then d.dabTo n 2 else if 2 ≤ k then d.dabSearch n else d.updDbe n (fun e => { e with frames := k })
         | none => if 2 ≤ k then d.dabSearch n else d.updDbe n (fun e => { e with frames := k }))
      | 2 =>
        let d := (d.dbeCount n 0 1).dabShow R.DBE_FOFS_VALUE n (-32767) 32767 frame.fofs
        if 10 ≤ k then d.dabSearch n else d.updDbe n (fun e => { e with frames := k })
      | _ =>
        let d := ((d.dbeCount n 0 1).dabShow R.DBE_FOFS_VALUE n (-32767) 32767 frame.fofs).dabShow R.DBE_SNR_VALUE n 0 400 frame.snr
        let l := (d.dbeOf n).last120
        let d := onlyIf (!l.isEmpty) (fun d => d.fput R.DBE_FIBQ_ERR n (divNear (100 * (l.filter (!·)).length) l.length)) d
        let miss := if frame.null then 0 else (d.dbeOf n).missed + 1
        if 5 ≤ miss then d.dabLoss n else d.updDbe n (fun e => { e with missed := miss }))

/-! ### Ferson class 3 -/

/-- The fragments of a data unit: at most 1,984 bytes each (R343). -/
def fragments (data : List Nat) : List (List Nat) :=
  (List.range ((data.length + 1983) / 1984)).map (fun i => (data.drop (1984 * i)).take 1984)

/-- Send a data unit to Ferson class 3 (R343): kind 2 a logical frame, 3 an X-PAD data group. -/
def Dev.mscPacket (d : Dev) (stream kind cif block subch time : Nat) (mark : Bool) (data : List Nat) : Dev :=
  let parts := fragments data
  d.each parts.zipIdx (fun d p =>
    d.formPacket ⟨d.time.clk, 3, stream, time, mark, (p.1.length + 63) / 64,
      .bytes ([kind, p.2, parts.length] ++ beWord p.1.length ++ beWord cif ++ [block, subch] ++ List.replicate 55 0 ++ p.1)⟩)

/-- The FIC packet of a frame (R251, R343), while the stream is selected (`out`): of all its FIBs, or of those it holds when the selection ends (R338). -/
def Dev.ficPacket (d : Dev) (n : Nat) (out : Bool) : Dev :=
  let e := d.dbeOf n
  let all := d.fbit R.DBE_CTL_FIC_ALL n
  let map := e.fic.foldl (fun v p => v * 2 + b2n p.1) 0 * 2 ^ (12 - e.fic.length)
  let body := e.fic.flatMap (fun p => if p.1 || all then p.2 else List.replicate 32 0)
  let body := body ++ List.replicate (384 - body.length) 0
  let d := d.updDbe n (fun e => { e with fic := [] })
  if out then
    d.formPacket ⟨d.time.clk, 3, n, e.ficTime, e.fic.any (fun p => !p.1), 6,
      .bytes ([1, 0, 1] ++ beWord 384 ++ beWord e.cif ++ [n, 0xFF] ++ beWord map ++ List.replicate 53 0 ++ body)⟩
  else d

/-- SYS cycles from the start of a null symbol to that of the first FIC symbol: 2,656 and 2,552 samples at 2.048 MS/s (R343; PRESUMED, log entry 21). -/
def ficLead : Nat := 5208 * 144

/-- FIB (R244, R248, R250 to R255): one FIB of a context in FINE or LOCK, with the FIGs that it carries. -/
def execFib (n : Fin 41) (pass : Bool) (data : List Byte) (figs : List Fig) (s : State) : Host.Outcome State Fault Refusal :=
  nextDev s (fun d =>
    if d.ctxState 2 n ≠ 3 ∨ d.dbeSync n < 2 then d
    else
      let d := onlyIf (!pass) (fun d => d.dbeCount n 2 1) (d.dbeCount n 1 1)
      let d := d.updDbe n (fun e => { e with
        last12 := (pass :: e.last12).take 12
        last120 := if d.blockBlank || d.blockOvl (d.ctxOf 2 n).inputs then e.last120 else (pass :: e.last120).take 120
        ficTime := if e.fic.isEmpty then d.blockStamp (d.time.clk - min d.time.clk (e.nullClk + ficLead)) else e.ficTime
        fic := e.fic ++ [(pass, (data.map BitVec.toNat ++ List.replicate 32 0).take 32)]
        failed := if pass then 0 else e.failed + 1 })
      let d := if pass then (d.each figs (fun d f => d.fig n f)).dbFresh n else d
      let d := if (d.dbeOf n).fic.length = 12 then d.ficPacket n (d.fbit R.DBE_CTL_FIC_OUT n) else d
      let e := d.dbeOf n
      if d.dbeSync n = 2 && decide (6 ≤ (e.last12.filter id).length) then d.dabLock n
      else if d.locked n && decide (125 ≤ e.failed) then d.dabLoss n
      else d)

/-- MCI_COMPLETE (R253): of an ensemble that has been received, nothing new for 1 s, and every SubChId that a component names is known. -/
def execMciComplete (n : Fin 41) (s : State) : Host.Outcome State Fault Refusal :=
  nextDev s (fun d =>
    let e := d.dbeOf n
    let known := (dbAll e.svcs).all (fun p => p.2.body.comps.all (fun c => (dbFind c.subch e.subs).isSome))
    if e.haveEid && known && decide (Config.sysPerSecond ≤ d.since e.newClk) then d.fputB R.DBE_STAT_MCI n true else d)

/-- DB_AGE_OUT (R255): `DAB_CFG.AGE` seconds after LOCK with the same EId, entries not received since are removed. -/
def execDbAgeOut (n : Fin 41) (s : State) : Host.Outcome State Fault Refusal :=
  nextDev s (fun d =>
    let e := d.dbeOf n
    if d.locked n && e.sameEid && decide (d.fget R.DAB_CFG_AGE * Config.sysPerSecond ≤ d.since e.lockClk) then
      let gone := dbAnyStale e.subs || dbAnyStale e.svcs
      let d := d.updDbe n (fun e => { e with
        subs := dbKeep (fun x => !x.stale) e.subs, svcs := dbKeep (fun x => !x.stale) e.svcs, links := dbKeep (fun x => !x.stale) e.links,
        freqs := dbKeep (fun x => !x.stale) e.freqs, oes := dbKeep (fun x => !x.stale) e.oes, annSw := dbKeep (fun x => !x.stale) e.annSw
        label := if e.labelStale then {} else e.label, labelStale := false, ext := if e.extStale then [] else e.ext, extStale := false
        date := if e.dateStale then none else e.date, dateStale := false })
      (onlyIf gone (fun d => d.dbChanged n false) d).dbFresh n
    else d)

/-! ### Context states -/

/-- What a block boundary means for the receiver of an ensemble context that was in state `old` (R244, R248, R249, R255). A
shed reference ensemble leaves a commit its scheduled null symbol (R54). -/
def Dev.dbeBoundary (d : Dev) (n old : Nat) (power : Option Nat) : Dev :=
  let st := d.ctxState 2 n
  let c := d.ctxOf 2 n
  let d := if old ≠ 3 ∧ st = 3 then d.dabSearch n else if old = 3 ∧ st ≠ 3 then d.dabSearch n else d
  let d := if old ≠ 4 ∧ st = 4 then d.dbStale n else d
  let d := if old ≠ 0 ∧ st = 0 then (d.dbClear n).updDbe n (fun e => { e with haveEid := false }) else d
  let d := if old ≠ 2 ∧ st = 2 then d.updDbe n (fun e => { e with counts := [] }) else d
  let d := if old = 3 ∧ st = 3 then d else d.updDbe n (fun e => { e with pows := [] })
  match power with
  | some v =>
    if st = 3 && !d.blockBlank && !d.blockOvl c.inputsWas then
      let pows := (v :: (d.dbeOf n).pows).take 10
      let v := d.levelDbuv c.src pows
      let d := (d.updDbe n (fun e => { e with pows := pows })).fput R.DBE_LEVEL_VALUE n (unsgn 16 v)
      let th := d.fget R.DBE_CFG_LOW_TH n
      if th = 0 then d.fputB R.DBE_STAT_LOW n false
      else if d.fbit R.DBE_STAT_LOW n then
        if ((10 * th : Nat) : Int) + 30 ≤ v then d.fputB R.DBE_STAT_LOW n false else d
      else if v < ((10 * th : Nat) : Int) then (d.fputB R.DBE_STAT_LOW n true).dbeFlag n 6
      else d
    else d
  | none => d

/-- `STAT.CXA` of an ensemble context follows the transmission (R51, R247). -/
def Dev.dbeCxa (d : Dev) (n : Nat) (on : Bool) : Dev :=
  if on && !d.fbit R.DBE_STAT_CXA n then (d.fputB R.DBE_STAT_CXA n true).dbeFlag n 5 else d.fputB R.DBE_STAT_CXA n on

/-- Every DAB block that contains the alias of a transmission is flagged, for as long as the blanking window is open (R51, R247). -/
def Dev.cxFlags (d : Dev) : Dev :=
  d.each (List.range 41) (fun d n =>
    let hit := match d.cx.image with
      | some a => decide ((a - 2 * dbeCentre n).natAbs ≤ 1536)
      | none => false
    if hit = d.fbit R.DBE_STAT_CXA n then d else d.dbeCxa n hit)

/-- A blanking window opens: every CIF in progress lies within it (R271). -/
def Dev.dabBlank (d : Dev) : Dev := { d with dbe := d.dbe.map (fun p => (p.1, { p.2 with cifBlank := true })) }

/-! ### CIF -/

/-- The switch to the next organisation (R254). -/
def Dev.dabSwitch (d : Dev) (b : Nat) : Dev :=
  let e := d.dbeOf b
  let subs := bitAt e.change 0
  let svcs := bitAt e.change 1
  let goneSubs := (dbAll e.subs).filter (fun p => (smGet (fun _ => none) e.nextSubs p.2.key).isNone)
  let goneSvcs := (dbAll e.svcs).filter (fun p => (smGet (fun _ => none) e.nextSvcs p.2.key).isNone)
  let gone := (subs && !goneSubs.isEmpty) || (svcs && !goneSvcs.isEmpty)
  let d := d.updDbe b (fun e => { e with
    subs := if subs then dbKeep (fun x => (smGet (fun _ => none) e.nextSubs x.key).isSome) e.subs else e.subs
    svcs := if svcs then dbKeep (fun x => (smGet (fun _ => none) e.nextSvcs x.key).isSome) e.svcs else e.svcs })
  let d := if subs then d.each e.nextSubs (fun d p => match p.2 with | some v => d.dbSub b p.1 v | none => d) else d
  let d := if svcs then d.each e.nextSvcs (fun d p => match p.2 with | some v => d.dbSvc b p.1 v.data v.comps | none => d) else d
  let d := onlyIf gone (fun d => d.dbChanged b false) d
  let d := d.updDbe b (fun e => { e with nextSubs := [], nextSvcs := [], change := 0, unchanged := none })
  (((d.fputB R.DBE_STAT_RECONF b false).dbeFlag b 1).bump R.DAB_RECONF_COUNT).dbeCount b 4 1

/-- The subchannel in the current organisation of its ensemble. -/
def Dev.subOf (d : Dev) (b subch : Nat) : Option DabSub := (dbFind subch (d.dbeOf b).subs).map (fun p => p.2.body)

/-- The service component that a subchannel carries. -/
def Dev.compOf (d : Dev) (b subch : Nat) : Option DabComp :=
  ((dbAll (d.dbeOf b).svcs).flatMap (fun p => p.2.body.comps.filter (fun c => c.subch == subch))).head?

/-- CODING of a subchannel (R266, R267): 1 Layer II, 2 DAB+, 3 data, 0 unknown. -/
def Dev.codingOf (d : Dev) (b subch : Nat) : Nat :=
  match d.compOf b subch with
  | none => 0
  | some c => if c.tmid ≠ 0 then 3 else if c.kind = 0 then 1 else if c.kind = 63 then 2 else 0

/-- The Bullfrog engines run their Tadpole baseline: no HE-AAC v2. -/
def Dev.bullfrogBase (d : Dev) : Bool := bitAt d.boot.tadpole 3

/-- Enabling, disabling, granting and releasing of an entry (R259 and the pinning rules of R153 read for DSC). -/
def Dev.dscSettle (d : Dev) (n : Nat) : Dev :=
  let en := d.ctxEn 4 n
  let d := if en && d.ctxManaged 4 n then (d.mgdEnd 4 n).bumpEvt R.CHN_MGD_PREEMPT_COUNT R.CHN_EVT_PREEMPT else d
  if d.ctxManaged 4 n && ((d.ctxOf 4 n).release || (d.ctxOf 4 n).releaseCmd) then (((d.mgdEnd 4 n).dscOff n).event R.CHN_EVT_MGD_RELEASE)
  else if !en && !d.ctxManaged 4 n then (if d.dscState n = 0 then d else d.dscOff n)
  else if d.dscState n = 0 then (d.dscTo n 1).mgdGranted 4 n
  else d

/-- An entry of an ensemble that is not in LOCK (R85): its changes take effect at once. -/
def Dev.dscIdle (d : Dev) (n : Nat) : Dev :=
  if d.locked (d.dscTarget n).1 then d
  else
    let d := d.dscSettle n
    if d.dscState n = 0 then d.dabCounts
    else ((d.dscLost n).updDsc n (fun e => { e with block := (d.dscTarget n).1, subch := (d.dscTarget n).2 })).dabCounts

/-- Begin FILL with a subchannel (R259, R260, R265). -/
def Dev.dscFill (d : Dev) (n : Nat) (v : DabSub) : Dev :=
  let t := d.dscTarget n
  let d := d.updDsc n (fun e => { e with
    block := t.1, subch := t.2, sub := some v, cu := v.size, fill := 0, counts := [], last100 := [], dls := {} })
  (d.fputB R.DSC_STAT_DLS n false).dscTo n 2

/-- FILL or RUN under a changed setting or organisation, and the progress of FILL (R259, R265). -/
def Dev.dscProgress (d : Dev) (n : Nat) : Dev :=
  if !d.dscUp n || d.fbit R.DSC_STAT_MIRROR n then d
  else
    let e := d.dscOf n
    let t := d.dscTarget n
    if t ≠ (e.block, e.subch) then (d.dscFree n).dscTo n 1
    else
      match d.subOf t.1 t.2 with
      | none => (d.dscFree n).dscWait n
      | some v =>
        if e.sub.map (fun o => (o.size, o.eep, o.prot)) ≠ some (v.size, v.eep, v.prot) then (d.dscFree n).dscFill n v
        else
        let d := d.updDsc n (fun e => { e with sub := some v })
        if d.dscState n = 2 then
          let d := d.updDsc n (fun e => { e with fill := e.fill + 1 })
          if 16 ≤ (d.dscOf n).fill then d.dscTo n 3 else d
        else d

/-- An entry leaves for REFUSED (R259, R262). -/
def Dev.dscRefuse (d : Dev) (n : Nat) : Dev := (((d.dscFree n).dscTo n 4).dscFlag n 1).bump R.DAB_REFUSED_COUNT

/-- The entry that leaves first by R262: managed before pinned, the higher index first. -/
def Dev.ejectNext (d : Dev) : Option Nat :=
  leastBy (fun n => b2n (!d.ctxManaged 4 n) * 64 + (63 - n)) ((List.range 48).filter (fun n => (d.dscOf n).cu != 0))

/-- Entries leave until the CU fit (R262). -/
def Dev.ejectAll (d : Dev) : Nat → Dev
  | 0 => d
  | k + 1 =>
    if d.cuUsed ≤ 3456 then d
    else match d.ejectNext with
      | some n => Dev.ejectAll (d.dscRefuse n) k
      | none => d

/-- The lower-indexed entry that an entry mirrors (R263). -/
def Dev.mirrored (d : Dev) (n : Nat) : Option Nat :=
  (List.range n).find? (fun m => d.dscUp m && !d.fbit R.DSC_STAT_MIRROR m && d.dscTarget m == d.dscTarget n)

/-- Judge one entry in REFUSED or WAIT, or one that mirrors (R259, R260, R263). -/
def Dev.dscJudge (d : Dev) (n : Nat) : Dev :=
  if d.dscState n = 0 then d
  else
    match d.mirrored n with
    | some m =>
      let d := if d.fbit R.DSC_STAT_MIRROR n then d else d.dscFree n
      let d := (d.fputB R.DSC_STAT_MIRROR n true).updDsc n (fun e => { e with block := (d.dscTarget n).1, subch := (d.dscTarget n).2 })
      let st := d.dscState m
      if d.dscState n = st then d else (onlyIf (st == 2) (fun d => d.updDsc n (fun e => { e with counts := [] })) d).dscTo n st
    | none =>
      let d := if d.fbit R.DSC_STAT_MIRROR n then (d.dscFree n).dscTo n 1 else d
      if d.dscUp n then d
      else
        let t := d.dscTarget n
        match d.subOf t.1 t.2 with
        | none => if d.dscState n = 4 then d.dscTo n 1 else d
        | some v =>
          if d.cuUsed + v.size ≤ 3456 then d.dscFill n v
          else if d.dscState n = 4 then d
          else d.dscRefuse n

/-- A pinned entry in REFUSED ends the managed entry with the highest index that holds CU (R261). -/
def Dev.dscPreempt (d : Dev) (b : Nat) : Dev :=
  if (List.range 48).any (fun n => d.dscState n == 4 && !d.ctxManaged 4 n && (d.dscTarget n).1 == b) then
    match ((List.range 48).reverse.filter (fun n => d.ctxManaged 4 n && (d.dscOf n).cu != 0)).head? with
    | some m => (((d.mgdEnd 4 m).dscOff m).bump R.DAB_PREEMPT_COUNT)
    | none => d
  else d

/-- CODING of an entry in RUN (R266, R267, R272): a change frees the slot and sets the TYPE flag. -/
def Dev.dscCoding (d : Dev) (n : Nat) : Dev :=
  let t := d.dscTarget n
  let coding := d.codingOf t.1 t.2
  let d := if coding = d.fget R.DSC_STAT_CODING n then d
    else
      let d := onlyIf (d.dscOf n).coded (fun d => (d.dscSlotFree n).dscFlag n 7) d
      (d.fput R.DSC_STAT_CODING n coding).updDsc n (fun e => { e with noSlot := false })
  d.updDsc n (fun e => { e with coded := e.coded || (d.compOf t.1 t.2).isSome })

/-- The coding of an entry and its decode slot (R267, R272); `held` are the slots taken before this CIF. A mirror takes no slot (R263). -/
def Dev.dscSlot (held : List Nat) (d : Dev) (n : Nat) : Dev :=
  if d.dscState n ≠ 3 then d
  else if d.fbit R.DSC_STAT_MIRROR n then d.dscCoding n
  else
    let was := d.fget R.DSC_STAT_CODING n
    let d := d.dscCoding n
    let coding := d.fget R.DSC_STAT_CODING n
    let audio := d.fbit R.DSC_CTL_AUDIO n || d.ctxManaged 4 n
    if !audio || coding = 0 || coding = 3 then
      (if (d.dscOf n).slot.isSome then d.dscSlotFree n else d).updDsc n (fun e => { e with noSlot := false })
    else
      let d :=
        if (d.dscOf n).slot.isSome then d
        else
          match ((List.range 16).filter (fun s => !held.contains s && !(List.range 48).any (fun m => (d.dscOf m).slot == some s))).head? with
          | some s => (d.updDsc n (fun e => { e with slot := some s, noSlot := false, queue := [], build := [], drain := 0, sync := false, heard := was == 1 || was == 2 })).fput R.DSC_STAT_SLOT n s
          | none => if (d.dscOf n).noSlot then d else (d.updDsc n (fun e => { e with noSlot := true })).dscFlag n 5
      d.fputB R.DSC_STAT_PCM n ((d.dscOf n).slot.isSome && !(coding == 2 && d.bullfrogBase))

/-- What the CIF that has ended carried enters the de-interleaver of an entry in FILL or RUN (R264). -/
def Dev.dscTake (d : Dev) (frames : List DscFrame) (n : Nat) : Dev :=
  if d.dscUp n && !d.fbit R.DSC_STAT_MIRROR n then
    let bits := ((frames.find? (fun f => f.n == n)).map (fun f => f.bits.map BitVec.toNat)).getD []
    d.updDsc n (fun e => { e with inter := (bits :: e.inter).take 16 })
  else d

/-- The bytes of a logical frame of `rate` kbit/s, of 24 ms, with the bits that `f` gives. -/
def mscBytes (rate : Nat) (f : Nat → Bool) : List Nat :=
  (List.range (3 * rate)).map (fun i => (List.range 8).foldl (fun v j => 2 * v + b2n (f (8 * i + j))) 0)

/-- The logical frame that the last 16 CIFs give an entry (R264). -/
def DscSt.logical (e : DscSt) : List Nat :=
  match e.sub with
  | some v => mscBytes v.rate (Config.msc v.eep v.prot v.rate e.inter.reverse)
  | none => []

/-- Deliver the logical frame of an entry in RUN, carried by the CIF 16 before (R265, R266, R19, R271). -/
def Dev.dscDeliver (d : Dev) (n cif ber : Nat) (data : List Nat) : Dev :=
  if d.dscState n ≠ 3 then d
  else
    let t := d.dscTarget n
    let c := (cif + 5000 - 16) % 5000
    let time := d.blockStamp (msCycles 384)
    let clk := d.blockClk (msCycles 384)
    let blanked := decide ((d.dbeOf t.1).blankAge < 16)
    let d := ((d.dscCount n 1 1).fput R.DSC_QUAL_BER n (min ber 80)).fputB R.DSC_STAT_BLANKED n blanked
    let d := onlyIf (d.fbit R.DSC_CTL_MSC_OUT n) (fun d => d.mscPacket (0x100 + n) 2 c t.1 t.2 time blanked data) d
    if d.fbit R.DSC_STAT_PCM n then
      let d := if (d.dscOf n).queue.length < 4 then d
        else ((d.updDsc n (fun e => { e with queue := e.queue.drop 1, lost := true })).dscCount n 6 1).dscFlag n 6
      d.updDsc n (fun e => { e with queue := e.queue ++ [(c, time, clk, blanked)] })
    else d

/-- CIF (R254, R259 to R267, R271): a CIF of an ensemble in LOCK begins, with what the one before it carried. -/
def execCif (n : Fin 41) (count : Fin 5000) (frames : List DscFrame) (s : State) : Host.Outcome State Fault Refusal :=
  nextDev s (fun d =>
    let b := (n : Nat)
    if !d.locked b then d
    else
      let d := d.updDbe b (fun e => { e with
        cif := count, blankAge := if e.cifBlank then 0 else min (e.blankAge + 1) 16, cifBlank := d.blanking })
      let held := (List.range 48).filterMap (fun m => (d.dscOf m).slot)
      let d := if d.fbit R.DBE_STAT_RECONF b && decide ((count : Nat) % 256 = (d.dbeOf b).occurrence) then d.dabSwitch b else d
      let on := d.dscOn b
      let d := d.each on (fun d m => d.dscTake frames m)
      let d := d.each on Dev.dscSettle
      let d := d.each on Dev.dscProgress
      let d := d.ejectAll 48
      let d := d.each on Dev.dscJudge
      let d := d.each on (Dev.dscSlot held)
      let d := d.each (on.filter d.dscUp) (fun d m => d.dscCount m 0 1)
      let d := d.each (on.filter (fun m => d.dscState m == 3 && !d.fbit R.DSC_STAT_MIRROR m)) (fun d m =>
        let ber := ((frames.find? (fun f => f.n == m)).map (·.ber)).getD 0
        let data := (d.dscOf m).logical
        d.each (m :: on.filter (fun k => d.fbit R.DSC_STAT_MIRROR k && d.dscTarget k == d.dscTarget m)) (fun d k => d.dscDeliver k count ber data))
      let d := d.each on (fun d m => onlyIf (d.fbit R.DSC_STAT_CONCEAL m &&
        decide (Config.sysPerSecond < d.time.clk + 1 - (d.dscOf m).concealClk)) (fun d => d.fputB R.DSC_STAT_CONCEAL m false) d)
      let d := d.dscPreempt b
      let d := (d.each (on.filter (fun m => d.fbit R.DSC_STAT_MIRROR m && (d.mirrored m).isNone)) Dev.dscJudge).dabCounts
      d.each on (fun d m => d.progress (4096 + 6 * 256 + m)) |>.progress 18)

/-! ### Audio frames -/

/-- Publish the Dynamic Label when all its segments have arrived (R273, R274). -/
def Dev.dlsTry (d : Dev) (n charset : Nat) : Dev :=
  let s := (d.dscOf n).dls
  match s.last, s.toggle with
  | some last, some tog =>
    let parts := (List.range (last + 1)).map (fun i => smGet (fun _ => none) s.segs i)
    if parts.all (·.isSome) then
      let text := (parts.flatMap (fun p => p.getD [])).take 128
      let new := match s.pub with | some (_, _, t, _) => t != text | none => true
      let had := !s.tags.isEmpty
      let d := d.updDsc n (fun e => { e with dls := { s with
        segs := [], last := none, pub := some (tog, charset, text, d.time.sec), tags := if new then [] else s.tags } })
      let d := d.fputB R.DSC_STAT_DLS n true
      onlyIf (new && had) (fun d => d.dscFlag n 4) (onlyIf new (fun d => d.dscFlag n 3) d)
    else d
  | _, _ => d

/-- One item of programme-associated data (R273 to R275), from the logical frames `took`. -/
def Dev.padItem (d : Dev) (n : Nat) (took : List (Nat × Nat × Nat × Bool)) (p : PadItem) : Dev :=
  match p with
  | .segment tog no last charset text =>
    let d := d.updDsc n (fun e => { e with dls :=
      let s := if e.dls.toggle == some tog then e.dls else { e.dls with toggle := some tog, segs := [], last := none }
      { s with segs := smSet (fun _ => none) s.segs no (some text), last := some last } })
    d.dlsTry n charset
  | .remove =>
    let had := !(d.dscOf n).dls.tags.isEmpty
    onlyIf had (fun d => d.dscFlag n 4) ((d.updDsc n (fun e => { e with dls := {} })).fputB R.DSC_STAT_DLS n false)
  | .tags l =>
    if (d.dscOf n).dls.pub.isSome then
      let changed := (d.dscOf n).dls.tags != l.take 4
      onlyIf changed (fun d => d.dscFlag n 4) (d.updDsc n (fun e => { e with dls := { e.dls with tags := l.take 4 } }))
    else d
  | .group data k =>
    let (cif, time, _, mark) := took.getD k (took.headD (0, 0, 0, false))
    onlyIf (d.fbit R.DSC_CTL_PAD_OUT n) (fun d => d.mscPacket (0x200 + n) 3 cif (d.dscTarget n).1 (d.dscTarget n).2 time mark (data.map BitVec.toNat)) d

/-- One frame or access unit (R269): its audio of `len` samples. A concealed one repeats the audio of the newest good frame, from the second on
6 dB lower each; after 4 the output is muted until a good frame ramps in. -/
def Dev.dscUnit (d : Dev) (n len : Nat) (good : Bool) (pcm : List (Int × Int)) : List (Int × Int) × Dev :=
  let e := d.dscOf n
  if good then
    ((if 4 ≤ e.conceal then pcm.zipIdx.map (fun p => if p.2 < 48 then both (fun x => line 48 p.2 0 x) p.1 else p.1) else pcm),
      d.updDsc n (fun e => { e with conceal := 0, prev := pcm }))
  else
    let g := dbAmp (-600 * (e.conceal : Int))
    let first := e.conceal == 0 && e.concealSec != d.time.sec + 1
    let d := d.updDsc n (fun e => { e with conceal := e.conceal + 1, concealClk := d.time.clk + 1, concealSec := if first then d.time.sec + 1 else e.concealSec })
    ((List.range len).map (fun k => if 4 ≤ e.conceal then (0, 0) else both (scaled g) (e.prev.getD k (0, 0))),
      onlyIf first (fun d => d.dscFlag n 2) (((d.dscCount n 5 1)).fputB R.DSC_STAT_CONCEAL n true))

/-- The audio of all units of a frame, in order. -/
def Dev.dscUnits (n len : Nat) (pcm : List (Int × Int)) : List Bool → Dev → List (Int × Int) × Dev
  | [], d => ([], d)
  | u :: l, d =>
    let (a, d) := d.dscUnit n len u ((pcm ++ List.replicate len (0, 0)).take len)
    let (b, d) := Dev.dscUnits n len (pcm.drop len) l d
    (a ++ b, d)

/-- The memory of the resampler of entry `n` (R15). -/
def dscKey (n : Nat) : Nat := 2 ^ 23 + n

/-- Deliver the PCM of `logical` logical frames, of 24 ms each, with the mark and the time of every block (R269 to R271, R341); what is decoded at
another rate is resampled to 48 kHz (R15). -/
def Dev.dscAudio (d : Dev) (n logical time start : Nat) (plus : Bool) (units : List Bool) (khz : Nat) (pcm : List (Int × Int)) (blanked missing : Bool) : Dev :=
  let total := 24 * logical
  let bad (i : Nat) : Bool := !(units.getD (i * units.length / total) true)
  let markOf (i : Nat) : Nat := if missing then 2 else if bad i then 1 else if blanked then 3 else 0
  let (pcm, d) := if missing || khz = 48 then (pcm, d) else d.filter2 (dscKey n) 24 khz (48 * total) pcm
  let (audio, d) := if missing then ([], d) else Dev.dscUnits n (48 * total / max units.length 1) (pcm.map (both sat24)) units d
  let frames := (List.range logical).map (fun j => (List.range 24).any (fun i => bad (24 * j + i)))
  let d := d.updDsc n (fun e => { e with last100 := (frames.reverse ++ e.last100).take 100 })
  let l := (d.dscOf n).last100
  let d := onlyIf (d.dscState n == 3) (fun d => d.fput R.DSC_QUAL_FER n (divNear (100 * (l.filter id).length) l.length)) d
  let blk (i : Nat) : Blk :=
    ⟨stampPlus time i, markOf i, if missing then [] else (audio.drop (48 * i)).take 48, start + msCycles ((if plus then 500 else 400) + i)⟩
  d.updDsc n (fun e => { e with pend := e.pend ++ (List.range total).map blk })

/-- The blocks of a service that have become available enter its ring of 8 and its class 1 stream (R19, R270, R340); once the entry has left RUN and
none is to come, the packet in assembly is completed. -/
def Dev.dscFlow (d : Dev) (n : Nat) : Dev :=
  let e := d.dscOf n
  let now := e.pend.filter (fun b => d.reached b.ready)
  let d := if now.isEmpty then d else d.updDsc n (fun e =>
    let all := e.ring ++ now
    { e with pend := e.pend.filter (fun b => !d.reached b.ready), ring := all.drop (all.length - 8), overrun := e.overrun + (all.length - 8) })
  let d := if d.mapSel 3 n then d.each now (fun d b => d.pcmBlock (0x300 + n) b (d.dscInfo n)) else d
  if d.mapSel 3 n && (d.dscState n == 3 || !(d.dscOf n).pend.isEmpty) then d else d.pcmFlush (0x300 + n)

/-- What a Bullfrog makes of one frame, or superframe, of the logical frames `took`, of which there should be `k` (R267 to R275). Where one of them was
discarded at the hand-off, what it makes is concealed (R19). -/
def Dev.dscFrame (d : Dev) (n k : Nat) (plus : Bool) (took : List (Nat × Nat × Nat × Bool)) (frame : AudioFrame) : Dev :=
  let e := d.dscOf n
  let head := took.headD (0, 0, 0, false)
  let ahead := if plus then head.1 % 5 else 0
  let time := stampBack head.2.1 (24 * ahead)
  let start := head.2.2.1 - msCycles (24 * ahead)
  let blanked := took.any (fun q => q.2.2.2)
  let units := if frame.units.isEmpty then [true] else frame.units
  let failed := units.map (fun _ => false)
  let fine := units.map (fun _ => true)
  let play (units : List Bool) (missing : Bool) (d : Dev) : Dev := d.dscAudio n k time start plus units frame.khz frame.pcm blanked missing
  if took.length < k then play failed false d
  else
    let d := d.updDsc n (fun e => { e with stereo := frame.stereo })
    let d := (d.dscCount n 2 ((frame.words.map (fun w => (w.map Fin.val).getD 0)).foldl (· + ·) 0)).dscCount n 3 ((frame.words.filter (·.isNone)).length)
    let d := d.each frame.pad (fun d p => d.padItem n took p)
    if frame.syncLost then play fine true (d.updDsc n (fun e => { e with sync := false, fails := 0, conceal := 0, prev := [] }))
    else if plus && !frame.fire then
      if e.sync then
        let d := (d.dscCount n 4 1).updDsc n (fun x => { x with fails := x.fails + 1, sync := decide (x.fails + 1 < 3) })
        play failed false (if (d.dscOf n).sync then d else d.updDsc n (fun x => { x with fails := 0 }))
      else onlyIf e.heard (play fine true) d
    else play (if e.lost && !plus then failed else units) false (d.updDsc n (fun x => { x with sync := true, fails := 0, heard := true }))

/-- AUDIO_FRAME_DECODE (R267 to R275): a Bullfrog takes the logical frames of its slot from the hand-off, and decodes a Layer II frame, or a DAB+
superframe once it has reached its end. -/
def execAudioFrameDecode (n : Fin 48) (frame : AudioFrame) (s : State) : Host.Outcome State Fault Refusal :=
  nextDev s (fun d =>
    let drain := (d.dscOf n).drain
    if drain = 0 && (d.dscState n ≠ 3 || !d.fbit R.DSC_STAT_PCM n) then d
    else
      let coding := if drain = 0 then d.fget R.DSC_STAT_CODING n else drain
      let e := d.dscOf n
      let d :=
        if coding = 2 then
          let (mine, rest, atEnd) := e.super
          if atEnd then (d.updDsc n (fun e => { e with build := [], queue := rest })).dscFrame n 5 true mine frame
          else d.updDsc n (fun e => { e with build := mine, queue := [] })
        else
          let k := if frame.low then 2 else 1
          if e.queue.length < k then d
          else ((d.updDsc n (fun e => { e with queue := e.queue.drop k })).dscFrame n k false (e.queue.take k) frame).updDsc n (fun e => { e with lost := false })
      if drain ≠ 0 && !(d.dscOf n).whole drain then
        d.updDsc n (fun e => { e with queue := [], build := [], lost := false, drain := 0, prev := [], conceal := 0 })
      else d)

/-! ### Flags and the mailbox -/

/-- `DAB_FLAG_NEXT` (R276). -/
def Dev.dabFlagNext (d : Dev) : Nat :=
  match ((List.range 41).filter (fun n => (d.dbeOf n).flags != 0)).head? with
  | some n => 0x8000 + n
  | none =>
    match ((List.range 48).filter (fun n => (d.dscOf n).flags != 0)).head? with
    | some n => 0x9000 + n
    | none => 0

/-- The flags of the entry in `DAB_FLAG_CTX`. -/
def Dev.dabFlags (d : Dev) : Nat :=
  let n := d.fget R.DAB_FLAG_CTX_INDEX
  if d.fget R.DAB_FLAG_CTX_POOL = 0 then (d.dbeOf n).flags else (d.dscOf n).flags

/-- A write of 1 bits to `DAB_FLAG` (R276). -/
def Dev.dabFlagClear (d : Dev) (bits : Nat) : Dev :=
  let n := d.fget R.DAB_FLAG_CTX_INDEX
  if d.fget R.DAB_FLAG_CTX_POOL = 0 then d.updDbe n (fun e => { e with flags := e.flags - (e.flags &&& bits) })
  else d.updDsc n (fun e => { e with flags := e.flags - (e.flags &&& bits) })

/-- DAB_FLAG_CLEAR (R276). -/
def execDabFlagClear (bits : Byte) (s : State) : Host.Outcome State Fault Refusal := nextDev s (fun d => d.dabFlagClear bits.toNat)

/-- The bytes of a label: character set, 16 bytes, short-label flags. -/
def DabLabel.bytes (l : DabLabel) : List Nat := [l.charset] ++ (l.text ++ List.replicate 16 0).take 16 ++ beWord l.short

/-- The payload of request 0x50 (R277); none for status 0x02. -/
def Dev.dabItem (d : Dev) (offset : Nat) : Option (List Nat) :=
  let item := offset / 2 ^ 24 % 256
  let sub := offset / 2 ^ 16 % 256
  let n := offset % 2 ^ 16
  let e := d.dbeOf n
  let st (b : Bool) (k : Nat) : Nat := b2n b * 2 ^ k
  if item = 8 ∨ item = 10 then
    if 47 < n ∨ sub ≠ 0 then none
    else if item = 10 then some ((List.range 7).flatMap (fun i => be32 (smGet (fun _ => 0) (d.dscOf n).counts i)))
    else
      let s := (d.dscOf n).dls
      match s.pub with
      | none => some ([0, 0, 0] ++ be32 0 ++ [0])
      | some (tog, cs, text, sec) =>
        some ([1 + st tog 1, cs, text.length] ++ be32 sec ++ text ++ [s.tags.length] ++ s.tags.flatMap (fun t => [t.1, t.2.1, t.2.2]))
  else if 40 < n then none
  else match item with
  | 1 =>
    if sub ≠ 0 then none
    else some (beWord (d.fget R.DBE_EID_EID n) ++
      [st (d.fbit R.DBE_STAT_STALE n) 0 + st (d.fbit R.DBE_STAT_MCI n) 1 + st (d.fbit R.DBE_STAT_RECONF n) 2,
       (dbAll e.svcs).length, (dbAll e.subs).length] ++ beWord e.cif ++ e.label.bytes ++ [e.ext.length] ++ e.ext)
  | 2 =>
    if 63 < sub then none
    else match smGet (fun _ => none) e.svcs sub with
      | none => some (List.replicate 27 0)
      | some x =>
        let v := x.body
        some ([1 + st x.stale 1 + st v.data 2 + st v.label.isSome 3] ++ be32 x.key ++ (v.label.getD {}).bytes ++ beWord v.asu ++
          [v.comps.length] ++ v.comps.flatMap (fun c => [c.tmid * 64 + st c.primary 5 + st c.ca 4, c.kind, c.subch,
            (((List.range 48).filter (fun m => d.dscUp m && d.dscTarget m == (n, c.subch))).head?).getD 0xFF]))
  | 3 =>
    if 63 < sub then none
    else match smGet (fun _ => none) e.subs sub with
      | none => some (List.replicate 9 0)
      | some x => some ([1 + st x.stale 1 + st x.body.eep 2, x.key] ++ beWord x.body.start ++ beWord x.body.size ++ [x.body.prot] ++ beWord x.body.rate)
  | 4 =>
    if 31 < sub then none
    else match smGet (fun _ => none) e.links sub with
      | none => some (List.replicate 4 0)
      | some x =>
        let v := x.body
        some ([1 + st v.active 1 + st v.hard 2 + st v.intl 3 + st x.stale 4] ++ beWord v.lsn ++ [v.ids.length] ++
          v.ids.flatMap (fun i => [i.1] ++ be32 i.2))
  | 5 =>
    if 47 < sub then none
    else match smGet (fun _ => none) e.freqs sub with
      | none => some (List.replicate 5 0)
      | some x => some ([1 + st x.stale 1] ++ beWord (x.key / 16) ++ [x.key % 16, x.body.length] ++ x.body.flatMap be32)
  | 6 =>
    if 63 < sub then none
    else match smGet (fun _ => none) e.oes sub with
      | none => some (List.replicate 6 0)
      | some x => some ([1 + st x.stale 1] ++ be32 x.key ++ [x.body.length] ++ x.body.flatMap beWord)
  | 7 =>
    if sub ≠ 0 then none
    else match e.date with
      | none => some (List.replicate 17 0)
      | some r => some ([r.mjd / 65536] ++ beWord (r.mjd % 65536) ++ [r.hour, r.minute, r.second] ++ beWord r.ms ++ be64 r.time ++
          [st r.accepted 0 + st r.long 1 + st r.offered 2])
  | 9 => if sub ≠ 0 then none else some ((List.range 6).flatMap (fun i => be32 (smGet (fun _ => 0) e.counts i)))
  | _ => none

/-- DAB_DATABASE_READ (R277): the work of mailbox request 0x50: the entries as they stood when the request was taken. -/
def execDabDatabaseRead (s : State) : Host.Outcome State Fault Refusal :=
  nextDev s (fun d =>
    match d.mbxWork 0x50 with
    | none => d
    | some _ =>
      match d.mbx.snap with
      | some p => d.mbxDone 0 p
      | none => d.mbxDone 2 [])

end Sys2Proof.Machine
end

