-- ==== Sys2Proof/Machine/Fmam.lean ====
section
/-!
DEFINITION. FM and AM reception (spec/06_fm_am_reception.md, R171 to R211).
-/
namespace Sys2Proof.Machine

/-! ### Access -/

/-- FM context `n`. -/
def Dev.fmOf (d : Dev) (n : Nat) : FmSt := smGet (fun _ => {}) d.fm n

/-- Change FM context `n`. -/
def Dev.updFm (d : Dev) (n : Nat) (f : FmSt → FmSt) : Dev := { d with fm := smSet (fun _ => {}) d.fm n (f (d.fmOf n)) }

/-- AM context `n`. -/
def Dev.amOf (d : Dev) (n : Nat) : AmSt := smGet (fun _ => {}) d.am n

/-- Change AM context `n`. -/
def Dev.updAm (d : Dev) (n : Nat) (f : AmSt → AmSt) : Dev := { d with am := smSet (fun _ => {}) d.am n (f (d.amOf n)) }

/-- The reading of a measurement that cannot be formed (R205). -/
def noValue : Nat := 0x8000

/-- Set entry `i` of the measurement window of FM context `n`. -/
def Dev.fmMeas (d : Dev) (n i v : Nat) : Dev := d.updFm n (fun f => { f with meas := smSet (fun _ => noValue) f.meas i (v % 65536) })

/-- Set entry `i` of the measurement window of AM context `n`. -/
def Dev.amMeas (d : Dev) (n i v : Nat) : Dev := d.updAm n (fun a => { a with meas := smSet (fun _ => noValue) a.meas i (v % 65536) })

/-- A signed reading held to its range, as a 16-bit word (R205). -/
def reading (lo hi v : Int) : Nat := unsgn 16 (clampInt lo hi v)

/-- A reading that may be absent. -/
def readingO (v : Option Nat) : Nat := match v with | some x => min x 65535 | none => noValue

/-! ### Settings in force, those of R199 for a managed context -/

/-- BW_MAX. -/
def Dev.fmBwMax (d : Dev) (n : Nat) : Nat := if d.ctxManaged 0 n then 11 else d.fget R.FMC_CTL_BW_MAX n
/-- BW_FIX. -/
def Dev.fmBwFix (d : Dev) (n : Nat) : Bool := !d.ctxManaged 0 n && d.fbit R.FMC_CTL_BW_FIX n
/-- Selection diversity. -/
def Dev.fmSelection (d : Dev) (n : Nat) : Bool := !d.ctxManaged 0 n && d.fbit R.FMC_CTL_DIV n
/-- Mono output. -/
def Dev.fmMono (d : Dev) (n : Nat) : Bool := !d.ctxManaged 0 n && d.fbit R.FMC_CTL_MONO n
/-- The profile. -/
def Dev.fmProfile (d : Dev) (n : Nat) : Nat := if d.ctxManaged 0 n then d.fget R.CHN_FM_DIV_MGD_PROF else d.fget R.FMC_CFG_PROFILE n
/-- The LOW threshold. -/
def Dev.fmLowTh (d : Dev) (n : Nat) : Nat := if d.ctxManaged 0 n then 0 else d.fget R.FMC_CFG_LOW_TH n
/-- De-emphasis of 75 µs (R186, R199). -/
def Dev.fmDe75 (d : Dev) (n : Nat) : Bool := if d.ctxManaged 0 n then d.fbit R.CHN_FM_DIV_MGD_DE75 else d.fbit R.FMC_CTL_DE75 n
/-- The audio bandwidth B of an AM context in 100 Hz (R200). -/
def Dev.amBw (d : Dev) (n : Nat) : Nat :=
  [25, 30, 35, 40, 45, 60, 80, 100].getD (if d.ctxManaged 1 n then 3 else d.fget R.AMC_CTL_BW n) 40

/-- The whistle notch of an AM context in 100 Hz, when it acts (R203). -/
def Dev.amNotch (d : Dev) (n : Nat) : Option Nat :=
  let m := d.ctxManaged 1 n
  let f := if (if m then d.fbit R.CHN_AM_CFG_MGD_N10 else d.fbit R.AMC_CTL_NOTCH_10 n) then 100 else 90
  if (m || d.fbit R.AMC_CTL_NOTCH_EN n) && decide (f ≤ d.amBw n + 5) then some f else none

/-! ### Flags -/

/-- Set sticky flag `bit` of an FM (pool 0) or AM (pool 1) context and its bit of `CHN_EVT`. -/
def Dev.chnFlag (d : Dev) (pool n bit : Nat) : Dev :=
  let d := if pool = 0 then d.updFm n (fun f => { f with flags := f.flags ||| 2 ^ bit })
    else d.updAm n (fun a => { a with flags := a.flags ||| 2 ^ bit })
  d.setEvtBits R.CHN_EVT.base (2 ^ (8 + bit))

/-- The sticky flags of a context. -/
def Dev.chnFlags (d : Dev) (pool n : Nat) : Nat := if pool = 0 then (d.fmOf n).flags else (d.amOf n).flags

/-- `CHN_FLAG_NEXT` (R197): the first FM context with a flag, else the first AM context. -/
def Dev.chnFlagNext (d : Dev) : Nat :=
  match ((List.range 256).filter (fun n => (d.fmOf n).flags != 0)).head? with
  | some n => 0x8000 + n
  | none =>
    match ((List.range 160).filter (fun n => (d.amOf n).flags != 0)).head? with
    | some n => 0x9000 + n
    | none => 0

/-- A write of 1 bits to `CHN_FLAG` (R197). -/
def Dev.chnFlagClear (d : Dev) (bits : Nat) : Dev :=
  let n := d.fget R.CHN_FLAG_CTX_INDEX
  let clear (v : Nat) : Nat := v - (v &&& bits)
  if d.fget R.CHN_FLAG_CTX_POOL = 0 then d.updFm n (fun f => { f with flags := clear f.flags })
  else d.updAm n (fun a => { a with flags := clear a.flags })

/-- CHN_FLAG_CLEAR (R197). -/
def execChnFlagClear (bits : Byte) (s : State) : Host.Outcome State Fault Refusal := nextDev s (fun d => d.chnFlagClear bits.toNat)

/-- The LOW flag with its re-arming 3.0 dB above the threshold (R195). -/
def Dev.lowFlag (d : Dev) (pool n th : Nat) (level : Int) : Dev :=
  let f := ctxFld pool 2 4 4 false
  if th = 0 then d.fputB f n false
  else if d.fbit f n then (if (10 * th + 30 : Nat) ≤ level then d.fputB f n false else d)
  else if level < (10 * th : Nat) then (d.fputB f n true).chnFlag pool n 0
  else d

/-- The square root of `s / n` rounded to the nearest, ties down. -/
def sqrtMean (s n : Nat) : Nat :=
  let m := Nat.sqrt (4 * s / max n 1)
  if m % 2 = 1 && m * m * max n 1 == 4 * s then m / 2 else (m + 1) / 2

/-- A value enters a window of the last `k`. A blanked one stays out (R49) unless the window would be empty (R205), and then leaves it with the next. -/
def Win.push {α : Type} (k : Nat) (blank : Bool) (v : α) (w : Win α) : Win α :=
  let l := if w.first then [] else w.vals
  if blank && !l.isEmpty then w else ⟨(v :: l).take k, blank⟩

/-! ### The FM pipeline, block by block -/

/-- The key of filter `j` (below 64) of FM context `n`, and of AM context `n`. -/
def fmKey (n j : Nat) : Nat := n * 64 + j
/-- The key of filter `j` of AM context `n`. -/
def amKey (n j : Nat) : Nat := 0x10000 + n * 64 + j

/-- The ratio of two powers is at least `db` dB. -/
def atLeastDb (num den : Nat) (db : Int) : Bool := !aboveTenTo den num (-db) 10

/-- The steps by which the filter controller goes below BW_MAX (R173): none while D ≥ 30 dB, else ceil((30 − D) / 3). -/
def fmSteps (core side : Nat) : Nat := ((List.range 12).filter (fun k : Nat => atLeastDb core side (30 - 3 * (k : Int)))).headD 12

/-- The filter controller at a boundary (R173 to R175, R206): BW_MAX of the block that ended is the top of its target, and an epoch's lower BW_MAX
bounds the index. A blanked block does not count towards the 20 (R49). A change crossfades over the next block. -/
def Dev.fmFilter (d : Dev) (n core side : Nat) : Dev :=
  let top := d.fmBwMax n
  let f := d.fmOf n
  let now := d.fget R.FMC_STAT_BW n
  let t := f.top - fmSteps core side
  let wide := if d.blockBlank then f.widen else f.widen + 1
  let next : Nat × Nat :=
    if d.fmBwFix n then (top, 0)
    else if min t top < now then (min t top, 0)
    else if now < t then (if 20 ≤ wide then (min (now + 1) top, 0) else (now, wide))
    else (now, 0)
  (d.fput R.FMC_STAT_BW n next.1).updFm n (fun f => { f with
    widen := next.2, top := top, bwWas := if next.1 = now then none else some now })

/-- The mean of ratios × 1,000 in 0.1 dB, held to 0 to 60.0 (R187). -/
def snrTenths (l : List Nat) : Int :=
  let s := l.foldl (· + ·) 0
  if s = 0 then 0 else clampInt 0 600 (levelTenths s (1000 * max l.length 1))

/-- The 1 ms SNR of input `x` (0 A, 1 B), or of the combined signal (2). -/
def FmSt.snrOf (f : FmSt) (x : Nat) : Int :=
  snrTenths (f.snrs.vals.map (fun s => if x = 0 then s.2.1 else if x = 1 then s.2.2 else s.1))

/-- Diversity at a boundary (R176 to R178): the weight of input A, or the input in use, from the next block on; of entry 9 and entry 10 that R178 and
R187 name, entry 10 shows it. A blanked block neither counts as a lead nor ends one (R49). DESIGN CHOICE (log entry 53): where both SNRs are alike,
or neither has been measured, selection starts on A; where a / n of both inputs is 0 the weights are equal. -/
def Dev.fmDiversity (d : Dev) (n : Nat) (b : FmBlock) : Dev :=
  let c := d.ctxOf 0 n
  let f := d.fmOf n
  let one (x : Nat) : FmSt := { f with weight := if x = 0 then 1000 else 0, weightWas := if x = 0 then 1000 else 0, sel := x, lead := 0, both := false }
  let next : FmSt :=
    if c.src != 2 then one c.src
    else if d.oneInput c.freq c.src then one (if d.serves (segOf 0 c.freq) 0 then 0 else 1)
    else
      let a := f.snrOf 0
      let bb := f.snrOf 1
      if d.fmSelection n then
        let first := if a < bb then 1 else 0
        let other := if f.sel = 0 then bb else a
        let own := if f.sel = 0 then a else bb
        let led := if d.blockBlank then false else decide (5 * (d.fget R.CHN_FM_DIV_SEL_HYST : Int) < 2 * (other - own))
        let turn := led && decide (2 ≤ f.lead + 1)
        let x := if !f.both then first else if turn then 1 - f.sel else f.sel
        { f with
          sel := x, weight := if x = 0 then 1000 else 0, both := true, lead := if d.blockBlank && f.both then f.lead else if f.both && led && !turn then f.lead + 1 else 0
          weightWas := if f.both then f.weight else if x = 0 then 1000 else 0 }
      else if !f.both then { f with weight := 500, weightWas := 500, both := true, lead := 0 }
      else
        let wa := b.ampA * max b.noiseB 1
        let wb := b.ampB * max b.noiseA 1
        let w :=
          if bb + 200 ≤ a then 1000
          else if a + 200 ≤ bb then 0
          else if wa + wb = 0 then 500
          else divNear (1000 * wa) (wa + wb)
        { f with weight := w, weightWas := f.weight }
  (d.updFm n (fun _ => next)).fmMeas n 10 next.weight

/-- The channel filter of input `x` over a block (R171, R172): the index in force, crossfaded from the one before it (R175). -/
def Dev.fmChan (d : Dev) (n x : Nat) (z : List (Int × Int)) : List (Int × Int) × Dev :=
  let now := d.fget R.FMC_STAT_BW n
  let (y, d) := d.filter2 (fmKey n (12 * x + now)) 0 now 384 z
  match (d.fmOf n).bwWas with
  | none => (y, d)
  | some w =>
    let (o, d) := d.filter2 (fmKey n (12 * x + w)) 0 w 384 z
    (fadeC 384 o y, d)

/-- The sum of the products of the samples of A with the conjugates of those of B: its phase is the phase by which A leads B over the block (R176). -/
def phaseLead (a b : List (Int × Int)) : Int × Int :=
  (a.zip b).foldl (fun s p => (s.1 + p.1.1 * p.2.1 + p.1.2 * p.2.2, s.2 + p.1.2 * p.2.1 - p.1.1 * p.2.2)) (0, 0)

/-- A sample turned by the phase of `r`; one without a phase turns nothing. -/
def turned (r q : Int × Int) : Int × Int :=
  let m := magOf r
  if m = 0 then q else (divNearInt (q.1 * r.1 - q.2 * r.2) m, divNearInt (q.1 * r.2 + q.2 * r.1) m)

/-- The signal after diversity (R176, R177): B is rotated into phase with A, by the phases of both over the block; the weights run linearly from those
of the block before, over the block's 384 samples, or over 32 after a change of input. Served by one input alone, the signal is that input's. -/
def fmCombine (f : FmSt) (sel : Bool) (mask : Nat) (a b : List (Int × Int)) : List (Int × Int) :=
  if mask = 1 then a
  else if mask = 2 then b
  else
    let lead := phaseLead a b
    a.zipIdx.map (fun p =>
    let r := turned lead (b.getD p.2 (0, 0))
    let w := line (if sel then 32 else 384) p.2 f.weightWas f.weight
    (divNearInt (p.1.1 * w + r.1 * (1000 - w)) 1000, divNearInt (p.1.2 * w + r.2 * (1000 - w)) 1000))

/-- The phases of a block behind the last two of the block before; at a start the phase is taken to have advanced as it does over the first two
samples (DESIGN CHOICE, log entry 53). -/
def fmPhases (before : List Int) (z : List (Int × Int)) : List Int :=
  let ph := z.map phaseOf
  let ahead := if before.isEmpty then [0, 2 * ph.getD 0 0 - ph.getD 1 0] else before
  ahead ++ ph

/-- The instantaneous frequency in Hz at 192 kS/s (R171): the advance of the phase over two samples at 384 kS/s. -/
def fmFreqs (before : List Int) (z : List (Int × Int)) : List Int :=
  let ph := fmPhases before z
  (List.range (z.length / 2)).map (fun k => divNearInt (wrap24 (ph.getD (2 * k + 3) 0 - ph.getD (2 * k + 1) 0) * 192000) (2 ^ 24))

/-- The frequency offset in force in Hz (R179, R187); none known reads as no offset (log entry 53). -/
def Dev.fmOffset (d : Dev) (n : Nat) : Int := if d.fget R.FMC_FOFS_VALUE n = noValue then 0 else 10 * d.fgetI R.FMC_FOFS_VALUE n

/-- The highest magnitude of a real signal. -/
def peakOfList (l : List Int) : Nat := l.foldl (fun m x => max m x.natAbs) 0

/-- The demodulator (R171, R179): the MPX signal of the block and the sum of its instantaneous frequencies. -/
def Dev.fmDemod (d : Dev) (n mask : Nat) (b : FmBlock) : Int × Dev :=
  let (a, d) := d.fmChan n 0 b.a
  let (bb, d) := d.fmChan n 1 b.b
  let z := fmCombine (d.fmOf n) (d.fmSelection n) mask a bb
  let fr := fmFreqs (d.fmOf n).phases z
  let off := d.fmOffset n
  let ph := fmPhases (d.fmOf n).phases z
  (fr.foldl (· + ·) 0, d.updFm n (fun f => { f with phases := ph.drop (ph.length - 2), mpx := fr.map (fun x => sat24 (x - off)) }))

/-- The pilot PLL (R180): a 19 kHz component of at least 2.0 kHz and a phase error within ±10°; a blanked block is not
counted (R49). -/
def Dev.fmPilot (d : Dev) (n pilotDev : Nat) (b : FmBlock) : Dev :=
  if d.blockBlank then d
  else
  let good := decide (2000 ≤ pilotDev) && decide (b.pilotErr.natAbs ≤ 100)
  let f := d.fmOf n
  let g := if good then f.pilotGood + 1 else 0
  let x := if good then 0 else f.pilotBad + 1
  let d := d.updFm n (fun f => { f with pilotGood := min g 20, pilotBad := min x 10 })
  if d.fbit R.FMC_STAT_PILOT n then
    (if 10 ≤ x then (d.fputB R.FMC_STAT_PILOT n false).chnFlag 0 n 1 else d)
  else if 20 ≤ g then (d.fputB R.FMC_STAT_PILOT n true).chnFlag 0 n 1
  else d

/-- The blend factor in 0.001 (R182), for S_c in 0.001 dB. -/
def Dev.fmBlend (d : Dev) (n : Nat) (sc : Int) : Nat :=
  let p := d.fmProfile n
  let hi := d.fget R.FMP_BLEND_HI p
  let lo := d.fget R.FMP_BLEND_LO p
  if !d.fbit R.FMC_STAT_PILOT n || d.fmMono n then 0
  else (clampInt 0 1000 (divNearInt (sc - 1000 * (lo : Int)) (max (hi - lo) 1))).toNat

/-- Numerator and denominator of the x of R183. -/
def Dev.fmHighCutX (d : Dev) (n : Nat) (sc : Int) : Nat × Nat :=
  let p := d.fmProfile n
  let lo := d.fget R.FMP_HICUT_LO p
  let q := 1000 * max (d.fget R.FMP_HICUT_HI p - lo) 1
  ((clampInt 0 q (sc - 1000 * (lo : Int))).toNat, q)

/-- The high-cut corner in 10 Hz (R183): HC_MIN × (15 kHz / HC_MIN)^x, rounded to the nearest. -/
def Dev.fmHighCut (d : Dev) (n : Nat) (sc : Int) : Nat :=
  let m := 200 + 50 * d.fget R.FMP_MUTE_HC_MIN (d.fmProfile n)
  let (t, q) := d.fmHighCutX n sc
  if t = q then 1500 else if t = 0 then m
  else (greatest (fun k => decide ((2 * k.toNat - 1) ^ q < 2 ^ q * m ^ (q - t) * 1500 ^ t)) 0 11).toNat

/-- The soft-mute attenuation in 0.1 dB (R184). -/
def Dev.fmSoftMute (d : Dev) (n : Nat) (sc : Int) : Nat :=
  let p := d.fmProfile n
  let t := clampInt 0 10000 (1000 * (d.fget R.FMP_MUTE_SM_TH p : Int) - sc)
  divNear (30 * d.fget R.FMP_MUTE_DEPTH p * t.toNat) 10000

/-- One block of the smoothing of R181 in 10^−6 dB: a first-order response with 2 ms while it falls and 300 ms while it rises (log entry 14); the
factors are 1 − e^(−1/2) and 1 − e^(−1/300) in 2^−24. -/
def smoothSnr (sc x : Int) : Int := sc + divNearInt ((x - sc) * (if x < sc then 6601320 else 55831)) (2 ^ 24)

/-- The control SNR and its three controls, with the full mute (R181 to R184). -/
def Dev.fmControls (d : Dev) (n : Nat) (snr : Int) : Dev :=
  let x := snr * 100000
  let micro := match (d.fmOf n).sc with
    | none => x
    | some v => smoothSnr v x
  let d := d.updFm n (fun f => { f with sc := some micro })
  let sc := divNearInt micro 1000
  let d :=
    if d.fbit R.FMC_STAT_MUTED n then (if 6000000 < micro then d.fputB R.FMC_STAT_MUTED n false else d)
    else if micro < 3000000 then (d.fputB R.FMC_STAT_MUTED n true).chnFlag 0 n 5
    else d
  let b := d.fmBlend n sc
  let d := (d.fmMeas n 7 b).fmMeas n 8 (d.fmHighCut n sc)
  let d := d.fmMeas n 9 (if d.fbit R.FMC_STAT_MUTED n then 0x7FFF else d.fmSoftMute n sc)
  d.fputB R.FMC_STAT_STEREO n (d.fbit R.FMC_STAT_PILOT n && !d.fmMono n && decide (0 < b))

/-- The step of the de-emphasis at 48 kHz in 2^−32, 1 − e^(−1/(48,000 τ)) for τ = 75 µs or 50 µs, and the reciprocal of its gain at 1 kHz in 2^−20
(R186, log entry 52). -/
def deemphStep (de75 : Bool) : Nat := if de75 then 1041679342 else 1463550349
def deemphMake (de75 : Bool) : Nat := if de75 then 1158346 else 1098326

/-- The audio of a block (R171, R182 to R186), from the MPX signal: M and S, blend, high-cut on both channels unless bypassed, soft mute with the
480-sample ramps of the full mute, de-emphasis, and the scale that gives ±75 kHz at 1 kHz −3.0 dBFS behind it. -/
def Dev.fmAudio (d : Dev) (n : Nat) : List (Int × Int) × Dev :=
  let f := d.fmOf n
  let sc := divNearInt (f.sc.getD 0) 1000
  let (m, d) := d.filter (fmKey n 60 * 2) 1 0 f.mpx
  let (s, d) := d.filter (fmKey n 60 * 2 + 1) 2 0 f.mpx
  let bl : Int := (smGet (fun _ => noValue) f.meas 7 : Nat)
  let lr := (List.range 48).map (fun k =>
    let side := divNearInt (bl * s.getD k 0) 1000
    (m.getD k 0 + side, m.getD k 0 - side))
  let x := d.fmHighCutX n sc
  let (lr, d) := if x.1 = x.2 then (lr, d) else d.filter2 (fmKey n 61) 3 (d.fmHighCut n sc) 48 lr
  let g := dbAmp (-10 * (d.fmSoftMute n sc : Int))
  let pos := walk 480 f.open_ 48 (!d.fbit R.FMC_STAT_MUTED n)
  let lr := lr.zipIdx.map (fun p => both (fun x => divNearInt (scaled g x * (pos.getD p.2 0 : Nat)) 480) p.1)
  let a := deemphStep (d.fmDe75 n)
  let l := onePole a f.deemp.1 (lr.map (·.1))
  let r := onePole a f.deemp.2 (lr.map (·.2))
  let k := dbAmp (-300) * 2 ^ 23 * deemphMake (d.fmDe75 n) / (75000 * 2 ^ 20)
  ((l.1.zip r.1).map (both (fun x => sat24 (scaled k x))), d.updFm n (fun f => { f with open_ := pos.getLastD f.open_, deemp := (l.2, r.2) }))

/-- The block is eligible by R188, for its SNR in 0.1 dB. -/
def Dev.eligible (d : Dev) (pool n : Nat) (snr : Int) : Bool :=
  let c := d.ctxOf pool n
  c.data && !d.blockBlank && !d.blockOvl c.inputsWas && decide ((10 * d.fget R.CHN_FM_MQ_MIN_SNR : Nat) ≤ snr)

/-- A block that is not eligible, of any state but OFF (R188, R189, R194). -/
def Dev.fmExcluded (d : Dev) (n : Nat) : Dev :=
  let e := min ((d.fmOf n).excluded + 1) 65535
  (d.updFm n (fun f => { f with excluded := e })).fmMeas n 23 e

/-- The block that ended, of the context pool's ring for the programme layer (R19, R143, R162, R198): of 8 blocks the oldest is overwritten and
counted, and its reader finds a missing block. -/
def Dev.ringPush (d : Dev) (pool n delay : Nat) (pcm : List (Int × Int)) : Dev :=
  let c := d.ctxOf pool n
  if c.data || c.missing then
    let start := d.grid.due - Config.sysPerMs
    let blk : Blk := ⟨d.stampAt start, if c.missing then 2 else if d.blockBlank then 3 else 0, if c.missing then [] else pcm, d.grid.due + delay⟩
    d.updCtx pool n (fun c => { c with
      ring := (c.ring ++ [blk]).drop (c.ring.length + 1 - 8), lost := if c.ring.length < 8 then c.lost else c.lost + 1 })
  else d

/-- A RUN block of an FM context (R171 to R193): its signal, controls, audio and measurements. `src` and `mask` are the input setting and the inputs
that served it. -/
def Dev.fmRun (d : Dev) (n src mask : Nat) (b : FmBlock) : Dev :=
  let blank := d.blockBlank
  let useA := bitAt mask 0
  let useB := bitAt mask 1
  let d := d.updFm n (fun f => { f with
    powsA := if useA then f.powsA.push 10 blank b.powA else {}, powsB := if useB then f.powsB.push 10 blank b.powB else {}
    snrs := f.snrs.push 10 blank (b.snr, b.snrA, b.snrB), mps := f.mps.push 10 blank b.mp })
  let f := d.fmOf n
  let lvA := d.levelDbuv 0 f.powsA.vals
  let lvB := d.levelDbuv 1 f.powsB.vals
  let level := if useA && useB then max lvA lvB else if useA then lvA else lvB
  let snr := f.snrOf (if src != 2 then src else if mask = 1 then 0 else if mask = 2 then 1 else if d.fmSelection n then f.sel else 2)
  let d := (d.fput R.FMC_LEVEL_VALUE n (unsgn 16 level)).fput R.FMC_SNR_VALUE n (unsgn 16 snr)
  let d := ((d.fmMeas n 0 (unsgn 16 level)).fmMeas n 1 (if useA then unsgn 16 lvA else noValue)).fmMeas n 2
    (if useB then unsgn 16 lvB else noValue)
  let mp := min (sqrtMean (f.mps.vals.foldl (· + ·) 0) f.mps.vals.length) 255
  let d := (d.fmMeas n 3 (unsgn 16 snr)).fmMeas n 4 (if snr < 150 then noValue else mp)
  let (freq, d) := d.fmDemod n mask b
  let d := if blank then d else d.updFm n (fun f => { f with freqSum := f.freqSum + freq, freqN := f.freqN + 192 })
  let mpx := (d.fmOf n).mpx
  let (pilot, d) := d.filter (fmKey n 63 * 2) 5 0 mpx
  let (rds, d) := d.filter (fmKey n 63 * 2 + 1) 6 0 mpx
  let (dev, d) := d.filter (fmKey n 59 * 2) 7 0 (mpx.map (fun x => (x.natAbs : Int)))
  let d := (d.fmPilot n (peakOfList pilot) b).fmControls n snr
  let (pcm, d) := d.fmAudio n
  let d := (d.ringPush 0 n (msCycles 3 / 2) pcm).lowFlag 0 n (d.fmLowTh n) level
  if d.eligible 0 n snr then
    let up (o : Option Nat) (l : List Int) : Option Nat := some (max (o.getD 0) (divNear (peakOfList l) 10))
    d.updFm n (fun f => { f with
      pilotInj := up f.pilotInj pilot, rdsInj := up f.rdsInj rds, devPeak := max f.devPeak (peakOfList dev), devN := f.devN + 1
      mpxSum := f.mpxSum + (mpx.map (fun x => x.natAbs ^ 2)).foldl (· + ·) 0, mpxN := f.mpxN + 1 })
  else d.fmExcluded n

/-- Outside RUN the measurements updated every 1 ms or 100 ms read 0x8000 (R205). -/
def Dev.fmBlankMeas (d : Dev) (n : Nat) : Dev :=
  let d := ((d.fput R.FMC_LEVEL_VALUE n noValue).fput R.FMC_SNR_VALUE n noValue).fput R.FMC_FOFS_VALUE n noValue
  d.updFm n (fun f => { f with
    meas := f.meas.filter (fun e => decide (13 ≤ e.1)), freqSum := 0, freqN := 0, pilotInj := none, rdsInj := none, sc := none,
    pilotGood := 0, pilotBad := 0, powsA := {}, powsB := {}, snrs := {}, mps := {}, open_ := 480, phases := [], deemp := (0, 0) })

/-- Restart the accumulators of an FM context (R193); the deviation interval in progress goes on (R189). -/
def Dev.fmClear (d : Dev) (n : Nat) : Dev :=
  (d.updFm n (fun f => { f with
    bins := [], count := 0, peak := none, elapsed := 0, excluded := 0, mpxSum := 0, mpxN := 0, mpxHist := [], mpxMax := none })).each
    [(15, noValue), (17, noValue), (18, noValue), (20, 0), (21, 0), (22, (d.fmOf n).periods), (23, 0)]
    (fun d e => d.fmMeas n e.1 e.2)

/-- Entry to START (R174, R193): the filter at BW_MAX, the accumulators and the results of the last period. -/
def Dev.fmStart (d : Dev) (n : Nat) : Dev :=
  let top := d.fmBwMax n
  let d := ((d.fmClear n).updFm n (fun f => { f with
    hist := [], lastPeak := none, lastN := 0, widen := 0, top := top, bwWas := none, both := false })).fmMeas n 16 noValue
  let d := (d.fput R.FMC_STAT_BW n top).fputB R.FMC_STAT_PILOT n false
  (d.fputB R.FMC_STAT_STEREO n false).fputB R.FMC_STAT_MUTED n false

/-- One FM context at a boundary: its transition (R161), then what its pipeline does with the block that ended. -/
def Dev.fmBoundary (d : Dev) (n : Nat) (b : FmBlock) : Dev :=
  let st := d.ctxState 0 n
  let ovl := d.fbit R.FMC_STAT_OVL n
  let old := d.ctxOf 0 n
  let d := d.ctxStep 0 n
  let now := d.ctxState 0 n
  let c := d.ctxOf 0 n
  let d := if st = 3 && c.data then d else d.updFm n (fun f => { f with phases := [] })
  let d := if st = 3 && c.data then d.fmRun n old.src c.inputsWas b
    else if st = 0 || now = 0 then d.ringPush 0 n (msCycles 3 / 2) [] else (d.ringPush 0 n (msCycles 3 / 2) []).fmExcluded n
  let started := now = 2 && (st != 2 || c.freq != old.freq || old.restart)
  let d := if started then d.fmStart n
    else if (st = 3 || st = 2) && (now = 3 || now = 2) then d.fmFilter n b.core b.side else d
  let d := if c.src != old.src then d.updFm n (fun f => { f with powsA := {}, powsB := {}, snrs := {}, mps := {}, both := false }) else d
  let d := if now = 3 then (d.fmDiversity n b).fmMeas n 6 ([50, 65, 80, 95, 110, 125, 140, 160, 180, 200, 230, 260].getD
    (d.fget R.FMC_STAT_BW n) 260) else d.fmBlankMeas n
  let d := if now = 0 then (d.fput R.FMC_STAT_LOW n 0).fput R.FMC_STAT_PILOT n 0 else d
  let d := (d.ctxMarks 0 n).updFm n (fun f => { f with elapsed := if started then 0 else f.elapsed + 1 })
  if d.fbit R.FMC_STAT_OVL n && !ovl then d.chnFlag 0 n 7 else d

/-! ### FM intervals, seconds and periods -/

/-- One deviation interval of an FM context (R189, R190, R196): its value exists when its 50 blocks were eligible. -/
def Dev.fmInterval (d : Dev) (n : Nat) : Dev :=
  let f := d.fmOf n
  let v : Option Nat := if 50 ≤ f.devN then some (min (divNear f.devPeak 100) 2000) else none
  let last := (v :: f.devLast).take 20
  let dev := last.foldl (fun m x => match x, m with | some a, some b => some (max a b) | some a, none => some a | none, m => m) none
  let d := d.updFm n (fun f => { f with devPeak := 0, devN := 0, devLast := if last.all (·.isNone) then [] else last })
  let d := ((d.fput R.FMC_DEV_VALUE n (readingO dev)).fmMeas n 13 (readingO v)).fmMeas n 14 (readingO dev)
  match v with
  | none => d
  | some x =>
    let bin := min (x / 50) 29
    let d := d.updFm n (fun f => { f with
      bins := smSet (fun _ => 0) f.bins bin (smGet (fun _ => 0) f.bins bin + 1), count := f.count + 1,
      peak := some (max (f.peak.getD 0) x) })
    let d := d.fmMeas n 15 (readingO (d.fmOf n).peak)
    let lim := d.fget R.CHN_FM_LIM_DEV
    if lim ≠ 0 && decide (lim * 10 < x) && (d.fmOf n).devSec != d.time.sec + 1 then
      (d.updFm n (fun f => { f with devSec := d.time.sec + 1 })).chnFlag 0 n 2
    else d

/-- The FM contexts that are not in OFF. -/
def Dev.fmLive (d : Dev) : List Nat := (List.range 256).filter (fun n => d.ctxState 0 n != 0)

/-- The AM contexts that are not in OFF. -/
def Dev.amLive (d : Dev) : List Nat := (List.range 160).filter (fun n => d.ctxState 1 n != 0)

/-- DEVIATION_INTERVAL (R189): the boundary at a multiple of 50 ms has passed; for all FM contexts. -/
def execDeviationInterval (s : State) : Host.Outcome State Fault Refusal :=
  nextDev s (fun d =>
    if !d.grid.dev then d
    else { d with grid := { d.grid with dev := false } }.each (List.range 256) (fun d n => if d.ctxState 0 n = 0 && (d.fmOf n).devLast.isEmpty && (d.fmOf n).devN == 0 then d else d.fmInterval n))

/-- Publish the period of an FM context and begin a new one (R190, R191). -/
def Dev.fmPublish (d : Dev) (n : Nat) : Dev :=
  let f := d.fmOf n
  let bins := (List.range 30).map (fun i => if f.count = 0 then noValue else divNear (smGet (fun _ => 0) f.bins i * 65535) f.count)
  let d := d.updFm n (fun f => { f with
    hist := bins, lastPeak := f.peak, lastN := f.count, periods := (f.periods + 1) % 65536,
    bins := [], count := 0, peak := none, elapsed := 0, excluded := 0 })
  ((((((d.fmMeas n 15 noValue).fmMeas n 16 (readingO f.peak)).fmMeas n 20 0).fmMeas n 21 0).fmMeas n 22 (d.fmOf n).periods).fmMeas
    n 23 0).chnFlag 0 n 4

/-- The period of a context in SHED or WAIT ends at its aligned boundary without being published (R194). -/
def Dev.fmPeriodSkip (d : Dev) (n : Nat) : Dev :=
  (d.updFm n (fun f => { f with bins := [], count := 0, peak := none, elapsed := 0, excluded := 0 })).each
    [(15, noValue), (20, 0), (21, 0), (23, 0)] (fun d e => d.fmMeas n e.1 e.2)

/-- The end of the measurement period: every FM context in RUN publishes (R190, R194). -/
def Dev.fmPeriodEnd (d : Dev) : Dev :=
  d.each d.fmLive (fun d n => if d.ctxState 0 n = 3 then d.fmPublish n else d.fmPeriodSkip n)

/-- The accumulators of every FM context restart (R193). -/
def Dev.clrAcc (d : Dev) : Dev := d.each (List.range 256) (fun d n => d.fmClear n)

/-- MEASUREMENT_PERIOD_END (R190): the boundary at which the device-time seconds are a multiple of the period has passed. A restart that waits for
it follows (R208). -/
def execMeasurementPeriodEnd (s : State) : Host.Outcome State Fault Refusal :=
  nextDev s (fun d =>
    if !d.grid.period then d
    else
      let d := { d.fmPeriodEnd with grid := { d.grid with period := false, clr := false } }
      onlyIf s.dev.grid.clr Dev.clrAcc d)

/-- A write of 1 to `CHN_MEAS_CMD.CLR_ACC` (R193): it acts as the block in progress ends (R208, log entry 53). -/
def Dev.clrAsk (d : Dev) : Dev := { d with grid := { d.grid with clr := true } }

/-- CLR_ACC (R193, R208). -/
def execClrAcc (s : State) : Host.Outcome State Fault Refusal := nextDev s Dev.clrAsk

/-- The 100 ms values of an FM context (R187, R188, R196). -/
def Dev.fm100 (d : Dev) (n : Nat) : Dev :=
  let f := d.fmOf n
  if d.ctxState 0 n = 3 then
    let weak := decide (d.fgetI R.FMC_SNR_VALUE n < 60) || f.freqN == 0
    let off := clampInt (-32767) 32767 (divNearInt f.freqSum (10 * max f.freqN 1))
    let w := if weak then noValue else unsgn 16 off
    let d := (((d.fput R.FMC_FOFS_VALUE n w).fmMeas n 5 w).fmMeas n 11 (readingO f.pilotInj)).fmMeas n 12 (readingO f.rdsInj)
    let lim := d.fget R.CHN_FM_MQ_FOFS_LIM
    let out := !weak && lim != 0 && decide (10 * lim < off.natAbs)
    let d := d.updFm n (fun f => { f with freqSum := 0, freqN := 0, pilotInj := none, rdsInj := none })
    if out then
      (if f.fofsOk = 10 then d.chnFlag 0 n 6 else d).updFm n (fun f => { f with fofsOk := 0 })
    else if weak then d
    else d.updFm n (fun f => { f with fofsOk := min (f.fofsOk + 1) 10 })
  else d

/-- The 1 s values of an FM context (R187, R192, R196); a power of zero has no level and cannot be formed (R205). -/
def Dev.fmSecond (d : Dev) (n : Nat) : Dev :=
  let f := d.fmOf n
  let hist := ((f.mpxSum, f.mpxN) :: f.mpxHist).take 60
  let sum := (hist.map (·.1)).foldl (· + ·) 0
  let cnt := (hist.map (·.2)).foldl (· + ·) 0
  let d := d.updFm n (fun f => { f with mpxHist := hist, mpxSum := 0, mpxN := 0 })
  let d := ((d.fmMeas n 19 (cnt / 1000)).fmMeas n 20 (min (f.elapsed / 1000) 65535)).fmMeas n 21 (min (f.count / 20) 65535)
  if cnt < 54000 then d.fmMeas n 17 noValue
  else if sum = 0 then d.fmMeas n 17 noValue
  else
    let p := clampInt (-32767) 32767 (levelHundredths sum (cnt * 192 * 180500000))
    let d := d.updFm n (fun f => { f with mpxMax := some (match f.mpxMax with | some m => max m p | none => p) })
    let d := (d.fmMeas n 17 (unsgn 16 p)).fmMeas n 18 (match (d.fmOf n).mpxMax with | some m => unsgn 16 m | none => noValue)
    if d.fgetI R.CHN_FM_LIM_MPX * 10 < p then d.chnFlag 0 n 3 else d

/-! ### The AM pipeline -/

/-- The samples of a block that the noise blanker replaces, and the blanks that it starts (R202): a sample whose envelope exceeds the mean `num / den`
by NB_TH dB starts a blank of `len` samples, or extends the one in progress, of which the block before left `left` samples. Answers what is left for
the next block too. -/
def nbFlags (th len num den left : Nat) (env : List Nat) : List Bool × Nat × Nat :=
  let r := env.foldl (fun (a : List Bool × Nat × Nat) v =>
    let hit := aboveTenTo (v * den) num th 20
    let left := if hit then len else a.2.1
    (a.1 ++ [decide (0 < left)], left - 1, if hit && a.2.1 = 0 then a.2.2 + 1 else a.2.2)) ([], left, 0)
  (r.1, r.2.2, r.2.1)

/-- The last sample ahead of position `k` that is not replaced, with its distance. -/
def clearBefore (flags : List Bool) : Nat → Nat
  | 0 => 1
  | k + 1 => if flags.getD k false then clearBefore flags k + 1 else 1

/-- The distance to the first sample behind position `k` that is not replaced; 0 where the block has none. -/
def clearAfter (flags : List Bool) (k : Nat) : Nat :=
  match (flags.drop (k + 1)).findIdx? (fun f => !f) with
  | some i => i + 1
  | none => 0

/-- The blanked block (R202): a replaced sample lies on the straight line between the samples at the ends of its blank. A blank that runs to the end of
its block holds the sample ahead of it (log entry 53). Of a block of which more than 20 % would be replaced nothing is. -/
def nbApply (before : Int × Int) (flags : List Bool) (z : List (Int × Int)) : List (Int × Int) :=
  if z.length < 5 * (flags.filter id).length then z
  else z.zipIdx.map (fun p =>
    if !flags.getD p.2 false then p.1
    else
      let i := clearBefore flags p.2
      let j := clearAfter flags p.2
      let a := if p.2 < i then before else z.getD (p.2 - i) (0, 0)
      let b := if j = 0 then a else z.getD (p.2 + j) (0, 0)
      (line (i + j) (i - 1) a.1 b.1, line (i + j) (i - 1) a.2 b.2))

/-- The noise blanker is on (R199, R202). -/
def Dev.amNb (d : Dev) (n : Nat) : Bool := d.ctxManaged 1 n || d.fbit R.AMC_CTL_NB_EN n

/-- Synchronous detection is on (R199, R201). -/
def Dev.amSync (d : Dev) (n : Nat) : Bool := d.ctxManaged 1 n || d.fbit R.AMC_CTL_SYNC n

/-- The carrier PLL is locked: it pulls in within ±500 Hz (R201). -/
def amLocked (b : AmBlock) : Bool := b.lock && decide (b.off.natAbs ≤ 5000)

/-- A block up to the detector (R200 to R202): channel filter, noise blanker, and the detected envelope, which crossfades over 5 ms between the envelope
detector and the synchronous one. Answers the envelope, the carrier level c as a quotient, and the blanks started. -/
def Dev.amDetect (d : Dev) (n : Nat) (b : AmBlock) : List Int × Nat × Nat × Nat × Dev :=
  let (z, d) := d.filter2 (amKey n 0) 8 (d.amBw n) 48 b.z
  let a := d.amOf n
  let env := z.map magOf
  let had := a.envs.vals.foldl (· + ·) 0
  let num := if a.envs.vals.isEmpty then env.foldl (· + ·) 0 else had
  let den := 48 * max a.envs.vals.length 1
  let (flags, starts, left) := nbFlags (d.fget R.CHN_AM_NB_NB_TH) ((48 * d.fget R.CHN_AM_NB_NB_LEN + 99) / 100) num den a.nbLeft env
  let on := d.amNb n && decide (5 * (flags.filter id).length ≤ 48)
  let y := if on then nbApply a.last flags z else z
  let env := y.map (fun p => (magOf p : Int))
  let (syn, d) := d.filter (amKey n 1) 9 0 (y.map (·.1) ++ y.map (·.2))
  let up := d.amSync n && amLocked b
  let pos := walk 240 a.sync 48 up
  let e := env.zipIdx.map (fun p => let w : Int := (pos.getD p.2 0 : Nat); divNearInt (p.1 * (240 - w) + syn.getD p.2 0 * w) 240)
  let sum := (env.foldl (· + ·) 0).toNat
  let d := d.updAm n (fun a => { a with
    envs := a.envs.push 100 d.blockBlank sum, last := lastSample y, nbLeft := if d.amNb n then left else 0, sync := pos.getLastD a.sync })
  let envs := (d.amOf n).envs.vals
  (e, envs.foldl (· + ·) 0, 48 * max envs.length 1, if on then starts else 0, d)

/-- The modulation e / c − 1 of a detected sample times `k`, for c = num / den (R200). -/
def modOf (k num den : Nat) (e : Int) : Int := divNearInt (k * (e * den - num)) (max num 1)

/-- The audio of a block (R200, R203): e / c − 1 with the whistle notch, low-pass filtered at B, at the scale that gives 100 % of 1 kHz −6.0 dBFS, with the
480-sample ramps of the mute; alike on both channels. -/
def Dev.amAudio (d : Dev) (n num den : Nat) (e : List Int) : List (Int × Int) × Dev :=
  let x := e.map (modOf (dbAmp (-600) * 2 ^ 23 / 2 ^ 40) num den)
  let (x, d) := match d.amNotch n with
    | some f => d.filter (amKey n 4) 10 f x
    | none => (x, d)
  let (x, d) := d.filter (amKey n 5) 11 (d.amBw n) x
  let a := d.amOf n
  let pos := walk 480 a.open_ 48 (!d.fbit R.AMC_STAT_MUTED n)
  ((List.range 48).map (fun k => let v := sat24 (divNearInt (x.getD k 0 * (pos.getD k 0 : Nat)) 480); (v, v)),
    d.updAm n (fun a => { a with open_ := pos.getLastD a.open_ }))

/-- The carrier and the mute of R200, by the SNR of window entry 1. -/
def Dev.amCarrier (d : Dev) (n : Nat) (snr : Int) : Dev :=
  let th := 10 * (d.fget R.CHN_AM_CFG_MUTE_SNR : Int)
  if d.fbit R.AMC_STAT_CARRIER n then
    (if snr < th then (((d.fputB R.AMC_STAT_CARRIER n false).fputB R.AMC_STAT_MUTED n true).chnFlag 1 n 1).chnFlag 1 n 5 else d)
  else if th + 30 < snr then ((d.fputB R.AMC_STAT_CARRIER n true).fputB R.AMC_STAT_MUTED n false).chnFlag 1 n 1
  else d

/-- A RUN block of an AM context (R200 to R204): its signal, audio and measurements. -/
def Dev.amRun (d : Dev) (n : Nat) (b : AmBlock) : Dev :=
  let blank := d.blockBlank
  let d := d.updAm n (fun a => { a with pows := a.pows.push 10 blank (b.carrier, b.noise) })
  let pows := (d.amOf n).pows.vals
  let level := d.levelDbuv 0 (pows.map (·.1))
  let sum (f : Nat × Nat → Nat) : Nat := (pows.map f).foldl (· + ·) 0
  let snr := if sum (·.1) = 0 then 0 else clampInt 0 600 (levelTenths (sum (·.1)) (max (sum (·.2)) 1))
  let d := ((d.fput R.AMC_LEVEL_LEVEL n (unsgn 16 level)).amMeas n 0 (unsgn 16 level)).amMeas n 1 (unsgn 16 snr)
  let d := (d.amCarrier n snr).fputB R.AMC_STAT_SYNC n (amLocked b && d.amSync n)
  let (e, num, den, blanks, d) := d.amDetect n b
  let age := if 0 < blanks then 0 else min ((d.amOf n).blankAge + 1) 100
  let d := (d.updAm n (fun a => { a with
    freqSum := if blank then a.freqSum else a.freqSum + b.off, freqN := if blank then a.freqN else a.freqN + 1
    blanks := if blank then a.blanks else a.blanks + blanks, blankAge := age })).fputB R.AMC_STAT_NB n (decide (age < 100))
  let (pcm, d) := d.amAudio n num den e
  let d := (d.ringPush 1 n (msCycles 3) pcm).lowFlag 1 n (d.fget R.CHN_AM_CFG_LOW_TH) level
  let m := e.map (modOf 1000 num den)
  if d.eligible 1 n snr && !m.isEmpty then
    let top := m.foldl max (m.headD 0)
    let low := m.foldl min (m.headD 0)
    d.updAm n (fun a => { a with
      pos := some (match a.pos with | some v => max v top | none => top),
      neg := some (match a.neg with | some v => min v low | none => low),
      sqSum := a.sqSum + (m.map (fun v => v.natAbs ^ 2)).foldl (· + ·) 0, sqN := a.sqN + m.length })
  else d

/-- The 100 ms values of an AM context (R204, R196). -/
def Dev.am100 (d : Dev) (n : Nat) : Dev :=
  let a := d.amOf n
  if d.ctxState 1 n = 3 then
    let p := match a.pos with | some v => reading 0 3000 v | none => noValue
    let q := match a.neg with | some v => reading (-1000) 0 v | none => noValue
    let f := if sgn 16 (smGet (fun _ => noValue) a.meas 1) < 100 || a.freqN = 0 then noValue
      else reading (-32767) 32767 (divNearInt a.freqSum a.freqN)
    let d := ((d.amMeas n 2 p).amMeas n 3 q).amMeas n 5 f
    let top := max ((a.pos.getD 0).natAbs) ((a.neg.getD 0).natAbs)
    let d := d.updAm n (fun a => { a with pos := none, neg := none, freqSum := 0, freqN := 0 })
    if (a.pos.isSome || a.neg.isSome) && decide (10 * d.fget R.CHN_AM_MOD_OVM ≤ top) && a.devSec != d.time.sec + 1 then
      (d.updAm n (fun a => { a with devSec := d.time.sec + 1 })).chnFlag 1 n 2
    else d
  else d

/-- The 1 s values of an AM context (R204). -/
def Dev.amSecond (d : Dev) (n : Nat) : Dev :=
  let a := d.amOf n
  let d := d.updAm n (fun a => { a with sqSum := 0, sqN := 0, blanks := 0 })
  if d.ctxState 1 n = 3 then
    (d.amMeas n 4 (if a.sqN = 0 then noValue else min (sqrtMean a.sqSum a.sqN) 32767)).amMeas n 6 (min a.blanks 32767)
  else d

/-- Outside RUN (R205): the measurements updated every 1 ms or 100 ms read 0x8000. -/
def Dev.amBlankMeas (d : Dev) (n : Nat) : Dev :=
  ((((d.fput R.AMC_LEVEL_LEVEL n noValue).fputB R.AMC_STAT_SYNC n false).fputB R.AMC_STAT_CARRIER n false).fputB R.AMC_STAT_MUTED
    n false).updAm n (fun a => { a with
      meas := a.meas.filter (fun e => e.1 == 4 || e.1 == 6), pos := none, neg := none, blankAge := 100, pows := {}, envs := {}, last := (0, 0), nbLeft := 0
      sync := 0, open_ := 0, freqSum := 0, freqN := 0 })

/-- One AM context at a boundary. -/
def Dev.amBoundary (d : Dev) (n : Nat) (b : AmBlock) : Dev :=
  let st := d.ctxState 1 n
  let ovl := d.fbit R.AMC_STAT_OVL n
  let d := d.ctxStep 1 n
  let now := d.ctxState 1 n
  let d := if st = 3 && (d.ctxOf 1 n).data then d.amRun n b else d.ringPush 1 n (msCycles 3) []
  let d :=
    if now = 3 then (if st = 3 then d else (d.fputB R.AMC_STAT_CARRIER n false).fputB R.AMC_STAT_MUTED n true)
    else d.amBlankMeas n
  let d := if now = 0 then (d.fput R.AMC_STAT_LOW n 0).updAm n (fun a => { a with sqSum := 0, sqN := 0, blanks := 0 }) else d
  let d := d.ctxMarks 1 n
  if d.fbit R.AMC_STAT_OVL n && !ovl then d.chnFlag 1 n 7 else d

/-- The pipelines and accumulators of PD4 have lost their memory (R39). -/
def Dev.fmLose (d : Dev) : Dev := { d with fm := [] }
def Dev.amLose (d : Dev) : Dev := { d with am := [] }

/-! ### The measurement window -/

/-- Entry `i` of a page (R211). -/
def Dev.measEntry (d : Dev) (pool page n i : Nat) : Nat :=
  match pool, page with
  | 0, 0 => if i < 24 then smGet (fun _ => noValue) (d.fmOf n).meas i else noValue
  | 0, 1 => (d.fmOf n).hist.getD i noValue
  | 1, 0 => if i < 7 then smGet (fun _ => noValue) (d.amOf n).meas i else noValue
  | _, _ => noValue

/-- A write to `CHN_MEAS_SEL` (R211). -/
def Dev.measLatch (d : Dev) (pool page index : Nat) : Dev :=
  let n := min index (poolSize pool - 1)
  let d := ((d.fput R.CHN_MEAS_SEL_POOL 0 pool).fput R.CHN_MEAS_SEL_PAGE 0 page).fput R.CHN_MEAS_SEL_INDEX 0 n
  let d := (d.fputB R.CHN_MEAS_HDR_VALID 0 (d.ctxState pool n == 3)).fput R.CHN_MEAS_HDR_STATE 0 (d.ctxState pool n)
  d.each (List.range 30) (fun d i => d.fput R.CHN_MEAS_VALUE i (d.measEntry pool page n i))

/-- MEAS_WINDOW_LATCH (R211). -/
def execMeasWindowLatch (pool : Fin 2) (page : Fin 8) (index : Fin 512) (s : State) : Host.Outcome State Fault Refusal :=
  nextDev s (fun d => d.measLatch pool page index)

end Sys2Proof.Machine
end

