-- ==== Sys2Proof/Machine/Rds.lean ====
section
/-!
DEFINITION. RDS and RBDS decoding (spec/07_rds.md, R212 to R243). The places of the fields in the blocks of a group, which the
manual leaves to IEC 62106, are PRESUMED (log entry 20).
-/
namespace Sys2Proof.Machine

/-! ### Access -/

/-- The decoder of FM context `n`. -/
def Dev.rdsOf (d : Dev) (n : Nat) : RdsSt := smGet (fun _ => {}) d.rds n

/-- Change the decoder of FM context `n`. -/
def Dev.updRds (d : Dev) (n : Nat) (f : RdsSt → RdsSt) : Dev := { d with rds := smSet (fun _ => {}) d.rds n (f (d.rdsOf n)) }

/-- The decoder runs (R212). -/
def Dev.rdsRuns (d : Dev) (n : Nat) : Bool :=
  d.ctxState 0 n == 3 && (d.ctxManaged 0 n || d.fbit R.RDS_CTL_EN n)

/-- RBDS mode (R212). -/
def Dev.rdsRbds (d : Dev) (n : Nat) : Bool :=
  if d.ctxManaged 0 n then d.fbit R.CHN_RDS_CFG2_MGD_RBDS else d.fbit R.RDS_CTL_RBDS n

/-- Set flag `bit` and its bit of `CHN_RDS_EVT`. -/
def Dev.rdsFlag (d : Dev) (n bit : Nat) : Dev :=
  (d.updRds n (fun r => { r with flags := r.flags ||| 2 ^ bit })).setEvtBits R.CHN_RDS_EVT.base (2 ^ bit)

/-- Count in counter `i` of item 0x06. -/
def Dev.rdsCount (d : Dev) (n i : Nat) : Dev :=
  d.updRds n (fun r => { r with counts := smSet (fun _ => 0) r.counts i ((smGet (fun _ => 0) r.counts i + 1) % 2 ^ 32) })

/-- `CHN_RDS_NEXT` (R242). -/
def Dev.rdsNext (d : Dev) : Nat :=
  match ((List.range 256).filter (fun n => (d.rdsOf n).flags != 0)).head? with
  | some n => 0x8000 + n
  | none => 0

/-! ### Life cycle -/

/-- Clear SYNC and PI_CONF and search afresh (R214, R240). -/
def Dev.rdsSearch (d : Dev) (n : Nat) : Dev :=
  ((d.fputB R.RDS_STAT_SYNC n false).fputB R.RDS_STAT_PI_CONF n false).updRds n (fun r => { r with
    seen := [], pos := 0, blks := [{}, {}, {}, {}], ready := none, last50 := [], piCand := none, afWant := none, afPairs := [],
    ctBase := none })

/-- Clear the decoded fields of R225. -/
def Dev.rdsClearFields (d : Dev) (n : Nat) : Dev :=
  let d := d.each [R.RDS_STAT_PTY, R.RDS_STAT_TP, R.RDS_STAT_TA, R.RDS_STAT_MS, R.RDS_STAT_PS_VALID, R.RDS_STAT_RT_VALID,
    R.RDS_STAT_AFM] (fun d f => d.fput f n 0)
  let d := (((d.fput R.RDS_PS0 n 0x2020).fput R.RDS_PS1 n 0x2020).fput R.RDS_PS2 n 0x2020).fput R.RDS_PS3 n 0x2020
  d.updRds n (fun r => { r with
    ptyLast := none, tpLast := none, taLast := none, msLast := none, psLast := [], psOk := [], rtFlag := none, rtLast := [], rtOk := [],
    rtPub := none, afWant := none, afPairs := [], afA := none, afALast := none, afB := [], eon := [] })

/-- Entry of the context to START (R239, R240): from OFF, or with another centre than the fields describe, everything is cleared. -/
def Dev.rdsStart (d : Dev) (n : Nat) (off : Bool) : Dev :=
  let freq := (d.ctxOf 0 n).freq
  let other := (d.rdsOf n).freq != freq
  let d := (d.rdsSearch n).updRds n (fun r => { r with piFirst := true, freq := freq })
  if off || other then
    ((((d.rdsClearFields n).fput R.RDS_PI_PI n 0).fput R.RDS_QUAL_UNREAD n 0).fput R.RDS_QUAL_BLER n 0xFF).updRds n (fun r => { r with
      piEver := false, ct := none, ring := [], counts := [], last100 := [], noSync := 2600 })
  else d

/-- What applied decoder settings do (R212), against the block `old` before them: EN cleared stops the decoder and keeps its fields. -/
def Dev.rdsApplied (old d : Dev) : Dev :=
  d.each ((List.range 256).filter (fun n => old.rdsRuns n && !d.rdsRuns n && d.ctxState 0 n == 3)) (fun d n => d.rdsSearch n)

/-- The decoders of PD4 have lost their memory: fields, rings and counters (R39). -/
def Dev.rdsLose (d : Dev) : Dev :=
  { d.each (List.range 256) (fun d n => (((d.rdsClearFields n).fput R.RDS_PI_PI n 0).fput R.RDS_QUAL_UNREAD n 0).fput R.RDS_QUAL_BLER n 0xFF) with rds := [] }

/-! ### Blocks -/

/-- The position of an offset word in the sequence A, B, C or C′, D. -/
def offPos : RdsOffset → Option Nat
  | .a => some 0
  | .b => some 1
  | .c => some 2
  | .c' => some 2
  | .d => some 3
  | .e => none
  | .none => none

/-- The error class of a block against the expected position (R215). -/
def Dev.rdsClass (d : Dev) (pos : Nat) (off : RdsOffset) (burst : Option Nat) : Nat :=
  if offPos off ≠ some pos then 3
  else
    match burst with
    | none => 3
    | some b => if b = 0 then 0 else if d.fget R.CHN_RDS_CFG_CORR_MAX < b then 3 else if b ≤ 2 then 1 else 2

/-- `k` bits of the RDS signal, at 1,187.5 bit/s, in SYS cycles. -/
def rdsBits (k : Nat) : Nat := Config.sysPerSecond * 2 * k / 2375

/-- Coexistence blanking was open at some moment of the last `k` bits (R222). -/
def Dev.rdsBlanked (d : Dev) (k : Nat) : Bool :=
  d.blanking || (d.cx.endClk != 0 && decide (d.time.clk < d.cx.endClk + rdsBits k))

/-- A PI block of class 0 to 2 (R224 to R226): the first confirmed PI differs from none before it and clears nothing. -/
def Dev.rdsPi (d : Dev) (n v : Nat) : Dev :=
  let d := d.updRds n (fun r => { r with piClk := d.time.clk })
  let r := d.rdsOf n
  if r.piCand = some v then
    let new := r.piEver && d.fget R.RDS_PI_PI n != v
    let again := d.fbit R.RDS_STAT_PI_CONF n
    let d := if new then d.rdsClearFields n else d
    let d := if new || r.piFirst then d.rdsFlag n 1 else d
    let d := if new || !again then d.rdsCount n 7 else d
    ((d.fput R.RDS_PI_PI n v).fputB R.RDS_STAT_PI_CONF n true).updRds n (fun r => { r with piFirst := false, piEver := true })
  else d.updRds n (fun r => { r with piCand := some v })

/-- BLER (R223). -/
def Dev.rdsBler (d : Dev) (n : Nat) : Dev :=
  let r := d.rdsOf n
  if 2600 ≤ r.noSync then d.fput R.RDS_QUAL_BLER n 0xFF
  else if r.last100.isEmpty then d
  else d.fput R.RDS_QUAL_BLER n (divNear (100 * (r.last100.filter id).length) r.last100.length)

/-- Store a block at position `pos` of the group in progress. -/
def Dev.rdsPut (d : Dev) (n pos : Nat) (b : RdsBlk) : Dev := d.updRds n (fun r => { r with blks := r.blks.set pos b })

/-- The end of position `pos`: after D the group position is complete (R218, R219). A step of device time since its first bit makes it straddle
(R238). -/
def Dev.rdsAdvance (d : Dev) (n pos : Nat) : Dev :=
  if pos = 3 then
    d.updRds n (fun r => { r with
      pos := 0, blks := [{}, {}, {}, {}], blank := false
      ready := some (⟨r.blks, d.stampAt r.start, r.blank⟩, d.time.stepClk != 0 && decide (r.start < d.time.stepClk)) })
  else d.updRds n (fun r => { r with pos := pos + 1 })

/-- A position tested in the search (R214): a class 0 block that stands 26 × k bits behind another in sequence gives synchronisation. The group in
which that happens keeps the blocks received before, those of no class 0 with their raw bits (R218). -/
def Dev.rdsSearchBlock (d : Dev) (n : Nat) (word raw : Nat) (off : RdsOffset) (burst : Option Nat) (bits : Nat) : Dev :=
  let aged := ((d.rdsOf n).seen.map (fun e => (e.1 + bits, e.2))).filter (fun e => decide (e.1 ≤ 156))
  let d := d.updRds n (fun r => { r with seen := aged, noSync := min (r.noSync + bits) 2600 })
  let d := d.rdsBler n
  let blank := d.rdsBlanked 26
  match offPos off, burst with
  | some p, some 0 =>
    let blk : RdsBlk := ⟨word, 0, off == .c'⟩
    let d := if p = 0 || off == .c' then d.rdsPi n word else d
    let pair (e : Nat × Option Nat × RdsBlk × Bool) : Bool :=
      match e.2.1 with | some q => e.1 % 26 == 0 && decide (1 ≤ e.1 / 26) && (q + e.1 / 26) % 4 == p | none => false
    if aged.any pair then
      let d := ((d.fputB R.RDS_STAT_SYNC n true).rdsFlag n 0).updRds n (fun r => { r with
        seen := [], last50 := [], noSync := 0, start := d.time.clk - rdsBits (26 * (p + 1)), blks := [{}, {}, {}, {}], blank := blank })
      let d := d.each (List.range p) (fun d j =>
        match aged.find? (fun e => e.1 == 26 * (p - j)) with
        | some (_, q, b, bl) => (d.rdsPut n j (if q = some j then b else { b with cls := 3, cPrime := false })).updRds n (fun r => { r with blank := r.blank || bl })
        | none => d.updRds n (fun r => { r with blank := r.blank || d.rdsBlanked (26 * (p - j + 1)) }))
      (d.rdsPut n p blk).rdsAdvance n p
    else d.updRds n (fun r => { r with seen := (0, some p, blk, blank) :: aged })
  | _, _ => d.updRds n (fun r => { r with seen := (0, none, ⟨raw, 3, false⟩, blank) :: aged })

/-- A block while synchronised (R215 to R217, R222, R223); one of class 3 keeps its raw bits (R218). A group cut short by the loss of synchronisation interrupts a list in progress (R231). -/
def Dev.rdsSyncBlock (d : Dev) (n : Nat) (word raw : Nat) (off : RdsOffset) (burst : Option Nat) : Dev :=
  if off == .e && burst == some 0 && d.rdsRbds n then d
  else
    let r := d.rdsOf n
    let pos := r.pos
    let cls := d.rdsClass pos off burst
    let bad := cls == 3
    let blank := d.rdsBlanked 26
    let d := d.rdsCount n 0
    let d := if cls = 0 then d else d.rdsCount n cls
    let d := d.updRds n (fun r => { r with
      noSync := 0, last50 := (bad :: r.last50).take 50, blank := r.blank || blank, start := if pos = 0 then d.time.clk - rdsBits 26 else r.start
      last100 := if blank then r.last100 else (bad :: r.last100).take 100 })
    let d := d.rdsBler n
    let d := d.rdsPut n pos ⟨if bad then raw else word, cls, pos == 2 && off == .c' && !bad⟩
    let d := if !bad && (pos == 0 || (pos == 2 && off == .c')) then d.rdsPi n word else d
    let d := d.rdsAdvance n pos
    if d.fget R.CHN_RDS_CFG_LOSS ≤ ((d.rdsOf n).last50.filter id).length then
      (((d.fputB R.RDS_STAT_SYNC n false).rdsFlag n 0).rdsCount n 6).updRds n (fun r => { r with
        seen := [], last50 := [], pos := 0, blank := false,
        afWant := if pos = 3 then r.afWant else none, afPairs := if pos = 3 then r.afPairs else [] })
    else d

/-- RDS_BLOCK (R214 to R218, R224 to R226): a block of 26 bits with its information word, the offset word it matches, the length of the burst corrected
(none: uncorrectable), and the bits since the block before it. -/
def execRdsBlock (n : Fin 256) (info : RdsInfo) (off : RdsOffset) (burst : Option Nat) (bits : Nat) (s : State) : Host.Outcome State Fault Refusal :=
  nextDev s (fun d =>
    if d.rdsRuns n then
      if d.fbit R.RDS_STAT_SYNC n then d.rdsSyncBlock n info.word.toNat info.raw.toNat off burst
      else d.rdsSearchBlock n info.word.toNat info.raw.toNat off burst bits
    else d)

/-- PI_HOLD_EXPIRY (R226): no PI block of class 0 to 2 has arrived for PI_HOLD seconds; one that arrives in the same cycle counts first (R7). -/
def execPiHoldExpiry (n : Fin 256) (s : State) : Host.Outcome State Fault Refusal :=
  nextDev s (fun d =>
    if d.reached ((d.rdsOf n).piClk + msCycles (1000 * d.fget R.CHN_RDS_CFG2_PI_HOLD)) then d.fputB R.RDS_STAT_PI_CONF n false else d)

/-! ### Decoded fields -/

/-- The block is used for fields other than PI. -/
def Dev.rdsUse (d : Dev) (b : RdsBlk) : Bool := decide (b.cls ≤ d.fget R.CHN_RDS_CFG_USE_MAX)

/-- Bits [hi:lo] of a number. -/
def field (v hi lo : Nat) : Nat := v / 2 ^ lo % 2 ^ (hi + 1 - lo)

/-- PTY, TP (every group) and TA, MS (groups 0A, 0B), on two successive identical receptions. -/
def Dev.rdsBasic (d : Dev) (n b : Nat) : Dev :=
  let r := d.rdsOf n
  let pty := field b 9 5
  let tp := bitAt b 10
  let d := if r.ptyLast = some pty then d.fput R.RDS_STAT_PTY n pty else d
  let d := if r.tpLast = some tp then d.fputB R.RDS_STAT_TP n tp else d
  let d := d.updRds n (fun r => { r with ptyLast := some pty, tpLast := some tp })
  if field b 15 12 = 0 then
    let ta := bitAt b 4
    let ms := bitAt b 3
    let d := if r.taLast = some ta && d.fbit R.RDS_STAT_TA n != ta then (d.fputB R.RDS_STAT_TA n ta).rdsFlag n 4 else d
    let d := if r.msLast = some ms then d.fputB R.RDS_STAT_MS n ms else d
    d.updRds n (fun r => { r with taLast := some ta, msLast := some ms })
  else d

/-- A PS segment (R228). -/
def Dev.rdsPs (d : Dev) (n seg chars : Nat) : Dev :=
  let r := d.rdsOf n
  let ok := (smGet (fun _ => none) (r.psLast.map (fun e => (e.1, some e.2))) seg) == some chars
  let d := d.updRds n (fun r => { r with
    psLast := smSet (fun _ => 65536) r.psLast seg chars, psOk := if ok then smSet (fun _ => 65536) r.psOk seg chars else r.psOk })
  let o := (d.rdsOf n).psOk
  if o.length = 4 then
    let w (i : Nat) : Nat := smGet (fun _ => 0) o i
    let old := [d.fget R.RDS_PS0 n, d.fget R.RDS_PS1 n, d.fget R.RDS_PS2 n, d.fget R.RDS_PS3 n]
    let valid := d.fbit R.RDS_STAT_PS_VALID n
    let d := ((((d.fput R.RDS_PS0 n (w 0)).fput R.RDS_PS1 n (w 1)).fput R.RDS_PS2 n (w 2)).fput R.RDS_PS3 n (w 3)).fputB R.RDS_STAT_PS_VALID n true
    let d := d.updRds n (fun r => { r with psOk := [] })
    if valid && old == [w 0, w 1, w 2, w 3] then d else d.rdsFlag n 2
  else d

/-- The characters of the working text up to its end, when every segment up to it has been accepted (R230). -/
def rtText (segs : SMap Nat) (b : Bool) : Option (List Nat) :=
  let size := if b then 2 else 4
  let go := (List.range 16).foldl (fun (acc : Option (List Nat) × Bool) i =>
    match acc with
    | (none, x) => (none, x)
    | (some l, true) => (some l, true)
    | (some l, false) =>
      match segs.find? (fun e => e.1 == i) with
      | none => (none, false)
      | some e =>
        let cs := if size = 2 then beWord e.2 else be32 e.2
        let head := cs.takeWhile (· != 0x0D)
        (some (l ++ head), decide (head.length < cs.length))) (some [], false)
  go.1

/-- A usable block B of a RadioText group (R230): a change of the A/B flag, or of the form, clears the working text. -/
def Dev.rdsRtFlag (d : Dev) (n : Nat) (ab form : Bool) : Dev :=
  if (d.rdsOf n).rtFlag = some (ab, form) then d
  else d.updRds n (fun r => { r with rtFlag := some (ab, form), rtLast := [], rtOk := [] })

/-- A RadioText segment (R230): `sure` when all its text blocks are of class 0. -/
def Dev.rdsRt (d : Dev) (n : Nat) (ab form : Bool) (seg chars : Nat) (sure : Bool) : Dev :=
  let same := (d.rdsOf n).rtLast.any (fun e => e.1 == seg && e.2 == chars)
  let d := d.updRds n (fun r => { r with
    rtLast := smSet (fun _ => 2 ^ 32) r.rtLast seg chars,
    rtOk := if sure || same then smSet (fun _ => 2 ^ 32) r.rtOk seg chars else r.rtOk })
  match rtText (d.rdsOf n).rtOk form with
  | none => d
  | some t =>
    let differs := match (d.rdsOf n).rtPub with | some p => p.1 != t | none => true
    let d := (d.updRds n (fun r => { r with rtPub := some (t, ab, form, d.time.sec), rtOk := [] })).fputB R.RDS_STAT_RT_VALID n true
    if differs then d.rdsFlag n 3 else d

/-! ### Alternative frequencies -/

/-- The FM frequency of a code from 1 to 204, kHz above 64,000. -/
def afFm (c : Nat) : Option Nat := if 1 ≤ c ∧ c ≤ 204 then some (23500 + 100 * c) else none

/-- The LW or MW frequency of a code that follows 250, with flag bit 0. -/
def afLm (c : Nat) : Option Nat :=
  if 1 ≤ c ∧ c ≤ 15 then some (65536 + 153 + 9 * (c - 1)) else if 16 ≤ c ∧ c ≤ 135 then some (65536 + 531 + 9 * (c - 16)) else none

/-- The entries of one pair of codes. -/
def afPair (x y : Nat) : List Nat := if x = 250 then (afLm y).toList else (afFm x).toList ++ (afFm y).toList

/-- A complete list is method B (R232). -/
def afIsB (want : Nat) (pairs : List (List Nat)) : Bool :=
  match pairs with
  | [t] :: rest => decide (3 ≤ want) && rest.all (fun p => p.contains t && p.length == 2)
  | _ => false

/-- The entries of a method B list: the tuning frequency, then the others, regional variants flagged. -/
def afBList (t : Nat) (pairs : List (List Nat)) : List Nat :=
  (4 * 65536 + t) :: pairs.map (fun p =>
    match p with
    | [x, y] => if x = t then (if x ≤ y then y else 2 * 65536 + y) else (if x ≤ y then x else 2 * 65536 + x)
    | _ => 0)

/-- `STAT.AFM` (R233). -/
def Dev.rdsAfm (d : Dev) (n : Nat) : Dev :=
  let r := d.rdsOf n
  let own := (d.ctxOf 0 n).freq - 64000
  d.fput R.RDS_STAT_AFM n
    (if r.afB.any (fun l => l.tune == own && l.pub.isSome) then 2 else if r.afA.isSome then 1 else 0)

/-- Put `e` in the place of the element that `same` selects, else in a free place, else in place of the least recently heard. -/
def placeIn {α : Type} (cap : Nat) (same : α → Bool) (heard : α → Nat) (e : α) (l : List α) : List α :=
  match l.findIdx? same with
  | some i => l.set i e
  | none =>
    if l.length < cap then l ++ [e]
    else
      let oldest := l.foldl (fun m x => min m (heard x)) (heard e)
      l.set (l.findIdx (fun x => heard x == oldest)) e

/-- A complete list (R232, R233). -/
def Dev.rdsAfComplete (d : Dev) (n want : Nat) (pairs : List (List Nat)) : Dev :=
  if afIsB want pairs then
    let t := (pairs.headD []).headD 0
    let l := afBList t (pairs.drop 1)
    let r := d.rdsOf n
    let old := r.afB.find? (fun x => x.tune == t)
    let agree := match old with | some o => o.cur == l | none => false
    let was := match old with | some o => o.pub | none => none
    let e : AfB := ⟨t, l, if agree then some l else was, r.serial⟩
    let d := (d.updRds n (fun r => { r with
      afB := placeIn 12 (fun x => x.tune == t) (·.heard) e r.afB, serial := r.serial + 1 })).rdsAfm n
    if agree && was != some l then d.rdsFlag n 5 else d
  else
    let l := pairs.flatten
    let r := d.rdsOf n
    let agree := r.afALast == some l
    let d := (d.updRds n (fun r => { r with afALast := some l, afA := if agree then some l else r.afA })).rdsAfm n
    if agree && r.afA != some l then d.rdsFlag n 5 else d

/-- A pair of AF codes (R231). -/
def Dev.rdsAf (d : Dev) (n x y : Nat) : Dev :=
  let r := d.rdsOf n
  let go (d : Dev) (want : Nat) (pairs : List (List Nat)) : Dev :=
    if want ≤ (pairs.map List.length).foldl (· + ·) 0 then
      (d.updRds n (fun r => { r with afWant := none, afPairs := [] })).rdsAfComplete n want pairs
    else d.updRds n (fun r => { r with afWant := some want, afPairs := pairs })
  if 224 ≤ x ∧ x ≤ 249 then go d (x - 224) (if x = 224 then [] else [(afFm y).toList])
  else
    match r.afWant with
    | none => d
    | some want => go d want (r.afPairs ++ [afPair x y])

/-- A list in progress is discarded (R231). -/
def Dev.rdsAfBreak (d : Dev) (n : Nat) : Dev := d.updRds n (fun r => { r with afWant := none, afPairs := [] })

/-! ### Enhanced Other Networks -/

/-- Change the EON entry of `pi`, a new one in a free place or in place of the least recently heard (R235). -/
def Dev.eonUpd (d : Dev) (n pi : Nat) (f : EonEnt → EonEnt) : Dev :=
  d.updRds n (fun r =>
    let e := match r.eon.find? (fun e => e.pi == pi) with | some e => e | none => { pi := pi }
    { r with eon := placeIn 8 (fun e => e.pi == pi) (·.heard) { f e with heard := r.serial } r.eon, serial := r.serial + 1 })

/-- Take an item of an entry on two successive identical receptions. -/
def EonEnt.item (e : EonEnt) (k v : Nat) (take : EonEnt → EonEnt) : EonEnt :=
  let same := e.last.any (fun x => x.1 == k && x.2 == v)
  let e := { e with last := smSet (fun _ => 65536) e.last k v }
  if same then take e else e

/-- Add frequencies up to 8; further ones are ignored. -/
def addFreqs (l new : List Nat) : List Nat := new.foldl (fun l f => if l.contains f || 8 ≤ l.length then l else l ++ [f]) l

/-- A 14A group (R235): variant and its information word. -/
def Dev.eonA (d : Dev) (n pi variant w own : Nat) : Dev :=
  d.eonUpd n pi (fun e =>
    if variant ≤ 3 then
      let same := e.psLast.any (fun x => x.1 == variant && x.2 == w)
      let ps := if same then smSet (fun _ => 65536) e.ps variant w else e.ps
      let e := { e with psLast := smSet (fun _ => 65536) e.psLast variant w }
      if ps.length = 4 then { e with ps := [], name := ps.map (·.2) } else { e with ps := ps }
    else if variant = 4 then e.item 4 w (fun e => { e with freqs := addFreqs e.freqs (afPair (w / 256) (w % 256)) })
    else if variant ≤ 9 then
      e.item variant w (fun e =>
        if afFm (w / 256) = some own then
          { e with freqs := addFreqs e.freqs (if variant = 9 then (afLm (w % 256)).toList else (afFm (w % 256)).toList) }
        else e)
    else if variant = 13 then e.item 13 w (fun e => { e with pty := field w 15 11, ta := bitAt w 0 })
    else e)

/-! ### Clock time -/

/-- A 4A group whose blocks are all of class 0 (R236 to R238). -/
def Dev.rdsCt (d : Dev) (n b c w time : Nat) (straddle : Bool) : Dev :=
  let mjd := field b 1 0 * 32768 + field c 15 1
  let hour := field c 0 0 * 16 + field w 15 12
  let minute := field w 11 6
  let off := field w 4 0
  if hour ≤ 23 ∧ minute ≤ 59 ∧ off ≤ 28 then
    let utc := mjd * 1440 + hour * 60 + minute
    let chosen := d.fbit R.CHN_RDS_CT_EN && d.fget R.CHN_RDS_CT_CTX == n && d.fbit R.RDS_STAT_PI_CONF n
    let r := d.rdsOf n
    let pass := match r.ctBase with
      | some (u, t) => decide (u < utc) && decide (((time : Int) - t - (utc - u : Nat) * 60 * 2 ^ 32).natAbs ≤ 2 * 2 ^ 32)
      | none => false
    let offered := chosen && pass && !straddle
    let base := if straddle then r.ctBase else if r.ctBase.isSome && !pass then none else some (utc, time)
    let d := (d.updRds n (fun r => { r with
      ct := some ⟨mjd, hour, minute, if bitAt w 5 then -(off : Int) else off, time, offered⟩, ctBase := base })).rdsFlag n 6
    if offered then { d with ctOffer := (utc * 60000, time) :: d.ctOffer } else d
  else d

/-! ### Groups -/

/-- Decode a group into the fields of its context. -/
def Dev.rdsDecode (d : Dev) (n : Nat) (g : RdsGrp) (straddle : Bool) : Dev :=
  let blk (i : Nat) : RdsBlk := g.blks.getD i {}
  let b := (blk 1).word
  if !d.rdsUse (blk 1) then d.rdsAfBreak n
  else
    let d := d.rdsBasic n b
    let type := field b 15 12
    let verB := bitAt b 11
    let useC := d.rdsUse (blk 2)
    let useD := d.rdsUse (blk 3)
    let c := (blk 2).word
    let w := (blk 3).word
    match type with
    | 0 =>
      let d := if useD then d.rdsPs n (field b 1 0) w else d
      if verB then d else if useC then d.rdsAf n (c / 256) (c % 256) else d.rdsAfBreak n
    | 2 =>
      let d := d.rdsRtFlag n (bitAt b 4) verB
      if verB then
        (if useD then d.rdsRt n (bitAt b 4) true (field b 3 0) w ((blk 3).cls == 0) else d)
      else if useC && useD then
        d.rdsRt n (bitAt b 4) false (field b 3 0) (c * 65536 + w) ((blk 2).cls == 0 && (blk 3).cls == 0)
      else d
    | 4 =>
      if !verB && (blk 1).cls == 0 && (blk 2).cls == 0 && (blk 3).cls == 0 then d.rdsCt n b c w g.time straddle else d
    | 14 =>
      if !useD then d
      else if verB then
        d.eonUpd n w (fun e => e.item 14 (field b 4 3) (fun e => { e with tp := bitAt b 4, ta := bitAt b 3 }))
      else if useC then d.eonA n w (field b 3 0) c ((d.ctxOf 0 n).freq - 64000)
      else d
    | _ => d

/-- The error classes of a group as `CHN_RDS_GINF.CLASS` shows them. -/
def RdsGrp.classes (g : RdsGrp) : Nat := g.blks.foldl (fun v b => v * 4 + b.cls) 0

/-- The version B mark: block 3 carried offset C′. -/
def RdsGrp.verB (g : RdsGrp) : Bool := (g.blks.getD 2 {}).cPrime

/-- A formed group enters the ring (R220) and Ferson class 2 (R221, R342). -/
def Dev.rdsDeliver (d : Dev) (n : Nat) (g : RdsGrp) : Dev :=
  let full := decide (16 ≤ (d.rdsOf n).ring.length)
  let d := if full then (d.rdsFlag n 7).rdsCount n 5 else d
  let d := d.updRds n (fun r => { r with ring := (if full then r.ring.drop 1 else r.ring) ++ [g] })
  let d := (d.fput R.RDS_QUAL_UNREAD n (d.rdsOf n).ring.length).rdsCount n 4
  if d.mapSel 4 n then
    d.formPacket ⟨d.time.clk, 2, n, g.time, g.blanked, 0, .bytes (g.blks.flatMap (fun b => beWord b.word) ++ [g.classes,
      b2n g.verB + 2 * b2n g.blanked + 4 * b2n (d.rdsRbds n) + 8 * b2n (d.fbit R.RDS_STAT_PI_CONF n)] ++
      beWord (d.fget R.FMC_FREQ_FREQ n) ++ beWord (d.fget R.FMC_LEVEL_VALUE n))⟩
  else d

/-- RDS_GROUP (R218 to R238): the complete group position is formed when one of its blocks is of class 0 to 2. -/
def execRdsGroup (n : Fin 256) (s : State) : Host.Outcome State Fault Refusal :=
  nextDev s (fun d =>
    match (d.rdsOf n).ready with
    | none => d
    | some (g, straddle) =>
      let d := d.updRds n (fun r => { r with ready := none })
      if g.blks.all (fun b => b.cls == 3) then d.rdsAfBreak n
      else (d.rdsDecode n g straddle).rdsDeliver n g)

/-! ### Host access -/

/-- A read of `PS0` freezes PS1 to PS3 (R229). -/
def Dev.psFreeze (d : Dev) (n : Nat) : Dev :=
  d.updRds n (fun r => { r with psFrozen := some (d.fget R.RDS_PS1 n, d.fget R.RDS_PS2 n, d.fget R.RDS_PS3 n) })

/-- A read of `PS3`, or the end of the transaction, releases them (R229). -/
def Dev.psRelease (d : Dev) (n : Nat) : Dev := d.updRds n (fun r => { r with psFrozen := none })

/-- A write to `CHN_RDS_GSEL` (R220): the oldest unread group is latched and marked read. -/
def Dev.grpLatch (d : Dev) (index : Nat) : Dev :=
  let n := min index 255
  let d := d.fput R.CHN_RDS_GSEL_INDEX 0 n
  match (d.rdsOf n).ring with
  | [] => d.fput R.CHN_RDS_GINF 0 0
  | g :: rest =>
    let d := (d.updRds n (fun r => { r with ring := rest })).fput R.RDS_QUAL_UNREAD n rest.length
    let d := d.fput R.CHN_RDS_GINF 0 (0x8000 + b2n g.blanked * 0x4000 + b2n g.verB * 0x2000 + rest.length * 256 + g.classes)
    d.each (List.range 4) (fun d i => d.fput R.CHN_RDS_GBLK_BLOCK i (g.blks.getD i {}).word)

/-- RDS_GROUP_LATCH (R220). -/
def execRdsGroupLatch (index : Fin 512) (s : State) : Host.Outcome State Fault Refusal := nextDev s (fun d => d.grpLatch index)

/-- A write of 1 bits to `CHN_RDS_FLAG` (R242). -/
def Dev.rdsFlagClear (d : Dev) (bits : Nat) : Dev :=
  d.updRds (d.fget R.CHN_RDS_FCTX_INDEX) (fun r => { r with flags := r.flags - (r.flags &&& bits) })

/-- RDS_FLAG_CLEAR (R242). -/
def execRdsFlagClear (bits : Byte) (s : State) : Host.Outcome State Fault Refusal := nextDev s (fun d => d.rdsFlagClear bits.toNat)

/-- The frequency entries of a list: flags byte and frequency. -/
def freqBytes (l : List Nat) : List Nat := l.flatMap (fun e => [e / 65536] ++ beWord (e % 65536))

/-- The published PS(ON); spaces before the first publication (DESIGN CHOICE, log entry 54). -/
def EonEnt.text (e : EonEnt) : List Nat := (List.range 4).flatMap (fun i => beWord (e.name.getD i 0x2020))

/-- The payload of request 0x40 (R243); none for status 0x02. -/
def Dev.rdsItem (d : Dev) (offset : Nat) : Option (List Nat) :=
  let item := field offset 31 24
  let sub := field offset 23 16
  let n := field offset 15 0
  if 255 < n then none
  else
    let r := d.rdsOf n
    match item with
    | 1 =>
      if sub ≠ 0 then none
      else match r.rtPub with
        | none => some ([0, 0] ++ be32 0)
        | some (t, ab, form, sec) => some ([b2n ab + 2 * b2n form + 4, t.length] ++ be32 sec ++ t)
    | 2 =>
      if 12 < sub then none
      else
        let held := r.afB.filter (fun l => l.pub.isSome)
        let wantA := sub == 12 || held.isEmpty
        if wantA then
          match r.afA with
          | some l => some ([1, held.length, l.length] ++ freqBytes l)
          | none => some [0, held.length, 0]
        else
          match held[sub]? with
          | some l => some ([2, held.length, (l.pub.getD []).length] ++ freqBytes (l.pub.getD []))
          | none => some [0, held.length, 0]
    | 3 =>
      if 7 < sub then none
      else match r.eon[sub]? with
        | none => some (List.replicate 13 0)
        | some e => some ([1 + 2 * b2n e.tp + 4 * b2n e.ta, e.pty] ++ beWord e.pi ++ e.text ++ [e.freqs.length] ++ freqBytes e.freqs)
    | 4 => if sub ≠ 0 then none else some ((List.range 8).flatMap (fun i => beWord (match r.eon[i]? with | some e => e.pi | none => 0)))
    | 5 =>
      if sub ≠ 0 then none
      else match r.ct with
        | none => some (List.replicate 15 0)
        | some c => some ([c.mjd / 65536] ++ beWord (c.mjd % 65536) ++ [c.hour, c.minute, unsgn 8 c.loc] ++ be64 c.time ++ [1 + 2 * b2n c.offered])
    | 6 => if sub ≠ 0 then none else some ((List.range 8).flatMap (fun i => be32 (smGet (fun _ => 0) r.counts i)))
    | _ => none

/-- RDS_ITEM_READ (R243): the work of mailbox request 0x40: the items as they stood when the request was taken. -/
def execRdsItemRead (s : State) : Host.Outcome State Fault Refusal :=
  nextDev s (fun d =>
    match d.mbxWork 0x40 with
    | none => d
    | some _ =>
      match d.mbx.snap with
      | some p => d.mbxDone 0 p
      | none => d.mbxDone 2 [])

/-- The AFs that the decoder offers while `PI_CONF` = 1 (R234), with their flags. -/
def Dev.rdsOffered (d : Dev) (n : Nat) : List Nat :=
  if !d.fbit R.RDS_STAT_PI_CONF n then []
  else
    match d.fget R.RDS_STAT_AFM n with
    | 2 => (((d.rdsOf n).afB.find? (fun l => l.tune == (d.ctxOf 0 n).freq - 64000)).bind (·.pub)).getD [] |>.filter
        (fun e => e / 65536 % 8 / 2 == 0)
    | 1 => (d.rdsOf n).afA.getD []
    | _ => []

end Sys2Proof.Machine
end

