-- ==== Sys2Proof/Machine/Prg.lean ====
section
/-!
DEFINITION. Programmes: sources and candidates, scoring, policies and switching, alignment and delay memory, reference comparison,
health meters (spec/09_programmes.md, R278 to R324; R17, R50, R73).
-/
namespace Sys2Proof.Machine

/-! ### Access -/

/-- Programme `p`. -/
def Dev.prgOf (d : Dev) (p : Nat) : PrgSt := smGet (fun _ => {}) d.prg p

/-- Change programme `p`. -/
def Dev.updPrg (d : Dev) (p : Nat) (f : PrgSt → PrgSt) : Dev := { d with prg := smSet (fun _ => {}) d.prg p (f (d.prgOf p)) }

/-- Source `i` of programme `p`. -/
def Dev.srcOf (d : Dev) (p i : Nat) : SrcSt := smGet (fun _ => {}) (d.prgOf p).srcs i

/-- Change source `i` of programme `p`. -/
def Dev.updSrc (d : Dev) (p i : Nat) (f : SrcSt → SrcSt) : Dev :=
  d.updPrg p (fun g => { g with srcs := smSet (fun _ => {}) g.srcs i (f (smGet (fun _ => {}) g.srcs i)) })

/-- Set flag `bit` of programme `p` (the flag table of 09). -/
def Dev.prgFlag (d : Dev) (p bit : Nat) : Dev :=
  (d.updPrg p (fun g => { g with flags := g.flags ||| 2 ^ bit })).setEvtBits R.PRG_EVT.base (2 ^ bit)

/-- The Gecko engines run: PD4 is ON (R39), and no reset is held. -/
def Dev.geckoRuns (d : Dev) : Bool := d.domOn 4 && !d.inReset

/-- The running programmes. -/
def Dev.prgLive (d : Dev) : List Nat := (List.range 128).filter (fun p => (d.prgOf p).on)

/-- The Gecko engines run their Tadpole baseline. -/
def Dev.geckoBase (d : Dev) : Bool := bitAt d.boot.tadpole 1

/-- POLICY in force: 0 priority, 1 best quality, 2 fixed; the baseline knows priority only. -/
def Dev.policy (d : Dev) (p : Nat) : Nat := if d.geckoBase then 0 else min (d.fget R.PGT_CTL_POLICY p) 2

/-- Alignment is on for programme `p` (R302). -/
def Dev.aligns (d : Dev) (p : Nat) : Bool := d.fbit R.PGT_CTL_ALIGN p && !d.geckoBase

/-- KIND and ARG of slot `i` of programme `p` (R281). -/
def Dev.slotOf (d : Dev) (p i : Nat) : Nat × Nat := (d.fget R.PGT_SRC_KIND (16 * p + i), d.fget R.PGT_SRC_ARG (16 * p + i))

/-- Candidate `i` (8 to 15) of programme `p`. -/
def Dev.candOf (d : Dev) (p i : Nat) : Option CandSt := smGet (fun _ => none) (d.prgOf p).cands i

/-- Kind, index and SId of source `i`; none for an empty slot or a follow rule. -/
def Dev.srcRef (d : Dev) (p i : Nat) : Option (Nat × Nat × Nat) :=
  if i < 8 then
    let s := d.slotOf p i
    if s.1 = 0 ∨ s.1 = 4 ∨ s.1 = 5 then none else some (s.1, s.2, d.fget R.PGT_SID_ID p)
  else (d.candOf p i).map (fun c => (c.kind, c.idx, c.sid))

/-- The sources of programme `p`. -/
def Dev.srcIdx (d : Dev) (p : Nat) : List Nat := (List.range 16).filter (fun i => (d.srcRef p i).isSome)

/-- The subchannel of the primary audio component of a service (R283). -/
def Dev.audioSub (d : Dev) (b sid : Nat) : Option Nat :=
  (dbFind sid (d.dbeOf b).svcs).bind (fun e =>
    let a := e.2.body.comps.filter (fun c => c.tmid == 0)
    ((a.filter (·.primary) ++ a).head?).map (·.subch))

/-- The DSC entry that decodes that subchannel to PCM. -/
def Dev.dscServing (d : Dev) (b sc : Nat) : Option Nat :=
  ((List.range 48).filter (fun n => d.dscState n != 0 && d.dscTarget n == (b, sc) && (d.ctxManaged 4 n || d.fbit R.DSC_CTL_AUDIO n))).head?

/-- The DSC entry of a DAB source. -/
def Dev.srcDsc (d : Dev) (b sid : Nat) : Option Nat := (d.audioSub b sid).bind (fun sc => d.dscServing b sc)

/-- The least presentation delay in samples (R285). -/
def Dev.pMin (d : Dev) (p i : Nat) : Int :=
  match d.srcRef p i with
  | some (1, _, _) => 168
  | some (2, _, _) => 240
  | some (3, b, sid) => if ((d.srcDsc b sid).map (fun n => d.fget R.DSC_STAT_CODING n)) = some 2 then 24048 else 19248
  | some (9, _, _) => 0
  | some _ => 192
  | none => 0

/-! ### Input pairs -/

/-- The input pair of a source kind 6 to 8 is delivering (R287): its port runs, or the receiver is locked. -/
def Dev.pairUp (d : Dev) (kind arg : Nat) : Bool :=
  match kind with
  | 6 => d.fget R.P_STAT_STATE (arg / 256 % 4) == 3
  | 7 => d.prt.spd == 3
  | _ => true

/-- The port or receiver of a reference pair has lost its clock (R317, R423, R432); one that is OFF has not. -/
def Dev.pairLost (d : Dev) (kind arg : Nat) : Bool :=
  match kind with
  | 6 => d.fget R.P_STAT_STATE (arg / 256 % 4) == 4
  | 7 => d.fbit R.SPD_RX_CFG_EN 0 && d.prt.spd == 0
  | _ => false

/-- The block in progress of a TDM or IEC 60958 pair contains a discarded or zero frame (R421, R432). -/
def Dev.pairGap (d : Dev) (kind arg : Nat) : Bool :=
  (kind == 6 && (smGet (fun _ => ({} : PortSt)) d.ports (arg / 256 % 4)).gap) || (kind == 7 && d.prt.spdGap)

/-- The return blocks of the ports have been delivered. -/
def Dev.clearGaps (d : Dev) : Dev :=
  let gap (n : Nat) (p : PortSt) : PortSt := { p with gap := d.fget R.P_STAT_STATE n != 3 }
  let ports := (List.range 3).foldl (fun m n => smSet (fun _ => {}) m n (gap n (smGet (fun _ => {}) m n))) d.ports
  { d with ports := ports, prt := { d.prt with spdGap := d.prt.spd != 3 } }

/-- The return pairs of R284: in increasing order of programme and slot, each pair once, at most 16 (R17). -/
def Dev.returnPairs (d : Dev) : List Nat :=
  (((List.range 128).filter (fun p => d.fbit R.PGT_CTL_EN p)).flatMap (fun p => (List.range 8).filterMap (fun i =>
    let s := d.slotOf p i
    if 6 ≤ s.1 ∧ s.1 ≤ 8 then some (s.1 * 4096 + s.2) else none))).foldl (fun l x => if l.contains x || 16 ≤ l.length then l else l ++ [x]) []

/-- The programmes that take a comparison slot (R314): 32 of each Gecko, in increasing order. -/
def Dev.refSlots (d : Dev) : List Nat :=
  if d.geckoBase then []
  else
    let want (p : Nat) : Bool := d.fbit R.PGT_CTL_EN p && d.fget R.PGT_REF_KIND p != 0
    ((List.range 64).filter want).take 32 ++ (((List.range 64).map (· + 64)).filter want).take 32

/-! ### Scores -/

/-- A PI equals the programme's, with REG apart from bits [11:8] (R288). -/
def Dev.piEqual (d : Dev) (p pi : Nat) : Bool :=
  let own := d.fget R.PGT_PI_ID p
  pi == own || (d.fbit R.PGT_CTL_REG p && pi - pi / 256 % 16 * 256 == own - own / 256 % 16 * 256)

/-- Three factors of R286: 1000 × clamp((x − lo) / (hi − lo)) × w / v, rounded. `x` in hundredths. -/
def scoreOf (x : Int) (lo hi w v : Nat) : Nat :=
  let num := (clampInt 0 (100 * ((hi : Int) - lo)) (x - 100 * lo)).toNat
  divNear (1000 * num * w) (100 * (hi - lo) * v)

/-- The score of a source for the interval that ends (R286 to R288), before R289. -/
def Dev.srcScore (d : Dev) (p i : Nat) : Nat :=
  let s := d.srcOf p i
  let mean : Int := if s.n = 0 then 0 else s.sum * 10 / s.n
  match d.srcRef p i with
  | none => 0
  | some (1, n, _) =>
    let m := smGet (fun _ => noValue) (d.fmOf n).meas 4
    let conf := d.fbit R.RDS_STAT_PI_CONF n
    let own := d.fget R.PGT_PI_ID p
    let wrong := (own != 0 && conf && !d.piEqual p (d.fget R.RDS_PI_PI n)) || (decide (8 ≤ i) && !conf)
    if d.ctxState 0 n ≠ 3 || s.missing || s.n = 0 || d.fbit R.FMC_STAT_MUTED n || wrong then 0
    else scoreOf mean (d.fget R.PRG_SCORE_FM_LO) (d.fget R.PRG_SCORE_FM_HI) (510 - (if m = noValue then 0 else m)) 510
  | some (2, n, _) =>
    if d.ctxState 1 n ≠ 3 || s.missing || s.n = 0 || d.fbit R.AMC_STAT_MUTED n then 0
    else scoreOf mean (d.fget R.PRG_SCORE_AM_LO) (d.fget R.PRG_SCORE_AM_HI) 1 1
  | some (3, b, sid) =>
    (match d.srcDsc b sid with
     | none => 0
     | some n =>
       let f := d.fget R.DSC_QUAL_FER n
       if d.dscState n ≠ 3 || !d.fbit R.DSC_STAT_PCM n || s.missing || f = 0xFF then 0
       else scoreOf (100 * (d.fget R.DSC_QUAL_BER n : Int)) (d.fget R.PRG_SCORE_DAB_LO) (d.fget R.PRG_SCORE_DAB_HI) (20 - f) 20)
  | some (9, _, _) => 1
  | some (k, arg, _) => if d.pairUp k arg && d.pairs.contains (k * 4096 + arg) && !s.missing then 1000 else 0

/-- The context that carries a source is shed (R46). -/
def Dev.srcShed (d : Dev) (p i : Nat) : Bool :=
  match d.srcRef p i with
  | some (1, n, _) => d.ctxState 0 n == 4
  | some (2, n, _) => d.ctxState 1 n == 4
  | some (3, b, _) => d.ctxState 2 b == 4
  | _ => false

/-- The source is one that blanking affects (R50). -/
def Dev.offAir (d : Dev) (p i : Nat) : Bool := match d.srcRef p i with | some (k, _, _) => decide (k ≤ 3) | none => false

/-- A source is silent by the silence detector (R289, R321); the source silence is silent from the start. -/
def Dev.srcSilent (d : Dev) (p i : Nat) : Bool := (d.srcRef p i).map (·.1) == some 9 || (d.srcOf p i).sil.silent

/-- The score of a source for the interval that ends (R286 to R289): one whose context is shed scores 0 (R46), and in coexistence blanking an
affected one keeps its score from before the window (R50). -/
def Dev.scoreNow (d : Dev) (p i : Nat) : Nat :=
  if d.srcShed p i then 0
  else if d.scoreBlank && d.offAir p i then (d.srcOf p i).score
  else if d.fbit R.PGT_CTL_SILDROP p && d.srcSilent p i && (d.srcIdx p).any (fun j => !d.srcSilent p j) then min (d.srcScore p i) 1
  else d.srcScore p i

/-- Score every source of a programme and close its interval (R286 to R289). -/
def Dev.prgScore (d : Dev) (p : Nat) : Dev :=
  let raw := (d.srcIdx p).map (fun i => (i, d.scoreNow p i))
  let margin := 4 * d.fget R.PGT_SW_MARGIN p
  let act := match (d.prgOf p).active with | some a => ((raw.find? (fun e => e.1 == a)).map (·.2)).getD 0 | none => 0
  d.each raw (fun d e =>
    let v := e.2
    d.updSrc p e.1 (fun s => { s with
      score := v, sum := 0, n := 0, missing := false
      usable := if d.fget R.PRG_USABLE_USABLE ≤ v then min (s.usable + 1) 2550 else 0
      lead := if act + margin ≤ v then min (s.lead + 1) 2550 else 0
      zero := if v = 0 then (if s.zero = 0 then d.time.clk + 1 else s.zero) else 0 }))

/-! ### Delay and pages -/

/-- K_p as it stands while it slews (R309). -/
def Dev.kpNow (d : Dev) (p : Nat) : Int :=
  let g := d.prgOf p
  let moved : Int := (d.since g.kpClk / 6144 * d.fget R.PRG_ALIGN_SLEW / 1000 : Nat)
  if g.kp < g.kpTo then min (g.kp + moved) g.kpTo else max (g.kp - moved) g.kpTo

/-- A trim in 0.1 dB that is released from cycle `clk` (R312). -/
def Dev.trimAt (d : Dev) (trim : Int) (clk : Nat) : Int :=
  let rel := d.fget R.PRG_XF_TRIM_REL * Config.sysPerSecond
  if rel = 0 then trim else divNearInt (trim * ((rel - min rel (d.since clk) : Nat) : Int)) rel

/-- A switch is in progress: a crossfade other than of the active source into itself. -/
def PrgSt.switching (g : PrgSt) : Bool := match g.xf with | some x => x.kpOld.isNone | none => false

/-- The trim in force in 0.1 dB (R312): in full until the crossfade of the switch has ended. -/
def Dev.trimNow (d : Dev) (p : Nat) : Int :=
  let g := d.prgOf p
  if g.switching then g.trim else d.trimAt g.trim g.trimClk

/-- The K_p of R301. -/
def Dev.kpWant (d : Dev) (p : Nat) : Int :=
  let g := d.prgOf p
  let l := (d.srcIdx p).filter (fun i => g.active == some i || (d.srcOf p i).align == 2 || (d.srcOf p i).align == 3)
  match (l.filterMap (fun i => (if g.active = some i then some 0 else (d.srcOf p i).lag).map (· + d.pMin p i))) with
  | [] => g.kpTo
  | x :: xs => xs.foldl max x

/-- Let K_p go to the value of R301, by R309: it slews, or the active source is crossfaded into itself; not during a crossfade (R310). -/
def Dev.kpAim (d : Dev) (p : Nat) : Dev :=
  let g := d.prgOf p
  let want := d.kpWant p
  if want = g.kpTo || g.xf.isSome then d
  else
    let now := d.kpNow p
    if d.fbit R.PRG_ALIGN_GROW && now != want then
      (d.updPrg p (fun g => { g with kp := now, kpTo := want, kpClk := d.time.clk })).fputB R.PGT_STAT_SLEW p true
    else
      let d := (d.updPrg p (fun g => { g with kp := want, kpTo := want })).fputB R.PGT_STAT_SLEW p false
      match g.active with
      | some a =>
        if now = want then d
        else (d.updPrg p (fun g => { g with
          xf := some { old := some a, target := a, start := d.time.clk, dur := msCycles (10 * d.fget R.PRG_XF_UNAL), aligned := false, fresh := a
                       trimOld := g.trim, trimOldClk := g.trimClk, kpOld := some now } })).fputB R.PGT_STAT_XFADE p true
      | none => d

/-- `STAT.ALIGNED` and `PRG_N_ALIGNED`. -/
def Dev.alignShow (d : Dev) (p : Nat) : Dev :=
  let d := d.fputB R.PGT_STAT_ALIGNED p ((List.range 16).any (fun i => (d.srcOf p i).align == 3))
  d.fput R.PRG_N_ALIGNED_COUNT 0 (((List.range 128).filter (fun q => d.fbit R.PGT_STAT_ALIGNED q)).length)

/-- Set the alignment state of a source; ALIGNED gained or left sets the ALIGN flag. -/
def Dev.setAlign (d : Dev) (p i st : Nat) : Dev :=
  let was := (d.srcOf p i).align
  let d := d.updSrc p i (fun s => { s with
    align := st, clk := if was = st then s.clk else d.time.clk, est := if st = 1 then s.est else 0
    verify := s.verify && was == st })
  (onlyIf ((was == 3) != (st == 3)) (fun d => d.prgFlag p 1) d).alignShow p

/-- Return `k` pages of a source. -/
def Dev.pagesBack (d : Dev) (p i k : Nat) : Dev :=
  (d.updSrc p i (fun s => { s with pages := s.pages - k })).fput R.PRG_PAGES_FREE_COUNT 0 (min 128 (d.fget R.PRG_PAGES_FREE_COUNT + min k (d.srcOf p i).pages))

/-- Pages that hold `b` samples (R304, R306). -/
def needPages (b : Int) : Nat := if b ≤ 192 then 0 else (b.toNat + 16383) / 16384 + 1

/-- The sources whose pages programme `p` may take, in the order of R306. -/
def Dev.takable (d : Dev) (p : Nat) : List (Nat × Nat) :=
  ((List.range 4).filter (fun c => decide (c < d.progPrio p))).flatMap (fun c =>
    ((List.range 128).reverse.filter (fun q => (d.prgOf q).on && d.progPrio q == c)).flatMap (fun q =>
      ((List.range 16).reverse.filter (fun i => (d.srcOf q i).pages != 0 && (d.prgOf q).active != some i &&
        ((d.prgOf q).xf.map (·.target)) != some i && ((d.prgOf q).xf.bind (·.old)) != some i)).map (fun i => (q, i))))

/-- Take pages until `need` are free (R306): the sources taken from return to PENDING. -/
def Dev.takePages (need : Nat) : List (Nat × Nat) → Dev → Dev
  | [], d => d
  | (q, i) :: l, d =>
    if need ≤ d.fget R.PRG_PAGES_FREE_COUNT then d
    else
      let d := ((d.pagesBack q i (d.srcOf q i).pages).setAlign q i 1).prgFlag q 5
      Dev.takePages need l ((d.updSrc q i (fun s => { s with lag := none })).kpAim q)

/-- A source is beyond the limits of R305: its lag differs from the active source's by more than 4.0 s, or its B_s would exceed 4.5 s. -/
def Dev.rangeOut (d : Dev) (p i : Nat) : Bool :=
  match (d.srcOf p i).lag with
  | none => false
  | some lag => decide (192000 < lag.natAbs) || decide (216000 < max (d.kpWant p) (lag + d.pMin p i) - lag - d.pMin p i)

/-- A source goes to RANGE and returns its pages (R305). -/
def Dev.toRange (d : Dev) (p i : Nat) : Dev := (d.pagesBack p i (d.srcOf p i).pages).setAlign p i 5

/-- The timeline of a programme is judged again: sources on it that have left the limits of R305 go to RANGE, and K_p goes to the value of R301. -/
def Dev.timeline (d : Dev) (p : Nat) : Dev :=
  (d.each ((d.srcIdx p).filter (fun i => (d.prgOf p).active != some i && ((d.srcOf p i).align == 2 || (d.srcOf p i).align == 3))) (fun d i =>
    if d.rangeOut p i then d.toRange p i else d)).kpAim p

/-- Request the pages of a source whose lag has been accepted (R304 to R306). -/
def Dev.pageAsk (d : Dev) (p i : Nat) : Dev :=
  match (d.srcOf p i).lag with
  | none => d
  | some lag =>
    let b := max (d.kpWant p) (lag + d.pMin p i) - lag - d.pMin p i
    if d.rangeOut p i then (d.toRange p i).kpAim p
    else
      let need := needPages b
      let have_ := (d.srcOf p i).pages
      let short := need - have_
      let all := (d.takable p).foldl (fun n q => n + (d.srcOf q.1 q.2).pages) (d.fget R.PRG_PAGES_FREE_COUNT)
      if all < short then
        ((((d.setAlign p i 4).updSrc p i (fun s => { s with clk := d.time.clk })).prgFlag p 5).bump R.PRG_PAGE_REFUSED_COUNT).kpAim p
      else
        let d := if short ≤ d.fget R.PRG_PAGES_FREE_COUNT then d else (Dev.takePages short (d.takable p) d).prgFlag p 5
        let d := d.fput R.PRG_PAGES_FREE_COUNT 0 (d.fget R.PRG_PAGES_FREE_COUNT - short)
        let d := d.updSrc p i (fun s => { s with pages := max need have_, fine := false })
        let d := d.pagesBack p i (have_ - need)
        ((d.setAlign p i 2).updSrc p i (fun s => { s with clk := d.time.clk })).timeline p

/-- Excess delay of a source: B_s (the definitions before R301). -/
def Dev.excess (d : Dev) (p i : Nat) : Int :=
  d.kpNow p - (if (d.prgOf p).active = some i then 0 else (d.srcOf p i).lag.getD 0) - d.pMin p i

/-- A source in FILL whose fine estimate is made becomes ALIGNED once K_p suffices (R304, R309). -/
def Dev.fillTry (d : Dev) (p i : Nat) : Dev :=
  let s := d.srcOf p i
  if s.align = 2 && s.fine && decide (0 ≤ d.excess p i) then d.setAlign p i 3 else d

/-- Drop everything known of a source (R297). -/
def Dev.srcDrop (d : Dev) (p i : Nat) : Dev :=
  let d := (d.pagesBack p i (d.srcOf p i).pages).setAlign p i 0
  d.updPrg p (fun g => { g with srcs := smSet (fun _ => {}) g.srcs i {} })

/-! ### Switching -/

/-- The rank of R290; a lower number ranks above. -/
def Dev.srcRank (d : Dev) (p i : Nat) : Nat :=
  match d.candOf p i with
  | some c => c.slot * 2 ^ 20 + 1 + (1000 - (d.srcOf p i).score) * 16 + i
  | none => i * 2 ^ 20

/-- The best-ranked source of a list. -/
def Dev.bestRank (d : Dev) (p : Nat) (l : List Nat) : Option Nat := leastBy (d.srcRank p) l

/-- The source with the highest score, the better-ranked of equals (R292). -/
def Dev.bestScore (d : Dev) (p : Nat) (l : List Nat) : Option Nat :=
  leastBy (fun i => (1000 - (d.srcOf p i).score) * 2 ^ 24 + d.srcRank p i) l

/-- The sources of a programme that score above 0. -/
def Dev.scoring (d : Dev) (p : Nat) : List Nat := (d.srcIdx p).filter (fun i => (d.srcOf p i).score != 0)

/-- The target that the policy names among the sources that score above 0, else the best-scoring one (R294). -/
def Dev.forced (d : Dev) (p : Nat) : Option Nat :=
  let l := d.scoring p
  if d.policy p = 0 then
    match d.bestRank p (l.filter (fun i => decide (d.fget R.PRG_USABLE_USABLE ≤ (d.srcOf p i).score))) with
    | some i => some i
    | none => d.bestScore p l
  else d.bestScore p l

/-- A source becomes the anchor (R301, R310, R311): lags and K_p are rebased to it. -/
def Dev.rebase (d : Dev) (p t : Nat) (aligned : Bool) : Dev :=
  let g := d.prgOf p
  let own := (d.srcOf p t).lag
  let lagOf (i : Nat) : Option Int := if g.active = some i then some 0 else (d.srcOf p i).lag
  let d := d.each (d.srcIdx p) (fun d i =>
    match own, lagOf i with
    | some o, some l => d.updSrc p i (fun s => { s with lag := some (l - o) })
    | _, _ =>
      let d := onlyIf ((d.srcOf p i).align == 2 || (d.srcOf p i).align == 3 || (d.srcOf p i).align == 4) (fun d => d.setAlign p i 1) d
      d.updSrc p i (fun s => { s with lag := none }))
  let kp := d.kpNow p
  let d := d.updPrg p (fun g => { g with
    kp := if aligned then kp - own.getD 0 else d.pMin p t, kpTo := if aligned then g.kpTo - own.getD 0 else d.pMin p t, kpClk := d.time.clk })
  let d := match g.active with
    | some a => if a = t then d else
        d.setAlign p a (if !d.aligns p then 0 else if aligned then 3 else if (d.srcOf p a).lag.isSome && (d.srcOf p a).pages != 0 then 3 else 1)
    | none => d
  let d := (d.setAlign p t (if d.aligns p then 6 else 0)).updSrc p t (fun s => { s with lag := some 0 })
  let d := d.each (d.srcIdx p) (fun d i => d.updSrc p i (fun s => { s with est := if s.est = 0 then 0 else d.time.clk + 1, prev := none }))
  (d.updPrg p (fun g => { g with active := some t })).fput R.PGT_STAT_ACTIVE p t

/-- `STAT.NOSRC` clears at a switch to a source that scores above 0 (R294). -/
def Dev.switchServed (d : Dev) (p t : Nat) : Dev := onlyIf ((d.srcOf p t).score != 0) (fun d => d.fputB R.PGT_STAT_NOSRC p false) d

/-- Begin a crossfade to source `t` (R310 to R312); K_p stands still from here. -/
def Dev.startSwitch (d : Dev) (p t : Nat) : Dev :=
  let g := d.prgOf p
  let aligned := (d.srcOf p t).align == 3 && g.active.isSome && !d.geckoBase
  let dur := msCycles (10 * (if aligned then d.fget R.PGT_XF_TIME p else d.fget R.PRG_XF_UNAL))
  let trim := match g.active with
    | some a =>
      (match (d.srcOf p a).loud, (d.srcOf p t).loud with
       | some x, some y => if d.fbit R.PGT_XF_LMATCH p then clampInt (-10 * d.fget R.PGT_XF_LMAX p) (10 * d.fget R.PGT_XF_LMAX p) (x - y) else 0
       | _, _ => 0)
    | none => 0
  let now := d.kpNow p
  (((d.updPrg p (fun g => { g with
    xf := some { old := g.active, target := t, start := d.time.clk, dur := dur, aligned := aligned, fresh := t, trimOld := g.trim, trimOldClk := g.trimClk }
    trim := trim, below := 0, kp := now, kpTo := now })).fputB R.PGT_STAT_SLEW p false).fputB
    R.PGT_STAT_XFADE p true).switchServed p t

/-- The first source of a programme is its anchor and is taken without a crossfade. -/
def Dev.firstSource (d : Dev) (p t : Nat) : Dev :=
  let d := d.updPrg p (fun g => { g with begun := true, since := 0 })
  ((d.rebase p t false).switchServed p t).timeline p

/-- Every source scores 0 (R294): silence marked missing. -/
def Dev.noSource (d : Dev) (p : Nat) : Dev :=
  if d.fbit R.PGT_STAT_NOSRC p then d else (d.fputB R.PGT_STAT_NOSRC p true).prgFlag p 2

/-- Reverse a running crossfade from its present position (R296). -/
def Dev.reverseXf (d : Dev) (p : Nat) (x : XfSt) (old : Nat) : Dev :=
  let gone := min (d.since x.start) x.dur
  d.updPrg p (fun g => { g with
    xf := some { x with old := some x.target, target := old, start := d.time.clk - (x.dur - gone), reversed := !x.reversed }, since := 0 })

/-- A crossfade ends (R310 to R312, R296): the target is the active source. After a reversal, or a crossfade of the source into itself, it was so
before, and the trim goes on as it was; the latter is no switch and leaves HOLD alone. -/
def Dev.xfEnd (d : Dev) (p : Nat) (x : XfSt) : Dev :=
  let still := x.reversed || x.kpOld.isSome
  let d := (d.updPrg p (fun g => { g with xf := none, since := if still then g.since else 0, begun := true })).fputB R.PGT_STAT_XFADE p false
  if still then (d.updPrg p (fun g => { g with trim := x.trimOld, trimClk := x.trimOldClk })).timeline p
  else
    let d := (d.rebase p x.target x.aligned).bump R.PRG_SWITCHES_COUNT
    let d := d.updPrg p (fun g => { g with switches := g.switches + 1, unaligned := g.unaligned + b2n (!x.aligned), trimClk := d.time.clk })
    let d := onlyIf (!x.aligned) (fun d => d.bump R.PRG_UNALIGNED_COUNT) d
    (d.prgFlag p 0).timeline p

/-- Under the fixed policy a slot that scores 0 is the active source at once: there is nothing to fade in, and the output is silence marked missing
(R293; DESIGN CHOICE, log entry 54). -/
def Dev.takeFix (d : Dev) (p t : Nat) : Dev :=
  let d := d.startSwitch p t
  match (d.prgOf p).xf with
  | some x => d.xfEnd p x
  | none => d

/-- The decision of one programme at the end of an interval (R291 to R296). -/
def Dev.prgDecide (d : Dev) (p : Nat) : Dev :=
  let g := d.prgOf p
  let hold := 10 * d.fget R.PGT_SW_HOLD p
  let score (i : Nat) : Nat := (d.srcOf p i).score
  let fix := d.fget R.PGT_CTL_FIX p
  let d := d.updPrg p (fun g => { g with
    since := min (g.since + 1) 2550
    below := match g.active with | some a => if score a < d.fget R.PRG_USABLE_USABLE then min (g.below + 1) 2550 else 0 | none => 0 })
  let g' := d.prgOf p
  let d := if (d.scoring p).isEmpty then d.noSource p else d
  match g.xf with
  | some x =>
    if d.policy p = 2 && x.target == fix && score fix == 0 then d.xfEnd p x
    else
      (match x.old with
       | some o => if score x.target = 0 && score o != 0 then d.reverseXf p x o else d
       | none => d)
  | none =>
    if d.policy p = 2 then
      if g.active = some fix then onlyIf (score fix != 0) (fun d => d.fputB R.PGT_STAT_NOSRC p false) d
      else if g.begun then (if score fix = 0 then d.takeFix p fix else d.startSwitch p fix)
      else if (d.scoring p).isEmpty then d
      else d.firstSource p fix
    else
      match g.active with
      | none =>
        (match d.forced p with
         | none => d
         | some t => if g.begun then d.startSwitch p t else d.firstSource p t)
      | some a =>
        if score a = 0 then
          match d.forced p with
          | some t => d.startSwitch p t
          | none => (d.setAlign p a 0).updPrg p (fun g => { g with active := none })
        else
          let d := d.fputB R.PGT_STAT_NOSRC p false
          if g'.since < hold then d
          else if d.policy p = 0 then
            match d.bestRank p ((d.scoring p).filter (fun i => decide (d.fget R.PRG_USABLE_USABLE ≤ score i))) with
            | none => d
            | some t =>
              if t = a then d
              else if d.srcRank p t < d.srcRank p a then (if hold ≤ (d.srcOf p t).usable then d.startSwitch p t else d)
              else if hold ≤ g'.below then d.startSwitch p t
              else d
          else
            match d.bestScore p (d.scoring p) with
            | none => d
            | some t => if t ≠ a && decide (hold ≤ (d.srcOf p t).lead) then d.startSwitch p t else d

/-- CROSSFADE_END (R310). -/
def execCrossfadeEnd (n : Fin 128) (s : State) : Host.Outcome State Fault Refusal :=
  nextDev s (fun d =>
    if !d.geckoRuns then d else
    match (d.prgOf n).xf with
    | some x => if x.dur ≤ d.since x.start then d.xfEnd n x else d
    | none => d)

/-! ### Candidates -/

/-- What Eft offers programme `p` (R256): of every ensemble of which it names a service. -/
def Dev.eftOffers (d : Dev) (p : Nat) : List (Nat × EftOffer) :=
  let sid := d.fget R.PGT_SID_ID p
  if sid = 0 then []
  else ((List.range 41).filter (fun b => (dbFind sid (d.dbeOf b).svcs).isSome)).flatMap (fun b =>
    let e := d.dbeOf b
    ((dbAll e.links).map (fun x => EftOffer.link x.2.body x.2.stale) ++
      (dbAll e.freqs).map (fun x => EftOffer.freq (x.2.key / 16) (x.2.key % 16) x.2.body x.2.stale) ++
      (dbAll e.oes).map (fun x => EftOffer.oe x.2.key x.2.body x.2.stale) ++
      (dbAll e.annSw).map (fun x => EftOffer.ann x.2.key x.2.body x.2.stale)).map (fun o => (b, o)))

/-- The offers take their place in programme `p`. -/
def Dev.eftTake (d : Dev) (p : Nat) : Dev := d.updPrg p (fun g => { g with offers := d.eftOffers p })

/-- The linkage sets offered, hard and active, that join the programme's SID (R251): the identifiers of the given kind (0 SId, 1 PI). Stale offers are
followed as others are (DESIGN CHOICE, log entry 54). -/
def Dev.linkedIds (d : Dev) (p kind : Nat) : List Nat :=
  let sid := d.fget R.PGT_SID_ID p
  (d.prgOf p).offers.flatMap (fun o =>
    match o.2 with
    | .link l _ =>
      if l.hard && l.active && l.ids.any (fun i => i.2 == sid && i.1 == 0) then
        (l.ids.filter (fun i => i.1 == kind && !(kind == 0 && i.2 == sid))).map (·.2)
      else []
    | _ => [])

/-- The FIG 0/21 frequencies in kHz, among the offers, of an identifier with an R&M code. -/
def Dev.fig21 (d : Dev) (p id rm : Nat) : List Nat :=
  (d.prgOf p).offers.flatMap (fun o => match o.2 with | .freq i r khz _ => if i = id && r == rm then khz else [] | _ => [])

/-- The FM and AM contexts of the programme's sources and candidates of one kind. -/
def Dev.ownCtx (d : Dev) (p kind : Nat) : List Nat :=
  (d.srcIdx p).filterMap (fun i => match d.srcRef p i with | some (k, n, _) => if k = kind then some n else none | none => none)

/-- Candidate frequencies of an FM follow slot in kHz (the table before R298), AM ones with `am`. -/
def Dev.fmOffers (d : Dev) (p : Nat) (am : Bool) : List Nat :=
  let pi := d.fget R.PGT_PI_ID p
  let regional (n : Nat) : List Nat :=
    if d.fbit R.PGT_CTL_REG p && d.fbit R.RDS_STAT_PI_CONF n then
      ((((d.rdsOf n).afB.find? (fun l => l.tune + 64000 == (d.ctxOf 0 n).freq)).bind (·.pub)).getD []).filter (fun e => bitAt e 17)
    else []
  let afs := (d.ownCtx p 1).flatMap (fun n => d.rdsOffered n ++ regional n)
  let eon := if pi = 0 then [] else ((List.range 256).filter (fun n => d.ctxState 0 n == 3)).flatMap (fun n =>
    ((d.rdsOf n).eon.filter (fun e => e.pi == pi)).flatMap (·.freqs))
  let listed := if am then [] else ((if pi = 0 then [] else [pi]) ++ d.linkedIds p 1).flatMap (fun i => d.fig21 p i 8)
  ((afs ++ eon).filter (fun e => bitAt e 16 == am)).map (fun e => if am then e % 65536 else 64000 + e % 65536) ++ listed

/-- The services that a DAB follow slot may take: block and SId, in ensembles in LOCK. -/
def Dev.dabOffers (d : Dev) (p : Nat) : List (Nat × Nat) :=
  let sid := d.fget R.PGT_SID_ID p
  let ids := (if sid = 0 then [] else [sid]) ++ d.linkedIds p 0
  ((List.range 41).filter d.locked).flatMap (fun b => (ids.filter (fun i => (dbFind i (d.dbeOf b).svcs).isSome)).map (fun i => (b, i)))

/-- The blocks on which FIG 0/24 and FIG 0/21 place further ensembles with the SID. -/
def Dev.dabBlocks (d : Dev) (p : Nat) : List Nat :=
  let sid := d.fget R.PGT_SID_ID p
  let eids := (d.prgOf p).offers.flatMap (fun o => match o.2 with | .oe s l _ => if s = sid then l else [] | _ => [])
  let khz := eids.flatMap (fun e => d.fig21 p e 0)
  (List.range 41).filter (fun b => khz.contains (dbeCentre b))

/-- The first follow slot of that kind that takes a further candidate (R282). -/
def Dev.followRoom (d : Dev) (p kind : Nat) : Option Nat :=
  let g := d.prgOf p
  let held (k : Nat) : Nat := (((List.range 8).map (· + 8)).filter (fun i => ((d.candOf p i).map (·.slot)) == some k)).length
  if (((List.range 8).map (· + 8)).filter (fun i => (smGet (fun _ => none) g.cands i).isNone)).isEmpty then none
  else ((List.range 8).filter (fun k => (d.slotOf p k).1 == kind && decide (held k < (d.slotOf p k).2))).head?

/-- The pool of a source kind: FM 0, AM 1, DAB ensemble 2. -/
def kindPool (kind : Nat) : Nat := kind - 1

/-- The programme already has that source. -/
def Dev.hasSource (d : Dev) (p kind idx sid : Nat) : Bool :=
  (d.srcIdx p).any (fun i => match d.srcRef p i with | some (k, n, s) => k == kind && n == idx && (kind != 3 || s == sid) | none => false)

/-- Take a candidate (R281, R282): it holds its context. -/
def Dev.candAdd (d : Dev) (p kind idx sid : Nat) : Dev :=
  if d.hasSource p kind idx sid then d
  else
    match d.followRoom p (if kind = 3 then 5 else 4) with
    | none => d
    | some slot =>
      match (((List.range 8).map (· + 8)).filter (fun i => (d.candOf p i).isNone)).head? with
      | none => d
      | some i =>
        let d := d.hold (kindPool kind) idx p
        d.updPrg p (fun g => { g with
          cands := smSet (fun _ => none) g.cands i (some ⟨kind, idx, sid, slot, d.time.clk, 0, if kind = 3 then 0 else (d.ctxOf (kindPool kind) idx).freq⟩), srcs := smSet (fun _ => {}) g.srcs i {} })

/-- Release the contexts and DSC entries that the programme holds and no longer uses. -/
def Dev.prgUnhold (d : Dev) (p : Nat) : Dev :=
  let blocks := if (d.prgOf p).on && (List.range 8).any (fun i => (d.slotOf p i).1 == 5) then d.dabBlocks p else []
  let refs := if (d.prgOf p).on then (d.srcIdx p).filterMap (d.srcRef p) else []
  let used (pool n : Nat) : Bool :=
    match pool with
    | 4 => refs.any (fun r => r.1 == 3 && (d.audioSub r.2.1 r.2.2).map (fun sc => (r.2.1, sc)) == some (d.dscTarget n))
    | 2 => blocks.contains n || refs.any (fun r => r.1 == 3 && r.2.1 == n)
    | _ => refs.any (fun r => r.1 == pool + 1 && r.2.1 == n)
  d.each (d.ctx.filter (fun e => e.2.holders.contains p && !used (e.1 / 256) (e.1 % 256))) (fun d e => d.unhold (e.1 / 256) (e.1 % 256) p)

/-- Drop a candidate and release what it held. -/
def Dev.candDrop (d : Dev) (p i : Nat) : Dev :=
  (((d.srcDrop p i).updPrg p (fun g => { g with cands := smSet (fun _ => none) g.cands i none })).prgUnhold p).timeline p

/-- Release an FM candidate and bar its frequency for 60 s (R299). -/
def Dev.candBar (d : Dev) (p i : Nat) (c : CandSt) : Dev :=
  let khz := (d.ctxOf 0 c.idx).freq
  (d.candDrop p i).updPrg p (fun g => { g with bars := (khz, d.time.clk) :: g.bars.filter (fun b => b.1 != khz) })

/-- Candidates that already run are taken without a request (R149, R298), and a managed DSC entry that serves a source is held (R283); candidates are released by R299, and one whose
context has been taken for another frequency (R153) is gone. -/
def Dev.prgFollow (d : Dev) (p : Nat) : Dev :=
  let d := d.eftTake p
  let bars := (d.prgOf p).bars.map (·.1)
  let fm := d.followRoom p 4 |>.isSome
  let dab := d.followRoom p 5 |>.isSome
  let pi := d.fget R.PGT_PI_ID p
  let same := if fm && pi != 0 then (List.range 256).filter (fun n => d.ctxState 0 n == 3 && d.fbit R.RDS_STAT_PI_CONF n &&
    d.piEqual p (d.fget R.RDS_PI_PI n) && !bars.contains (d.ctxOf 0 n).freq) else []
  let d := d.each same (fun d n => d.candAdd p 1 n 0)
  let offers := if fm then (d.fmOffers p false).filter (fun f => !bars.contains f) else []
  let d := d.each offers (fun d f => match d.receiving 0 f with | some n => d.candAdd p 1 n 0 | none => d)
  let d := d.each (if fm then d.fmOffers p true else []) (fun d f => match d.receiving 1 f with | some n => d.candAdd p 2 n 0 | none => d)
  let d := d.each (if dab then d.dabOffers p else []) (fun d o =>
    if d.fbit R.PGT_CTL_DISC p || (d.srcDsc o.1 o.2).isSome then d.candAdd p 3 o.1 o.2 else d)
  let d := d.each (d.srcIdx p) (fun d i =>
    match d.srcRef p i with
    | some (3, b, sid) => (match d.srcDsc b sid with | some n => onlyIf (d.ctxManaged 4 n) (fun d => d.hold 4 n p) d | none => d)
    | _ => d)
  let half := d.fget R.PRG_USABLE_USABLE
  d.each ((List.range 8).map (· + 8)) (fun d i =>
    match d.candOf p i with
    | none => d
    | some c =>
      let active := (d.prgOf p).active == some i || ((d.prgOf p).xf.map (·.target)) == some i
      let low := decide (2 * (d.srcOf p i).score < half)
      let since := if !low then 0 else if c.low = 0 then d.time.clk + 1 else c.low
      let d := d.updPrg p (fun g => { g with cands := smSet (fun _ => none) g.cands i (some { c with low := since }) })
      if c.kind ≠ 3 && (d.ctxOf (kindPool c.kind) c.idx).freq != c.freq then d.candDrop p i
      else if c.kind = 1 && pi != 0 && d.fbit R.RDS_STAT_PI_CONF c.idx && !d.piEqual p (d.fget R.RDS_PI_PI c.idx) then d.candBar p i c
      else if !active && low && decide (30 * Config.sysPerSecond ≤ d.time.clk + 1 - since) then d.candDrop p i
      else d)

/-- The level in 0.01 dBµV of the newest spectrum at a frequency (R166, R298). -/
def Dev.scanLevel (d : Dev) (khz : Nat) (am : Bool) : Int :=
  let x := if am || d.fbit R.AFE_STAT_SAMPLING 0 then 0 else 1
  sgn 16 (d.scnBin x (divNear (10 * khz) 225)).toNat + (if d.fbit R.AFE_CFG_ZIN x then 10880 else 10700)

/-- The next of the requests that the programme makes now (R283, R298), among the targets that satisfy `ok`. -/
def Dev.nextRequest (d : Dev) (p : Nat) (ok : MgdTarget → Bool) : Option MgdTarget :=
  let dscs := ((d.srcIdx p).filterMap (d.srcRef p)).filterMap (fun r =>
    if r.1 = 3 then (d.audioSub r.2.1 r.2.2).bind (fun sc =>
      if (d.dscServing r.2.1 sc).isSome || (List.range 48).any (fun n => d.ctxManaged 4 n && d.dscTarget n == (r.2.1, sc)) then none
      else if h : r.2.1 < 41 ∧ sc < 64 then some (MgdTarget.dsc ⟨r.2.1, h.1⟩ ⟨sc, h.2⟩) else none) else none)
  match (dscs.filter ok).head? with
  | some t => some t
  | none =>
    if !d.fbit R.PGT_CTL_DISC p then none
    else
      let blocks := if (d.followRoom p 5).isSome then (d.dabBlocks p).filterMap (fun b =>
        if (d.receiving 2 b).isSome || d.ctxManaged 2 b then none else if h : b < 41 then some (MgdTarget.dbe ⟨b, h⟩) else none) else []
      match (blocks.filter ok).head? with
      | some t => some t
      | none =>
        if (d.followRoom p 4).isNone then none
        else
          let bars := (d.prgOf p).bars.map (·.1)
          let waits (pool f : Nat) : Bool := (d.receiving pool f).isSome ||
            (List.range (poolSize pool)).any (fun n => d.ctxManaged pool n && (d.ctxOf pool n).freq == f)
          let fm := ((d.fmOffers p false).filter (fun f => !bars.contains f && !waits 0 f)).map (fun f => (MgdTarget.fm f, d.scanLevel f false))
          let am := ((d.fmOffers p true).filter (fun f => !waits 1 f)).map (fun f => (MgdTarget.am f, d.scanLevel f true))
          let l := (fm ++ am).filter (fun e => ok e.1 && decide ((100 * d.fget R.PRG_DISC_MIN_LVL : Int) ≤ e.2))
          (leastBy (fun e => (2 ^ 20 - e.2).toNat) l).map (·.1)

/-- Send a request to the pools (R148 to R150, R300); a granted FM or AM context is a candidate from then on. -/
def Dev.sendRequest (d : Dev) (p : Nat) (t : MgdTarget) : Dev :=
  let d := (d.bump R.PRG_REQUESTS_COUNT).mgdRequest p t
  let d := d.updPrg p (fun g => { g with req := d.time.clk + 1 })
  let found (pool f : Nat) : Option Nat :=
    ((List.range (poolSize pool)).filter (fun n => (d.ctxOf pool n).freq == f && (d.ctxOf pool n).holders.contains p)).head?
  match t with
  | .fm f => (match found 0 f with | some n => d.candAdd p 1 n 0 | none => d)
  | .am f => (match found 1 f with | some n => d.candAdd p 2 n 0 | none => d)
  | _ => d

/-- Cycles since the refusal of a request of programme `p`; none where it has not been refused. -/
def Dev.refusedFor (d : Dev) (p : Nat) (t : MgdTarget) : Option Nat :=
  ((d.prgOf p).refused.find? (fun r => r.1 == targetKey t)).map (fun r => d.since r.2)

/-- Programme `p` may send a request: it runs, and it has sent none within 100 ms (R298). -/
def Dev.mayRequest (d : Dev) (p : Nat) : Bool :=
  d.geckoRuns && (d.prgOf p).on && ((d.prgOf p).req == 0 || decide (msCycles 100 ≤ d.time.clk + 1 - (d.prgOf p).req))

/-- DISCOVERY_REQUEST (R283, R298): at most one request of a programme in each 100 ms, for a target that has not been refused. -/
def execDiscoveryRequest (n : Fin 128) (s : State) : Host.Outcome State Fault Refusal :=
  nextDev s (fun d =>
    if d.mayRequest n then
      match d.nextRequest n (fun t => (d.refusedFor n t).isNone) with
      | some t => d.sendRequest n t
      | none => d
    else d)

/-- REQUEST_REPEAT (R300): a refused request that the programme still makes is repeated, no sooner than 1 s later. -/
def execRequestRepeat (n : Fin 128) (s : State) : Host.Outcome State Fault Refusal :=
  nextDev s (fun d =>
    if d.mayRequest n then
      match d.nextRequest n (fun t => (d.refusedFor n t).any (fun c => decide (Config.sysPerSecond ≤ c))) with
      | some t => d.sendRequest n t
      | none => d
    else d)

/-- CANDIDATE_PI_TIMEOUT (R299). -/
def execCandidatePiTimeout (n : Fin 128) (i : Fin 16) (s : State) : Host.Outcome State Fault Refusal :=
  nextDev s (fun d =>
    if !d.geckoRuns then d else
    match d.candOf n i with
    | some c =>
      if c.kind = 1 && !d.fbit R.RDS_STAT_PI_CONF c.idx && decide (msCycles (100 * d.fget R.PRG_DISC_PI_WAIT) ≤ d.since c.since) then d.candBar n i c
      else d
    | none => d)

/-- CANDIDATE_BAR_EXPIRY (R299): a barred frequency is eligible again after 60 s. -/
def execCandidateBarExpiry (n : Fin 128) (khz : Nat) (s : State) : Host.Outcome State Fault Refusal :=
  nextDev s (fun d =>
    d.updPrg n (fun g => { g with bars := g.bars.filter (fun b => b.1 != khz || decide (d.since b.2 < 60 * Config.sysPerSecond)) }))

/-! ### The scoring interval -/

/-- The energy of L − R lies above −40 dB relative to that of L + R (R322). -/
def sideEnergy (l : List (Nat × Nat)) : Bool :=
  let total (f : Nat × Nat → Nat) : Nat := (l.map f).foldl (· + ·) 0
  decide (total (·.2) < 10000 * total (·.1))

/-- Programme stereo by its active source (R322). -/
def Dev.prgStereo (d : Dev) (p : Nat) : Dev :=
  let g := d.prgOf p
  let st := match g.active.bind (d.srcRef p) with
    | some (1, n, _) => d.fbit R.FMC_STAT_STEREO n
    | some (2, _, _) => false
    | some (3, b, sid) => (match d.srcDsc b sid with | some n => d.dscState n == 3 && (d.dscOf n).stereo | none => false)
    | some (9, _, _) => false
    | some (k, _, _) => decide (6 ≤ k) && g.active.any (fun a => sideEnergy (d.srcOf p a).energy)
    | none => false
  if st = d.fbit R.PGT_STAT_STEREO p then d else (d.fputB R.PGT_STAT_STEREO p st).prgFlag p 6

/-- Watch the sources of a programme (R302): a source that scores above 0 and is not active waits for estimation. -/
def Dev.prgWatch (d : Dev) (p : Nat) : Dev :=
  d.each (d.srcIdx p) (fun d i =>
    let s := d.srcOf p i
    if !d.aligns p then (if s.align = 0 then d else (d.pagesBack p i s.pages).setAlign p i 0)
    else if (d.prgOf p).active = some i then (if s.align = 6 then d else d.setAlign p i 6)
    else if s.score = 0 then d.updSrc p i (fun s => { s with est := 0 })
    else if s.align = 0 then d.setAlign p i 1
    else d)

/-- Let waiting estimations of one Gecko start, while fewer than 4 run (R302). -/
def Dev.estStart (d : Dev) (lo : Nat) : Nat → Dev
  | 0 => d
  | k + 1 =>
    let all := ((List.range 64).map (· + lo)).flatMap (fun p => if (d.prgOf p).on then (d.srcIdx p).map (fun i => (p, i)) else [])
    let running := (all.filter (fun q => (d.srcOf q.1 q.2).est != 0)).length
    if 4 ≤ running then d
    else
      let waiting := all.filter (fun q => ((d.srcOf q.1 q.2).align == 1 || (d.srcOf q.1 q.2).verify) && (d.srcOf q.1 q.2).est == 0 && (d.srcOf q.1 q.2).score != 0 &&
        (d.prgOf q.1).active.isSome && (d.prgOf q.1).active != some q.2)
      match leastBy (fun q => (3 - d.progPrio q.1) * 4096 + q.1 * 16 + q.2) waiting with
      | some q => Dev.estStart (d.updSrc q.1 q.2 (fun s => { s with est := d.time.clk + 1, prev := none })) lo k
      | none => d

/-- SCORING_INTERVAL (R286 to R298): every 10 ms, every enabled programme; while PD4 does not run there is none (R39). -/
def execScoringInterval (s : State) : Host.Outcome State Fault Refusal :=
  nextDev s (fun d =>
    if !d.grid.score || !d.domOn 4 || d.splStopped || d.inReset then d
    else
    let d := { d with grid := { d.grid with score := false } }
    let d := d.each d.prgLive (fun d p =>
      let d := ((d.prgScore p).prgDecide p).prgFollow p
      let d := ((d.prgWatch p).timeline p).prgStereo p
      let d := d.each (d.srcIdx p) (fun d i => d.fillTry p i)
      d.fput R.PGT_SCORE_SCORE p (match (d.prgOf p).active with | some a => (d.srcOf p a).score | none => 0))
    { (if d.geckoBase then d else (d.estStart 0 4).estStart 64 4) with scoreBlank := d.blanking })

/-! ### Estimates -/

/-- The cycle at which the newest block of a source begins, ahead of its delay to the programme layer (R285). -/
def Dev.newestStart (d : Dev) (p i : Nat) : Int :=
  match (d.srcOf p i).hist with
  | b :: _ => (b.ready : Int) + Config.sysPerMs - 6144 * d.pMin p i
  | [] => 0

/-- The correlation of the envelopes of the active source and of source `i` at a lag of `l` ms, over the last 8.0 s of each (R303). -/
def Dev.coarseCorr (d : Dev) (p a i : Nat) (l : Int) : Corr :=
  let o := (d.newestStart p i - d.newestStart p a) / (Config.sysPerMs : Int) - l
  let z := shifted o ((d.srcOf p a).env.take 8000) ((d.srcOf p i).env.take 8000)
  correlate z.1 z.2

/-- L + R of the newest blocks of a source, newest sample first. -/
def Dev.monoOf (d : Dev) (p i n : Nat) : List Int := (((d.srcOf p i).hist.take n).flatMap (fun b => ((block48 b.pcm).map (fun z => z.1 + z.2)).reverse))

/-- The correlation of the newest 1.0 s of both sources at 48 kHz that lag by `l` samples (R304). -/
def Dev.fineCorr (d : Dev) (p a i : Nat) (l : Int) : Corr :=
  let o := (d.newestStart p i - d.newestStart p a) / 6144 - l
  let z := shifted o (d.monoOf p a 5600) (d.monoOf p i 5600)
  correlate (z.1.take 48000) (z.2.take 48000)

/-- The fine estimate of a lag, within ±2 ms of `about`; where the sources show no variance it stays as it was (log entry 54). -/
def Dev.fineLag (d : Dev) (p i : Nat) (about : Int) : Int :=
  match (d.prgOf p).active with
  | some a => (match bestLag (d.fineCorr p a i) (intRange (about - 96) (about + 96)) with | some x => x.1 | none => about)
  | none => about

/-- The lag in ms of the highest correlation of the envelopes, where it reaches `PRG_EST.MIN_CORR` (R303). -/
def Dev.coarseFound (d : Dev) (p i : Nat) : Option Int :=
  match (d.prgOf p).active.bind (fun a => bestLag (d.coarseCorr p a i) (intRange (-4000) 4000)) with
  | some x => if x.2.atLeast (d.fget R.PRG_EST_MIN_CORR) 256 then some x.1 else none
  | none => none

/-- A new coarse lag of an ALIGNED source (R307): the fine estimate about it replaces a value from which it differs by more than one sample, and the
source asks for pages where its own do not hold the new B_s. -/
def Dev.lagAgain (d : Dev) (p i : Nat) (about : Int) : Dev :=
  let c := d.srcOf p i
  let lag := d.fineLag p i about
  if (lag - c.lag.getD 0).natAbs ≤ 1 then d
  else
    let d := (d.updSrc p i (fun s => { s with lag := some lag })).timeline p
    if (d.srcOf p i).align = 3 && decide (c.pages < needPages (d.kpWant p - lag - d.pMin p i)) then d.pageAsk p i else d

/-- COARSE_ESTIMATE (R303 to R305, R307): the envelopes of a source and of the active one over lags of −4.0 s to +4.0 s. -/
def execCoarseEstimate (n : Fin 128) (i : Fin 16) (s : State) : Host.Outcome State Fault Refusal :=
  nextDev s (fun d =>
    if !d.geckoRuns then d else
    let c := d.srcOf n i
    if c.est = 0 || decide (d.time.clk + 1 - c.est < 8 * Config.sysPerSecond) ||
        (c.prevClk != 0 && decide (d.time.clk + 1 - c.prevClk < Config.sysPerSecond)) then d
    else
      let found := d.coarseFound n i
      let agree := match c.prev, found with | some x, some y => decide ((x - y).natAbs ≤ 2) | _, _ => false
      if agree then
        let d := d.updSrc n i (fun s => { s with est := 0, prev := none, prevClk := 0, verify := false })
        if c.align = 3 then d.lagAgain n i (48 * found.getD 0)
        else (d.updSrc n i (fun s => { s with lag := some (48 * found.getD 0) })).pageAsk n i
      else if 30 * Config.sysPerSecond ≤ d.time.clk + 1 - c.est then
        (d.updSrc n i (fun s => { s with est := d.time.clk + 1, prev := none, prevClk := 0 })).bump R.PRG_EST_FAIL_COUNT
      else d.updSrc n i (fun s => { s with prev := found, prevClk := d.time.clk + 1 }))

/-- PAGE_FILL_DONE (R304): B_s of audio is held, and the fine estimate over 1.0 s gives the lag in samples. -/
def execPageFillDone (n : Fin 128) (i : Fin 16) (s : State) : Host.Outcome State Fault Refusal :=
  nextDev s (fun d =>
    if !d.geckoRuns then d else
    let c := d.srcOf n i
    let b := max 0 (d.kpWant n - c.lag.getD 0 - d.pMin n i)
    if c.align = 2 && !c.fine && decide ((b.toNat + 48000) * 6144 ≤ d.since c.clk) then
      let lag := d.fineLag n i (c.lag.getD 0)
      ((d.updSrc n i (fun s => { s with lag := some lag, fine := true })).timeline n).fillTry n i
    else d)

/-- PAGE_RETRY (R306): a refused request for pages is repeated every 1 s. -/
def execPageRetry (n : Fin 128) (i : Fin 16) (s : State) : Host.Outcome State Fault Refusal :=
  nextDev s (fun d =>
    if !d.geckoRuns then d else
    let c := d.srcOf n i
    if c.align = 4 && decide (Config.sysPerSecond ≤ d.since c.clk) then d.pageAsk n i else d)

/-- VERIFY_REESTIMATE (R305, R307): every VERIFY seconds an ALIGNED source is to be estimated again, which begins when one of the 4 estimations of
R302 is free, and keeps its state and pages meanwhile; one in RANGE is estimated from the start. -/
def execVerifyReestimate (n : Fin 128) (i : Fin 16) (s : State) : Host.Outcome State Fault Refusal :=
  nextDev s (fun d =>
    if !d.geckoRuns then d else
    let c := d.srcOf n i
    if d.since c.clk < d.fget R.PRG_EST_VERIFY * Config.sysPerSecond then d
    else if c.align = 5 then d.setAlign n i 1
    else if c.align = 3 then d.updSrc n i (fun s => { s with clk := d.time.clk, verify := true })
    else d)

/-- TIMELINE_EXIT (R308): a source at score 0 for KEEP seconds leaves the anchor timeline. -/
def execTimelineExit (n : Fin 128) (i : Fin 16) (s : State) : Host.Outcome State Fault Refusal :=
  nextDev s (fun d =>
    if !d.geckoRuns then d else
    let c := d.srcOf n i
    if (decide (2 ≤ c.align) || c.pages != 0) && c.align != 6 && c.zero != 0 && decide (d.fget R.PRG_ALIGN_KEEP * Config.sysPerSecond ≤ d.time.clk + 1 - c.zero) then
      (((d.pagesBack n i c.pages).setAlign n i 1).updSrc n i (fun s => { s with lag := none })).timeline n
    else d)

/-- SLEW_COMPLETE (R309): K_p has reached its new value; sources that waited for it are ALIGNED. -/
def execSlewComplete (n : Fin 128) (s : State) : Host.Outcome State Fault Refusal :=
  nextDev s (fun d =>
    if !d.geckoRuns then d else
    let g := d.prgOf n
    if d.fbit R.PGT_STAT_SLEW n && d.kpNow n == g.kpTo then
      let d := (d.updPrg n (fun g => { g with kp := g.kpTo })).fputB R.PGT_STAT_SLEW n false
      let d := d.each (d.srcIdx n) (fun d i => d.fillTry n i)
      d.each (d.srcIdx n) (fun d i => let s := d.srcOf n i; d.pagesBack n i (s.pages - needPages (d.excess n i)))
    else d)

/-- TRIM_RELEASE_END (R312): the trim has reached 0 dB. -/
def execTrimReleaseEnd (n : Fin 128) (s : State) : Host.Outcome State Fault Refusal :=
  nextDev s (fun d =>
    if !d.geckoRuns then d else
    let g := d.prgOf n
    let rel := d.fget R.PRG_XF_TRIM_REL
    if rel ≠ 0 && !g.switching && decide (rel * Config.sysPerSecond ≤ d.since g.trimClk) then d.updPrg n (fun g => { g with trim := 0 }) else d)

/-- `PRG_CMD.REESTIMATE` (R303): every non-active source returns to PENDING and keeps its pages. -/
def Dev.prgReestimate (d : Dev) : Dev :=
  d.each d.prgLive (fun d p => (d.each (d.srcIdx p) (fun d i =>
    let a := (d.srcOf p i).align
    if a = 0 || a = 6 then d else (d.setAlign p i 1).updSrc p i (fun s => { s with est := 0, prev := none }))).timeline p)

/-- REESTIMATE. -/
def execReestimate (s : State) : Host.Outcome State Fault Refusal := nextDev s Dev.prgReestimate

/-- The delay memory has lost its content (the table before 09's example, R39): sources with pages return to FILL. -/
def Dev.prgRelock (d : Dev) : Dev :=
  d.each d.prgLive (fun d p => d.each (d.srcIdx p) (fun d i =>
    let s := d.srcOf p i
    let d := if s.pages ≠ 0 && (s.align == 3 || s.align == 2) then (d.setAlign p i 2).updSrc p i (fun s => { s with clk := d.time.clk, fine := false }) else d
    d.updSrc p i (fun s => { s with hist := [], env := [], gap := true, last := (0, 0) })))

/-! ### Blocks and meters -/

/-- A sample peak in 2^−23 of full scale lies below −`th` dBFS (R321). -/
def peakBelow (peak th : Nat) : Bool := peak == 0 || aboveTenTo (2 ^ 46) (peak ^ 2) th 10

/-- One 1 ms block of the silence detector (R321). -/
def SilSt.step (s : SilSt) (th time peak : Nat) : SilSt :=
  let run := if peakBelow peak th then min (s.run + 1) 65535999 else 0
  let win := max s.win peak
  let full := decide (100 ≤ s.n + 1)
  let loud := full && aboveTenTo (win ^ 2) (2 ^ 46) (3 - (th : Int)) 10
  let silent := if s.silent then !loud else decide (1000 * time ≤ run)
  { run := run, len := if !silent then 0 else if s.silent then min (s.len + 1) 65535999 else run, win := if full then 0 else win,
    n := if full then 0 else s.n + 1, silent := silent }

/-- Memory `j` of the filters of programme `p`, and that of a return pair. -/
def prgKey (p j : Nat) : Nat := 2 ^ 20 + 64 * p + j
def pairKey (k : Nat) : Nat := 2 ^ 22 + k

/-- A K-weighted block enters a loudness meter (R319). -/
def LoudSt.add (m : LoudSt) (k : List (Int × Int)) : LoudSt :=
  { m with sum := m.sum + k.foldl (fun s z => s + z.1.natAbs ^ 2 + z.2.natAbs ^ 2) 0, n := m.n + k.length }

/-- The energies of L − R and of L + R of a block. -/
def sideSums (pcm : List (Int × Int)) : Nat × Nat :=
  (pcm.foldl (fun s z => s + (z.1 - z.2).natAbs ^ 2) 0, pcm.foldl (fun s z => s + (z.1 + z.2).natAbs ^ 2) 0)

/-- A source delivers a block to the programme layer (R20, R286, R289): one marked missing is silence, and stays out of its loudness. -/
def Dev.srcTake (d : Dev) (p i : Nat) (b : Blk) : Dev :=
  let miss := b.mark == 2
  let s := d.srcOf p i
  let pcm := delivered s.last s.gap miss b.pcm
  let (k, d) := if miss then ([], d) else d.filter2 (prgKey p (i + 1)) 30 0 48 pcm
  let th := d.fget R.PRG_SIL_TH
  let time := d.fget R.PRG_SIL_TIME
  d.updSrc p i (fun s => { s with
    hist := ({ b with pcm := pcm } :: s.hist).take 5700, last := lastSample pcm, gap := miss, missing := s.missing || miss
    env := (envDb (envSum pcm) 48 :: s.env).take 8600, meter := s.meter.add k
    energy := (sideSums pcm :: s.energy).take 1000, sil := s.sil.step th time (peakOfBlock pcm) })

/-- Blocks that should have come by cycle `t` and have not are missing (R19, R20). -/
def Dev.srcFill (p i t : Nat) : Nat → Dev → Dev
  | 0, d => d
  | k + 1, d =>
    match (d.srcOf p i).hist with
    | b :: _ => if b.ready + Config.sysPerMs ≤ t then Dev.srcFill p i t k (d.srcTake p i ⟨stampPlus b.stamp 1, 2, [], b.ready + Config.sysPerMs⟩) else d
    | [] => d

/-- The blocks that wait for source `i`: in the ring of its context or DSC entry, or the return block of its input pair. -/
def Dev.srcBlocks (d : Dev) (p i : Nat) (rets : List (Nat × Blk)) : List Blk :=
  match d.srcRef p i with
  | some (1, n, _) => (d.ctxOf 0 n).ring
  | some (2, n, _) => (d.ctxOf 1 n).ring
  | some (3, b, sid) => (match d.srcDsc b sid with | some n => (d.dscOf n).ring | none => [])
  | some (k, arg, _) => (rets.filter (fun r => r.1 == k * 4096 + arg)).map (·.2)
  | none => []

/-- Take the blocks of a source into the interval in progress (R286, R287). -/
def Dev.srcIntake (d : Dev) (p i t : Nat) (rets : List (Nat × Blk)) : Dev :=
  let d := d.each (d.srcBlocks p i rets) (fun d b => d.srcTake p i b)
  let d := Dev.srcFill p i t 8 d
  let snr : Option Int := match d.srcRef p i with
    | some (1, n, _) => if d.fget R.FMC_SNR_VALUE n = noValue then none else some (d.fgetI R.FMC_SNR_VALUE n)
    | some (2, n, _) => let v := smGet (fun _ => noValue) (d.amOf n).meas 1; if v = noValue then none else some (sgn 16 v)
    | _ => some 0
  d.updSrc p i (fun s => { s with
    sum := s.sum + snr.getD 0, n := s.n + b2n snr.isSome, missing := s.missing || s.hist.isEmpty
    sil := if s.hist.isEmpty then s.sil.step (d.fget R.PRG_SIL_TH) (d.fget R.PRG_SIL_TIME) 0 else s.sil })

/-- Every block has been taken from the rings (R19). -/
def Dev.ringsTaken (d : Dev) : Dev :=
  let d := d.each ((d.ctx.filter (fun e => !e.2.ring.isEmpty)).map (·.1)) (fun d k => d.updCtx (k / 256) (k % 256) (fun c => { c with ring := [] }))
  d.each ((List.range 48).filter (fun n => !(d.dscOf n).ring.isEmpty)) (fun d n => d.updDsc n (fun e => { e with ring := [] }))

/-- The return block of an input pair for the block that begins at cycle `t` (R17): the frames of the fabric since the block before, at 48 kHz;
missing while the port or the receiver gives no signal, and after a discarded or zero frame (R416, R421). -/
def Dev.retBlock (d : Dev) (t key : Nat) : Blk × Dev :=
  let frames := smGet (fun _ => []) d.fab.ret key
  let up := d.pairUp (key / 4096) (key % 4096) && !d.pairGap (key / 4096) (key % 4096) && !frames.isEmpty
  let (pcm, d) := if up then d.filter2 (pairKey key) 22 (d.fget R.CLK_APL_CFG_FAM) 48 frames else ([], d)
  (⟨d.stampAt (t - msCycles 3), if up then 0 else 2, pcm, t⟩, d)

/-- The return blocks of all pairs. -/
def Dev.retBlocks (t : Nat) : List Nat → Dev → List (Nat × Blk) × Dev
  | [], d => ([], d)
  | k :: l, d =>
    let (b, d) := d.retBlock t k
    let (r, d) := Dev.retBlocks t l d
    ((k, b) :: r, d)

/-- A sample as the delay memory holds it (R306): 16 bits. -/
def round16 (x : Int) : Int := 256 * clampInt (-32768) 32767 (divNearInt x 256)

/-- What source `i` gives the block that begins at cycle `t`, held back by `b` samples beyond its least delay (R285, R301): 48 samples, and the
mark of the block in which they begin. -/
def Dev.playSrc (d : Dev) (p i : Nat) (b : Int) (t : Nat) : List (Int × Int) × Nat :=
  match d.srcRef p i with
  | some (9, _, _) => (silence, 0)
  | _ =>
    let q : Int := (t : Int) - msCycles 1 - 6144 * max 0 b
    let later (x : Blk) : Bool := decide (q < (x.ready : Int))
    let hist := (d.srcOf p i).hist
    match hist.dropWhile later with
    | [] => (silence, 2)
    | x :: _ =>
      let k := ((q - x.ready) / 6144).toNat
      let next := ((hist.takeWhile later).getLast?.map (·.pcm)).getD []
      let pcm := block48 ((x.pcm ++ next).drop k)
      (if 192 < b then pcm.map (both round16) else pcm, if k < 48 then x.mark else 2)

/-- The 48 samples of a source with a trim in 0.1 dB and the gains of a crossfade. -/
def trimmed (pcm : List (Int × Int)) (trim : Int) (gain : Nat → Int) : List (Int × Int) :=
  pcm.zipIdx.map (fun z => both (fun x => scaledInt (gain z.2) (scaled (dbAmp (10 * trim)) x)) z.1)

/-- What programme `p` plays in the block that begins at cycle `t`, with its mark (R280, R293, R309 to R313); none: silence marked missing. -/
def Dev.prgPlay (d : Dev) (p t : Nat) : Option (List (Int × Int) × Nat) × Dev :=
  let g := d.prgOf p
  match g.xf with
  | none =>
    (match g.active with
     | none => (none, d)
     | some a =>
       if d.policy p = 2 && (d.srcOf p a).score == 0 then (none, d)
       else
         let (z, m) := d.playSrc p a (d.excess p a) t
         let z := trimmed z (d.trimNow p) (fun _ => 2 ^ 40)
         if d.fbit R.PGT_STAT_SLEW p then
           let (y, d) := d.filter2 (prgKey p 17) 23 (2 * d.fget R.PRG_ALIGN_SLEW + b2n (decide (g.kp < g.kpTo))) 48 z
           (some (y, m), d)
         else (some (z, m), d))
  | some x =>
    let len := x.dur / 6144
    let pos := (t - x.start) / 6144
    let gains (k : Nat) : Int × Int := fadeGains x.aligned (pos + k) len
    let heldBack (i : Nat) (k : Option Int) : Int :=
      match k with
      | some v => v - d.pMin p i
      | none => if i = x.fresh && !x.aligned && x.kpOld.isNone then 0 else d.excess p i
    let trim (i : Nat) : Int := if i = x.fresh && x.kpOld.isNone then g.trim else d.trimAt x.trimOld x.trimOldClk
    let (zt, mt) := d.playSrc p x.target (heldBack x.target none) t
    let zt := trimmed zt (trim x.target) (fun k => (gains k).2)
    let (zo, mo) := match x.old with
      | some o => let (z, m) := d.playSrc p o (heldBack o x.kpOld) t; (trimmed z (trim o) (fun k => (gains k).1), m)
      | none => (silence, 2)
    (some (addPcm zo zt, if len ≤ 2 * pos then mt else mo), d)

/-- K_p in ms. -/
def Dev.kpMs (d : Dev) (p : Nat) : Nat := (divNearInt (d.kpNow p) 48).toNat

/-- Bytes 8 to 13 of the descriptor of a programme. -/
def Dev.prgInfo (d : Dev) (p : Nat) : List Nat := beWord (d.fget R.PGT_STAT p) ++ beWord (d.fget R.PGT_SCORE_SCORE p) ++ beWord (d.kpMs p)

/-- A block of the output enters the health meters (R319 to R321); of one marked missing the loudness alone takes nothing. -/
def Dev.prgMeters (d : Dev) (p : Nat) (miss : Bool) (pcm : List (Int × Int)) : Dev :=
  let (k, d) := if miss then ([], d) else d.filter2 (prgKey p 0) 30 0 48 pcm
  let (o, d) := d.filter2 (prgKey p 18) 31 0 192 pcm
  let was := (d.prgOf p).sil.silent
  let th := d.fget R.PRG_SIL_TH
  let time := d.fget R.PRG_SIL_TIME
  let d := d.updPrg p (fun g => { g with
    sil := g.sil.step th time (peakOfBlock pcm), meter := g.meter.add k, tp := max g.tp (peakOfBlock o) })
  let now := (d.prgOf p).sil.silent
  if was = now then d else (d.fputB R.PGT_STAT_SILENT p now).prgFlag p 3

/-- One ms of both envelopes of a programme that is compared (R315): of its output and of its reference, which R18 forms in the fabric. -/
def Dev.prgEnv (d : Dev) (p : Nat) (pcm : List (Int × Int)) : Dev :=
  let r := smGet (fun _ => (0, 0)) d.fab.env ((d.fget R.PGT_REF_KIND p + 5) * 4096 + d.fget R.PGT_REF_ARG p)
  let lost := d.pairLost (d.fget R.PGT_REF_KIND p + 5) (d.fget R.PGT_REF_ARG p)
  d.updPrg p (fun g => { g with
    envO := (envDb (envSum pcm) 48 :: g.envO).take 10000, envR := (envDb r.1 r.2 :: g.envR).take 20000, refLost := g.refLost || lost })

/-- The active source of programme `p` still has a block marked missing that it took after cycle `t`. -/
def Dev.lossAhead (d : Dev) (p t : Nat) : Bool :=
  match (d.prgOf p).active with
  | some a => (d.srcOf p a).hist.any (fun b => b.mark == 2 && decide (t < b.ready))
  | none => false

/-- A block of programme `p`, missing or not, in the measurement of lost output of recovery `r` (R582, R583): a stretch ends with the first block
that is not missing. -/
def RecovSt.lossStep (r : RecovSt) (p : Nat) (miss ahead : Bool) : RecovSt :=
  match r.watch.find? (fun w => w.1 == p) with
  | none => r
  | some (_, k) =>
    let rest := r.watch.filter (fun w => w.1 != p)
    if miss then { r with watch := (p, k + 1) :: rest, lost := max r.lost (k + 1), prog := if r.lost < k + 1 then some p else r.prog }
    else if 0 < k || (r.done && !ahead) then { r with watch := rest }
    else r

/-- Every recovery that is being measured sees a block of programme `p`. -/
def Dev.lossNote (d : Dev) (p : Nat) (miss : Bool) : Dev :=
  if d.mon.recov.isEmpty then d
  else { d with mon := { d.mon with recov := d.mon.recov.map (fun r => r.lossStep p miss (d.lossAhead p r.clk)) } }

/-- Deliver the block of one programme that begins at cycle `t` (R20, R278, R280, R340). -/
def Dev.prgBlock (d : Dev) (p t : Nat) (rets : List (Nat × Blk)) (lost : Bool) : Dev :=
  let d := d.each (d.srcIdx p) (fun d i => d.srcIntake p i t rets)
  let (r, d) := d.prgPlay p t
  let g := d.prgOf p
  let played := if lost then none else r
  let mark := match played with | some x => x.2 | none => 2
  let pcm := delivered g.last g.gap played.isNone (((played.map (·.1)).getD []).map (both sat24))
  let d := d.updPrg p (fun g => { g with out := ((t, pcm) :: g.out).take 3, last := lastSample pcm, gap := played.isNone })
  let d := ((d.prgMeters p (mark == 2) pcm).lossNote p (mark == 2)).prgStereo p
  let d := if d.refs.contains p then d.prgEnv p pcm else d
  let first := !d.boot.audioSeen && mark != 2 && (((d.prgOf p).active.bind (d.srcRef p)).map (·.1)) == some 1
  let d := if first then ({ d with boot := { d.boot with audioSeen := true } }).fput R.BOOT_T_AUDIO_MS 0
      (min 65535 (divNear (d.since d.boot.releaseClk) Config.sysPerMs)) else d
  if d.mapSel 0 p then
    d.pcmBlock p ⟨d.stampAt (t - (max 0 (d.kpNow p)).toNat * 6144), mark, pcm, t⟩ (d.prgInfo p)
  else d.pcmFlush p

/-- What a programme block makes due: a scoring interval at a multiple of 10 ms (R286). -/
def Dev.prgGrid (d : Dev) : Dev :=
  let ms := ((((d.time.cyc : Int) + d.grid.prg - d.time.clk) % (Config.sysPerSecond : Int)) / (Config.sysPerMs : Int)).toNat
  { d with grid := { d.grid with prg := d.grid.prg + Config.sysPerMs, score := d.grid.score || ms % 10 == 0 } }

/-- What a context block boundary at millisecond `ms` makes due in the programme layer (R315, R319, R639): a loudness update every 100 ms, and every
1 s a search for each programme compared. -/
def Dev.prgDue (d : Dev) (ms : Nat) : Dev :=
  let d := { d with grid := { d.grid with loud := d.domOn 4 && (d.grid.loud || ms % 100 == 0) } }
  if ms = 0 && d.domOn 4 then d.each d.refs (fun d p => d.updPrg p (fun g => { g with refDue := true })) else d

/-- PROGRAMME_BLOCK (R278, R280, R569): at a device-time millisecond every enabled programme delivers a block. `ecc`: a memory error
met in the delay memory by that programme's read, uncorrectable or not, at that word. While PD4 is not ON there is none, and what comes next begins
after a gap (R40). -/
def execProgrammeBlock (ecc : Option (Nat × Bool × Nat)) (s : State) : Host.Outcome State Fault Refusal :=
  nextDev s (fun d =>
    if d.splStopped || d.inReset || !d.reached d.grid.prg then d
    else
      let t := d.grid.prg
      let close (d : Dev) : Dev := { d with fab := { d.fab with ret := [], env := [] } }.clearGaps.prgGrid
      if !d.domOn 4 then close (d.each d.prgLive (fun d p => d.updPrg p (fun g => { g with gap := true, last := (0, 0) })))
      else
        let d := { d with scoreBlank := d.scoreBlank || d.blanking }
        let d := match ecc with
          | some (_, false, _) => d.eccCorrected 1
          | some (_, true, w) => (d.eccUncorrectable 1).errorRecord 1 1 w
          | none => d
        let gap := d.clk.gapPrg
        let d := { d with clk := { d.clk with gapPrg := false } }
        let lost (p : Nat) : Bool := gap || (match ecc with | some (q, true, _) => q == p | _ => false)
        let (rets, d) := Dev.retBlocks t d.pairs d
        close (d.each d.prgLive (fun d p => d.prgBlock p t rets (lost p))).ringsTaken)

/-- A loudness in 0.1 LUFS (R319): of an energy over a count of frames, K-weighted, with the constants of BS.1770-4 (log entry 55); below −70.0 LUFS
there is no value. -/
def lufsOf (sum n : Nat) : Option Int :=
  if sum = 0 ∨ n = 0 then none
  else
    let v := levelTenths (852904 * sum) (10 ^ 6 * n * 2 ^ 46)
    if v < -700 then none else some v

/-- 100 ms of a loudness meter end. -/
def LoudSt.close (m : LoudSt) : LoudSt := ⟨0, 0, ((m.sum, m.n) :: m.win).take 30⟩

/-- Energy and frames of the last `k` times 100 ms. -/
def LoudSt.span (m : LoudSt) (k : Nat) : Nat × Nat := (m.win.take k).foldl (fun s e => (s.1 + e.1, s.2 + e.2)) (0, 0)

/-- The loudness over the last `k` times 100 ms, once they have passed. -/
def LoudSt.lufs (m : LoudSt) (k : Nat) : Option Int := if m.win.length < k then none else lufsOf (m.span k).1 (m.span k).2

/-- The integrated loudness of mean squares of gating blocks: those above −70 LUFS, and of them those within 10 LU of their mean (log entry 55). -/
def integrated (l : List Nat) : Option Int :=
  let a := l.filter (fun e => aboveTenTo (852904 * e) (10 ^ 6 * 2 ^ 46) (-70) 10)
  let m := a.foldl (· + ·) 0
  let b := a.filter (fun e => decide (m < 10 * e * a.length))
  lufsOf (b.foldl (· + ·) 0) b.length

/-- 100 ms of the meters of one programme end (R312, R319, R320). -/
def Dev.prgLoud (d : Dev) (p : Nat) : Dev :=
  let d := d.updPrg p (fun g =>
    let m := g.meter.close
    let e := m.span 4
    let gates := if 1 < g.gateWait ∨ e.2 = 0 then g.gates else divNear e.1 e.2 :: g.gates
    { g with meter := m, gates := gates, gateWait := g.gateWait - 1, loud := (m.lufs 4, m.lufs 30, integrated gates), peaks := (g.tp :: g.peaks).take 30, tp := 0 })
  d.each (d.srcIdx p) (fun d i => d.updSrc p i (fun s => { s with meter := s.meter.close, loud := s.meter.close.lufs 30 }))

/-- LOUDNESS_UPDATE (R312, R319, R320): every 100 ms. -/
def execLoudnessUpdate (s : State) : Host.Outcome State Fault Refusal :=
  nextDev s (fun d =>
    if !d.geckoRuns then d else
    if d.grid.loud then { d with grid := { d.grid with loud := false } }.each d.prgLive (fun d p => d.prgLoud p) else d)

/-- `PRG_CMD.CLR_LOUD` (R319): integrated loudness starts again, with gating blocks that begin after it. -/
def Dev.prgClrLoud (d : Dev) : Dev :=
  d.each d.prgLive (fun d p => d.updPrg p (fun g => { g with
    loud := (g.loud.1, g.loud.2.1, none), gates := [], gateWait := if g.meter.n = 0 then 4 else 5 }))

/-- CLR_LOUD. -/
def execClrLoud (s : State) : Host.Outcome State Fault Refusal := nextDev s Dev.prgClrLoud

/-! ### Reference comparison -/

/-- REF_LOCK gained or lost sets the REF flag. -/
def Dev.setRefLock (d : Dev) (p : Nat) (b : Bool) : Dev :=
  if d.fbit R.PGT_STAT_REF_LOCK p = b then d else (d.fputB R.PGT_STAT_REF_LOCK p b).prgFlag p 7

/-- MISMATCH by the counted seconds (R318). -/
def Dev.refJudge (d : Dev) (p : Nat) : Dev :=
  let g := d.prgOf p
  let time := d.fget R.PRG_REF_TIME
  let on := d.fbit R.PGT_STAT_MISMATCH p
  if !on && decide (time ≤ g.low) then
    let d := (((d.fputB R.PGT_STAT_MISMATCH p true).prgFlag p 4).bump R.PRG_MISMATCH_COUNT).setRefLock p false
    d.updPrg p (fun g => { g with mismatches := g.mismatches + 1, refPrev := none })
  else if on && decide (time ≤ g.high) then (d.fputB R.PGT_STAT_MISMATCH p false).prgFlag p 4
  else d

/-- The correlation of the last 10 s of the output's envelope with that of the reference `l` ms earlier (R315, R316); none before both have been
collected. -/
def PrgSt.refCorr (g : PrgSt) (l : Int) : Corr :=
  let r := (g.envR.drop l.toNat).take 10000
  if g.envO.length < 10000 ∨ r.length < 10000 then ⟨0, 0, 0⟩ else correlate g.envO r

/-- One second of an envelope is silent by `PRG_SIL.TH` (R317). -/
def envSilent (th : Nat) (l : List Int) : Bool := (l.take 1000).all (fun v => decide (v < -100 * (th : Int)))

/-- The delay that the search finds (R315): over 0 to 10,000 ms, or within 200 ms of the delay in force once it is locked. -/
def Dev.refFound (d : Dev) (p : Nat) : Option Nat :=
  let g := d.prgOf p
  let held : Int := (g.refD.getD 0 : Nat)
  (bestLag g.refCorr (if d.fbit R.PGT_STAT_REF_LOCK p then intRange (max 0 (held - 200)) (min 10000 (held + 200)) else intRange 0 10000)).map
    (fun x => x.1.toNat)

/-- REFERENCE_SEARCH (R315 to R318): every 1 s, for a programme that is compared. -/
def execReferenceSearch (n : Fin 128) (s : State) : Host.Outcome State Fault Refusal :=
  nextDev s (fun d =>
    if !d.geckoRuns then d else
    let p := (n : Nat)
    if !d.refs.contains p || !(d.prgOf p).refDue then d
    else
      let d := d.updPrg p (fun g => { g with refDue := false })
      let g := d.prgOf p
      let found := d.refFound p
      let agree := match g.refPrev, found with | some y, some x => decide (((x : Int) - y).natAbs ≤ 2) | _, _ => false
      let d := d.updPrg p (fun g => { g with refPrev := found, refD := if agree then found else g.refD })
      let d := if agree && !d.fbit R.PGT_STAT_MISMATCH p then d.setRefLock p true else d
      let at' : Int := if d.fbit R.PGT_STAT_REF_LOCK p then ((d.prgOf p).refD.getD 0 : Nat) else (found.getD 0 : Nat)
      let th := d.fget R.PRG_SIL_TH
      let offSilent := envSilent th g.envO
      let refSilent := envSilent th (g.envR.drop at'.toNat)
      let sim := if offSilent != refSilent then 0 else (g.refCorr at').score
      let lost := g.refLost || d.pairLost (d.fget R.PGT_REF_KIND p + 5) (d.fget R.PGT_REF_ARG p)
      let d := d.updPrg p (fun g => { g with sim := sim, refLost := false })
      if (offSilent && refSilent) || lost then d
      else
        let th := 4 * d.fget R.PRG_REF_TH
        let d := d.updPrg p (fun g => { g with
          low := if sim < th then min (g.low + 1) 65535 else 0, high := if th + 50 ≤ sim then min (g.high + 1) 65535 else 0 })
        d.refJudge p)

/-! ### Epochs -/

/-- A programme starts or ends (R278). -/
def Dev.prgStart (d : Dev) (p : Nat) : Dev := d.updPrg p (fun g => { flags := g.flags, out := g.out, on := true })

/-- A status bit of programme `p` that reads 1 clears, which sets its flag. -/
def Dev.statEnd (d : Dev) (p : Nat) (r : Fld) (bit : Nat) : Dev := if d.fbit r p then (d.fputB r p false).prgFlag p bit else d

/-- A programme ends: everything it holds is released, and the status bits that fall set their flags. -/
def Dev.prgStop (d : Dev) (p : Nat) : Dev :=
  let d := d.pcmFlush p
  let d := (((d.statEnd p R.PGT_STAT_SILENT 3).statEnd p R.PGT_STAT_MISMATCH 4).statEnd p R.PGT_STAT_STEREO 6).statEnd p R.PGT_STAT_REF_LOCK 7
  let d := d.statEnd p R.PGT_STAT_ALIGNED 1
  let d := d.each (List.range 16) (fun d i => d.pagesBack p i (d.srcOf p i).pages)
  let d := (d.updPrg p (fun g => { flags := g.flags, out := g.out })).prgUnhold p
  ((d.fput R.PGT_STAT p 0).fput R.PGT_SCORE p 0).alignShow p

/-- The Gecko engines have lost their memories (R39): every programme that is enabled starts again. -/
def Dev.geckoLose (d : Dev) : Dev := d.each d.prgLive (fun d p => (d.prgStop p).prgStart p)

/-- What changed in one programme (R297): sources of changed slots end, and a changed identity releases every candidate. -/
def Dev.prgChange (old d : Dev) (p : Nat) : Dev :=
  let slots := (List.range 8).filter (fun i => old.slotOf p i != d.slotOf p i)
  let id := old.fget R.PGT_PI_ID p != d.fget R.PGT_PI_ID p || old.fget R.PGT_SID_ID p != d.fget R.PGT_SID_ID p ||
    old.fget R.PGT_CTL_REG p != d.fget R.PGT_CTL_REG p
  let sidSlots := if old.fget R.PGT_SID_ID p = d.fget R.PGT_SID_ID p then [] else (List.range 8).filter (fun i => (d.slotOf p i).1 == 3)
  let cands := ((List.range 8).map (· + 8)).filter (fun i => match d.candOf p i with | some c => id || slots.contains c.slot | none => false)
  let gone := slots ++ sidSlots ++ cands
  if gone.isEmpty then d
  else
    let g := d.prgOf p
    let touched := (match g.active with | some a => gone.contains a | none => false)
    let faded := (match g.xf with | some x => gone.contains x.target || (match x.old with | some o => gone.contains o | none => false) | none => false)
    let d := d.each gone (fun d i => d.srcDrop p i)
    let d := d.updPrg p (fun g => { g with
      cands := g.cands.filter (fun e => !cands.contains e.1), active := if touched then none else g.active, xf := if faded then none else g.xf
      trim := match g.xf with | some x => if faded then x.trimOld else g.trim | none => g.trim
      trimClk := match g.xf with | some x => if faded then x.trimOldClk else g.trimClk | none => g.trimClk })
    let d := onlyIf faded (fun d => d.fputB R.PGT_STAT_XFADE p false) d
    (d.prgUnhold p).timeline p

/-- A new slew rate takes effect from here: what each K_p has moved so far stands (R309). -/
def Dev.slewHold (old d : Dev) : Dev :=
  if old.fget R.PRG_ALIGN_SLEW = d.fget R.PRG_ALIGN_SLEW then d
  else d.each (d.prgLive.filter (fun p => d.fbit R.PGT_STAT_SLEW p)) (fun d p => d.updPrg p (fun g => { g with kp := old.kpNow p, kpClk := d.time.clk }))

/-- What applied programme settings do at their boundary (R278, R284, R297, R314). -/
def Dev.prgApplied (old d : Dev) : Dev :=
  let d := Dev.slewHold old d
  let d := d.each (List.range 128) (fun d p =>
    let en := d.fbit R.PGT_CTL_EN p
    if en && !(d.prgOf p).on then d.prgStart p
    else if !en && (d.prgOf p).on then d.prgStop p
    else if en then Dev.prgChange old d p
    else d)
  let refs := d.refSlots
  let d := { d with pairs := d.returnPairs, refs := refs }
  let d := d.each (List.range 128) (fun d p =>
    let set := d.fbit R.PGT_CTL_EN p && d.fget R.PGT_REF_KIND p != 0
    let d := d.fputB R.PGT_STAT_NOREF p (set && !refs.contains p && !d.geckoBase)
    if refs.contains p && old.fget R.PGT_REF p == d.fget R.PGT_REF p then d
    else
      let d := (d.updPrg p (fun g => { g with refPrev := none, refD := none, sim := 0, low := 0, high := 0, envR := [], refDue := false, refLost := false })).setRefLock p false
      onlyIf (d.fbit R.PGT_STAT_MISMATCH p) (fun d => (d.fputB R.PGT_STAT_MISMATCH p false).prgFlag p 4) d)
  d.fput R.PRG_N_REF_COUNT 0 refs.length

/-! ### Flags and the measurement window -/

/-- `PRG_FLAG_NEXT` (R323). -/
def Dev.prgFlagNext (d : Dev) : Nat :=
  match ((List.range 128).filter (fun p => (d.prgOf p).flags != 0)).head? with
  | some p => 0x8000 + p
  | none => 0

/-- A write of 1 bits to `PRG_FLAG` (R323). -/
def Dev.prgFlagClear (d : Dev) (bits : Nat) : Dev :=
  d.updPrg (d.fget R.PRG_FLAG_CTX_INDEX) (fun g => { g with flags := g.flags - (g.flags &&& bits) })

/-- PRG_FLAG_CLEAR (R323). -/
def execPrgFlagClear (bits : Byte) (s : State) : Host.Outcome State Fault Refusal := nextDev s (fun d => d.prgFlagClear bits.toNat)

/-- An optional value as a window entry. -/
def entryO (v : Option Int) : Nat := match v with | some x => unsgn 16 (clampInt (-32767) 32767 x) | none => noValue

/-- The highest true peak of the last 3 s in 0.1 dBTP (R320); none while nothing has been measured. -/
def peakOf (l : List Nat) : Option Int :=
  let p := l.foldl max 0
  if p = 0 then none else some (levelTenths (p ^ 2) (2 ^ 46))

/-- Entry `e` of page `page` of the measurement window of programme `p` (R324). -/
def Dev.prgEntry (d : Dev) (p page e : Nat) : Nat :=
  let g := d.prgOf p
  if page = 0 then
    match e with
    | 0 => d.kpMs p
    | 1 => entryO g.loud.1
    | 2 => entryO g.loud.2.1
    | 3 => entryO g.loud.2.2
    | 4 => entryO (peakOf g.peaks)
    | 5 => g.switches % 65536
    | 6 => g.unaligned % 65536
    | 7 => ((List.range 16).map (fun i => (d.srcOf p i).pages)).foldl (· + ·) 0
    | 8 => entryO (some (divNearInt (g.kpTo - d.kpNow p) 48))
    | 9 => (match g.refD with | some x => x | none => noValue)
    | 10 => if d.refs.contains p then g.sim else noValue
    | 11 => if d.refs.contains p then g.low else noValue
    | 12 => g.mismatches % 65536
    | 13 => if g.sil.silent then min 65535 (g.sil.len / 1000) else 0
    | 14 => entryO (some (d.trimNow p))
    | _ => noValue
  else
    let i := (page - 1) * 8 + e / 3
    if 24 ≤ e then noValue
    else
      let s := d.srcOf p i
      match e % 3 with
      | 0 => s.pages % 32 * 2048 + s.score
      | 1 =>
        let (kind, idx) := match d.srcRef p i with
          | some (3, b, sid) => (3, (d.srcDsc b sid).getD (if i < 8 then b else 511))
          | some (k, n, _) => (k, n)
          | none => if i < 8 then d.slotOf p i else (0, 0)
        kind % 16 * 4096 + s.align % 8 * 512 + idx % 512
      | _ => (match s.lag with | some l => entryO (some (divNearInt l 48)) | none => noValue)

/-- A write to `PRG_MEAS_SEL` (R324). -/
def Dev.prgLatch (d : Dev) (page index : Nat) : Dev :=
  let pg := min page 2
  let d := (d.fput R.PRG_MEAS_SEL_PAGE 0 pg).fput R.PRG_MEAS_SEL_INDEX 0 index
  let on := (d.prgOf index).on
  let d := d.fputB R.PRG_MEAS_HDR_VALID 0 on
  d.each (List.range 30) (fun d e => d.fput R.PRG_MEAS_VALUE e (if on then d.prgEntry index pg e else noValue))

/-- PRG_MEAS_LATCH (R324). -/
def execPrgMeasLatch (page : Fin 4) (index : Fin 128) (s : State) : Host.Outcome State Fault Refusal :=
  nextDev s (fun d => d.prgLatch page index)

end Sys2Proof.Machine
end

