-- ==== Sys2Proof/Machine/Cod.lean ====
section
/-!
DEFINITION. Audio converters, protection, pop suppression, background servo, jack detection and buttons (spec/11_audio_codec_jack.md,
R358 to R383).
-/
namespace Sys2Proof.Machine

/-- Change the converter state. -/
def Dev.updCod (d : Dev) (f : CodSt → CodSt) : Dev := { d with cod := f d.cod }

/-- Change the jack state. -/
def Dev.updJck (d : Dev) (f : JckSt → JckSt) : Dev := { d with jck := f d.jck }

/-! ### Inputs -/

/-- A write of a microphone gain (R359): a move that begins with it waits for a zero crossing from here on (its first step for 2 ms at most: DESIGN CHOICE,
log entry 22). -/
def Dev.pgaWrite (d : Dev) (m gain : Nat) : Dev :=
  let f := if m = 0 then R.COD_MIC1_GAIN_GAIN else R.COD_MIC2_GAIN_GAIN
  let still := smGet (fun _ => 0) d.cod.pga m == d.fget f
  (onlyIf still (fun d => d.updCod (fun c => { c with pgaClk := smSet (fun _ => 0) c.pgaClk m d.time.clk })) d).fput f 0 (min 42 gain)

/-- PGA_STEP (R359): one 1 dB step towards the target, in the frame of a zero crossing of the input or 2 ms after the step before. -/
def execPgaStep (mic : Fin 2) (s : State) : Host.Outcome State Fault Refusal :=
  nextDev s (fun d =>
    let m := (mic : Nat)
    let target := if m = 0 then d.fget R.COD_MIC1_GAIN_GAIN else d.fget R.COD_MIC2_GAIN_GAIN
    let now := smGet (fun _ => 0) d.cod.pga m
    let last := smGet (fun _ => 0) d.cod.pgaClk m
    let cross := smGet (fun _ => 0) d.fab.zero m
    if now ≠ target && (decide (last + 1 < cross) || decide (msCycles 2 ≤ d.since last)) then
      d.updCod (fun c => { c with
        pga := smSet (fun _ => 0) c.pga m (if now < target then now + 1 else now - 1), pgaClk := smSet (fun _ => 0) c.pgaClk m d.time.clk })
    else d)

/-- ADC_ENABLE_SETTLE (R360): 20 ms after it is enabled an ADC channel delivers signal. -/
def execAdcEnableSettle (ch : Fin 4) (s : State) : Host.Outcome State Fault Refusal :=
  nextDev s (fun d =>
    let t := smGet (fun _ => 0) d.cod.adcClk ch
    if t ≠ 0 && decide (msCycles 20 ≤ d.time.clk + 1 - t) then
      d.updCod (fun c => { c with adcOn := smSet (fun _ => false) c.adcOn ch true })
    else d)

/-- The level in mV to which `MICBIAS1` (0) or `MICBIAS2` (1) is set; none: off. The jack detector holds `MICBIAS2` off in the first two steps of a
classification and at 2.2 V in the others (R377), and on while it decodes buttons (R361). -/
def Dev.biasSet (d : Dev) (k : Nat) : Option Nat :=
  let cls := d.fget R.JCK_STAT_CLASS
  if k = 0 then (if d.fbit R.COD_PWR_BIAS1_EN then some (2000 + 100 * d.fget R.COD_BIAS_BIAS1) else none)
  else if cls = 6 then (if d.since d.jck.clk < msCycles 2 then none else some 2200)
  else if d.fbit R.COD_PWR_BIAS2_EN || ((cls == 2 || cls == 3) && d.fbit R.JCK_CFG_BTN_EN) then some (2000 + 100 * d.fget R.COD_BIAS_BIAS2)
  else none

/-- The level in mV at `MICBIAS1` or `MICBIAS2` (R361): regulated while `PVDD` lies 0.2 V above it, else 0.2 V below `PVDD`. -/
def Dev.biasMv (d : Dev) (k : Nat) : Nat := match d.biasSet k with | some v => min v (d.cod.pvdd - 200) | none => 0

/-- A bias is on and lies below its set level (R361). -/
def Dev.biasLow (d : Dev) : Bool := [0, 1].any (fun k => match d.biasSet k with | some v => decide (d.biasMv k < v) | none => false)

/-- `COD_STAT.BIAS_LOW` as it stands (R361). -/
def Dev.biasShow (d : Dev) : Dev := d.fputB R.COD_STAT_BIAS_LOW 0 d.biasLow

/-- `PVDD` stands at `pvdd` mV. -/
def Dev.pvddIs (d : Dev) (pvdd : Nat) : Dev :=
  (((d.updCod (fun c => { c with pvdd := pvdd })).fputB R.COD_STAT_PVDD_OK 0 (decide (2900 < pvdd)))).biasShow

/-- MICBIAS_DROPOUT (R361). -/
def execMicbiasDropout (pvdd : Nat) (s : State) : Host.Outcome State Fault Refusal := nextDev s (fun d => d.pvddIs pvdd)

/-- RAIL_RETURN (R362): back to ±0.9 V after 50 ms below the level. -/
def execRailReturn (s : State) : Host.Outcome State Fault Refusal :=
  nextDev s (fun d =>
    if d.fbit R.COD_STAT_RAIL_HI && decide (msCycles 50 ≤ d.since d.cod.railClk) then d.fputB R.COD_STAT_RAIL_HI 0 false else d)

/-! ### Headphone and line sequences -/

/-- The AUD clock runs and PD6 is ON, and neither is about to end (R371). -/
def Dev.audOk (d : Dev) : Bool :=
  d.domOn 6 && d.fget R.CLK_STAT_APL == 2 && !d.clk.apl.want && !d.cod.leaving

/-- The state field of output `k`: 0 headphone, 1 line. -/
def outField (k : Nat) : Fld := if k = 0 then R.COD_STAT_HP else R.COD_STAT_LO

/-- The sequence of output `k`. -/
def Dev.outSeq (d : Dev) (k : Nat) : OutSeq := if k = 0 then d.cod.hp else d.cod.lo

/-- Set the sequence of output `k`. -/
def Dev.setSeq (d : Dev) (k : Nat) (v : OutSeq) : Dev :=
  d.updCod (fun c => if k = 0 then { c with hp := v } else { c with lo := v })

/-- Output `k` is wanted (R369, R371, R377, R379). -/
def Dev.outWanted (d : Dev) (k : Nat) : Bool :=
  let cls := d.fget R.JCK_STAT_CLASS
  d.audOk && (if k = 0 then
    d.fbit R.COD_PWR_HP_EN && !d.cod.hpHold && cls != 5 && cls != 6 && (!d.fbit R.COD_PWR_HP_AUTO || (decide (1 ≤ cls) && decide (cls ≤ 4)))
  else d.fbit R.COD_PWR_LO_EN)

/-- Go to state `st` of the sequence for `dur` cycles; a ramp starts at level `frac`. -/
def Dev.outTo (d : Dev) (k st dur frac : Nat) (again : Bool) : Dev :=
  let d := (d.fput (outField k) 0 st).setSeq k { clk := d.time.clk, dur := dur, frac := frac, again := again }
  if k ≠ 0 then d else if st = 0 then d.event R.COD_EVT_HP_OFF else if st = 4 then d.event R.COD_EVT_HP_ON else d

/-- The present level of a ramp in 0.001 (R367). -/
def Dev.outFrac (d : Dev) (k : Nat) : Nat :=
  let q := d.outSeq k
  let gone := min (d.since q.clk) q.dur
  match d.fget (outField k) with
  | 3 => if q.dur = 0 then 1000 else q.frac + (1000 - q.frac) * gone / q.dur
  | 4 => 1000
  | 5 => if q.dur = 0 then 0 else q.frac * (q.dur - gone) / q.dur
  | 6 => if q.dur = 0 then 0 else q.frac * (q.dur - gone) / q.dur
  | _ => 0

/-- Ramp in from the present level over the same proportion of COD_RAMP.UP. -/
def Dev.outUp (d : Dev) (k : Nat) : Dev :=
  let f := d.outFrac k
  d.outTo k 3 (msCycles (d.fget R.COD_RAMP_UP) * (1000 - f) / 1000) f false

/-- Ramp out from the present level over the same proportion of `ms`. -/
def Dev.outDown (d : Dev) (k ms : Nat) : Dev :=
  let f := d.outFrac k
  d.outTo k 5 (msCycles ms * f / 1000) f false

/-- The time in ms over which an output that is no longer wanted ramps out (R367): 1 ms ahead of a stop of the domain or the clock (R371). -/
def Dev.rampOut (d : Dev) : Nat := if d.cod.leaving then 1 else d.fget R.COD_RAMP_DN

/-- Start or stop output `k` as it is wanted (R369 to R371); a ramp-out of a removal runs to its end (R380). -/
def Dev.outUpdate (d : Dev) (k : Nat) : Dev :=
  let want := d.outWanted k
  let forced := (d.outSeq k).forced
  match d.fget (outField k), want with
  | 0, true => d.outTo k 1 (msCycles 2) 0 false
  | 1, false => d.outTo k 0 0 0 false
  | 2, false => d.outTo k 0 0 0 false
  | 3, false => d.outDown k d.rampOut
  | 4, false => d.outDown k d.rampOut
  | 5, true => if forced then d else d.outUp k
  | 5, false => if d.cod.leaving && !forced then d.outDown k 1 else d
  | _, _ => d

/-- The servo's corrections of output `k` in µV (R366); they replace those of the background servo (R375). -/
def Dev.outCorrect (d : Dev) (k : Nat) (left right : Int) : Dev :=
  let l := clampInt (-10000) 10000 left
  let r := clampInt (-10000) 10000 right
  if k = 0 then
    ((d.fputI R.COD_HP_OFS_L_OFS 0 l).fputI R.COD_HP_OFS_R_OFS 0 r).updCod (fun c => { c with
      servo := c.servo.map (fun e => (e.1, { e.2 with first := none, todo := 0 })) })
  else d.updCod (fun c => { c with loOfs := (l, r) })

/-- The second calibration of output `k` has failed (R366): the clamp stays. -/
def Dev.outFault (d : Dev) (k : Nat) : Dev :=
  let d := (d.event R.COD_EVT_SERVO_RANGE).outTo k 6 0 0 false
  onlyIf (k == 0) (fun d => d.updCod (fun c => { c with hpHold := true })) d

/-- HP_SEQUENCE_STEP (R365 to R367): a timed step of the headphone (0) or line (1) sequence ends. In CAL the first 5 ms give the corrections `left` and `right`
that the servo found, and the second 5 ms the worse residual of its check, in µV. -/
def execHpSequenceStep (out : Fin 2) (left right residual : Int) (s : State) : Host.Outcome State Fault Refusal :=
  nextDev s (fun d =>
    let k := (out : Nat)
    let q := d.outSeq k
    if d.since q.clk < q.dur then d
    else
      match d.fget (outField k) with
      | 1 => d.outTo k 2 (msCycles 5) 0 false
      | 2 =>
        if !q.check then (d.outCorrect k left right).setSeq k { q with clk := d.time.clk, check := true }
        else if residual.natAbs ≤ 500 then d.outTo k 3 (msCycles (d.fget R.COD_RAMP_UP)) 0 false
        else if !q.again then d.outTo k 2 (msCycles 5) 0 true
        else d.outFault k
      | 3 => d.outTo k 4 0 0 false
      | 5 => (d.outTo k 0 0 0 false).outUpdate k
      | _ => d)

/-- HP_OVERCURRENT (R365): a headphone channel above 200 mA for 1 ms. -/
def execHpOvercurrent (s : State) : Host.Outcome State Fault Refusal :=
  nextDev s (fun d =>
    let st := d.fget R.COD_STAT_HP
    if st = 0 ∨ st = 6 then d
    else (((d.outTo 0 6 (msCycles 1) (d.outFrac 0) false).updCod (fun c => { c with hpHold := true })).bump R.COD_HP_OC_COUNT).event R.COD_EVT_HP_OC)

/-- The headphone output leaves FAULT (R365): at a classification, or when HP_EN goes from 0 to 1. -/
def Dev.hpFaultEnd (d : Dev) : Dev :=
  let d := d.updCod (fun c => { c with hpHold := false })
  if d.fget R.COD_STAT_HP = 6 then d.outTo 0 0 0 0 false else d

/-- The jack is removed: every state but OFF ramps out over 1 ms and clamps (the sequence table's last row, R380). An output that was in FAULT goes on waiting
for what ends it (R365). -/
def Dev.hpRemoved (d : Dev) : Dev :=
  let st := d.fget R.COD_STAT_HP
  if st = 0 then d
  else if st = 3 ∨ st = 4 ∨ st = 5 then
    let f := d.outFrac 0
    let d := d.outTo 0 5 (if st = 5 then msCycles 1 else msCycles 1 * f / 1000) f false
    d.setSeq 0 { d.outSeq 0 with forced := true }
  else d.outTo 0 0 0 0 false

/-! ### Speaker -/

/-- Change the speaker state. -/
def Dev.setSpk (d : Dev) (phase dur frac : Nat) : Dev :=
  let d := d.updCod (fun c => { c with spk := { c.spk with phase := phase, clk := d.time.clk, dur := dur, frac := frac } })
  d.fput R.COD_STAT_SPK 0 (match phase with | 0 => 0 | 1 => 1 | 2 => 1 | _ => 2)

/-- The present proportion of the step in progress, in 0.001. -/
def Dev.spkFrac (d : Dev) : Nat :=
  let q := d.cod.spk
  let gone := min (d.since q.clk) q.dur
  match q.phase with
  | 1 => if q.dur = 0 then 1000 else q.frac + (1000 - q.frac) * gone / q.dur
  | 2 => if q.dur = 0 then 1000 else q.frac + (1000 - q.frac) * gone / q.dur
  | 3 => 1000
  | 4 => if q.dur = 0 then 0 else q.frac * (q.dur - gone) / q.dur
  | 5 => if q.dur = 0 then 0 else q.frac * (q.dur - gone) / q.dur
  | _ => 0

/-- The speaker outputs are wanted, and no protection holds them off (R364, R369). -/
def Dev.spkWanted (d : Dev) : Bool := d.audOk && d.fbit R.COD_PWR_SPK_EN && d.cod.spk.ocWait == 0 && !d.cod.spk.uv && d.fget R.COD_STAT_SPK != 3

/-- Start or stop the speaker as it is wanted (R368, R370). -/
def Dev.spkUpdate (d : Dev) : Dev :=
  if d.fget R.COD_STAT_SPK = 3 then d
  else
    let f := d.spkFrac
    match d.cod.spk.phase, d.spkWanted with
    | 0, true => d.setSpk 1 (msCycles 5) 0
    | 1, false => d.setSpk 5 (msCycles 5 * f / 1000) f
    | 2, false => d.setSpk 4 (msCycles d.rampOut * f / 1000) f
    | 3, false => d.setSpk 4 (msCycles d.rampOut) 1000
    | 4, false => if d.cod.leaving then d.setSpk 4 (msCycles 1 * f / 1000) f else d
    | 4, true => d.setSpk 2 (msCycles (d.fget R.COD_RAMP_UP) * (1000 - f) / 1000) f
    | 5, true => d.setSpk 1 (msCycles 5 * (1000 - f) / 1000) f
    | _, _ => d

/-- SPEAKER_SEQUENCE_STEP (R368): a common-mode or signal ramp ends. -/
def execSpeakerSequenceStep (s : State) : Host.Outcome State Fault Refusal :=
  nextDev s (fun d =>
    let q := d.cod.spk
    if d.since q.clk < q.dur then d
    else
      match q.phase with
      | 1 => d.setSpk 2 (msCycles (d.fget R.COD_RAMP_UP)) 0
      | 2 => d.setSpk 3 0 0
      | 4 => d.setSpk 5 (msCycles 5) 1000
      | 5 => (d.setSpk 0 0 0).spkUpdate
      | _ => d)

/-- SPK_OVERCURRENT (R364): high impedance at once; the third within 1 s leaves the speaker in FAULT. -/
def execSpkOvercurrent (s : State) : Host.Outcome State Fault Refusal :=
  nextDev s (fun d =>
    if d.cod.spk.phase = 0 then d
    else
      let recent := d.time.clk :: d.cod.spk.ocs.filter (fun t => decide (d.since t < Config.sysPerSecond))
      let d := ((d.setSpk 0 0 0).bump R.COD_SPK_OC_COUNT).event R.COD_EVT_SPK_OC
      let d := d.updCod (fun c => { c with spk := { c.spk with ocs := recent.take 3, ocWait := if 3 ≤ recent.length then 0 else d.time.clk + 1 } })
      if 3 ≤ recent.length then d.fput R.COD_STAT_SPK 0 3 else d)

/-- PVDD_UNDERVOLTAGE (R364): `PVDD` falls below 2.7 V; the speaker stays off until it has risen above 2.9 V, also one in FAULT or that waits after an
overcurrent. -/
def execPvddUndervoltage (s : State) : Host.Outcome State Fault Refusal :=
  nextDev s (fun d =>
    let d := (d.pvddIs (min d.cod.pvdd 2700)).event R.COD_EVT_PVDD_UV
    let d := d.updCod (fun c => { c with spk := { c.spk with uv := true } })
    if d.fget R.COD_STAT_SPK = 3 then d else d.setSpk 0 0 0)

/-- SPK_AUTO_RESTART (R364): `PVDD` in mV; 100 ms after an overcurrent, and above 2.9 V after an undervoltage, the speaker starts again. -/
def execSpkAutoRestart (pvdd : Nat) (s : State) : Host.Outcome State Fault Refusal :=
  nextDev s (fun d =>
    let d := d.pvddIs pvdd
    let q := d.cod.spk
    let waits := q.ocWait ≠ 0 && decide (d.time.clk + 1 - q.ocWait < msCycles 100)
    (d.updCod (fun c => { c with spk := { c.spk with ocWait := if waits then q.ocWait else 0, uv := q.uv && decide (pvdd ≤ 2900) } })).spkUpdate)

/-- `COD_CMD.SPK_RESTART` (R364). -/
def Dev.spkRestart (d : Dev) : Dev :=
  if d.fget R.COD_STAT_SPK = 3 then
    ((d.updCod (fun c => { c with spk := { c.spk with ocs := [], ocWait := 0 } })).fput R.COD_STAT_SPK 0 0).spkUpdate
  else d

/-- SPK_RESTART (R364). -/
def execSpkRestart (s : State) : Host.Outcome State Fault Refusal := nextDev s Dev.spkRestart

/-! ### Background servo -/

/-- The correction in force of a headphone channel. -/
def ofsField (ch : Nat) : Fld := if ch = 0 then R.COD_HP_OFS_L_OFS else R.COD_HP_OFS_R_OFS

/-- The servo of a headphone channel. -/
def Dev.servoOf (d : Dev) (ch : Nat) : ServoSt := smGet (fun _ => {}) d.cod.servo ch

/-- Change the servo of a channel. -/
def Dev.updServo (d : Dev) (ch : Nat) (f : ServoSt → ServoSt) : Dev :=
  d.updCod (fun c => { c with servo := smSet (fun _ => {}) c.servo ch (f (smGet (fun _ => {}) c.servo ch)) })

/-- A headphone channel is silent (R372): below SIL_TH for SIL_MIN. -/
def Dev.servoSilent (d : Dev) (ch : Nat) : Bool :=
  let q := (d.servoOf ch).quiet
  q != 0 && decide (msCycles (d.fget R.COD_SERVO_SIL_MIN) ≤ d.time.clk + 1 - q)

/-- What a frame of the fabric tells the servo of a channel (R372): its mix output lies below SIL_TH, or leaves silence and spoils the window in
progress; a window begins when silence does. -/
def Dev.servoFrame (d : Dev) (ch : Nat) (below : Bool) : Dev :=
  let d := d.updServo ch (fun v => if below then { v with quiet := if v.quiet = 0 then d.time.clk + 1 else v.quiet } else { v with quiet := 0, win := 0 })
  if d.servoSilent ch && (d.servoOf ch).win == 0 then d.updServo ch (fun v => { v with win := d.time.clk + 1 }) else d

/-- SERVO_WINDOW (R372 to R375): a 20 ms window within silence ends, with the mean in µV; the next one begins. -/
def execServoWindow (ch : Fin 2) (mean : Int) (s : State) : Host.Outcome State Fault Refusal :=
  nextDev s (fun d =>
    let w := (d.servoOf ch).win
    if !d.fbit R.COD_SERVO_BG_EN || d.fget R.COD_STAT_HP ≠ 4 || w = 0 || decide (d.time.clk + 1 - w < msCycles 20) then d
    else
      let d := d.updServo ch (fun v => { v with win := d.time.clk + 1 })
      match (d.servoOf ch).first with
      | none => d.updServo ch (fun v => { v with first := some mean })
      | some m =>
        let d := d.updServo ch (fun v => { v with first := none })
        if 50 < (m - mean).natAbs then d.bumpEvt R.COD_SERVO_REJ_COUNT R.COD_EVT_SERVO_REJ
        else
          let res := divNearInt (m + mean) 2
          if res.natAbs ≤ 50 then d
          else if 10000 < (d.fgetI (ofsField ch) - res).natAbs then d.event R.COD_EVT_SERVO_RANGE
          else d.updServo ch (fun v => { v with todo := -res }))

/-- SERVO_STEP (R374, R375): one step of at most 20 µV each 1 ms, in silence only, while BG_EN = 1. -/
def execServoStep (ch : Fin 2) (s : State) : Host.Outcome State Fault Refusal :=
  nextDev s (fun d =>
    let v := d.servoOf ch
    if d.fbit R.COD_SERVO_BG_EN && d.servoSilent ch && d.fget R.COD_STAT_HP == 4 && v.todo != 0 && decide (msCycles 1 ≤ d.since v.clk) then
      let step := clampInt (-20) 20 v.todo
      ((d.updServo ch (fun v => { v with todo := v.todo - step, clk := d.time.clk })).fputI (ofsField ch) 0 (d.fgetI (ofsField ch) + step)).bump
        R.COD_SERVO_STEPS_COUNT
    else d)

/-! ### Jack -/

/-- Begin a classification (R377): the headphone amplifier is off at once, with its outputs not clamped. -/
def Dev.jackMeasure (d : Dev) : Dev :=
  let d := (d.fput R.JCK_STAT_CLASS 0 6).updJck (fun j => { j with clk := d.time.clk, win := 4, run := 0, held := none, press := [], load := none })
  (if d.fget R.COD_STAT_HP = 0 ∨ d.fget R.COD_STAT_HP = 6 then d else d.outTo 0 0 0 0 false).biasShow

/-- What a contact of the socket is connected to: headset ground, or `MIC2P` and `MICBIAS2`. -/
inductive Contact
  | left
  | ground
  | mic
deriving DecidableEq, Repr

/-- `JCK_R2` and `JCK_SL` (R377, R379, R380): grounded in turn in steps 3 and 4 of a classification, and then as the class says. A class without a microphone
has both contacts at headset ground (DESIGN CHOICE, log entry 22: R379 names the headset classes and the fault class only). -/
def Dev.jackContacts (d : Dev) : Contact × Contact :=
  match d.fget R.JCK_STAT_CLASS with
  | 1 => (.ground, .ground)
  | 2 => (.ground, .mic)
  | 3 => (.mic, .ground)
  | 4 => (.ground, .ground)
  | 6 =>
    if d.since d.jck.clk < msCycles 2 then (.left, .left)
    else if d.since d.jck.clk < msCycles 4 then (.ground, .mic) else (.mic, .ground)
  | _ => (.left, .left)

/-- The clamp ties the headphone balls to ground (R366, the sequence table): while the amplifier is off, starts, is calibrated or has faulted, but for a
classification (R377). -/
def Dev.hpClamped (d : Dev) : Bool :=
  let st := d.fget R.COD_STAT_HP
  d.fget R.JCK_STAT_CLASS != 6 && (decide (st ≤ 2) || (st == 6 && decide (d.cod.hp.dur ≤ d.since d.cod.hp.clk)))

/-- JACK_INSERT (R376): `JACK_DET` has held `level` for `held` ms. -/
def execJackInsert (level : Bool) (held : Nat) (s : State) : Host.Outcome State Fault Refusal :=
  nextDev s (fun d =>
    if d.fbit R.JCK_CFG_EN && level == d.fbit R.JCK_CFG_POL && !d.fbit R.JCK_STAT_INSERTED && decide (10 * d.fget R.JCK_DEB_INS ≤ held) then
      ((((d.fputB R.JCK_STAT_INSERTED 0 true).bump R.JCK_INSERTS_COUNT).lifeBy 0x8C 4 1).event R.JCK_EVT_INSERT).jackMeasure
    else d)

/-- The jack leaves: class none, no button; presses not yet published are discarded, and `MICBIAS2` returns to its enable (R380, R382). -/
def Dev.jackGone (d : Dev) : Dev :=
  let d := d.each d.jck.press (fun d _ => d.bump R.JCK_BTN_DISC_COUNT)
  let d := d.updJck (fun _ => {})
  (((d.fputB R.JCK_STAT_INSERTED 0 false).fput R.JCK_STAT_CLASS 0 0).fput R.JCK_STAT_BTN 0 0).biasShow

/-- JACK_REMOVE (R376, R380): `JACK_DET` has held `level` for `held` ms. -/
def execJackRemove (level : Bool) (held : Nat) (s : State) : Host.Outcome State Fault Refusal :=
  nextDev s (fun d =>
    if d.fbit R.JCK_STAT_INSERTED && level != d.fbit R.JCK_CFG_POL && decide (d.fget R.JCK_DEB_REM ≤ held) then
      ((d.hpRemoved.jackGone).event R.JCK_EVT_REMOVE).outUpdate 0
    else d)

/-- The accessory class of R378: 1 3-pole headphone, 2 CTIA, 3 OMTP, 4 line load, 5 fault. -/
def jackClass (z : JackZ) : Nat :=
  let below (o : Option Nat) (k : Nat) : Bool := match o with | some v => decide (v < k) | none => false
  let above (o : Option Nat) (k : Nat) : Bool := match o with | some v => decide (k < v) | none => true
  let mic (o : Option Nat) : Bool := match o with | some v => decide (600 ≤ v) && decide (v ≤ 20000) | none => false
  if below z.tip 6 || below z.ring 6 then 5
  else if below z.a 50 && below z.b 50 then (if above z.tip 5000 && above z.ring 5000 then 4 else 1)
  else if mic z.a && above z.b 100000 then 2
  else if mic z.b && above z.a 100000 then 3
  else 5

/-- An impedance as a register shows it. -/
def ohms (o : Option Nat) : Nat := match o with | some v => if v < 65000 then v else 0xFFFF | none => 0xFFFF

/-- Tip and ring impedance are measured, once 2 ms of a classification have passed (R377, steps 1 and 2): what was measured stands. -/
def Dev.jackLoad (d : Dev) (z : JackZ) : Dev :=
  if d.jck.load.isSome then d
  else ((d.fput R.JCK_Z_TIP_OHM 0 (ohms z.tip)).fput R.JCK_Z_RING_OHM 0 (ohms z.ring)).updJck (fun j => { j with load := some (z.tip, z.ring) })

/-- JACK_CLASSIFY (R377 to R379): measurements of a classification end: those of steps 1 and 2 from 2 ms on, and at 6 ms the class is decided. -/
def execJackClassify (z : JackZ) (s : State) : Host.Outcome State Fault Refusal :=
  nextDev s (fun d =>
    if d.fget R.JCK_STAT_CLASS ≠ 6 || decide (d.since d.jck.clk < msCycles 2) then d
    else
      let d := (d.jackLoad z).biasShow
      if d.since d.jck.clk < msCycles 6 then d
      else
        let load := d.jck.load.getD (z.tip, z.ring)
        let c := jackClass { z with tip := load.1, ring := load.2 }
        let d := (d.fput R.JCK_STAT_CLASS 0 c).event R.JCK_EVT_CLASS
        (((onlyIf (c == 5) (fun d => d.event R.JCK_EVT_FAULT) d).hpFaultEnd).outUpdate 0).biasShow)

/-- `JCK_CMD.RECLASSIFY` (R377). -/
def Dev.jackReclassify (d : Dev) : Dev :=
  if d.fbit R.JCK_CFG_EN && d.fbit R.JCK_STAT_INSERTED then (d.fput R.JCK_STAT_BTN 0 0).jackMeasure else d

/-- RECLASSIFY (R377). -/
def execReclassify (s : State) : Host.Outcome State Fault Refusal := nextDev s Dev.jackReclassify

/-- The window in which an impedance lies, the lowest of overlapping ones; 4 for none (R381). -/
def Dev.btnWindow (d : Dev) (ohm : Option Nat) : Nat :=
  match ohm with
  | none => 4
  | some v => (((List.range 4).filter (fun i => decide (5 * d.fget R.JCK_BTN_LO i ≤ v) && decide (v ≤ 5 * d.fget R.JCK_BTN_HI i))).head?).getD 4

/-- A press is debounced or published, and mutes the channels of `MIC2` (R383). -/
def Dev.btnMutes (d : Dev) : Bool :=
  d.fbit R.JCK_CFG_BTN_MUTE && (d.jck.held.isSome || !d.jck.press.isEmpty || d.fget R.JCK_STAT_BTN != 0)

/-- The debounced button is released (R381, R382), which is published at once. -/
def Dev.btnRelease (d : Dev) : Dev :=
  match d.jck.held with
  | none => d
  | some b =>
    ((d.updJck (fun j => { j with held := none })).fput R.JCK_STAT_BTN 0 (d.fget R.JCK_STAT_BTN - (d.fget R.JCK_STAT_BTN &&& 2 ^ b))).event R.JCK_EVT_RELEASE

/-- BUTTON_READING (R381): every 1 ms with a headset class. -/
def execButtonReading (ohm : Option Nat) (s : State) : Host.Outcome State Fault Refusal :=
  nextDev s (fun d =>
    let cls := d.fget R.JCK_STAT_CLASS
    if (cls ≠ 2 && cls ≠ 3) || !d.fbit R.JCK_CFG_BTN_EN then d
    else
      let d := d.fput R.JCK_Z_MIC_OHM 0 (ohms ohm)
      let w := d.btnWindow ohm
      let run := if w = d.jck.win then min (d.jck.run + 1) 256 else 1
      let d := d.updJck (fun j => { j with win := w, run := run })
      if run < d.fget R.JCK_BTN_TIME_DEB then d
      else if w = 4 then d.btnRelease
      else if d.jck.held = some w then d
      else d.btnRelease.updJck (fun j => { j with held := some w, press := j.press ++ [(w, d.time.clk)] }))

/-- BUTTON_PRESS_PUBLISH (R382): GUARD after its debounce the oldest press is published, also one whose release has been (DESIGN CHOICE, log entry 22: its
bit then stands until the next release of the button). -/
def execButtonPressPublish (s : State) : Host.Outcome State Fault Refusal :=
  nextDev s (fun d =>
    match d.jck.press with
    | [] => d
    | (b, t) :: rest =>
      if d.since t < msCycles (d.fget R.JCK_BTN_TIME_GUARD) then d
      else ((d.updJck (fun j => { j with press := rest })).event R.JCK_EVT_PRESS).fput R.JCK_STAT_BTN 0 (d.fget R.JCK_STAT_BTN ||| 2 ^ b))

/-! ### Epochs and clocks -/

/-- Outputs start and stop as they are wanted. -/
def Dev.codUpdate (d : Dev) : Dev := ((d.outUpdate 0).outUpdate 1).spkUpdate

/-- What applied converter and jack settings do (R360, R365, R369, `JCK_CFG.EN`). -/
def Dev.codApplied (old d : Dev) : Dev :=
  let d := d.each (List.range 4) (fun d ch =>
    let was := bitAt (old.fget R.COD_PWR_ADC_EN) ch
    let now := bitAt (d.fget R.COD_PWR_ADC_EN) ch
    if was = now then d
    else d.updCod (fun c => { c with
      adcClk := smSet (fun _ => 0) c.adcClk ch (if now then d.time.clk + 1 else 0), adcOn := smSet (fun _ => false) c.adcOn ch false }))
  let d := if !old.fbit R.COD_PWR_HP_EN && d.fbit R.COD_PWR_HP_EN then d.hpFaultEnd else d
  let d := if old.fbit R.JCK_CFG_EN && !d.fbit R.JCK_CFG_EN then d.hpRemoved.jackGone else d
  d.biasShow.codUpdate

/-- The class-D switching frequency in 100 Hz (the FSW table of 11). -/
def Dev.spkSwitching (d : Dev) : Nat :=
  let k := min 2 (d.fget R.COD_SPK_CFG_FSW)
  if d.fbit R.CLK_APL_CFG_FAM then [3528, 4704, 7056].getD k 0 else [3840, 5120, 7680].getD k 0

/-- The largest speaker sample that is not clipped at the present `PVDD` (R363): 0.9 × `PVDD` peak of 3.16 Vrms full scale. -/
def Dev.spkLimit (d : Dev) : Nat := if d.cod.pvdd = 0 then 2 ^ 23 else Nat.sqrt (81 * d.cod.pvdd ^ 2 * 2 ^ 46 / 1997120000)

/-- Every analog output has completed its stop sequence (R371). -/
def Dev.codStopped (d : Dev) : Bool :=
  let off (k : Nat) : Bool :=
    d.fget (outField k) == 0 || (d.fget (outField k) == 6 && decide ((d.outSeq k).dur ≤ d.since (d.outSeq k).clk))
  off 0 && off 1 && d.cod.spk.phase == 0

end Sys2Proof.Machine
end

