-- ==== Sys2Proof/Machine/Mix.lean ====
section
/-!
DEFINITION. The Chorus mixing fabric: sinks, terms and gain ramps, route changes, equaliser coefficients, limiters, test tones and meters
(spec/12_audio_mixing.md, R384 to R409).
-/
namespace Sys2Proof.Machine

/-- Mix `n`. -/
def Dev.mixOf (d : Dev) (n : Nat) : MixSt := smGet (fun _ => {}) d.mix n

/-- Change mix `n`. -/
def Dev.updMix (d : Dev) (n : Nat) (f : MixSt → MixSt) : Dev := { d with mix := smSet (fun _ => {}) d.mix n (f (d.mixOf n)) }

/-- Term `i` of mix `n`. -/
def Dev.termOf (d : Dev) (n i : Nat) : TermSt := smGet (fun _ => {}) (d.mixOf n).terms i

/-- Set term `i` of mix `n`. -/
def Dev.setTerm (d : Dev) (n i : Nat) (t : TermSt) : Dev := d.updMix n (fun m => { m with terms := smSet (fun _ => {}) m.terms i t })

/-- Set a flag of a mix: its bit in STAT and in `MIX_EVT` (R408). -/
def Dev.mixFlag (d : Dev) (n bit : Nat) : Dev :=
  (d.setImm (R.MXT_STAT.base + 16 * n) (smGet resetWord d.regs.imm (R.MXT_STAT.base + 16 * n) ||| BitVec.ofNat 16 (2 ^ bit))).setEvtBits
    R.MIX_EVT.base (2 ^ bit)

/-! ### Ramps -/

/-- The ramp times of R392 in SYS cycles. -/
def rampTime (code : Nat) : Nat :=
  ([1, 2, 5, 10, 20, 50, 100, 200, 500, 1000, 2000, 5000, 10000].getD (min code 12) 10000) * Config.sysPerMs / 10

/-- The level of a gain code in 0.001 dB; off is −100 dB (R390, R391). -/
def codeLevel (code : Nat) : Int := if code = 0 then -100000 else ((min code 240 : Nat) - 192 : Int) * 500

/-- The present level of a ramp, linear in dB (R391). -/
def RampSt.level (r : RampSt) (clk : Nat) : Int :=
  let gone := clk - r.clk
  if r.dur ≤ gone then r.dest else r.from_ + divNearInt ((r.dest - r.from_) * gone) r.dur

/-- The ramp has ended. -/
def RampSt.done (r : RampSt) (clk : Nat) : Bool := decide (r.dur ≤ clk - r.clk)

/-- The gain code of term `i` of mix `n`. -/
def Dev.gainCode (d : Dev) (n i : Nat) : Nat :=
  if i % 2 = 0 then d.fget R.MXT_GAIN_G_A (16 * n + i / 2) else d.fget R.MXT_GAIN_G_B (16 * n + i / 2)

/-- Source and polarity of a term as applied, with the type of a tone generator (R386, R405). -/
def Dev.termCfg (d : Dev) (n i : Nat) : Nat :=
  let src := d.fget R.MXT_TERM_SRC (16 * n + i)
  src + 512 * d.fget R.MXT_TERM_INV (16 * n + i) + (if src < 358 then 0 else 1024 * d.fget R.MIX_TONE_TYPE_TYPE (src - 358))

/-- The ramp time of a term. -/
def Dev.termTime (d : Dev) (n i : Nat) : Nat := rampTime (d.fget R.MXT_TERM_RAMP (16 * n + i))

/-- A term is off: it is not in a route change and its level has reached −100 dB (R391). -/
def TermSt.off (t : TermSt) (clk : Nat) : Bool := t.ramp.phase == 0 && decide (t.ramp.dest = -100000) && t.ramp.done clk

/-- A new gain code of a term (R391, R396). -/
def Dev.termGain (d : Dev) (n i code : Nat) : Dev :=
  let t := d.termOf n i
  let now := t.ramp.level d.time.clk
  let full : RampSt := ⟨now, codeLevel code, d.time.clk, d.termTime n i, 0⟩
  if t.ramp.phase = 2 then
    if code = 0 then d.setTerm n i ⟨t.pend, t.pend, {}⟩ else d
  else if t.ramp.phase = 3 && !t.ramp.done d.time.clk then
    if code = 0 then d.setTerm n i { t with ramp := {} } else d.setTerm n i { t with ramp := { full with phase := 3 } }
  else d.setTerm n i { t with ramp := full }

/-- A changed source or polarity of a term (R393, R395). -/
def Dev.termRoute (d : Dev) (n i src : Nat) : Dev :=
  let t := d.termOf n i
  let clk := d.time.clk
  let now := t.ramp.level clk
  let time := d.termTime n i
  if t.off clk then d.setTerm n i { t with src := src, pend := src }
  else if t.ramp.phase = 2 then d.setTerm n i { t with pend := src }
  else
    let dur := if t.ramp.phase = 3 && !t.ramp.done clk then
        time * (now + 100000).toNat / max 1 (codeLevel (d.gainCode n i) + 100000).toNat
      else time
    d.setTerm n i { t with pend := src, ramp := ⟨now, -100000, clk, dur, 2⟩ }

/-! ### Sinks -/

/-- ARG of a sink of kind `k` (R387): a DAC channel, port and slot of a TDM channel, a side of `SPD_TX`. -/
def sinkArg (k arg : Nat) : Nat :=
  match k with
  | 1 => min arg 5
  | 2 => min (arg / 256 % 4) 2 * 256 + arg % 32
  | 3 => min arg 1
  | _ => arg

/-- The sink that an enabled mix names; none for a meter only (R387). -/
def Dev.sinkOf (d : Dev) (n : Nat) : Option Nat :=
  let k := d.fget R.MXT_SINK_KIND n
  if d.fbit R.MXT_CTL_EN n && k != 0 then some (k * 4096 + sinkArg k (d.fget R.MXT_SINK_ARG n)) else none

/-- The sink that a mix feeds by R388; none where a lower mix names it. -/
def Dev.feedOf (d : Dev) (n : Nat) : Option Nat :=
  match d.sinkOf n with
  | none => none
  | some k => if (List.range n).any (fun m => d.sinkOf m == some k) then none else some k

/-- The sink connection of a mix goes to `new` (R394, R395). -/
def Dev.sinkRoute (d : Dev) (n : Nat) (new : Option Nat) : Dev :=
  let m := d.mixOf n
  let clk := d.time.clk
  let time := rampTime (d.fget R.MXT_CTL_RAMP n)
  let now := m.ramp.level clk
  let d := d.fputB R.MXT_STAT_FEEDING n new.isSome
  match m.sink with
  | none => if new.isSome then d.updMix n (fun m => { m with sink := new, pend := new, ramp := ⟨-100000, 0, clk, time, 3⟩ }) else d
  | some k =>
    if m.ramp.phase = 2 then d.updMix n (fun m => { m with pend := new })
    else if new = some k then d
    else
      let dur := if m.ramp.phase = 3 && !m.ramp.done clk then time * (now + 100000).toNat / 100000 else time
      d.updMix n (fun m => { m with pend := new, ramp := ⟨now, -100000, clk, dur, 2⟩ })

/-- The RAMPING bit of a mix. -/
def Dev.mixRamping (d : Dev) (n : Nat) : Dev :=
  let m := d.mixOf n
  d.fputB R.MXT_STAT_RAMPING n (!m.ramp.done d.time.clk || m.ramp.phase == 2 ||
    (List.range 8).any (fun i => !(d.termOf n i).ramp.done d.time.clk || (d.termOf n i).ramp.phase == 2))

/-- What applied mixer settings do at their frame (R388, R393 to R395, R400, R405): a band that is off has no filter state, and a mix that was not running begins
with nothing on its way. -/
def Dev.mixApplied (old d : Dev) : Dev :=
  let d := d.each (List.range 128) (fun d n =>
    let d := d.each (List.range 8) (fun d i =>
      let c := d.termCfg n i
      if c ≠ old.termCfg n i then d.termRoute n i c else d)
    let fresh := d.fbit R.MXT_CTL_EN n && !old.fbit R.MXT_CTL_EN n && (d.mixOf n).sink.isNone
    let on := d.fget R.MXT_CTL_EQ_EN n
    let d := d.updMix n (fun m => { m with
      eq := m.eq.filter (fun e => bitAt on e.1), line := if fresh then [] else m.line, own := if fresh then 0 else m.own })
    let lost := (d.sinkOf n).isSome && (d.feedOf n).isNone
    let d := if lost && !(d.mixOf n).conflict then d.mixFlag n 2 else d
    let d := if (d.mixOf n).conflict = lost then d else d.updMix n (fun m => { m with conflict := lost })
    d.sinkRoute n (d.feedOf n))
  d.each (List.range 128) (fun d n => d.mixRamping n)

/-- MIX_GAIN_WRITE: both codes of `MXT[n].GAIN[k]` (R390, R391); a code written again changes nothing but a ramp that runs, which starts anew. -/
def Dev.gainWrite (d : Dev) (n k a b : Nat) : Dev :=
  let oldA := d.gainCode n (2 * k)
  let oldB := d.gainCode n (2 * k + 1)
  let d := (d.fput R.MXT_GAIN_G_A (16 * n + k) (min a 240)).fput R.MXT_GAIN_G_B (16 * n + k) (min b 240)
  let same (i code old : Nat) : Bool := code == old && (d.termOf n i).ramp.done d.time.clk && (d.termOf n i).ramp.phase != 2
  let d := if same (2 * k) (min a 240) oldA then d else d.termGain n (2 * k) (min a 240)
  let d := if same (2 * k + 1) (min b 240) oldB then d else d.termGain n (2 * k + 1) (min b 240)
  d.mixRamping n

/-- MIX_GAIN_WRITE (R391). -/
def execMixGainWrite (n : Fin 128) (k : Fin 4) (a b : Byte) (s : State) : Host.Outcome State Fault Refusal :=
  nextDev s (fun d => d.gainWrite n k a.toNat b.toNat)

/-- ROUTE_RAMP_OUT_END (R393, R394): a term (0 to 7) or the output (8) that has ramped out changes source or sink and ramps in. -/
def execRouteRampOutEnd (n : Fin 128) (which : Fin 9) (s : State) : Host.Outcome State Fault Refusal :=
  nextDev s (fun d =>
    let clk := d.time.clk
    if (which : Nat) = 8 then
      let m := d.mixOf n
      if m.ramp.phase = 2 && m.ramp.done clk then
        (d.updMix n (fun m => { m with
          sink := m.pend, ramp := if m.pend.isSome then ⟨-100000, 0, clk, rampTime (d.fget R.MXT_CTL_RAMP n), 3⟩ else {} })).mixRamping n
      else d
    else
      let i := (which : Nat)
      let t := d.termOf n i
      if t.ramp.phase = 2 && t.ramp.done clk then
        let code := d.gainCode n i
        (d.setTerm n i ⟨t.pend, t.pend, if code = 0 then {} else ⟨-100000, codeLevel code, clk, d.termTime n i, 3⟩⟩).mixRamping n
      else d)

/-! ### Equaliser -/

/-- Coefficient `j` of band `b` of mix `n`: b0 is 1.0 after reset, the others 0. -/
def Dev.coef (d : Dev) (n b j : Nat) : Nat := smGet (fun k => if k % 5 = 0 then 0x10000000 else 0) (d.mixOf n).coef (5 * b + j)

/-- A write to `MIX_EQ_SEL`: the coefficients in force are copied into the window. -/
def Dev.eqSelect (d : Dev) (band n : Nat) : Dev :=
  let b := min band 4
  let d := (d.fput R.MIX_EQ_SEL_BAND 0 b).fput R.MIX_EQ_SEL_MIX 0 n
  d.each (List.range 5) (fun d j => (d.fput R.MIX_EQ_C_HALF (2 * j) (d.coef n b j / 65536)).fput R.MIX_EQ_C_HALF (2 * j + 1) (d.coef n b j % 65536))

/-- EQ_SELECT (R398). -/
def execEqSelect (band : Fin 8) (n : Fin 128) (s : State) : Host.Outcome State Fault Refusal := nextDev s (fun d => d.eqSelect band n)

/-- The coefficients satisfy R399: |a2| < 1 and |a1| < 1 + a2, in units of 2^−28. -/
def eqStable (a1 a2 : Int) : Bool := decide (a2.natAbs < 2 ^ 28) && decide ((a1.natAbs : Int) < 2 ^ 28 + a2)

/-- `MIX_EQ_CMD.LOAD` (R398, R399). -/
def Dev.eqLoad (d : Dev) : Dev :=
  let b := d.fget R.MIX_EQ_SEL_BAND
  let n := d.fget R.MIX_EQ_SEL_MIX
  let w (j : Nat) : Nat := d.fget R.MIX_EQ_C_HALF (2 * j) * 65536 + d.fget R.MIX_EQ_C_HALF (2 * j + 1)
  if eqStable (sgn 32 (w 3)) (sgn 32 (w 4)) then
    d.updMix n (fun m => { m with coef := smSetList (fun k => if k % 5 = 0 then 0x10000000 else 0) m.coef (5 * b) [w 0, w 1, w 2, w 3, w 4] })
  else d.mixFlag n 1

/-- EQ_LOAD (R398). -/
def execEqLoad (s : State) : Host.Outcome State Fault Refusal := nextDev s Dev.eqLoad

/-- The Chorus engines run their Tadpole baseline (R401). -/
def Dev.chorusBase (d : Dev) : Bool := bitAt d.boot.tadpole 4

/-- One sample in 2^−16 through the bands of a mix that are on (R384): the sample out, and the filter states; a band that is off has none, so that it starts
at zero (R400). -/
def Dev.eqRun (d : Dev) (n : Nat) (x : Int) : Int × SMap (List Int) :=
  (List.range 5).foldl (fun (s : Int × SMap (List Int)) b =>
    if bitAt (d.fget R.MXT_CTL_EQ_EN n) b && !d.chorusBase then
      let m := smGet (fun _ => []) (d.mixOf n).eq b
      let c (j : Nat) : Int := sgn 32 (d.coef n b j)
      let y := divNearInt (c 0 * s.1 + c 1 * m.getD 0 0 + c 2 * m.getD 1 0 - c 3 * m.getD 2 0 - c 4 * m.getD 3 0) (2 ^ 28)
      (y, smSet (fun _ => []) s.2 b [s.1, m.getD 0 0, y, m.getD 2 0])
    else s) (x, [])

/-! ### Tones -/

/-- The level of tone `t` in 0.001 dB below full scale, ramping over 10 ms (R405). -/
def Dev.toneNow (d : Dev) (t : Nat) : Nat :=
  let s : ToneSt := smGet (fun _ => {}) d.tone t
  let aim := 500 * d.fget R.MIX_TONE_LEVEL_LEVEL t
  let gone := min (d.since s.clk) (msCycles 10)
  if s.from_ ≤ aim then s.from_ + (aim - s.from_) * gone / msCycles 10 else s.from_ - (s.from_ - aim) * gone / msCycles 10

/-- A write of a tone level (R405). -/
def Dev.toneWrite (d : Dev) (t level : Nat) : Dev :=
  let now := d.toneNow t
  { d.fput R.MIX_TONE_LEVEL_LEVEL t (min level 240) with
    tone := smSet (fun _ => {}) d.tone t { smGet (fun _ => {}) d.tone t with from_ := now, clk := d.time.clk } }

/-- TONE_LEVEL_WRITE (R405). -/
def execToneLevelWrite (t : Fin 4) (level : Byte) (s : State) : Host.Outcome State Fault Refusal :=
  nextDev s (fun d => d.toneWrite t level.toNat)

/-- The sine of `k` / `n` of a turn in 2^−40. -/
def sineOf (k n : Nat) : Int :=
  let q := 4 * (k % n)
  let a (r : Nat) : Int := (2 ^ 22 * r / max 1 n : Nat)
  if q < n then (cosSin (a q)).2 else if q < 2 * n then (cosSin (a (2 * n - q))).2
  else if q < 3 * n then -(cosSin (a (q - 2 * n))).2 else -(cosSin (a (4 * n - q))).2

/-- Frames over which the rms level of pink noise is held (R404; DESIGN CHOICE, log entry 56). -/
def pinkSpan : Nat := 4800

/-- Frame `k` of the pink noise of generator `t`: the free sequence of log entry 56, brought in every stretch of `pinkSpan` frames to an rms of full scale (R404);
a stretch of zeros stands at full scale. -/
def pinkNoise (t k : Nat) : Int :=
  let x (i : Nat) : Int := Config.noise (4 * t + 3) i
  let sq := ((List.range pinkSpan).map (fun i => (x (k / pinkSpan * pinkSpan + i)).natAbs ^ 2)).foldl (· + ·) 0
  if sq = 0 then 2 ^ 23 - 1
  else divNearInt (x k * ((2 ^ 23 - 1) * Nat.sqrt (pinkSpan * 2 ^ 80 / sq))) (2 ^ 40)

/-- The sample of tone generator `t` as `type` gives it (R404): silence, sine, white or pink noise; the sequences of the noises are free values (log
entry 56). -/
def Dev.toneSample (d : Dev) (t type rate : Nat) : Int :=
  let amp : Nat := dbAmp (-divNearInt (d.toneNow t) 10)
  match type with
  | 0 => 0
  | 1 => divNearInt (sineOf (smGet (fun _ => ({} : ToneSt)) d.tone t).phase rate * amp * (2 ^ 23 - 1)) (2 ^ 80)
  | 3 => sat24 (scaled amp (pinkNoise t d.fab.frames))
  | k => sat24 (scaled amp (Config.noise (4 * t + k) d.fab.frames))

/-- A frame of the fabric passes for every generator: the phase goes on by FREQ (R405). -/
def Dev.toneAdvance (d : Dev) (rate : Nat) : Dev :=
  d.each (List.range 4) (fun d t =>
    let s : ToneSt := smGet (fun _ => {}) d.tone t
    { d with tone := smSet (fun _ => {}) d.tone t { s with phase := (s.phase + d.fget R.MIX_TONE_FREQ_FREQ t) % rate } })

/-! ### Frames, limiters and meters -/

/-- Largest sample magnitude: full scale of 24 bits. -/
def fullScale : Nat := 2 ^ 23 - 1

/-- A magnitude in 0.1 dBFS, held at −120.0 dBFS (R406). -/
def magTenths (sq den : Nat) : Int := if sq = 0 then -1200 else clampInt (-1200) 0 (levelTenths sq den)

/-- The limiter of a mix acts: enabled, and on a headphone or speaker sink that it feeds or ramps out from (R402); the pair it belongs to. -/
def Dev.limPair (d : Dev) (n : Nat) : Option Nat :=
  if d.fbit R.MXT_CTL_LIM_EN n then
    match (d.mixOf n).sink with
    | some 0x1000 => some 0
    | some 0x1001 => some 0
    | some 0x1004 => some 1
    | some 0x1005 => some 1
    | _ => none
  else none

/-- Fabric frames in 100 ms (R1 and the fabric rates). -/
def Dev.frames100 (d : Dev) : Nat := if d.fbit R.CLK_APL_CFG_FAM then 4410 else 4800

/-- The limiter's threshold as a sample, by pair (R402). -/
def Dev.limThr (d : Dev) (p : Nat) : Nat :=
  (scaled (dbAmp (-50 * ((d.fget (if p = 0 then R.MIX_LIM_HP_THR else R.MIX_LIM_SPK_THR) : Nat) : Int))) fullScale).toNat

/-- The gain reduction in µdB that brings a sample to a threshold; none below it. -/
def redNeed (thr : Nat) (x : Int) : Nat :=
  if x.natAbs ≤ thr then 0 else 10000 * ((levelHundredths (x.natAbs ^ 2) (max 1 thr ^ 2)).toNat + 1)

/-- The gain reduction of a mix's own limiter in µdB after one more frame (R402): over the look-ahead of `ahead` frames it rises linearly to what each
sample will need, and it recovers at 20 dB per release time. `line` holds the samples on their way, newest first, `now` the one that leaves. -/
def limStep (thr ahead recover old : Nat) (line : List Int) (now : Int) : Nat :=
  let soon := (line.reverse.take ahead).zipIdx.map (fun x => redNeed thr x.1 * (ahead - (x.2 + 1)) / max 1 ahead)
  (redNeed thr now :: soon).foldl max (old - recover)

/-- The gain reduction in µdB in force on a mix: that of its limiter, or the larger of a linked pair (R403). -/
def Dev.limRed (d : Dev) (n : Nat) : Nat :=
  match d.limPair n with
  | none => 0
  | some p =>
    if d.fbit (if p = 0 then R.MIX_LIM_HP_LINK else R.MIX_LIM_SPK_LINK) then
      ((List.range 128).filter (fun m => d.limPair m == some p)).foldl (fun r m => max r (d.mixOf m).own) 0
    else (d.mixOf n).own

/-- A frame of a mix's meter (R406): the magnitudes of the last 300 ms, and the peak of the last 100 ms of them. -/
def Dev.meterFrame (d : Dev) (n mag : Nat) : Dev :=
  let l := (mag :: (d.mixOf n).mags).take (3 * d.frames100)
  let l := if l.all (· == 0) then [] else l
  (d.updMix n (fun m => { m with mags := l })).fput R.MXT_PEAK_PEAK n (unsgn 16 (magTenths ((l.take d.frames100).foldl max 0 ^ 2) (2 ^ 46)))

/-- One frame of one mix behind its limiter (R397, R403, R406, R408): saturation, clip, limiter flag, meters. `x` is its sample, `red` the gain
reduction in force in µdB. -/
def Dev.mixFrame (d : Dev) (n : Nat) (x : Int) (red : Nat) : Dev :=
  let clip := decide (fullScale < x.natAbs)
  let y := clampInt (-(fullScale : Int)) fullScale x
  let tenths := divNear red 100000
  let m := d.mixOf n
  let d := if clip && m.clipSec != d.time.sec + 1 then (d.mixFlag n 0).updMix n (fun m => { m with clipSec := d.time.sec + 1 }) else d
  let d := if m.armed && decide (3000000 < red) then d.mixFlag n 3 else d
  let d := d.updMix n (fun m => { m with
    armed := if 3000000 < red then false else if red < 1000000 then true else m.armed
    clips := min (m.clips + b2n clip) 65535, red := tenths, redMax := max m.redMax tenths, hold := max m.hold y.natAbs, y := y })
  d.meterFrame n y.natAbs

/-- The six meter entries of a mix (R406). -/
def Dev.mixEntry (d : Dev) (n i : Nat) : Nat :=
  let m := d.mixOf n
  match i with
  | 0 => d.fget R.MXT_PEAK_PEAK n
  | 1 => unsgn 16 (magTenths ((m.mags.map (· ^ 2)).foldl (· + ·) 0) (3 * d.frames100 * 2 ^ 46))
  | 2 => unsgn 16 (magTenths (m.hold ^ 2) (2 ^ 46))
  | 3 => m.clips
  | 4 => m.red
  | _ => m.redMax

/-- A write to `MIX_MTR_SEL` (R407). -/
def Dev.mtrLatch (d : Dev) (n : Nat) : Dev :=
  (d.fput R.MIX_MTR_SEL_MIX 0 n).each (List.range 6) (fun e i => e.fput R.MIX_MTR_VALUE i (d.mixEntry n i))

/-- MIX_METER_LATCH (R407). -/
def execMixMeterLatch (n : Fin 128) (s : State) : Host.Outcome State Fault Refusal := nextDev s (fun d => d.mtrLatch n)

/-- `MIX_CMD.CLR_MTR` (R406). -/
def Dev.clrMtr (d : Dev) : Dev := { d with mix := d.mix.map (fun e => (e.1, { e.2 with hold := 0, clips := 0, redMax := 0 })) }

/-- CLR_MTR (R406). -/
def execClrMtr (s : State) : Host.Outcome State Fault Refusal := nextDev s Dev.clrMtr

/-- The memories of the mixers are lost with PD6 (R39): coefficients, filter states, samples on their way and meters. -/
def Dev.metersLose (d : Dev) : Dev :=
  d.each (List.range 128) (fun d n =>
    let m := d.mixOf n
    let d := d.fput R.MXT_PEAK_PEAK n 0xFB50
    { d with mix := smSet (fun _ => {}) d.mix n { terms := m.terms, sink := m.sink, pend := m.pend, ramp := m.ramp, conflict := m.conflict } })

/-- `MIX_FLAG_NEXT` (R408). -/
def Dev.mixFlagNext (d : Dev) : Nat :=
  match ((List.range 128).filter (fun n => d.fget R.MXT_STAT n % 16 != 0)).head? with
  | some n => 0x8000 + n
  | none => 0

/-- A restart of the audio fabric (R409): every feeding mix ramps in, gains are reached without a ramp, limiters start at zero. -/
def Dev.mixRestart (d : Dev) : Dev :=
  d.each (List.range 128) (fun d n =>
    let d := d.each (List.range 8) (fun d i =>
      let c := d.termCfg n i
      d.setTerm n i ⟨c, c, ⟨codeLevel (d.gainCode n i), codeLevel (d.gainCode n i), d.time.clk, 0, 0⟩⟩)
    let f := d.feedOf n
    (d.updMix n (fun m => { m with
      red := 0, own := 0, eq := [], line := [], sink := f, pend := f, ramp := if f.isSome then ⟨-100000, 0, d.time.clk, rampTime (d.fget R.MXT_CTL_RAMP n), 3⟩ else {} })).mixRamping n)

end Sys2Proof.Machine
end

