-- ==== Sys2Proof/Machine/Prt.lean ====
section
/-!
DEFINITION. TDM and IEC 60958 ports, ASRCs and the clock leader (spec/13_audio_ports.md, R410 to R437).
-/
namespace Sys2Proof.Machine

/-- TDM port `n`. -/
def Dev.portOf (d : Dev) (n : Nat) : PortSt := smGet (fun _ => {}) d.ports n

/-- Change TDM port `n`. -/
def Dev.updPort (d : Dev) (n : Nat) (f : PortSt → PortSt) : Dev := { d with ports := smSet (fun _ => {}) d.ports n (f (d.portOf n)) }

/-- Change what the ports share. -/
def Dev.updPrt (d : Dev) (f : PrtSt → PrtSt) : Dev := { d with prt := f d.prt }

/-- Port state: 0 OFF, 1 WAIT, 2 START, 3 RUN, 4 LOST, 5 ERR. -/
def Dev.portState (d : Dev) (n : Nat) : Nat := d.fget R.P_STAT_STATE n

/-- The AUD clock runs in PD6 (R36: an SPL re-lock does not stop it). -/
def Dev.audClocked (d : Dev) : Bool :=
  (d.domOn 6 || (smGet (fun _ => ({} : DomSt)) d.pwr.doms 6).stopping) && d.fget R.CLK_STAT_APL == 2

/-- The AUD clock runs in PD6, and no stop for a re-lock or with PD6 is in progress (R425). -/
def Dev.audRuns (d : Dev) : Bool := d.audClocked && !d.prt.held

/-- The fabric rate in Hz. -/
def Dev.fabricRate (d : Dev) : Nat := if d.fbit R.CLK_APL_CFG_FAM then 44100 else 48000

/-- The audio domain clock in Hz (R412). -/
def Dev.audClock (d : Dev) : Nat := if d.fbit R.CLK_APL_CFG_FAM then 45158400 else 49152000

/-- The rates of `Pn_CFG.RATE` in Hz. -/
def portRate (code : Nat) : Nat := [32000, 44100, 48000, 88200, 96000, 176400, 192000].getD code 192000

/-- RATE of a port in Hz. -/
def Dev.rateOf (d : Dev) (n : Nat) : Nat := portRate (d.fget R.P_CFG_RATE n)

/-- Two frame periods of a port in SYS cycles (R423). -/
def Dev.twoFrames (d : Dev) (n : Nat) : Nat := 2 * Config.sysPerSecond / d.rateOf n

/-- WIDTH of a port in bits. -/
def Dev.slotWidth (d : Dev) (n : Nat) : Nat := [16, 20, 24, 32].getD (d.fget R.P_CFG_WIDTH n) 32

/-- Slots per frame of a port. -/
def Dev.slotCount (d : Dev) (n : Nat) : Nat := d.fget R.P_FRAME_SLOTS n + 1

/-- The checks of R412. -/
def Dev.masterOk (d : Dev) (n : Nat) : Bool :=
  let code := d.fget R.P_CFG_RATE n
  let fam441 := code == 1 || code == 3 || code == 5
  let bpf := d.fget R.P_BPF_BPF n
  let bclk := d.rateOf n * bpf
  fam441 == d.fbit R.CLK_APL_CFG_FAM &&
    decide (d.fget R.P_FRAME_OFFSET n + d.slotCount n * d.slotWidth n + b2n (d.fget R.P_CFG_FMT n == 0) ≤ bpf) &&
    decide (d.audClock % bclk = 0) && decide (bclk ≤ 49152000)

/-! ### Frames on the wire -/

/-- The `Pn_BCLK` cycle after the frame start with which slot `s` begins (R410). -/
def Dev.slotStart (d : Dev) (n s : Nat) : Nat := d.fget R.P_FRAME_OFFSET n + b2n (d.fget R.P_CFG_FMT n == 0) + s * d.slotWidth n

/-- The edge of `Pn_FS` that starts a frame is the rising one (R410). -/
def Dev.fsRising (d : Dev) (n : Nat) : Bool := (d.fget R.P_CFG_FMT n != 0) != d.fbit R.P_CFG_FS_INV n

/-- `Pn_FS` as a master drives it in cycle `k` of a frame (R410). -/
def Dev.fsLevel (d : Dev) (n k : Nat) : Bool :=
  let first := if d.fget R.P_CFG_FMT n = 2 then decide (k = 0) else decide (2 * k < d.fget R.P_BPF_BPF n)
  first == d.fsRising n

/-- Data is sampled on the rising edge of `Pn_BCLK` and driven on the other one (R410). -/
def Dev.bclkRising (d : Dev) (n : Nat) : Bool := !d.fbit R.P_CFG_BCLK_INV n

/-! ### Words of a slot -/

/-- The slot contents that carry a 24-bit fabric sample (R411): rounded to min(24, WIDTH) bits, saturated, and placed by JUST. -/
def slotOut (width : Nat) (just : Bool) (sample : Int) : Nat :=
  let w := min 24 width
  let v := clampInt (-(2 ^ (w - 1) : Nat)) ((2 ^ (w - 1) : Nat) - 1) (divNearInt sample (2 ^ (24 - w)))
  unsgn w v * 2 ^ (if just then 0 else width - w)

/-- The 24-bit sample that received slot contents carry (R411). -/
def slotIn (width : Nat) (just : Bool) (slot : Nat) : Int :=
  let w := min 24 width
  sgn w (slot / 2 ^ (if just then 0 else width - w) % 2 ^ w) * (2 ^ (24 - w) : Nat)

/-- Slot `s` fits wholly into the measured frame of a slave (R413); every slot of a master fits. -/
def Dev.slotFits (d : Dev) (n s : Nat) : Bool :=
  d.fbit R.P_CFG_MASTER n || decide (d.fget R.P_FRAME_OFFSET n + (s + 1) * d.slotWidth n ≤ d.fget R.P_BPF_MEAS_VALUE n)

/-- The slots that a port sends, in order (R413, R414). -/
def Dev.sentSlots (d : Dev) (n : Nat) : List Nat :=
  (List.range (d.slotCount n)).filter (fun s => bitAt (d.portOf n).txMask s && d.slotFits n s)

/-- The slots of one frame on `Pn_DOUT`: `val j` is the content of the word at position `j` of the sent slots, `before j` that of the frame before. In
legacy mode the words are shifted: those that the shift carries beyond the last sent slot lead the next frame (R422). -/
def Dev.dataOut (d : Dev) (n : Nat) (val before : Nat → Nat) : List (Option Nat) :=
  let sent := d.sentSlots n
  let k := (d.portOf n).shift % max 1 sent.length
  (List.range (d.slotCount n)).map (fun s =>
    (sent.idxOf? s).map (fun j => if j < k then before (j + sent.length - k) else val (j - k)))

/-- The level of `Pn_DOUT` in the slots of the frame last sent: the word, low, or (none) at high impedance where TRI = 1 (R414). -/
def Dev.doutPin (d : Dev) (n : Nat) : List (Option Nat) :=
  (d.portOf n).dout.map (fun s => match s with | some w => some w | none => if d.fbit R.P_CFG_TRI n then none else some 0)

/-! ### ASRCs -/

/-- Code of a user of an ASRC: 1 P0 receive to 6 P2 transmit, 7 SPD_RX (`PRT_ASRC`). -/
def asrcPort (u : Nat) : Nat := (u - 1) / 2

/-- The port's direction has a mask that is not empty. -/
def Dev.maskUsed (d : Dev) (u : Nat) : Bool :=
  let n := asrcPort u
  if u % 2 = 1 then d.fget R.P_RXMASK_HI n != 0 || d.fget R.P_RXMASK_LO n != 0
  else d.fget R.P_TXMASK_HI n != 0 || d.fget R.P_TXMASK_LO n != 0

/-- `PRT_LEAD.SRC` names a source that can lead (R429): a slave port at the fabric rate, or SPD_RX, with a measured rate, where there
is one, within ±500 ppm. -/
def Dev.leadOk (d : Dev) : Bool :=
  let src := d.fget R.PRT_LEAD_SRC
  let near (r : Nat) : Bool := r == 0 || decide ((10 * (r : Int) - d.fabricRate).natAbs * 2000 ≤ d.fabricRate)
  if src = 0 then false
  else if src = 4 then near (d.fget R.SPD_RX_FS_FS)
  else !d.fbit R.P_CFG_MASTER (src - 1) && d.rateOf (src - 1) == d.fabricRate && near (d.fget R.P_FS_MEAS_VALUE (src - 1))

/-- A user needs an ASRC (R426). -/
def Dev.asrcNeeds (d : Dev) (u : Nat) : Bool :=
  let src := d.fget R.PRT_LEAD_SRC
  if u = 7 then d.fbit R.SPD_RX_CFG_EN && !(src == 4 && d.leadOk)
  else
    let n := asrcPort u
    let leads := d.leadOk && (src == n + 1 ||
      (1 ≤ src && src ≤ 3 && d.fbit R.P_CFG_GRP n && d.fbit R.P_CFG_GRP (src - 1)))
    d.fbit R.P_CFG_EN n && d.maskUsed u && (d.rateOf n != d.fabricRate || (!d.fbit R.P_CFG_MASTER n && !leads))

/-- The user of ASRC `k`. -/
def Dev.asrcUser (d : Dev) (k : Nat) : Nat := d.fget R.PRT_ASRC_USER / 16 ^ k % 16

/-- The ASRC that user `u` holds. -/
def Dev.asrcOf (d : Dev) (u : Nat) : Option Nat := (List.range 4).find? (fun k => d.asrcUser k == u)

/-- Hand ASRC `k` to user `u` (0: free); it is no longer locked. -/
def Dev.asrcGive (d : Dev) (k u : Nat) : Dev :=
  let w := d.fget R.PRT_ASRC_USER
  (d.fput R.PRT_ASRC_USER 0 (w - d.asrcUser k * 16 ^ k + u * 16 ^ k)).updPrt (fun p => { p with locked := p.locked - (p.locked &&& 2 ^ k) })

/-- A ratio of 0.25 to 4 between a rate in Hz and the fabric rate (R428). -/
def Dev.ratioOk (d : Dev) (hz : Nat) : Bool := decide (d.fabricRate ≤ 4 * hz) && decide (hz ≤ 4 * d.fabricRate)

/-- The ratio check of `SPD_RX`, with the rate it has measured (R428). -/
def Dev.spdRatio (d : Dev) : Dev :=
  let bad := (d.asrcOf 7).isSome && d.fbit R.SPD_RX_STAT_LOCK && !d.ratioOk (10 * d.fget R.SPD_RX_FS_FS)
  let was := d.fbit R.SPD_RX_STAT_RATIO_ERR
  let d := d.fputB R.SPD_RX_STAT_RATIO_ERR 0 bad
  if bad && !was then d.event R.SPD_EVT_ASRC_ERR else d

/-- The status bits of the assignment, with the event of each NO_ASRC that became 1 (R427). -/
def Dev.asrcShow (d : Dev) : Dev :=
  let un (u : Nat) : Bool := bitAt d.prt.unserved u
  let d := d.each (List.range 3) (fun d n =>
    let no := un (2 * n + 1) || un (2 * n + 2)
    let was := d.fbit R.P_STAT_NO_ASRC n
    let has (u : Nat) : Bool := (d.asrcOf u).isSome
    let d := ((d.fputB R.P_STAT_ASRC_RX n (has (2 * n + 1))).fputB R.P_STAT_ASRC_TX n (has (2 * n + 2))).fputB R.P_STAT_NO_ASRC n no
    let d := if has (2 * n + 1) || has (2 * n + 2) then d else (d.fputB R.P_STAT_RATIO_ERR n false).updPort n (fun p => { p with inRange := 0 })
    if no && !was then d.event R.P_EVT_ASRC_ERR n else d)
  let was := d.fbit R.SPD_RX_STAT_NO_ASRC
  let d := (d.fputB R.SPD_RX_STAT_ASRC 0 (d.asrcOf 7).isSome).fputB R.SPD_RX_STAT_NO_ASRC 0 (un 7)
  (if un 7 && !was then d.event R.SPD_EVT_ASRC_ERR else d).spdRatio

/-- The assignment of R427. -/
def Dev.asrcAssign (d : Dev) : Dev :=
  let d := d.each (List.range 4) (fun d k => if d.asrcUser k ≠ 0 && !d.asrcNeeds (d.asrcUser k) then d.asrcGive k 0 else d)
  let d := d.updPrt (fun p => { p with unserved := 0 })
  let d := d.each [1, 2, 3, 4, 5, 6, 7] (fun d u =>
    if !d.asrcNeeds u || (d.asrcOf u).isSome then d
    else
      match (List.range 4).find? (fun k => d.asrcUser k == 0) with
      | some k => d.asrcGive k u
      | none => d.updPrt (fun p => { p with unserved := p.unserved ||| 2 ^ u }))
  d.asrcShow

/-- Every ASRC of port `n` (3: SPD_RX) is locked (R416). -/
def Dev.asrcsLocked (d : Dev) (n : Nat) : Bool :=
  (List.range 4).all (fun k => !(d.asrcUser k != 0 && asrcPort (d.asrcUser k) == n) || bitAt d.prt.locked k)

/-- The ASRCs of port `n` lose their lock: its clock is gone. -/
def Dev.asrcsUnlock (d : Dev) (n : Nat) : Dev :=
  d.each (List.range 4) (fun d k =>
    if d.asrcUser k ≠ 0 && asrcPort (d.asrcUser k) == n then d.updPrt (fun p => { p with locked := p.locked - (p.locked &&& 2 ^ k) }) else d)

/-- User `u` is served: it needs no ASRC, or has one and its ratio is in range (R427, R428). -/
def Dev.asrcServed (d : Dev) (u : Nat) : Bool :=
  !d.asrcNeeds u || ((d.asrcOf u).isSome && !(if u = 7 then d.fbit R.SPD_RX_STAT_RATIO_ERR else d.fbit R.P_STAT_RATIO_ERR (asrcPort u)))

/-- The ratio check of a port at one frame (R428). -/
def Dev.ratioFrame (d : Dev) (n : Nat) : Dev :=
  if (d.asrcOf (2 * n + 1)).isNone && (d.asrcOf (2 * n + 2)).isNone then d.fputB R.P_STAT_RATIO_ERR n false
  else
    let hz := if d.fbit R.P_CFG_MASTER n then d.rateOf n else 10 * d.fget R.P_FS_MEAS_VALUE n
    if d.ratioOk hz then
      let k := min 2 ((d.portOf n).inRange + 1)
      let d := d.updPort n (fun p => { p with inRange := k })
      if 2 ≤ k then d.fputB R.P_STAT_RATIO_ERR n false else d
    else
      let was := d.fbit R.P_STAT_RATIO_ERR n
      let d := (d.updPort n (fun p => { p with inRange := 0 })).fputB R.P_STAT_RATIO_ERR n true
      if was then d else d.event R.P_EVT_ASRC_ERR n

/-- A channel of a stream of frames with their cycles, newest first, at the moment of cycle `at_` (R428, log entry 52): what follows any ratio. -/
def resample (hist : List (Nat × List Int)) (at_ slot : Nat) : Int :=
  let later (h : Nat × List Int) : Bool := decide (at_ < h.1)
  match hist.dropWhile later with
  | [] => 0
  | h :: rest =>
    let x := (((hist.takeWhile later).reverse.take 16).reverse ++ (h :: rest).take 16).map (fun f => f.2.getD slot 0)
    if x.all (· == 0) then 0 else (Config.filter 21 (at_ - h.1) [] x).1.getD 0 0

/-- The cycle whose samples leave an ASRC of a stream of `hz` now: 5 frames and 1.5 ms ago (R417). -/
def Dev.asrcAt (d : Dev) (hz : Nat) : Nat := d.time.clk - (msCycles 3 / 2 + 5 * Config.sysPerSecond / max 1 hz)

/-- `k` of a ramp of `n` steps, from full level down to zero. -/
def fallen (n k : Nat) (x : Int) : Int := divNearInt (x * ((n - k : Nat) : Int)) (max n 1)

/-! ### The clock leader -/

/-- The steering of the loop (R430), in 0.1 ppm; it is part of the APL offset (R454). -/
def Dev.leadSteer (d : Dev) (v : Int) : Dev :=
  let v := clampInt (-5000) 5000 v
  let d := (d.fputI R.PRT_LEAD_PPM 0 v).fputI R.CLK_APL_PPM 0 (v + divNearInt d.clk.aplPart 10)
  let lim := v == 5000 || v == -5000
  let was := d.fbit R.PRT_LEAD_STAT_LIMIT
  let d := d.fputB R.PRT_LEAD_STAT_LIMIT 0 lim
  if lim && !was then d.event R.SPD_EVT_LEAD_LIMIT else d

/-- The named leader is in START or RUN. -/
def Dev.leaderUp (d : Dev) : Bool :=
  let src := d.fget R.PRT_LEAD_SRC
  let st := if src = 4 then d.prt.spd else d.portState (src - 1)
  st == 2 || st == 3

/-- The named leader is in RUN: from there on its fill is held for the 2 s of R430. -/
def Dev.leaderRuns (d : Dev) : Bool :=
  let src := d.fget R.PRT_LEAD_SRC
  (if src = 4 then d.prt.spd else d.portState (src - 1)) == 3

/-- The named leader enters RUN. -/
def Dev.leadRun (d : Dev) (src : Nat) : Dev := if d.fget R.PRT_LEAD_SRC = src then d.updPrt (fun p => { p with acqClk := d.time.clk }) else d

/-- The queue by which the loop is steered is reset to 4 frames (R430): what is older is given up. -/
def Dev.leadReset (d : Dev) : Dev :=
  let n := d.fget R.PRT_LEAD_SRC - 1
  if n = 3 then d.updPrt (fun p => { p with spdQueue := p.spdQueue.drop (p.spdQueue.length - 4) })
  else d.updPort n (fun p => { p with rxQueue := p.rxQueue.drop (p.rxQueue.length - 4), txFill := min 4 p.txFill })

/-- The loop enters ACQ (R430). -/
def Dev.leadAcq (d : Dev) : Dev :=
  ((d.leadReset.fput R.PRT_LEAD_STAT_STATE 0 1).fput R.PRT_LEAD_STAT_FILL 0 64).updPrt (fun p => { p with acqClk := d.time.clk })

/-- The leader starts: the loop leaves OFF or COAST for ACQ (R430). -/
def Dev.leadStart (d : Dev) : Dev :=
  let st := d.fget R.PRT_LEAD_STAT_STATE
  if d.leadOk && d.leaderUp && (st == 0 || st == 3) then d.leadAcq else d

/-- The leader as named, checked at an epoch boundary and as a port starts with a measured rate (R429 to R431). -/
def Dev.leadCheck (d : Dev) : Dev :=
  let src := d.fget R.PRT_LEAD_SRC
  let err := src != 0 && !d.leadOk
  let was := d.fbit R.PRT_LEAD_STAT_ERR
  let d := d.fputB R.PRT_LEAD_STAT_ERR 0 err
  let d := if err && !was then d.event R.SPD_EVT_LEAD_ERR else d
  let d := d.each (List.range 3) (fun d n => d.fputB R.P_STAT_LEADER n (d.leadOk && src == n + 1))
  let d := if src = d.prt.leader && !err && src != 0 then d
    else (d.fput R.PRT_LEAD_STAT_STATE 0 0).updPrt (fun p => { p with leader := src })
  d.leadStart

/-- The leader `src` has lost its clock (R430). -/
def Dev.leadLost (d : Dev) (src : Nat) : Dev :=
  let st := d.fget R.PRT_LEAD_STAT_STATE
  if d.prt.leader = src && d.fget R.PRT_LEAD_SRC == src && (st == 1 || st == 2) then (d.fput R.PRT_LEAD_STAT_STATE 0 3).event R.SPD_EVT_LEAD_COAST else d

/-- The fill of a port's queue in 1/16 frame by which the loop is steered (R430): of the receive queue, or of the transmit queue where the receive mask is
empty. -/
def Dev.leadFill (d : Dev) (n : Nat) : Nat :=
  if n = 3 then 16 * d.prt.spdQueue.length
  else if (d.portOf n).rxMask = 0 then 16 * (d.portOf n).txFill else 16 * (d.portOf n).rxQueue.length

/-- One frame of the leader (R430): the fill is reported, and the loop steers; while the SPL re-locks the steering is held (R443). -/
def Dev.leadFrame (d : Dev) (src : Nat) : Dev :=
  let st := d.fget R.PRT_LEAD_STAT_STATE
  if d.fget R.PRT_LEAD_SRC ≠ src || (st != 1 && st != 2) || d.splStopped then d
  else
    let fill := d.leadFill (src - 1)
    let d := d.fput R.PRT_LEAD_STAT_FILL 0 (min fill 128)
    let d := if ((fill : Int) - 64).natAbs ≤ 4 && d.leaderRuns then d else d.updPrt (fun p => { p with acqClk := d.time.clk })
    d.leadSteer (Config.leadStep fill (d.fgetI R.PRT_LEAD_PPM) (if st = 1 then 6 else min 6 (d.fget R.PRT_LEAD_BW)))

/-- LEADER_LOOP_LOCK (R430): the fill has stayed within ±1/4 frame for 2 s in ACQ. -/
def execLeaderLoopLock (s : State) : Host.Outcome State Fault Refusal :=
  nextDev s (fun d =>
    if d.fget R.PRT_LEAD_STAT_STATE = 1 && decide (2 * Config.sysPerSecond ≤ d.since d.prt.acqClk) then
      (d.fput R.PRT_LEAD_STAT_STATE 0 2).event R.SPD_EVT_LEAD_LOCK
    else d)

/-! ### Port states -/

/-- The group reference and the mismatches of R418. -/
def Dev.grpUpdate (d : Dev) : Dev :=
  let mem (n : Nat) : Bool := d.fbit R.P_CFG_EN n && d.fbit R.P_CFG_GRP n
  let ref := (List.range 3).find? (fun n => mem n && d.portState n == 3)
  d.each (List.range 3) (fun d n =>
    let bad := match ref with
      | some r => mem n && (d.fget R.P_CFG_RATE n != d.fget R.P_CFG_RATE r || d.fbit R.P_CFG_MASTER n != d.fbit R.P_CFG_MASTER r)
      | none => false
    (d.fputB R.P_STAT_REF n (ref == some n)).fputB R.P_STAT_GRP_ERR n bad)

/-- The group reference other than `n`, if there is one. -/
def Dev.grpRef (d : Dev) (n : Nat) : Option Nat := (List.range 3).find? (fun m => m != n && d.fbit R.P_STAT_REF m)

/-- Port `n` is a group member that runs with the reference, another port of its RATE and MASTER (R418). -/
def Dev.grpFollows (d : Dev) (n : Nat) : Bool :=
  d.fbit R.P_CFG_GRP n && (match d.grpRef n with
    | some r => d.fget R.P_CFG_RATE n == d.fget R.P_CFG_RATE r && d.fbit R.P_CFG_MASTER n == d.fbit R.P_CFG_MASTER r
    | none => false)

/-- Port `n` goes to START (R416): queues empty, a legacy shift cleared; the leader is checked and starts its loop (R429, R430). -/
def Dev.portStart (d : Dev) (n : Nat) : Dev :=
  let d := ((d.fput R.P_STAT_STATE n 2).fputB R.P_STAT_SLIPPED n false).fputB R.P_STAT_REF n false
  (d.updPort n (fun p => { p with
    txFill := 0, txHist := [], rxQueue := [], rxHist := [], txPrime := false, rxPrime := false, realign := false, shift := 0, ramp := 0, wait := false
    dout := [], sent := [], fall := 0, src := [], gap := true })).leadCheck

/-- Port `n` leaves for a state in which it neither sends nor receives; what it sent last ramps to zero within 1 ms (R416, R423). -/
def Dev.portQuiet (d : Dev) (n st : Nat) : Dev :=
  let sending := d.portState n == 2 || d.portState n == 3
  ((d.fput R.P_STAT_STATE n st).fputB R.P_STAT_REF n false).updPort n (fun p => { p with
    txFill := 0, txHist := [], rxQueue := [], rxHist := [], txPrime := false, rxPrime := false, realign := false, ramp := 0, wait := false
    fall := if sending then d.time.clk + 1 else p.fall, src := [], gap := true })

/-- Nothing is measured of port `n`: it has no clock, or is no slave that runs (R413, R428). -/
def Dev.portUnmeasured (d : Dev) (n : Nat) : Dev :=
  ((d.fput R.P_FS_MEAS_VALUE n 0).fput R.P_BPF_MEAS_VALUE n 0).fputB R.P_STAT_FIT n false

/-- Port `n` fails R412. -/
def Dev.portErr (d : Dev) (n : Nat) : Dev := (d.portQuiet n 5).event R.P_EVT_CFG_ERR n

/-- An enabled port leaves OFF (R416). -/
def Dev.portUp (d : Dev) (n : Nat) : Dev :=
  if !d.fbit R.P_CFG_EN n || !d.audRuns || d.portState n ≠ 0 then d
  else if !d.fbit R.P_CFG_MASTER n then d.portQuiet n 1
  else if !d.masterOk n then d.portErr n
  else if d.grpFollows n then d.updPort n (fun p => { p with wait := true })
  else d.portStart n

/-- No member of the group is in RUN any more: a member that waits for its frame start begins on its own (R416, R418). -/
def Dev.grpFree (d : Dev) : Dev :=
  if (List.range 3).any (fun n => d.fbit R.P_CFG_GRP n && d.portState n == 3) then d
  else d.each (List.range 3) (fun d m => if (d.portOf m).wait then d.portStart m else d)

/-- What an epoch boundary asks of every port (R412, R416, R427, R429). -/
def Dev.prtCheck (d : Dev) : Dev :=
  let d := d.each (List.range 3) (fun d n =>
    let st := d.portState n
    if !d.fbit R.P_CFG_EN n || !d.fbit R.P_CFG_MASTER n || st = 0 then d
    else if st = 5 then (if d.masterOk n && d.audRuns then d.portStart n else d)
    else if d.masterOk n then d else d.portErr n)
  d.grpFree.asrcAssign.leadCheck

/-- The masks of port `n` as applied, for transmission and reception. -/
def Dev.maskOf (d : Dev) (n : Nat) : Nat × Nat :=
  (d.fget R.P_TXMASK_HI_MASK n * 65536 + d.fget R.P_TXMASK_LO_MASK n, d.fget R.P_RXMASK_HI_MASK n * 65536 + d.fget R.P_RXMASK_LO_MASK n)

/-- SYS cycles in one cycle of `Pn_BCLK`. -/
def Dev.bclkCycles (d : Dev) (n : Nat) : Nat :=
  let hz := if d.fbit R.P_CFG_MASTER n then d.rateOf n * d.fget R.P_BPF_BPF n else 10 * d.fget R.P_FS_MEAS_VALUE n * d.fget R.P_BPF_MEAS_VALUE n
  max 1 (Config.sysPerSecond / max 1 hz)

/-- A frame start (R415): masks that have arrived take effect, together, but not those that arrived in the same cycle of `Pn_BCLK`. -/
def Dev.masksTake (d : Dev) (n : Nat) : Dev :=
  if (d.portOf n).maskAt ≠ 0 && decide (d.time.clk + 1 - (d.portOf n).maskAt < d.bclkCycles n) then d
  else d.updPort n (fun p => { p with txMask := (d.maskOf n).1, rxMask := (d.maskOf n).2, maskAt := 0 })

/-- What an applied change of port `n` does, from the block `old` before it (R415, R416, R437). -/
def Dev.portApplied (old d : Dev) (n : Nat) : Dev :=
  let d := if old.maskOf n = d.maskOf n then d else d.updPort n (fun p => { p with maskAt := d.time.clk + 1 })
  let d := if !d.fbit R.P_CFG_EN n && d.portState n != 0 then
      (((d.portQuiet n 0).updPort n (fun p => { p with offAt := d.time.clk + 1, shift := 0 })).fputB R.P_STAT_SLIPPED n false).portUnmeasured n
    else if !d.fbit R.P_CFG_EN n then d.updPort n (fun p => { p with wait := false }) else d.portUp n
  (if d.fbit R.P_CFG_MASTER n then d.portUnmeasured n else d).prtCheck

/-- What applied shared port settings do. -/
def Dev.prtApplied (d : Dev) : Dev := d.prtCheck

/-! ### Frames -/

/-- An input overrun (R421): the received frame is discarded, counted and marked. -/
def Dev.portOverrun (d : Dev) (n : Nat) : Dev :=
  (d.bumpEvt R.P_OVERRUN_COUNT R.P_EVT_OVERRUN n).updPort n (fun p => { p with gap := true })

/-- The ramp-in begins once the queues hold 4 frames and the port's ASRCs are locked (R416). -/
def Dev.portRampCheck (d : Dev) (n : Nat) : Dev :=
  let p := d.portOf n
  if d.portState n = 2 && p.ramp == 0 && (decide (4 ≤ p.txFill) || p.txMask == 0 || d.asrcNeeds (2 * n + 2)) &&
      (decide (4 ≤ p.rxQueue.length) || p.rxMask == 0 || d.asrcNeeds (2 * n + 1)) && d.asrcsLocked n then
    d.updPort n (fun p => { p with ramp := d.time.clk + 1 })
  else d

/-- What the slave measures, and whether its slots fit (R413). -/
def Dev.portMeasure (d : Dev) (n rate bpf : Nat) : Dev :=
  if d.fbit R.P_CFG_MASTER n then d
  else
    let d := (d.fput R.P_FS_MEAS_VALUE n (min rate 65535)).fput R.P_BPF_MEAS_VALUE n (min bpf 65535)
    let short := decide (bpf < d.fget R.P_FRAME_OFFSET n + d.slotCount n * d.slotWidth n)
    let was := d.fbit R.P_STAT_FIT n
    let d := d.fputB R.P_STAT_FIT n short
    if short && !was then d.event R.P_EVT_FIT n else d

/-- The received frame by slot: zero where a slot is not received (R413, R414, R427). -/
def Dev.frameIn (d : Dev) (n : Nat) (din : List Nat) : List Int :=
  (List.range (d.slotCount n)).map (fun s =>
    if bitAt (d.portOf n).rxMask s && d.slotFits n s && d.asrcServed (2 * n + 1) then slotIn (d.slotWidth n) (d.fbit R.P_CFG_JUST n) (din.getD s 0) else 0)

/-- The reference has begun the frame of the group whose frame start a member sees now, within its own frame start (R419). -/
def Dev.refBegun (d : Dev) (r : Nat) : Bool := decide (d.time.clk + 1 - (d.portOf r).edge ≤ d.twoFrames r / 4)

/-- The receive queue `q` of port `n` behind a frame start, such that a member delivers the samples of the same fabric frame as the reference (R419). -/
def Dev.rxAligned (d : Dev) (n : Nat) (q : List (List Int)) : List (List Int) :=
  match d.grpRef n with
  | some r =>
    if d.grpFollows n && (d.portOf r).rxMask != 0 && !d.asrcNeeds (2 * r + 1) && !(d.portOf n).rxPrime && !(d.portOf r).rxPrime then
      let k := min 8 ((d.portOf r).rxQueue.length + b2n (!d.refBegun r))
      List.replicate (k - q.length) [] ++ q.drop (q.length - k)
    else q
  | none => q

/-- The receive side of a frame (R414, R421): into the receive queue, or to the port's ASRC. While SYS stands still what arrives is discarded (R37). -/
def Dev.portReceive (d : Dev) (n : Nat) (f : PortFrame) : Dev :=
  let p := d.portOf n
  let new := d.frameIn n f.din
  if p.rxMask = 0 then d
  else if d.splStopped then d.updPort n (fun p => { p with gap := true })
  else if d.asrcNeeds (2 * n + 1) then d.updPort n (fun p => { p with rxHist := ((d.time.clk, new) :: p.rxHist).take 2000 })
  else if d.portState n ≠ 3 then d.updPort n (fun p => { p with rxQueue := (p.rxQueue ++ [new]).drop ((p.rxQueue.length + 1) - 4), gap := true })
  else if 8 ≤ p.rxQueue.length then d.portOverrun n
  else d.updPort n (fun p => { p with rxQueue := d.rxAligned n (p.rxQueue ++ [new]) })

/-- A fabric frame takes a frame from port `n` (R417, R421): from its receive queue, an empty one giving a zero frame, or from its ASRC; outside RUN zeros. -/
def Dev.portTake (d : Dev) (n : Nat) : Dev :=
  let p := d.portOf n
  if d.portState n ≠ 3 || p.rxMask == 0 then d.updPort n (fun p => { p with src := [] })
  else if d.asrcNeeds (2 * n + 1) then
    let t := d.asrcAt (d.rateOf n)
    d.updPort n (fun p => { p with
      src := if d.asrcServed (2 * n + 1) then (List.range (d.slotCount n)).map (fun s => resample p.rxHist t s) else [] })
  else if p.rxPrime && decide (p.rxQueue.length < 4) then d.updPort n (fun p => { p with src := [], gap := true })
  else
    match p.rxQueue with
    | f :: l => d.updPort n (fun p => { p with src := f, rxQueue := l, rxPrime := false })
    | [] => ((d.bump R.P_UNDERRUN_COUNT n).event R.P_EVT_UNDERRUN n).updPort n (fun p => { p with src := [], gap := true })

/-- A fabric frame gives port `n` the frame that the mixes have formed for it, by slot; in START four frames gather, and the queue holds 8 (R416). -/
def Dev.portGive (d : Dev) (n : Nat) (frame : List Int) : Dev :=
  if d.portState n ≠ 2 && d.portState n ≠ 3 then d
  else
    d.updPort n (fun p => { p with
      txHist := ((d.time.clk, frame) :: p.txHist).take 200
      txFill := min (if d.portState n = 2 && p.ramp = 0 then 4 else 8) (p.txFill + 1) })

/-- The samples that the port sends rise over 10 ms in START, and fall to zero within 1 ms when it is to stop (R416, R425). -/
def Dev.portLevel (d : Dev) (n : Nat) (x : Int) : Int :=
  let p := d.portOf n
  let x := if d.portState n = 2 then fallen (msCycles 10) (msCycles 10 - d.since (p.ramp - 1)) x else x
  let x := if d.prt.held then fallen (msCycles 1) (d.since d.prt.heldClk) x else x
  if p.fall = 0 then x else fallen (msCycles 1) (d.since (p.fall - 1)) x

/-- The slot contents of position `j` of the sent slots, from samples by slot (R411, R416). -/
def Dev.wordOf (d : Dev) (n : Nat) (frame : List Int) (j : Nat) : Nat :=
  slotOut (d.slotWidth n) (d.fbit R.P_CFG_JUST n) (d.portLevel n (frame.getD ((d.sentSlots n).getD j 0) 0))

/-- Put samples by slot on `Pn_DOUT`, behind those of the frame `before` (R411, R414, R422). -/
def Dev.portPut (d : Dev) (n : Nat) (frame before : List Int) : Dev :=
  d.updPort n (fun p => { p with dout := d.dataOut n (d.wordOf n frame) (d.wordOf n before) })

/-- Send a frame of samples by slot. -/
def Dev.portFrameOut (d : Dev) (n : Nat) (frame : List Int) : Dev := (d.portPut n frame (d.portOf n).sent).updPort n (fun p => { p with sent := frame })

/-- PORT_UNDERRUN and LEGACY_SLIP (R420, R422): the transmit queue holds no frame at the frame start. -/
def Dev.portUnderrun (d : Dev) (n : Nat) (f : PortFrame) : Dev :=
  let d := d.bumpEvt R.P_UNDERRUN_COUNT R.P_EVT_UNDERRUN n
  if d.fbit R.P_CFG_LEGACY n then
    let sent := d.sentSlots n
    let left := min f.unsent sent.length
    let cut (s : Nat) : Bool := decide (sent.length ≤ (sent.idxOf? s).getD 0 + left)
    let d := d.portFrameOut n f.late
    let d := d.updPort n (fun p => { p with dout := p.dout.zipIdx.map (fun w => if cut w.2 then w.1.map (fun _ => 0) else w.1) })
    if left = 0 then d
    else (((d.updPort n (fun p => { p with shift := (p.shift + left) % max 1 sent.length })).fputB R.P_STAT_SLIPPED n true).bump R.P_SLIPS_COUNT n).event R.P_EVT_SLIP n
  else (d.portFrameOut n []).updPort n (fun p => { p with realign := true })

/-- Frames that have passed in the fabric since SYS stopped (R37). -/
def Dev.stoppedFrames (d : Dev) : Nat := d.since d.fab.stop * d.fabricRate / Config.sysPerSecond

/-- The fill that the frame of a realignment leaves (R420): that of the group at this frame start, or 4 frames. -/
def Dev.realignFill (d : Dev) (n : Nat) : Nat :=
  match d.grpRef n with
  | some r => if d.grpFollows n then (d.portOf r).txFill - b2n (!d.refBegun r) else 4
  | none => 4

/-- The transmit side of a frame (R37, R414, R416, R419 to R422, R428). -/
def Dev.portSend (d : Dev) (n : Nat) (f : PortFrame) : Dev :=
  let p := d.portOf n
  if p.txMask = 0 then d.portPut n [] p.sent
  else if d.splStopped then d.portPut n (p.sent.map (fun x => fallen 48 (d.stoppedFrames + 1) x)) (p.sent.map (fun x => fallen 48 d.stoppedFrames x))
  else if d.portState n = 2 && p.ramp == 0 then d.portPut n [] p.sent
  else if d.asrcNeeds (2 * n + 2) then
    (if d.asrcServed (2 * n + 2) then
      let t := d.asrcAt (d.rateOf n)
      d.portFrameOut n ((List.range (d.slotCount n)).map (fun s => resample p.txHist t s))
    else d.portFrameOut n [])
  else if p.txPrime && decide (p.txFill < 4) then d.portFrameOut n []
  else
    let adrift := d.grpFollows n && !d.fbit R.P_CFG_MASTER n && decide (2 < f.skew)
    if p.txFill = 0 || adrift then d.portUnderrun n f
    else
      let fill := if p.realign || d.grpFollows n then d.realignFill n else p.txFill - 1
      (d.portFrameOut n (p.txHist.getD fill (0, [])).2).updPort n (fun p => { p with txFill := fill, realign := false, txPrime := false })

/-- The group members that wait for the frame start of the reference begin (R416). -/
def Dev.grpBegin (d : Dev) (n : Nat) : Dev :=
  if d.fbit R.P_STAT_REF n then d.each (List.range 3) (fun d m => if (d.portOf m).wait then d.portStart m else d) else d

/-- PORT_FRAME_START (R410 to R422): masks take effect, slots are sent and received, an underrun acts; what a port sent when it was switched off falls to
zero within 1 ms. -/
def execPortFrameStart (n : Fin 3) (frame : PortFrame) (s : State) : Host.Outcome State Fault Refusal :=
  nextDev s (fun d =>
    let p := d.portOf n
    if !d.audClocked then d
    else if d.portState n ≠ 2 && d.portState n ≠ 3 then
      (if p.fall ≠ 0 && decide (d.since (p.fall - 1) < msCycles 1) then d.portPut n p.sent p.sent
      else d.updPort n (fun p => { p with dout := [], sent := [], fall := 0 }))
    else
      let d := ((d.portMeasure n frame.rate frame.bpf).ratioFrame n).updPort n (fun p => { p with edge := d.time.clk + 1 })
      let d := (d.masksTake n).grpUpdate.grpBegin n
      (((d.portReceive n frame).portSend n frame).leadFrame (n + 1)).portRampCheck n)

/-- PORT_OVERRUN (R421): an input frame finds its queue full. -/
def execPortOverrun (n : Fin 3) (s : State) : Host.Outcome State Fault Refusal :=
  nextDev s (fun d => if d.portState n = 3 && decide (8 ≤ (d.portOf n).rxQueue.length) then d.portOverrun n else d)

/-- PORT_CLOCK_LOSS (R423, R437): a slave port without an edge of `Pn_BCLK` for more than 2 µs, or of `Pn_FS` for more than 2 frame periods; an edge in this
cycle comes first (R7, R424). -/
def execPortClockLoss (n : Fin 3) (bclk : Bool) (s : State) : Host.Outcome State Fault Refusal :=
  nextDev s (fun d =>
    let st := d.portState n
    let count (d : Dev) : Dev := d.bumpEvt R.P_CLK_LOSS_COUNT R.P_EVT_CLK_LOSS n
    let limit := if bclk then Config.sysPerMs / 500 else d.twoFrames n
    if d.fbit R.P_CFG_MASTER n then d
    else if st = 2 || st = 3 then
      if d.time.clk + 1 - (d.portOf n).edge ≤ limit then d
      else ((((count (d.portQuiet n 4)).asrcsUnlock n).portUnmeasured n).leadLost (n + 1)).grpFree
    else if st = 0 && (d.portOf n).offAt == d.time.clk + 1 then count d
    else d)

/-- PORT_CLOCK_PRESENT (R416, R424): clock for 2 consecutive frames, with the measured rate in 10 Hz and bit clocks per frame. -/
def execPortClockPresent (n : Fin 3) (rate bpf : Nat) (s : State) : Host.Outcome State Fault Refusal :=
  nextDev s (fun d =>
    let st := d.portState n
    if !d.audRuns || (st ≠ 1 && st ≠ 4) then d
    else
      let d := ((d.portMeasure n rate bpf).portStart n).updPort n (fun p => { p with edge := d.time.clk + 1 })
      if st = 4 then d.event R.P_EVT_CLK_BACK n else d)

/-- PORT_START_DONE (R416): the ramp-in of 10 ms has ended; for SPD_RX (3), its ASRC has locked (R432). -/
def execPortStartDone (n : Fin 4) (s : State) : Host.Outcome State Fault Refusal :=
  nextDev s (fun d =>
    if (n : Nat) = 3 then
      (if d.prt.spd = 2 && d.asrcsLocked 3 && (decide (4 ≤ d.prt.spdQueue.length) || d.asrcNeeds 7) then (d.updPrt (fun p => { p with spd := 3 })).leadRun 4 else d)
    else if d.portState n = 2 && (d.portOf n).ramp != 0 && decide (msCycles 10 ≤ d.time.clk + 1 - (d.portOf n).ramp) then
      ((d.fput R.P_STAT_STATE n 3).grpUpdate).leadRun (n + 1)
    else d)

/-- `Pn_CMD.RESTART` (R416). -/
def Dev.portRestart (d : Dev) (n : Nat) : Dev := if d.portState n = 3 then (d.portStart n).grpFree else d

/-- PORT_RESTART (R416). -/
def execPortRestart (n : Fin 3) (s : State) : Host.Outcome State Fault Refusal := nextDev s (fun d => d.portRestart n)

/-- ASRC_LOCK (R428): ASRC `k` locks to its source, whose clock is present. -/
def execAsrcLock (k : Fin 4) (s : State) : Host.Outcome State Fault Refusal :=
  nextDev s (fun d =>
    let u := d.asrcUser k
    let st := if u = 7 then d.prt.spd else d.portState (asrcPort u)
    if u ≠ 0 && (st == 2 || st == 3) then
      let d := d.updPrt (fun p => { p with locked := p.locked ||| 2 ^ (k : Nat) })
      if u = 7 then d else d.portRampCheck (asrcPort u)
    else d)

/-! ### IEC 60958 -/

/-- SPD_RX_LOCK (R432): a whole block with every preamble in place; the frame rate in 10 Hz. START follows. -/
def execSpdRxLock (rate : Nat) (s : State) : Host.Outcome State Fault Refusal :=
  nextDev s (fun d =>
    if !d.audRuns || !d.fbit R.SPD_RX_CFG_EN || d.fbit R.SPD_RX_STAT_LOCK then d
    else
      let d := (((d.fputB R.SPD_RX_STAT_LOCK 0 true).fput R.SPD_RX_FS_FS 0 (min rate 65535)).event R.SPD_EVT_LOCK).spdRatio
      (d.updPrt (fun p => { p with spd := 2, spdGap := true, spdEdge := d.time.clk + 1, spdHist := [], spdQueue := [], spdLine := [], spdLast := (0, 0), spdV := false })).leadCheck)

/-- SPD_RX has no lock any more. -/
def Dev.spdDown (d : Dev) : Dev :=
  (((d.fputB R.SPD_RX_STAT_LOCK 0 false).fput R.SPD_RX_FS_FS 0 0).fputB R.SPD_RX_STAT_NONAUDIO 0 false).spdRatio.asrcsUnlock 3 |>.updPrt
    (fun p => { p with spd := 0, spdGap := true, spdHist := [], spdQueue := [], spdLine := [], spdSrc := (0, 0) })

/-- SPD_RX_LOSS (R432): no valid preamble for 2 frame periods, or (`still`) no transition for 2 µs; a frame in this cycle comes first (R7). -/
def execSpdRxLoss (still : Bool) (s : State) : Host.Outcome State Fault Refusal :=
  nextDev s (fun d =>
    let limit := if still then Config.sysPerMs / 500 else 2 * Config.sysPerSecond / max 1 (10 * d.fget R.SPD_RX_FS_FS)
    if d.fbit R.SPD_RX_STAT_LOCK && decide (limit < d.time.clk + 1 - d.prt.spdEdge) then
      (d.spdDown.bumpEvt R.SPD_RX_LOSS_COUNT R.SPD_EVT_LOSS).leadLost 4
    else d)

/-- One received subframe (R434): the sample it gives, after the one given before. -/
def Dev.spdSub (d : Dev) (last : Int) (f : SpdSub) : Int × Dev :=
  let d := if f.parityOk then d else (d.bump R.SPD_RX_PARITY_COUNT).event R.SPD_EVT_PARITY
  let d := if f.v then d.updPrt (fun p => { p with spdV := true }) else d
  let x := if f.parityOk then sat24 f.sample else last
  if f.v && d.fbit R.SPD_RX_CFG_VMUTE then (0, d.bump R.SPD_RX_VSAMP_COUNT) else (x, d)

/-- One received frame, in cycle `at_` (R432 to R434): into the receive queue of 8, or to the receiver's ASRC; a full queue discards it. -/
def Dev.spdFrame (d : Dev) (at_ : Nat) (f : SpdSub × SpdSub) : Dev :=
  let (l, d) := d.spdSub d.prt.spdLast.1 f.1
  let (r, d) := d.spdSub d.prt.spdLast.2 f.2
  let out := if d.fbit R.SPD_RX_STAT_NONAUDIO then [0, 0] else [l, r]
  d.updPrt (fun p =>
    let p := { p with spdLast := (l, r), spdEdge := at_ + 1 }
    if d.asrcNeeds 7 then { p with spdHist := ((at_, out) :: p.spdHist).take 2000 }
    else if p.spd = 2 then { p with spdQueue := (p.spdQueue ++ [out]).drop ((p.spdQueue.length + 1) - 4) }
    else if 8 ≤ p.spdQueue.length then { p with spdGap := true }
    else { p with spdQueue := p.spdQueue ++ [out] })

/-- The frames that `SPD_RX` has received since the fabric frame before, and the frame that the fabric takes (R417, R421). -/
def Dev.spdTake (d : Dev) (frames : List (SpdSub × SpdSub)) : Dev :=
  if !d.fbit R.SPD_RX_STAT_LOCK then d.updPrt (fun p => { p with spdSrc := (0, 0) })
  else
    let step := Config.sysPerSecond / d.fabricRate / max 1 frames.length
    let d := d.each frames.zipIdx (fun d f => d.spdFrame (d.time.clk - step * (frames.length - 1 - f.2)) f.1)
    let d := d.leadFrame 4
    let pair (x : List Int) : Int × Int := (x.getD 0 0, x.getD 1 0)
    if d.prt.spd ≠ 3 then d.updPrt (fun p => { p with spdSrc := (0, 0) })
    else if d.asrcNeeds 7 then
      let t := d.asrcAt (10 * d.fget R.SPD_RX_FS_FS)
      d.updPrt (fun p => { p with spdSrc := if d.asrcServed 7 then (resample p.spdHist t 0, resample p.spdHist t 1) else (0, 0) })
    else
      let keep := divNear (d.fabricRate * 1500) 1000000
      d.updPrt (fun p =>
        let line := (pair (p.spdQueue.headD []) :: p.spdLine).take (keep + 1)
        { p with spdSrc := line.getD keep (0, 0), spdLine := line, spdQueue := p.spdQueue.drop 1, spdGap := p.spdGap || p.spdQueue.isEmpty })

/-- Z_PREAMBLE (R433, R434): the 24 channel-status and 24 user-data bytes of the block that ends. -/
def execZPreamble (cs user : List Byte) (s : State) : Host.Outcome State Fault Refusal :=
  nextDev s (fun d =>
    if !d.fbit R.SPD_RX_STAT_LOCK then d
    else
      let c := (cs.take 24).map (·.toNat)
      let changed := match d.prt.cs with | some o => o != c | none => false
      let v := d.prt.spdV
      let d := d.updPrt (fun p => { p with cs := some c, user := (user.take 24).map (·.toNat), spdV := false, spdEdge := d.time.clk + 1 })
      let d := d.event R.SPD_EVT_BLOCK
      let d := if changed then d.event R.SPD_EVT_CS_CHG else d
      (d.fputB R.SPD_RX_STAT_VBIT 0 v).fputB R.SPD_RX_STAT_NONAUDIO 0 (bitAt (c.getD 0 0) 1))

/-- `SPD_RX_LATCH.LATCH` (R433). -/
def Dev.spdLatch (d : Dev) : Dev :=
  let c := d.prt.cs.getD []
  d.each (List.range 12) (fun d i =>
    (d.fput R.SPD_RX_CS_DATA i (c.getD (2 * i) 0 * 256 + c.getD (2 * i + 1) 0)).fput R.SPD_RX_U_DATA i
      (d.prt.user.getD (2 * i) 0 * 256 + d.prt.user.getD (2 * i + 1) 0))

/-- SPD_RX_LATCH (R433). -/
def execSpdRxLatch (s : State) : Host.Outcome State Fault Refusal := nextDev s Dev.spdLatch

/-- What applied IEC 60958 settings do: a receiver switched off loses its lock without counting a loss. -/
def Dev.spdApplied (d : Dev) : Dev := (if !d.fbit R.SPD_RX_CFG_EN && d.fbit R.SPD_RX_STAT_LOCK then d.spdDown else d).prtCheck

/-- The channel-status bytes that SPD_TX sends (R435): with AUTO the sampling-frequency and word-length fields carry the codes of
IEC 60958-3 for the fabric rate and 24-bit words. -/
def Dev.txStatus (d : Dev) : List Nat :=
  let bs := (List.range 12).flatMap (fun i => beWord (d.fget R.SPD_TX_CS_CS i))
  if d.fbit R.SPD_TX_CFG_AUTO then
    let put (i v : Nat) (l : List Nat) : List Nat := l.set i (l.getD i 0 / 16 * 16 + v)
    put 3 (if d.fbit R.CLK_APL_CFG_FAM then 0 else 2) (put 4 0xB bs)
  else bs

/-- A fabric frame gives `SPD_TX` its samples (R417, R435): they leave 3 frames later; channel status is taken at the start of a block of 192 frames. -/
def Dev.spdGive (d : Dev) (x : Int × Int) : Dev :=
  if !d.fbit R.SPD_TX_CFG_EN then d.updPrt (fun p => { p with txLine := [], txPos := 0, txCs := [] })
  else
    d.updPrt (fun p =>
      let pos := if p.txCs.isEmpty then 0 else (p.txPos + 1) % 192
      { p with txLine := (x :: p.txLine).take 4, txPos := pos, txCs := if pos = 0 then d.txStatus else p.txCs })

/-- The frame that `SPD_TX` sends: both samples, and the C bit of its place in the block, with V and U 0 (R37, R425, R435). -/
def Dev.spdOut (d : Dev) : Int × Int × Bool :=
  let z := d.prt.txLine.getD 3 (0, 0)
  let k := if d.splStopped then d.stoppedFrames + 1 else 0
  let f (x : Int) : Int := fallen 48 k (if d.prt.held then fallen (msCycles 1) (d.since d.prt.heldClk) x else x)
  (f z.1, f z.2, bitAt (d.prt.txCs.getD (d.prt.txPos / 8) 0) (d.prt.txPos % 8))

/-- The frequency of `AMCLK` in Hz; 0 while it is held low (R436). -/
def Dev.amclkHz (d : Dev) : Nat :=
  if d.fbit R.PRT_AMCLK_EN && d.audClocked then d.audClock / 2 ^ min 2 (d.fget R.PRT_AMCLK_DIV) else 0

/-! ### Stops and starts with the AUD clock and PD6 -/

/-- Every port and the receiver begin their stop (R425, R563). -/
def Dev.prtHold (d : Dev) : Dev := if d.prt.held then d else d.updPrt (fun p => { p with held := true, heldClk := d.time.clk })

/-- Every output of the ports has ramped to zero: 1 ms after the stop began. -/
def Dev.prtStopped (d : Dev) : Bool := d.prt.held && decide (msCycles 1 ≤ d.since d.prt.heldClk)

/-- After an APL re-lock each enabled port passes through START (R425); a slave without clock keeps waiting. -/
def Dev.prtResume (d : Dev) : Dev :=
  let d := d.updPrt (fun p => { p with held := false, txLine := [] })
  let d := d.each (List.range 3) (fun d n =>
    match d.portState n with
    | 0 => d.portUp n
    | 2 => d.portStart n
    | 3 => d.portStart n
    | _ => d)
  (if d.prt.spd = 3 then d.updPrt (fun p => { p with spd := 2 }) else d).prtCheck

/-- PD6 has left ON: every port is OFF, and the receiver has no lock (R565). -/
def Dev.prtDown (d : Dev) : Dev :=
  let d := d.each (List.range 3) (fun d n => (d.portQuiet n 0).portUnmeasured n)
  let d := d.updPrt (fun p => { p with txLine := [], txPos := 0, txCs := [] })
  if d.fbit R.SPD_RX_STAT_LOCK then d.spdDown else d

end Sys2Proof.Machine
end

