-- ==== Sys2Proof/Machine/Fab.lean ====
section
/-!
DEFINITION. A frame of the mixing fabric: the rate adapter, the ADC and DAC paths, the mixes with their equalisers and limiters, and what the sinks are
given (spec/01_architecture.md, R16 to R18, R36, R37; spec/11_audio_codec_jack.md, R358 to R363, R372, R383; spec/12_audio_mixing.md,
R384 to R406).
-/
namespace Sys2Proof.Machine

/-- Frames of the fabric in `us` microseconds. -/
def Dev.fabFrames (d : Dev) (us : Nat) : Nat := divNear (d.fabricRate * us) 1000000

/-! ### Sources -/

/-- Programme channel `ch` at the fabric rate in this frame (R16): the stream of 48 kHz at the moment half a millisecond ago, whatever the ratio of the
two rates; beyond its end the last sample falls to zero, as in a missing block (R20, R40). -/
def Dev.adapted (d : Dev) (ch : Nat) : Int :=
  let side (z : Int × Int) : Int := if ch % 2 = 0 then z.1 else z.2
  match (d.prgOf (ch / 2)).out with
  | [] => 0
  | (t, pcm) :: older =>
    let back : Int := (d.time.clk : Int) - t - 24 * 6144
    let pos := back / 6144
    let past := older.flatMap (fun b => b.2.reverse)
    let last := side (lastSample pcm)
    let at_ (k : Int) : Int :=
      if k < 0 then side (past.getD (-k - 1).toNat (0, 0)) else if k < 48 then side (pcm.getD k.toNat (0, 0)) else line 48 (k - 48).toNat last 0
    let x := (intRange (pos - 23) (pos + 24)).map at_
    if x.all (· == 0) then 0 else (Config.filter 20 (back % 6144).toNat [] x).1.getD 0 0

/-- The inputs of an ADC pair (`COD_ADC_SRC`): indices into the samples at the balls. -/
def adcInputs (pair sel : Nat) : Nat × Nat :=
  if sel = 1 then (4, 5) else if (pair = 0) == (sel = 0) then (0, 1) else (2, 3)

/-- The input of ADC channel `ch`: 4 and 5 are the microphones. -/
def Dev.adcInput (d : Dev) (ch : Nat) : Nat :=
  let pair := adcInputs (ch / 2) (d.fget (if ch < 2 then R.COD_ADC_SRC_PAIR0 else R.COD_ADC_SRC_PAIR1))
  if ch % 2 = 0 then pair.1 else pair.2

/-- What ADC channel `ch` delivers in this frame (R358, R360, R383): its sample of 0.5 ms ago; silence while disabled or settling, and a press mutes what
`MIC2` feeds. -/
def Dev.adcOut (d : Dev) (ch : Nat) : Int :=
  let v := (d.fab.adc.getD (d.fabFrames 500) []).getD ch 0
  if !smGet (fun _ => false) d.cod.adcOn ch then 0 else if d.adcInput ch = 5 then fallen (d.fabFrames 5000) d.fab.mute v else v

/-- The sample that a source code of a term gives in this frame (R386): SRC + 1,024 × TYPE of a tone generator. -/
def Dev.poolSample (d : Dev) (code : Nat) : Int :=
  let s := min (code % 512) 361
  if s < 256 then d.adapted s
  else if s < 260 then d.adcOut (s - 256)
  else if s < 356 then ((smGet (fun _ => ({} : PortSt)) d.ports ((s - 260) / 32)).src).getD ((s - 260) % 32) 0
  else if s = 356 then d.prt.spdSrc.1
  else if s = 357 then d.prt.spdSrc.2
  else d.toneSample (s - 358) (code / 1024 % 4) d.fabricRate

/-! ### Converter inputs -/

/-- The sample of input `k` behind its gain (R359, `COD_LIN_CFG`). -/
def Dev.inputSample (d : Dev) (k : Nat) (x : Int) : Int :=
  let att (f : Fld) : Int := if d.fbit f then scaled (dbAmp (-600)) x else x
  sat24 (match k with
    | 0 => att R.COD_LIN_CFG_ATT1
    | 1 => att R.COD_LIN_CFG_ATT1
    | 2 => att R.COD_LIN_CFG_ATT2
    | 3 => att R.COD_LIN_CFG_ATT2
    | _ => scaled (dbAmp (100 * (smGet (fun _ => 0) d.cod.pga (k - 4) : Nat))) x)

/-- The filter memories of ADC channel `ch`. -/
def adcKey (ch : Nat) : Nat := 2 ^ 23 + ch

/-- The sample of ADC channel `ch` in this frame (R358): its input, less, with HPF = 1, its mean by a first-order section with its corner at 3.7 Hz. -/
def Dev.adcSample (d : Dev) (ch : Nat) (balls : List Int) : Int × Dev :=
  let k := d.adcInput ch
  let x := d.inputSample k (balls.getD k 0)
  if d.fbit R.COD_ADC_SRC_HPF then
    let r := onePole (if d.fbit R.CLK_APL_CFG_FAM then 2263541 else 2079673) ((smGet (fun _ => []) d.filt (adcKey ch)).getD 0 0) [x]
    (sat24 (x - r.1.getD 0 0), { d with filt := smSet (fun _ => []) d.filt (adcKey ch) [r.2] })
  else (x, d)

/-- The samples of all four ADC channels. -/
def Dev.adcSamples (balls : List Int) : List Nat → Dev → List Int × Dev
  | [], d => ([], d)
  | ch :: l, d =>
    let (x, d) := d.adcSample ch balls
    let (r, d) := Dev.adcSamples balls l d
    (x :: r, d)

/-- The converter inputs of one frame: 0.5 ms pass from the ball to the fabric (R358); zero crossings of the microphones (R359). -/
def Dev.adcFrame (d : Dev) (balls : List Int) : Dev :=
  let d := { d with fab := { d.fab with mute := if d.btnMutes then min (d.fabFrames 5000) (d.fab.mute + 1) else d.fab.mute - 1 } }
  let (x, d) := Dev.adcSamples balls [0, 1, 2, 3] d
  let d := d.each [0, 1] (fun d m =>
    let v := balls.getD (4 + m) 0
    let was := smGet (fun _ => 0) d.fab.mic m
    let cross := decide (v < 0) != decide (was < 0)
    { d with fab := { d.fab with
      mic := smSet (fun _ => 0) d.fab.mic m v, zero := if cross then smSet (fun _ => 0) d.fab.zero m (d.time.clk + 1) else d.fab.zero } })
  { d with fab := { d.fab with adc := (x :: d.fab.adc).take (d.fabFrames 500 + 1) } }

/-! ### Return channels -/

/-- The samples of an input pair in this frame: KIND and ARG as in R281. -/
def Dev.pairSample (d : Dev) (key : Nat) : Int × Int :=
  let arg := key % 4096
  match key / 4096 with
  | 6 => let s := 260 + 32 * min 2 (arg / 256 % 4) + arg % 32; (d.poolSample s, d.poolSample (s + 1))
  | 7 => d.prt.spdSrc
  | _ => (d.poolSample (256 + 2 * (arg % 2)), d.poolSample (257 + 2 * (arg % 2)))

/-- The frame goes into the return channels, and into the envelopes of the references (R17, R18). -/
def Dev.returnFrame (d : Dev) : Dev :=
  let d := d.each d.pairs (fun d k => { d with fab := { d.fab with ret := smSet (fun _ => []) d.fab.ret k (smGet (fun _ => []) d.fab.ret k ++ [d.pairSample k]) } })
  let refs := (d.refs.map (fun p => (d.fget R.PGT_REF_KIND p + 5) * 4096 + d.fget R.PGT_REF_ARG p)).eraseDups
  d.each refs (fun d k =>
    let e := smGet (fun _ => (0, 0)) d.fab.env k
    let z := d.pairSample k
    { d with fab := { d.fab with env := smSet (fun _ => (0, 0)) d.fab.env k (e.1 + (z.1 + z.2).natAbs, e.2 + 1) } })

/-! ### Mixes -/

/-- A term of a mix in this frame, in 2^−16: its source with polarity and gain (R384, R390). -/
def Dev.termSample (d : Dev) (n i : Nat) : Int :=
  let t := d.termOf n i
  if t.off d.time.clk then 0
  else
    let x := divNearInt (d.poolSample t.src * dbAmp (divNearInt (t.ramp.level d.time.clk) 10)) (2 ^ 24)
    if bitAt t.src 9 then -x else x

/-- SYS cycles from now to `k` frames of the fabric later. -/
def Dev.framesOn (d : Dev) (k : Nat) : Nat := k * Config.sysPerSecond / d.fabricRate

/-- A sample, in 2^−16, that leaves mix `n` in `k` frames, behind the output ramp (R384, R394); a mix that feeds no sink has no ramp. -/
def Dev.mixRamped (d : Dev) (n k : Nat) (y : Int) : Int :=
  let m := d.mixOf n
  let gain : Nat := if m.sink.isSome then dbAmp (divNearInt (m.ramp.level (d.time.clk + d.framesOn k)) 10) else 2 ^ 40
  divNearInt (y * gain) (2 ^ 56)

/-- A mix up to its limiter (R384, R385, R402): terms, sum, equaliser, the 1.0 ms to the output, and there the output ramp; the limiter looks ahead over the
samples on their way. -/
def Dev.mixIn (d : Dev) (n : Nat) : Dev :=
  let sum := ((List.range 8).map (d.termSample n)).foldl (· + ·) 0
  let (y, eq) := d.eqRun n sum
  let m := d.mixOf n
  let keep := d.fabFrames 1000
  let line := (y :: m.line).take (keep + 1)
  let own := match d.limPair n with
    | some p =>
      let rel := d.fget (if p = 0 then R.MIX_LIM_HP_REL else R.MIX_LIM_SPK_REL)
      let recover := 20000000 * 100 / (max 1 rel * d.fabricRate)
      let soon := ((line ++ List.replicate keep 0).take keep).zipIdx.map (fun (x : Int × Nat) => d.mixRamped n (keep - x.2) x.1)
      limStep (d.limThr p) (d.fabFrames 750) recover m.own soon (d.mixRamped n 0 (line.getD keep 0))
    | none => 0
  d.updMix n (fun m => { m with eq := eq, line := line, own := own })

/-- A mix from its limiter on (R385, R402, R403): the sample that leaves it now. -/
def Dev.mixOut (d : Dev) (n : Nat) : Dev :=
  let x := d.mixRamped n 0 ((d.mixOf n).line.getD (d.fabFrames 1000) 0)
  let red := d.limRed n
  let y := match d.limPair n with
    | some p => clampInt (-(d.limThr p : Int)) (d.limThr p) (scaled (dbAmp (-((red + 9999) / 10000 : Nat))) x)
    | none => x
  (d.mixFrame n y red).mixRamping n

/-- What a sink channel is given in this frame (R388, R389): the mix that feeds it, with one that ramps out; nothing else reaches it. -/
def Dev.sinkSample (d : Dev) (k : Nat) : Int :=
  let x := ((d.mix.filter (fun e => e.2.sink == some k)).map (fun e => e.2.y)).foldl (· + ·) 0
  let y := clampInt (-(fullScale : Int)) fullScale x
  if d.fab.rise = 0 then y else line 48 (48 - d.fab.rise) 0 y

/-! ### Converter outputs -/

/-- The gain in 2^−40 that the sequence of DAC channel `ch` lets through (R365 to R368): ramps are linear in dB from −100 dB. -/
def Dev.dacGain (d : Dev) (ch : Nat) : Nat :=
  let of (f : Nat) : Nat := dbAmp (-(10 * (1000 - (f : Int))))
  if ch < 4 then
    let k := ch / 2
    let st := d.fget (outField k)
    if st = 3 ∨ st = 4 ∨ st = 5 ∨ (st = 6 ∧ d.since (d.outSeq k).clk < (d.outSeq k).dur) then of (d.outFrac k) else 0
  else if 2 ≤ d.cod.spk.phase ∧ d.cod.spk.phase ≤ 4 then of d.spkFrac else 0

/-- The headphone sample exceeds 40 % of the ±0.9 V rail (R362): full scale is 0.98 Vrms, or 0.49 Vrms. -/
def Dev.railAsks (d : Dev) (x : Int) : Bool :=
  decide (1296 * 2 ^ 46 < x.natAbs ^ 2 * 2 * (if d.fbit R.COD_HP_CFG_RANGE then 2401 else 9604))

/-- One frame of a DAC channel (R362, R363, R366 to R368): 1.1 ms to the headphone ball, 0.6 ms to the others; the speaker clips with `PVDD`. -/
def Dev.dacFrame (d : Dev) (ch : Nat) : Dev :=
  let keep := d.fabFrames (if ch < 2 then 1100 else 600)
  let l := (d.sinkSample (0x1000 + ch) :: smGet (fun _ => []) d.fab.dac ch).take (keep + 1)
  let x := scaled (d.dacGain ch) (l.getD keep 0)
  let x := if ch < 4 then x else clampInt (-(d.spkLimit : Int)) d.spkLimit x
  { d with fab := { d.fab with dac := smSet (fun _ => []) d.fab.dac ch l, ball := smSet (fun _ => 0) d.fab.ball ch x } }

/-- The rail of the headphone amplifier in this frame (R362): the signal that the amplifier will give 0.5 ms later. -/
def Dev.railFrame (d : Dev) : Dev :=
  let later := { d with time := { d.time with clk := d.time.clk + Config.sysPerMs / 2 } }
  let ahead (ch : Nat) : Int := scaled (later.dacGain ch) ((smGet (fun _ => []) d.fab.dac ch).getD (d.fabFrames 1100 - d.fabFrames 500) 0)
  if d.railAsks (ahead 0) || d.railAsks (ahead 1) then
    (d.fputB R.COD_STAT_RAIL_HI 0 true).updCod (fun c => { c with railClk := later.time.clk })
  else d

/-- The sample at the ball of DAC channel `ch` now (R37): while SYS stands still it falls to zero over 48 frames. -/
def Dev.dacNow (d : Dev) (ch : Nat) : Int :=
  let x := smGet (fun _ => 0) d.fab.ball ch
  if d.splStopped then fallen 48 (d.stoppedFrames + 1) x else x

/-! ### The frame -/

/-- FABRIC_FRAME (R384, R358 to R363, R372, R397 to R408): sources are taken, every mix computes its output, and the sinks are given theirs, while the AUD
clock runs in PD6 and SYS runs (R37). `inp`: what the pins present. -/
def execFabricFrame (inp : FabricIn) (s : State) : Host.Outcome State Fault Refusal :=
  nextDev s (fun d =>
    if !d.audClocked || d.splStopped then d
    else
      let d := d.each [0, 1, 2] (fun d n => d.portTake n)
      let d := (((d.spdTake inp.spd).adcFrame inp.line).toneAdvance d.fabricRate).returnFrame
      let run := (List.range 128).filter (fun n => d.fbit R.MXT_CTL_EN n || (d.mixOf n).sink.isSome)
      let d := d.each run (fun d n => d.mixIn n)
      let d := d.each run (fun d n => d.mixOut n)
      let d := d.each ((List.range 128).filter (fun n => !run.contains n && !(d.mixOf n).mags.isEmpty)) (fun d n => d.meterFrame n 0)
      let d := (d.each (List.range 6) (fun d ch => d.dacFrame ch)).railFrame
      let d := d.each [0, 1, 2] (fun d n => d.portGive n ((List.range (d.slotCount n)).map (fun s => d.sinkSample (0x2000 + 256 * n + s))))
      let d := d.spdGive (d.sinkSample 0x3000, d.sinkSample 0x3001)
      let d := d.each [0, 1] (fun d ch => d.servoFrame ch (peakBelow (d.sinkSample (0x1000 + ch)).natAbs (d.fget R.COD_SERVO_SIL_TH)))
      { d.progress 19 with fab := { d.fab with frames := d.fab.frames + 1, rise := d.fab.rise - 1 } })

/-- SYS stops (R36, R37): what arrives from the ports is discarded from here on. -/
def Dev.fabStops (d : Dev) : Dev :=
  let d := { d with fab := { d.fab with stop := d.time.clk, ret := [], env := [] } }
  let d := d.updPrt (fun p => { p with spdHist := [], spdQueue := [], spdLine := [], spdGap := true })
  d.each [0, 1, 2] (fun d n => d.updPort n (fun p => { p with rxQueue := [], rxHist := [], gap := true }))

/-- SYS starts again (R37): outputs rise over 48 frames, and the queues of running ports fill up; `SPD_TX` has gone on counting its frames. -/
def Dev.fabStarts (d : Dev) : Dev :=
  let gone := d.stoppedFrames
  let d := { d with fab := { d.fab with rise := 48 } }
  let d := d.updPrt (fun p => if p.txCs.isEmpty then p else { p with
    txPos := (p.txPos + gone) % 192, txCs := if p.txPos + gone < 192 then p.txCs else d.txStatus, txLine := [] })
  d.each [0, 1, 2] (fun d n => d.updPort n (fun p => { p with txFill := 0, txPrime := true, rxPrime := true }))

end Sys2Proof.Machine
end

