-- ==== Sys2Proof/Machine/Slk.lean ====
section
/-!
DEFINITION. Coexistence and the site link: LSY, reception, transmission, the duty-cycle ledger and Skink (spec/15_site_link.md, R463 to
R498; spec/01_architecture.md, R49 to R51).
-/
namespace Sys2Proof.Machine

/-- Change the state of the site link. -/
def Dev.updSlk (d : Dev) (f : SlkSt → SlkSt) : Dev := { d with slk := f d.slk }

/-- Microseconds in SYS cycles. -/
def usCycles (us : Nat) : Nat := us * Config.sysPerMs / 1000

/-! ### Blanking -/

/-- A blanking window opens (R49): everything measured across its start is marked. -/
def Dev.blankOpen (d : Dev) : Dev :=
  if d.cx.blank then d
  else
    let d := { d.dabBlank with
      cx := { d.cx with blank := true, since := d.time.clk }, blockBlank := true, scoreBlank := true }
    d.each [0, 1] (fun d x => d.afeBlank x)

/-- Twice the alias of a carrier in kHz (R51): f_tx − 737.28 MHz; a carrier below 902 MHz flags no block. -/
def aliasTwice (freq : Nat) : Option Int := if 3120 ≤ freq then some (2 * (863000 - 737280) + 25 * (freq : Int)) else none

/-- The transmitter becomes active on `freq`, or (none) inactive (R49, R51): the alias flags its blocks to the end of the blanking window. -/
def Dev.cxActive (d : Dev) (freq : Option Nat) : Dev :=
  match freq with
  | some f => { d.blankOpen with cx := { d.blankOpen.cx with tx := true, image := aliasTwice f } }.cxFlags
  | none => { d with cx := { d.cx with tx := false, rel := d.time.clk } }

/-- CX_ACT_CHANGE (R49). -/
def execCxActChange (level : Bool) (s : State) : Host.Outcome State Fault Refusal :=
  nextDev s (fun d =>
    let was := d.fbit R.CX_STAT_ACT
    let d := d.fputB R.CX_STAT_ACT 0 level
    if level && !was then (d.event R.CX_EVT_ACT_RISE).blankOpen
    else if !level && was then { d with cx := { d.cx with rel := d.time.clk } }
    else d)

/-- BLANKING_END (R49): 200 µs after the ramp-down, or the release of `CX_ACT`. -/
def execBlankingEnd (s : State) : Host.Outcome State Fault Refusal :=
  nextDev s (fun d =>
    if d.cx.blank && !d.cx.tx && !d.fbit R.CX_STAT_ACT && decide (usCycles 200 ≤ d.since d.cx.rel) then
      (({ d with cx := { d.cx with blank := false, image := none, endClk := d.time.clk + 1, spans := d.cx.spans ++ [(d.cx.since, d.time.clk)] } }.afeUnblank 0).afeUnblank 1).cxFlags
    else d)

/-! ### Packets -/

/-- The bit rates of R464 as SYS cycles per bit. -/
def bitCycles (mode : Nat) : Nat := [61440, 30720, 15360, 15360, 7680].getD mode 7680

/-- The bits of a packet with `len` payload bytes (R468). -/
def packetBits (pre len : Nat) (r23 : Bool) : Nat :=
  let k := if r23 then 384 else 288
  let p := if r23 then 192 else 288
  8 * pre + 56 + 8 * (len + 2) + p * ((8 * (len + 2) + k - 1) / k)

/-- The extended Golay codeword of 12 information bits, information first, parity bit last (R466). -/
def golay (info : Nat) : Nat :=
  let rem := (List.range 12).foldl (fun r i => if bitAt r (22 - i) then r ^^^ (0xC75 * 2 ^ (11 - i)) else r) (info * 2048)
  let c := info * 2048 + rem
  c * 2 + (List.range 23).foldl (fun n i => n + c / 2 ^ i) 0 % 2

/-- Number of ones among the low `n` bits. -/
def weightOf (n v : Nat) : Nat := (List.range n).foldl (fun k i => k + v / 2 ^ i % 2) 0

/-- The information bits of a received header with at most 3 bit errors (R466). -/
def golayDecode (w : Nat) : Option Nat := (List.range 4096).find? (fun i => decide (weightOf 24 (golay i ^^^ w) ≤ 3))

/-- The low `n` bits of a number, most significant first. -/
def bitsMsb (n v : Nat) : List Bool := ((List.range n).map (fun i => bitAt v i)).reverse

/-- `n` bits of the whitening sequence x^9 + x^5 + 1 from a state of its register (R467; the end at which it puts out is log entry 58). -/
def pn9 : Nat → Nat → List Bool
  | 0, _ => []
  | n + 1, s => bitAt s 0 :: pn9 n (s / 2 + 256 * ((s + s / 32) % 2))

/-- Whitening of bytes, and its own inverse (R467). -/
def whiten (bs : List Nat) : List Bool := ((bs.flatMap (bitsMsb 8)).zip (pn9 (8 * bs.length) 0x1FF)).map (fun (a, b) => a != b)

/-- Eight bits at a time as bytes, most significant first. -/
def bytesOf : Nat → List Bool → List Nat
  | 0, _ => []
  | n + 1, l => (l.take 8).foldl (fun v b => 2 * v + b2n b) 0 :: bytesOf n (l.drop 8)

/-- The coded payload from its whitened bits (R468): information blocks of `k` bits, the last filled with zeros that are not sent, each followed by
its `p` parity bits. -/
def encodeBlocks (r23 : Bool) : Nat → List Bool → List Bool
  | 0, _ => []
  | n + 1, l =>
    if l.isEmpty then []
    else
      let k := if r23 then 384 else 288
      let info := l.take k
      let full := info ++ List.replicate (k - info.length) false
      info ++ (List.range (if r23 then 192 else 288)).map (Config.parity r23 full) ++ encodeBlocks r23 n (l.drop k)

/-- The preamble pattern of R465: 1 and 0 in 2-GFSK, the symbols +3 and −3 in 4-GFSK. -/
def preamble (mode n : Nat) : List Bool :=
  (List.range n).map (fun i => if 3 ≤ mode then i % 4 != 0 else i % 2 == 0)

/-- The bits of a packet (R465 to R468). -/
def Dev.airBits (d : Dev) (mode : Nat) (r23 : Bool) (payload : List Nat) : List Bool :=
  let crc := crc16 payload
  preamble mode (8 * d.fget R.SLK_PHY_PRE) ++ bitsMsb 16 (d.fget R.SLK_SYNC_HI_SYNC) ++ bitsMsb 16 (d.fget R.SLK_SYNC_LO_SYNC) ++
    bitsMsb 24 (golay (payload.length * 16 + b2n r23 * 8)) ++
    encodeBlocks r23 (payload.length + 2) (whiten (payload ++ [crc / 256, crc % 256]))

/-- The deviations in Hz of a packet's symbols (R464). -/
def symbols (mode : Nat) : List Bool → List Int
  | [] => []
  | a :: t =>
    if mode < 3 then
      let dev : Int := [2400, 4800, 9600].getD mode 9600
      (if a then dev else -dev) :: symbols mode t
    else
      match t with
      | [] => []
      | b :: t =>
        let inner : Int := if mode = 3 then 2400 else 4800
        (match a, b with
          | false, true => 3 * inner
          | false, false => inner
          | true, false => -inner
          | true, true => -(3 * inner)) :: symbols mode t

/-! ### LSY and the channel in use -/

/-- The receiver or transmitter may work: ROLE is not off and PD7 is ON. -/
def Dev.slkOn (d : Dev) : Bool := d.fget R.SLK_CFG_ROLE != 0 && d.domOn 7

/-- LSY hops to entry `h` (R470): it loads the stored band and fine setting, or calibrates the entry. -/
def Dev.slkHop (d : Dev) (h : Nat) : Dev :=
  let cal := !d.fbit R.SLK_HOP_CAL_VALID h
  let band := if cal then d.slk.band else d.fget R.SLK_HOP_CAL_BAND h
  let fcap := if cal then d.slk.fcap else d.fget R.SLK_HOP_CAL_FCAP h
  ((((d.fput R.SLK_STAT_HOP 0 h).fputB R.SLK_STAT_LOCKED 0 false).fput R.SLK_STAT_STATE 0 (if cal then 7 else 1)).updSlk
    (fun k => { k with calib := cal, pre := 0, band := band, fcap := fcap, hopClk := d.time.clk, freq := d.fget R.SLK_HOP_FREQ_FREQ h })).progress 21

/-- LSY is tuned, or hops, to the present carrier of entry `h`: an epoch may have moved it since (R83). -/
def Dev.slkTuned (d : Dev) (h : Nat) : Bool := d.fget R.SLK_STAT_HOP == h && d.slk.freq == d.fget R.SLK_HOP_FREQ_FREQ h

/-- The state to which the radio returns when nothing is sent (R474, R496). -/
def Dev.slkIdle (d : Dev) : Dev :=
  if !d.slkOn then d.fput R.SLK_STAT_STATE 0 0
  else if d.slk.tx.isSome then d
  else if d.slk.rx.isSome then d.fput R.SLK_STAT_STATE 0 3
  else if (d.slk.cur.map (·.phase)) = some 1 then d.fput R.SLK_STAT_STATE 0 6
  else if d.slk.ack.isSome then d.fput R.SLK_STAT_STATE 0 2
  else if !d.slkTuned (d.fget R.SLK_LISTEN_HOP) then d.slkHop (d.fget R.SLK_LISTEN_HOP)
  else if d.fbit R.SLK_STAT_LOCKED then d.fput R.SLK_STAT_STATE 0 2
  else if d.fget R.SLK_STAT_STATE = 1 || d.fget R.SLK_STAT_STATE == 7 then d
  else d.slkHop (d.fget R.SLK_LISTEN_HOP)

/-- `SLK_LNA_EN` (R482): high while the receiver listens and XLNA = 1, low within a transmit sequence. -/
def Dev.lnaPin (d : Dev) : Bool :=
  let st := d.fget R.SLK_STAT_STATE
  d.fbit R.SLK_CFG_XLNA && !d.slk.tr && (st == 2 || st == 3 || st == 4 || st == 6)

/-- Every stored calibration is cleared, and the present temperature becomes the reference (R471). -/
def Dev.recal (d : Dev) : Dev :=
  let d := d.each (List.range 64) (fun d h => d.fputB R.SLK_HOP_CAL_VALID h false)
  if d.fget R.TMP_MAX_TEMP = 0x8000 then d else d.fput R.SLK_CALT_VALUE 0 (d.fget R.TMP_MAX_TEMP)

/-- RECAL (R471). -/
def execRecal (s : State) : Host.Outcome State Fault Refusal := nextDev s (fun d => onlyIf (d.domOn 7) Dev.recal d)

/-- TEMPERATURE_RECAL (R471): the hottest sensor has moved by more than 25 °C. -/
def Dev.slkTemp (d : Dev) : Dev :=
  if d.domOn 7 && d.fget R.TMP_MAX_TEMP != 0x8000 && decide (250 < (d.fgetI R.TMP_MAX_TEMP - d.fgetI R.SLK_CALT_VALUE).natAbs) then d.recal else d

/-! ### Reports and log records -/

/-- A report joins the queue of 16 (R498). -/
def Dev.slkReport (d : Dev) (bs : List Nat) : Dev :=
  if 16 ≤ d.slk.reports.length then
    ((d.bump R.SLK_RXQ_OVF_COUNT).event R.SLK_EVT_RXQ_OVF).updSlk (fun k => { k with reports := k.reports.drop 1 ++ [bs] })
  else d.updSlk (fun k => { k with reports := k.reports ++ [bs] })

/-- A level in 0.1 dBm as the byte of whole dBm (R498). -/
def dbmByte (l : Int) : Nat := unsgn 8 (clampInt (-128) 127 (divNearInt l 10))

/-- A level in 0.1 dBm as two bytes. -/
def levelBytes (l : Int) : List Nat := beWord (unsgn 16 (clampInt (-32768) 32767 l))

/-- What a log record holds beside its kind. -/
structure SlkLog where
  hop : Nat
  mode : Nat
  r23 : Bool := false
  outcome : Nat := 0
  level : Option Int := none
  len : Nat := 0
  iterations : Nat := 0
  retries : Nat := 0
  pwr : Nat := 0
  header : List Nat := []
  air : Nat := 0
  time : Nat
deriving DecidableEq, Repr

/-- A log record on class 6 stream 0x001. -/
def Dev.slkLog (d : Dev) (kind : Nat) (l : SlkLog) : Dev :=
  if d.fbit R.FSP_SRC_SLK_LOG then
    d.formPacket ⟨d.time.clk, 6, 1, l.time, false, 0, .bytes (
      [kind, l.hop, l.mode * 32 + b2n l.r23 * 16, l.outcome] ++ (match l.level with | some v => levelBytes v | none => [0, 0]) ++
      levelBytes (smGet (fun _ => (-32768 : Int)) d.slk.noise l.hop) ++ [l.len, l.iterations, l.retries, l.pwr] ++
      ((l.header.take 6) ++ List.replicate (6 - l.header.length) 0) ++ be32 l.air ++ List.replicate 42 0)⟩
  else d

/-! ### Transmit requests -/

/-- The queue and its length in SLK_STAT. -/
def Dev.slkQueue (d : Dev) (q : List SlkReq) : Dev := (d.updSlk (fun k => { k with queue := q })).fput R.SLK_STAT_TXQ 0 q.length

/-- The power index of a request: 0 stands for the entry's default (R497). -/
def Dev.powerIdx (d : Dev) (hop pwr : Nat) : Nat := if pwr = 0 then d.fget R.SLK_HOP_CFG_PWR hop else pwr

/-- The payload of a data frame (R490). -/
def Dev.dataFrame (d : Dev) (q : SlkReq) : List Nat :=
  [b2n q.ack * 32, q.seq] ++ beWord q.dst ++ beWord (d.fget R.SLK_ADDR_ADDR) ++ q.data

/-- A request ends with an outcome (R498): its report, its events and its log record. -/
def Dev.slkOutcome (d : Dev) (q : SlkReq) (outcome retries : Nat) (level : Int) (air time : Nat) : Dev :=
  let d := d.slkReport ([2, q.seq, outcome, retries] ++ beWord q.dst ++ [dbmByte level])
  let d := d.event R.SLK_EVT_TX_DONE
  let d := if outcome = 0 then d else d.event R.SLK_EVT_TX_FAIL
  let frame := d.dataFrame q
  d.slkLog 4 {
    hop := q.hop, mode := d.fget R.SLK_HOP_CFG_MODE q.hop, r23 := d.fbit R.SLK_HOP_CFG_R23 q.hop, outcome := outcome, len := frame.length,
    retries := retries, pwr := d.powerIdx q.hop q.pwr, header := frame, air := air, time := time }

/-- The request in service ends. -/
def Dev.slkEnd (d : Dev) (outcome : Nat) (level : Int) : Dev :=
  match d.slk.cur with
  | none => d
  | some c =>
    (d.updSlk (fun k => { k with cur := none })).slkOutcome c.req outcome c.retries level c.air (if c.air = 0 || d.slk.tx.isSome then d.time.stamp else c.time)

/-- SITE_LINK_SEND (R497). -/
def execSiteLinkSend (s : State) : Host.Outcome State Fault Refusal :=
  nextDev s (fun d =>
    match d.mbxWork 0x60 with
    | none => d
    | some r =>
      let o := r.offset
      if d.fget R.SLK_CFG_ROLE = 0 then d.mbxDone 6 []
      else if 240 < r.data.length || bitAt o 13 || bitAt o 7 || bitAt o 6 then d.mbxDone 2 []
      else if 8 ≤ d.slk.queue.length then d.mbxDone 1 []
      else
        let seq := d.slk.nextSeq
        let q : SlkReq := ⟨seq, o / 65536, bitAt o 15, bitAt o 14, o / 256 % 32, o % 64, r.data⟩
        ((d.updSlk (fun k => { k with nextSeq := (seq + 1) % 256 })).slkQueue (d.slk.queue ++ [q])).mbxDone 0 [seq])

/-- NEXT_REPORT (R498). -/
def execNextReport (s : State) : Host.Outcome State Fault Refusal :=
  nextDev s (fun d =>
    match d.mbxWork 0x61 with
    | none => d
    | some r =>
      if d.fget R.SLK_CFG_ROLE = 0 then d.mbxDone 6 []
      else if r.offset ≠ 0 then d.mbxDone 2 []
      else
        match d.slk.reports with
        | [] => d.mbxDone 0 [0]
        | p :: t => (d.updSlk (fun k => { k with reports := t })).mbxDone 0 p)

/-- An entry of the gateway table as 14 bytes (R498). -/
def gwBytes (e : Option GwEnt) : List Nat :=
  match e with
  | none => List.replicate 14 0
  | some e => beWord e.addr ++ levelBytes e.level ++ [e.seq, 1] ++ be64 e.time

/-- GATEWAY_TABLE_READ (R495). -/
def execGatewayTableRead (s : State) : Host.Outcome State Fault Refusal :=
  nextDev s (fun d =>
    match d.mbxWork 0x62 with
    | none => d
    | some r =>
      if d.fget R.SLK_CFG_ROLE = 0 then d.mbxDone 6 []
      else if 1024 ≤ r.offset then d.mbxDone 2 []
      else
        let n := min 16 (1024 - r.offset)
        d.mbxDone 0 (n :: beWord (d.fget R.SLK_GW_NODES_VALUE) ++ (List.range n).flatMap (fun i => gwBytes (smGet (fun _ => none) d.slk.gw (r.offset + i)))))

/-! ### The ledger -/

/-- The ledger entries of a channel (R486). -/
def Dev.ledgerOf (d : Dev) (hop : Nat) : List Nat :=
  let f := d.fget R.SLK_HOP_FREQ_FREQ hop
  (List.range 8).filter (fun j => d.fget R.SLK_LDG_LIM_VALUE j != 0 && decide (d.fget R.SLK_LDG_LO_VALUE j ≤ f) && decide (f ≤ d.fget R.SLK_LDG_HI_VALUE j))

/-- Used airtime of entry `j` in ms (R487). -/
def Dev.ledgerUsed (d : Dev) (j : Nat) : Nat := (smGetList (fun _ => 0) d.slk.bins (60 * j) 60).foldl (· + ·) 0

/-- `SLK_LDG_USED` of every entry. -/
def Dev.ledgerShow (d : Dev) : Dev := d.each (List.range 8) (fun d j => d.fput R.SLK_LDG_USED_USED j (min 65535 ((d.ledgerUsed j + 99) / 100)))

/-- Charge `ms` to the present bin of the entries. -/
def Dev.ledgerCharge (d : Dev) (js : List Nat) (ms : Nat) : Dev :=
  (d.each js (fun d j => d.updSlk (fun k => { k with bins := smSet (fun _ => 0) k.bins (60 * j) (smGet (fun _ => 0) k.bins (60 * j) + ms) }))).ledgerShow

/-- The bins move at every 60 s of the SPL timebase (R487, R488), by as many as have passed. -/
def Dev.ledgerMove (d : Dev) : Dev :=
  let n := d.since d.slk.binClk / (60 * Config.sysPerSecond)
  if n = 0 then d
  else
    (d.updSlk (fun k => { k with
      binClk := k.binClk + n * (60 * Config.sysPerSecond)
      bins := (k.bins.filter (fun e => decide (e.1 % 60 + n < 60))).map (fun e => (e.1 + n, e.2)) })).ledgerShow

/-- LEDGER_BIN (R488): every 60 s the bins move. -/
def execLedgerBin (s : State) : Host.Outcome State Fault Refusal := nextDev s Dev.ledgerMove

/-! ### Transmission -/

/-- `CX_REQ` and `CX_PRI` fall. -/
def Dev.cxDrop (d : Dev) : Dev := (d.fputB R.CX_STAT_REQ 0 false).fputB R.CX_STAT_PRI 0 false

/-- The transmission sequence is over: pins low, and the radio goes on. -/
def Dev.txDone (d : Dev) : Dev :=
  ((d.updSlk (fun k => { k with tx := none, paEn := false, tr := false, noiseClk := d.time.clk })).cxDrop.progress 21).slkIdle

/-- A random number below `n`: a free value (log entry 13). -/
def Dev.random (d : Dev) (n : Nat) : Nat := Config.free d.freeIdx % max n 1

/-- Back-off `k` of the request in service (R494): a random whole number of SLOT ms from 0 to 2^min(k, BE_MAX) − 1. -/
def Dev.slkBackoff (d : Dev) (k : Nat) : Dev :=
  let wait := d.fget R.SLK_RETRY_SLOT * d.random (2 ^ min k (d.fget R.SLK_RETRY_BE_MAX))
  { d with
    freeIdx := d.freeIdx + 1
    slk := { d.slk with cur := d.slk.cur.map (fun c => { c with phase := 2, clk := d.time.clk, wait := wait }) } }

/-- The transmission ends without going on air; an acknowledgement is given up, a request ends with the outcome. -/
def Dev.txFail (d : Dev) (t : SlkTx) (outcome : Nat) : Dev :=
  let d := (d.updSlk (fun k => { k with tx := none, paEn := false, tr := false, noiseClk := d.time.clk })).progress 21
  (if t.isAck then d else d.slkEnd outcome 0).cxDrop.slkIdle

/-- The request backs off for the `k`-th time and is tried again (R480, R484, R494). -/
def Dev.txRetry (d : Dev) (k : Nat) : Dev := ((d.updSlk (fun k => { k with tx := none, noiseClk := d.time.clk })).progress 21 |>.slkBackoff k).cxDrop.slkIdle

/-- Airtime of a transmission in µs, rounded, and in whole ms, rounded up (R483). -/
def Dev.airtime (d : Dev) (t : SlkTx) : Nat × Nat :=
  let rate := Config.sysPerSecond / bitCycles t.mode
  let num := packetBits (d.fget R.SLK_PHY_PRE) t.frame.length t.r23 * 1000000 + 8 * d.fget R.SLK_RAMP_VALUE * rate
  (divNear num rate, (num + 1000 * rate - 1) / (1000 * rate))

/-- Ramp-up begins (R481, R483): the transmitter is active, and the packet's symbols follow. -/
def Dev.txRamp (d : Dev) (t : SlkTx) : Dev :=
  let ramp := usCycles (4 * d.fget R.SLK_RAMP_VALUE)
  let dur := packetBits (d.fget R.SLK_PHY_PRE) t.frame.length t.r23 * bitCycles t.mode
  let d := (((d.bump R.SLK_TX_PKT_COUNT).lifeBy 0x90 4 1).fput R.SLK_STAT_STATE 0 5).progress 21
  let on := { t with phase := 5, clk := d.time.clk, stop := d.time.clk + 2 * ramp + dur }
  (d.updSlk (fun k => { k with
    tx := some on, tr := true, onAir := symbols t.mode (d.airBits t.mode t.r23 t.frame)
    power := clampInt (-100) 160 (d.fgetI R.SLK_PWR_LEVEL_LEVEL t.pwr + d.fgetI R.SLK_PWR_CFG_TRIM t.pwr) })).cxActive
      (some (d.fget R.SLK_HOP_FREQ_FREQ t.hop))

/-- The check of the ledger immediately before the ramp-up (R486 to R488): refused, or charged and begun. -/
def Dev.txCheck (d : Dev) (t : SlkTx) : Dev :=
  let d := d.ledgerMove
  let js := d.ledgerOf t.hop
  let air := d.airtime t
  let t := { t with air := air.1 }
  if js.isEmpty then d.txFail t 8
  else if js.any (fun j => decide (d.fget R.SLK_LDG_LIM_VALUE j * 360 < d.ledgerUsed j + air.2)) then
    ((d.bump R.SLK_LDG_REFUSE_COUNT).event R.SLK_EVT_LDG_REFUSE).txFail t 2
  else
    let d := d.ledgerCharge js air.2
    let d := if t.isAck then d else d.updSlk (fun k => { k with cur := k.cur.map (fun c => { c with air := air.1 }) })
    d.txRamp t

/-- The sequence that leads to the ramp-up begins (R482). -/
def Dev.txBegin (d : Dev) (t : SlkTx) : Dev :=
  if d.fbit R.SLK_PWR_CFG_EXT t.pwr then
    (d.fput R.SLK_STAT_STATE 0 5).updSlk (fun k => { k with tr := true, tx := some { t with phase := 4, clk := d.time.clk, step := 0 } })
  else d.txCheck t

/-- After the grant, or without coexistence: listen-before-talk where the entry asks for it (R480), for 5 ms plus a random 0 ms to 5 ms in steps of
0.5 ms. -/
def Dev.txListen (d : Dev) (t : SlkTx) : Dev :=
  if d.fbit R.SLK_HOP_CFG_LBT t.hop && !t.isAck then
    let wait := 10 + d.random 11
    { (d.fput R.SLK_STAT_STATE 0 4).progress 21 with
      freeIdx := d.freeIdx + 1, slk := { d.slk with tx := some { t with phase := 3, clk := d.time.clk, wait := wait } } }
  else d.txBegin t

/-- LSY is locked on the transmit channel: the sequence starts with its coexistence request (R484). While it waits for its grant STATE reads LISTEN
(DESIGN CHOICE, log entry 58). -/
def Dev.txGo (d : Dev) (t : SlkTx) : Dev :=
  if d.fbit R.CX_CFG_EN then
    let d := (d.fputB R.CX_STAT_REQ 0 true).fputB R.CX_STAT_PRI 0 (t.isAck || t.prio)
    if d.fbit R.CX_STAT_GNT then d.txListen t
    else (d.fput R.SLK_STAT_STATE 0 2).updSlk (fun k => { k with tx := some { t with phase := 2, clk := d.time.clk } })
  else d.txListen t

/-- A transmission falls due (R473): it goes on when LSY is locked on its channel, and is held otherwise. -/
def Dev.txStart (d : Dev) (t : SlkTx) : Dev :=
  if d.slkTuned t.hop && d.fbit R.SLK_STAT_LOCKED then d.txGo t
  else (if d.slkTuned t.hop then d else d.slkHop t.hop).updSlk (fun k => { k with tx := some { t with phase := 1, clk := d.time.clk } })

/-- The transmission of the request in service. -/
def Dev.reqTx (d : Dev) (q : SlkReq) : SlkTx :=
  { isAck := false, frame := d.dataFrame q, hop := q.hop, mode := d.fget R.SLK_HOP_CFG_MODE q.hop, r23 := d.fbit R.SLK_HOP_CFG_R23 q.hop,
    pwr := d.powerIdx q.hop q.pwr, prio := q.prio, due := d.time.clk, clk := d.time.clk }

/-- The request in service, or the next in the queue, starts its transmission unless something holds it (R496). -/
def Dev.slkDue (d : Dev) : Dev :=
  if !d.slkOn || !d.slk.runs || d.slk.rx.isSome || d.slk.tx.isSome || d.slk.ack.isSome then d
  else
    match d.slk.cur with
    | some c => if c.phase = 0 then d.txStart (d.reqTx c.req) else d
    | none =>
      match d.slk.queue with
      | [] => d
      | q :: t => ((d.slkQueue t).updSlk (fun k => { k with cur := some { req := q } })).txStart (d.reqTx q)

/-- TRANSMISSION_DUE (R496). -/
def execTransmissionDue (s : State) : Host.Outcome State Fault Refusal := nextDev s Dev.slkDue

/-- ACK_SEND (R492): 2 ms after the last bit, without listening, on the same channel, mode and rate, at the entry's default power. -/
def execAckSend (s : State) : Host.Outcome State Fault Refusal :=
  nextDev s (fun d =>
    match d.slk.ack with
    | none => d
    | some a =>
      if !d.slkOn || d.slk.tx.isSome || d.slk.rx.isSome || decide (d.since a.clk < msCycles 2) then d
      else
        (d.updSlk (fun k => { k with ack := none })).txStart
          { isAck := true, frame := [64, a.seq] ++ beWord a.dst ++ beWord (d.fget R.SLK_ADDR_ADDR), hop := a.hop, mode := a.mode, r23 := a.r23,
            pwr := d.fget R.SLK_HOP_CFG_PWR a.hop, prio := true, due := d.time.clk, clk := d.time.clk })

/-- LSY_LOCK (R470, R472, R473): lock is declared, after 10 µs within ±10° at the earliest; a calibration stores what it found; the SLK domain has its
clock from the first lock on. A transmission that was held starts, and counts as deferred. -/
def execLsyLock (band : Fin 64) (fcap : Fin 512) (s : State) : Host.Outcome State Fault Refusal :=
  nextDev s (fun d =>
    let st := d.fget R.SLK_STAT_STATE
    if d.fbit R.SLK_STAT_LOCKED || (st != 1 && st != 7) || decide (d.since d.slk.hopClk < usCycles 10) then d
    else
      let h := d.fget R.SLK_STAT_HOP
      let d := if d.slk.calib then
          ((((d.fput R.SLK_HOP_CAL_BAND h band).fput R.SLK_HOP_CAL_FCAP h fcap).fputB R.SLK_HOP_CAL_VALID h true).event R.SLK_EVT_CAL).updSlk
            (fun k => { k with calib := false, band := band, fcap := fcap })
        else d
      let d := ((d.fputB R.SLK_STAT_LOCKED 0 true).updSlk (fun k => { k with runs := true, noiseClk := d.time.clk })).progress 21
      match d.slk.tx with
      | some t =>
        if t.phase = 1 && t.hop == h then ((d.bump R.SLK_TX_DEFER_COUNT).event R.SLK_EVT_TX_DEFER).txGo t else d
      | none => (d.fput R.SLK_STAT_STATE 0 2).slkIdle)

/-- LSY_LOCK_TIMEOUT (R473): no lock within LOCK_TMO; one declared in the cycle in which it expires has come in time (R7). -/
def execLsyLockTimeout (s : State) : Host.Outcome State Fault Refusal :=
  nextDev s (fun d =>
    match d.slk.tx with
    | none => d
    | some t =>
      if t.phase = 1 && decide (usCycles (100 * d.fget R.SLK_LOCK_TMO_VALUE) < d.since t.due) then
        let d := ((d.bump R.SLK_LOCK_ABORT_COUNT).event R.SLK_EVT_LOCK_FAIL).updSlk (fun k => { k with tx := none })
        (if t.isAck then d else d.slkEnd 5 0).slkHop (d.fget R.SLK_LISTEN_HOP)
      else d)

/-- CX_GRANT (R484): `CX_GNT` rises. -/
def execCxGrant (s : State) : Host.Outcome State Fault Refusal :=
  nextDev s (fun d =>
    let d := d.fputB R.CX_STAT_GNT 0 true
    match d.slk.tx with
    | some t => if t.phase = 2 then d.txListen t else d
    | none => d)

/-- CX_GRANT_TIMEOUT (R484): no grant within GNT_TMO; one that arrives in the cycle in which it expires counts as given (R7). -/
def execCxGrantTimeout (s : State) : Host.Outcome State Fault Refusal :=
  nextDev s (fun d =>
    match d.slk.tx with
    | none => d
    | some t =>
      if t.phase = 2 && decide (usCycles (100 * d.fget R.CX_CFG_GNT_TMO) < d.since t.clk) then
        let d := (d.bump R.CX_DENIED_COUNT).event R.CX_EVT_DENIED
        if t.isAck then d.txFail t 4
        else
          let n := match d.slk.cur with | some c => c.denied + 1 | none => 1
          let d := d.updSlk (fun k => { k with cur := k.cur.map (fun c => { c with denied := n }) })
          if d.fget R.SLK_RETRY_MAX < n then d.txFail t 4 else d.txRetry n
      else d)

/-- LBT_LISTEN_END (R480): the listen of 5 ms plus its random time ends with the given 5 ms mean at the receiver input. -/
def execLbtListenEnd (mean : Int) (s : State) : Host.Outcome State Fault Refusal :=
  nextDev s (fun d =>
    match d.slk.tx with
    | none => d
    | some t =>
      if t.phase ≠ 3 || decide (d.since t.clk < msCycles t.wait / 2) then d
      else
        let m := mean - d.fgetI R.SLK_RX_GAIN_GAIN
        let d := d.updSlk (fun k => { k with noise := smSet (fun _ => (-32768 : Int)) k.noise t.hop m })
        let free := decide (m < -10 * (d.fget R.SLK_LBT_TH : Int)) && !(d.fbit R.CX_STAT_ACT && d.fbit R.CX_CFG_ACT_BUSY)
        if free then d.txBegin t
        else
          let n := match d.slk.cur with | some c => c.busy + 1 | none => 1
          let d := (d.bump R.SLK_LBT_BUSY_COUNT).updSlk (fun k => { k with cur := k.cur.map (fun c => { c with busy := n }) })
          if d.fget R.SLK_LBT_TRIES ≤ n then d.txFail t 3 else d.txRetry n)

/-- EXT_PA_STEP (R482): the next timed step of the external PA sequence. -/
def execExtPaStep (s : State) : Host.Outcome State Fault Refusal :=
  nextDev s (fun d =>
    match d.slk.tx with
    | none => d
    | some t =>
      let after (us : Nat) : Bool := decide (usCycles us ≤ d.since t.clk)
      let next (d : Dev) : Dev := d.updSlk (fun k => { k with tx := some { t with step := 1, clk := d.time.clk } })
      match t.phase, t.step with
      | 4, 0 => if after (d.fget R.SLK_XPA_ON_D1) then (next d).updSlk (fun k => { k with paEn := true }) else d
      | 4, _ => if after (d.fget R.SLK_XPA_ON_D2) then d.txCheck t else d
      | 6, 0 => if after (d.fget R.SLK_XPA_OFF_D3) then (next d).updSlk (fun k => { k with paEn := false }) else d
      | 6, _ => if after (d.fget R.SLK_XPA_OFF_D4) then d.txDone else d
      | _, _ => d)

/-- The packet of the request in service is off the air: its outcome, or the acknowledgement wait from its last bit (R493). -/
def Dev.txOff (d : Dev) (t : SlkTx) : Dev :=
  match d.slk.cur with
  | none => d
  | some c =>
    if t.isAck then d
    else
      match t.cut with
      | some o =>
        let c := { c with time := d.time.stamp, air := divNear ((t.stop - t.clk) * 1000) Config.sysPerMs }
        (d.updSlk (fun k => { k with cur := some c })).slkEnd o 0
      | none =>
        let c := { c with time := d.time.stamp, clk := t.stop - usCycles (4 * d.fget R.SLK_RAMP_VALUE) }
        if c.req.ack then d.updSlk (fun k => { k with cur := some { c with phase := 1 } })
        else (d.updSlk (fun k => { k with cur := some c })).slkEnd 0 0

/-- TX_END (R483): the ramp-down ends. -/
def execTxEnd (s : State) : Host.Outcome State Fault Refusal :=
  nextDev s (fun d =>
    match d.slk.tx with
    | none => d
    | some t =>
      if t.phase ≠ 5 || decide (d.time.clk < t.stop) then d
      else
        let d := ((d.cxActive none).txOff t).updSlk (fun k => { k with onAir := [] })
        if d.fbit R.SLK_PWR_CFG_EXT t.pwr then d.updSlk (fun k => { k with tx := some { t with phase := 6, clk := d.time.clk, step := 0 } })
        else d.txDone)

/-- The transmission in progress is cut: the ramp-down starts at once; before the ramp-up the sequence just ends (R485). -/
def Dev.txCut (d : Dev) (t : SlkTx) (outcome : Nat) : Dev :=
  if t.phase = 5 then
    d.updSlk (fun k => { k with tx := some { t with stop := d.time.clk + usCycles (4 * d.fget R.SLK_RAMP_VALUE), cut := some outcome } })
  else d.txFail t outcome

/-- CX_GRANT_WITHDRAWN (R485): `CX_GNT` falls. A transmission that still listens or runs its PA sequence ends likewise, without going on air
(DESIGN CHOICE, log entry 58). -/
def execCxGrantWithdrawn (s : State) : Host.Outcome State Fault Refusal :=
  nextDev s (fun d =>
    let d := d.fputB R.CX_STAT_GNT 0 false
    match d.slk.tx with
    | none => d
    | some t =>
      let going := t.phase == 3 || t.phase == 4 || (t.phase == 5 && decide (d.time.clk + usCycles (4 * d.fget R.SLK_RAMP_VALUE) < t.stop))
      if going && d.fbit R.CX_CFG_EN && d.fbit R.CX_CFG_GNT_ABORT then
        ((d.bump R.CX_ABORTS_COUNT).event R.CX_EVT_ABORT).txCut t 6
      else d)

/-- ACK_TIMEOUT (R493): no acknowledgement within TMO of the last bit; one that completes in the cycle in which it expires has come in time (R7). -/
def execAckTimeout (s : State) : Host.Outcome State Fault Refusal :=
  nextDev s (fun d =>
    match d.slk.cur with
    | none => d
    | some c =>
      if c.phase ≠ 1 || decide (d.since c.clk ≤ msCycles (d.fget R.SLK_ACK_TMO)) then d
      else if c.retries < d.fget R.SLK_RETRY_MAX then
        (((d.bump R.SLK_RETRIES_COUNT).updSlk (fun k => { k with
          cur := some { c with retries := c.retries + 1, busy := 0, denied := 0 } })).slkBackoff (c.retries + 1)).slkIdle
      else ((d.bump R.SLK_ACK_FAIL_COUNT).slkEnd 1 0).slkIdle)

/-- BACKOFF_EXPIRY (R494): the random wait is over. -/
def execBackoffExpiry (s : State) : Host.Outcome State Fault Refusal :=
  nextDev s (fun d =>
    match d.slk.cur with
    | none => d
    | some c => if c.phase = 2 && d.reached (c.clk + msCycles c.wait) then (d.updSlk (fun k => { k with cur := some { c with phase := 0 } })).slkDue else d)

/-- `SLK_CMD.FLUSH` (R498): every queued request ends; a packet on air completes, and its request ends with it. -/
def Dev.slkFlush (d : Dev) (outcome : Nat) : Dev :=
  let queued := d.slk.queue
  let d := match d.slk.tx with
    | some t =>
      if t.isAck || t.phase = 6 then d.slkEnd outcome 0
      else if t.phase = 5 then d.updSlk (fun k => { k with tx := some { t with cut := t.cut.orElse (fun _ => some outcome) } })
      else d.txFail t outcome
    | none => (d.slkEnd outcome 0).slkIdle
  (d.slkQueue []).each queued (fun d q => d.slkOutcome q outcome 0 0 0 d.time.stamp)

/-- FLUSH (R498). -/
def execFlush (s : State) : Host.Outcome State Fault Refusal := nextDev s (fun d => d.slkFlush 7)

/-! ### Reception -/

/-- The receiver listens on a locked channel: no transmission is in progress, no hop. -/
def Dev.slkHears (d : Dev) : Bool :=
  let st := d.fget R.SLK_STAT_STATE
  d.slkOn && d.fbit R.SLK_STAT_LOCKED && d.slk.tx.isNone && (st == 2 || st == 3 || st == 6)

/-- PREAMBLE_DETECT (R474): 16 received bits of the R465 pattern, from any place of it, with at most one in error. -/
def execPreambleDetect (bits : BitVec 16) (s : State) : Host.Outcome State Fault Refusal :=
  nextDev s (fun d =>
    let four := decide (3 ≤ d.fget R.SLK_HOP_CFG_MODE (d.fget R.SLK_STAT_HOP))
    let near := (if four then [0x7777, 0xDDDD] else [0xAAAA, 0x5555]).any (fun p => decide (weightOf 16 (p ^^^ bits.toNat) ≤ 1))
    if d.slkHears && near && d.slk.rx.isNone && d.slk.pre == 0 then d.updSlk (fun k => { k with pre := d.time.clk + 1 }) else d)

/-- FALSE_PREAMBLE (R475): no sync word within 8 × PRE + 40 bit periods; one that ends in the bit in which the window expires is taken (R7). -/
def execFalsePreamble (s : State) : Host.Outcome State Fault Refusal :=
  nextDev s (fun d =>
    let win := (8 * d.fget R.SLK_PHY_PRE + 40) * bitCycles (d.fget R.SLK_HOP_CFG_MODE (d.fget R.SLK_STAT_HOP))
    if d.slk.pre ≠ 0 && d.slk.rx.isNone && decide (win < d.time.clk + 1 - d.slk.pre) then
      (d.bump R.SLK_FALSE_PRE_COUNT).updSlk (fun k => { k with pre := 0 })
    else d)

/-- A reception starts on a sync word (R475, R476); its header takes 24 bits. The AGC is frozen while it lasts (R474). -/
def Dev.rxStart (d : Dev) (level : Int) : Dev :=
  let h := d.fget R.SLK_STAT_HOP
  let mode := d.fget R.SLK_HOP_CFG_MODE h
  (((d.fputI R.SLK_RSSI_LEVEL 0 level).fput R.SLK_STAT_STATE 0 3).updSlk (fun k => { k with
    pre := 0, rx := some { level := level, time := d.time.stamp, hop := h, mode := mode, stop := d.time.clk + 24 * bitCycles mode } })).progress 21

/-- SYNC_WORD (R475 to R479): 32 received bits that end in this cycle, and their mean power at the receiver input in 0.1 dBm. They are accepted as
sync word with at most SYNC_ERR bits in error. -/
def execSyncWord (level : Int) (word : BitVec 32) (s : State) : Host.Outcome State Fault Refusal :=
  nextDev s (fun d =>
    let l := level - d.fgetI R.SLK_RX_GAIN_GAIN
    let sync := d.fget R.SLK_SYNC_HI_SYNC * 65536 + d.fget R.SLK_SYNC_LO_SYNC
    if !d.slkHears || decide (d.fget R.SLK_PHY_SYNC_ERR < weightOf 32 (sync ^^^ word.toNat)) then d
    else
      match d.slk.rx with
      | none => d.rxStart l
      | some r =>
        let last := r.head.isSome && d.reached r.stop
        if d.fbit R.SLK_CFG_CAPT_EN && decide (r.level + 10 * d.fget R.SLK_CAPT_DB_VALUE ≤ l) then
          let d := if last then d.updSlk (fun k => { k with prev := some r }) else (d.bump R.SLK_CAPT_TAKEN_COUNT).event R.SLK_EVT_CAPT
          d.rxStart l
        else d.bump R.SLK_CAPT_IGNORED_COUNT)

/-- The reception ends, and the search goes on. -/
def Dev.rxEnd (d : Dev) : Dev := ((d.updSlk (fun k => { k with rx := none, noiseClk := d.time.clk })).progress 21).slkIdle

/-- PHY_HEADER (R466, R479): the 24 received bits, the first in the highest place. -/
def execPhyHeader (word : BitVec 24) (s : State) : Host.Outcome State Fault Refusal :=
  nextDev s (fun d =>
    match d.slk.rx with
    | none => d
    | some r =>
      let bad (d : Dev) : Dev :=
        ((d.bump R.SLK_HDR_ERR_COUNT).slkLog 2 { hop := r.hop, mode := r.mode, level := some r.level, time := r.time }).rxEnd
      if r.head.isSome || !d.reached r.stop then d
      else
        match golayDecode word.toNat with
        | none => bad d
        | some i =>
          let bits := packetBits 0 (i / 16) (bitAt i 3) - 56
          let next := { r with head := some (i / 16, bitAt i 3), stop := d.time.clk + bits * bitCycles r.mode }
          if i % 8 = 0 then (d.updSlk (fun k => { k with rx := some next })).progress 21 else bad d)

/-- Update of the gateway table (R495). -/
def Dev.gwSeen (d : Dev) (addr seq : Nat) (level : Int) (time : Nat) : Dev :=
  let ent : GwEnt := ⟨addr, level, seq, time, d.time.clk⟩
  let put (d : Dev) (i : Nat) : Dev := d.updSlk (fun k => { k with gw := smSet (fun _ => none) k.gw i (some ent) })
  match d.slk.gw.find? (fun e => e.2.any (fun g => g.addr == addr)) with
  | some e => put d e.1
  | none =>
    match (List.range 1024).find? (fun i => (smGet (fun _ => none) d.slk.gw i).isNone) with
    | some i => (put d i).fput R.SLK_GW_NODES_VALUE 0 (d.slk.gw.length + 1)
    | none =>
      let age (i : Nat) : Nat := match smGet (fun _ => none) d.slk.gw i with | some g => g.clk | none => 0
      (put d ((List.range 1024).foldl (fun b i => if age i < age b then i else b) 0)).event R.SLK_EVT_GW_FULL

/-- The gateway role is in force: a Tadpole baseline of Skink runs the node role (R495). -/
def Dev.gateway (d : Dev) : Bool := d.fget R.SLK_CFG_ROLE == 2 && !bitAt d.boot.tadpole 5

/-- FRAME_ACCEPT (R491, R492): a CRC-good frame of at least its header. -/
def Dev.frameAccept (d : Dev) (r : SlkRx) (r23 : Bool) (p : List Nat) : Dev :=
  let b0 := p.getD 0 0
  let seq := p.getD 1 0
  let dst := ofBe ((p.drop 2).take 2)
  let src := ofBe ((p.drop 4).take 2)
  let own := d.fget R.SLK_ADDR_ADDR
  let mine := dst == own && own != 0
  let d := if d.gateway then d.gwSeen src seq r.level r.time else d
  if b0 / 64 = 1 then
    match d.slk.cur with
    | some c =>
      let intime := decide (d.since c.clk ≤ msCycles (d.fget R.SLK_ACK_TMO))
      if (mine || dst == 0xFFFF || d.gateway) && c.phase == 1 && intime && c.req.seq == seq && c.req.dst == src then d.slkEnd 0 r.level else d
    | none => d
  else if b0 / 64 = 0 && (mine || dst == 0xFFFF) then
    let d := if mine && bitAt b0 5 then d.updSlk (fun k => { k with ack := some ⟨src, seq, r.hop, r.mode, r23, d.time.clk⟩ }) else d
    let dup := match smGet (fun _ => none) d.slk.last src with
      | some (q, t) => q == seq && decide (d.since t ≤ 10 * Config.sysPerSecond)
      | none => false
    if dup then d.bump R.SLK_RX_DUP_COUNT
    else
      let t := r.time / 2 ^ 16 % 2 ^ 32
      ((d.updSlk (fun k => { k with last := smSet (fun _ => none) k.last src (some (seq, d.time.clk)) })).slkReport
        ([1, dbmByte r.level] ++ be32 t ++ p)).event R.SLK_EVT_RX
  else d

/-- PACKET_RECEIVED (R467 to R469, R479, R490): the last bit has ended. `decoded` are the decoder's hard decisions of payload and CRC, still
whitened, and `its` gives for each codeword the iteration after which every parity check first held (0: never). -/
def execPacketReceived (decoded : List Byte) (its : List Nat) (s : State) : Host.Outcome State Fault Refusal :=
  nextDev s (fun d =>
    match d.slk.prev.orElse (fun _ => d.slk.rx) with
    | none => d
    | some r =>
      match r.head with
      | none => d
      | some (len, r23) =>
        if !d.reached r.stop then d
        else
          let close (d : Dev) : Dev := if d.slk.prev.isSome then d.updSlk (fun k => { k with prev := none }) else d.rxEnd
          let clear := bytesOf (len + 2) (whiten (decoded.map (·.toNat)))
          let p := clear.take len
          let top := d.fget R.SLK_PHY_MAX_IT
          let words := its.take ((8 * (len + 2) + (if r23 then 383 else 287)) / (if r23 then 384 else 288))
          let fails := (words.filter (fun n => n = 0 || decide (top < n))).length
          let used := words.foldl (fun m n => max m (if n = 0 then top else min n top)) 0
          let d := d.bumpBy R.SLK_LDPC_FAIL_COUNT 0 fails
          let log : SlkLog := { hop := r.hop, mode := r.mode, r23 := r23, level := some r.level, len := len, iterations := used, header := p, time := r.time }
          if decoded.length = len + 2 && crc16 p == ofBe (clear.drop len) then
            let d := ((d.bump R.SLK_RX_PKT_COUNT).lifeBy 0x94 4 1).slkLog 1 log
            close (if 6 ≤ len ∧ len ≤ 246 then d.frameAccept r r23 p else d)
          else close ((d.bump R.SLK_CRC_ERR_COUNT).slkLog 3 log))

/-- NOISE_MEASURE (R477): the mean power over 5 ms at the receiver input in 0.1 dBm, in which the receiver listened and received nothing. -/
def execNoiseMeasure (mean : Int) (s : State) : Host.Outcome State Fault Refusal :=
  nextDev s (fun d =>
    if d.slkHears && d.slk.rx.isNone && d.reached (d.slk.noiseClk + msCycles 5) then
      let m := mean - d.fgetI R.SLK_RX_GAIN_GAIN
      ((d.fputI R.SLK_NOISE_LEVEL 0 m).updSlk (fun k => { k with
        noiseClk := d.time.clk, noise := smSet (fun _ => (-32768 : Int)) k.noise (d.fget R.SLK_STAT_HOP) m })).progress 21
    else d)

/-! ### Epochs, PD7 and restarts -/

/-- An epoch of the site link waits while a packet is on air (R83, R85). -/
def Dev.slkBusy (d : Dev) : Bool := match d.slk.tx with | some t => decide (4 ≤ t.phase) | none => false

/-- The radio goes idle: what it was doing is dropped, the request in service is due again. -/
def Dev.slkQuiet (d : Dev) : Dev :=
  (((d.updSlk (fun k => { k with
    tx := none, rx := none, prev := none, ack := none, pre := 0, paEn := false, tr := false, cur := k.cur.map (fun c => { c with phase := 0 }) })).cxDrop).fput
      R.SLK_STAT_STATE 0 0).fputB R.SLK_STAT_LOCKED 0 false

/-- What applied site-link settings do (R83): where the carrier in use has moved LSY hops to it, after a reception in progress; a transmission that is not
yet on air takes the new settings of its entry, is held again where LSY hops (R473), and waits for no grant any more where CX_CFG.EN = 0 (R484). -/
def Dev.slkApplied (d : Dev) : Dev :=
  if !d.slkOn then (if d.fget R.SLK_STAT_STATE = 0 then d else d.slkQuiet)
  else if d.fget R.SLK_STAT_STATE = 0 then d.slkHop (d.fget R.SLK_LISTEN_HOP)
  else
    match d.slk.tx with
    | none => d.slkIdle
    | some t =>
      let t := if t.isAck then t else match d.slk.cur with
        | some c => let n := d.reqTx c.req; { t with frame := n.frame, mode := n.mode, r23 := n.r23, pwr := n.pwr }
        | none => t
      if !d.slkTuned t.hop then
        (d.cxDrop.slkHop t.hop).updSlk (fun k => { k with tx := some { t with phase := 1, due := d.time.clk, clk := d.time.clk } })
      else if t.phase = 2 && !d.fbit R.CX_CFG_EN then d.cxDrop.txListen t
      else d.updSlk (fun k => { k with tx := some t })

/-- PD7 comes up (R472, R489): from OFF the ledger is empty; LSY locks on the listen channel. -/
def Dev.slkUp (d : Dev) (fromOff : Bool) : Dev :=
  let d := if fromOff then (d.updSlk (fun k => { k with bins := [], binClk := d.time.clk })).ledgerShow else d
  let d := d.updSlk (fun k => { k with runs := false })
  if d.slkOn then d.slkHop (d.fget R.SLK_LISTEN_HOP) else d

/-- PD7 leaves ON (R563): queued requests end with outcome 0x0A; the transmitter is active no longer. -/
def Dev.slkDown (d : Dev) : Dev :=
  let d := (d.slkFlush 0x0A).slkQuiet
  if d.cx.tx then d.cxActive none else d

/-- A restart of the site-link fault domain: the ramp-down of a packet on air starts at once, its request ends with outcome 0x09; the queue, the ledger
and the gateway table are kept, but where the node role runs in its stead it is empty (R495). -/
def Dev.slkRestart (d : Dev) : Dev :=
  let d := if bitAt d.boot.tadpole 5 then (d.updSlk (fun k => { k with gw := [] })).fput R.SLK_GW_NODES_VALUE 0 0 else d
  match d.slk.tx with
  | some t =>
    if t.phase = 5 then
      let cut := { t with stop := min t.stop (d.time.clk + usCycles (4 * d.fget R.SLK_RAMP_VALUE)), cut := some 9 }
      let q := d.slkQuiet
      ((q.fput R.SLK_STAT_STATE 0 5).fputB R.SLK_STAT_LOCKED 0 true).updSlk (fun k => { k with tx := some cut, tr := d.slk.tr, paEn := d.slk.paEn })
    else
      let d := (if t.isAck then d else d.slkEnd 9 0).slkQuiet
      if d.slkOn then d.slkHop (d.fget R.SLK_LISTEN_HOP) else d
  | none =>
    let d := d.slkQuiet
    if d.slkOn then d.slkHop (d.fget R.SLK_LISTEN_HOP) else d

end Sys2Proof.Machine
end

