-- ==== Sys2Proof/Machine/Relock.lean ====
section
/-!
DEFINITION. What stops and starts with the clock domains of the two PLLs (R36, R37, R371, R425, R443, R445).
-/
namespace Sys2Proof.Machine

/-- SMP, DSP and SYS stop for an SPL re-lock: the Ferson port stops, pairs in progress and a trim span are discarded (R133, R510), and the first blocks after the
re-lock will be missing, and the
fabric delivers no frames (R36, R37). -/
def Dev.splStops (d : Dev) : Dev :=
  let d := (((d.fspHalt.bicDiscard 0).bicDiscard 1).afeSplStops 0).afeSplStops 1
  { d with clk := { d.clk with gap := true, gapPrg := true }, rtc := { d.rtc with span := none } }.fabStops

/-- SMP, DSP and SYS start: lane groups count from the last device-time millisecond (R639), inputs, estimators and scanners begin anew (R112, R133,
R169), the Ferson port goes on, and the delay memory has lost its content. -/
def Dev.splStarts (d : Dev) : Dev :=
  let first := d.time.clk - d.time.cyc % Config.sysPerMs
  let d := { d.progress 17 with time := { d.time with smpClk := first }, grid := { d.grid with due := first + Config.sysPerMs, prg := first + Config.sysPerMs } }
  let d := d.each [0, 1] (fun d x => ((d.afeSplStarts x).bicSplStarts x).scnRestart x)
  d.fspResume.prgRelock.fabStarts

/-- The stop sequences ahead of an APL re-lock begin (R371, R425). -/
def Dev.aplStopSequences (d : Dev) : Dev :=
  if d.fget R.CLK_STAT_APL = 2 then ({ d with cod := { d.cod with leaving := true } }).codUpdate.prtHold else d

/-- The stop sequences have ended, or the AUD clock is stopped already. -/
def Dev.aplMayStop (d : Dev) : Bool := d.fget R.CLK_STAT_APL != 2 || (d.codStopped && d.prtStopped)

/-- The AUD clock stops. -/
def Dev.aplStops (d : Dev) : Dev := d.prtHold

/-- The AUD clock starts: outputs that are wanted start by their sequences, and ports pass through START (R371, R425). -/
def Dev.aplStarts (d : Dev) : Dev := ({ d.progress 19 with cod := { d.cod with leaving := false } }).codUpdate.prtResume

end Sys2Proof.Machine
end

