-- ==== Sys2Proof/Machine/Clock.lean ====
section
/-!
DEFINITION. References, PLLs and clock outputs (spec/14_clocks_synthesis.md, R438 to R462).
-/
namespace Sys2Proof.Machine

/-! ### PLL states and bands -/

/-- The state field of a PLL in CLK_STAT: 0 not started, 1 LOCKING, 2 LOCKED, 3 FAILED. -/
def pllField : Pll → Fld
  | .spl => R.CLK_STAT_SPL
  | .apl => R.CLK_STAT_APL

/-- d in 0.01 ppm, as CLK_DISC_PPM reports it. -/
def Dev.steer (d : Dev) : Int := d.fgetI R.CLK_DISC_PPM

/-- The APL offset a in 0.01 ppm: the clock-leader steering and the part of d that it follows (R454). -/
def Dev.aplOffset (d : Dev) : Int := d.fgetI R.PRT_LEAD_PPM * 10 + d.clk.aplPart

/-- The target VCO frequency of a PLL with the steering in force, in Hz × 10^8 (R440, R454). -/
def Dev.vcoTarget (d : Dev) : Pll → Int
  | .spl => 5898240000 * (100000000 + d.steer)
  | .apl => (if d.fbit R.CLK_APL_CFG_FAM then 2890137600 else 3145728000) * (100000000 + d.aplOffset)

/-- The centre of band `b` of a PLL's table, in Hz (R440). -/
def Dev.bandCentre (d : Dev) (p : Pll) (b : Nat) : Nat :=
  match p with
  | .spl => 5400000000 + d.fget R.CLK_SPL_BAND_CENTRE b * 250000
  | .apl => 2700000000 + d.fget R.CLK_APL_BAND_CENTRE b * 250000

/-- How far the centre of band `b` lies from the target. -/
def Dev.bandDist (d : Dev) (p : Pll) (b : Nat) : Nat :=
  ((d.bandCentre p b : Int) * 100000000 - d.vcoTarget p).natAbs

/-- The band nearest the target among `cands`, the lower index first where two lie equally near (R440). -/
def Dev.nearest (d : Dev) (p : Pll) (cands : List Nat) : Nat :=
  cands.foldl (fun best b => if d.bandDist p b < d.bandDist p best then b else best) (cands.headD 0)

/-- The band of attempt `k` (0, 1, 2) in the order of R440. -/
def Dev.bandOf (d : Dev) (p : Pll) (k : Nat) : Nat :=
  let all := List.range (match p with | .spl => 64 | .apl => 32)
  let b0 := d.nearest p all
  let r1 := all.filter (· != b0)
  let b1 := d.nearest p r1
  match k with
  | 0 => b0
  | 1 => b1
  | _ => d.nearest p (r1.filter (· != b1))

/-- Enter LOCKING in the band of attempt `k` (R443). The first lock window begins 60 µs after the choice of the band, 61 µs after the begin of the
re-lock (the table under R443; log entry 57). -/
def Dev.tryBand (d : Dev) (p : Pll) (k : Nat) : Dev :=
  let now := d.time.clk
  let win := now + usCycles (if k = 0 then 61 else 60)
  let v := { d.pll p with good := 0, bad := 0, attempt := k, want := false, bandClk := now, winClk := win }
  let d := (d.setPll p v).fput (pllField p) 0 1
  match p with
  | .spl => d.fput R.CLK_BAND_SPL 0 (d.bandOf p k)
  | .apl => d.fput R.CLK_BAND_APL 0 (d.bandOf p k)

/-- The outputs that divide PLL `p` (R456). -/
def Dev.outsOf (d : Dev) (p : Pll) : List Nat :=
  (List.range 4).filter (fun k => d.fget R.CLKOUT_CFG_SRC k == (match p with | .spl => 0 | .apl => 1))

/-- The state of clock output `k`. -/
def Dev.clkOut (d : Dev) (k : Nat) : ClkOutSt := smGet (fun _ => {}) d.clk.outs k

/-- Set the state of clock output `k`. -/
def Dev.setClkOut (d : Dev) (k : Nat) (v : ClkOutSt) : Dev :=
  { d with clk := { d.clk with outs := smSet (fun _ => {}) d.clk.outs k v } }

/-- VCO periods that have passed in `cycles` SYS cycles, for the source of output `k`. -/
def Dev.vcoPeriods (d : Dev) (k cycles : Nat) : Nat :=
  if d.fbit R.CLKOUT_CFG_SRC k then
    cycles * (if d.fbit R.CLK_APL_CFG_FAM then 2890137600 else 3145728000) / Config.sysPerSecond
  else cycles * 20

/-- The fine phase in force of output `k`: one step in each output period towards the target, without wrapping, while the output
runs (R460, R462). -/
def Dev.fineNow (d : Dev) (k : Nat) : Nat :=
  let o := d.clkOut k
  let target := d.fget R.CLKOUT_FINE_FINE k
  let steps := if d.fget R.CLKOUT_STAT_STATE k = 1 then d.vcoPeriods k (d.since o.fineClk) / max o.div 1 else 0
  if o.fineFrom ≤ target then min target (o.fineFrom + steps) else max target (o.fineFrom - steps)

/-- Start counting fine steps anew from the phase in force. -/
def Dev.fineRestart (d : Dev) (k : Nat) : Dev :=
  d.setClkOut k { d.clkOut k with fineFrom := d.fineNow k, fineClk := d.time.clk }

/-- The clock guard holds output `k` while its PLL re-locks (R461). -/
def Dev.guardHold (d : Dev) (k : Nat) : Dev :=
  if d.fbit R.CLKOUT_CFG_EN k && d.fget R.CLKOUT_STAT_STATE k != 2 then (d.fineRestart k).fput R.CLKOUT_STAT_STATE k 2 else d

/-- The clock guard on every enabled output of PLL `p` (R461). -/
def Dev.guardOn (d : Dev) (p : Pll) : Dev := d.each (d.outsOf p) Dev.guardHold

/-- The PLL of output `k` re-locks or has failed. -/
def Dev.outUnlocked (d : Dev) (k : Nat) : Bool :=
  let st := d.fget (pllField (if d.fbit R.CLKOUT_CFG_SRC k then .apl else .spl))
  st == 1 || st == 3

/-- Release of the clock guard: a held output waits low for its first grid edge (R458, R461). -/
def Dev.guardOff (d : Dev) (p : Pll) : Dev :=
  d.each (d.outsOf p) (fun d k =>
    if d.fget R.CLKOUT_STAT_STATE k = 2 then
      (d.setClkOut k { d.clkOut k with enClk := d.time.clk }).fput R.CLKOUT_STAT_STATE k 0
    else d)

/-- A re-lock, or the first lock, of PLL `p` begins (R443): the VCO is held, the outputs are guarded, the dependent domains stop
when they ran, and LOCKING begins in the first band of R440. -/
def Dev.relockBegin (d : Dev) (p : Pll) : Dev :=
  let was := d.fget (pllField p)
  let d := onlyIf (was == 2) (fun d => match p with | .spl => d.splStops | .apl => d.aplStops) (d.guardOn p)
  d.tryBand p 0

/-- RELOCK_BEGIN (R443). It acts on an ordered re-lock; for the APL the stop sequences of R371 and R425 come first. -/
def execRelockBegin (pll : Pll) (s : State) : Host.Outcome State Fault Refusal :=
  nextDev s (fun d => onlyIf ((d.pll pll).want && (pll == .spl || d.aplMayStop)) (fun d => d.relockBegin pll) d)

/-- A re-lock of `p` is ordered (R443); a PLL that has not started has nothing to re-lock. -/
def Dev.orderRelock (d : Dev) (p : Pll) : Dev :=
  onlyIf (d.fget (pllField p) != 0) (fun d => d.wantLock p) d

/-- CLK_CMD orders a re-lock of `p`, which is locked or has failed; in LOCKING only an epoch begins anew (R443). -/
def Dev.cmdRelock (d : Dev) (p : Pll) : Dev := if d.fget (pllField p) = 1 then d else d.orderRelock p

/-- SPL_RELOCK (R443). -/
def execSplRelock (s : State) : Host.Outcome State Fault Refusal := nextDev s (fun d => d.cmdRelock .spl)

/-- APL_RELOCK (R443); the stop sequences of R371 and R425 begin. -/
def execAplRelock (s : State) : Host.Outcome State Fault Refusal :=
  nextDev s (fun d => (d.cmdRelock .apl).aplStopSequences)

/-- The expected count of a lock window of `w` XO cycles (R442): round(W × f_target / 49.152 MHz). -/
def Dev.lockExpected (d : Dev) (p : Pll) (w : Nat) : Int :=
  match p with
  | .spl => divNearInt (15 * (w : Int) * (100000000 + d.steer)) 100000000
  | .apl => divNearInt ((w : Int) * (if d.fbit R.CLK_APL_CFG_FAM then 45158400 else 49152000) * (100000000 + d.aplOffset))
      (49152000 * 100000000)

/-- A field of CLK_SPL_LOCK or CLK_APL_LOCK. -/
def Dev.lockCfg (d : Dev) (p : Pll) (fs fa : Fld) : Nat :=
  match p with
  | .spl => d.fget fs
  | .apl => d.fget fa

/-- Lock declared (R443): the dependent domains start together, the guard is released, LOCKED, `LOCK` set. -/
def Dev.lockDeclared (d : Dev) (p : Pll) : Dev :=
  let d := (d.setPll p { d.pll p with good := 0, bad := 0, lockClk := d.time.clk }).fput (pllField p) 0 2
  match p with
  | .spl => (d.splStarts.guardOff p).event R.CLK_EVT_SPL_LOCK
  | .apl => (d.aplStarts.guardOff p).event R.CLK_EVT_APL_LOCK

/-- Unlock declared (R442): counted, flagged, and a re-lock ordered. -/
def Dev.unlockDeclared (d : Dev) (p : Pll) : Dev :=
  let d := d.wantLock p
  match p with
  | .spl => (d.bumpEvt R.CLK_SPL_UNLOCKS_COUNT R.CLK_EVT_SPL_UNLOCK).lifeBy 0x70 4 1
  | .apl => (d.bumpEvt R.CLK_APL_UNLOCKS_COUNT R.CLK_EVT_APL_UNLOCK).aplStopSequences

/-- XO cycles of one lock window (R442). -/
def Dev.lockWindow (d : Dev) (p : Pll) : Nat := 2 ^ (8 + d.lockCfg p R.CLK_SPL_LOCK_WIN R.CLK_APL_LOCK_WIN)

/-- LOCK_WINDOW (R442): the count of one window is judged, once its W XO cycles (six SYS cycles each) have passed; lock after GOOD good windows, unlock
after LOSS bad ones. An unlock counts once, also while a re-lock that an epoch has ordered still waits (R462). -/
def execLockWindow (pll : Pll) (count : Nat) (s : State) : Host.Outcome State Fault Refusal :=
  nextDev s (fun d =>
    let w := d.lockWindow pll
    let good := ((count : Int) - d.lockExpected pll w).natAbs ≤ d.lockCfg pll R.CLK_SPL_LOCK_TOL R.CLK_APL_LOCK_TOL
    let v := { d.pll pll with winClk := d.time.clk }
    let v' := if good then { v with good := v.good + 1, bad := 0 } else { v with good := 0, bad := v.bad + 1 }
    if !d.reached ((d.pll pll).winClk + 6 * w) then d else
    match d.fget (pllField pll) with
    | 1 =>
      if d.lockCfg pll R.CLK_SPL_LOCK_GOOD R.CLK_APL_LOCK_GOOD ≤ v'.good then (d.setPll pll v').lockDeclared pll else d.setPll pll v'
    | 2 =>
      let loss := d.lockCfg pll R.CLK_SPL_LOCK_LOSS R.CLK_APL_LOCK_LOSS
      if decide (loss ≤ v'.bad) && (!v.want || decide (v.bad < loss)) then (d.setPll pll v').unlockDeclared pll
      else d.setPll pll v'
    | _ => d)

/-- BAND_TIMEOUT (R443): 5 ms in one band without lock; the next band, or FAILED after the third. -/
def execBandTimeout (pll : Pll) (s : State) : Host.Outcome State Fault Refusal :=
  nextDev s (fun d =>
    if d.fget (pllField pll) = 1 && d.reached ((d.pll pll).bandClk + msCycles 5) then
      if (d.pll pll).attempt < 2 then d.tryBand pll ((d.pll pll).attempt + 1)
      else ((d.setPll pll { d.pll pll with bandClk := d.time.clk }).fput (pllField pll) 0 3).event (match pll with | .spl => R.CLK_EVT_SPL_FAIL | .apl => R.CLK_EVT_APL_FAIL)
    else d)

/-- PLL_FAIL_RETRY (R443): 100 ms after FAILED, LOCKING in the first band. -/
def execPllFailRetry (pll : Pll) (s : State) : Host.Outcome State Fault Refusal :=
  nextDev s (fun d =>
    onlyIf (d.fget (pllField pll) == 3 && d.reached ((d.pll pll).bandClk + msCycles 100)) (fun d => d.tryBand pll 0) d)

/-! ### References and the discipline loop -/

/-- SRC selects REFIN, and it is qualified (R448). -/
def Dev.refUsable (d : Dev) : Bool := bitAt (d.fget R.CLK_DISC_SRC) 0 && d.fbit R.CLK_STAT_REF_OK

/-- SRC selects PPS_IN, and it is qualified (R448). -/
def Dev.ppsUsable (d : Dev) : Bool := bitAt (d.fget R.CLK_DISC_SRC) 1 && d.fbit R.CLK_STAT_PPS_OK

/-- A 32-bit signed value in a HI register; its LO half appears at the next capture (R451, CLK_PHASE_HI). -/
def Dev.putHi (d : Dev) (f : Fld) (v : Int) : Dev := d.fput f 0 (unsgn 32 v / 65536)

/-- A time in ns wrapped into half a second on either side (the discipline loop's e for PPS_IN). -/
def wrapHalf (ns : Int) : Int := (ns + 500000000) % 1000000000 - 500000000

/-- The frequencies of CLK_REF_CFG.FREQ in Hz. -/
def refHz (code : Nat) : Nat := [10000000, 19200000, 24576000, 26000000, 38400000, 49152000].getD code 49152000

/-- A time in ns wrapped into half a period of a reference of `hz` on either side (the discipline loop's e for REFIN). -/
def wrapRef (hz : Nat) (ns : Int) : Int := divNearInt (wrapHalf (ns * hz)) hz

/-- e less θ: for PPS_IN within ±0.5 s, for REFIN within half a period. -/
def Dev.phaseDiff (d : Dev) : Int :=
  if d.ppsUsable then wrapHalf (d.clk.e - d.clk.theta) else wrapRef (refHz (d.fget R.CLK_REF_CFG_FREQ)) (d.clk.e - d.clk.theta)

/-- ALIGNED by R453, with the event of each change. -/
def Dev.updAligned (d : Dev) : Dev :=
  let a := bitAt (d.fget R.CLK_DISC_SRC) 1 && d.fget R.CLK_STAT_DISC == 2 && decide (d.clk.theta.natAbs ≤ 50) &&
    decide (d.phaseDiff.natAbs ≤ 50)
  if a = d.fbit R.CLK_STAT_ALIGNED then d
  else (d.fputB R.CLK_STAT_ALIGNED 0 a).event R.CLK_EVT_ALIGNED

/-- The loop's outputs as registers: θ and e in HI, SLEWING, ALIGNED; a trim span of the RTC is discarded where the loop has left LOCK or slews
(R510). -/
def Dev.discShow (d : Dev) : Dev :=
  let d := (((d.putHi R.CLK_PHASE_HI_NS d.clk.e).putHi R.CLK_THETA_HI_NS d.clk.theta).fputB R.CLK_STAT_SLEWING 0 (d.clk.slew != 0)).updAligned
  if d.fget R.CLK_STAT_DISC = 2 ∧ d.clk.slew = 0 then d else { d with rtc := { d.rtc with span := none } }

/-- The largest change of d in one second, in 0.01 ppm (R449): RAMP × 0.05 ppm. -/
def Dev.rampStep (d : Dev) : Int := (d.fget R.CLK_DISC2_RAMP : Int) * 5

/-- Set d from a wished correction and slew term (R449): the change is held to the ramp, d to ±200 ppm, and at the limit the slew
term gives way (R462). `LIMIT` reads 1 while d rests at the limit. -/
def Dev.setSteer (d : Dev) (corr slew : Int) : Dev :=
  let r := d.rampStep
  let old := d.steer
  let v := clampInt (-20000) 20000 (clampInt (old - r) (old + r) (corr + slew))
  let atLimit := v == 20000 || v == -20000
  let slew' := if atLimit && slew != 0 then v - corr else slew
  let d := { d with clk := { d.clk with corr := v - slew', slew := slew', hist := (v :: d.clk.hist).take 10 } }
  let d := d.fputI R.CLK_DISC_PPM 0 v
  if atLimit = d.fbit R.CLK_STAT_LIMIT then d
  else onlyIf atLimit (fun d => d.event R.CLK_EVT_LIMIT) (d.fputB R.CLK_STAT_LIMIT 0 atLimit)

/-- A difference of phase that counts as a jump (R451): more than 1 µs for PPS_IN, more than a tenth of the period for REFIN. -/
def Dev.isJump (d : Dev) (delta : Int) : Bool :=
  if d.ppsUsable then 1000 < delta.natAbs else 1000000000 < delta.natAbs * 10 * refHz (d.fget R.CLK_REF_CFG_FREQ)

/-- A phase jump counts and is flagged, and θ takes e (R451). -/
def Dev.phaseJump (d : Dev) : Dev :=
  { (d.bumpEvt R.CLK_JUMPS_COUNT R.CLK_EVT_JUMP) with clk := { d.clk with theta := d.clk.e } }

/-- Entry to LOCK (R450, R451): θ takes e; from COAST a difference beyond the bound is a phase jump. -/
def Dev.enterLock (d : Dev) (fromCoast : Bool) : Dev :=
  let d := if fromCoast && d.isJump d.phaseDiff then d.phaseJump
    else { d with clk := { d.clk with theta := d.clk.e } }
  (d.fput R.CLK_STAT_DISC 0 2).event R.CLK_EVT_DISC_LOCK

/-- The mean of the last ten values of d (R450), rounded by R9. -/
def meanInt (l : List Int) : Int := if l.isEmpty then 0 else divNearInt (l.foldl (· + ·) 0) l.length

/-- Entry to COAST (R450): d goes to its mean over the last 10 s, by R449, and is held there. -/
def Dev.enterCoast (d : Dev) : Dev :=
  let d := { d with clk := { d.clk with corr := d.steer, slew := 0, acqGood := 0, goal := meanInt d.clk.hist } }
  (d.fput R.CLK_STAT_DISC 0 3).event R.CLK_EVT_COAST

/-- ACQ and LOCK leave for COAST when no selected reference is qualified (R448, R450). -/
def Dev.coastCheck (d : Dev) : Dev :=
  let st := d.fget R.CLK_STAT_DISC
  if (st == 1 || st == 2) && !d.refUsable && !d.ppsUsable && d.fget R.CLK_DISC_SRC != 0 then d.enterCoast.discShow else d

/-- The slew term of the next second (R452): towards 0 for θ, at most SLEW ppm, changed by at most the ramp, and small enough that
it can return to 0 by the time θ is 0. θ moves by 10 ns a second for each 0.01 ppm. -/
def slewNext (theta slew r top : Int) : Int :=
  let mag : Int := theta.natAbs
  let cand := [slew.natAbs + r, (slew.natAbs : Int), slew.natAbs - r]
  let ok := cand.filter (fun m => decide (0 ≤ m) && decide (m ≤ top) && decide (10 * m * (m + r) ≤ 2 * r * mag))
  let m := ok.headD (if slew.natAbs ≤ r then min r (min top (mag / 10)) else slew.natAbs - r)
  if 0 ≤ theta then -m else m

/-- One second of the loop in LOCK (R450 to R452, R462): the frequency correction follows the phase loop (free within R449); in slew mode
θ moves to 0 by the slew term in force, in build-out the slew term returns to 0 and θ stays. -/
def Dev.lockSecond (d : Dev) : Dev :=
  let d := if d.isJump d.phaseDiff then d.phaseJump else d
  let r := d.rampStep
  let top : Int := (d.fget R.CLK_DISC2_SLEW : Int) * 100
  let corr := Config.loopStep d.phaseDiff d.clk.corr (d.fget R.CLK_DISC_TC)
  if d.fbit R.CLK_DISC_MODE then
    let d := d.setSteer corr (slewNext d.clk.theta d.clk.slew r top)
    let th := if d.clk.theta.natAbs < 10 then 0 else d.clk.theta + 10 * d.clk.slew
    { d with clk := { d.clk with theta := th } }
  else d.setSteer corr (if 0 < d.clk.slew then max 0 (d.clk.slew - r) else min 0 (d.clk.slew + r))

/-- a follows s and, where selected, d, moved by R449 (R454). -/
def Dev.aplFollow (d : Dev) : Dev :=
  let goal := if d.fbit R.CLK_APL_CFG_DISC then d.steer else 0
  let r := d.rampStep
  let v := clampInt (d.clk.aplPart - r) (d.clk.aplPart + r) goal
  let d := { d with clk := { d.clk with aplPart := v } }
  d.fputI R.CLK_APL_PPM 0 (d.fgetI R.PRT_LEAD_PPM + divNearInt v 10)

/-- DISCIPLINE_UPDATE (R448 to R454): one second of the loop, at most once a second. `off` is REFIN's frequency offset measured over that second, in
0.01 ppm, and `err` its phase error in ns; where only PPS_IN is usable it gives both, and where both are, PPS_IN gives e. While
the SPL re-locks, d is held (R443). -/
def execDisciplineUpdate (off err : Int) (s : State) : Host.Outcome State Fault Refusal :=
  nextDev s (fun d =>
    if d.splStopped || (d.clk.discClk != 0 && !d.reached (d.clk.discClk - 1 + Config.sysPerSecond)) then d else
    let usable := d.refUsable || d.ppsUsable
    let off := if d.refUsable then off else d.clk.ppsOff
    let d := { d with clk := { d.clk with discClk := d.time.clk + 1, e := if d.refUsable && !d.ppsUsable then wrapRef (refHz (d.fget R.CLK_REF_CFG_FREQ)) err else d.clk.e } }
    let near := off.natAbs ≤ 5
    let d := match d.fget R.CLK_STAT_DISC with
      | 0 => if usable then d.fput R.CLK_STAT_DISC 0 1 else d.setSteer (d.fgetI R.CLK_SPL_TRIM_TRIM) 0
      | 1 =>
        if !usable then d.enterCoast
        else
          let n := if near then d.clk.acqGood + 1 else 0
          let d := { d with clk := { d.clk with acqGood := n } }
          if 10 ≤ n then d.enterLock false else d.setSteer (d.steer + clampInt (-d.rampStep) d.rampStep off) 0
      | 2 => if usable then d.lockSecond else d.enterCoast
      | _ =>
        if !usable then d.setSteer d.clk.goal 0
        else if near then d.enterLock true
        else { d.fput R.CLK_STAT_DISC 0 1 with clk := { d.clk with acqGood := 0 } }
    d.aplFollow.discShow)

/-- End any slew and restart the loop: ACQ, or FREE when SRC is none (R450). -/
def Dev.discRestart (d : Dev) : Dev :=
  let d := { d with clk := { d.clk with corr := d.steer, slew := 0, acqGood := 0 } }
  (d.fput R.CLK_STAT_DISC 0 (if d.fget R.CLK_DISC_SRC = 0 then 0 else 1)).discShow

/-- DISC_RESTART (R450). -/
def execDiscRestart (s : State) : Host.Outcome State Fault Refusal := nextDev s Dev.discRestart

/-- REFIN is lost (R446): counted and flagged; the loop may enter COAST. -/
def Dev.refLost (d : Dev) : Dev :=
  let d := { d with clk := { d.clk with refGood := 0 } }
  if d.fbit R.CLK_STAT_REF_OK then
    (((d.fputB R.CLK_STAT_REF_OK 0 false).bumpEvt R.CLK_REF_LOSSES_COUNT R.CLK_EVT_REF_LOSS).lifeBy 0x74 4 1).coastCheck
  else d

/-- REFIN_WINDOW (R446): one 100 ms window with its offset in 0.01 ppm against the XO as it runs; CLK_SPL_TRIM corrects it. Ten good windows
qualify. -/
def execRefinWindow (raw : Int) (s : State) : Host.Outcome State Fault Refusal :=
  nextDev s (fun d =>
    if d.clk.refClk != 0 && !d.reached (d.clk.refClk - 1 + msCycles 100) then d else
    let off := raw - d.fgetI R.CLK_SPL_TRIM_TRIM
    let d := { d with clk := { d.clk with refClk := d.time.clk + 1 } }
    let d := d.fputI R.CLK_REF_MEAS_PPM 0 (clampInt (-32767) 32767 (divNearInt off 10))
    if off.natAbs ≤ d.fget R.CLK_REF_CFG_TOL * 100 then
      let n := d.clk.refGood + 1
      let d := { d with clk := { d.clk with refGood := min n 10 } }
      if 10 ≤ n && !d.fbit R.CLK_STAT_REF_OK then (d.fputB R.CLK_STAT_REF_OK 0 true).event R.CLK_EVT_REF_UP else d
    else d.refLost)

/-- REFIN_EDGE_LOSS (R446): more than 1 µs without an edge (the window that ended last had edges to its end, R7); the measurement reads 0x8000, and
the next window begins with the next edge. -/
def execRefinEdgeLoss (s : State) : Host.Outcome State Fault Refusal :=
  nextDev s (fun d =>
    if d.clk.refClk != 0 && !d.reached (d.clk.refClk + usCycles 1) then d
    else { d.refLost.fput R.CLK_REF_MEAS_PPM 0 0x8000 with clk := { d.refLost.clk with refClk := 0 } })

/-- The time of an edge in ns of the SPL timebase: `sub` ns into the present SYS cycle. -/
def Dev.edgeNs (d : Dev) (sub : Nat) : Nat := d.time.clk * 15625 / 4608 + sub

/-- PPS_EDGE (R447): an edge of PPS_IN, `sub` ns into the present SYS cycle; POL says which edge is active. It is valid 1 s after the last valid one
within the window; an edge missed in between counts as one second more. Three valid edges qualify; a valid edge sets e, its distance from the device-time
second (R25), where PPS_IN is selected. -/
def execPpsEdge (rising : Bool) (sub : Fin 4) (s : State) : Host.Outcome State Fault Refusal :=
  nextDev s (fun d =>
    let now := d.edgeNs sub
    let gap : Int := now - d.clk.ppsNs - 1000000000 * (d.clk.ppsMiss + 1 : Nat)
    let valid := !d.clk.ppsSeen || decide (gap.natAbs ≤ d.fget R.CLK_PPS_CFG_WIN * 10000)
    if rising == d.fbit R.CLK_PPS_CFG_POL then d
    else if valid then
      let n := d.clk.ppsValid + 1
      let off := if d.clk.ppsSeen then -(divNearInt gap (10 * (d.clk.ppsMiss + 1 : Nat))) else 0
      let d := { d with clk := { d.clk with ppsSeen := true, ppsMiss := 0, ppsValid := min n 3, ppsNs := now, ppsOff := off } }
      let d := if 3 ≤ n && !d.fbit R.CLK_STAT_PPS_OK then (d.fputB R.CLK_STAT_PPS_OK 0 true).event R.CLK_EVT_PPS_UP else d
      if bitAt (d.fget R.CLK_DISC_SRC) 1 then
        let d := { d with clk := { d.clk with e := wrapHalf (d.time.cyc * 15625 / 4608 + sub : Nat) } }
        (if d.fget R.CLK_STAT_DISC == 2 && d.ppsUsable && d.isJump d.phaseDiff then d.phaseJump else d).discShow
      else d
    else { d with clk := { d.clk with ppsValid := 0 } })

/-- PPS_MISSED (R447): an expected edge has not arrived by the end of its window (in the cycle after it, R7); MISS in a row lose PPS_IN. -/
def execPpsMissed (s : State) : Host.Outcome State Fault Refusal :=
  nextDev s (fun d =>
    let n := d.clk.ppsMiss + 1
    let gap := d.edgeNs 0 - d.clk.ppsNs
    if !d.clk.ppsSeen || gap ≤ n * 1000000000 + d.fget R.CLK_PPS_CFG_WIN * 10000 then d
    else if d.fget R.CLK_PPS_CFG_MISS ≤ n then
      let was := d.fbit R.CLK_STAT_PPS_OK
      let d := { d with clk := { d.clk with ppsMiss := 0, ppsValid := 0, ppsSeen := false } }
      if was then
        ((d.fputB R.CLK_STAT_PPS_OK 0 false).bumpEvt R.CLK_PPS_LOSSES_COUNT R.CLK_EVT_PPS_LOSS).coastCheck
      else d
    else { d with clk := { d.clk with ppsMiss := n, ppsValid := 0 } })

/-- A read of `CLK_PHASE_HI`, or of `CLK_THETA_HI` (`theta`), captures the LO half (R451). -/
def Dev.phaseCapture (d : Dev) (theta : Bool) : Dev :=
  if theta then d.fput R.CLK_THETA_LO_NS 0 (unsgn 32 d.clk.theta % 65536) else d.fput R.CLK_PHASE_LO_NS 0 (unsgn 32 d.clk.e % 65536)

/-! ### Clock outputs -/

/-- SEC_OK of output `k` (R457): an SPL output with SEC = 1 whose DIV divides 5,898,240,000. -/
def Dev.secOk (d : Dev) (k : Nat) : Bool :=
  !d.fbit R.CLKOUT_CFG_SRC k && d.fbit R.CLKOUT_CFG_SEC k && decide (5898240000 % (max (d.clkOut k).div 1) = 0)

/-- The place of cycle `c` on the grid of output `k`, in 1/64 VCO periods since its alignment edge G (R457): a device-time second boundary where
SEC_OK would read 1, else the start of the dividers after the latest lock. -/
def Dev.gridPos (d : Dev) (k : Nat) (c : Nat) : Int :=
  if d.fbit R.CLKOUT_CFG_SRC k then
    ((c : Int) - d.clk.apl.lockClk) * (if d.fbit R.CLK_APL_CFG_FAM then 2890137600 else 3145728000) * 64 / Config.sysPerSecond
  else if d.secOk k then ((c : Int) - (d.time.clk - d.time.cyc : Nat)) * 1280
  else ((c : Int) - d.clk.spl.lockClk) * 1280

/-- The first rising edge of output `k`, in 1/64 VCO periods on its grid (R457, R458): the first grid edge at least ceil(DIV / 2) VCO periods after the
boundary that enabled the output, or after the guard's release. -/
def Dev.firstEdge (d : Dev) (k : Nat) : Int :=
  let o := d.clkOut k
  let step : Int := 64 * (max o.div 1 : Nat)
  let ph : Int := 64 * o.coarse + d.fineNow k
  let least := d.gridPos k o.enClk + 64 * ((o.div + 1) / 2 : Nat)
  ph - (-(least - ph)) / step * step

/-- CLKOUT_START (R458): the first grid edge of an enabled output whose PLL is locked. The divider and the delay take the applied
values, and fine steps begin (R462). -/
def execClkoutStart (k : Fin 4) (s : State) : Host.Outcome State Fault Refusal :=
  nextDev s (fun d =>
    let p := if d.fbit R.CLKOUT_CFG_SRC k then Pll.apl else Pll.spl
    let d' := d.setClkOut k { d.clkOut k with div := d.fget R.CLKOUT_DIV_DIV k, coarse := d.fget R.CLKOUT_CFG_COARSE k, fineClk := d.time.clk }
    if d.fbit R.CLKOUT_CFG_EN k && d.fget R.CLKOUT_STAT_STATE k == 0 && d.fget (pllField p) == 2 &&
        decide (d'.firstEdge k ≤ d'.gridPos k d.time.clk) then
      (d'.fput R.CLKOUT_STAT_STATE k 1).fputB R.CLKOUT_STAT_SEC_OK k (d'.secOk k)
    else d)

/-- CLKOUT_FINE_WRITE (R460): the target is stored, and the output steps towards it from the phase in force. -/
def execClkoutFineWrite (k : Fin 4) (fine : Fin 64) (s : State) : Host.Outcome State Fault Refusal :=
  nextDev s (fun d => (d.fineRestart k).fput R.CLKOUT_FINE_FINE k fine)

/-- A running output leaves the grid it has: EN becomes 0, or it changes to another source or kind of grid. It completes its high phase and stays low
(R458). -/
def Dev.clkOutStop (d : Dev) (k : Nat) : Dev := ((d.fineRestart k).fput R.CLKOUT_STAT_STATE k 0).fputB R.CLKOUT_STAT_SEC_OK k false

/-- What an epoch does to clock output `k` (R458, R459, R462). DIV first: the low phase that follows lasts the longer of the old and the new one; the
stretch of COARSE is counted in the new DIV. A change of SRC or SEC stops a running output, and it starts anew on the new grid (log entry 57). -/
def Dev.clkOutApplied (old d : Dev) (k : Nat) : Dev :=
  let o := d.clkOut k
  let run := d.fget R.CLKOUT_STAT_STATE k != 0
  if !d.fbit R.CLKOUT_CFG_EN k then onlyIf run (fun d => d.clkOutStop k) d
  else if !old.fbit R.CLKOUT_CFG_EN k then
    let d := d.setClkOut k { o with enClk := d.time.clk }
    if d.outUnlocked k then d.guardHold k else d
  else if !run then d
  else if old.fget R.CLKOUT_CFG_SRC k != d.fget R.CLKOUT_CFG_SRC k || old.fget R.CLKOUT_CFG_SEC k != d.fget R.CLKOUT_CFG_SEC k then
    let d := d.clkOutStop k
    let d := d.setClkOut k { d.clkOut k with enClk := d.time.clk }
    if d.outUnlocked k then d.guardHold k else d
  else
    let div := d.fget R.CLKOUT_DIV_DIV k
    let c := d.fget R.CLKOUT_CFG_COARSE k
    let low := (o.div + 1) / 2 - (div + 1) / 2
    let delay := (((c : Int) - o.coarse) % (max div 1 : Nat)).toNat
    let stretch := if c = o.coarse && div = o.div then o.stretch else low + delay
    let d := d.fineRestart k
    let d := d.setClkOut k { d.clkOut k with div := div, coarse := c, stretch := stretch }
    d.fputB R.CLKOUT_STAT_SEC_OK k (d.secOk k)

/-- What the applied clock settings do at the boundary of R83, against the block `old` before it: REFMUL and FAM need a re-lock
(R439, R454), SRC restarts the loop (R450), and the clock outputs follow R458 and R459. -/
def Dev.clkApplied (old d : Dev) : Dev :=
  let d := onlyIf (old.fget R.CLK_SPL_CFG_REFMUL != d.fget R.CLK_SPL_CFG_REFMUL) (fun d => d.orderRelock .spl) d
  let d := onlyIf (old.fget R.CLK_APL_CFG_FAM != d.fget R.CLK_APL_CFG_FAM) (fun d => (d.orderRelock .apl).aplStopSequences) d
  let d := onlyIf (old.fget R.CLK_DISC_SRC != d.fget R.CLK_DISC_SRC) Dev.discRestart d
  d.each (List.range 4) (fun d k => Dev.clkOutApplied old d k)

end Sys2Proof.Machine
end

