-- ==== Sys2Proof/Machine/Rtc.lean ====
section
/-!
DEFINITION. The real-time clock and the backup domain (spec/16_rtc.md, R499 to R517).
-/
namespace Sys2Proof.Machine

/-- Change the RTC state. -/
def Dev.updRtc (d : Dev) (f : RtcSt → RtcSt) : Dev := { d with rtc := f d.rtc }

/-! ### Calendar -/

/-- A leap year of the calendar. -/
def leapYear (y : Nat) : Bool := decide (y % 4 = 0) && (decide (y % 100 ≠ 0) || decide (y % 400 = 0))

/-- Days of month `m` in year `y`. -/
def monthDays (y m : Nat) : Nat :=
  if m = 2 then (if leapYear y then 29 else 28) else if m = 4 || m = 6 || m = 9 || m = 11 then 30 else 31

/-- Days from 2000-01-01 to the first day of year `y`. -/
def yearDays (y : Nat) : Nat :=
  let k := y - 2000
  365 * k + (k + 3) / 4 - (k + 99) / 100 + (k + 399) / 400

/-- Days from 2000-01-01 to a date. -/
def dateDays (y m day : Nat) : Nat := yearDays y + ((List.range (m - 1)).map (fun i => monthDays y (i + 1))).foldl (· + ·) 0 + (day - 1)

/-- The weekday of a date: 1 Monday to 7 Sunday; 2000-01-01 was a Saturday (R500). -/
def weekday (y m day : Nat) : Nat := (dateDays y m day + 5) % 7 + 1

/-- The seconds of the calendar value since 2000-01-01T00:00:00 (R502). -/
def Dev.rtcSeconds (d : Dev) : Nat :=
  dateDays (d.fget R.RTC_YEAR_YEAR) (d.fget R.RTC_MW_MONTH) (d.fget R.RTC_HD_DAY) * 86400 + d.fget R.RTC_HD_HOUR * 3600 +
    d.fget R.RTC_MS_MIN * 60 + d.fget R.RTC_MS_SEC

/-- The calendar one day on. -/
def Dev.nextDay (d : Dev) : Dev :=
  let y := d.fget R.RTC_YEAR_YEAR
  let m := d.fget R.RTC_MW_MONTH
  let d' := (d.fput R.RTC_MW_WDAY 0 (d.fget R.RTC_MW_WDAY % 7 + 1)).fput R.RTC_HD_HOUR 0 0
  if d.fget R.RTC_HD_DAY < monthDays y m then d'.fput R.RTC_HD_DAY 0 (d.fget R.RTC_HD_DAY + 1)
  else if m < 12 then (d'.fput R.RTC_HD_DAY 0 1).fput R.RTC_MW_MONTH 0 (m + 1)
  else ((d'.fput R.RTC_HD_DAY 0 1).fput R.RTC_MW_MONTH 0 1).fput R.RTC_YEAR_YEAR 0 (y + 1)

/-- The calendar one second on. -/
def Dev.nextSecond (d : Dev) : Dev :=
  if d.fget R.RTC_MS_SEC < 59 then d.fput R.RTC_MS_SEC 0 (d.fget R.RTC_MS_SEC + 1)
  else
    let d := d.fput R.RTC_MS_SEC 0 0
    if d.fget R.RTC_MS_MIN < 59 then d.fput R.RTC_MS_MIN 0 (d.fget R.RTC_MS_MIN + 1)
    else
      let d := d.fput R.RTC_MS_MIN 0 0
      if d.fget R.RTC_HD_HOUR < 23 then d.fput R.RTC_HD_HOUR 0 (d.fget R.RTC_HD_HOUR + 1) else d.nextDay

/-- The last second that the calendar can hold (R501). -/
def Dev.rtcAtEnd (d : Dev) : Bool :=
  d.fget R.RTC_YEAR_YEAR == 2399 && d.fget R.RTC_MW_MONTH == 12 && d.fget R.RTC_HD_DAY == 31 && d.fget R.RTC_HD_HOUR == 23 &&
    d.fget R.RTC_MS_MIN == 59 && d.fget R.RTC_MS_SEC == 59

/-- Alarm `a` matches the count in every enabled field (R507). -/
def Dev.alarmMatch (d : Dev) (a : Nat) : Bool :=
  let ok (en val : Fld) (now : Nat) : Bool := !d.fbit en a || d.fget val a == now
  d.fbit R.RTC_ALM_HD_EN a && ok R.RTC_ALM_MS_MIN_EN R.RTC_ALM_MS_MIN (d.fget R.RTC_MS_MIN) &&
    ok R.RTC_ALM_MS_SEC_EN R.RTC_ALM_MS_SEC (d.fget R.RTC_MS_SEC) && ok R.RTC_ALM_HD_HOUR_EN R.RTC_ALM_HD_HOUR (d.fget R.RTC_HD_HOUR) &&
    ok R.RTC_ALM_HD_DAY_EN R.RTC_ALM_HD_DAY (d.fget R.RTC_HD_DAY)

/-- The alarms are compared (R507). -/
def Dev.alarms (d : Dev) : Dev :=
  let d := if d.alarmMatch 0 then d.event R.RTC_EVT_ALM0 else d
  if d.alarmMatch 1 then d.event R.RTC_EVT_ALM1 else d

/-! ### Trim measurement -/

/-- The Monitor class runs its bank image (R512). -/
def Dev.monitorRuns (d : Dev) : Bool := !bitAt d.boot.tadpole 6

/-- A disciplined measurement may run (R510). -/
def Dev.spanOk (d : Dev) : Bool :=
  bitAt (d.fget R.RTC_TRIM_CFG_SRC) 0 && d.monitorRuns && d.fget R.CLK_STAT_DISC == 2 && !d.fbit R.CLK_STAT_SLEWING && !d.splStopped

/-- Offset of a broadcast record in ms (R511): UTC in ms since MJD 0 against the RTC time at the record's stamp, from the nearer of the two
newest second ticks. -/
def ctOffset (ticks : List (Nat × Nat)) (rec : Nat × Nat) : Option Int :=
  match ticks with
  | [] => none
  | t0 :: rest =>
    let far (t : Nat × Nat) : Nat := ((rec.2 : Int) - t.2).natAbs
    let t := match rest with | t1 :: _ => if far t1 < far t0 then t1 else t0 | [] => t0
    some ((rec.1 : Int) - 51544 * 86400000 - ((t.1 : Int) * 1000 + ((rec.2 : Int) - t.2) * 1000 / 2 ^ 32))

/-- Monitor takes the offered clock-time records, the oldest first (R511). -/
def Dev.takeOffers (d : Dev) : Dev :=
  let offers := d.ctOffer.reverse
  let d := { d with ctOffer := [] }
  if !d.monitorRuns then d
  else
    d.each offers (fun d r =>
      match ctOffset d.rtc.ticks r with
      | none => d
      | some o =>
        let d := d.fput R.RTC_BOFS_OFS 0 (unsgn 16 (clampInt (-32767) 32767 (divNearInt o 10)))
        if bitAt (d.fget R.RTC_TRIM_CFG_SRC) 1 then d.updRtc (fun c => { c with
            recs := (r.2, o) :: c.recs, discApplied := c.discApplied && !c.recs.isEmpty }) else d)

/-- What Monitor does at a second tick: spans grow or are discarded; one of 1,000 seconds keeps the cycle in which it ended (R510, R511). -/
def Dev.secondTick (d : Dev) : Dev :=
  let d := d.updRtc (fun c => { c with
    ticks := ((d.rtcSeconds, d.time.stamp) :: c.ticks).take 2
    tickClk := if (c.span.map (·.1)).getD 0 < 1000 then d.time.clk else c.tickClk
    span := if !d.spanOk then none else match c.span with | none => some (0, d.time.clk) | some (n, t) => some (min (n + 1) 1001, t) })
  d.takeOffers

/-- Both spans are discarded (R510, R511). -/
def Dev.dropSpans (d : Dev) : Dev := { d.updRtc (fun c => { c with span := none, recs := [], discApplied := false }) with ctOffer := [] }

/-- Monitor writes `RTC_TRIM` (R510, R512). -/
def Dev.monitorTrim (d : Dev) (v : Int) : Dev := (d.fput R.RTC_TRIM_TRIM 0 (unsgn 16 (clampInt (-32000) 32000 v))).event R.RTC_EVT_TRIM

/-- TRIM_SPAN_END (R510): 1,000 RTC seconds of an undisturbed span have passed; a new span starts. -/
def execTrimSpanEnd (s : State) : Host.Outcome State Fault Refusal :=
  nextDev s (fun d =>
    match d.rtc.span with
    | none => d
    | some (n, t) =>
      let dur := d.rtc.tickClk - t
      if n < 1000 || dur = 0 then d
      else
        let r := divNearInt (((1000 * Config.sysPerSecond : Nat) - (dur : Int)) * 20000000) dur
        (d.monitorTrim (d.fgetI R.RTC_TRIM_TRIM - r)).updRtc (fun c => { c with span := if n = 1000 then some (0, c.tickClk) else none, discApplied := true }))

/-- The least-squares sums of R511, each times the number of records: n Σxy − Σx Σy, n Σxx − (Σx)², n Σyy − (Σy)². -/
def fitSums (recs : List (Nat × Int)) : Int × Int × Int :=
  let n : Int := recs.length
  let sum (f : Nat × Int → Int) : Int := (recs.map f).foldl (· + ·) 0
  let sx := sum (fun r => r.1)
  let sy := sum (fun r => r.2)
  (n * sum (fun r => r.1 * r.2) - sx * sy, n * sum (fun r => (r.1 : Int) * r.1) - sx * sx, n * sum (fun r => r.2 * r.2) - sy * sy)

/-- BROADCAST_TRIM_FIT (R511, R512): the records span DAYS days. -/
def execBroadcastTrimFit (s : State) : Host.Outcome State Fault Refusal :=
  nextDev s (fun d =>
    let recs := d.rtc.recs
    let span := match recs.head?, recs.getLast? with | some a, some b => a.1 - b.1 | _, _ => 0
    if !bitAt (d.fget R.RTC_TRIM_CFG_SRC) 1 || !d.monitorRuns || decide (span < d.fget R.RTC_TRIM_CFG_DAYS * 86400 * 2 ^ 32) then d
    else
      let n : Int := recs.length
      let (xy, xx, yy) := fitSums recs
      let good := decide (100 ≤ recs.length) && decide (0 < xx) && decide (yy * xx - xy * xy ≤ 40000 * n * n * xx) &&
        !(bitAt (d.fget R.RTC_TRIM_CFG_SRC) 0 && d.rtc.discApplied)
      let d := if good then d.monitorTrim (d.fgetI R.RTC_TRIM_TRIM - divNearInt (-(xy * 2 ^ 32 * 20000)) xx.toNat) else d
      d.updRtc (fun c => { c with recs := [], discApplied := false, span := if good then none else c.span }))

/-! ### Counting -/

/-- RTC_SECOND and CALENDAR_END (R501, R507): the sub-second count has wrapped. -/
def Dev.rtcSecond (d : Dev) : Dev :=
  if d.rtcAtEnd then ((d.fputB R.RTC_STAT_END 0 true).event R.RTC_EVT_END).alarms
  else d.nextSecond.alarms.secondTick

/-! ### Reading and setting -/

/-- The time registers, `RTC_SUB` to `RTC_YEAR`. -/
def Dev.rtcTime (d : Dev) : List Nat := (List.range 5).map (fun i => (smGet resetWord d.regs.imm (0xC0 + i)).toNat)

/-- A read of `RTC_SUB`, `RTC_MS`, `RTC_HD` or `RTC_MW` freezes all five time registers, unless they are frozen (R503). -/
def Dev.rtcFreeze (d : Dev) : Dev := d.updRtc (fun c => { c with shadow := some (c.shadow.getD d.rtcTime) })

/-- A read of `RTC_YEAR`, or the end of the transaction, releases them (R503). -/
def Dev.rtcRelease (d : Dev) : Dev := d.updRtc (fun c => { c with shadow := none })

/-- The third BKP32 edge after the present cycle (R504): 9,000 SYS cycles to a cycle of BKP32. -/
def Dev.bkpEdge (d : Dev) : Nat := d.rtc.edge + 9000 * (d.since d.rtc.edge / 9000 + 3)

/-- A write sets out for the backup domain; BUSY reads 1 until it has arrived (R504). -/
def Dev.rtcSend (d : Dev) (what word : Nat) : Dev :=
  (d.updRtc (fun c => { c with transit := c.transit ++ [⟨what, word, d.bkpEdge⟩] })).fputB R.RTC_CTL_BUSY 0 true

/-- The halt takes effect (R504): the chain has stopped; spans are discarded (R510, R511). -/
def Dev.rtcHalted (d : Dev) : Dev := (d.fputB R.RTC_CTL_HALTED 0 true).dropSpans

/-- Counting resumes with the prescaler and the sub-seconds at 0, which sets the RTC (R24, R500, R504, R505). -/
def Dev.rtcResumed (d : Dev) (edge : Nat) : Dev :=
  if !d.fbit R.RTC_CTL_HALTED then d
  else
    let y := d.fget R.RTC_YEAR_YEAR
    let m := d.fget R.RTC_MW_MONTH
    let day := min (d.fget R.RTC_HD_DAY) (monthDays y m)
    let d := ((d.fput R.RTC_HD_DAY 0 day).fput R.RTC_MW_WDAY 0 (weekday y m day)).fput R.RTC_SUB_SUB 0 0
    let d := (d.fputB R.RTC_CTL_HALTED 0 false).fputB R.RTC_STAT_END 0 false
    { d.updRtc (fun c => { c with ticks := [], edge := edge }) with time := { d.time with secPending := some d.rtcSeconds } }

/-- A time register takes a write that has arrived (R505): only while halted, each field clamped. -/
def Dev.rtcStore (d : Dev) (reg : Nat) (w : Word) : Dev :=
  if !d.fbit R.RTC_CTL_HALTED then d
  else
    match reg with
    | 0 => (d.fput R.RTC_MS_MIN 0 (min (bitsOf w 13 8) 59)).fput R.RTC_MS_SEC 0 (min (bitsOf w 5 0) 59)
    | 1 => (d.fput R.RTC_HD_HOUR 0 (min (bitsOf w 12 8) 23)).fput R.RTC_HD_DAY 0 (clampNat 1 31 (bitsOf w 4 0))
    | 2 => d.fput R.RTC_MW_MONTH 0 (clampNat 1 12 (bitsOf w 3 0))
    | _ => d.fput R.RTC_YEAR_YEAR 0 (clampNat 2000 2399 (bitsOf w 11 0))

/-- One write arrives (R504 to R506). -/
def Dev.rtcArrive (d : Dev) (m : RtcMove) : Dev :=
  match m.what with
  | 4 => d.rtcHalted
  | 5 => d.rtcResumed m.due
  | 6 => d
  | k => d.rtcStore k (BitVec.ofNat 16 m.word)

/-- The writes whose BKP32 edge has come by cycle `t` take effect, in the order in which they were written (R506). -/
def Dev.rtcSettleTo (d : Dev) (t : Nat) : Dev :=
  let due := d.rtc.transit.filter (fun m => decide (m.due ≤ t))
  if due.isEmpty then d
  else
    let rest := d.rtc.transit.filter (fun m => !decide (m.due ≤ t))
    ((d.updRtc (fun c => { c with transit := rest })).each due Dev.rtcArrive).fputB R.RTC_CTL_BUSY 0 (!rest.isEmpty)

/-- The writes that have arrived by the present cycle take effect. -/
def Dev.rtcSettle (d : Dev) : Dev := d.rtcSettleTo d.time.clk

/-- A write of HALT = 1 (R504). -/
def Dev.rtcHalt (d : Dev) : Dev := (d.rtcSettle.fputB R.RTC_CTL_HALT 0 true).rtcSend 4 0

/-- RTC_HALT (R504). -/
def execRtcHalt (s : State) : Host.Outcome State Fault Refusal := nextDev s Dev.rtcHalt

/-- A write of HALT = 0 (R504): counting resumes on the third BKP32 edge after it. -/
def Dev.rtcResume (d : Dev) : Dev := (d.rtcSettle.fputB R.RTC_CTL_HALT 0 false).rtcSend 5 0

/-- RTC_RESUME (R504). -/
def execRtcResume (s : State) : Host.Outcome State Fault Refusal := nextDev s Dev.rtcResume

/-- A write of `RTC_MS`, `RTC_HD`, `RTC_MW` or `RTC_YEAR` (R505). -/
def Dev.rtcWrite (d : Dev) (reg : Nat) (w : Word) : Dev := d.rtcSettle.rtcSend reg w.toNat

/-- RTC_TIME_WRITE (R505): register `RTC_MS` + `reg`. -/
def execRtcTimeWrite (reg : Fin 4) (value : BitVec 16) (s : State) : Host.Outcome State Fault Refusal :=
  nextDev s (fun d => d.rtcWrite reg value)

/-- `cycles` cycles of the 32.768 kHz oscillator since the last tick, which end the present tick of 1/256 s where they are as many as the
trim accumulator makes it last. A halt that takes effect in the same cycle lets the carry complete first (R504, R517). -/
def Dev.rtcTick (d : Dev) (cycles : Nat) : Dev :=
  if !d.fbit R.RTC_STAT_RUN || d.fbit R.RTC_CTL_HALTED || d.fbit R.RTC_STAT_END then d
  else
    let a := d.rtc.acc + d.fgetI R.RTC_TRIM_TRIM * 128
    let (a, len) := if 20000000 ≤ a then (a - 20000000, 127) else if a ≤ -20000000 then (a + 20000000, 129) else (a, 128)
    if cycles < len then d
    else
      let d := d.updRtc (fun c => { c with acc := a, tick := len, edge := d.time.clk })
      let sub := d.fget R.RTC_SUB_SUB
      if sub < 255 then d.fput R.RTC_SUB_SUB 0 (sub + 1) else (d.fput R.RTC_SUB_SUB 0 0).rtcSecond

/-- RTC_TICK (R509). -/
def execRtcTick (cycles : Nat) (s : State) : Host.Outcome State Fault Refusal :=
  nextDev s (fun d => ((d.rtcSettleTo (d.time.clk - 1)).rtcTick cycles).rtcSettle)

/-- A write of `RTC_TRIM` by the host (R509 to R511); trim, alarms and backup RAM take the value with the write, and BUSY tells of its transit (log
entry 59). -/
def Dev.rtcTrim (d : Dev) (w : Word) : Dev :=
  (d.rtcSettle.fput R.RTC_TRIM_TRIM 0 (unsgn 16 (clampInt (-32000) 32000 w.toInt))).dropSpans.rtcSend 6 0

/-- RTC_TRIM_WRITE (R509). -/
def execRtcTrimWrite (value : BitVec 16) (s : State) : Host.Outcome State Fault Refusal := nextDev s (fun d => d.rtcTrim value)

/-! ### Backup domain -/

/-- A write of 1 to OSF (R513). -/
def Dev.osfClear (d : Dev) : Dev := if d.fbit R.RTC_STAT_RUN then d.fputB R.RTC_STAT_OSF 0 false else d

/-- OSF_CLEAR (R513). -/
def execOsfClear (s : State) : Host.Outcome State Fault Refusal := nextDev s Dev.osfClear

/-- A write of backup RAM (R516). -/
def Dev.bramWrite (d : Dev) (i : Nat) (w : Word) : Dev :=
  ((d.rtcSettle.fput R.RTC_BRAM_DATA i w.toNat).fputB R.RTC_STAT_RAM_VALID 0 true).rtcSend 6 0

/-- BACKUP_RAM_WRITE (R516). -/
def execBackupRamWrite (i : Fin 32) (value : BitVec 16) (s : State) : Host.Outcome State Fault Refusal :=
  nextDev s (fun d => d.bramWrite i value)

/-- OSCILLATOR_STOP (R513): the running oscillator shows no edge for 1 ms. -/
def execOscillatorStop (s : State) : Host.Outcome State Fault Refusal :=
  nextDev s (fun d =>
    if d.fbit R.RTC_STAT_RUN && decide (d.since d.rtc.edge < Config.sysPerMs) then d
    else ((d.fputB R.RTC_STAT_RUN 0 false).fputB R.RTC_STAT_OSF 0 true).event R.RTC_EVT_OSF)

/-- OSCILLATOR_START (R516): the crystal runs, and the calendar advances. -/
def execOscillatorStart (s : State) : Host.Outcome State Fault Refusal :=
  nextDev s (fun d => (d.updRtc (fun c => { c with edge := d.time.clk })).fputB R.RTC_STAT_RUN 0 true)

/-- The registers of the backup domain, whole (R499): all of the RTC block but `RTC_TRIM_CFG`, `RTC_EVT` and `RTC_EVM`. -/
def isBackup (idx : Nat) : Bool := decide (0xC0 ≤ idx) && decide (idx ≤ 0xFF) && idx != 0xC8 && idx != 0xCA && idx != 0xCB

/-- Bits of `RTC_EVT` that lie in the backup domain. -/
def backupEvt : Nat := 0x47

/-- The backup-domain power-on reset (R499, R513 to R515): every field of the backup domain takes its reset value, OSF is set. -/
def Dev.backupPor (d : Dev) : Dev :=
  let evt := d.fget R.RTC_EVT
  let d := { d with regs := { d.regs with imm := smDrop isBackup d.regs.imm }, rtc := { cold := true }, ctOffer := [] }
  (d.fput R.RTC_EVT 0 (evt - (evt &&& backupEvt))).event R.RTC_EVT_OSF

/-- BACKUP_POR (R514, R515): both supplies have fallen below 1.5 V. -/
def execBackupPor (s : State) : Host.Outcome State Fault Refusal := nextDev s Dev.backupPor

/-- VBAT_LOW (R516): `VBAT` in mV. -/
def execVbatLow (mv : Nat) (s : State) : Host.Outcome State Fault Refusal :=
  nextDev s (fun d =>
    let low := decide (mv < 2000)
    let was := d.fbit R.RTC_STAT_VBAT_LOW
    let d := d.fputB R.RTC_STAT_VBAT_LOW 0 low
    if low && !was then d.event R.RTC_EVT_VBAT_LOW else d)

/-- BACKUP_SUPPLY_SWITCH (R514): both supplies in mV; the higher one, with 50 mV of hysteresis; both below 1.5 V fire the reset. -/
def execBackupSupplySwitch (vbat vdda18 : Nat) (s : State) : Host.Outcome State Fault Refusal :=
  nextDev s (fun d =>
    let d := if vbat < 1500 && decide (vdda18 < 1500) then d.backupPor else d
    if d.fbit R.RTC_STAT_SUPPLY then d.fputB R.RTC_STAT_SUPPLY 0 (decide (vdda18 ≤ vbat + 50))
    else d.fputB R.RTC_STAT_SUPPLY 0 (decide (vdda18 + 50 < vbat)))

end Sys2Proof.Machine
end

