-- ==== Sys2Proof/Machine/Recov.lean ====
section
/-!
DEFINITION. What the restart of a fault domain or the reload of an engine does to the blocks it holds, and the reset controller's
assertion of the main reset (spec/19_reliability_moult_log.md, R574 to R579; spec/18_power_reset.md, R555 to R557, R601).
-/
namespace Sys2Proof.Machine

/-! ### The main reset -/

/-- Registers that the main reset does not touch: the backup domain (R499), and the levels of pins and supplies that
`PWR_STAT`, `GPIO_IN`, `FSP_STAT.RDY`, `CX_STAT.ACT` and `CX_STAT.GNT` report. -/
def Dev.resetRegs (d : Dev) : RegFile :=
  let kept := smDrop (fun k => !(isBackup k || k == 0x44 || k == 0x2D1)) d.regs.imm
  let imm := smSet resetWord kept 0xCA (BitVec.ofNat 16 (d.fget R.RTC_EVT &&& backupEvt))
  { imm := imm }

/-- Assert the main reset (R555, R557): every register outside PD0 takes its reset value and every engine stops. The backup domain,
the temperature sensors (R558), the supplies and the test access port (R609) go on. -/
def Dev.mainReset (d : Dev) : Dev :=
  let act := d.fbit R.CX_STAT_ACT
  let gnt := d.fbit R.CX_STAT_GNT
  let rdy := d.fbit R.FSP_STAT_RDY
  let e : Dev := { regs := d.resetRegs, time := { clk := d.time.clk }, freeIdx := d.freeIdx }
  let e := { e with
    pwr := { d.pwr with doms := [], soft := false }, tmp := d.tmp
    pin := { d.pin with pps := false }
    rtc := { d.rtc with shadow := none, ticks := [], span := none, recs := [], discApplied := false }
    cx := { blank := act, rel := d.time.clk } }
  (((e.fput R.PWR_STAT_VDD08 0 0).fputB R.CX_STAT_ACT 0 act).fputB R.CX_STAT_GNT 0 gnt).fputB R.FSP_STAT_RDY 0 rdy

/-- For how many SYS cycles a cause without an end of its own holds the reset (the table of causes): 4,096 XO cycles after a loss of the XO, 10 µs for
watchdog escalation and software. -/
def causeHold (c : Nat) : Nat := if c = 3 then 6 * 4096 else if c = 5 ∨ c = 6 then usCycles 10 else 0

/-- Assert reset cause `c` of the table; `hold`: it holds the reset until an event of its own ends it. -/
def Dev.assertCause (d : Dev) (c : Nat) (hold : Bool) : Dev :=
  let d := if d.boot.phase = .inReset then d else d.mainReset
  { d with pwr := { d.pwr with
    seen := d.pwr.seen ||| 2 ^ c, active := if hold then d.pwr.active ||| 2 ^ c else d.pwr.active
    endClk := max d.pwr.endClk (d.time.clk + causeHold c) } }

/-- Reset cause `c` ends. -/
def Dev.endCause (d : Dev) (c : Nat) : Dev :=
  { d with pwr := { d.pwr with active := d.pwr.active - (d.pwr.active &&& 2 ^ c), endClk := max d.pwr.endClk d.time.clk } }

/-! ### Items -/

/-- Items of the RECOVERY record: 2 FMC, 3 AMC, 4 DBE, 5 I/Q tap, 6 DSC, 7 port. -/
def itemPool (item : Nat) : Nat := match item with | 2 => 0 | 3 => 1 | 4 => 2 | 5 => 3 | _ => 4

/-- The item is in operation: a restart has something to do. -/
def Dev.itemUp (d : Dev) (item index : Nat) : Bool :=
  if item = 7 then d.portState index == 3
  else if item = 6 then d.dscUp index
  else decide (2 ≤ item) && decide (item ≤ 5) && (d.ctxState (itemPool item) index == 3 || d.ctxState (itemPool item) index == 2)

/-- A single context restarts (R574): it passes through START, a DSC entry through WAIT; a context of DAB loses its lock. -/
def Dev.itemRestart (d : Dev) (item index : Nat) : Dev :=
  if !d.itemUp item index then d
  else if item = 7 then d.portRestart index
  else if item = 6 then ((d.dscFree index).dscWait index).dabCounts
  else
    let d := d.updCtx (itemPool item) index (fun c => { c with restart := true })
    if item = 4 then d.dabSearch index else d

/-! ### Engines -/

/-- A Gecko engine is reloaded (R575): each of its programmes keeps its active source with K_p and pages; other sources return to PENDING. -/
def Dev.geckoReload (d : Dev) (g : Nat) : Dev :=
  d.each ((List.range 64).map (· + 64 * g)) (fun d p =>
    if !(d.prgOf p).on then d
    else
      d.each ((d.srcIdx p).filter (fun i => (d.prgOf p).active != some i && (d.srcOf p i).align != 0)) (fun d i =>
        ((d.pagesBack p i (d.srcOf p i).pages).setAlign p i 1).updSrc p i (fun s => { s with lag := none })))

/-- Eft is reloaded (R575): every database entry is stale and is renewed as at a re-lock with the same EId. -/
def Dev.eftReload (d : Dev) : Dev :=
  d.each ((List.range 41).filter (fun n => (d.dbeOf n).haveEid)) (fun d n =>
    (d.dbStale n).updDbe n (fun e => { e with sameEid := d.locked n }))

/-- Engine `e` of the table of R572 is reloaded and starts at its entry address (R574, R575). The datapaths that it steers go on (R29), and
the registers and tables of the other engines are kept. -/
def Dev.engineReload (d : Dev) (e : Nat) : Dev :=
  if e = 1 ∨ e = 2 then d.geckoReload (e - 1) else if e = 3 then d.eftReload else d

/-! ### Fault domains -/

/-- The fault domain that holds engine `e`: 1 FM/AM fabric, 2 DAB cluster, 3 audio fabric, 5 site link; none for Anole and Monitor (R573). -/
def engineDomain (e : Nat) : Option Nat :=
  if e = 1 ∨ e = 2 then some 1 else if 3 ≤ e ∧ e ≤ 7 then some 2 else if e = 8 ∨ e = 9 then some 3 else if e = 10 then some 5 else none

/-- The FM/AM fabric restarts: every FM and AM context and I/Q tap passes through START, and the delay memory loses its content. -/
def Dev.fabricRestart (d : Dev) : Dev :=
  let d := d.each (ctxAll (fun pool n => pool != 2 && (d.ctxState pool n == 2 || d.ctxState pool n == 3))) (fun d p =>
    d.updCtx p.1 p.2 (fun c => { c with restart := true }))
  (d.geckoReload 0).geckoReload 1 |>.prgRelock

/-- The DAB cluster restarts: every DBE context passes through START with a stale database, and DSC entries go to WAIT by R259. -/
def Dev.dabRestart (d : Dev) : Dev :=
  let d := d.each ((List.range 41).filter (fun n => d.ctxState 2 n == 2 || d.ctxState 2 n == 3)) (fun d n =>
    (d.updCtx 2 n (fun c => { c with restart := true })).dabSearch n)
  d.each ((List.range 48).filter d.dscUp) (fun d n => (d.dscFree n).dscTo n 1)

/-- The audio fabric and the ports restart: ports pass through START, mixes ramp in by R409. -/
def Dev.audioRestart (d : Dev) : Dev := (d.each (List.range 3) (fun d n => d.portRestart n)).mixRestart

/-- Fault domain `c` of R574 restarts. -/
def Dev.domainRestart (d : Dev) (c : Nat) : Dev :=
  match c with
  | 1 => d.fabricRestart
  | 2 => d.dabRestart
  | 3 => d.audioRestart
  | 4 => d.fspRestart
  | 5 => d.slkRestart
  | _ => d

/-! ### The epoch in flight -/

/-- An FIC stream whose selection ends completes the packet it assembles (R338). -/
def Dev.dabApplied (old d : Dev) : Dev :=
  d.each ((List.range 41).filter (fun n => old.fbit R.DBE_CTL_FIC_OUT n && !d.fbit R.DBE_CTL_FIC_OUT n && !(d.dbeOf n).fic.isEmpty))
    (fun d n => d.ficPacket n true)

/-- What the applied settings of a block do at its boundary, against the block `old` before it; those of the control plane follow in Epoch.lean. -/
def Dev.blockApplied (old d : Dev) : EpochUnit → Dev
  | .control => d
  | .rf => Dev.rdsApplied old (Dev.bicApplied old (Dev.scnApplied old (Dev.scnApplied old (Dev.afeApplied old (Dev.afeApplied old d.shedWatch 0) 1) 0) 1))
  | .dab => Dev.dabApplied old d
  | .dsc n => d.dscIdle n
  | .prg => Dev.prgApplied old d
  | .aud => Dev.mixApplied old (Dev.codApplied old d)
  | .prt => d.prtApplied
  | .port n => Dev.portApplied old d n
  | .spd => d.spdApplied
  | .fsp => Dev.fspApplied old d
  | .slk => d.slkApplied

/-- Block `u` takes its part of the last committed epoch (R84): all its changes at one boundary. What they do in the block touches
immediate registers only. -/
def Dev.unitTake (d : Dev) (u : EpochUnit) (applied : Dev → Dev → Dev) : Dev :=
  let regs := { d.regs with applied := smTake resetWord (fun k => unitOf k == u) d.regs.applied d.regs.committed }
  let epoch := { d.epoch with waiting := d.epoch.waiting.filter (· != u), bad := d.epoch.bad.filter (fun k => unitOf k != u) }
  let e := applied d { d with regs := regs, epoch := epoch }
  { e with regs := { regs with imm := e.regs.imm }, epoch := epoch }

/-- The block `u` belongs to fault domain `c`, with item and index for a single context or an engine (R574). -/
def unitIn (c item index : Nat) (u : EpochUnit) : Bool :=
  if c = 0 then
    (match u with
     | .rf => item == 2 || item == 3 || item == 5
     | .dab => item == 4
     | .dsc n => item == 6 && index == (n : Nat)
     | .port n => item == 7 && index == (n : Nat)
     | _ => false)
  else
    let e := if c = 6 then index else 0
    (match u with
     | .rf => c == 1 || c == 7
     | .prg => c == 1 || c == 7 || e == 1 || e == 2
     | .dab => c == 2 || c == 7 || (decide (3 ≤ e) && decide (e ≤ 7))
     | .dsc _ => c == 2 || c == 7 || (decide (4 ≤ e) && decide (e ≤ 7))
     | .aud => c == 3 || c == 7 || e == 8 || e == 9
     | .prt => c == 3 || c == 7
     | .port _ => c == 3 || c == 7
     | .spd => c == 3 || c == 7
     | .fsp => c == 4 || c == 7
     | .slk => c == 5 || c == 7 || e == 10
     | .control => c == 7)

/-- What restarts comes up with the epoch in flight applied in full (R91): its blocks take it from the epoch store as the restart begins, which waits for
no flash request. -/
def Dev.epochInto (d : Dev) (c item index : Nat) : Dev :=
  d.each (d.epoch.waiting.filter (fun u => u != .control && unitIn c item index u)) (fun d u => d.unitTake u (fun old d => Dev.blockApplied old d u))

/-! ### Recoveries -/

/-- The fault domain that contains an engine or an item (R574). -/
def outerDomain (domain item index : Nat) : Option Nat :=
  if domain = 6 then engineDomain index
  else if domain = 0 then (match item with | 2 => some 1 | 3 => some 1 | 5 => some 1 | 4 => some 2 | 6 => some 2 | 7 => some 3 | _ => none)
  else none

/-- A recovery `r` that runs contains the domain (R579). -/
def RecovSt.contains (r : RecovSt) (domain item index : Nat) : Bool :=
  !r.done && domain != 7 && (r.domain == 7 || outerDomain domain item index == some r.domain)

/-- A source of a programme lies in what restarts (R574, R582): a context, a subchannel, an input of the audio fabric, or the delay memory. -/
def Dev.lossOf (d : Dev) (domain item index : Nat) (ref : Nat × Nat × Nat) : Bool :=
  let (kind, arg, sid) := ref
  let dsc := kind == 3 && (d.srcDsc arg sid).isSome
  match domain with
  | 1 => true
  | 7 => true
  | 2 => dsc
  | 3 => decide (4 ≤ kind) && kind != 9
  | 6 => decide (3 ≤ index) && decide (index ≤ 7) && dsc
  | 0 =>
    match item with
    | 2 => kind == 1 && arg == index
    | 3 => kind == 2 && arg == index
    | 4 => kind == 3 && arg == index
    | 6 => kind == 3 && d.srcDsc arg sid == some index
    | 7 => decide (4 ≤ kind) && kind != 9
    | _ => false
  | _ => false

/-- The programmes whose output a recovery may cost: enabled, playing, and fed by what restarts. -/
def Dev.lossWatch (d : Dev) (domain item index : Nat) : List (Nat × Nat) :=
  (d.prgLive.filter (fun p => !(d.prgOf p).gap &&
    (((d.prgOf p).active.bind (d.srcRef p)).any (fun r => d.lossOf domain item index r)))).map (fun p => (p, 0))

/-- A recovery begins; the smaller ones that it contains form no record of their own (R579). -/
def Dev.recovBegin (d : Dev) (domain cause item index : Nat) : Dev :=
  let r : RecovSt := {
    domain := domain, cause := cause, item := item, index := index, detect := d.time.stamp, clk := d.time.clk, acted := decide (domain ≤ 5)
    done := false, duration := 0, epoch := 0, watch := d.lossWatch domain item index }
  let rest := d.mon.recov.filter (fun x => x.done || !(domain == 7 || outerDomain x.domain x.item x.index == some domain))
  { d with mon := { d.mon with recov := rest ++ [r] } }

/-- The key under which the last restart of a domain or reload of an engine stands. -/
def recovKey (domain item index : Nat) : Nat :=
  if domain = 6 then index else if domain = 0 then 4096 + item * 256 + index else 16 + domain

/-- It has restarted within the last `sec` seconds. -/
def Dev.restarted (d : Dev) (domain item index sec : Nat) : Bool :=
  let t := smGet (fun _ => 0) d.mon.last (recovKey domain item index)
  t != 0 && decide (d.time.clk + 1 - t ≤ sec * Config.sysPerSecond)

/-- Note the present restart. -/
def Dev.noteRestart (d : Dev) (domain item index : Nat) : Dev :=
  { d with mon := { d.mon with last := smSet (fun _ => 0) d.mon.last (recovKey domain item index) (d.time.clk + 1) } }

/-- A full warm restart is called for (R573): a second one within 600 s becomes a reset with cause 5; so does a fault that calls for one during it (R579),
unless it is of the same cycle. -/
def Dev.faultWarm (d : Dev) (cause : Nat) : Dev :=
  if d.mon.recov.any (fun r => r.domain == 7 && !r.done && r.clk == d.time.clk) then d
  else if d.restarted 7 0 0 600 then (d.event R.MON_EVT_ESCALATE).assertCause 5 false
  else
    let d := (d.noteRestart 7 0 0).recovBegin 7 cause 0 0
    { d with mon := { d.mon with warm := some cause } }

/-- A fault domain, or a single item, is called to restart (R573, R574): the second within W becomes a full warm restart. -/
def Dev.faultDomain (d : Dev) (c cause item index : Nat) : Dev :=
  if d.mon.recov.any (fun r => r.contains c item index) then d
  else if d.restarted c item index (d.fget R.MON_CFG_WIN) then (d.event R.MON_EVT_ESCALATE).faultWarm 3
  else
    let d := ((d.noteRestart c item index).recovBegin c cause item index).epochInto c item index
    if c = 0 then d.itemRestart item index else d.domainRestart c

/-- An engine is called to be reloaded (R572, R573): the second reload within W becomes a restart of its fault domain. A watchdog trip
and an uncorrectable error of the same cycle are one reload, with cause 0x01 (R594). -/
def Dev.faultEngine (d : Dev) (e cause : Nat) : Dev :=
  let same (r : RecovSt) : Bool := !r.done && r.domain == 6 && r.index == e && r.clk == d.time.clk
  if d.mon.recov.any same then
    { d with mon := { d.mon with recov := d.mon.recov.map (fun r => if same r && cause == 1 then { r with cause := 1 } else r) } }
  else if d.mon.recov.any (fun r => r.contains 6 1 e) then d
  else if d.restarted 6 1 e (d.fget R.MON_CFG_WIN) then
    let d := d.event R.MON_EVT_ESCALATE
    match engineDomain e with
    | some c => d.faultDomain c 3 0 0
    | none => d.faultWarm 3
  else (d.noteRestart 6 1 e).recovBegin 6 cause 1 e

end Sys2Proof.Machine
end

