-- ==== Sys2Proof/Machine/Domain.lean ====
section
/-!
DEFINITION. Power domains: orders, dependencies, transitions, and what stops and starts with a domain (spec/18_power_reset.md, R561 to
R567; spec/01_architecture.md, R38 to R40).
-/
namespace Sys2Proof.Machine

/-- The transition state of domain `pd`. -/
def Dev.domOf (d : Dev) (pd : Nat) : DomSt := smGet (fun _ => {}) d.pwr.doms pd

/-- Change the transition state of domain `pd`. -/
def Dev.updDom (d : Dev) (pd : Nat) (f : DomSt → DomSt) : Dev :=
  { d with pwr := { d.pwr with doms := smSet (fun _ => {}) d.pwr.doms pd (f (d.domOf pd)) } }

/-- Set the state of domain `pd` in `PWR_DOM_STAT`. -/
def Dev.setDom (d : Dev) (pd st : Nat) : Dev :=
  let w := d.fget R.PWR_DOM_STAT_STATE
  d.fput R.PWR_DOM_STAT_STATE 0 (w - d.domState pd * 4 ^ (pd - 2) + st * 4 ^ (pd - 2))

/-- The order for domain `pd` (R561, R562): before the release of the engines PD4 to PD7 are ordered ON; in mode 0b10 an order of OFF for PD4
to PD7 is applied as RETAIN. -/
def Dev.domOrder (d : Dev) (pd : Nat) : Nat :=
  match d.boot.phase with
  | .inReset => 0
  | .romHold => 0
  | .released =>
    let o := min 2 (d.fget R.PWR_DOM / 4 ^ (pd - 2) % 4)
    if 4 ≤ pd && o == 0 && d.fget R.BOOT_STAT_MODE == 2 then 1 else o
  | _ => if 4 ≤ pd then 2 else 0

/-- The domain that PD5 needs is ON and ordered ON. -/
def Dev.domNeeds (d : Dev) (pd : Nat) : Bool := pd != 5 || (d.domOrder 4 == 2 && d.domOn 4)

/-- The state that domain `pd` is to reach under its order and R38. -/
def Dev.domWant (d : Dev) (pd : Nat) : Nat := if d.domOrder pd = 2 && !d.domNeeds pd then 1 else d.domOrder pd

/-- The blocks of a domain begin to stop as it leaves ON (R563). -/
def Dev.domStop (d : Dev) (pd : Nat) : Dev :=
  match pd with
  | 2 => d.afeStop 0
  | 3 => d.afeStop 1
  | 4 => d.fspHalt
  | 5 =>
    let d := d.each (List.range 41) (fun d n => if d.dbeSync n = 0 then d else d.dabSearch n)
    (d.each ((List.range 48).filter d.dscUp) (fun d n => d.dscLost n)).dabCounts
  | 6 => ({ d with cod := { d.cod with leaving := true } }).codUpdate.prtHold
  | _ => d

/-- Every context and subchannel ends with PD4 (R563, R565); outside RUN the measurements of a block read 0x8000 (R205). -/
def Dev.contextsEnd (d : Dev) : Dev :=
  let d := d.ctxStopAll [0, 1, 2, 3]
  let d := d.each (List.range 256) (fun d n => d.fmBlankMeas n)
  let d := d.each (List.range 160) (fun d n => (d.amBlankMeas n).updAm n (fun a => { a with sqSum := 0, sqN := 0, blanks := 0 }))
  let d := d.each (List.range 41) (fun d n => (d.dabSearch n).dbClear n)
  let d := d.each ((List.range 48).filter (fun n => d.dscState n != 0)) (fun d n => d.dscOff n)
  d.updDom 4 (fun s => { s with stopping := false, clk := d.time.clk })

/-- The blocks of a domain that leaves ON have stopped; what closes the stop. -/
def Dev.domStopped (d : Dev) (pd : Nat) : Dev :=
  let fin (d : Dev) : Dev := d.updDom pd (fun s => { s with stopping := false, clk := d.time.clk })
  match pd with
  | 4 => if d.splStopped then d.contextsEnd else d
  | 6 => if d.codStopped && d.prtStopped then fin d.prtDown else d
  | 7 => if d.slkBusy then d else fin d.slkDown
  | _ => fin d

/-- Begin the transition of domain `pd` to state `g` (R566). -/
def Dev.domBegin (d : Dev) (pd g : Nat) : Dev :=
  let old := d.domState pd
  let d := d.updDom pd (fun s => { s with goal := some g, old := old, clk := d.time.clk, stopping := old == 2 && decide (4 ≤ pd), held := s.held && g == 1 })
  let d := d.setDom pd 3
  if old = 2 then d.domStop pd else d

/-- A domain that is ordered ON and stands in RETAIN for want of the domain it needs is reported once (R38). -/
def Dev.domHeld (d : Dev) (pd : Nat) : Dev :=
  let s := d.domOf pd
  if s.goal.isNone && d.domState pd == 1 && d.domOrder pd == 2 && !d.domNeeds pd then
    (if s.held then d else (d.event R.PWR_EVT_DOM_HELD).updDom pd (fun s => { s with held := true }))
  else if d.domOrder pd = 2 || s.goal.isSome then d
  else d.updDom pd (fun s => { s with held := false })

/-- Domain `pd` may begin its transition now: PD4 leaves ON only after PD5 has left it (R38); a held domain waits for
DOMAIN_HELD_RELEASE. -/
def Dev.domMay (d : Dev) (pd : Nat) : Bool :=
  (d.domOf pd).goal.isNone && d.domState pd != d.domWant pd && !((d.domOf pd).held && d.domWant pd == 2) &&
    !(pd == 4 && d.domOn 4 && (d.domState 5 == 2 || d.domState 5 == 3))

/-- Begin every transition that the orders in force ask for. -/
def Dev.domDrive (d : Dev) : Dev :=
  d.each [5, 4, 2, 3, 6, 7] (fun d pd => (if d.domMay pd then d.domBegin pd (d.domWant pd) else d).domHeld pd)

/-- Some ordered transition has not yet begun (R566). -/
def Dev.domPending (d : Dev) : Bool :=
  [2, 3, 4, 5, 6, 7].any (fun pd => (d.domOf pd).goal.isNone && d.domState pd != d.domWant pd && !(d.domOf pd).held)

/-- The shortest time of a transition in SYS cycles (the domain table). -/
def domCycles (pd old : Nat) : Nat :=
  if old ≠ 0 then Config.sysPerMs / 10 else if pd = 4 then msCycles 4 else if pd = 5 then msCycles 3 else msCycles 1

/-- The engines of a domain are loaded again as it leaves OFF (R562). -/
def Dev.domReload (d : Dev) (pd : Nat) : Dev :=
  match pd with
  | 4 => (d.engineReload 1).engineReload 2
  | 5 => d.engineReload 3
  | _ => d

/-- The domain that holds the staged register at `idx` (the domain table); those of BIC serve both inputs and stay with PD1 (DESIGN CHOICE, log
entry 51). -/
def unitDomain (idx : Nat) : Nat :=
  match unitOf idx with
  | .control => 1
  | .rf => if idx < 0x340 then 2 else if idx < 0x380 then 3 else if idx < 0x3C0 then 1 else 4
  | .dab => 5
  | .dsc _ => 5
  | .prg => 4
  | .fsp => 4
  | .aud => 6
  | .prt => 6
  | .port _ => 6
  | .spd => 6
  | .slk => 7

/-- Staged values of domain `pd` that no commit has captured are lost with it (R39). -/
def Dev.stagedLose (d : Dev) (pd : Nat) : Dev :=
  { d with regs := { d.regs with staged := smTake resetWord (fun k => unitDomain k == pd) d.regs.staged d.regs.committed } }

/-- A domain leaves OFF: its registers hold the last committed epoch (R39). -/
def Dev.shadowsLoad (d : Dev) (pd : Nat) : Dev :=
  let d := d.stagedLose pd
  { d with regs := { d.regs with applied := smTake resetWord (fun k => unitDomain k == pd) d.regs.applied d.regs.committed } }

/-- What a domain loses when it goes OFF (R39, R564). -/
def Dev.domLose (d : Dev) (pd : Nat) : Dev :=
  let d := d.stagedLose pd
  match pd with
  | 4 => ((d.discardAll.geckoLose.fmLose).amLose).rdsLose
  | 5 => d.each (List.range 41) (fun d n => (d.dbClear n).updDbe n (fun e => { e with haveEid := false }))
  | 6 => d.metersLose
  | 7 => (d.updSlk (fun k => { k with gw := [], reports := [], last := [], noise := [] })).fput R.SLK_GW_NODES_VALUE 0 0
  | _ => d

/-- A domain has come ON: its blocks start (R564, R565). -/
def Dev.domStart (d : Dev) (pd : Nat) (lost : Bool) : Dev :=
  match pd with
  | 2 => d.afePower 0
  | 3 => d.afePower 1
  | 4 => (d.fspResume.scnRestart 0).scnRestart 1
  | 6 => ({ d.progress 19 with cod := { d.cod with leaving := false } }).codUpdate.prtResume
  | 7 => d.slkUp lost
  | _ => d

/-- Domain `pd` has reached state `g` from `old`. -/
def Dev.domReached (d : Dev) (pd g old : Nat) : Dev :=
  let d := (d.setDom pd g).event R.PWR_EVT_DOM_DONE
  let lost := (d.domOf pd).lost
  let d := if old = 0 && d.boot.phase == .released then (d.shadowsLoad pd).domReload pd else d
  let d := d.updDom pd (fun s => { s with goal := none, lost := g == 0 || (s.lost && g != 2) })
  if g = 0 then d.domLose pd else if g = 2 then d.domStart pd lost else d

/-- DOMAIN_TRANSITION_DONE (R566, R567): the time of the transition has passed, and its blocks have stopped where it leaves ON; a new
order follows from the state reached. -/
def execDomainTransitionDone (pd : Fin 8) (s : State) : Host.Outcome State Fault Refusal :=
  nextDev s (fun d =>
    match (d.domOf pd).goal with
    | none => d
    | some g =>
      let d := if (d.domOf pd).stopping then d.domStopped pd else d
      let t := d.domOf pd
      if t.stopping || decide (d.since t.clk < domCycles pd t.old) then d
      else (d.domReached pd g t.old).domDrive)

/-- DOMAIN_HELD_RELEASE (R38): the domain that PD5 needs is ON. -/
def execDomainHeldRelease (s : State) : Host.Outcome State Fault Refusal :=
  nextDev s (fun d =>
    if (d.domOf 5).held && (d.domOf 5).goal.isNone && d.domWant 5 == 2 && d.domState 5 == 1 then d.domBegin 5 2 else d)

end Sys2Proof.Machine
end

