-- ==== Sys2Proof/Machine/Boundary.lean ====
section
/-!
DEFINITION. The context block boundary, the 100 ms and 1 s measurements that follow it, and the device-time second
(spec/05_reception_contexts.md, R142, R639; spec/01_architecture.md, R23, R24; spec/03_rf_front_end.md, R114).
-/
namespace Sys2Proof.Machine

/-! ### Streams of a block -/

/-- The cycle in which the context block that has just ended began. -/
def Dev.blockStart (d : Dev) : Nat := d.grid.due - Config.sysPerMs

/-- The block that ended goes to class 1 (R339 to R341): a complete block, or one marked missing, with the descriptor bytes `info` at its end. The packet in
assembly is completed once the source delivers no further block (R340): it is neither in RUN nor owes a missing block. -/
def Dev.ctxPcm (d : Dev) (stream pool n : Nat) (info : List Nat) : Dev :=
  let c := d.ctxOf pool n
  let d := if d.pcmSel stream && (c.data || c.missing) then d.pcmBlock stream (c.ring.getLastD ⟨d.stampAt d.blockStart, 2, [], 0⟩) info else d
  if d.pcmSel stream && (d.ctxState pool n == 3 || c.missNext) then d else d.pcmFlush stream

/-- The descriptor bytes 8 to 13 of an FM context. -/
def Dev.fmInfo (d : Dev) (n : Nat) : List Nat := beWord (d.fget R.FMC_STAT n) ++ beWord (d.fget R.FMC_LEVEL n) ++ beWord (d.fget R.FMC_SNR n)

/-- The descriptor bytes 8 to 13 of an AM context. -/
def Dev.amInfo (d : Dev) (n : Nat) : List Nat :=
  beWord (d.fget R.AMC_STAT n) ++ beWord (d.fget R.AMC_LEVEL n) ++ beWord (smGet (fun _ => noValue) (d.amOf n).meas 1)

/-- The first `units` payload units of the samples in assembly of tap `n` as a class 4 packet (R345): 16-bit I, then Q; MARK by R338. -/
def Dev.iqPacket (d : Dev) (n units : Nat) : Dev :=
  let a := smGet (fun _ => ({} : IqAsm)) d.fsp.iq n
  let part := a.iq.take (16 * units)
  ({ d with fsp := { d.fsp with iq := smSet (fun _ => {}) d.fsp.iq n {} } }).formPacket
    ⟨d.time.clk, 4, n, a.time, part.any (·.2), units - 1,
      .bytes (part.flatMap (fun (z : (Int × Int) × Bool) => beWord (unsgn 16 (clampInt (-32768) 32767 z.1.1)) ++ beWord (unsgn 16 (clampInt (-32768) 32767 z.1.2))))⟩

/-- The cycles of the context block that ends for which a sample of the inputs `m` carries the mark of class 4 (R338): lane groups that carry the overload
flag, and coexistence blanking. -/
def Dev.markSpans (d : Dev) (m : Nat) : List (Nat × Nat) :=
  (if bitAt m 0 then d.ovlSpans 0 else []) ++ (if bitAt m 1 then d.ovlSpans 1 else []) ++ d.cx.spans ++
    (if d.blanking then [(d.cx.since, d.grid.due + 1)] else [])

/-- Samples of `per` SYS cycles each from cycle `t` on, each with whether it meets one of the spans. -/
def withMarks (spans : List (Nat × Nat)) (per t : Nat) (iq : List (Int × Int)) : List ((Int × Int) × Bool) :=
  iq.zipIdx.map (fun z => (z.1, spans.any (fun s => decide (s.1 < t + per * (z.2 + 1)) && decide (t + per * z.2 < s.2))))

/-- The samples of one block of a tap enter class 4 (R345), `per` SYS cycles each, from sample `k` of the block on; at most `fuel` packets end in the
block. -/
def Dev.iqFill (d : Dev) (n per : Nat) (iq : List ((Int × Int) × Bool)) (k : Nat) : Nat → Dev
  | 0 => d
  | fuel + 1 =>
    if iq.isEmpty then d
    else
      let a := smGet (fun _ => ({} : IqAsm)) d.fsp.iq n
      let room := 512 - a.iq.length
      let e : IqAsm := ⟨a.iq ++ iq.take room, if a.iq.isEmpty then d.stampAt (d.blockStart + k * per) else a.time⟩
      let d := { d with fsp := { d.fsp with iq := smSet (fun _ => {}) d.fsp.iq n e } }
      (if 512 ≤ e.iq.length then d.iqPacket n 32 else d).iqFill n per (iq.drop room) (k + room) fuel

/-- The last packet of a tap that has stopped: whole units of 16 samples (R345). -/
def Dev.iqEnd (d : Dev) (n : Nat) : Dev :=
  let u := (smGet (fun _ => ({} : IqAsm)) d.fsp.iq n).iq.length / 16
  if u = 0 then { d with fsp := { d.fsp with iq := smSet (fun _ => {}) d.fsp.iq n {} } } else d.iqPacket n u

/-- One I/Q tap at a boundary, with the samples of the block that ended: 2,048 kS/s divided by 2^RATE (R145). A tap that leaves RUN has stopped (R345). -/
def Dev.iqBoundary (d : Dev) (n : Nat) (iq : List (Int × Int)) : Dev :=
  let rate := min 6 (d.fget R.CHN_IQ_CFG_RATE n)
  let d := d.ctxStep 3 n
  let c := d.ctxOf 3 n
  let all := (iq ++ List.replicate 2048 (0, 0)).take (2048 / 2 ^ rate)
  let per := 144 * 2 ^ rate
  let d := if d.fspRuns && c.data then d.iqFill n per (withMarks (d.markSpans c.inputsWas) per d.blockStart all) 0 6 else d
  let d := if c.data && d.ctxState 3 n == 3 then d else d.iqEnd n
  d.ctxMarks 3 n

/-- One FM context at a boundary; a context that leaves RUN there shows in class 1 what it showed at the end of its last block (R341). -/
def Dev.fmBlockEnd (d : Dev) (n : Nat) (b : FmBlock) : Dev :=
  let st := d.ctxState 0 n
  let freq := (d.ctxOf 0 n).freq
  let info := d.fmInfo n
  let d := d.fmBoundary n b
  let d := if d.ctxState 0 n = 2 && (st != 2 || (d.ctxOf 0 n).freq != freq) then d.rdsStart n (st == 0) else d
  d.ctxPcm (0x100 + n) 0 n (if d.ctxState 0 n = 3 then d.fmInfo n else info)

/-- One AM context at a boundary. -/
def Dev.amBlockEnd (d : Dev) (n : Nat) (b : AmBlock) : Dev :=
  let info := d.amInfo n
  let d := d.amBoundary n b
  d.ctxPcm (0x200 + n) 1 n (if d.ctxState 1 n = 3 then d.amInfo n else info)

/-- One ensemble context at a boundary. -/
def Dev.dbeBlockEnd (d : Dev) (n : Nat) (power : Option Nat) : Dev :=
  let old := d.ctxState 2 n
  let ovl := d.fbit R.DBE_STAT_OVL n
  let d := ((d.ctxStep 2 n).dbeBoundary n old power).ctxMarks 2 n
  if d.fbit R.DBE_STAT_OVL n && !ovl then d.dbeFlag n 7 else d

/-- The class 1 and class 4 packets of contexts that have ended with PD4 are completed (R340, R345). -/
def Dev.streamsEnd (d : Dev) : Dev :=
  let d := d.each (List.range 256) (fun d n => d.pcmFlush (0x100 + n))
  let d := d.each (List.range 160) (fun d n => d.pcmFlush (0x200 + n))
  d.each (List.range 8) (fun d n => d.iqEnd n)

/-- What a boundary makes due (R189, R190, R639): it lies at a device-time millisecond; the updates follow multiples of 100 ms and of 1 s, intervals
end at multiples of 50 ms, and periods at multiples of PERIOD seconds. -/
def Dev.gridStep (d : Dev) : Dev :=
  let ms := ((((d.time.cyc : Int) + d.grid.due - d.time.clk) % (Config.sysPerSecond : Int)) / (Config.sysPerMs : Int)).toNat
  let sec := d.stampAt d.grid.due / 2 ^ 32
  let d := d.prgDue ms
  { d with grid := { d.grid with
      due := d.grid.due + Config.sysPerMs
      meas := if ms % 100 = 0 then some (ms == 0 || d.grid.meas == some true) else d.grid.meas
      dev := d.grid.dev || ms % 50 == 0
      period := d.grid.period || (ms == 0 && sec % d.fget R.CHN_FM_PERIOD_PERIOD == 0) } }

/-- The flags that a context block gathers begin anew. -/
def Dev.blockBegin (d : Dev) : Dev :=
  let later (l : List (Nat × Nat)) : List (Nat × Nat) := l.filter (fun s => decide (d.grid.due < s.2))
  let d := d.each [0, 1] (fun d x => d.updAfe x (fun a => { a with blockOvl := false, flagged := later a.flagged }))
  let cx := { d.cx with spans := later d.cx.spans }
  { d with cx := cx, blockBlank := d.blanking || !cx.spans.isEmpty, clk := { d.clk with gap := false } }

/-- A restart of the accumulators written in the block that ended (R193): a period that ends with the block is published first (R208). -/
def Dev.clrDue (d : Dev) : Dev :=
  if d.grid.clr && !d.grid.period then { d.clrAcc with grid := { d.grid with clr := false } } else d

/-- CONTEXT_BLOCK_BOUNDARY (R142, R161, R639): what each context's signal presented over the block that ended, and the samples
of the taps. While PD4 leaves ON every context ends instead (R563). -/
def execContextBlockBoundary (fm : List FmBlock) (am : List AmBlock) (dbe : List (Nat × Nat))
    (iq : List (Nat × List (Int × Int))) (s : State) : Host.Outcome State Fault Refusal :=
  nextDev s (fun d =>
    if d.splStopped || d.inReset || !d.reached d.grid.due then d
    else if (d.domOf 4).stopping then d.contextsEnd.streamsEnd.blockBegin.gridStep
    else if !d.domOn 4 then d.blockBegin.gridStep
    else
      let live := d.ctxLive
      let given (p : Nat × Nat) : Bool :=
        match p.1 with
        | 0 => fm.any (fun b => b.n == p.2)
        | 1 => am.any (fun b => b.n == p.2)
        | 2 => dbe.any (fun b => b.1 == p.2)
        | _ => iq.any (fun b => b.1 == p.2)
      let d := d.each (live.filter (fun p => d.ctxState p.1 p.2 != 3 || given p)) (fun d p => d.progress (4096 + (p.1 + 2) * 256 + p.2))
      let d := d.progress 17
      let d := d.each live (fun d p =>
        match p.1 with
        | 0 => d.fmBlockEnd p.2 ((fm.find? (fun b => b.n == p.2)).getD { n := p.2 })
        | 1 => d.amBlockEnd p.2 ((am.find? (fun b => b.n == p.2)).getD { n := p.2 })
        | 2 => d.dbeBlockEnd p.2 ((dbe.find? (fun b => b.1 == p.2)).map (·.2))
        | _ => d.iqBoundary p.2 (((iq.find? (fun b => b.1 == p.2)).map (·.2)).getD []))
      let d := d.each (List.range 48) (fun d n => d.dscIdle n)
      let d := d.each (List.range 48) (fun d n => d.dscFlow n)
      d.blockBegin.ctxCounts.cxFlags.gridStep.clrDue)

/-- The 100 ms values of input `x`: the highest raw peak in 0.1 dBFS and the whole-band power in 0.1 dBm (R93). -/
def Dev.afe100 (d : Dev) (x : Nat) (power : Nat) : Dev :=
  if !d.fbit R.AFE_STAT_SAMPLING x then d
  else
    let p := (d.afeOf x).peak100
    let db := if p = 0 then -900 else clampInt (-900) 0 (levelTenths (p ^ 2) (8192 ^ 2))
    ((d.fput R.AFE_PEAK_PEAK x (unsgn 16 db)).fput R.AFE_POWER_POWER x (unsgn 16 (clampInt (-32768) 32767 (d.levelDbm x [power])))).updAfe x
      (fun a => { a with peak100 := 0 })

/-- MEASUREMENT_UPDATE (R639): the values updated every 100 ms, and with `second` those updated every 1 s, at the boundary that follows; the
operands are the mean powers of the whole bands at the balls over the last 100 ms, in 10^−22 mW. -/
def execMeasurementUpdate (second : Bool) (powerA powerB : Nat) (s : State) : Host.Outcome State Fault Refusal :=
  nextDev s (fun d =>
    if d.splStopped || d.inReset || d.grid.meas != some second then d
    else
      let d := { d with grid := { d.grid with meas := none } }
      let d := (d.afe100 0 powerA).afe100 1 powerB
      if !d.domOn 4 then d
      else
        let d := d.each d.fmLive (fun d n => d.fm100 n)
        let d := d.each d.amLive (fun d n => d.am100 n)
        if second then
          let d := d.each d.fmLive (fun d n => d.fmSecond n)
          d.each d.amLive (fun d n => d.amSecond n)
        else d)

/-! ### Device time -/

/-- One second in the temperature and `VDD08` histograms and in the minutes above 105.0 °C (R585). -/
def Dev.histSecond (d : Dev) : Dev :=
  let add (d : Dev) (k : Nat) : Dev :=
    { d with life := { d.life with seconds := smSet (fun _ => 0) d.life.seconds k (min (smGet (fun _ => 0) d.life.seconds k + 1) (60 * (2 ^ 32 - 1))) } }
  let d := if d.fget R.TMP_MAX_TEMP = 0x8000 then d
    else add d (0x1000 + (clampInt 0 15 ((d.fgetI R.TMP_MAX_TEMP + 400) / 100)).toNat)
  let d := if d.fget R.PWR_STAT_VDD08 = 0 then d
    else add d (0x1010 + (clampInt 0 7 (((d.fget R.PWR_STAT_VDD08 : Int) - 700) / 25)).toNat)
  if d.fget R.TMP_MAX_TEMP != 0x8000 && decide (1050 < d.fgetI R.TMP_MAX_TEMP) then add d 0x1018 else d

/-- One second of power-on time (R585, R587). -/
def Dev.powerSecond (d : Dev) : Dev :=
  let d := { d with mon := { d.mon with pairSec := d.mon.pairSec + 1, minSec := (d.mon.minSec + 1) % 60 } }
  if d.mon.minSec = 0 then d.lifeBy 0x10 4 1 else d

/-- A step of device time (R24): the interval in progress of every accumulation that counts device-time seconds ends (R209). -/
def Dev.timeStep (d : Dev) (sec : Nat) : Dev :=
  let by' : Int := (sec : Int) - d.time.sec
  (({ d with rtc := { d.rtc with ticks := [] }, time := { d.time with sec := sec, secPending := none, stepClk := d.time.clk, stepBy := by' } }).event R.SYS_OWN_EVT_TIME_STEP).fmPeriodEnd.dabStep

/-- DTIME_SECOND (R23, R24, R114): a device-time second begins; `vdd08` is the last measurement of `VDD08` in mV. -/
def execDtimeSecond (vdd08 : Nat) (s : State) : Host.Outcome State Fault Refusal :=
  nextDev s (fun d =>
    if d.inReset then d
    else
      let left := Config.sysPerSecond - d.time.cyc
      let d := { d with time := { d.time with clk := d.time.clk + left, cyc := 0, sec := (d.time.sec + 1) % 2 ^ 32 }, pin := { d.pin with pps := true } }
      let d := (d.overloadSecond 0).overloadSecond 1
      let d := match d.time.secPending with | some v => d.timeStep v | none => d
      let d := d.fput R.PWR_STAT_VDD08 0 (clampNat 600 1000 vdd08)
      d.histSecond.powerSecond)

/-- The four device-time registers as they stand (R23); while the SPL re-locks the resolution is one XO cycle, six SYS cycles (R444). -/
def Dev.dtimeNow (d : Dev) : Nat × Nat × Nat × Nat :=
  let t := if d.splStopped then { d.time with cyc := d.time.cyc / 6 * 6 } else d.time
  (t.sec / 65536, t.sec % 65536, t.frac / 65536, t.frac % 65536)

/-- A read of `SYS_DTIME_S1` captures the four registers (R27). -/
def Dev.dtimeFreeze (d : Dev) : Dev := { d with time := { d.time with frozen := some d.dtimeNow } }

/-- A read of `SYS_DTIME_F0`, or the end of the transaction, releases them (R27). -/
def Dev.dtimeRelease (d : Dev) : Dev := { d with time := { d.time with frozen := none } }

end Sys2Proof.Machine
end

