-- ==== Sys2Proof/Machine/Pins.lean ====
section
/-!
DEFINITION. GPIO and the JTAG test access port (spec/20_package_pins.md, R603 to R609).
-/
namespace Sys2Proof.Machine

/-! ### The test access port -/

/-- The 32-bit identification that IDCODE shifts out (R608). -/
def idCode : Nat := 0x17360A4B

/-- What the data register selected by instruction `ir` captures (R608): the boundary register, the identification, or the bypass bit. -/
def Dev.drCapture (d : Dev) (ir : Nat) : List Bool :=
  if ir = 0 ∨ ir = 2 then d.pin.boundary else if ir = 1 then (List.range 32).map (bitAt idCode) else [false]

/-- JTAG_RESET (R609): `TRST_N` low (`trst`), or `tms` rising edges of `TCK` with `TMS` high, of which five lead to Test-Logic-Reset; IDCODE is in
force. -/
def execJtagReset (trst : Bool) (tms : Nat) (s : State) : Host.Outcome State Fault Refusal :=
  nextDev s (fun d => if trst || 5 ≤ tms then { d with pin := { d.pin with ir := 1, shift := d.drCapture 1 } } else d)

/-- JTAG_INSTRUCTION (R608); a code that is not listed selects the bypass register. -/
def execJtagInstruction (code : Byte) (s : State) : Host.Outcome State Fault Refusal :=
  nextDev s (fun d => { d with pin := { d.pin with ir := code.toNat, shift := d.drCapture code.toNat } })

/-- BOUNDARY_REGISTER_UPDATE (R608, R609): the 198 cells, taken where the instruction selects the boundary register. -/
def execBoundaryRegisterUpdate (cells : List Bool) (s : State) : Host.Outcome State Fault Refusal :=
  nextDev s (fun d =>
    if d.pin.ir = 0 || d.pin.ir == 2 then { d with pin := { d.pin with boundary := (cells ++ List.replicate 198 false).take 198 } } else d)

/-! ### GPIO -/

/-- The source of the event function with selection `sel` (R603). -/
def Dev.gpioEvent (d : Dev) (sel : Nat) : Bool :=
  if sel ≤ 15 then bitAt d.sysEvt sel else if sel ≤ 26 then bitAt d.sysEvt2 (sel - 16) else d.halert

/-- The source of the alternate function of `GPn` (R605). -/
def Dev.gpioAlt (d : Dev) (n : Nat) : Bool :=
  match n with
  | 0 => d.pin.pps
  | 1 => d.cx.tx
  | 2 => d.cx.blank
  | 3 => d.fget R.CHN_N_SHED_COUNT != 0
  | _ => false

/-- The level that the block drives on `GPn`; none where it drives none: an input, a high level of an open-drain output, the main reset
held, or a chain under test (R597, R603 to R609). -/
def Dev.gpioDrives (d : Dev) (n : Nat) : Option Bool :=
  let f := d.fget R.GPIO_CFG_FUNC n
  if f = 0 || d.chainHeld || d.boot.phase == .inReset || d.boot.phase == .romHold then none
  else
    let src := if f = 1 then bitAt (d.fget R.GPIO_OUT_OUT) n else if f = 2 then d.gpioEvent (d.fget R.GPIO_CFG_SEL n) else d.gpioAlt n
    let level := src != d.fbit R.GPIO_CFG_INV n
    if level && d.fbit R.GPIO_CFG_OD n then none else some level

/-- The level at `GPn` (R596, the table of GPIO_CFG): what drives it from outside, else what the block drives, else its pull; none where it floats. -/
def Dev.gpioLevel (d : Dev) (n : Nat) (drive : Option Bool) : Option Bool :=
  let rest : Option Bool := match d.fget R.GPIO_CFG_PULL n with | 0 => none | 1 => some false | _ => some true
  drive.orElse (fun _ => (d.gpioDrives n).orElse (fun _ => rest))

/-- GPIO_EDGE (R604): a new level has held at `GPn` for `tenths` of 0.1 ns, driven from outside or (none) not. From 61.1 ns on it is seen, below 20.3 ns never;
between the two it may be (a free value, log entry 13). A seen edge that EDGE selects sets its event bit. -/
def execGpioEdge (n : Fin 12) (drive : Option Bool) (tenths : Nat) (s : State) : Host.Outcome State Fault Refusal :=
  nextDev s (fun d =>
    let may := decide (611 ≤ tenths) || (decide (203 ≤ tenths) && decide (Config.free d.freeIdx % 2 = 1))
    let d := { d with freeIdx := d.freeIdx + 1 }
    match d.gpioLevel n drive with
    | none => d
    | some level =>
      let w := d.fget R.GPIO_IN_IN
      if !may || bitAt w n == level then d
      else
        let d := d.fput R.GPIO_IN_IN 0 (w - b2n (bitAt w n) * 2 ^ (n : Nat) + b2n level * 2 ^ (n : Nat))
        if bitAt (d.fget R.GPIO_CFG_EDGE n) (if level then 0 else 1) then d.setEvtBits 0x02D2 (2 ^ (n : Nat)) else d)

/-- GPIO_OUT_WRITE (R607): the levels of the balls in the output function. -/
def execGpioOutWrite (value : BitVec 16) (s : State) : Host.Outcome State Fault Refusal :=
  nextDev s (fun d => d.fput R.GPIO_OUT_OUT 0 value.toNat)

/-- PPS_OUT_END (R605): 100 ms after the second boundary. -/
def execPpsOutEnd (s : State) : Host.Outcome State Fault Refusal :=
  nextDev s (fun d => if d.time.cyc < msCycles 100 then d else { d with pin := { d.pin with pps := false } })

end Sys2Proof.Machine
end

