-- ==== Sys2Proof/Machine/Mon.lean ====
section
/-!
DEFINITION. Monitor: memory errors, watchdogs and recoveries, the Moult log records and their ring
(spec/19_reliability_moult_log.md, R569 to R594; spec/01_architecture.md, R30, R31).
-/
namespace Sys2Proof.Machine

/-! ### The ring -/

/-- The flash address of unit `u` of the ring (R586). -/
def ringAddr (u : Nat) : Nat := 0xC40000 + 64 * u

/-- A valid record of the ring: its unit and its bytes. -/
structure RingRec where
  unit : Nat
  bytes : List Nat
deriving DecidableEq, Repr

/-- TYPE of a record. -/
def RingRec.type (r : RingRec) : Nat := r.bytes.getD 2 0

/-- SEQ of a record. -/
def RingRec.seq (r : RingRec) : Nat := ofBe ((r.bytes.drop 4).take 4)

/-- The valid record that starts at unit `u` (R588): MAGIC, a known TYPE with its UNITS, and the CRC are correct. -/
def ringAt (flash : SMap Byte) (u : Nat) : Option RingRec :=
  match flashBytes flash (ringAddr u) 4 with
  | [0x4D, 0x4C, t, n] =>
    if 1 ≤ t ∧ t ≤ 4 ∧ n = recUnits t ∧ u + n ≤ 4096 then
      let bs := flashBytes flash (ringAddr u) (64 * n)
      if ofBe (bs.drop (64 * n - 4)) = crc32 (bs.take (64 * n - 4)) then some ⟨u, bs⟩ else none
    else none
  | _ => none

/-- Every valid record of the ring. -/
def ringAll (flash : SMap Byte) : List RingRec := (List.range 4096).filterMap (ringAt flash)

/-- The newest of some records by R65. -/
def ringNewest (l : List RingRec) : Option RingRec :=
  l.foldl (fun b r => match b with | none => some r | some q => if seqNewer r.seq q.seq then some r else some q) none

/-- The oldest of some records by R65. -/
def ringOldest (l : List RingRec) : Option RingRec :=
  l.foldl (fun b r => match b with | none => some r | some q => if seqNewer q.seq r.seq then some r else some q) none

/-- The oldest valid record whose SEQ is not older than `x`. -/
def ringFrom (l : List RingRec) (x : Nat) : Option RingRec := ringOldest (l.filter (fun r => r.seq == x || seqNewer r.seq x))

/-- The fingerprint that a COUNTERS or HISTOGRAMS record carries (R585). -/
def RingRec.fprint (r : RingRec) : Nat := ofBe ((r.bytes.drop (if r.type = 1 then 0xB0 else 0x74)).take 4)

/-- The lifetime counts of the COUNTERS record by offset and size (R585). -/
def lifeFields : List (Nat × Nat) :=
  (List.range 15).map (fun i => (0x10 + 4 * i, 4)) ++ (List.range 18).map (fun i => (0x4C + 2 * i, 2)) ++
    (List.range 10).map (fun i => (0x70 + 4 * i, 4)) ++ (List.range 8).map (fun i => (0x98 + 2 * i, 2)) ++ [(0xA8, 4)]

/-- The bins of the HISTOGRAMS record: key of the count of seconds and offset (R585). -/
def histFields : List (Nat × Nat) :=
  (List.range 16).map (fun i => (0x1000 + i, 0x10 + 4 * i)) ++ (List.range 8).map (fun i => (0x1010 + i, 0x50 + 4 * i)) ++ [(0x1018, 0x70)]

/-- Restore the lifetime counts from the newest valid records of this die (R588); without one they start from zero. -/
def Dev.lifeLoad (d : Dev) (l : List RingRec) : Dev :=
  let cnt := l.filter (fun r => r.type == 1 || r.type == 2)
  let own := cnt.filter (fun r => r.fprint == Config.fprint % 2 ^ 32)
  let field (r : RingRec) (off size : Nat) : Nat := ofBe ((r.bytes.drop off).take size)
  let counts := match ringNewest (own.filter (fun r => r.type == 1)) with
    | some r => lifeFields.foldl (fun m f => smSet (fun _ => 0) m f.1 (field r f.1 f.2)) []
    | none => []
  let seconds := match ringNewest (own.filter (fun r => r.type == 2)) with
    | some r => histFields.foldl (fun m f => smSet (fun _ => 0) m f.1 (60 * field r f.2 4)) []
    | none => []
  let d := { d with life := { counts := counts, seconds := seconds } }
  (d.fputB R.MON_STAT_FRESH 0 (own.isEmpty && cnt.isEmpty)).fputB R.MON_STAT_FOREIGN 0 (own.isEmpty && !cnt.isEmpty)

/-- The whole ring is read at boot (R588): the lifetime counts, the newest SEQ and the unit at which writing resumes. -/
def Dev.ringLoad (d : Dev) (flash : SMap Byte) : Dev :=
  let l := ringAll flash
  let d := d.lifeLoad l
  let d := match ringNewest l with
    | some r => { d with mon := { d.mon with seq := r.seq, unit := (r.unit + recUnits r.type) % 4096 } }
    | none => d
  (d.fput R.MON_LOG_POS_UNIT 0 d.mon.unit).fput R.MON_SEQ_HI_SEQ 0 (d.mon.seq / 65536)

/-- Units of an erase sector of the ring: 64, or 1,024 where the flash lists no 4 KiB erase (R586). -/
def Dev.ringSector (d : Dev) : Nat := match d.boot.sfdp with | some f => if f.erase4k then 64 else 1024 | none => 64

/-- The units `lo ≤ u < hi` are erased. -/
def ringErased (flash : SMap Byte) (lo hi : Nat) : Bool := !flash.any (fun e => decide (ringAddr lo ≤ e.1) && decide (e.1 < ringAddr hi))

/-- Erase the sector that starts at unit `u`. -/
def ringErase (flash : SMap Byte) (u n : Nat) : SMap Byte := smDrop (fun a => decide (ringAddr u ≤ a) && decide (a < ringAddr (u + n))) flash

/-- The unit at which a record of `n` units is written (R586, R588): a record does not cross a sector boundary, and a position that is not
erased is left for the next sector. -/
def ringPlace (flash : SMap Byte) (u n sec : Nat) : Nat :=
  if sec < u % sec + n || (u % sec != 0 && !ringErased flash u (u + n)) then (u / sec + 1) * sec % 4096 else u

/-- The sectors to be erased before a record is written at unit `u`: its own where it begins it, and the one that follows. -/
def ringNeeds (flash : SMap Byte) (u sec : Nat) : List Nat :=
  let own := if u % sec = 0 && !ringErased flash u (u + sec) then [u] else []
  let next := (u / sec + 1) * sec % 4096
  own ++ (if ringErased flash next (next + sec) then [] else [next])

/-- A flush has ended: `FLUSHING` clears and `FLUSH_DONE` is set, unless records of it still wait (R591). -/
def Dev.flushCheck (d : Dev) : Dev :=
  if d.fbit R.MON_STAT_FLUSHING && !d.mon.queue.any (fun r => r.flush) then (d.fputB R.MON_STAT_FLUSHING 0 false).event R.MON_EVT_FLUSH_DONE else d

/-- Records wait no longer for the flash: writing is off or has stopped (R587, R589). -/
def Dev.logDrop (d : Dev) : Dev := ({ d with mon := { d.mon with queue := [] }, anole := d.anole.filter id }).flushCheck

/-- LOG_WRITE (R28, R586, R589): the oldest record formed goes to the ring, after the sector ahead has been erased. `eraseOk` and `writeOk` say
whether the flash reports an error: an erase error stops writing, a program error skips to the next sector, and either leaves free bytes (log entry
13). -/
def execLogWrite (eraseOk writeOk : Bool) (s : State) : Host.Outcome State Fault Refusal :=
  let d := s.dev
  match d.mon.queue with
  | [] => .next s
  | r :: rest =>
    if !d.fbit R.MON_CFG_LOG_EN || d.fbit R.MON_STAT_LOG_STOP then .next { s with dev := d.logDrop }
    else if !d.anoleFree false then .next s
    else
      let n := recUnits r.type
      let u := ringPlace s.flash d.mon.unit n d.ringSector
      let needs := ringNeeds s.flash u d.ringSector
      if !needs.isEmpty && !eraseOk then
        let m := 64 * d.ringSector
        .next { s with
          dev := (({ d with freeIdx := d.freeIdx + m }.fputB R.MON_STAT_LOG_STOP 0 true).event R.MON_EVT_LOG_ERR).logDrop
          flash := smSetList erased s.flash (ringAddr (needs.headD 0)) ((freeBytes d.freeIdx m).map (BitVec.ofNat 8)) }
      else
        let flash := needs.foldl (fun f v => ringErase f v d.ringSector) s.flash
        if writeOk then
          let v := (u + n) % 4096
          .next { s with
            dev := (({ d with mon := { d.mon with queue := rest, unit := v }, anole := d.anole.tail }).fput R.MON_LOG_POS_UNIT 0 v).flushCheck
            flash := flashProg flash (ringAddr u) r.bytes }
        else
          let v := (u / d.ringSector + 1) * d.ringSector % 4096
          .next { s with
            dev := ({ d with mon := { d.mon with unit := v }, freeIdx := d.freeIdx + 64 * n }).fput R.MON_LOG_POS_UNIT 0 v
            flash := flashProg flash (ringAddr u) (freeBytes d.freeIdx (64 * n)) }

/-! ### Pairs -/

/-- A lifetime count. -/
def Dev.lifeAt (d : Dev) (off : Nat) : Nat := smGet (fun _ => 0) d.life.counts off

/-- The body of a COUNTERS record (R585). -/
def Dev.countersBody (d : Dev) (why : Nat) : List Nat :=
  lifeFields.flatMap (fun f => if f.2 = 4 then be32 (d.lifeAt f.1) else beWord (d.lifeAt f.1)) ++ [why, 0, 0, 0] ++ be32 Config.fprint

/-- The body of a HISTOGRAMS record (R585): whole minutes. -/
def Dev.histBody (d : Dev) : List Nat :=
  histFields.flatMap (fun f => be32 (smGet (fun _ => 0) d.life.seconds f.1 / 60)) ++ be32 Config.fprint

/-- Form a pair (R587): the hour restarts. -/
def Dev.formPair (d : Dev) (why : Nat) (flush : Bool) : Dev :=
  let d := (d.formRecord 1 (d.countersBody why) flush).formRecord 2 d.histBody flush
  { d with mon := { d.mon with pairSec := 0 } }

/-- COUNTERS_PAIR (R587): the pair of the boot, or after 60 minutes of power-on time. -/
def execCountersPair (s : State) : Host.Outcome State Fault Refusal :=
  nextDev s (fun d =>
    if d.inReset then d
    else if d.mon.bootPair then ({ d with mon := { d.mon with bootPair := false } }).formPair 1 false
    else if 3600 ≤ d.mon.pairSec then d.formPair 2 false
    else d)

/-- `MON_CMD.FLUSH` (R591). -/
def Dev.monFlush (d : Dev) : Dev :=
  if d.fbit R.MON_STAT_FLUSHING then d else ((d.fputB R.MON_STAT_FLUSHING 0 true).formPair 3 true).flushCheck

/-- MOULT_FLUSH (R591). -/
def execMoultFlush (s : State) : Host.Outcome State Fault Refusal := nextDev s (fun d => if d.inReset then d else d.monFlush)

/-! ### Reading the ring -/

/-- The record at the read position (R593); without a flash there is none. -/
def Dev.rdRecord (d : Dev) (flash : SMap Byte) : Option RingRec :=
  if d.boot.sfdp.isNone then none
  else match d.mon.rd with
    | some x => ringFrom (ringAll flash) x
    | none => ringOldest (ringAll flash)

/-- Set the read position. -/
def Dev.setRd (d : Dev) (p : Option Nat) : Dev := ({ d with mon := { d.mon with rd := p } }).fputB R.MON_STAT_RD_END 0 false

/-- The bytes of a log read, `n` first, and what it leaves when `clocked` bytes beyond `n` are clocked out (R528, R593). -/
def Dev.logRead (d : Dev) (flash : SMap Byte) (clocked : Nat) : List Nat × Dev :=
  match d.rdRecord flash with
  | none => ([0], d.fputB R.MON_STAT_RD_END 0 true)
  | some r =>
    let n := r.bytes.length
    (n :: r.bytes, if n ≤ clocked then d.setRd (some ((r.seq + 1) % 2 ^ 32)) else d.fputB R.MON_STAT_RD_END 0 false)

/-- `MON_CMD.RD_OLDEST` (R593). -/
def Dev.monOldest (d : Dev) : Dev := d.setRd none

/-- `MON_CMD.RD_NEWEST` (R593): the newest COUNTERS record, when there is one. -/
def Dev.monNewest (d : Dev) (flash : SMap Byte) : Dev :=
  match ringNewest ((ringAll flash).filter (fun r => r.type == 1)) with
  | some r => if d.boot.sfdp.isNone then d else d.setRd (some r.seq)
  | none => d

/-- A write of `MON_RD_SEQ_LO` (R593). -/
def Dev.monSeqWrite (d : Dev) (v : Nat) : Dev :=
  (d.fput R.MON_RD_SEQ_LO_SEQ 0 v).setRd (some (d.fget R.MON_RD_SEQ_HI_SEQ * 65536 + v))

/-- A read of `MON_SEQ_HI` captures `MON_SEQ_LO`. -/
def Dev.monSeqCapture (d : Dev) : Dev := d.fput R.MON_SEQ_LO_SEQ 0 (d.mon.seq % 65536)

/-- RD_OLDEST (R593). -/
def execRdOldest (s : State) : Host.Outcome State Fault Refusal := nextDev s (fun d => if d.inReset then d else d.monOldest)

/-- RD_NEWEST (R593). -/
def execRdNewest (s : State) : Host.Outcome State Fault Refusal := nextDev s (fun d => if d.inReset then d else d.monNewest s.flash)

/-- RD_SEQ_WRITE (R593). -/
def execRdSeqWrite (value : BitVec 16) (s : State) : Host.Outcome State Fault Refusal :=
  nextDev s (fun d => if d.inReset then d else d.monSeqWrite value.toNat)

/-! ### Errors in memory -/

/-- An uncorrectable error of the delay memory: the block of source `i` of programme `p` at position `k` is delivered as missing (R569). -/
def Dev.blockLost (d : Dev) (p i k : Nat) : Dev :=
  d.updSrc p i (fun s =>
    match s.hist[k]? with
    | some b =>
      let before := ((s.hist[k + 1]?).map (fun x => lastSample x.pcm)).getD (0, 0)
      { s with hist := s.hist.set k { b with mark := 2, pcm := delivered before false true [] } }
    | none => s)

/-- Poison the packet at place `k`. -/
def poisonAt : Nat → List Packet → List Packet
  | _, [] => []
  | 0, p :: t => { p with poisoned := true } :: t
  | k + 1, p :: t => p :: poisonAt k t

/-- The stored packet `k` is poisoned (R354, R569). -/
def Dev.packetLost (d : Dev) (k : Nat) : Dev :=
  ({ d with fsp := { d.fsp with stored := poisonAt k d.fsp.stored } }).bumpEvt
    R.FSP_POISON_COUNT R.FSP_EVT_ECC

/-- The effect of an uncorrectable error by the region of its word (R569): what stands at `item` and `index` in the region is lost. Region 0:
stored packet `index`, none there: nothing; region 1: programme × 16 + source `item`, block `index`; region 3: engine `index`; region 4: the
item and its index, item 0 for audio or packet data of context pool × 256 + n, whose block in progress is delivered as missing. -/
def Dev.uncorrectable (d : Dev) (region word item index : Nat) : Dev :=
  let d := d.eccUncorrectable region
  match region with
  | 0 => (if index < d.fsp.stored.length then d.packetLost index else d).errorRecord 0 2 word
  | 1 => (d.blockLost (item / 16) (item % 16) index).errorRecord 1 1 word
  | 2 => d.errorRecord 2 3 word
  | 3 => d.faultEngine index 1
  | _ =>
    if item = 0 then
      let up := d.ctxState (index / 256) (index % 256) == 3
      (if up then d.updCtx (index / 256) (index % 256) (fun c => { c with missNext := true }) else d).errorRecord 4 1 word
    else d.faultDomain 0 1 item index

/-- The 64-bit words of the five regions (the table of memories). -/
def regionWords : List Nat := [1048576, 1048576, 393216, 262144, 196608]

/-- The words of a scrub pass. -/
def passWords : Nat := 2949120

/-- The region and the word in it of word `w` of a pass. -/
def scrubAt (w : Nat) : List Nat → Nat × Nat
  | [] => (4, w)
  | n :: l => if w < n then (0, w) else let (r, k) := scrubAt (w - n) l; (r + 1, k)

/-- SCRUB_READ (R30, R31, R569): the scrub reads its next `clean` words without an error, and then one that is right, corrected, or uncorrectable (`ecc` 0,
1, 2); a word that is written in the same cycle is skipped. With the last word of the last region a pass is complete; the next begins 10 s after the
begin of the one before. -/
def execScrubRead (clean : Nat) (ecc : Fin 3) (written : Bool) (item index : Nat) (s : State) : Host.Outcome State Fault Refusal :=
  nextDev s (fun d =>
    let ended := decide (passWords ≤ d.mon.scrub)
    if d.inReset || (ended && !d.reached (d.mon.scrubClk + 10 * Config.sysPerSecond)) then d
    else
      let d := if ended then { d with mon := { d.mon with scrub := 0, scrubClk := d.time.clk } } else d
      let w := min (d.mon.scrub + clean) (passWords - 1)
      let d := { d with mon := { d.mon with scrub := w + 1 } }
      let (region, word) := scrubAt w regionWords
      let d := if written then d else if (ecc : Nat) = 1 then d.eccCorrected region
        else if (ecc : Nat) = 2 then d.uncorrectable region word item index else d
      if w + 1 = passWords then d.fput R.MON_SCRUB_COUNT 0 ((d.fget R.MON_SCRUB_COUNT + 1) % 65536) else d)

/-- REGISTER_PARITY_ERROR (R571): a staged value that fails its parity returns to the applied one; an applied one that has turned into `value` stands
till its block's next boundary, which restores it from the epoch store, and is counted. -/
def execRegisterParityError (index value : BitVec 16) (staged : Bool) (s : State) : Host.Outcome State Fault Refusal :=
  nextDev s (fun d =>
    let k := index.toNat
    if d.inReset || !isStaged k then d
    else if staged then (d.setStaged k (smGet resetWord d.regs.applied k)).event R.MON_EVT_STAGE_LOST
    else
      (({ d with
          regs := { d.regs with applied := smSet resetWord d.regs.applied k value }
          epoch := { d.epoch with bad := if d.epoch.bad.contains k then d.epoch.bad else d.epoch.bad ++ [k] } }).bump R.MON_PARITY_COUNT).lifeBy 0x56 2 1)

/-! ### Watchdogs, stalls and recoveries -/

/-- Engine `e` runs its firmware: its domain is ON and the engines are released; Anole runs from ROM before. -/
def Dev.engineRuns (d : Dev) (e : Nat) : Bool :=
  if d.inReset then false
  else if e = 0 then true
  else d.boot.phase == .released && (match engineDomain e with | some 1 => d.domOn 4 | some 2 => d.domOn 5 | some 3 => d.domOn 6 | some 5 => d.domOn 7 | _ => true)

/-- WATCHDOG_TRIP (R572): engine `e` has not serviced its watchdog. -/
def execWatchdogTrip (e : Fin 12) (s : State) : Host.Outcome State Fault Refusal :=
  nextDev s (fun d =>
    if !d.engineRuns e then d
    else
      let d := (d.bump R.MON_WDG_COUNT e).lifeBy (0x58 + 2 * e) 2 1
      if (e : Nat) = 0 then d.faultWarm 2 else d.faultEngine e 2)

/-- What stands under key `k` has made no progress for more than `n` cycles; one in the cycle in which they expire has come in time (R7). -/
def Dev.stuck (d : Dev) (k n : Nat) : Bool := decide (n < d.time.clk + 1 - smGet (fun _ => 0) d.mon.prog k)

/-- The Ferson port sends nothing though a packet waits: the cycle since which it has been so, after the bytes of a packet in transit. -/
def Dev.fspSilent (d : Dev) : Nat := max d.fsp.waitClk (d.fsp.runClk + (d.fsp.wire.length * d.fspFive + 4) / 5)

/-- The fault domain works and has made no progress for its limit (the detection column of R574): a context in RUN for 3 block periods (of a DSC entry:
3 CIFs), lane groups for 1 ms, CIFs for 200 ms, frames for 3 frames, bytes for 10 ms, LSY or modem for 20 ms; a scan chain that holds the pins makes no
stall (R609). -/
def Dev.mayStall (d : Dev) (domain item index : Nat) : Bool :=
  match domain with
  | 0 =>
    if item = 7 then d.portState index == 3 && !d.chainHeld && d.stuck 19 (msCycles 3)
    else if item = 6 then d.dscState index == 3 && d.stuck (4096 + 6 * 256 + index) (msCycles 72)
    else d.itemUp item index && d.ctxState (itemPool item) index == 3 && d.stuck (4096 + item * 256 + index) (msCycles 3)
  | 1 => !d.splStopped && d.domOn 4 && (d.fbit R.AFE_STAT_SAMPLING 0 || d.fbit R.AFE_STAT_SAMPLING 1) && d.stuck 17 (msCycles 1)
  | 2 => (List.range 41).any (fun n => d.locked n) && d.stuck 18 (msCycles 200)
  | 3 => d.fget R.CLK_STAT_APL == 2 && d.domOn 6 && d.stuck 19 (3 * Config.sysPerSecond / d.fabricRate)
  | 4 =>
    d.fspRuns && d.fbit R.FSP_STAT_RDY && !d.fbit R.FSP_STAT_STOPPED && !(d.fsp.stored.isEmpty && d.fsp.transit.isNone) && !d.chainHeld &&
      decide (d.fspSilent + msCycles 10 < d.time.clk)
  | 5 =>
    let onAir := match d.slk.tx with | some t => t.phase == 2 || (t.phase == 5 && !d.reached t.stop) | none => false
    let taking := match d.slk.rx with | some r => !d.reached r.stop | none => false
    d.slkOn && !onAir && !taking && d.stuck 21 (msCycles 20)
  | _ => false

/-- STALL_DETECTED (R574): a domain, or a single item, has made no progress for its limit. -/
def execStallDetected (domain item : Fin 8) (index : Fin 256) (s : State) : Host.Outcome State Fault Refusal :=
  nextDev s (fun d =>
    if d.inReset || !d.mayStall domain item index then d
    else if (domain : Nat) = 0 then d.faultDomain 0 4 item index
    else d.faultDomain domain 4 0 0)

/-- The counter area of Monitor fails its CRC: the counts are restored from the ring (R590). -/
def Dev.countsLost (d : Dev) (flash : SMap Byte) : Dev := (d.lifeLoad (ringAll flash)).event R.MON_EVT_CNT_LOST

/-- A record of a pair that still waits, formed again from the counter area (R594); what of the pair stands in the flash stays there. -/
def Dev.recordAgain (d : Dev) (r : MonRec) : MonRec :=
  if r.type = 1 then { r with time := d.time.stamp, body := d.countersBody (r.body.getD 156 1) }
  else if r.type = 2 then { r with time := d.time.stamp, body := d.histBody }
  else r

/-- A reload of Monitor forms the pair in progress again, which goes to the Ferson port again as well (R592, R594). -/
def Dev.pairAgain (d : Dev) : Dev :=
  let queue := d.mon.queue.map d.recordAgain
  let d := { d with mon := { d.mon with queue := queue } }
  d.each (queue.filter (fun r => r.type == 1 || r.type == 2)) (fun d r =>
    if d.fbit R.FSP_SRC_MOULT then d.formPacket ⟨d.time.clk, 6, 0, r.time, false, recUnits r.type - 1, .bytes r.bytes⟩ else d)

/-- ENGINE_RELOAD (R574, R575): the firmware of an engine whose reload has begun is read again and checked, and it starts at its entry
address; a flash erase in progress is waited for (R80). `cntOk`: Monitor finds the CRC of its counter area right (R590). -/
def execEngineReload (e : Fin 12) (cntOk : Bool) (s : State) : Host.Outcome State Fault Refusal :=
  nextDev s (fun d =>
    let mine (r : RecovSt) : Bool := r.domain == 6 && r.index == (e : Nat) && !r.acted && !r.done
    if !d.mon.recov.any mine || d.eraseBusy then d
    else
      let d := (d.epochInto 6 1 e).engineReload e
      let d := { d with mon := { d.mon with recov := d.mon.recov.map (fun r => if mine r then { r with acted := true } else r) } }
      if (e : Nat) = 11 then (if cntOk then d else d.countsLost s.flash).pairAgain else d)

/-- Microseconds in `k` SYS cycles. -/
def usOf (k : Nat) : Nat := k * 1000 / Config.sysPerMs

/-- The context of a single-context restart has entered SHED: the restart ends without a record (R594). -/
def Dev.recovShed (d : Dev) (r : RecovSt) : Bool :=
  r.domain == 0 && decide (2 ≤ r.item) && decide (r.item ≤ 6) && d.ctxState (itemPool r.item) r.index == 4

/-- The recovery `r` of domain `c` has ended: every block of the domain runs again, with the last committed epoch applied (R574, R578, R580). -/
def Dev.recovEnds (d : Dev) (c : Nat) (r : RecovSt) : Bool :=
  r.domain == c && r.acted && !r.done && !d.epoch.waiting.any (unitIn c r.item r.index) && (c != 7 || d.boot.phase == .released)

/-- Mark the first recovery that `p` selects as `r'` says. -/
def recovUpdate (p : RecovSt → Bool) (f : RecovSt → RecovSt) : List RecovSt → List RecovSt
  | [] => []
  | r :: t => if p r then f r :: t else r :: recovUpdate p f t

/-- RECOVERY_COMPLETE (R574, R580): every block of the domain runs again with the last committed epoch. -/
def execRecoveryComplete (domain : Fin 8) (s : State) : Host.Outcome State Fault Refusal :=
  nextDev s (fun d =>
    match d.mon.recov.find? (d.recovEnds domain) with
    | none => d
    | some r =>
      if d.recovShed r then { d with mon := { d.mon with recov := d.mon.recov.erase r } }
      else
        let d := { d with mon := { d.mon with
          recov := recovUpdate (fun x => x == r) (fun x => { x with done := true, doneClk := d.time.clk, duration := usOf (d.since r.clk), epoch := d.fget R.SYS_EPOCH_NUM }) d.mon.recov } }
        (((d.event R.SYS_OWN_EVT_RECOVERED).event R.MON_EVT_RECOVERY).bump R.MON_RECOV_COUNT domain).lifeBy (0x98 + 2 * domain) 2 1)

/-- The lost output of a completed recovery is known (R583): every programme that lost some plays again, or 10 s have passed. -/
def Dev.lossKnown (d : Dev) (r : RecovSt) : Bool := r.done && (r.watch.isEmpty || d.reached (r.doneClk + 10 * Config.sysPerSecond))

/-- RECOVERY_RECORD (R583, R585): the lost output of a completed recovery is known, in ms, with the programme that lost it. -/
def execRecoveryRecord (s : State) : Host.Outcome State Fault Refusal :=
  nextDev s (fun d =>
    match d.mon.recov.find? d.lossKnown with
    | none => d
    | some r =>
      let d := { d with mon := { d.mon with recov := d.mon.recov.erase r } }
      let body := [r.domain, r.cause, r.item, 0] ++ beWord r.index ++ beWord r.epoch ++ be32 (min r.duration (2 ^ 32 - 1)) ++
        be32 (min r.lost (2 ^ 32 - 1)) ++ beWord (r.prog.getD 0xFFFF) ++ be64 r.detect
      ((d.bumpBy R.MON_LOST_MS_MS 0 r.lost).lifeBy 0xA8 4 r.lost).formRecord 3 body false)

end Sys2Proof.Machine
end

