-- ==== Sys2Proof/Machine/Epoch.lean ====
section
/-!
DEFINITION. Configuration epochs: commit, abandon, the apply of each block at its boundary, and its completion
(spec/02_autonomy_images_epochs.md, R81 to R91; spec/22_register_index.md, R632).
-/
namespace Sys2Proof.Machine

/-- The indices at which two layers differ. -/
def layerDiff (a b : SMap Word) : List Nat :=
  ((a ++ b).map (·.1)).filter (fun k => smGet resetWord a k != smGet resetWord b k)

/-- A staged value differs from the last committed epoch (`SYS_EPOCH_STAT.PENDING`). -/
def Dev.epochPending (d : Dev) : Bool := d.regs.staged != d.regs.committed

/-- The number of the next epoch (R90). -/
def epochNext (n : Nat) : Nat := if n = 0xFFFF then 1 else n + 1

/-- A commit captures the staged values (R83): the epoch counts as committed, and the blocks that it changes have still to apply it. -/
def Dev.epochCapture (d : Dev) : Dev :=
  let units := (layerDiff d.regs.committed d.regs.staged).foldl (fun l k => if l.contains (unitOf k) then l else l ++ [unitOf k]) []
  let d := { d with regs := { d.regs with committed := d.regs.staged }, epoch := { d.epoch with waiting := units } }
  ((d.fput R.SYS_EPOCH_NUM 0 (epochNext (d.fget R.SYS_EPOCH_NUM))).fputB R.SYS_EPOCH_STAT_APPLYING 0 true).fputB R.BOOT_STAT_WAIT_COMMIT 0 false

/-- A commit is requested (R83, R87): held while an epoch is being applied. -/
def Dev.epochCommit (d : Dev) : Dev :=
  if d.fbit R.SYS_EPOCH_STAT_APPLYING then d.fputB R.SYS_EPOCH_STAT_HELD 0 true else d.epochCapture

/-- An abandon (R88): staged values return to the last committed epoch, and a held commit is cancelled. -/
def Dev.epochAbandon (d : Dev) : Dev :=
  ({ d with regs := { d.regs with staged := d.regs.committed } }).fputB R.SYS_EPOCH_STAT_HELD 0 false

/-- A write of `SYS_EPOCH_CTRL` (R81, R82, R10). -/
def Dev.epochCtrl (d : Dev) (w : Word) : Dev :=
  if bitsOf w 15 8 ≠ 0xA5 then d
  else if bitsOf w 1 1 = 1 then d.epochAbandon
  else if bitsOf w 0 0 = 1 then d.epochCommit
  else d

/-- In-band attention ends with its enable (R14, R536). -/
def Dev.inbApplied (d : Dev) : Dev := if d.fbit R.HIF_CFG_INBAND then d else { d with bus := { d.bus with inb := .idle } }

/-- What the applied settings of a block do at its boundary, against the block `old` before it. -/
def Dev.unitApplied (old d : Dev) (u : EpochUnit) : Dev :=
  if u = .control then ((Dev.clkApplied old d).domDrive).inbApplied.shedWatch else Dev.blockApplied old d u

/-- Block `u` takes its part of the last committed epoch (R84). -/
def Dev.unitApply (d : Dev) (u : EpochUnit) : Dev := d.unitTake u (fun old d => Dev.unitApplied old d u)

/-- The boundary of block `u` restores the applied values that failed their parity (R571); a block with no epoch in flight changes nothing else. -/
def Dev.unitRepair (d : Dev) (u : EpochUnit) : Dev :=
  { d with
    regs := { d.regs with applied := smTake resetWord (fun k => unitOf k == u && d.epoch.bad.contains k) d.regs.applied d.regs.committed }
    epoch := { d.epoch with bad := d.epoch.bad.filter (fun k => unitOf k != u) } }

/-- The present moment is a boundary of block `u` (R83, R116), or none of its kind is to come (R85): the next context block boundary while an input samples,
for the contexts of DAB while one of them is not in OFF; the next block of programme output while a programme runs; the end of the packet on the wire of a
running Ferson port, or on air of the site link. A boundary of any other kind is the command itself. -/
def Dev.unitDue (d : Dev) (u : EpochUnit) : Bool :=
  match u with
  | .rf => d.splStopped || !(d.fbit R.AFE_STAT_SAMPLING 0 || d.fbit R.AFE_STAT_SAMPLING 1) || d.reached d.grid.due
  | .dab => d.splStopped || (List.range 41).all (fun n => d.ctxState 2 n == 0) || d.reached d.grid.due
  | .prg => d.splStopped || d.prgLive.isEmpty || d.reached d.grid.prg
  | .slk => !d.slkBusy
  | .fsp => !d.fspRuns || d.fbit R.FSP_STAT_STOPPED || d.fsp.transit.isNone || decide (d.fsp.wire.length ≤ d.fspOut)
  | _ => true

/-- Block `u` has something to apply, and its boundary has been reached; Anole applies nothing while a flash request is in progress (R80). -/
def Dev.unitMay (d : Dev) (u : EpochUnit) : Bool :=
  (d.epoch.waiting.contains u || d.epoch.bad.any (fun k => unitOf k == u)) && !d.flashBusy && d.unitDue u

/-- BLOCK_EPOCH_APPLY (R84): the boundary of R83 of that block. Before the Ferson port starts the whole Lilypad is cleared (R77). -/
def execBlockEpochApply (unit : EpochUnit) (s : State) : Host.Outcome State Fault Refusal :=
  if s.dev.unitMay unit then
    let d := if unit = .fsp then s.dev.judgeAll s.dev.fsp.formed.length else s.dev
    let d := d.unitRepair unit
    let d := if s.dev.epoch.waiting.contains unit then d.unitApply unit else d
    .next { s with dev := d, lily := if d.fspRuns && !s.dev.fspRuns then [] else s.lily }
  else .next s

/-- Every block has applied the epoch, with the domain transitions that it orders begun (R85, R566). -/
def Dev.epochDone (d : Dev) : Bool := d.fbit R.SYS_EPOCH_STAT_APPLYING && d.epoch.waiting.isEmpty && !d.domPending

/-- The PLLs are to lock for the first time (R70, the boot timeline): after the first epoch has been applied, or once the engines run
without one. -/
def Dev.firstLock (d : Dev) : Dev :=
  let go (d : Dev) (p : Pll) : Dev := if d.fget (pllField p) = 0 then d.wantLock p else d
  go (go d .spl) .apl

/-- EPOCH_APPLY_COMPLETE (R85, R87, R546): a held commit is captured with the staged values of this moment. An EPOCH packet
is formed (the class 0 table of 10). -/
def execEpochApplyComplete (s : State) : Host.Outcome State Fault Refusal :=
  nextDev s (fun d =>
    if !d.epochDone then d
    else
      let d := (((d.fputB R.SYS_EPOCH_STAT_APPLYING 0 false).event R.SYS_OWN_EVT_EPOCH_APPLIED).alertPacket
        ([2, 0] ++ beWord (d.fget R.SYS_EPOCH_NUM))).lifStart.firstLock
      if d.fbit R.SYS_EPOCH_STAT_HELD then (d.fputB R.SYS_EPOCH_STAT_HELD 0 false).epochCapture else d)

end Sys2Proof.Machine
end

