-- ==== Sys2Proof/Machine/Temp.lean ====
section
/-!
DEFINITION. Supplies, reset causes and temperature (spec/18_power_reset.md, R550 to R560, R638; spec/14_clocks_synthesis.md, R438;
spec/20_package_pins.md, R601).
-/
namespace Sys2Proof.Machine

/-! ### Supplies and reset causes -/

/-- The brown-out level and the good level of a supply in mV (the supply table); the two `VIO` banks by the pair they selected (R551). -/
def Dev.supplyLevels (d : Dev) (supply : Nat) : Nat × Nat :=
  let pair (hi : Bool) : Nat × Nat := if hi then (2850, 2950) else (1580, 1650)
  match supply with
  | 0 => (700, 730)
  | 1 => (880, 920)
  | 6 => pair (d.fbit R.PWR_STAT_VIOH_33)
  | 7 => pair (d.fbit R.PWR_STAT_VIOF_33)
  | _ => (1580, 1650)

/-- BROWN_OUT (R550, R555): supply `supply` (a bit of `PWR_BO_SRC`) has stood at no more than `mv` for `ns` ns: a brown-out once that is below its
level for more than 2 µs. The sensors lose their readings with `VDDA18` (R638). -/
def execBrownOut (supply : Fin 8) (mv ns : Nat) (s : State) : Host.Outcome State Fault Refusal :=
  nextDev s (fun d =>
    if (d.supplyLevels supply).1 ≤ mv ∨ ns ≤ 2000 then d
    else
      let d := d.assertCause 1 true
      let b := 2 ^ (supply : Nat)
      let d := { d with pwr := { d.pwr with
        bo := d.pwr.bo ||| b, boSeen := d.pwr.boSeen ||| b, boClk := smSet (fun _ => 0) d.pwr.boClk supply d.time.clk } }
      if (supply : Nat) = 2 then { d with tmp := {} } else d)

/-- SUPPLY_GOOD (R550, R568): good again once the level at which it has stood is above its good level for 1 ms, none of which lies before its last brown-out; the cause ends when every supply is good. The sensors begin with `VDDA18` (R638). -/
def execSupplyGood (supply : Fin 8) (stood : SupplyLevel) (s : State) : Host.Outcome State Fault Refusal :=
  nextDev s (fun d =>
    if stood.mv ≤ (d.supplyLevels supply).2 ∨ stood.us < 1000 ∨ d.since (smGet (fun _ => 0) d.pwr.boClk supply) < Config.sysPerMs ∨ bitAt d.pwr.bo supply = false then d
    else
      let d := { d with pwr := { d.pwr with bo := d.pwr.bo - (d.pwr.bo &&& 2 ^ (supply : Nat)) } }
      let fresh : SMap SensorSt := smSetList (fun _ => {}) [] 0 (List.replicate 4 { clk := d.time.clk })
      let d := if (supply : Nat) = 2 then { d with tmp := { d.tmp with sensors := fresh } } else d
      if d.pwr.bo = 0 then d.endCause 1 else d)

/-- VIO_LEVEL_SELECT (R551): the supply of `VIO_F` (`flash`) or `VIO_H` has risen above 1.2 V, after `low` mV at the least, and has reached `peak` mV within
1 ms of that: the bank selects its pair of levels. -/
def execVioLevelSelect (flash : Bool) (low peak : Nat) (s : State) : Host.Outcome State Fault Refusal :=
  nextDev s (fun d =>
    if 500 ≤ low ∨ peak ≤ 1200 then d
    else d.fputB (if flash then R.PWR_STAT_VIOF_33 else R.PWR_STAT_VIOH_33) 0 (decide (2500 < peak)))

/-- POR (R555). -/
def execPor (s : State) : Host.Outcome State Fault Refusal := nextDev s (fun d => d.assertCause 0 false)

/-- RESET_N_ASSERT (R553): `RESET_N` has been low for `ns` ns. Below 100 ns it never resets, from 1 µs on it always does; between the two it may (a free
value, log entry 13). -/
def execResetNAssert (ns : Nat) (s : State) : Host.Outcome State Fault Refusal :=
  nextDev s (fun d =>
    if ns < 100 then d
    else if 1000 ≤ ns ∨ Config.free d.freeIdx % 2 = 1 then { d with freeIdx := d.freeIdx + 1 }.assertCause 4 true
    else { d with freeIdx := d.freeIdx + 1 })

/-- RESET_N_RELEASE (R553). -/
def execResetNRelease (s : State) : Host.Outcome State Fault Refusal := nextDev s (fun d => d.endCause 4)

/-- A write of `SYS_RST` (R554): 0x5A5A orders a software reset, which a later write does not put off; any other value does nothing (R10). -/
def Dev.softWrite (d : Dev) (v : Nat) : Dev := if v = 0x5A5A && !d.pwr.soft then { d with pwr := { d.pwr with soft := true, softClk := d.time.clk } } else d

/-- SOFTWARE_RESET (R554): 100 µs after the write. -/
def execSoftwareReset (s : State) : Host.Outcome State Fault Refusal :=
  nextDev s (fun d => if d.pwr.soft && decide (usCycles 100 ≤ d.since d.pwr.softClk) then d.assertCause 6 false else d)

/-- XO_LOSS (R438): no edge for 20 µs. -/
def execXoLoss (s : State) : Host.Outcome State Fault Refusal := nextDev s (fun d => d.assertCause 3 false)

/-- TEST_PIN (R601): while `TEST` is high the reset is held; a hold that begins in operation keeps the record of the release before it. -/
def execTestPin (level : Bool) (s : State) : Host.Outcome State Fault Refusal :=
  nextDev s (fun d =>
    if level && d.boot.phase != .inReset then
      let rec_ := d.fget R.PWR_RST_CAUSE_CAUSE
      let bo := d.fget R.PWR_BO_SRC_SUPPLY
      let d := d.mainReset
      { d with pwr := { d.pwr with test := true, seen := d.pwr.seen ||| rec_, boSeen := d.pwr.boSeen ||| bo } }
    else
      { d with pwr := { d.pwr with test := level, endClk := if d.pwr.test && !level then max d.pwr.endClk d.time.clk else d.pwr.endClk } })

/-! ### Temperature -/

/-- Sensor `i`. -/
def Dev.sensor (d : Dev) (i : Nat) : SensorSt := smGet (fun _ => {}) d.tmp.sensors i

/-- Set the state of sensor `i`. -/
def Dev.setSensor (d : Dev) (i : Nat) (v : SensorSt) : Dev :=
  { d with tmp := { d.tmp with sensors := smSet (fun _ => {}) d.tmp.sensors i v } }

/-- A reading of a sensor (R558, R560): out of range it fails; a failed one becomes valid after 100 readings in range. -/
def SensorSt.read (t : SensorSt) (clk trip : Nat) (v : Int) : SensorSt :=
  if v < -550 ∨ 1750 < v then { val := none, failed := true, clk := clk }
  else if t.failed && decide (t.good + 1 < 100) then { val := none, failed := true, good := t.good + 1, clk := clk }
  else { val := some v, failed := false, good := 0, high := if (10 * trip : Int) ≤ v then min (t.high + 1) 3 else 0, clk := clk }

/-- The hottest valid sensor. -/
def Dev.hottest (d : Dev) : Option Int :=
  (List.range 4).foldl (fun m i => match (d.sensor i).val, m with | some v, some x => some (max v x) | some v, none => some v | none, m => m) none

/-- Every sensor has failed (R560). -/
def Dev.noSensor (d : Dev) : Bool := (List.range 4).all (fun i => (d.sensor i).failed)

/-- The TMP registers after a reading or a failure (R558, R560, R638), with their events and what follows from the temperature. -/
def Dev.tmpShow (d : Dev) : Dev :=
  if d.inReset then d
  else
    let old := d.fget R.TMP_STAT_FAILED
    let code (v : Option Int) : Nat := match v with | some x => unsgn 16 x | none => 0x8000
    let d := d.each (List.range 4) (fun d i => d.fput R.TMP_T_TEMP i (code (d.sensor i).val))
    let failed := ((List.range 4).map (fun i => b2n (d.sensor i).failed * 2 ^ i)).foldl (· + ·) 0
    let d := d.fput R.TMP_STAT_FAILED 0 failed
    let d := if failed - (failed &&& old) = 0 then d else d.event R.TMP_EVT_FAIL
    let m := d.hottest
    let d := d.fput R.TMP_MAX_TEMP 0 (code m)
    let d := match m with
      | some x => if d.fget R.TMP_PEAK_TEMP = 0x8000 || decide (d.fgetI R.TMP_PEAK_TEMP < x) then d.fput R.TMP_PEAK_TEMP 0 (code m) else d
      | none => d
    let none' := d.noSensor
    let shed : Int := 10 * d.fget R.TMP_CFG_SHED
    let eff := if none' then some shed else m
    let hot := match eff with | some x => decide (1050 < x) | none => false
    let shedding := match eff with | some x => decide (shed ≤ x) | none => false
    let wasHot := d.fbit R.TMP_STAT_HOT
    let d := ((d.fputB R.TMP_STAT_NONE 0 none').fputB R.TMP_STAT_SHEDDING 0 shedding).fputB R.TMP_STAT_HOT 0 hot
    let d := if hot && !wasHot then d.event R.TMP_EVT_HOT else d
    let d := if shedding && !d.tmp.above then ({ d with tmp := { d.tmp with above := true } }).event R.TMP_EVT_SHED_ON
      else if d.tmp.above && d.coolResume then ({ d with tmp := { d.tmp with above := false } }).event R.TMP_EVT_SHED_OFF
      else d
    d.shedWatch.slkTemp

/-- The thermal trip and its end (R558, R559): three readings at or above TRIP; the time for which the hottest valid sensor has stayed
below TRIP − 20 °C. -/
def Dev.tmpTrip (d : Dev) : Dev :=
  let cool := match d.hottest with | some x => decide (x < 10 * (d.fget R.TMP_CFG_TRIP : Int) - 200) | none => false
  let d : Dev := { d with tmp := { d.tmp with cool := if cool then (if d.tmp.cool = 0 then d.time.clk + 1 else d.tmp.cool) else 0 } }
  if (List.range 4).any (fun i => decide (3 ≤ (d.sensor i).high)) && !bitAt d.pwr.active 2 then d.assertCause 2 true else d

/-- `VDDA18`, which powers the sensors (R558), is in brown-out. -/
def Dev.sensorsDark (d : Dev) : Bool := bitAt d.pwr.bo 2

/-- TEMP_READING (R558, R560, R638): one reading of each sensor in 0.1 °C, none where it returns none; every 10 µs. -/
def execTempReading (values : List (Option Int)) (s : State) : Host.Outcome State Fault Refusal :=
  nextDev s (fun d =>
    if d.sensorsDark || (d.tmp.readClk != 0 && !d.reached (d.tmp.readClk - 1 + usCycles 10)) then d else
    let d := { d with tmp := { d.tmp with readClk := d.time.clk + 1 } }
    let d := d.each (List.range 4) (fun d i =>
      match values.getD i none with
      | some v => d.setSensor i ((d.sensor i).read d.time.clk (d.fget R.TMP_CFG_TRIP) v)
      | none => d)
    d.tmpShow.tmpTrip)

/-- THERMAL_RELEASE (R559): the hottest valid sensor has stayed below TRIP − 20 °C for 1 s. -/
def execThermalRelease (s : State) : Host.Outcome State Fault Refusal :=
  nextDev s (fun d =>
    if d.tmp.cool ≠ 0 && decide (Config.sysPerSecond ≤ d.time.clk + 1 - d.tmp.cool) then d.endCause 2 else d)

/-- SENSOR_FAIL (R560): sensor `i` has returned no reading for 100 µs; one that arrives in the cycle in which they expire has come in time (R7). -/
def execSensorFail (i : Fin 4) (s : State) : Host.Outcome State Fault Refusal :=
  nextDev s (fun d =>
    let t := d.sensor i
    if d.sensorsDark || t.failed || decide (d.since t.clk ≤ usCycles 100) then d else (d.setSensor i { t with val := none, failed := true, good := 0, high := 0 }).tmpShow)

end Sys2Proof.Machine
end

