-- ==== Sys2Proof/Machine/Write.lean ====
section
/-!
DEFINITION. Register access by the host (spec/00_scope.md, R5 to R13; spec/17_two_wire.md, R521, R522): a write with the clamp and the side
effect of its register, a configuration record (spec/02_autonomy_images_epochs.md, R64, R635), a read with its side effect.
-/
namespace Sys2Proof.Machine

/-! ### Staged registers -/

/-- The staged word at `idx`. -/
def Dev.stagedAt (d : Dev) (idx : Nat) : Word := smGet resetWord d.regs.staged idx

/-- Replace bits [hi:lo] of the staged word at `idx`. -/
def Dev.stagedPut (d : Dev) (idx hi lo v : Nat) : Dev := d.setStaged idx (putBits (d.stagedAt idx) hi lo v)

/-- The number of some closed intervals that is nearest to `v`; of two equally near ones the lower (R8). -/
def nearestIn (v : Nat) : List (Nat × Nat) → Nat → Nat
  | [], best => best
  | (lo, hi) :: t, best =>
    let c := clampNat lo hi v
    let far (x : Nat) : Nat := if x < v then v - x else x - v
    nearestIn v t (if far c < far best || (far c == far best && decide (c < best)) then c else best)

/-- The windows of an I/Q tap with rate code `rate` on input `x`, as intervals of its centre in kHz (R140, R147). -/
def tapWindows (x rate : Nat) : List (Nat × Nat) :=
  let h := 1024 / 2 ^ rate
  let vhf := [(64000 + h, 108000 - h), (174000 + h, 245000 - h)]
  if x = 0 then (144 + h, 30000 - h) :: vhf else vhf

/-- The staged centre of tap `n` is clamped against its staged rate and input (R147). -/
def Dev.tapClamp (d : Dev) (n : Nat) : Dev :=
  let b := 0x0440 + 4 * n
  let f := bitsOf (d.stagedAt (b + 3)) 1 0 * 65536 + (d.stagedAt (b + 1)).toNat
  let ws := tapWindows (bitsOf (d.stagedAt b) 11 10) (bitsOf (d.stagedAt (b + 3)) 10 8)
  let c := nearestIn f ws ((ws.head?.getD (0, 0)).1)
  (d.setStaged (b + 1) (BitVec.ofNat 16 c)).stagedPut (b + 3) 1 0 (c / 65536)

/-- A two-field register whose lower field may not exceed its upper field less `gap`. -/
def Dev.stagedBelow (d : Dev) (idx gap : Nat) : Dev :=
  let w := d.stagedAt idx
  d.stagedPut idx 7 0 (min (bitsOf w 7 0) (bitsOf w 15 8 - gap))

/-- KIND and ARG of a programme source as stored (R281). -/
def sourceStored (kind arg : Nat) : Nat :=
  let k := min kind 9
  let pair := min (arg / 256 % 4) 2 * 256 + min (arg % 32) 30
  k * 4096 + (match k with
    | 1 => min arg 255
    | 2 => min arg 159
    | 3 => min arg 40
    | 4 => clampNat 1 8 arg
    | 5 => clampNat 1 8 arg
    | 6 => pair
    | 8 => arg % 2
    | _ => 0)

/-- `PGT[n].REF` as stored: kinds 1 to 3 take ARG as kinds 0x6 to 0x8 do. -/
def refStored (kind arg : Nat) : Nat := kind * 16384 + (if kind = 0 then 0 else sourceStored (kind + 5) arg % 4096)

/-- `MXT[n].SINK` as stored (R387). -/
def sinkStored (kind arg : Nat) : Nat :=
  let k := min kind 3
  k * 4096 + sinkArg k arg

/-- `SLK_HOP[h].FREQ` as stored (R463): two bands, and even values only while RASTER25 is applied. -/
def Dev.hopStored (d : Dev) (f : Nat) : Nat :=
  let v := nearestIn f [(0, 560), (3120, 5200)] 0
  if d.fbit R.SLK_CFG_RASTER25 then v / 2 * 2 else v

/-- The clamps that judge one field against another, after a write of the staged register at `idx` (R8 with the rules cited). -/
def Dev.stagedFix (d : Dev) (idx : Nat) : Dev :=
  let w := d.stagedAt idx
  if idx = 0x0180 then d.stagedPut idx 15 8 (min (bitsOf w 15 8) (bitsOf w 7 0 - 5))                        -- TMP_CFG
  else if 0x02A0 ≤ idx ∧ idx < 0x02B0 ∧ idx % 4 < 2 then                                                   -- CLKOUT, R456
    let b := idx / 4 * 4
    d.stagedPut (b + 1) 12 0 (max (bitsOf (d.stagedAt (b + 1)) 12 0) (if bitsOf (d.stagedAt b) 14 14 = 1 then 13 else 24))
  else if 0x02C4 ≤ idx ∧ idx ≤ 0x02CB then d.stagedPut idx 15 13 (min (bitsOf w 15 13) 2)                  -- GPIO_CFG[4..11]
  else if idx = 0x0302 ∨ idx = 0x0342 then d.stagedPut idx 4 0 (min (bitsOf w 4 0) (bitsOf w 12 8))        -- ATT_LIM, R109
  else if idx = 0x0303 ∨ idx = 0x0343 then d.stagedPut idx 7 0 (max (bitsOf w 7 0) (bitsOf w 15 8 + 3))    -- WGC_TH, R109
  else if 0x042C ≤ idx ∧ idx < 0x0438 then (if (idx - 0x042C) % 3 < 2 then d.stagedBelow idx 1 else d)     -- FMP, R185
  else if 0x0440 ≤ idx ∧ idx < 0x0460 then d.tapClamp ((idx - 0x0440) / 4)                                 -- CHN_IQ, R147
  else if 0x0500 ≤ idx ∧ idx ≤ 0x0502 then d.stagedBelow idx 1                                             -- PRG_SCORE
  else if 0x0683 ≤ idx ∧ idx ≤ 0x0686 then d.stagedBelow idx 0                                             -- JCK_BTN
  else if 0x0A40 ≤ idx ∧ idx < 0x0B00 then
    (if (idx - 0x0A40) % 3 = 0 then d.stagedPut idx 12 0 (d.hopStored (bitsOf w 12 0)) else d)             -- SLK_HOP, R463
  else if 0x2000 ≤ idx ∧ idx < 0x2800 then
    (if 5 ≤ idx % 16 ∧ idx % 16 ≤ 12 then d.setStaged idx (BitVec.ofNat 16 (sourceStored (bitsOf w 15 12) (bitsOf w 11 0)))
     else if idx % 16 = 13 then d.setStaged idx (BitVec.ofNat 16 (refStored (bitsOf w 15 14) (bitsOf w 11 0)))
     else d)
  else if 0x2800 ≤ idx ∧ idx < 0x3000 then
    (if idx % 16 = 0 then d.stagedPut idx 11 8 (min (bitsOf w 11 8) 12)                                     -- R392
     else if idx % 16 = 1 then d.setStaged idx (BitVec.ofNat 16 (sinkStored (bitsOf w 15 12) (bitsOf w 11 0)))
     else d.stagedPut idx 15 12 (min (bitsOf w 15 12) 12))
  else d

/-- A write of a staged register (R5, R8): `FSP_MAP[i]` enters the staged value of the page in `FSP_MAP_SEL`. -/
def Dev.stagedWrite (d : Dev) (fs : List FieldDef) (idx : Nat) (w : Word) : Dev :=
  if 0x0590 ≤ idx ∧ idx < 0x05A0 then
    let p := d.fget R.FSP_MAP_SEL_PAGE
    d.setStaged (mapIdx p (idx - 0x0590)) (w &&& BitVec.ofNat 16 (mapMask p (idx - 0x0590)))
  else (d.setStaged idx (writeFields fs (d.stagedAt idx) w)).stagedFix idx

/-! ### Immediate registers with a behaviour of their own -/

/-- Apply `f` where bit `k` of the written word is 1. -/
def Dev.onBit (d : Dev) (w : Word) (k : Nat) (f : Dev → Dev) : Dev := if bitAt w.toNat k then f d else d

/-- A write of `CHN_FLAG_CTX` or `DAB_FLAG_CTX`: the index is held within the pool's size. -/
def Dev.flagCtx (d : Dev) (fp fi : Fld) (w : Word) (size0 size1 : Nat) : Dev :=
  let p := min (bitsOf w fp.hi fp.lo) 1
  (d.fput fp 0 p).fput fi 0 (min (bitsOf w fi.hi fi.lo) ((if p = 0 then size0 else size1) - 1))

/-- A command register of the front end, the calibration or the clocks. -/
def Dev.cmdWrite (d : Dev) (idx : Nat) (w : Word) : Option Dev :=
  let on := d.onBit w
  if idx = 0x030A ∨ idx = 0x034A then
    let x := (idx - 0x030A) / 64
    some (((d.onBit w 0 (·.phRestart x))).onBit w 1 (·.reacquire x))
  else if idx = 0x0387 then
    some ((((d.onBit w 0 (·.bicDiscard 0)).onBit w 1 (·.bicDiscard 1)).onBit w 2 (·.bicFactory 0)).onBit w 3 (·.bicFactory 1))
  else if idx = 0x0209 then
    some (((d.onBit w 0 (·.cmdRelock .spl)).onBit w 1 (fun d => (d.cmdRelock .apl).aplStopSequences)).onBit w 2 Dev.discRestart)
  else if idx = 0x0143 then
    some ((d.onBit w 7 (·.scriptQueue (bitsOf w 3 0))).onBit w 8 Dev.lifClear)
  else if idx = 0x0406 then some (on 0 Dev.releaseMgd)
  else if idx = 0x040E then some (on 0 Dev.clrAsk)
  else if idx = 0x050A then some ((d.onBit w 0 Dev.prgReestimate).onBit w 1 Dev.prgClrLoud)
  else if idx = 0x058A then some (on 0 Dev.fspClear)
  else if idx = 0x060A then some (on 0 Dev.spkRestart)
  else if idx = 0x0687 then some (on 0 Dev.jackReclassify)
  else if idx = 0x06DB then some (on 0 Dev.eqLoad)
  else if idx = 0x06E3 then some (on 0 Dev.clrMtr)
  else if idx = 0x0807 ∨ idx = 0x0847 ∨ idx = 0x0887 then some (on 0 (·.portRestart ((idx - 0x0807) / 64)))
  else if idx = 0x08C4 then some (on 0 Dev.spdLatch)
  else if idx = 0x090F then some ((d.onBit w 0 (fun d => onlyIf (d.domOn 7) Dev.recal d)).onBit w 1 (·.slkFlush 7))
  else none

/-- A selector, a flag window, or a register whose write does more than store. -/
def Dev.selWrite (d : Dev) (idx : Nat) (w : Word) : Option Dev :=
  if 0x02A0 ≤ idx ∧ idx < 0x02B0 ∧ idx % 4 = 2 then
    let k := (idx - 0x02A0) / 4
    some ((d.fineRestart k).fput R.CLKOUT_FINE_FINE k (bitsOf w 5 0))
  else if idx = 0x03C8 then some (d.scnLatch (bitsOf w 15 15) (bitsOf w 8 0))
  else if idx = 0x041E then some (d.flagCtx R.CHN_FLAG_CTX_POOL R.CHN_FLAG_CTX_INDEX w 256 160)
  else if idx = 0x041F then some (d.chnFlagClear (bitsOf w 7 0))
  else if idx = 0x0428 then some (d.viewLatch (bitsOf w 13 12) (bitsOf w 8 0))
  else if idx = 0x0439 then some (d.rdsFlagClear (bitsOf w 7 0))
  else if idx = 0x043A then some (d.grpLatch (bitsOf w 8 0))
  else if idx = 0x0460 then some (d.measLatch (bitsOf w 15 15) (bitsOf w 14 12) (bitsOf w 8 0))
  else if idx = 0x0493 then some (d.flagCtx R.DAB_FLAG_CTX_POOL R.DAB_FLAG_CTX_INDEX w 41 48)
  else if idx = 0x0494 then some (d.dabFlagClear (bitsOf w 7 0))
  else if idx = 0x0524 then some (d.prgFlagClear (bitsOf w 7 0))
  else if idx = 0x0540 then some (d.prgLatch (bitsOf w 15 14) (bitsOf w 6 0))
  else if idx = 0x05B0 then some (d.dropLatch (bitsOf w 15 12) (bitsOf w 11 0))
  else if 0x06C4 ≤ idx ∧ idx < 0x06D0 ∧ (idx - 0x06C4) % 3 = 2 then some (d.toneWrite ((idx - 0x06C4) / 3) (bitsOf w 7 0))
  else if idx = 0x0602 ∨ idx = 0x0603 then some (d.pgaWrite (idx - 0x0602) (bitsOf w 5 0))
  else if idx = 0x06D0 then some (d.eqSelect (bitsOf w 10 8) (bitsOf w 6 0))
  else if idx = 0x06E8 then some (d.mtrLatch (bitsOf w 6 0))
  else if 0x2800 ≤ idx ∧ idx < 0x3000 ∧ 10 ≤ idx % 16 ∧ idx % 16 ≤ 13 then
    some (d.gainWrite ((idx - 0x2800) / 16) (idx % 16 - 10) (bitsOf w 15 8) (bitsOf w 7 0))
  else none

/-- Registers of SYS, the RTC and the Monitor whose write does more than store. -/
def Dev.sysWrite (flash : SMap Byte) (d : Dev) (idx : Nat) (w : Word) : Option Dev :=
  if idx = 0x0004 then some (d.epochCtrl w)
  else if idx = 0x0008 then some (d.softWrite w.toNat)
  else if 0x00C1 ≤ idx ∧ idx ≤ 0x00C4 then some (d.rtcWrite (idx - 0x00C1) w)
  else if idx = 0x00C5 then some (if bitAt w.toNat 15 then d.rtcHalt else d.rtcResume)
  else if idx = 0x00C6 then some (d.onBit w 15 Dev.osfClear)
  else if idx = 0x00C7 then some (d.rtcTrim w)
  else if 0x00E0 ≤ idx ∧ idx ≤ 0x00FF then some (d.bramWrite (idx - 0x00E0) w)
  else if idx = 0x01C1 then some (((d.onBit w 0 Dev.monFlush).onBit w 1 (·.monNewest flash)).onBit w 2 Dev.monOldest)
  else if idx = 0x01C3 then some (d.monSeqWrite w.toNat)
  else none

/-- A host write of `w` to the register at `idx` (R5, R8, R10, R11, R521). -/
def Dev.hostWrite (flash : SMap Byte) (d : Dev) (idx : Nat) (w : Word) : Dev :=
  match findRow idx with
  | none => d
  | some (r, _) =>
    if r.staged then d.stagedWrite r.fields idx w
    else
      match Dev.sysWrite flash d idx w with
      | some e => e
      | none =>
        match d.cmdWrite idx w with
        | some e => e
        | none =>
          match d.selWrite idx w with
          | some e => e
          | none => d.setImm idx (writeFields r.fields (smGet resetWord d.regs.imm idx) w)

/-! ### Configuration records -/

/-- The bits of a record that its RW and RWS fields take (R64). -/
def recordBits (fs : List FieldDef) (w : Word) : Word :=
  fs.foldl (fun v f => if f.acc == .rw || f.acc == .rws then putBits v f.hi f.lo (bitsOf w f.hi f.lo) else v) 0

/-- A configuration record (R64, R635): as a host write of its RW and RWS bits; a register without one, a command code and an unassigned index
are skipped and counted. -/
def Dev.recordWrite (flash : SMap Byte) (d : Dev) (idx : Nat) (w : Word) : Dev :=
  match findRow idx with
  | none => d.bump R.BOOT_SKIP_COUNT
  | some (r, _) => if recordTakes r.fields then Dev.hostWrite flash d idx (recordBits r.fields w) else d.bump R.BOOT_SKIP_COUNT

/-! ### Reads -/

/-- In-band attention is on (R14, R533): its enable is applied, and was at the last START. -/
def Dev.inbOn (d : Dev) : Bool := d.fbit R.HIF_CFG_INBAND && bitAt d.bus.cfg 14

/-- `HIF_STAT` as it stands. -/
def Dev.hifStat (d : Dev) : Nat :=
  let alert := d.halert
  let hold := alert && d.bus.inb == .hold
  let wait := alert && d.inbOn && d.bus.inb == .idle
  0x8000 * b2n alert + 0x4000 * b2n hold + 0x2000 * b2n wait + d.fget R.HIF_STAT_STRAP * 128 + d.fget R.HIF_STAT_ADDRESS

/-- The value that a read of an immediate register with a value of its own shows: device time, summaries, flag windows, frozen sets. -/
def Dev.readOwn (d : Dev) (idx : Nat) : Option Nat :=
  if idx = 0x0006 then some (4 * b2n d.epochPending + d.fget R.SYS_EPOCH_STAT % 4)
  else if idx = 0x0010 then some d.sysEvt
  else if idx = 0x0011 then some d.sysEvt2
  else if 0x0020 ≤ idx ∧ idx ≤ 0x0023 then
    let t := d.time.frozen.getD d.dtimeNow
    some ([t.1, t.2.1, t.2.2.1, t.2.2.2].getD (idx - 0x0020) 0)
  else if 0x00C0 ≤ idx ∧ idx ≤ 0x00C4 then some ((d.rtc.shadow.getD d.rtcTime).getD (idx - 0x00C0) 0)
  else if idx = 0x0110 then some d.hifStat
  else if 0x02A0 ≤ idx ∧ idx < 0x02B0 ∧ 2 ≤ idx % 4 then
    let k := (idx - 0x02A0) / 4
    let now := d.fineNow k
    some (if idx % 4 = 2 then 0x8000 * b2n (now != d.fget R.CLKOUT_FINE_FINE k) + d.fget R.CLKOUT_FINE_FINE k
      else d.fget R.CLKOUT_STAT_STATE k * 16384 + d.fget R.CLKOUT_STAT_SEC_OK k * 8192 + now)
  else if idx = 0x03B1 then some (unsgn 16 d.corrView.ofs)
  else if idx = 0x03B2 then some (unsgn 16 d.corrView.gain)
  else if idx = 0x03B3 then some (unsgn 16 d.corrView.skew)
  else if idx = 0x041D then some d.chnFlagNext
  else if idx = 0x041F then some (d.chnFlags (d.fget R.CHN_FLAG_CTX_POOL) (d.fget R.CHN_FLAG_CTX_INDEX))
  else if idx = 0x0427 then some d.rdsNext
  else if idx = 0x0439 then some (d.rdsOf (d.fget R.CHN_RDS_FCTX_INDEX)).flags
  else if idx = 0x0492 then some d.dabFlagNext
  else if idx = 0x0494 then some d.dabFlags
  else if idx = 0x0522 then some d.prgFlagNext
  else if idx = 0x0524 then some (d.prgOf (d.fget R.PRG_FLAG_CTX_INDEX)).flags
  else if idx = 0x05AE then some (d.fsp.sent / 65536)
  else if idx = 0x06E2 then some d.mixFlagNext
  else if 0x3000 ≤ idx ∧ idx < 0x3800 ∧ 4 ≤ idx % 8 ∧ idx % 8 ≤ 6 then
    ((d.rdsOf ((idx - 0x3000) / 8)).psFrozen).map (fun p => [p.1, p.2.1, p.2.2].getD (idx % 8 - 4) 0)
  else none

/-- The value that a host read of the register at `idx` returns (R5, R11, R522): the staged value of a staged register. -/
def Dev.readReg (d : Dev) (idx : Nat) : Nat :=
  if 0x0590 ≤ idx ∧ idx < 0x05A0 then (d.stagedAt (mapIdx (d.fget R.FSP_MAP_SEL_PAGE) (idx - 0x0590))).toNat
  else if isStaged idx then (d.stagedAt idx).toNat
  else match d.readOwn idx with
    | some v => v % 65536
    | none => (smGet resetWord d.regs.imm idx).toNat

/-- What a host read of the register at `idx` captures before its value is taken (R27, R229, R335, R451, R503). -/
def Dev.readBefore (d : Dev) (idx : Nat) : Dev :=
  if idx = 0x0020 then d.dtimeFreeze
  else if 0x00C0 ≤ idx ∧ idx ≤ 0x00C4 then d.rtcSettle.rtcFreeze
  else if idx = 0x00C5 ∨ idx = 0x00C6 then d.rtcSettle
  else if idx = 0x01C6 then d.monSeqCapture
  else if idx = R.CLK_PHASE_HI.base then d.phaseCapture false
  else if idx = R.CLK_THETA_HI.base then d.phaseCapture true
  else if idx = 0x05AE then d.sentCapture
  else if 0x3000 ≤ idx ∧ idx < 0x3800 ∧ idx % 8 = 3 then d.psFreeze ((idx - 0x3000) / 8)
  else d

/-- What a host read of the register at `idx` releases after its value has been taken (R27, R229, R503). -/
def Dev.readAfter (d : Dev) (idx : Nat) : Dev :=
  if idx = 0x0023 then d.dtimeRelease
  else if idx = 0x00C4 then d.rtcRelease
  else if 0x3000 ≤ idx ∧ idx < 0x3800 ∧ idx % 8 = 6 then d.psRelease ((idx - 0x3000) / 8)
  else d

/-- Every frozen set is released at the end of a transaction (R523). -/
def Dev.freezeEnd (d : Dev) : Dev :=
  let d := d.dtimeRelease.rtcRelease
  { d with rds := d.rds.map (fun e => (e.1, { e.2 with psFrozen := none })) }

end Sys2Proof.Machine
end

