-- ==== Sys2Proof/Machine/Boot.lean ====
section
/-!
DEFINITION. Boot: the release of reset, the images and their checks, the choice of the bank, the release of the engines with the image's
configuration, and the full warm restart (spec/02_autonomy_images_epochs.md, R55 to R77, R635, R637; spec/18_power_reset.md, R555, R556).
-/
namespace Sys2Proof.Machine

/-! ### Images -/

/-- An image as its bytes by offset. -/
abbrev BootImage : Type := Nat → Nat

/-- Bank 0 (A) or 1 (B) of the flash. -/
def bankImage (flash : SMap Byte) (bank : Nat) : BootImage := fun k => (smGet erased flash (0x400000 * bank + k)).toNat

/-- The Lilypad as the place of a host-loaded image (R76). -/
def hostImage (lily : SMap Byte) : BootImage := fun k => (smGet (fun _ => 0) lily k).toNat

/-- `n` bytes of an image from offset `a`. -/
def imgPart (img : BootImage) (a n : Nat) : List Nat := (List.range n).map (fun i => img (a + i))

/-- The number of `n` bytes at offset `a`, the most significant first (R59). -/
def imgVal (img : BootImage) (a n : Nat) : Nat := ofBe (imgPart img a n)

/-- IMG_LEN of the header. -/
def imgLen (img : BootImage) : Nat := imgVal img 0x00C 4

/-- SEQ of the header. -/
def imgSeq (img : BootImage) : Nat := imgVal img 0x008 4

/-- A directory entry. -/
structure Section where
  type : Nat
  cls : Nat
  off : Nat
  len : Nat
  crc : Nat
deriving DecidableEq, Repr

/-- The section directory. -/
def imgSections (img : BootImage) : List Section :=
  (List.range (imgVal img 0x006 2)).map (fun i =>
    let e := 0x100 + 16 * i
    ⟨imgVal img e 1, imgVal img (e + 1) 1, imgVal img (e + 4) 4, imgVal img (e + 8) 4, imgVal img (e + 12) 4⟩)

/-- The header, trailer and signature checks 1 to 4 of R62: 0, or the code of the first that fails. `len`: the length that load end names
(R76). -/
def headerCheck (img : BootImage) (len : Option Nat) : Nat :=
  let n := imgLen img
  let c := imgVal img 0x006 2
  if imgPart img 0 4 ≠ [0x50, 0x51, 0x73, 0x60] ∨ imgVal img 0x004 2 ≠ 1 then 1
  else if imgVal img 0x0FC 4 ≠ crc32 (imgPart img 0 0xFC) then 2
  else if imgVal img 0x018 2 ≠ 0x7360 ∨ n % 256 ≠ 0 ∨ n < 1280 ∨ 4194304 < n ∨ c < 13 ∨ 24 < c ∨ len.getD n ≠ n then 3
  else if imgPart img (n - 16) 4 ≠ [0x60, 0x73, 0x51, 0x50] ∨ imgVal img (n - 12) 4 ≠ imgSeq img then 4
  else 0

/-- Register blocks as the records that they stand for (R63); none where a block has a bad count or runs past the section (R62). -/
def blockRecords : Nat → List Nat → Option (List (Nat × Nat))
  | 0, _ => none
  | fuel + 1, bs =>
    match bs with
    | [] => some []
    | b1 :: b0 :: n1 :: n0 :: rest =>
      let n := n1 * 256 + n0
      if 1 ≤ n ∧ n ≤ 4096 ∧ 2 * n ≤ rest.length then
        (blockRecords fuel (rest.drop (2 * n))).map
          ((List.range n).map (fun i => (b1 * 256 + b0 + i, ofBe ((rest.drop (2 * i)).take 2))) ++ ·)
      else none
    | _ => none

/-- The bytes of a section. -/
def secBytes (img : BootImage) (s : Section) : List Nat := imgPart img s.off s.len

/-- The section holds a firmware section whose header agrees with its directory entry (R62). -/
def firmwareOk (img : BootImage) (s : Section) : Bool :=
  decide (48 ≤ s.len) && imgVal img (s.off + 0x20) 4 + 48 == s.len && decide (img (s.off + 1) ≤ 15) && img s.off == s.cls

/-- A section is well placed and well formed (check 6 of R62). -/
def sectionOk (img : BootImage) (s : Section) : Bool :=
  s.off % 256 == 0 && decide (0x400 ≤ s.off) && decide (s.off + s.len ≤ imgLen img - 16) && s.crc == crc32 (secBytes img s) &&
    (s.type != 1 || firmwareOk img s) && (s.type != 2 || s.len % 4 == 0) &&
    (!(decide (3 ≤ s.type) && decide (s.type ≤ 7)) || (blockRecords (s.len + 1) (secBytes img s)).isSome)

/-- Two sections share no byte. -/
def apart (s t : Section) : Bool := decide (min (s.off + s.len) (t.off + t.len) ≤ max s.off t.off)

/-- No two sections of a list overlap. -/
def allApart : List Section → Bool
  | [] => true
  | s :: t => t.all (apart s) && allApart t

/-- Every section type occurs as often as it must (check 7 of R62). -/
def countsOk (l : List Section) : Bool :=
  let n (p : Section → Bool) : Nat := (l.filter p).length
  (List.range 7).all (fun c => n (fun s => s.type == 1 && s.cls == c) == 1) && n (fun s => s.type == 1) == 7 &&
    [2, 3, 4, 5, 6, 7].all (fun t => n (fun s => s.type == t) == 1) && decide (n (fun s => s.type == 8) ≤ 1)

/-- The whole check of R62: 0 for a valid image, else the code of the first check that fails. -/
def imageCheck (img : BootImage) (len : Option Nat) : Nat :=
  let n := imgLen img
  let l := imgSections img
  if headerCheck img len ≠ 0 then headerCheck img len
  else if imgVal img (n - 8) 4 ≠ crc32 (imgPart img 0 (n - 16)) then 5
  else if !(l.all (sectionOk img) && allApart l) then 6
  else if !countsOk l then 7
  else 0

/-- The one section of type `t`. -/
def sectionOf (img : BootImage) (t : Nat) : Option Section := (imgSections img).find? (fun s => s.type == t)

/-- The offset of the firmware section of class `c`. -/
def firmwareAt (img : BootImage) (c : Nat) : Nat :=
  match (imgSections img).find? (fun s => s.type == 1 && s.cls == c) with
  | some s => s.off
  | none => 0

/-- The section was qualified with the silicon step (R67). -/
def stepOk (img : BootImage) (c : Nat) : Bool := (List.range 4).any (fun i => imgVal img (firmwareAt img c + 8 + 2 * i) 2 == Config.step)

/-- Class `c` accepts the interface generation of class `t` (R67). -/
def accepts (img : BootImage) (c t : Nat) : Bool :=
  bitAt (imgVal img (firmwareAt img c + 0x10 + 2 * t) 2) (img (firmwareAt img t + 1))

/-- The compatibility check (R67, R68): the classes that fail, bit c for class c. -/
def compatFail (img : BootImage) : Nat :=
  let good := (List.range 7).filter (stepOk img)
  let fails (c : Nat) : Bool := !good.contains c || good.any (fun t => t != c && !accepts img c t)
  ((List.range 7).map (fun c => b2n (fails c) * 2 ^ c)).foldl (· + ·) 0

/-- The configuration records of an image in the order of R63. -/
def imgRecords (img : BootImage) : List (Nat × Nat) :=
  let blocks (t : Nat) : List (Nat × Nat) :=
    match sectionOf img t with
    | some s => (blockRecords (s.len + 1) (secBytes img s)).getD []
    | none => []
  let script := match sectionOf img 2 with
    | some s => (List.range (s.len / 4)).map (fun i => (imgVal img (s.off + 4 * i) 2, imgVal img (s.off + 4 * i + 2) 2))
    | none => []
  [7, 5, 6, 4, 3].flatMap blocks ++ script

/-- The local bus script section of an image. -/
def imgScripts (img : BootImage) : Option (List Nat) := (sectionOf img 8).map (secBytes img)

/-! ### Release of the engines -/

/-- `BOOT_FW[c]` of the running firmware: the baseline by R637, or the section's VERSION and GEN. -/
def Dev.fwShow (d : Dev) (img : Option BootImage) (fail : Nat) : Dev :=
  d.each (List.range 7) (fun d c =>
    match img with
    | some m =>
      if bitAt fail c then ((d.fput R.BOOT_FW_VER c 0).fput R.BOOT_FW_BUILD c 0x0B01).fput R.BOOT_FW_GEN c 0x8000
      else
        ((d.fput R.BOOT_FW_VER c (imgVal m (firmwareAt m c + 4) 2)).fput R.BOOT_FW_BUILD c (imgVal m (firmwareAt m c + 6) 2)).fput
          R.BOOT_FW_GEN c (m (firmwareAt m c + 1) % 16)
    | none => ((d.fput R.BOOT_FW_VER c 0).fput R.BOOT_FW_BUILD c 0x0B01).fput R.BOOT_FW_GEN c 0x8000)

/-- Classes that run their baseline are reported (R69). -/
def Dev.mismatch (d : Dev) (fail : Nat) : Dev :=
  if fail = 0 then d else ((d.fput R.BOOT_MISMATCH_CLASS 0 fail).fputB R.BOOT_STAT_FW_MISMATCH 0 true).event R.BOOT_EVT_FW_MISMATCH

/-- PD4 to PD7 are ON, so that the engine memories can be written (R561). -/
def Dev.enginesUp (d : Dev) : Bool := [4, 5, 6, 7].all d.domOn

/-- The engines are released at their entry addresses (R69, R561): the domains follow `PWR_DOM`, and the correction is loaded from the journal. -/
def Dev.engineRelease (d : Dev) (flash : SMap Byte) : Dev :=
  let d := ({ d with boot := { d.boot with phase := .released } }).event R.BOOT_EVT_IMAGE_LOADED
  (if d.boot.sfdp.isNone then d else d.journalLoad flash).domDrive

/-- The configuration of an image is applied into the staged shadows, its immediate fields at once (R63, R64, R635); its scripts are checked
(R545). -/
def Dev.configApply (d : Dev) (flash : SMap Byte) (img : BootImage) : Dev :=
  (d.each (imgRecords img) (fun d r => Dev.recordWrite flash d r.1 (BitVec.ofNat 16 r.2))).lifLoad (imgScripts img)

/-- The source of the running image as the registers report it. -/
def Dev.imageShow (d : Dev) (bank seq : Nat) (fallback : Bool) : Dev :=
  let d := ((d.fput R.BOOT_STAT_BANK 0 bank).fputB R.BOOT_STAT_FALLBACK 0 fallback).fputB R.BOOT_STAT_IMG_WAIT 0 false
  (d.fput R.BOOT_SEQ_HI_SEQ_HI 0 (seq / 65536)).fput R.BOOT_SEQ_LO_SEQ_LO 0 (seq % 65536)

/-- The end of the boot by its mode (R56): the configuration is committed as epoch 1, or waits for the host's commit. -/
def Dev.bootCommit (d : Dev) : Dev :=
  if d.fget R.BOOT_STAT_MODE = 1 then (d.fputB R.BOOT_STAT_WAIT_COMMIT 0 true).event R.BOOT_EVT_WAIT_COMMIT else d.epochCommit

/-- The engines run from an image with the baselines of the classes in `fail` (R67 to R69): then its configuration, committed as epoch 1, or
left staged in mode 0b01 (R56). `bank`: 0 A, 1 B, 2 host-loaded. -/
def Dev.runImage (d : Dev) (flash : SMap Byte) (img : BootImage) (bank fail : Nat) (fallback : Bool) : Dev :=
  let d : Dev := { d with boot := { d.boot with tadpole := fail, noImage := false } }
  let d := ((d.fwShow (some img) fail).mismatch fail).engineRelease flash
  ((d.imageShow bank (imgSeq img) fallback).configApply flash img).bootCommit

/-- Neither bank is valid (R70): the baselines of every class are to be loaded. -/
def Dev.noImageBoot (d : Dev) : Dev :=
  (({ d with boot := { d.boot with phase := .baseline, noImage := true } }).fputB R.BOOT_STAT_NO_IMAGE 0 true).mismatch 0x7F

/-- BASELINE_LOAD_DONE (R70, R637): the ROM baselines stand in the engine memories, and the engines are released; no configuration, no epoch. -/
def execBaselineLoadDone (s : State) : Host.Outcome State Fault Refusal :=
  nextDev s (fun d =>
    if d.boot.phase ≠ .baseline || !d.enginesUp then d
    else
      let d := { d with boot := { d.boot with tadpole := 127 } }
      ((d.fwShow none 127).engineRelease s.flash).firstLock)

/-! ### Choosing the bank -/

/-- The result register of bank 0 (A), bank 1 (B) or the host-loaded image (2). -/
def resField (bank : Nat) : Fld := match bank with | 0 => R.BOOT_A_RES | 1 => R.BOOT_B_RES | _ => R.BOOT_H_RES

/-- BANK_HEADERS_READ (R65, R66): each bank reports its first failing check, or 0x9; the preferred bank is then read in full. -/
def execBankHeadersRead (s : State) : Host.Outcome State Fault Refusal :=
  nextDev s (fun d =>
    if d.boot.phase ≠ .headers then d
    else
      let ia := bankImage s.flash 0
      let ib := bankImage s.flash 1
      let ca := headerCheck ia none
      let cb := headerCheck ib none
      let show_ (c : Nat) : Nat := if c = 0 then 9 else c
      let d := (d.fput (resField 0) 0 (show_ ca)).fput (resField 1) 0 (show_ cb)
      let read (bank : Fin 2) : Dev := { d with boot := { d.boot with phase := .reading bank true } }
      if ca = 0 ∧ cb = 0 then (if seqNewer (imgSeq ib) (imgSeq ia) then read 1 else read 0)
      else if ca = 0 then read 0
      else if cb = 0 then read 1
      else d.noImageBoot)

/-- BANK_READ_DONE (R62, R66 to R70): the bank read in full runs, the other bank is read, or the best of what was found runs. -/
def execBankReadDone (s : State) : Host.Outcome State Fault Refusal :=
  nextDev s (fun d =>
    match d.boot.phase with
    | .reading bank first =>
      if !d.enginesUp then d
      else
        let img := bankImage s.flash bank
        let code := imageCheck img none
        let fail := if code = 0 then compatFail img else 0
        let d := d.fput (resField bank) 0 (if code ≠ 0 then code else if fail ≠ 0 then fail * 256 + 8 else 0)
        let other := 1 - (bank : Nat)
        let run (d : Dev) (b f : Nat) (fallback : Bool) : Dev := d.runImage s.flash (bankImage s.flash b) b f fallback
        if first then
          if code = 0 ∧ fail = 0 then run d bank 0 false
          else if headerCheck (bankImage s.flash other) none = 0 then
            { d with boot := { d.boot with phase := .reading (if bank = 0 then 1 else 0) false, prefValid := code == 0, prefFail := fail } }
          else if code = 0 then run d bank fail false
          else d.noImageBoot
        else
          if code = 0 ∧ fail = 0 then run d bank 0 true
          else if d.boot.prefValid then run d other d.boot.prefFail false
          else if code = 0 then run d bank fail true
          else d.noImageBoot
    | _ => d)

/-! ### The release of reset -/

/-- The reset causes are recorded (R556): `PWR_RST_CAUSE`, `PWR_BO_SRC`, `PWR_EVT.RESET`; `extra`: a cause of this release. -/
def Dev.causesShow (d : Dev) (extra : Nat) : Dev :=
  let d := ((d.fput R.PWR_RST_CAUSE_CAUSE 0 (d.pwr.seen ||| extra)).fput R.PWR_BO_SRC_SUPPLY 0 d.pwr.boSeen).event R.PWR_EVT_RESET
  { d with pwr := { d.pwr with seen := 0, boSeen := 0 } }

/-- The number of the lowest bit set among the eight causes. -/
def lowestCause (v : Nat) : Nat := ((List.range 8).find? (bitAt v)).getD 0

/-- How a flash with that SFDP table is read (R57, R58): 1-4-4 where it is listed, else 1-1-4, else the single-line command 0x03 at 26 MHz. -/
def flashReadOf (sfdp : Option Sfdp) : FlashRead :=
  match sfdp with
  | some f =>
    match f.read144, f.read114 with
    | some c, _ => { addrLines := 4, dataLines := 4, command := c, mhz := 104, enable := some f.quadEnable }
    | none, some c => { addrLines := 1, dataLines := 4, command := c, mhz := 104, enable := some f.quadEnable }
    | none, none => {}
  | none => {}

/-- The flash is reset by 0x66 and 0x99, its SFDP table is read by 0x5A of JESD216, and it is then read as the table says (R57, R58). -/
def Dev.flashStart (d : Dev) (sfdp : Option Sfdp) : Dev :=
  let r := flashReadOf sfdp
  ({ d with boot := { d.boot with sfdp := sfdp, sent := [0x66, 0x99, 0x5A], read := r } }).fputB R.BOOT_STAT_SLOW_FLASH 0 (r.dataLines == 1)

/-- The ROM checksum has passed (R32, R58, R561): the domains are ordered ON, the SFDP table is known, and the boot goes on by its mode. -/
def Dev.romPassed (d : Dev) (sfdp : Option Sfdp) : Dev :=
  let mode := d.fget R.BOOT_STAT_MODE
  let phase : BootPhase := if mode = 2 then .imgWait else if mode = 3 then .baseline else .headers
  let d := { d with boot := { d.boot with phase := phase } }
  let d := (d.flashStart sfdp).fputB R.BOOT_STAT_IMG_WAIT 0 (mode == 2)
  let d := if sfdp.isSome then d else (d.fputB R.BIC_JNL_STAT_STOPPED 0 true).fputB R.MON_STAT_LOG_STOP 0 true
  d.domDrive

/-- What the release of the main reset leaves before the ROM checksum (R23, R55, R515, R518, R556, R559, R588). -/
def Dev.resetReleased (d : Dev) (flash : SMap Byte) (boot addr : Nat) : Dev :=
  let cause := d.pwr.seen
  let d := (d.causesShow 0).fput R.BOOT_STAT_MODE 0 boot
  let d := (d.fput R.HIF_STAT_STRAP 0 addr).fput R.HIF_STAT_ADDRESS 0 (0x58 + addr)
  let d := if bitAt cause 2 then d.event R.TMP_EVT_TRIPPED else d
  let d := if d.rtc.cold then ({ d with rtc := { d.rtc with cold := false } }).event R.RTC_EVT_COLD else d
  let d : Dev := { d with
    time := { d.time with sec := d.rtcSeconds % 2 ^ 32, cyc := 0 }
    boot := { d.boot with releaseClk := d.time.clk }
    mon := { d.mon with bootPair := true } }
  let d := (d.ringLoad flash).lifeBy (0x18 + 4 * lowestCause cause) 4 1
  if bitAt cause 0 then d.lifeBy 0x14 4 1 else d

/-- RESET_RELEASE (R556): every cause has ended 100 µs ago and `TEST` is low; `boot` and `addr` are the strap levels, `romOk` the result of the ROM
checksum, `sfdp` what the flash answers to the SFDP read. -/
def execResetRelease (boot addr : Fin 4) (romOk : Bool) (sfdp : Option Sfdp) (s : State) : Host.Outcome State Fault Refusal :=
  let d := s.dev
  if d.boot.phase ≠ .inReset || d.pwr.active != 0 || d.pwr.test || !d.reached (d.pwr.endClk + usCycles 100) then .next s
  else
    let d := d.resetReleased s.flash boot addr
    .next { s with
      dev := if romOk then d.romPassed sfdp else { d with boot := { d.boot with phase := .romHold } }
      lily := [] }

/-- ROM_CHECK_RETRY (R32): the ROM checksum is tried again, 1 s after the last time. The milliseconds of `BOOT_T_AUDIO` (R73) then count from this retry:
which moment is the release of reset for them after a failed checksum the spec leaves open (DESIGN CHOICE, log entry 64). -/
def execRomCheckRetry (ok : Bool) (sfdp : Option Sfdp) (s : State) : Host.Outcome State Fault Refusal :=
  nextDev s (fun d =>
    if d.boot.phase ≠ .romHold || decide (d.since d.boot.releaseClk < Config.sysPerSecond) then d
    else
      let d := { d with boot := { d.boot with releaseClk := d.time.clk } }
      if ok then d.romPassed sfdp else d)

/-! ### Full warm restart -/

/-- The configuration records of the running bank that a full warm restart skips (R64, R74): the staged values and the immediate registers
are restored after them (R91). -/
def Dev.warmRecords (d : Dev) (flash : SMap Byte) : Dev :=
  let bank := d.fget R.BOOT_STAT_BANK
  if bank < 2 then
    let img := bankImage flash bank
    let skipped := (imgRecords img).filter (fun r => match findRow r.1 with | some (row, _) => !recordTakes row.fields | none => true)
    (d.bumpBy R.BOOT_SKIP_COUNT 0 skipped.length).lifLoad (imgScripts img)
  else d

/-- Every fault domain restarts (R574 code 7), the Ferson port with an empty Lilypad, the site link with an empty ledger. -/
def Dev.warmDomains (d : Dev) : Dev :=
  let d := ((d.fabricRestart).dabRestart).audioRestart
  let d := if d.fspRuns then d.discardAll.fspStart else d
  (d.slkDown).slkUp true

/-- The last committed epoch is restored in full (R74, R91): every block that has still to apply it does so, and applied values that failed their parity
are right again. -/
def Dev.epochRestore (d : Dev) : Dev :=
  let d := d.each d.epoch.waiting (fun d u => d.unitApply u)
  { d with regs := { d.regs with applied := d.regs.committed }, epoch := { d.epoch with bad := [] } }

/-- A full warm restart (R74, R91, R555, R577): the last committed epoch is restored in full, the staged values return to the last committed epoch, a held commit is cancelled, and cause 7
is recorded. -/
def Dev.warmRestart (d : Dev) (flash : SMap Byte) (cntOk : Bool) : Dev :=
  let d := (d.epochRestore.warmRecords flash).warmDomains
  let d := if cntOk then d else d.countsLost flash
  let d := ((d.causesShow 0x80).lifeBy (0x18 + 28) 4 1).epochAbandon
  { d with mon := { d.mon with
    warm := none, recov := d.mon.recov.map (fun r => if r.domain == 7 && !r.done then { r with acted := true } else r) } }

/-- FULL_WARM_RESTART (R74, R573, R577): the restart that a fault has called for. `storeOk`: the CRC of the epoch store is right, else a reset with
cause 5 follows; a flash request in progress completes first (R80, R594); `cntOk`: the CRC of the counter area is right (R590). -/
def execFullWarmRestart (storeOk cntOk : Bool) (s : State) : Host.Outcome State Fault Refusal :=
  match s.dev.mon.warm with
  | none => .next s
  | some _ =>
    if s.dev.flashBusy then .next s
    else if storeOk then .next { s with dev := s.dev.warmRestart s.flash cntOk, lily := if s.dev.fspRuns then [] else s.lily }
    else nextDev s (fun d => (d.event R.MON_EVT_ESCALATE).assertCause 5 false)

end Sys2Proof.Machine
end

