-- ==== Sys2Proof/Machine/Mbx.lean ====
section
/-!
DEFINITION. The mailbox: taking a request, its completion, host-loaded images and flash requests
(spec/02_autonomy_images_epochs.md, R60, R75 to R79, R636).
-/
namespace Sys2Proof.Machine

/-- The number of further bytes that a request of the opcode may carry (R636); none for an unknown opcode. -/
def mbxFurther (opcode : Nat) : Option (Nat × Nat) :=
  if opcode = 0x11 ∨ opcode = 0x40 ∨ opcode = 0x50 ∨ opcode = 0x61 ∨ opcode = 0x62 then some (0, 0)
  else if opcode = 0x10 ∨ opcode = 0x21 then some (0, 248)
  else if opcode = 0x20 then some (2, 2)
  else if opcode = 0x22 then some (1, 1)
  else if opcode = 0x23 then some (4, 4)
  else if opcode = 0x60 then some (0, 240)
  else if opcode = 0x70 then some (0, 32)
  else none

/-- The answer that a request needs no work for: an unknown opcode, or a length that does not match (R636). -/
def mbxRefusal (opcode len : Nat) : Option Nat :=
  match mbxFurther opcode with
  | none => some 6
  | some (lo, hi) => if len < 6 ∨ len - 6 < lo ∨ hi < len - 6 then some 2 else none

/-- Flash requests are taken (R78): in modes 0b00 and 0b01 once the running bank is chosen or the boot has ended by R70. -/
def Dev.flashOpen (d : Dev) : Bool := decide (2 ≤ d.fget R.BOOT_STAT_MODE) || d.boot.phase == .released

/-- A response: the opcode with bit 7 set, the tag and the status, then the payload. -/
def mbxResponse (opcode tag status : Nat) (payload : List Nat) : List Nat := (opcode ||| 0x80) :: tag :: status :: payload

/-- The items that a request asks for, as they stand when it is taken (R75, R243, R277). -/
def Dev.mbxSnap (d : Dev) (op offset : Nat) : Option (List Nat) :=
  if op = 0x40 then d.rdsItem offset else if op = 0x50 then d.dabItem offset else none

/-- A mailbox request arrives whole (R75, R78, R526, R636): a count of 0 carries none; while a response waits it has no effect; while a request
is in progress, or a flash request comes before the running bank is chosen, it is answered with status 0x01. -/
def Dev.mbxTake (d : Dev) (bs : List Nat) : Dev :=
  match bs with
  | [] => d
  | op :: rest =>
    if d.mbx.resp.isSome then d
    else
      let tag := rest.headD 0
      if d.mbx.req.isSome || (decide (0x20 ≤ op) && decide (op ≤ 0x23) && !d.flashOpen) then
        { d with mbx := { d.mbx with resp := some (mbxResponse op tag 1 []), busyAnswer := true } }
      else
        let r : MbxReq := ⟨op, tag, ofBe ((rest.drop 1).take 4), rest.drop 5⟩
        { d with mbx := { d.mbx with req := some r, result := (mbxRefusal op bs.length).map (·, []), snap := d.mbxSnap op r.offset } }

/-- MAILBOX_REQUEST_COMPLETE (R75): the response of the request whose work is done is placed, in the place of a status 0x01 answer that the
host has not read. -/
def execMailboxRequestComplete (s : State) : Host.Outcome State Fault Refusal :=
  nextDev s (fun d =>
    match d.mbx.req, d.mbx.result with
    | some r, some (status, payload) =>
      ({ d with mbx := { resp := some (mbxResponse r.opcode r.tag status payload) } }).event R.BOOT_EVT_MBX_DONE
    | _, _ => d)

/-- The response has been clocked out whole: it is released (R75, R528). -/
def Dev.mbxRelease (d : Dev) : Dev := { d with mbx := { d.mbx with resp := none, busyAnswer := false } }

/-! ### Host-loaded images -/

/-- Load requests are allowed (R76): mode 0b10, before a load end has succeeded. -/
def Dev.loadAllowed (d : Dev) : Bool := d.fget R.BOOT_STAT_MODE == 2 && !d.boot.hostLoaded

/-- LOAD_CHUNK (R76): the chunk goes into the Lilypad, which needs PD4. -/
def execLoadChunk (s : State) : Host.Outcome State Fault Refusal :=
  let d := s.dev
  match d.mbxWork 0x10 with
  | none => .next s
  | some r =>
    if !d.loadAllowed then .next { s with dev := d.mbxDone 6 [] }
    else if 4194304 < r.offset + r.data.length then .next { s with dev := d.mbxDone 2 [] }
    else if !d.domOn 4 then .next s
    else .next { s with dev := d.mbxDone 0 [], lily := smSetList (fun _ => 0) s.lily r.offset (r.data.map (BitVec.ofNat 8)) }

/-- LOAD_END (R76, R77): the image in the Lilypad is checked, and it runs when it is valid. -/
def execLoadEnd (s : State) : Host.Outcome State Fault Refusal :=
  nextDev s (fun d =>
    match d.mbxWork 0x11 with
    | none => d
    | some r =>
      if !d.loadAllowed then d.mbxDone 6 []
      else if r.offset % 256 ≠ 0 || decide (4194304 < r.offset) then d.mbxDone 2 []
      else if !d.enginesUp then d
      else
        let img := hostImage s.lily
        let code := imageCheck img (some r.offset)
        if code ≠ 0 then (d.fput R.BOOT_H_RES 0 code).mbxDone 5 []
        else
          let fail := compatFail img
          let d : Dev := { d with boot := { d.boot with hostLoaded := true } }
          ((d.fput R.BOOT_H_RES 0 (if fail = 0 then 0 else fail * 256 + 8)).runImage s.flash img 2 fail false).mbxDone 0 [])

/-! ### Flash requests -/

/-- The regions of the flash that erase and write may address (R78), as intervals. -/
def Dev.flashRegions (d : Dev) (size : Nat) : List (Nat × Nat) :=
  let mode := d.fget R.BOOT_STAT_MODE
  if mode = 3 || d.boot.noImage then [(0, size)]
  else if mode = 2 then [(0, 0x800000), (0xD00000, size)]
  else [if d.fget R.BOOT_STAT_BANK = 0 then (0x400000, 0x800000) else (0, 0x400000), (0xD00000, size)]

/-- The bytes from `a` up to `b` lie within one region. -/
def Dev.flashMay (d : Dev) (size a b : Nat) : Bool := (d.flashRegions size).any (fun r => decide (r.1 ≤ a) && decide (b ≤ r.2))

/-- The bytes from `a` up to `b` exist: an SFDP table was read, and they end within the size that it gives (R79). -/
def Dev.flashHas (d : Dev) (b : Nat) : Bool := match d.boot.sfdp with | some f => decide (b ≤ f.size) | none => false

/-- The size of the flash by its SFDP table. -/
def Dev.flashSize (d : Dev) : Nat := match d.boot.sfdp with | some f => f.size | none => 0

/-- A request ends with status 0x04 (R79). -/
def Dev.flashFailed (d : Dev) : Dev := (d.mbxDone 4 []).event R.BOOT_EVT_FLASH_ERR

/-- Erase `n` bytes from `a`. -/
def flashErase (flash : SMap Byte) (a n : Nat) : SMap Byte := smDrop (fun k => decide (a ≤ k) && decide (k < a + n)) flash

/-- The bytes that one erase command of the flash erases: 64 KiB where its SFDP table lists it, else 4 KiB, one of which it must list (R57). -/
def Dev.erasePart (d : Dev) : Nat := match d.boot.sfdp with | some f => if f.erase64k then 65536 else 4096 | none => 65536

/-- FLASH_ERASE (R57, R78, R79): part after part, a part being one erase command. `failAt`: the part that the flash reports as failed; it is left with
free bytes. -/
def execFlashErase (failAt : Option Nat) (s : State) : Host.Outcome State Fault Refusal :=
  let d := s.dev
  match d.mbxWork 0x20 with
  | none => .next s
  | some r =>
    let n := ofBe r.data
    let a := r.offset
    if n = 0 || a % 65536 ≠ 0 || !d.flashHas (a + 65536 * n) then .next { s with dev := d.mbxDone 2 [] }
    else if !d.flashMay d.flashSize a (a + 65536 * n) then .next { s with dev := d.mbxDone 3 [] }
    else
      match failAt.filter (fun k => decide (d.erasePart * k < 65536 * n)) with
      | none => .next { s with dev := d.mbxDone 0 [], flash := flashErase s.flash a (65536 * n) }
      | some k =>
        .next { s with
          dev := { d with freeIdx := d.freeIdx + d.erasePart }.flashFailed
          flash := smSetList erased (flashErase s.flash a (d.erasePart * k)) (a + d.erasePart * k)
            ((freeBytes d.freeIdx d.erasePart).map (BitVec.ofNat 8)) }

/-- The number of bytes of a write from `a` that stand before part `k` of it: the parts end at the 256-byte pages (R79). -/
def pagesBefore (a k : Nat) : Nat := if k = 0 then 0 else 256 * k - a % 256

/-- FLASH_WRITE (R78, R79): page after page. `failAt`: the part that the flash reports as failed; it is left with free bytes. -/
def execFlashWrite (failAt : Option Nat) (s : State) : Host.Outcome State Fault Refusal :=
  let d := s.dev
  match d.mbxWork 0x21 with
  | none => .next s
  | some r =>
    let n := r.data.length
    let a := r.offset
    if a % 4 ≠ 0 || !d.flashHas (a + n) then .next { s with dev := d.mbxDone 2 [] }
    else if n = 0 then .next { s with dev := d.mbxDone 0 [] }
    else if !d.flashMay d.flashSize a (a + n) then .next { s with dev := d.mbxDone 3 [] }
    else
      match failAt.filter (fun k => decide (pagesBefore a k < n)) with
      | none => .next { s with dev := d.mbxDone 0 [], flash := flashProg s.flash a r.data }
      | some k =>
        let b := pagesBefore a k
        let m := min n (pagesBefore a (k + 1)) - b
        .next { s with
          dev := { d with freeIdx := d.freeIdx + m }.flashFailed
          flash := flashProg (flashProg s.flash a (r.data.take b)) (a + b) (freeBytes d.freeIdx m) }

/-- FLASH_READ (R78, R79). -/
def execFlashRead (s : State) : Host.Outcome State Fault Refusal :=
  nextDev s (fun d =>
    match d.mbxWork 0x22 with
    | none => d
    | some r =>
      let n := r.data.headD 0
      if n = 0 || 248 < n || !d.flashHas (r.offset + n) then d.mbxDone 2 [] else d.mbxDone 0 (flashBytes s.flash r.offset n))

/-- FLASH_CRC (R60, R78, R79). -/
def execFlashCrc (s : State) : Host.Outcome State Fault Refusal :=
  nextDev s (fun d =>
    match d.mbxWork 0x23 with
    | none => d
    | some r =>
      let n := ofBe r.data
      if !d.flashHas (r.offset + n) then d.mbxDone 2 [] else d.mbxDone 0 (be32 (crc32 (flashBytes s.flash r.offset n))))

end Sys2Proof.Machine
end

