-- ==== Sys2Proof/Machine/Bus.lean ====
section
/-!
DEFINITION. The host two-wire interface: transactions byte by byte, packet error checking, the command codes and attention
(spec/17_two_wire.md, R518 to R538; the register reads with a side effect: R27, R229, R335, R451, R503, R586).
-/
namespace Sys2Proof.Machine

/-- Change the state of the host interface. -/
def Dev.updBus (d : Dev) (f : BusSt → BusSt) : Dev := { d with bus := f d.bus }

/-- Packet error checking in the transaction in progress (R531, R533). -/
def Dev.pecOn (d : Dev) : Bool := bitAt d.bus.cfg 15

/-- A command code (R520). -/
def isCode (p : Nat) : Bool := decide (0xF000 ≤ p) && decide (p ≤ 0xF0FF)

/-- The address byte that the host sends, with the bit R/W (R518). -/
def Dev.addrByte (d : Dev) (rd : Bool) : Nat := d.fget R.HIF_STAT_ADDRESS * 2 + b2n rd

/-- Bytes pass on the bus: the CRC-8 goes on (R531). -/
def Dev.busFeed (d : Dev) (bs : List Nat) : Dev := d.updBus (fun b => { b with crc := crc8From b.crc bs })

/-- The present in-band request is deferred by a transaction that is no alert-response read (R537). -/
def Dev.inbDefer (d : Dev) : Dev :=
  if d.bus.inb = .idle then d else (d.updBus (fun b => { b with inb := .idle })).bump R.HIF_INB_DEFER_COUNT

/-- A START that addresses the PQ7360: the settings are latched (R533). -/
def Dev.busStart (d : Dev) (rd : Bool) : Dev :=
  (d.inbDefer.updBus (fun b => { b with
    active := true, reading := rd, phase := .hi, dead := false, cfg := (smGet resetWord d.regs.applied 0x0100).toNat
    crc := 0 })).busFeed [d.addrByte rd]

/-- A repeated START within the transaction. -/
def Dev.busAgain (d : Dev) (rd : Bool) : Dev := (d.updBus (fun b => { b with reading := rd, phase := .hi })).busFeed [d.addrByte rd]

/-- The end of the transaction (R523): the frozen sets are released, and a byte not yet acted on is discarded (R521). -/
def Dev.busStop (d : Dev) : Dev :=
  d.freezeEnd.updBus (fun b => { b with active := false, reading := false, phase := .hi, dead := false, idleClk := d.time.clk })

/-- A PEC that does not match (R532). -/
def Dev.pecFail (d : Dev) : Dev := (d.updBus (fun b => { b with dead := true })).bumpEvt R.HIF_PEC_ERR_COUNT R.HIF_EVT_PEC_ERR

/-- What a register value or the keys of 0xF010 do once they may act (R521, R527). -/
def Dev.busAct (flash : SMap Byte) (d : Dev) (v : Nat) : Dev :=
  if d.bus.pointer = 0xF010 then
    (if v = 0xC33C then d.epochCommit else d).updBus (fun b => { b with phase := .ignore })
  else
    (Dev.hostWrite flash d d.bus.pointer (BitVec.ofNat 16 v)).updBus (fun b => { b with phase := .hi, pointer := ptrNext b.pointer })

/-- The next byte of a host write (R521, R527, R529, R531, R532). -/
def Dev.busByte (flash : SMap Byte) (d : Dev) (x : Nat) : Dev :=
  if !d.bus.active || d.bus.reading || d.bus.dead then d
  else
    match d.bus.phase with
    | .ignore => d
    | .ptrPec old =>
      if x = d.bus.crc then
        let d := (d.busFeed [x]).updBus (fun b => { b with phase := .hi })
        if d.bus.pointer = 0xF011 then d.epochAbandon else d
      else (d.updBus (fun b => { b with pointer := old })).pecFail
    | .hi => if isCode d.bus.pointer && d.bus.pointer != 0xF010 then d else (d.busFeed [x]).updBus (fun b => { b with phase := .lo x })
    | .lo h =>
      let d := d.busFeed [x]
      if d.pecOn then d.updBus (fun b => { b with phase := .pec (h * 256 + x) }) else Dev.busAct flash d (h * 256 + x)
    | .pec v => if x = d.bus.crc then Dev.busAct flash (d.busFeed [x]) v else d.pecFail

/-- Bytes of a host write. -/
def Dev.busBytes (flash : SMap Byte) (d : Dev) (xs : List Nat) : Dev := d.each xs (fun d x => Dev.busByte flash d x)

/-- The two pointer bytes (R520, R527, R531): the pointer is taken; a PEC follows when further bytes do. -/
def Dev.busPointer (d : Dev) (p : Nat) : Dev :=
  if d.bus.dead then d
  else
    let old := d.bus.pointer
    let d := (d.busFeed [p / 256 % 256, p % 256]).updBus (fun b => { b with pointer := p, phase := if d.pecOn then .ptrPec old else .hi })
    if p = 0xF011 && !d.pecOn then d.epochAbandon else d

/-- A write transaction begins, or goes on with a repeated START where `again`, and sends the pointer (R520). -/
def Dev.busOpen (d : Dev) (again : Bool) (p : Nat) : Dev :=
  if again && d.bus.active then (d.busAgain false).busPointer p
  else ((if d.bus.active then d.busStop else d).busStart false).busPointer p

/-- The pointer is followed by its right PEC where one is due (R531). -/
def Dev.busSettle (flash : SMap Byte) (d : Dev) : Dev :=
  match d.bus.phase with
  | .ptrPec _ => Dev.busByte flash d d.bus.crc
  | _ => d

/-- `HSCL` has an edge in this cycle (R525). -/
def Dev.busEdge (d : Dev) : Dev := d.updBus (fun b => { b with edgeClk := d.time.clk, timedOut := false })

/-- A command arrives only while the PQ7360 acknowledges its address (R519), and not through a chain under test (R609). -/
def Dev.onBus (d : Dev) (f : Dev → Dev) : Dev := if d.inReset || d.chainHeld then d else f d.busEdge

/-- The byte values of an operand. -/
def optByte (p : Option Byte) : List Nat := match p with | some b => [b.toNat] | none => []

/-- POINTER_WRITE (R520, R527): the pointer, with its PEC where one is sent; with PEC off that byte is an ordinary one. -/
def execPointerWrite (again : Bool) (hi lo : Byte) (pec : Option Byte) (s : State) : Host.Outcome State Fault Refusal :=
  nextDev s (fun d => d.onBus (fun d => Dev.busBytes s.flash (d.busOpen again (hi.toNat * 256 + lo.toNat)) (optByte pec)))

/-- REGISTER_WRITE (R5 to R13, R520, R521, R532): the bytes of one register of a write in progress; the high byte alone changes nothing. -/
def execRegisterWrite (hi : Byte) (lo pec : Option Byte) (s : State) : Host.Outcome State Fault Refusal :=
  nextDev s (fun d => d.onBus (fun d => Dev.busBytes s.flash d ([hi.toNat] ++ match lo with | some l => [l.toNat] ++ optByte pec | none => [])))

/-- The bytes of a register write to index `p`, which the transaction is pointed at first where it is not already. -/
def Dev.writeAt (flash : SMap Byte) (d : Dev) (p : Nat) (bs : List Nat) : Dev :=
  let there := d.bus.active && !d.bus.reading && d.bus.pointer == p && (d.bus.phase == .hi || d.bus.dead)
  Dev.busBytes flash (if there then d else Dev.busSettle flash (d.busOpen false p)) bs

/-- EPOCH_COMMIT (R81 to R83, R87, R527): by `SYS_EPOCH_CTRL`, or by command 0xF010 with two bytes that are to be its keys. -/
def execEpochCommit (req : CommitReq) (s : State) : Host.Outcome State Fault Refusal :=
  nextDev s (fun d => d.onBus (fun d =>
    match req with
    | .register hi lo pec => Dev.writeAt s.flash d 0x0004 ([hi.toNat, lo.toNat] ++ optByte pec)
    | .command k1 k2 pec => Dev.busBytes s.flash (Dev.busSettle s.flash (d.busOpen false 0xF010)) ([k1.toNat, k2.toNat] ++ optByte pec)))

/-- EPOCH_ABANDON (R81, R82, R88, R527): by `SYS_EPOCH_CTRL`, or by command 0xF011. -/
def execEpochAbandon (req : AbandonReq) (s : State) : Host.Outcome State Fault Refusal :=
  nextDev s (fun d => d.onBus (fun d =>
    match req with
    | .register hi lo pec => Dev.writeAt s.flash d 0x0004 ([hi.toNat, lo.toNat] ++ optByte pec)
    | .command pec => Dev.busBytes s.flash (d.busOpen false 0xF011) (optByte pec)))

/-! ### Reading -/

/-- The PQ7360 sends bytes. -/
def Dev.busSend (d : Dev) (bs : List Nat) : Dev := (d.busFeed bs).updBus (fun b => { b with out := b.out ++ bs })

/-- The PEC of what was sent, where PEC is on (R531). -/
def Dev.busSendPec (d : Dev) : Dev := if d.pecOn then d.busSend [d.bus.crc] else d

/-- The transaction turns to reading, or begins as a current-pointer read. -/
def Dev.busTurn (d : Dev) : Dev :=
  (if d.bus.active then d.busAgain true else d.busStart true).updBus (fun b => { b with out := [] })

/-- One register is read whole (R27, R229, R503, R520, R522): the value is captured as its high byte begins. -/
def Dev.readOne (d : Dev) : Dev :=
  let p := d.bus.pointer
  let d := d.readBefore p
  let v := d.readReg p
  (((d.busSend (beWord v)).busSendPec).readAfter p).updBus (fun b => { b with pointer := ptrNext b.pointer })

/-- `n` bytes are read from registers: whole ones, and the high byte of a last one. -/
def Dev.readRegs (d : Dev) (n : Nat) : Dev :=
  let per := if d.pecOn then 3 else 2
  let d := d.each (List.range (n / per + (if 2 ≤ n % per then 1 else 0))) (fun d _ => d.readOne)
  let d := if n % per = 1 then
      let e := d.readBefore d.bus.pointer
      e.busSend [e.readReg e.bus.pointer / 256]
    else d
  d.updBus (fun b => { b with out := b.out.take n })

/-- A counted block read: `n`, its bytes, the PEC, and 0xFF beyond (R528, R531); `clocked` bytes after `n` are clocked out. -/
def Dev.sendBlock (d : Dev) (block : List Nat) (clocked : Nat) : Dev :=
  let d := (d.busSend block).busSendPec
  d.updBus (fun b => { b with out := (b.out ++ List.replicate (clocked + 1 - b.out.length) 0xFF).take (clocked + 1) })

/-- Command 0xF002 (R75, R528): the response that waits; it is released when its last byte has been clocked out. -/
def Dev.mailboxRead (d : Dev) (clocked : Nat) : Dev :=
  match d.mbx.resp with
  | none => d.sendBlock [0] clocked
  | some bs =>
    let d := d.sendBlock (bs.length :: bs) clocked
    if bs.length ≤ clocked then d.mbxRelease else d

/-- Command 0xF030 read (R530): register values from the bulk read position. -/
def Dev.bulkRead (d : Dev) (clocked : Nat) : Dev :=
  let pos := d.bus.bulkPos
  let m := min 127 (2048 - pos)
  let vals := (List.range m).flatMap (fun i => beWord (d.readReg (0x2000 + pos + i)))
  (d.sendBlock ((2 * m) :: vals) clocked).updBus (fun b => { b with bulkPos := pos + min m (clocked / 2) })

/-- Command 0xF020 (R528, R593): one whole record of the Moult log. -/
def Dev.logSend (d : Dev) (flash : SMap Byte) (clocked : Nat) : Dev :=
  let r := d.logRead flash clocked
  r.2.sendBlock r.1 clocked

/-- `n` bytes, at least one, are read at the pointer (R522, R528 to R530). -/
def Dev.readBytes (d : Dev) (flash : SMap Byte) (n : Nat) : Dev :=
  let p := d.bus.pointer
  if p = 0xF002 then d.mailboxRead (n - 1)
  else if p = 0xF020 then d.logSend flash (n - 1)
  else if p = 0xF030 then d.bulkRead (n - 1)
  else if isCode p then d.busSend (List.replicate n 0)
  else d.readRegs n

/-- TRANSACTION_END (R523, R537): the host reads `reads` bytes at the pointer, when it reads any, and the transaction ends. Where none is in
progress and nothing is read, the transaction addressed another target. -/
def execTransactionEnd (reads : Nat) (s : State) : Host.Outcome State Fault Refusal :=
  nextDev s (fun d => d.onBus (fun d =>
    if d.bus.dead then d.busStop
    else if reads = 0 then (if d.bus.active then d.busStop else d.inbDefer.busStop)
    else ((d.busTurn).readBytes s.flash reads).busStop))

/-- HOST_BUS_TIMEOUT (R525): `HSCL` has been low for more than 25 ms since its last edge (one in this cycle counts as arrived, R7); it counts once for
each low period. -/
def execHostBusTimeout (s : State) : Host.Outcome State Fault Refusal :=
  nextDev s (fun d =>
    if d.inReset || !bitAt d.bus.cfg 12 || d.bus.timedOut || decide (d.since d.bus.edgeClk ≤ msCycles 25) then d
    else (d.busStop.updBus (fun b => { b with inb := .idle, timedOut := true })).bumpEvt R.HIF_TIMEOUT_COUNT R.HIF_EVT_TIMEOUT)

/-! ### Registers whose read has a side effect -/

/-- The host reads the register at `p`: in the transaction in progress, which is pointed there where it is not, or in one that begins. -/
def Dev.readRow (d : Dev) (p : Nat) : Dev :=
  if d.bus.dead then d
  else
    let there := d.bus.active && d.bus.pointer == p
    let d := if there then d else d.busOpen true p
    (if there && d.bus.reading then d else d.busTurn).readOne

/-- DTIME_FREEZE (R27). -/
def execDtimeFreeze (s : State) : Host.Outcome State Fault Refusal := nextDev s (fun d => d.onBus (fun d => d.readRow 0x0020))

/-- DTIME_RELEASE (R27). -/
def execDtimeRelease (s : State) : Host.Outcome State Fault Refusal := nextDev s (fun d => d.onBus (fun d => d.readRow 0x0023))

/-- PS_FREEZE (R229). -/
def execPsFreeze (n : Fin 256) (s : State) : Host.Outcome State Fault Refusal :=
  nextDev s (fun d => d.onBus (fun d => d.readRow (0x3003 + 8 * n)))

/-- PS_RELEASE (R229). -/
def execPsRelease (n : Fin 256) (s : State) : Host.Outcome State Fault Refusal :=
  nextDev s (fun d => d.onBus (fun d => d.readRow (0x3006 + 8 * n)))

/-- RTC_FREEZE (R503): a read of time register `reg` but RTC_YEAR. -/
def execRtcFreeze (reg : Fin 4) (s : State) : Host.Outcome State Fault Refusal :=
  nextDev s (fun d => d.onBus (fun d => d.readRow (0x00C0 + reg)))

/-- RTC_RELEASE (R503). -/
def execRtcRelease (s : State) : Host.Outcome State Fault Refusal := nextDev s (fun d => d.onBus (fun d => d.readRow 0x00C4))

/-- CLK_PHASE_CAPTURE (R451): a read of `CLK_PHASE_HI`, or of `CLK_THETA_HI` for `theta`. -/
def execClkPhaseCapture (theta : Bool) (s : State) : Host.Outcome State Fault Refusal :=
  nextDev s (fun d => d.onBus (fun d => d.readRow (if theta then R.CLK_THETA_HI.base else R.CLK_PHASE_HI.base)))

/-- FSP_SENT_CAPTURE (R335). -/
def execFspSentCapture (s : State) : Host.Outcome State Fault Refusal := nextDev s (fun d => d.onBus (fun d => d.readRow 0x05AE))

/-- MON_SEQ_CAPTURE (R586). -/
def execMonSeqCapture (s : State) : Host.Outcome State Fault Refusal := nextDev s (fun d => d.onBus (fun d => d.readRow 0x01C6))

/-! ### Command codes -/

/-- A counted block write to code `p` (R526, R531, R532): `act` gets the bytes of the block and whether it may act. A block that is
cut is counted, and its transaction has ended. -/
def Dev.blockWrite (flash : SMap Byte) (d : Dev) (p count : Nat) (bs : List Nat) (act : Dev → List Nat → Bool → Dev) : Dev :=
  let d := Dev.busSettle flash (d.busOpen false p)
  let body := bs.take count
  let d := (d.busFeed (count :: body)).updBus (fun b => { b with phase := .ignore })
  if body.length < count then (act d body (!d.pecOn)).busStop.bumpEvt R.HIF_MBX_CUT_COUNT R.HIF_EVT_MBX_CUT
  else if !d.pecOn then act d body true
  else
    match bs[count]? with
    | none => d
    | some x => if x = d.bus.crc then act (d.busFeed [x]) body true else d.pecFail

/-- MAILBOX_WRITE (R526): command 0xF001; a request that is cut short is discarded. -/
def execMailboxWrite (count : Byte) (data : List Byte) (pec : Option Byte) (s : State) : Host.Outcome State Fault Refusal :=
  nextDev s (fun d => d.onBus (fun d =>
    Dev.blockWrite s.flash d 0xF001 count.toNat (data.map (·.toNat) ++ optByte pec)
      (fun d bs ok => if ok && bs.length == count.toNat then d.mbxTake bs else d)))

/-- MAILBOX_READ (R528): command 0xF002; `clocked` bytes after the count are clocked out. -/
def execMailboxRead (clocked : Nat) (s : State) : Host.Outcome State Fault Refusal :=
  nextDev s (fun d => d.onBus (fun d => ((d.busOpen false 0xF002).busTurn).mailboxRead clocked))

/-- The value pairs of a 0xF030 block, written in order from a register offset on (R530); a pair beyond the table and an odd byte are
ignored. -/
def Dev.bulkPairs (flash : SMap Byte) (d : Dev) (off : Nat) (bs : List Nat) : Dev :=
  d.each (List.range (bs.length / 2)) (fun d i =>
    if off + i < 2048 then Dev.hostWrite flash d (0x2000 + off + i) (BitVec.ofNat 16 (ofBe ((bs.drop (2 * i)).take 2))) else d)

/-- A 0xF030 block of `count` bytes acts (R530): B1 and B2 alone set the bulk read position, else the pairs are written. -/
def Dev.bulkWrite (flash : SMap Byte) (d : Dev) (count : Nat) (bs : List Nat) : Dev :=
  match bs with
  | b1 :: b2 :: rest =>
    if 127 < b1 ∨ 15 < b2 then d
    else if count = 2 then d.updBus (fun b => { b with bulkPos := b1 * 16 + b2 })
    else Dev.bulkPairs flash d (b1 * 16 + b2) rest
  | _ => d

/-- PGT_BULK_WRITE (R530): while PEC is off a block cut short has written the pairs before the cut. -/
def execPgtBulkWrite (count : Byte) (data : List Byte) (pec : Option Byte) (s : State) : Host.Outcome State Fault Refusal :=
  nextDev s (fun d => d.onBus (fun d =>
    Dev.blockWrite s.flash d 0xF030 count.toNat (data.map (·.toNat) ++ optByte pec)
      (fun d bs ok => if ok then Dev.bulkWrite s.flash d count.toNat bs else d)))

/-- PGT_BULK_READ (R530). -/
def execPgtBulkRead (clocked : Nat) (s : State) : Host.Outcome State Fault Refusal :=
  nextDev s (fun d => d.onBus (fun d => ((d.busOpen false 0xF030).busTurn).bulkRead clocked))

/-- LOG_READ (R528, R593). -/
def execLogRead (clocked : Nat) (s : State) : Host.Outcome State Fault Refusal :=
  nextDev s (fun d => d.onBus (fun d => ((d.busOpen false 0xF020).busTurn).logSend s.flash clocked))

/-- The command codes that R526 to R530 list. -/
def listedCode (c : Nat) : Bool := c == 0x01 || c == 0x02 || c == 0x10 || c == 0x11 || c == 0x20 || c == 0x30

/-- UNKNOWN_COMMAND (R529): every data byte is acknowledged and ignored, and each byte read reads 0x00; a listed code is no unknown one. -/
def execUnknownCommand (code : Byte) (bytes : List Byte) (reads : Nat) (s : State) : Host.Outcome State Fault Refusal :=
  nextDev s (fun d => d.onBus (fun d =>
    if listedCode code.toNat then d
    else
      let d := d.busOpen false (0xF000 + code.toNat)
      let d := if bytes.isEmpty then d else Dev.busBytes s.flash (Dev.busSettle s.flash d) (bytes.map (·.toNat))
      if reads = 0 then d else d.busTurn.readBytes s.flash reads))

/-! ### Attention -/

/-- ALERT_RESPONSE (R531, R533 to R535, R537): a read from 0x0C, answered while `ARA_EN` = 1 and the condition of R43 holds; `other` is the lowest
address byte that another device sends at the same time: the lower byte has the first 0 against a 1 and wins. -/
def execAlertResponse (other : Option Byte) (s : State) : Host.Outcome State Fault Refusal :=
  nextDev s (fun d => d.onBus (fun d =>
    let d := (if d.bus.active then d.busStop else d).updBus (fun b => { b with
      inb := .idle, cfg := (smGet resetWord d.regs.applied 0x0100).toNat, crc := crc8From 0 [0x19] })
    let won := match other with | some o => decide (d.addrByte false ≤ o.toNat) | none => true
    if bitAt d.bus.cfg 13 && d.halert then
      if won then (((d.updBus (fun b => { b with out := [] })).busSend [d.addrByte false]).busSendPec.busStop).bump R.HIF_ARA_WON_COUNT
      else d.busStop.bump R.HIF_ARA_LOST_COUNT
    else d.busStop))

/-- INBAND_REQUEST (R536, R538): the bus has been idle for 50 µs, and the condition of R43 holds. -/
def execInbandRequest (s : State) : Host.Outcome State Fault Refusal :=
  nextDev s (fun d =>
    if d.inbOn && d.halert && d.bus.inb == .idle && !d.bus.active && decide (usCycles 50 ≤ d.since d.bus.idleClk) &&
        decide (d.bus.inbNotBefore ≤ d.time.clk) then
      (d.updBus (fun b => { b with inb := .hold, inbClk := d.time.clk })).bump R.HIF_INB_REQ_COUNT
    else d)

/-- INBAND_RELEASE (R536, R537): the host has pulled `HSCL` low; the request is asked, unless the condition has ended. -/
def execInbandRelease (s : State) : Host.Outcome State Fault Refusal :=
  nextDev s (fun d => if d.bus.inb = .hold then d.busEdge.updBus (fun b => { b with inb := if d.halert then .asked else .idle }) else d)

/-- INBAND_HOLD_TIMEOUT (R538): `HSCL` has not gone low within HOLD; a fall in the cycle in which it expires answers the request (R7). -/
def execInbandHoldTimeout (s : State) : Host.Outcome State Fault Refusal :=
  nextDev s (fun d =>
    if d.bus.inb = .hold && decide (d.fget R.HIF_INB_HOLD * (Config.sysPerMs / 10) < d.since d.bus.inbClk) then
      let e := d.updBus (fun b => { b with inb := .idle })
      if d.halert then
        (e.updBus (fun b => { b with inbNotBefore := d.time.clk + msCycles 10 })).bumpEvt R.HIF_INB_TMO_COUNT R.HIF_EVT_INB_TMO
      else e
    else d)

end Sys2Proof.Machine
end

