-- ==== Sys2Proof/Machine/Dispatch.lean ====
section
/-!
DEFINITION. Dispatch: one arm per command, each one direct call of that command's own meaning.
-/
namespace Sys2Proof.Machine

/-- The effect of a command on everything but the queue, by the rules of the spec (the docstring of each meaning cites them). -/
def exec (i : Instr) (s : State) : Host.Outcome State Fault Refusal :=
  match i with
  | .registerWrite hi lo pec => Sys2Proof.Machine.execRegisterWrite hi lo pec s
  | .pointerWrite again hi lo pec => Sys2Proof.Machine.execPointerWrite again hi lo pec s
  | .transactionEnd reads => Sys2Proof.Machine.execTransactionEnd reads s
  | .hostBusTimeout => Sys2Proof.Machine.execHostBusTimeout s
  | .dtimeFreeze => Sys2Proof.Machine.execDtimeFreeze s
  | .dtimeRelease => Sys2Proof.Machine.execDtimeRelease s
  | .dtimeSecond vdd08 => Sys2Proof.Machine.execDtimeSecond vdd08 s
  | .scrubRead clean ecc written item index => Sys2Proof.Machine.execScrubRead clean ecc written item index s
  | .registerParityError index value staged => Sys2Proof.Machine.execRegisterParityError index value staged s
  | .romCheckRetry ok sfdp => Sys2Proof.Machine.execRomCheckRetry ok sfdp s
  | .laneGroup inp codes => Sys2Proof.Machine.execLaneGroup inp codes s
  | .contextBlockBoundary fm am dbe iq => Sys2Proof.Machine.execContextBlockBoundary fm am dbe iq s
  | .measurementUpdate second powerA powerB => Sys2Proof.Machine.execMeasurementUpdate second powerA powerB s
  | .epochCommit req => Sys2Proof.Machine.execEpochCommit req s
  | .epochAbandon req => Sys2Proof.Machine.execEpochAbandon req s
  | .blockEpochApply unit => Sys2Proof.Machine.execBlockEpochApply unit s
  | .epochApplyComplete => Sys2Proof.Machine.execEpochApplyComplete s
  | .resetRelease boot addr romOk sfdp => Sys2Proof.Machine.execResetRelease boot addr romOk sfdp s
  | .bankHeadersRead => Sys2Proof.Machine.execBankHeadersRead s
  | .bankReadDone => Sys2Proof.Machine.execBankReadDone s
  | .fullWarmRestart storeOk cntOk => Sys2Proof.Machine.execFullWarmRestart storeOk cntOk s
  | .mailboxWrite count data pec => Sys2Proof.Machine.execMailboxWrite count data pec s
  | .mailboxRead clocked => Sys2Proof.Machine.execMailboxRead clocked s
  | .mailboxRequestComplete => Sys2Proof.Machine.execMailboxRequestComplete s
  | .loadChunk => Sys2Proof.Machine.execLoadChunk s
  | .loadEnd => Sys2Proof.Machine.execLoadEnd s
  | .flashErase failAt => Sys2Proof.Machine.execFlashErase failAt s
  | .flashWrite failAt => Sys2Proof.Machine.execFlashWrite failAt s
  | .flashRead => Sys2Proof.Machine.execFlashRead s
  | .flashCrc => Sys2Proof.Machine.execFlashCrc s
  | .rdsItemRead => Sys2Proof.Machine.execRdsItemRead s
  | .dabDatabaseRead => Sys2Proof.Machine.execDabDatabaseRead s
  | .phSenseSample inp mv => Sys2Proof.Machine.execPhSenseSample inp mv s
  | .phAverage inp => Sys2Proof.Machine.execPhAverage inp s
  | .phSettleEnd inp => Sys2Proof.Machine.execPhSettleEnd inp s
  | .phRetryExpiry inp => Sys2Proof.Machine.execPhRetryExpiry inp s
  | .phRestart inp => Sys2Proof.Machine.execPhRestart inp s
  | .peakWindow inp => Sys2Proof.Machine.execPeakWindow inp s
  | .overloadWindow inp => Sys2Proof.Machine.execOverloadWindow inp s
  | .attenuatorStep inp => Sys2Proof.Machine.execAttenuatorStep inp s
  | .reacquire inp => Sys2Proof.Machine.execReacquire inp s
  | .acquisitionDone inp => Sys2Proof.Machine.execAcquisitionDone inp s
  | .inputStart inp => Sys2Proof.Machine.execInputStart inp s
  | .estimationWindow inp power flat est => Sys2Proof.Machine.execEstimationWindow inp power flat est s
  | .bicCommit inp => Sys2Proof.Machine.execBicCommit inp s
  | .bicCommitTimeout inp => Sys2Proof.Machine.execBicCommitTimeout inp s
  | .bicFactory inp => Sys2Proof.Machine.execBicFactory inp s
  | .bicRestart inp => Sys2Proof.Machine.execBicRestart inp s
  | .journalHandover => Sys2Proof.Machine.execJournalHandover s
  | .journalWrite eraseOk writeOk => Sys2Proof.Machine.execJournalWrite eraseOk writeOk s
  | .managedRequest prog target => Sys2Proof.Machine.execManagedRequest prog target s
  | .managedLingerExpiry pool n => Sys2Proof.Machine.execManagedLingerExpiry pool n s
  | .releaseMgd => Sys2Proof.Machine.execReleaseMgd s
  | .shedStep => Sys2Proof.Machine.execShedStep s
  | .resumeStep => Sys2Proof.Machine.execResumeStep s
  | .viewLatch pool index => Sys2Proof.Machine.execViewLatch pool index s
  | .spectrumComplete inp ffts => Sys2Proof.Machine.execSpectrumComplete inp ffts s
  | .scnWindowLatch inp page => Sys2Proof.Machine.execScnWindowLatch inp page s
  | .deviationInterval => Sys2Proof.Machine.execDeviationInterval s
  | .measurementPeriodEnd => Sys2Proof.Machine.execMeasurementPeriodEnd s
  | .clrAcc => Sys2Proof.Machine.execClrAcc s
  | .chnFlagClear bits => Sys2Proof.Machine.execChnFlagClear bits s
  | .measWindowLatch pool page index => Sys2Proof.Machine.execMeasWindowLatch pool page index s
  | .rdsBlock n info off burst bits => Sys2Proof.Machine.execRdsBlock n info off burst bits s
  | .rdsGroup n => Sys2Proof.Machine.execRdsGroup n s
  | .piHoldExpiry n => Sys2Proof.Machine.execPiHoldExpiry n s
  | .psFreeze n => Sys2Proof.Machine.execPsFreeze n s
  | .rdsGroupLatch index => Sys2Proof.Machine.execRdsGroupLatch index s
  | .rdsFlagClear bits => Sys2Proof.Machine.execRdsFlagClear bits s
  | .dabFrame n frame => Sys2Proof.Machine.execDabFrame n frame s
  | .fib n pass data figs => Sys2Proof.Machine.execFib n pass data figs s
  | .mciComplete n => Sys2Proof.Machine.execMciComplete n s
  | .dbAgeOut n => Sys2Proof.Machine.execDbAgeOut n s
  | .cif n count frames => Sys2Proof.Machine.execCif n count frames s
  | .audioFrameDecode n frame => Sys2Proof.Machine.execAudioFrameDecode n frame s
  | .dabFlagClear bits => Sys2Proof.Machine.execDabFlagClear bits s
  | .programmeBlock ecc => Sys2Proof.Machine.execProgrammeBlock ecc s
  | .scoringInterval => Sys2Proof.Machine.execScoringInterval s
  | .crossfadeEnd n => Sys2Proof.Machine.execCrossfadeEnd n s
  | .discoveryRequest n => Sys2Proof.Machine.execDiscoveryRequest n s
  | .candidatePiTimeout n slot => Sys2Proof.Machine.execCandidatePiTimeout n slot s
  | .candidateBarExpiry n khz => Sys2Proof.Machine.execCandidateBarExpiry n khz s
  | .requestRepeat n => Sys2Proof.Machine.execRequestRepeat n s
  | .coarseEstimate n slot => Sys2Proof.Machine.execCoarseEstimate n slot s
  | .pageFillDone n slot => Sys2Proof.Machine.execPageFillDone n slot s
  | .pageRetry n slot => Sys2Proof.Machine.execPageRetry n slot s
  | .verifyReestimate n slot => Sys2Proof.Machine.execVerifyReestimate n slot s
  | .timelineExit n slot => Sys2Proof.Machine.execTimelineExit n slot s
  | .slewComplete n => Sys2Proof.Machine.execSlewComplete n s
  | .trimReleaseEnd n => Sys2Proof.Machine.execTrimReleaseEnd n s
  | .referenceSearch n => Sys2Proof.Machine.execReferenceSearch n s
  | .loudnessUpdate => Sys2Proof.Machine.execLoudnessUpdate s
  | .clrLoud => Sys2Proof.Machine.execClrLoud s
  | .reestimate => Sys2Proof.Machine.execReestimate s
  | .prgFlagClear bits => Sys2Proof.Machine.execPrgFlagClear bits s
  | .prgMeasLatch page index => Sys2Proof.Machine.execPrgMeasLatch page index s
  | .pgtBulkWrite count data pec => Sys2Proof.Machine.execPgtBulkWrite count data pec s
  | .pgtBulkRead clocked => Sys2Proof.Machine.execPgtBulkRead clocked s
  | .packetFormed => Sys2Proof.Machine.execPacketFormed s
  | .packetBoundary ecc word => Sys2Proof.Machine.execPacketBoundary ecc word s
  | .fspRdyFall => Sys2Proof.Machine.execFspRdyFall s
  | .fspRdyRise => Sys2Proof.Machine.execFspRdyRise s
  | .heartbeat => Sys2Proof.Machine.execHeartbeat s
  | .fspPortRestart => Sys2Proof.Machine.execFspPortRestart s
  | .fspClrCnt => Sys2Proof.Machine.execFspClrCnt s
  | .fspDropLatch cls stream => Sys2Proof.Machine.execFspDropLatch cls stream s
  | .fspSentCapture => Sys2Proof.Machine.execFspSentCapture s
  | .pgaStep mic => Sys2Proof.Machine.execPgaStep mic s
  | .adcEnableSettle ch => Sys2Proof.Machine.execAdcEnableSettle ch s
  | .railReturn => Sys2Proof.Machine.execRailReturn s
  | .spkOvercurrent => Sys2Proof.Machine.execSpkOvercurrent s
  | .pvddUndervoltage => Sys2Proof.Machine.execPvddUndervoltage s
  | .spkAutoRestart pvdd => Sys2Proof.Machine.execSpkAutoRestart pvdd s
  | .spkRestart => Sys2Proof.Machine.execSpkRestart s
  | .hpOvercurrent => Sys2Proof.Machine.execHpOvercurrent s
  | .hpSequenceStep out left right residual => Sys2Proof.Machine.execHpSequenceStep out left right residual s
  | .speakerSequenceStep => Sys2Proof.Machine.execSpeakerSequenceStep s
  | .servoWindow ch mean => Sys2Proof.Machine.execServoWindow ch mean s
  | .servoStep ch => Sys2Proof.Machine.execServoStep ch s
  | .jackInsert level held => Sys2Proof.Machine.execJackInsert level held s
  | .jackRemove level held => Sys2Proof.Machine.execJackRemove level held s
  | .jackClassify z => Sys2Proof.Machine.execJackClassify z s
  | .reclassify => Sys2Proof.Machine.execReclassify s
  | .buttonReading ohm => Sys2Proof.Machine.execButtonReading ohm s
  | .buttonPressPublish => Sys2Proof.Machine.execButtonPressPublish s
  | .fabricFrame inp => Sys2Proof.Machine.execFabricFrame inp s
  | .mixGainWrite n k a b => Sys2Proof.Machine.execMixGainWrite n k a b s
  | .routeRampOutEnd n which => Sys2Proof.Machine.execRouteRampOutEnd n which s
  | .eqSelect band n => Sys2Proof.Machine.execEqSelect band n s
  | .eqLoad => Sys2Proof.Machine.execEqLoad s
  | .toneLevelWrite t level => Sys2Proof.Machine.execToneLevelWrite t level s
  | .mixMeterLatch n => Sys2Proof.Machine.execMixMeterLatch n s
  | .clrMtr => Sys2Proof.Machine.execClrMtr s
  | .portFrameStart n frame => Sys2Proof.Machine.execPortFrameStart n frame s
  | .portOverrun n => Sys2Proof.Machine.execPortOverrun n s
  | .portClockLoss n bclk => Sys2Proof.Machine.execPortClockLoss n bclk s
  | .portClockPresent n rate bpf => Sys2Proof.Machine.execPortClockPresent n rate bpf s
  | .portStartDone n => Sys2Proof.Machine.execPortStartDone n s
  | .portRestart n => Sys2Proof.Machine.execPortRestart n s
  | .asrcLock k => Sys2Proof.Machine.execAsrcLock k s
  | .leaderLoopLock => Sys2Proof.Machine.execLeaderLoopLock s
  | .spdRxLock rate => Sys2Proof.Machine.execSpdRxLock rate s
  | .spdRxLoss still => Sys2Proof.Machine.execSpdRxLoss still s
  | .zPreamble cs user => Sys2Proof.Machine.execZPreamble cs user s
  | .spdRxLatch => Sys2Proof.Machine.execSpdRxLatch s
  | .xoLoss => Sys2Proof.Machine.execXoLoss s
  | .relockBegin pll => Sys2Proof.Machine.execRelockBegin pll s
  | .splRelock => Sys2Proof.Machine.execSplRelock s
  | .aplRelock => Sys2Proof.Machine.execAplRelock s
  | .lockWindow pll count => Sys2Proof.Machine.execLockWindow pll count s
  | .bandTimeout pll => Sys2Proof.Machine.execBandTimeout pll s
  | .pllFailRetry pll => Sys2Proof.Machine.execPllFailRetry pll s
  | .refinWindow ppm => Sys2Proof.Machine.execRefinWindow ppm s
  | .refinEdgeLoss => Sys2Proof.Machine.execRefinEdgeLoss s
  | .ppsEdge rising sub => Sys2Proof.Machine.execPpsEdge rising sub s
  | .ppsMissed => Sys2Proof.Machine.execPpsMissed s
  | .disciplineUpdate off err => Sys2Proof.Machine.execDisciplineUpdate off err s
  | .discRestart => Sys2Proof.Machine.execDiscRestart s
  | .clkPhaseCapture theta => Sys2Proof.Machine.execClkPhaseCapture theta s
  | .clkoutStart k => Sys2Proof.Machine.execClkoutStart k s
  | .clkoutFineWrite k fine => Sys2Proof.Machine.execClkoutFineWrite k fine s
  | .lsyLock band fcap => Sys2Proof.Machine.execLsyLock band fcap s
  | .recal => Sys2Proof.Machine.execRecal s
  | .flush => Sys2Proof.Machine.execFlush s
  | .lsyLockTimeout => Sys2Proof.Machine.execLsyLockTimeout s
  | .preambleDetect bits => Sys2Proof.Machine.execPreambleDetect bits s
  | .syncWord level word => Sys2Proof.Machine.execSyncWord level word s
  | .falsePreamble => Sys2Proof.Machine.execFalsePreamble s
  | .phyHeader word => Sys2Proof.Machine.execPhyHeader word s
  | .packetReceived decoded its => Sys2Proof.Machine.execPacketReceived decoded its s
  | .ackSend => Sys2Proof.Machine.execAckSend s
  | .noiseMeasure mean => Sys2Proof.Machine.execNoiseMeasure mean s
  | .siteLinkSend => Sys2Proof.Machine.execSiteLinkSend s
  | .nextReport => Sys2Proof.Machine.execNextReport s
  | .gatewayTableRead => Sys2Proof.Machine.execGatewayTableRead s
  | .transmissionDue => Sys2Proof.Machine.execTransmissionDue s
  | .lbtListenEnd mean => Sys2Proof.Machine.execLbtListenEnd mean s
  | .extPaStep => Sys2Proof.Machine.execExtPaStep s
  | .txEnd => Sys2Proof.Machine.execTxEnd s
  | .ackTimeout => Sys2Proof.Machine.execAckTimeout s
  | .backoffExpiry => Sys2Proof.Machine.execBackoffExpiry s
  | .cxGrant => Sys2Proof.Machine.execCxGrant s
  | .cxGrantTimeout => Sys2Proof.Machine.execCxGrantTimeout s
  | .cxGrantWithdrawn => Sys2Proof.Machine.execCxGrantWithdrawn s
  | .cxActChange level => Sys2Proof.Machine.execCxActChange level s
  | .blankingEnd => Sys2Proof.Machine.execBlankingEnd s
  | .ledgerBin => Sys2Proof.Machine.execLedgerBin s
  | .rtcTick cycles => Sys2Proof.Machine.execRtcTick cycles s
  | .rtcFreeze reg => Sys2Proof.Machine.execRtcFreeze reg s
  | .rtcRelease => Sys2Proof.Machine.execRtcRelease s
  | .rtcHalt => Sys2Proof.Machine.execRtcHalt s
  | .rtcResume => Sys2Proof.Machine.execRtcResume s
  | .rtcTimeWrite reg value => Sys2Proof.Machine.execRtcTimeWrite reg value s
  | .rtcTrimWrite value => Sys2Proof.Machine.execRtcTrimWrite value s
  | .osfClear => Sys2Proof.Machine.execOsfClear s
  | .backupRamWrite slot value => Sys2Proof.Machine.execBackupRamWrite slot value s
  | .oscillatorStop => Sys2Proof.Machine.execOscillatorStop s
  | .trimSpanEnd => Sys2Proof.Machine.execTrimSpanEnd s
  | .broadcastTrimFit => Sys2Proof.Machine.execBroadcastTrimFit s
  | .backupPor => Sys2Proof.Machine.execBackupPor s
  | .vbatLow mv => Sys2Proof.Machine.execVbatLow mv s
  | .alertResponse other => Sys2Proof.Machine.execAlertResponse other s
  | .inbandRequest => Sys2Proof.Machine.execInbandRequest s
  | .inbandRelease => Sys2Proof.Machine.execInbandRelease s
  | .inbandHoldTimeout => Sys2Proof.Machine.execInbandHoldTimeout s
  | .logRead clocked => Sys2Proof.Machine.execLogRead clocked s
  | .unknownCommand code bytes reads => Sys2Proof.Machine.execUnknownCommand code bytes reads s
  | .busClear => Sys2Proof.Machine.execBusClear s
  | .busClearDone idle samples low => Sys2Proof.Machine.execBusClearDone idle samples low s
  | .stuckRetry => Sys2Proof.Machine.execStuckRetry s
  | .scriptRun slot => Sys2Proof.Machine.execScriptRun slot s
  | .scriptPeriodic slot => Sys2Proof.Machine.execScriptPeriodic slot s
  | .localTransfer => Sys2Proof.Machine.execLocalTransfer s
  | .localBusFree stop high => Sys2Proof.Machine.execLocalBusFree stop high s
  | .localTransferDone nack data => Sys2Proof.Machine.execLocalTransferDone nack data s
  | .arbitrationLost => Sys2Proof.Machine.execArbitrationLost s
  | .localClockTimeout low => Sys2Proof.Machine.execLocalClockTimeout low s
  | .scriptWaitEnd => Sys2Proof.Machine.execScriptWaitEnd s
  | .brownOut supply mv ns => Sys2Proof.Machine.execBrownOut supply mv ns s
  | .supplyGood supply stood => Sys2Proof.Machine.execSupplyGood supply stood s
  | .vioLevelSelect flash low peak => Sys2Proof.Machine.execVioLevelSelect flash low peak s
  | .por => Sys2Proof.Machine.execPor s
  | .resetNAssert ns => Sys2Proof.Machine.execResetNAssert ns s
  | .resetNRelease => Sys2Proof.Machine.execResetNRelease s
  | .softwareReset => Sys2Proof.Machine.execSoftwareReset s
  | .tempReading values => Sys2Proof.Machine.execTempReading values s
  | .thermalRelease => Sys2Proof.Machine.execThermalRelease s
  | .sensorFail slot => Sys2Proof.Machine.execSensorFail slot s
  | .testPin level => Sys2Proof.Machine.execTestPin level s
  | .domainTransitionDone pd => Sys2Proof.Machine.execDomainTransitionDone pd s
  | .domainHeldRelease => Sys2Proof.Machine.execDomainHeldRelease s
  | .watchdogTrip e => Sys2Proof.Machine.execWatchdogTrip e s
  | .stallDetected domain item index => Sys2Proof.Machine.execStallDetected domain item index s
  | .engineReload e cntOk => Sys2Proof.Machine.execEngineReload e cntOk s
  | .recoveryComplete domain => Sys2Proof.Machine.execRecoveryComplete domain s
  | .recoveryRecord => Sys2Proof.Machine.execRecoveryRecord s
  | .countersPair => Sys2Proof.Machine.execCountersPair s
  | .moultFlush => Sys2Proof.Machine.execMoultFlush s
  | .logWrite eraseOk writeOk => Sys2Proof.Machine.execLogWrite eraseOk writeOk s
  | .rdOldest => Sys2Proof.Machine.execRdOldest s
  | .rdNewest => Sys2Proof.Machine.execRdNewest s
  | .rdSeqWrite value => Sys2Proof.Machine.execRdSeqWrite value s
  | .monSeqCapture => Sys2Proof.Machine.execMonSeqCapture s
  | .gpioEdge n drive tenths => Sys2Proof.Machine.execGpioEdge n drive tenths s
  | .gpioOutWrite value => Sys2Proof.Machine.execGpioOutWrite value s
  | .ppsOutEnd => Sys2Proof.Machine.execPpsOutEnd s
  | .jtagReset trst tms => Sys2Proof.Machine.execJtagReset trst tms s
  | .jtagInstruction code => Sys2Proof.Machine.execJtagInstruction code s
  | .psRelease n => Sys2Proof.Machine.execPsRelease n s
  | .baselineLoadDone => Sys2Proof.Machine.execBaselineLoadDone s
  | .oscillatorStart => Sys2Proof.Machine.execOscillatorStart s
  | .backupSupplySwitch vbat vdda18 => Sys2Proof.Machine.execBackupSupplySwitch vbat vdda18 s
  | .micbiasDropout pvdd => Sys2Proof.Machine.execMicbiasDropout pvdd s
  | .boundaryRegisterUpdate cells => Sys2Proof.Machine.execBoundaryRegisterUpdate cells s

end Sys2Proof.Machine
end

