-- ==== Sys2Proof/Machine/Tick.lean ====
section
/-!
DEFINITION. What the clock does while no command waits (log entry 4; spec/01_architecture.md, R23).
-/
namespace Sys2Proof.Machine

/-- One SYS cycle passes: the count of cycles, and the count within the device-time second (R23). In the last cycle of a second both stand until
DTIME_SECOND begins the next one, so that they keep step. Device time stands while the main reset is held. -/
def TimeSt.tick (t : TimeSt) (runs : Bool) : TimeSt :=
  if !runs then { t with clk := t.clk + 1 }
  else if t.cyc + 1 < Config.sysPerSecond then { t with clk := t.clk + 1, cyc := t.cyc + 1 }
  else t

/-- A step on an empty queue (log entry 4). -/
def idle (s : State) : Host.Outcome State Fault Refusal :=
  nextDev s (fun d => { d with time := d.time.tick (!d.inReset) })

end Sys2Proof.Machine
end

