-- ==== Sys2Proof/Machine/Balls.lean ====
section
/-!
DEFINITION. The package: the positions of its balls, their types, banks and reset states, and which of them the main reset or a domain that is not ON
holds (spec/20_package_pins.md, R595 to R598; spec/18_power_reset.md, R557). The tables are the spec's own.
-/
namespace Sys2Proof.Machine

/-! ### Positions -/

/-- The rows in their order (R595). -/
inductive BallRow where
  | A | B | C | D | E | F | G | H | J | K | L | M | N | P | T | U | V | W | Y | AA | AB | AC | AD
deriving DecidableEq, Repr

/-- The rows as a list, the first of them row 1. -/
def ballRows : List BallRow := [.A, .B, .C, .D, .E, .F, .G, .H, .J, .K, .L, .M, .N, .P, .T, .U, .V, .W, .Y, .AA, .AB, .AC, .AD]

/-- The number of a row: its place in the order, counted from 1 (R595). -/
def BallRow.number (r : BallRow) : Nat := ballRows.idxOf r + 1

/-- A position of the grid: a row and a column of 1 to 23. -/
abbrev BallPos : Type := BallRow × Nat

/-- The 529 positions, all of which carry a ball. -/
def ballGrid : List BallPos := ballRows.flatMap (fun r => (List.range 23).map (fun c => (r, c + 1)))

/-! ### Signal balls -/

/-- The type of a signal ball: RF input or output, analog, crystal terminal, digital, open-drain. -/
inductive BallType where
  | rf | ai | ao | aio | x | i | o | io | od
deriving DecidableEq, Repr

/-- The supply groups, with the returns (R596, R598). -/
inductive Supply where
  | vdd08 | vdda10 | vdda18 | vddAud | cpvdd | pvdd | vddSlk | vioH | vioF | vbat | pgnd | vss
deriving DecidableEq, Repr

/-- What stands at a ball that no configuration drives: an input, high impedance, a level, an open drain released, a pull of so many kΩ, an audio output
clamped, a block that is off, a crystal that oscillates, a reference discharged, an RF input without bias, or with one in mV. -/
inductive BallState where
  | input | highZ | low | high | released
  | pullUp (kohm : Nat) | pullDown (kohm : Nat)
  | clamped | off | oscillating | discharged | unbiased | bias (mv : Nat)
deriving DecidableEq, Repr

/-- A signal ball: its signal with the index in its bus, its position, type, bank and reset state, and the domain of its block. A speaker terminal
has two balls. -/
structure Ball where
  signal : String
  index : Nat := 0
  pos : BallPos
  type : BallType
  bank : Supply
  rest : BallState
  home : Nat
deriving DecidableEq, Repr

/-- The balls of a bus (R596): the member with index k takes the k-th ball listed. -/
def busBalls (signal : String) (row : BallRow) (first n : Nat) (type : BallType) (bank : Supply) (rest : BallState) (home : Nat) : List Ball :=
  (List.range n).map (fun k => ⟨signal, k, (row, first + k), type, bank, rest, home⟩)

/-- RF inputs, antenna supplies and clocks. -/
def clockBalls : List Ball :=
  [⟨"RFIN_A", 0, (.B, 3), .rf, .vdda18, .unbiased, 2⟩, ⟨"RFIN_B", 0, (.B, 8), .rf, .vdda18, .unbiased, 3⟩,
   ⟨"ANT_EN_A", 0, (.F, 1), .o, .vioH, .low, 2⟩, ⟨"ANT_EN_B", 0, (.G, 1), .o, .vioH, .low, 3⟩,
   ⟨"ANT_SNS_A", 0, (.F, 2), .ai, .vdda18, .input, 2⟩, ⟨"ANT_SNS_B", 0, (.G, 2), .ai, .vdda18, .input, 3⟩,
   ⟨"XI", 0, (.A, 11), .x, .vdda18, .oscillating, 1⟩, ⟨"XO", 0, (.A, 12), .x, .vdda18, .oscillating, 1⟩,
   ⟨"X32I", 0, (.A, 14), .x, .vbat, .oscillating, 0⟩, ⟨"X32O", 0, (.A, 15), .x, .vbat, .oscillating, 0⟩,
   ⟨"REFIN", 0, (.C, 12), .i, .vdda18, .highZ, 1⟩, ⟨"PPS_IN", 0, (.D, 12), .i, .vioH, .pullDown 100, 1⟩] ++
  busBalls "CLKOUT" .P 20 4 .o .vioH .low 1

/-- A TDM port: bit clock, frame sync, data out and data in. -/
def portBalls (k : Nat) (row : BallRow) : List Ball :=
  [⟨"BCLK", k, (row, 20), .io, .vioH, .pullDown 100, 6⟩, ⟨"FS", k, (row, 21), .io, .vioH, .pullDown 100, 6⟩,
   ⟨"DOUT", k, (row, 22), .o, .vioH, .low, 6⟩, ⟨"DIN", k, (row, 23), .i, .vioH, .pullDown 100, 6⟩]

/-- Host, local bus and straps. -/
def hostBalls : List Ball :=
  [⟨"HSCL", 0, (.F, 22), .od, .vioH, .released, 1⟩, ⟨"HSDA", 0, (.F, 23), .od, .vioH, .released, 1⟩,
   ⟨"HALERT_N", 0, (.G, 23), .od, .vioH, .released, 1⟩] ++
  busBalls "ADDR" .G 21 2 .i .vioH (.pullDown 100) 1 ++ busBalls "BOOT" .H 21 2 .i .vioH (.pullDown 100) 1 ++
  [⟨"RESET_N", 0, (.H, 23), .i, .vioH, .pullUp 50, 1⟩, ⟨"TEST", 0, (.J, 21), .i, .vioH, .pullDown 100, 1⟩,
   ⟨"LSCL", 0, (.J, 22), .od, .vioH, .released, 1⟩, ⟨"LSDA", 0, (.J, 23), .od, .vioH, .released, 1⟩]

/-- Ports, GPIO, test and coexistence. -/
def portSideBalls : List Ball :=
  portBalls 0 .K ++ portBalls 1 .L ++ portBalls 2 .M ++
  [⟨"SPD_TX", 0, (.N, 21), .o, .vioH, .low, 6⟩, ⟨"SPD_RX", 0, (.N, 22), .i, .vioH, .pullDown 100, 6⟩,
   ⟨"AMCLK", 0, (.N, 23), .o, .vioH, .low, 6⟩] ++
  (busBalls "GP" .T 20 4 .io .vioH (.pullDown 100) 1 ++ (busBalls "GP" .U 20 4 .io .vioH (.pullDown 100) 1).map (fun b => { b with index := b.index + 4 }) ++
    (busBalls "GP" .V 20 4 .io .vioH (.pullDown 100) 1).map (fun b => { b with index := b.index + 8 })) ++
  [⟨"TCK", 0, (.W, 19), .i, .vioH, .pullDown 100, 1⟩, ⟨"TMS", 0, (.W, 20), .i, .vioH, .pullUp 100, 1⟩,
   ⟨"TDI", 0, (.W, 21), .i, .vioH, .pullUp 100, 1⟩, ⟨"TDO", 0, (.W, 22), .o, .vioH, .highZ, 1⟩,
   ⟨"TRST_N", 0, (.W, 23), .i, .vioH, .pullDown 100, 1⟩,
   ⟨"CX_REQ", 0, (.E, 20), .o, .vioH, .low, 7⟩, ⟨"CX_PRI", 0, (.E, 21), .o, .vioH, .low, 7⟩,
   ⟨"CX_GNT", 0, (.E, 22), .i, .vioH, .pullDown 100, 7⟩, ⟨"CX_ACT", 0, (.E, 23), .i, .vioH, .pullDown 100, 7⟩]

/-- Flash, Ferson port and site link. -/
def flashSideBalls : List Ball :=
  [⟨"FL_CS_N", 0, (.AA, 23), .o, .vioF, .high, 1⟩, ⟨"FL_CLK", 0, (.AB, 23), .o, .vioF, .low, 1⟩,
   ⟨"FL_IO", 0, (.AC, 23), .io, .vioF, .pullUp 50, 1⟩, ⟨"FL_IO", 1, (.AD, 23), .io, .vioF, .pullUp 50, 1⟩,
   ⟨"FL_IO", 2, (.AD, 22), .io, .vioF, .pullUp 50, 1⟩, ⟨"FL_IO", 3, (.AC, 22), .io, .vioF, .pullUp 50, 1⟩,
   ⟨"FSP_CLK", 0, (.AD, 17), .o, .vioF, .low, 4⟩, ⟨"FSP_D", 0, (.AD, 18), .o, .vioF, .low, 4⟩,
   ⟨"FSP_D", 1, (.AC, 18), .o, .vioF, .low, 4⟩, ⟨"FSP_D", 2, (.AD, 19), .o, .vioF, .low, 4⟩,
   ⟨"FSP_D", 3, (.AC, 19), .o, .vioF, .low, 4⟩, ⟨"FSP_FRM", 0, (.AD, 16), .o, .vioF, .low, 4⟩,
   ⟨"FSP_RDY", 0, (.AC, 16), .i, .vioF, .pullDown 100, 4⟩,
   ⟨"SLK_RXIN", 0, (.B, 19), .rf, .vddSlk, .off, 7⟩, ⟨"SLK_TXOUT", 0, (.B, 22), .rf, .vddSlk, .highZ, 7⟩,
   ⟨"SLK_PA_EN", 0, (.D, 21), .o, .vioH, .low, 7⟩, ⟨"SLK_LNA_EN", 0, (.D, 22), .o, .vioH, .low, 7⟩,
   ⟨"SLK_TR", 0, (.D, 23), .o, .vioH, .low, 7⟩]

/-- The audio balls. -/
def audioBalls : List Ball :=
  [⟨"MIC1P", 0, (.W, 1), .ai, .vddAud, .input, 6⟩, ⟨"MIC1N", 0, (.W, 2), .ai, .vddAud, .input, 6⟩,
   ⟨"MIC2P", 0, (.W, 3), .ai, .vddAud, .input, 6⟩, ⟨"MIC2N", 0, (.W, 4), .ai, .vddAud, .input, 6⟩,
   ⟨"MICBIAS1", 0, (.V, 1), .ao, .pvdd, .pullDown 10, 6⟩, ⟨"MICBIAS2", 0, (.V, 2), .ao, .pvdd, .pullDown 10, 6⟩,
   ⟨"VREF_AUD", 0, (.V, 3), .ao, .vddAud, .discharged, 6⟩,
   ⟨"LIN1L", 0, (.U, 1), .ai, .vddAud, .input, 6⟩, ⟨"LIN1R", 0, (.U, 2), .ai, .vddAud, .input, 6⟩,
   ⟨"LIN2L", 0, (.U, 3), .ai, .vddAud, .input, 6⟩, ⟨"LIN2R", 0, (.U, 4), .ai, .vddAud, .input, 6⟩,
   ⟨"LOUTL", 0, (.Y, 1), .ao, .vddAud, .clamped, 6⟩, ⟨"LOUTR", 0, (.Y, 3), .ao, .vddAud, .clamped, 6⟩,
   ⟨"HPL", 0, (.AA, 1), .ao, .vddAud, .clamped, 6⟩, ⟨"HPR", 0, (.AA, 3), .ao, .vddAud, .clamped, 6⟩,
   ⟨"HPSNS", 0, (.AA, 2), .ai, .vddAud, .input, 6⟩, ⟨"JACK_DET", 0, (.Y, 5), .i, .vddAud, .pullUp 100, 6⟩] ++
  [⟨"JCK_R2", 0, (.Y, 6), .aio, .vddAud, .highZ, 6⟩, ⟨"JCK_SL", 0, (.Y, 7), .aio, .vddAud, .highZ, 6⟩,
   ⟨"CP_FLYP", 0, (.AB, 6), .aio, .cpvdd, .off, 6⟩, ⟨"CP_FLYN", 0, (.AB, 7), .aio, .cpvdd, .off, 6⟩,
   ⟨"CP_VP", 0, (.AB, 8), .ao, .cpvdd, .off, 6⟩, ⟨"CP_VN", 0, (.AB, 9), .ao, .cpvdd, .off, 6⟩,
   ⟨"SPKLP", 0, (.AC, 1), .ao, .pvdd, .highZ, 6⟩, ⟨"SPKLP", 1, (.AD, 1), .ao, .pvdd, .highZ, 6⟩,
   ⟨"SPKLN", 0, (.AC, 3), .ao, .pvdd, .highZ, 6⟩, ⟨"SPKLN", 1, (.AD, 3), .ao, .pvdd, .highZ, 6⟩,
   ⟨"SPKRP", 0, (.AC, 5), .ao, .pvdd, .highZ, 6⟩, ⟨"SPKRP", 1, (.AD, 5), .ao, .pvdd, .highZ, 6⟩,
   ⟨"SPKRN", 0, (.AC, 7), .ao, .pvdd, .highZ, 6⟩, ⟨"SPKRN", 1, (.AD, 7), .ao, .pvdd, .highZ, 6⟩]

/-- Every signal ball (R596). -/
def signalBalls : List Ball := clockBalls ++ hostBalls ++ portSideBalls ++ flashSideBalls ++ audioBalls

/-! ### Supply balls -/

/-- The supply balls that the table of R598 lists one by one. -/
def listedSupply : List (Supply × List BallPos) :=
  [(.vdda10, [(.E, 5), (.E, 6), (.E, 7), (.E, 8), (.F, 5), (.F, 6), (.F, 7), (.F, 8)]),
   (.vdda18, [(.G, 5), (.G, 6), (.G, 7), (.G, 8), (.C, 10), (.C, 11), (.C, 14), (.C, 15)]),
   (.vddAud, [(.T, 5), (.U, 5), (.V, 5), (.W, 5)]),
   (.cpvdd, [(.AB, 4), (.AB, 5)]),
   (.pvdd, [(.AC, 4), (.AD, 4), (.AC, 8), (.AD, 8)]),
   (.vddSlk, [(.F, 18), (.F, 19), (.G, 18), (.G, 19)]),
   (.vioH, [(.F, 20), (.G, 20), (.H, 20), (.J, 20), (.T, 19), (.U, 19)]),
   (.vioF, [(.Y, 20), (.AA, 20), (.AB, 20), (.AC, 20)]),
   (.vbat, [(.B, 15)]),
   (.pgnd, [(.AC, 2), (.AD, 2), (.AC, 6), (.AD, 6)])]

/-- A ball of `VDD08` (R598): rows H to P, columns 9 to 15, where the row number plus the column is even. -/
def isVdd08 (p : BallPos) : Bool :=
  decide (BallRow.H.number ≤ p.1.number) && decide (p.1.number ≤ BallRow.P.number) && decide (9 ≤ p.2) && decide (p.2 ≤ 15) &&
    (p.1.number + p.2) % 2 == 0

/-- The supply at a position that carries no signal (R598): every ball that is not named carries `VSS`. -/
def supplyAt (p : BallPos) : Supply :=
  if isVdd08 p then .vdd08 else ((listedSupply.find? (fun s => s.2.contains p)).map (·.1)).getD .vss

/-! ### What holds a ball in its reset state -/

/-- The main reset, or the reset-hold of R32 and R601, holds every ball in its reset state (R557, R597, R601). -/
def Dev.ballsReset (d : Dev) : Bool := d.boot.phase == .inReset || d.boot.phase == .romHold

/-- The block of the ball lies in a domain that is ON, or one that leaves ON and still runs its stop sequence (R597); PD0 and PD1 always are ON. -/
def Dev.ballHome (d : Dev) (b : Ball) : Bool := decide (b.home ≤ 1) || d.domOn b.home || (d.domOf b.home).stopping

/-- The reset state in which the ball stands; none where its block or the chain of the test access port has it (R557, R597, R609). The oscillator and the
balls of the backup domain have no other state. -/
def Dev.ballState (d : Dev) (b : Ball) : Option BallState :=
  if b.type = .x ∨ d.ballsReset = true ∨ d.ballHome b = false then some b.rest else none

/-- The bias of an RF input (R92, R596): 0.9 V once its domain is ON. -/
def Dev.rfBias (d : Dev) (x : Nat) : BallState := if !d.ballsReset && d.domOn (2 + x) then .bias 900 else .unbiased

/-- The level that the block drives on a digital output that State holds, where no reset state and no chain has the ball: the antenna supplies (R94), the
open drain `HALERT_N` (R43), the pins of the site link and of coexistence (R482, R484), and `GPn` (R603 to R605). `none`: released, or a ball whose
waveform is no single level. -/
def Dev.ballLevel (d : Dev) (b : Ball) : Option Bool :=
  if (d.ballState b).isSome || d.chainHeld then none
  else
    match b.signal with
    | "ANT_EN_A" => some (d.afeOf 0).antEn
    | "ANT_EN_B" => some (d.afeOf 1).antEn
    | "HALERT_N" => if d.halert then some false else none
    | "SLK_PA_EN" => some d.slk.paEn
    | "SLK_TR" => some d.slk.tr
    | "SLK_LNA_EN" => some d.lnaPin
    | "CX_REQ" => some (d.fbit R.CX_STAT_REQ)
    | "CX_PRI" => some (d.fbit R.CX_STAT_PRI)
    | "GP" => d.gpioDrives b.index
    | _ => none

end Sys2Proof.Machine
end

