-- ==== Sys2Proof/Safety.lean ====
section
/-!
DEFINITION. What the statements call a sound state (the two memories in their canonical form), and what a command did: it completes, it
wrote a field, raised an event, counted, and changed nothing else.
-/
namespace Sys2Proof.Machine

/-- The canonical form of a memory whose unlisted bytes read `dflt`: addresses strictly rising, no entry equal to `dflt`. -/
def Memory.wf (dflt : Nat → Byte) (m : SMap Byte) : Bool := smWf dflt m

/-- The flash and the Lilypad are canonical. -/
def State.memWf (s : State) : Bool := Memory.wf erased s.flash && Memory.wf (fun _ => 0) s.lily

/-- Command `c` completes from `s`, in a state of which `p` holds. -/
def Runs (c : Instr) (s : State) (p : State → Prop) : Prop := ∃ t, exec c s = .next t ∧ p t

/-- The index of the register of field `f` of entry `n` (R4). -/
def Fld.at (f : Fld) (n : Nat := 0) : Nat := f.base + f.stride * n

/-- The word of the immediate register at index `i`. -/
def State.reg (s : State) (i : Nat) : Word := smGet resetWord s.dev.regs.imm i

/-- From `s` to `t` field `f` of entry `n` takes the value `v`; the other bits of its register stay. -/
def Wrote (s t : State) (f : Fld) (n v : Nat) : Prop := t.reg (f.at n) = putBits (s.reg (f.at n)) f.hi f.lo v

/-- From `s` to `t` the event bit `f` of entry `n` is set; the other bits of its register stay (R41). -/
def Raised (s t : State) (f : Fld) (n : Nat := 0) : Prop := t.reg (f.at n) = s.reg (f.at n) ||| BitVec.ofNat 16 (2 ^ f.lo)

/-- From `s` to `t` the counter field `f` of entry `n` counts one and holds at its largest value; the other bits of its register stay. -/
def Counted (s t : State) (f : Fld) (n : Nat := 0) : Prop :=
  Wrote s t f n (min (s.dev.fget f n + 1) (2 ^ (f.hi + 1 - f.lo) - 1))

/-- From `s` to `t` no register outside `l` changes in any layer, nor the queue. -/
def OnlyRegs (l : List Nat) (s t : State) : Prop :=
  t.pending = s.pending ∧ t.dev.regs.staged = s.dev.regs.staged ∧ t.dev.regs.committed = s.dev.regs.committed ∧
  t.dev.regs.applied = s.dev.regs.applied ∧ ∀ i, i ∉ l → t.reg i = s.reg i

/-- From `s` to `t` no register outside `l` changes in any layer, nor a memory, nor the queue. -/
def Only (l : List Nat) (s t : State) : Prop := t.flash = s.flash ∧ t.lily = s.lily ∧ OnlyRegs l s t

end Sys2Proof.Machine
end

