-- ==== Sys2Proof/Certificates/Slice0/Obligations.lean ====
section
/-!
DEFINITION. The statements for the provers: what the commands of the block do, from the numbered rules of spec/.
-/
section
open Sys2Proof Sys2Proof.Machine

/-- R94 to R97: the transitions of the phantom supply that need no average. WAIT is entered with the trip (R94's TRIPPED row with
RETRY ≠ 0); that a timed command outside its state changes nothing is the model's choice (log entry 5) and not claimed here. -/
def Obligations.AfePhantomSupply : Prop :=
  (∀ (s : State) (x : Fin 2) (mv : Nat),
      let a := s.dev.afeOf x
      let clk := s.dev.time.clk
      (s.dev.phState x = 1 → a.phClk + msCycles (s.dev.fget R.AFE_PH_CFG_SETTLE x) ≤ clk →
        Runs (.phSettleEnd x) s (fun t =>
          let ok := (s.dev.afeOf x).tripped = true ∧ s.dev.fget R.AFE_PH_TH_OL x * 8 ≤ s.dev.fget R.AFE_SNS_MV x ∧
            s.dev.fget R.AFE_SNS_MV x ≤ s.dev.fget R.AFE_PH_TH_OC x * 8
          Wrote s t R.AFE_STAT_PH_STATE x 2 ∧ Only [R.AFE_STAT.at x, R.AFE_EVT.at x] s t ∧
          (ok → Raised s t R.AFE_EVT_PH_OK x) ∧ (¬ ok → t.reg (R.AFE_EVT.at x) = s.reg (R.AFE_EVT.at x)))) ∧
      (s.dev.phState x = 5 → a.phClk + msCycles (100 * s.dev.fget R.AFE_PH_TIME_RETRY x) ≤ clk →
        Runs (.phRetryExpiry x) s (fun t => Wrote s t R.AFE_STAT_PH_STATE x 1 ∧ (t.dev.afeOf x).antEn = true ∧
          (t.dev.afeOf x).armed = true ∧ Only [R.AFE_STAT.at x] s t)) ∧
      (s.dev.phState x = 4 →
        Runs (.phRestart x) s (fun t => Wrote s t R.AFE_STAT_PH_STATE x 1 ∧ (t.dev.afeOf x).antEn = true ∧
          (t.dev.afeOf x).armed = true ∧ Only [R.AFE_STAT.at x] s t)) ∧
      (s.dev.phState x ≠ 4 → Runs (.phRestart x) s (fun t => t = s)) ∧
  
        (s.dev.phState x = 0 → 0 < a.closing → 1750 ≤ mv → s.dev.fget R.AFE_PH_CFG_AUTO_OFF x = 1 ∨ a.armed = true →
          Runs (.phSenseSample x mv) s (fun t => Counted s t R.AFE_PH_TRIPS_COUNT x ∧ Raised s t R.AFE_EVT_PH_OC x ∧
            (t.dev.afeOf x).closing = 0 ∧ Only [R.AFE_PH_TRIPS.at x, R.AFE_EVT.at x] s t)) ∧
        (mv < 1750 → Runs (.phSenseSample x mv) s (fun t => (t.dev.afeOf x).snsSum = (s.dev.afeOf x).snsSum + mv ∧
          (t.dev.afeOf x).snsN = (s.dev.afeOf x).snsN + 1 ∧ Only [] s t)) ∧
        (1750 ≤ mv → (s.dev.phState x = 1 ∨ s.dev.phState x = 2 ∨ s.dev.phState x = 3) →
          (s.dev.fget R.AFE_PH_CFG_AUTO_OFF x = 1 →
            Runs (.phSenseSample x mv) s (fun t =>
              Counted s t R.AFE_PH_TRIPS_COUNT x ∧ Raised s t R.AFE_EVT_PH_OC x ∧
              Wrote s t R.AFE_STAT_PH_STATE x (if s.dev.fget R.AFE_PH_TIME_RETRY x = 0 then 4 else 5) ∧
              (t.dev.afeOf x).antEn = false ∧ Only [R.AFE_STAT.at x, R.AFE_PH_TRIPS.at x, R.AFE_EVT.at x] s t)) ∧
          (s.dev.fget R.AFE_PH_CFG_AUTO_OFF x ≠ 1 → (s.dev.afeOf x).armed = true →
            Runs (.phSenseSample x mv) s (fun t =>
              Counted s t R.AFE_PH_TRIPS_COUNT x ∧ Raised s t R.AFE_EVT_PH_OC x ∧ (t.dev.afeOf x).armed = false ∧
              Only [R.AFE_PH_TRIPS.at x, R.AFE_EVT.at x] s t)) ∧
          (s.dev.fget R.AFE_PH_CFG_AUTO_OFF x ≠ 1 → (s.dev.afeOf x).armed = false →
            Runs (.phSenseSample x mv) s (fun t => (t.dev.afeOf x).armed = false ∧ Only [] s t)))) ∧
  (∀ (s : State) (x : Fin 2) (avg : Nat), 10 ≤ (s.dev.afeOf x).snsN → avg = divNear (s.dev.afeOf x).snsSum (s.dev.afeOf x).snsN →
      (s.dev.afeOf x).closing = 0 → 1 ≤ s.dev.fget R.AFE_PH_TIME_DEB x →
      let ol := s.dev.fget R.AFE_PH_TH_OL x * 8
      let oc := s.dev.fget R.AFE_PH_TH_OC x * 8
      let deb := s.dev.fget R.AFE_PH_TIME_DEB x
      let Trip := fun t => Counted s t R.AFE_PH_TRIPS_COUNT x ∧ Raised s t R.AFE_EVT_PH_OC x
      (s.dev.phState x ≠ 2 → s.dev.phState x ≠ 3 →
        Runs (.phAverage x) s (fun t => Wrote s t R.AFE_SNS_MV x avg ∧ Only [R.AFE_SNS.at x] s t)) ∧
      (s.dev.phState x = 2 → avg < ol → avg ≤ oc → deb ≤ min ((s.dev.afeOf x).olRun + 1) 15 →
        Runs (.phAverage x) s (fun t => Wrote s t R.AFE_SNS_MV x avg ∧ Wrote s t R.AFE_STAT_PH_STATE x 3 ∧
          Raised s t R.AFE_EVT_PH_OPEN x ∧ Only [R.AFE_SNS.at x, R.AFE_STAT.at x, R.AFE_EVT.at x] s t)) ∧
      (s.dev.phState x = 3 → ol ≤ avg → avg ≤ oc → deb ≤ min ((s.dev.afeOf x).inRun + 1) 15 →
        Runs (.phAverage x) s (fun t => Wrote s t R.AFE_SNS_MV x avg ∧ Wrote s t R.AFE_STAT_PH_STATE x 2 ∧
          Raised s t R.AFE_EVT_PH_OK x ∧ Only [R.AFE_SNS.at x, R.AFE_STAT.at x, R.AFE_EVT.at x] s t)) ∧
      ((s.dev.phState x = 2 ∨ s.dev.phState x = 3) → oc < avg → deb ≤ min ((s.dev.afeOf x).ocRun + 1) 15 →
        (s.dev.fget R.AFE_PH_CFG_AUTO_OFF x = 1 →
          Runs (.phAverage x) s (fun t => Wrote s t R.AFE_SNS_MV x avg ∧ Trip t ∧
            Wrote s t R.AFE_STAT_PH_STATE x (if s.dev.fget R.AFE_PH_TIME_RETRY x = 0 then 4 else 5) ∧ (t.dev.afeOf x).antEn = false ∧
            Only [R.AFE_SNS.at x, R.AFE_STAT.at x, R.AFE_PH_TRIPS.at x, R.AFE_EVT.at x] s t)) ∧
        (s.dev.fget R.AFE_PH_CFG_AUTO_OFF x ≠ 1 → (s.dev.afeOf x).armed = true →
          Runs (.phAverage x) s (fun t => Wrote s t R.AFE_SNS_MV x avg ∧ Trip t ∧ (t.dev.afeOf x).armed = false ∧
            Only [R.AFE_SNS.at x, R.AFE_PH_TRIPS.at x, R.AFE_EVT.at x] s t))))

/-- R101 to R105, R113: the decisions of gain control. INTERVAL counts from `stepClk`, HOLD from `lowClk`. A step that leaves
the range of mode and limits is followed by the one into it (R102, R108, R110). -/
def Obligations.AfeGainControl : Prop :=
  ∀ (s : State) (x : Fin 2) (v n : Nat),
    let a := s.dev.afeOf x
    let runs := s.dev.splStopped = false
    let lg := s.dev.lg
    let att := s.dev.fget R.AFE_STAT_ATT x
    let lo := s.dev.fget R.AFE_ATT_LIM_MIN x
    let hi := s.dev.fget R.AFE_ATT_LIM_MAX x
    let live := s.dev.fget R.AFE_STAT_SAMPLING x = 1 ∨ s.dev.fget R.AFE_STAT_ACQ x = 1
    let want := if s.dev.wgcMode x = 0 then clampNat lo hi v else if s.dev.wgcMode x = 1 then s.dev.fget R.AFE_ATT_MAN_ATT x else clampNat (s.dev.attFloor x) hi v
    let due := runs ∧ a.peakAt + 1024 ≤ lg ∧ a.stepClk.all (fun k => decide (k + msCycles (s.dev.fget R.AFE_WGC_TIME_INTERVAL x) ≤ s.dev.time.clk)) = true ∧ a.attTarget = none ∧
      a.blanked = false ∧ s.dev.blanking = false ∧ s.dev.fget R.AFE_STAT_ACQ x = 0 ∧ s.dev.fget R.AFE_STAT_SAMPLING x = 1
    let commit := (s.dev.bicOf x).commitAt
    let noPend := (s.dev.bicOf x).pend = none
    (runs → a.attTarget = some (v, n) → noPend → commit ≠ some n → n ≤ lg → v < 32 → a.lnaTarget = none →
      Runs (.attenuatorStep x) s (fun t =>
        Wrote s t R.AFE_STAT_ATT x v ∧ (t.dev.afeOf x).lnaNow = a.lnaNow ∧
        (t.dev.afeOf x).attTarget = (if live ∧ want ≠ v then some (want, lg + 1) else none) ∧
        (att ≠ v → Counted s t R.AFE_ATT_STEPS_COUNT x) ∧ (att = v → t.reg (R.AFE_ATT_STEPS.at x) = s.reg (R.AFE_ATT_STEPS.at x)) ∧
        Only [R.AFE_STAT.at x, R.AFE_ATT_STEPS.at x] s t)) ∧
    (runs → a.attTarget = some (v, n) → noPend → commit = some n → n = lg → a.lnaTarget = none →
      Runs (.attenuatorStep x) s (fun t => (t.dev.afeOf x).attTarget = some (v, n) ∧ Only [] s t)) ∧
    (runs → a.attTarget = none → noPend → commit ≠ some n → a.lnaTarget = some n → n ≤ lg →
      Runs (.attenuatorStep x) s (fun t => (t.dev.afeOf x).lnaNow = s.dev.fget R.AFE_CFG_LNA_MODE x ∧ (t.dev.afeOf x).lnaTarget = none ∧ Only [] s t)) ∧
    (s.dev.splStopped = true → Runs (.attenuatorStep x) s (fun t => t = s) ∧ Runs (.peakWindow x) s (fun t => t = s) ∧
      Runs (.overloadWindow x) s (fun t => t = s)) ∧
    (due → s.dev.wgcMode x = 0 → aboveDbfs a.peak (s.dev.fget R.AFE_WGC_TH_UP x) = true → att < hi →
      Runs (.peakWindow x) s (fun t => (t.dev.afeOf x).attTarget = some (att + 1, lg + 1) ∧ (t.dev.afeOf x).peak = 0 ∧ Only [] s t)) ∧
    (due → s.dev.wgcMode x ≠ 1 → aboveDbfs a.peak (s.dev.fget R.AFE_WGC_TH_UP x) = false →
      aboveDbfs a.peak (s.dev.fget R.AFE_WGC_TH_DN x) = false →
      10 ^ s.dev.fget R.AFE_WGC_TH_DN x * a.peak ^ 20 ≠ 8192 ^ 20 →
      a.lowClk + msCycles (10 * s.dev.fget R.AFE_WGC_TIME_HOLD x) ≤ s.dev.time.clk → a.attacked = false →
      (if s.dev.wgcMode x = 0 then lo else s.dev.attFloor x) < att →
      Runs (.peakWindow x) s (fun t => (t.dev.afeOf x).attTarget = some (att - 1, lg + 1) ∧ (t.dev.afeOf x).peak = 0 ∧ Only [] s t)) ∧
    (runs → live → a.ovlAt + 64 ≤ lg → s.dev.fget R.AFE_OVL_CFG_CNT x ≤ a.clips →
      Runs (.overloadWindow x) s (fun t =>
        let sat := s.dev.wgcMode x = 1 ∨ att = hi
        let out := a.ovlBlanked = true ∨ s.dev.blanking = true
        t.reg (R.AFE_EVT.at x) = s.reg (R.AFE_EVT.at x) ||| 1 ||| (if sat then 2 else 0) ∧
        (out → Counted s t R.AFE_OVL_BLANK_COUNT x) ∧
        (¬ out → (t.dev.afeOf x).ovlSecond = true ∧ t.reg (R.AFE_OVL_BLANK.at x) = s.reg (R.AFE_OVL_BLANK.at x)) ∧
        (¬ sat → s.dev.fget R.AFE_STAT_ACQ x = 0 → a.attTarget = none → att < hi →
          (t.dev.afeOf x).attTarget = some (min (att + s.dev.fget R.AFE_OVL_CFG_STEP x) hi, lg + 1)) ∧
        (s.dev.fget R.AFE_STAT_SAMPLING x = 1 → (t.dev.afeOf x).blockOvl = (a.blockOvl || s.dev.inBlock a.ovlAt) ∧
          (t.dev.afeOf x).flagged = a.flagged ++ [(s.dev.lgClk a.ovlAt, s.dev.lgClk (a.ovlAt + 64))]) ∧
        (t.dev.afeOf x).clips = 0 ∧ Only [R.AFE_EVT.at x, R.AFE_OVL_BLANK.at x] s t)) ∧
    (runs → live → a.ovlAt + 64 ≤ lg → a.clips < s.dev.fget R.AFE_OVL_CFG_CNT x →
      Runs (.overloadWindow x) s (fun t => (t.dev.afeOf x).clips = 0 ∧ Only [] s t))

/-- R99, R100, R110, R111, R117: acquisition. The result without clipping is `acqResult`, the lowest A from MIN to MAX with A ≥ P0 + UP. -/
def Obligations.AfeAcquisition : Prop :=
  ∀ (s : State) (x : Fin 2) (codes : List (BitVec 14)) (k : Nat),
    let a := s.dev.afeOf x
    let hi := s.dev.fget R.AFE_ATT_LIM_MAX x
    let old := s.reg (R.AFE_STAT.at x)
    let runs := s.dev.splStopped = false
    let clk := s.dev.time.clk
    let ended := s.dev.fget R.AFE_STAT_ACQ x = 1 ∧ runs ∧ a.acqClk = some k ∧ k + Config.sysPerMs ≤ clk
    let started := [R.AFE_STAT.at x, R.AFE_ATT_STEPS.at x, R.AFE_EVT.at x, R.BICX_STAT.at x, R.SCN_STAT_A.at 0, R.SCN_STAT_B.at 0]
    (s.dev.domOn (2 + x) = true → runs → a.onClk + msCycles 2 ≤ clk → s.dev.fget R.AFE_STAT_SAMPLING x = 0 → s.dev.fget R.AFE_STAT_ACQ x = 0 →
      s.dev.phState x ≠ 1 →
      (s.dev.wgcMode x = 0 → Runs (.inputStart x) s (fun t =>
        t.reg (R.AFE_STAT.at x) = putBits (putBits old 4 0 hi) 8 8 1 ∧ (t.dev.afeOf x).starting = true ∧ (t.dev.afeOf x).acqClk = some clk ∧
        Only [R.AFE_STAT.at x, R.AFE_ATT_STEPS.at x] s t)) ∧
      (s.dev.wgcMode x ≠ 0 → Runs (.inputStart x) s (fun t =>
        t.reg (R.AFE_STAT.at x) = putBits (putBits old 4 0 (s.dev.attFloor x)) 15 15 1 ∧ Raised s t R.AFE_EVT_INPUT_UP x ∧ Only started s t))) ∧
    (s.dev.fget R.AFE_STAT_SAMPLING x = 1 → s.dev.fget R.AFE_STAT_ACQ x = 0 → runs → s.dev.wgcMode x = 0 → a.attTarget = none →
      Runs (.reacquire x) s (fun t => Wrote s t R.AFE_STAT_ACQ x 1 ∧ (t.dev.afeOf x).attTarget = some (hi, s.dev.lg + 1) ∧
        Only [R.AFE_STAT.at x] s t)) ∧
    (s.dev.fget R.AFE_STAT_ACQ x = 1 → Runs (.reacquire x) s (fun t => t = s)) ∧
    (ended → a.starting = false → a.attTarget = none → s.dev.wgcMode x = 0 →
      Runs (.acquisitionDone x) s (fun t => Wrote s t R.AFE_STAT_ACQ x 0 ∧
        (t.dev.afeOf x).attTarget = some (if a.acqClip = true then hi else s.dev.acqResult x, s.dev.lg + 1) ∧
        (a.acqClip = true → Raised s t R.AFE_EVT_SATURATED x) ∧
        (a.acqClip = false → t.reg (R.AFE_EVT.at x) = s.reg (R.AFE_EVT.at x)) ∧
        Only [R.AFE_STAT.at x, R.AFE_EVT.at x] s t)) ∧
    (ended → a.starting = false → a.attTarget = none → s.dev.wgcMode x ≠ 0 →
      Runs (.acquisitionDone x) s (fun t => Wrote s t R.AFE_STAT_ACQ x 0 ∧ (t.dev.afeOf x).attTarget = some (s.dev.attFloor x, s.dev.lg + 1) ∧
        Only [R.AFE_STAT.at x] s t)) ∧
    (ended → a.starting = true → a.acqClip = false → s.dev.wgcMode x = 0 →
      Runs (.acquisitionDone x) s (fun t =>
        t.reg (R.AFE_STAT.at x) = putBits (putBits (putBits old 8 8 0) 4 0 (s.dev.acqResult x)) 15 15 1 ∧
        Raised s t R.AFE_EVT_INPUT_UP x ∧ Only started s t)) ∧
    (codes.length = 8 → s.dev.fget R.AFE_STAT_SAMPLING x = 1 → runs →
      Runs (.laneGroup x codes) s (fun t =>
        (t.dev.afeOf x).clips = a.clips + (codes.filter (fun c => c.toInt = -8192 ∨ c.toInt = 8191)).length ∧
        (∀ c ∈ codes, c.toInt.natAbs ≤ (t.dev.afeOf x).peak) ∧ (t.dev.afeOf x).groups = a.groups + 1 ∧
        (t.dev.afeOf x).group.length = 8 ∧ (∀ v ∈ (t.dev.afeOf x).group, -524288 ≤ v ∧ v ≤ 524287) ∧ Only [] s t))
/-- R120 to R123, R125, R130: one estimation window. The values in BICX_IMG and BICX_OFS, which may be
free values where a residual is zero, are not claimed. -/
def Obligations.BicWindow : Prop :=
  ∀ (s : State) (x : Fin 2) (power : Int) (flat : Byte) (est : List (Int × Int × Int)),
    s.dev.bicEn x = true → s.dev.fget R.AFE_STAT_SAMPLING x = 1 → s.dev.splStopped = false → (s.dev.bicOf x).pend = none →
    (s.dev.bicOf x).start + 2 ^ s.dev.fget R.BIC_CFG_WIN ≤ s.dev.lg →
    let e2 : List LaneCorr := balanced ((est.take 8).map (fun e => ⟨e.1, e.2.1, e.2.2⟩))
    let r := meanCorr (s.dev.bicOf x).e1 e2
    let c := s.dev.bicCandidate x r
    let old := s.reg (R.BICX_STAT.at x)
    let m := s.dev.fget R.BIC_TOL2_IMG_MIN
    let need := aboveTenTo (imgNum r) imgDen (-(m : Int)) 10 || aboveTenTo (ofsNum r) ofsDen (-(m + 20 : Nat)) 10
    let Base := fun t => Counted s t R.BICX_WINDOWS_COUNT x ∧ Wrote s t R.BICX_FLAT_FLAT x flat.toNat ∧
      (t.dev.bicOf x).start = (s.dev.bicOf x).start + 2 ^ s.dev.fget R.BIC_CFG_WIN
    let null := s.dev.fget R.BIC_CFG_COMMIT = 0
    let planned (p : BicPend) := p.null = (s.dev.fget R.BIC_CFG_COMMIT == 0) ∧ p.ref = s.dev.fget R.BIC_REF_BLOCK ∧ p.clk = s.dev.time.clk ∧
      p.tmo = msCycles (10 * s.dev.fget R.BIC_REF_TMO) ∧ (¬ null → p.target = some (s.dev.lg + 256))
    let good := s.dev.bicPre x power flat.toNat = 0
    let pair := good ∧ s.dev.bicState x = 2
    let agree := pair ∧ s.dev.bicAgree (s.dev.bicOf x).e1 e2 = true
    (¬ good →
      Runs (.estimationWindow x power flat est) s (fun t => Base t ∧ Counted s t R.BICX_REJ_PRE_COUNT x ∧
        t.reg (R.BICX_STAT.at x) = (if s.dev.bicState x = 4 then putBits old 11 8 (s.dev.bicPre x power flat.toNat)
          else putBits (putBits old 11 8 (s.dev.bicPre x power flat.toNat)) 2 0 1) ∧
        Only [R.BICX_WINDOWS.at x, R.BICX_FLAT.at x, R.BICX_REJ_PRE.at x, R.BICX_STAT.at x] s t)) ∧
    (good → s.dev.bicState x ≠ 2 → s.dev.bicState x ≠ 4 →
      Runs (.estimationWindow x power flat est) s (fun t => Base t ∧ Wrote s t R.BICX_STAT_STATE x 2 ∧ (t.dev.bicOf x).e1 = e2 ∧
        Only [R.BICX_WINDOWS.at x, R.BICX_FLAT.at x, R.BICX_STAT.at x] s t)) ∧
    (pair → s.dev.bicAgree (s.dev.bicOf x).e1 e2 = false →
      Runs (.estimationWindow x power flat est) s (fun t => Base t ∧ Counted s t R.BICX_REJ_AGREE_COUNT x ∧
        t.reg (R.BICX_STAT.at x) = putBits (putBits old 11 8 6) 2 0 1 ∧
        Only [R.BICX_WINDOWS.at x, R.BICX_FLAT.at x, R.BICX_REJ_AGREE.at x, R.BICX_STAT.at x] s t)) ∧
    (agree → inRange c = false →
      Runs (.estimationWindow x power flat est) s (fun t => Base t ∧ Counted s t R.BICX_REJ_RANGE_COUNT x ∧
        t.reg (R.BIC_EVT.at 0) = s.reg (R.BIC_EVT.at 0) ||| (if x = 0 then 0x10 else 0x20) ∧
        t.reg (R.BICX_STAT.at x) = putBits (putBits old 11 8 7) 2 0 1 ∧
        Only [R.BICX_WINDOWS.at x, R.BICX_FLAT.at x, R.BICX_REJ_RANGE.at x, R.BICX_STAT.at x, R.BICX_IMG.at x, R.BICX_OFS.at x, R.BIC_EVT.at 0] s t)) ∧
    (agree → inRange c = true → need = false →
      Runs (.estimationWindow x power flat est) s (fun t => Base t ∧ Counted s t R.BICX_NO_CHANGE_COUNT x ∧ Wrote s t R.BICX_STAT_STATE x 1 ∧
        Only [R.BICX_WINDOWS.at x, R.BICX_FLAT.at x, R.BICX_NO_CHANGE.at x, R.BICX_STAT.at x, R.BICX_IMG.at x, R.BICX_OFS.at x] s t)) ∧
    (agree → inRange c = true → need = true → s.dev.fget R.BIC_CFG_COMMIT ≠ 2 →
      Runs (.estimationWindow x power flat est) s (fun t => Base t ∧ Wrote s t R.BICX_STAT_STATE x 3 ∧
        ((t.dev.bicOf x).pend.any (fun p => decide (p.set = some c ∧ p.kind = 0 ∧ p.img = imgNum r ∧ p.src = 2 ∧ planned p))) = true ∧
        Only [R.BICX_WINDOWS.at x, R.BICX_FLAT.at x, R.BICX_STAT.at x, R.BICX_IMG.at x, R.BICX_OFS.at x] s t)) ∧
    (good → s.dev.bicState x = 4 → (s.dev.bicOf x).img < imgNum e2 → s.dev.fget R.BIC_CFG_COMMIT ≠ 2 →
      Runs (.estimationWindow x power flat est) s (fun t => Base t ∧ Counted s t R.BICX_REVERT_COUNT x ∧ Wrote s t R.BICX_STAT_STATE x 3 ∧
        t.reg (R.BIC_EVT.at 0) = s.reg (R.BIC_EVT.at 0) ||| (if x = 0 then 4 else 8) ∧
        ((t.dev.bicOf x).pend.any (fun p => decide (p.set = (s.dev.bicOf x).prev ∧ p.kind = 1 ∧ planned p))) = true ∧
        Only [R.BICX_WINDOWS.at x, R.BICX_FLAT.at x, R.BICX_REVERT.at x, R.BICX_STAT.at x, R.BIC_EVT.at 0] s t)) ∧
    (good → s.dev.bicState x = 4 → imgNum e2 ≤ (s.dev.bicOf x).img →
      Runs (.estimationWindow x power flat est) s (fun t => Base t ∧ Wrote s t R.BICX_STAT_STATE x 2 ∧ (t.dev.bicOf x).e1 = e2 ∧
        Only [R.BICX_WINDOWS.at x, R.BICX_FLAT.at x, R.BICX_STAT.at x] s t))

/-- R120, R126, R127, R130: the commit of a correction set and the commands on it. -/
def Obligations.BicCommitAndControl : Prop :=
  ∀ (s : State) (x : Fin 2) (p : BicPend) (n : Nat),
    let runs := s.dev.splStopped = false
    let waits := (s.dev.bicOf x).pend = some p
    let meets (n : Nat) := s.dev.lgClk n ≤ p.clk + p.tmo
    let elapsed := p.clk + p.tmo ≤ s.dev.time.clk
    let next := if s.dev.bicEn x = false ∨ s.dev.fget R.AFE_STAT_SAMPLING x = 0 then 0 else if p.kind = 0 then 4 else 1
    (runs → waits → p.target = some n → n ≤ s.dev.lg →
      Runs (.bicCommit x) s (fun t =>
        (t.dev.bicOf x).corr = p.set ∧ (t.dev.bicOf x).prev = (s.dev.bicOf x).corr ∧ (t.dev.bicOf x).pend = none ∧ (t.dev.bicOf x).commitAt = some n ∧
        Counted s t R.BICX_COMMITS_COUNT x ∧ t.reg (R.BIC_EVT.at 0) = s.reg (R.BIC_EVT.at 0) ||| (if x = 0 then 1 else 2) ∧
        Wrote s t R.BICX_LAST_S_HI_SEC x (s.dev.time.sec / 65536) ∧ Wrote s t R.BICX_LAST_S_LO_SEC x (s.dev.time.sec % 65536) ∧
        t.reg (R.BICX_STAT.at x) = putBits (putBits (s.reg (R.BICX_STAT.at x)) 5 4 p.src) 2 0 next ∧
        t.dev.jnl.dirty = true ∧
        Only [R.BICX_COMMITS.at x, R.BIC_EVT.at 0, R.BICX_LAST_S_HI.at x, R.BICX_LAST_S_LO.at x, R.BICX_STAT.at x] s t)) ∧
    (waits → p.target = none ∨ p.target = some n ∧ s.dev.lg < n ∨ s.dev.splStopped = true → Runs (.bicCommit x) s (fun t => t = s)) ∧
    (runs → waits → p.null = true → elapsed → p.target = none ∨ p.target = some n ∧ ¬ meets n →
      Runs (.bicCommitTimeout x) s (fun t => (t.dev.bicOf x).pend = some { p with null := false, target := some (s.dev.lg + 256) } ∧ Counted s t R.BICX_TMO_COUNT x ∧
        t.reg (R.BIC_EVT.at 0) = s.reg (R.BIC_EVT.at 0) ||| (if x = 0 then 0x40 else 0x80) ∧ Only [R.BICX_TMO.at x, R.BIC_EVT.at 0] s t)) ∧
    (waits → p.null = true → p.target = some n ∧ meets n ∨ ¬ elapsed ∨ s.dev.splStopped = true → Runs (.bicCommitTimeout x) s (fun t => t = s)) ∧
    (s.dev.fget R.BIC_CFG_COMMIT ≠ 2 →
      Runs (.bicFactory x) s (fun t => Wrote s t R.BICX_STAT_STATE x 3 ∧
        ((t.dev.bicOf x).pend.any (fun q => decide (q.set = none ∧ q.kind = 2 ∧ q.src = 0 ∧ q.ref = s.dev.fget R.BIC_REF_BLOCK ∧
          q.null = (s.dev.fget R.BIC_CFG_COMMIT == 0) ∧ (s.dev.fget R.BIC_CFG_COMMIT ≠ 0 → q.target = some (s.dev.lg + 256))))) = true ∧ Only [R.BICX_STAT.at x] s t)) ∧
    (s.dev.fget R.BIC_CFG_COMMIT = 2 → Runs (.bicFactory x) s (fun t => t = s)) ∧
    (s.dev.bicState x = 1 ∨ s.dev.bicState x = 2 ∨ s.dev.bicState x = 4 → Runs (.bicRestart x) s (fun t =>
      Wrote s t R.BICX_STAT_STATE x (if (s.dev.bicOf x).verify = true then 4 else 1) ∧ (t.dev.bicOf x).start = s.dev.lg ∧ Only [R.BICX_STAT.at x] s t)) ∧
    (s.dev.bicState x = 0 ∨ s.dev.bicState x = 3 → Runs (.bicRestart x) s (fun t => t = s))

/-- R135, R136, R139: the journal. The record bytes are `jnlBytes`; its addresses `jnlAddr`, the ones the meaning writes to. -/
def Obligations.BicJournal : Prop :=
  ∀ (s : State) (r : JnlRec) (rest : List JnlRec) (a : Nat),
    let pos := s.dev.jnl.pos
    let slot := s.dev.jnl.slot
    let rec' := jnlBytes ((s.dev.jnl.seq + 1) % 2 ^ 32) r
    let free := s.dev.fget R.BIC_JNL_STAT_STOPPED ≠ 1 ∧ s.dev.jnl.queue = r :: rest ∧ s.dev.anole.head? = some true ∧ s.dev.flashBusy = false
    (s.dev.jnl.dirty = true → s.dev.fget R.BIC_JNL_STAT_STOPPED ≠ 1 →
      s.dev.jnl.last.all (fun c => decide (s.dev.fget R.BIC_JNL_MIN_INT * 60 * Config.sysPerSecond ≤ s.dev.since c)) = true →
      Runs .journalHandover s (fun t => t.dev.jnl.dirty = false ∧ t.dev.jnl.last = some s.dev.time.clk ∧
        t.dev.jnl.queue = s.dev.jnl.queue ++ [⟨max (s.dev.bicOf 0).time (s.dev.bicOf 1).time, (s.dev.bicOf 0).corr, (s.dev.bicOf 1).corr⟩] ∧
        t.dev.anole = s.dev.anole ++ [true] ∧ Only [] s t)) ∧
    (s.dev.anole.head? = some false ∨ s.dev.flashBusy = true → Runs (.journalWrite true true) s (fun t => t = s)) ∧
    (s.dev.jnl.last.any (fun c => decide (s.dev.since c < s.dev.fget R.BIC_JNL_MIN_INT * 60 * Config.sysPerSecond)) = true →
      Runs .journalHandover s (fun t => t = s)) ∧
    (free → pos < 512 →
      Runs (.journalWrite true true) s (fun t =>
        smGet erased t.flash a = (if jnlAddr slot pos ≤ a ∧ a < jnlAddr slot pos + 128 then BitVec.ofNat 8 (rec'.getD (a - jnlAddr slot pos) 0)
          else smGet erased s.flash a) ∧
        t.lily = s.lily ∧ t.dev.jnl.queue = rest ∧ t.dev.jnl.pos = pos + 1 ∧ t.dev.jnl.slot = slot ∧ t.dev.jnl.seq = s.dev.jnl.seq + 1 ∧
        OnlyRegs [R.BIC_JNL_STAT.at 0] s t)) ∧
    (free → pos = 512 →
      Runs (.journalWrite true true) s (fun t =>
        smGet erased t.flash a = (if jnlAddr (1 - slot) 0 ≤ a ∧ a < jnlAddr (1 - slot) 0 + 128 then BitVec.ofNat 8 (rec'.getD (a - jnlAddr (1 - slot) 0) 0)
          else if jnlAddr (1 - slot) 0 ≤ a ∧ a < jnlAddr (1 - slot) 512 then 0xFF else smGet erased s.flash a) ∧
        t.lily = s.lily ∧ t.dev.jnl.pos = 1 ∧ t.dev.jnl.slot = 1 - slot ∧ OnlyRegs [R.BIC_JNL_STAT.at 0] s t)) ∧
    (free → pos = 512 →
      Runs (.journalWrite false true) s (fun t => t.dev.jnl.queue = [] ∧ Wrote s t R.BIC_JNL_STAT_STOPPED 0 1 ∧ Raised s t R.BIC_EVT_JNL_ERR ∧
        (a < jnlAddr (1 - slot) 0 ∨ jnlAddr (1 - slot) 512 ≤ a → smGet erased t.flash a = smGet erased s.flash a) ∧ t.lily = s.lily ∧
        OnlyRegs [R.BIC_JNL_STAT.at 0, R.BIC_EVT.at 0] s t))

/-- R47, R155 to R157. Which contexts may be shed: not OFF, not shed, managed or of a class below KEEP. -/
def Obligations.ThermalShedding : Prop :=
  ∀ (s : State) (pool' : Fin 5) (n : Nat),
    let key := fun (p : Nat × Nat) => s.dev.shedKey p.1 p.2
    let may := ctxAll (fun pool n => s.dev.ctxState pool n != 0 && !s.dev.ctxShed pool n && s.dev.ctxState pool n != 4 &&
      (s.dev.ctxManaged pool n || decide (s.dev.ctxPrio pool n < s.dev.fget R.CHN_SHED_KEEP)))
    let shed := ctxAll (fun pool n => s.dev.ctxState pool n == 4 && !(s.dev.ctxOf pool n).resume)
    let h := s.dev.shed
    let clk := s.dev.time.clk
    let gap := msCycles (10 * s.dev.fget R.CHN_SHED_TIME_STEP)
    let due := s.dev.hotShed = true ∧ (h.stepClk = 0 ∨ h.stepClk - 1 + gap ≤ clk)
    let cool := s.dev.coolResume = true ∧ h.coolClk ≠ 0 ∧ h.coolClk - 1 + msCycles (1000 * s.dev.fget R.CHN_SHED_TIME_RESUME) ≤ clk ∧
      (h.resumeClk = 0 ∨ h.resumeClk - 1 + gap ≤ clk)
    let fresh (pool n : Nat) := s.dev.ctxManaged pool n = true ∧ (s.dev.ctxOf pool n).granted = false
    (due → may ≠ [] → (s.dev.ctx.all (fun e => !(e.2.managed && !e.2.granted))) = true →
      Runs .shedStep s (fun t => (∃ p ∈ may, (∀ q ∈ may, key p ≤ key q) ∧ (t.dev.ctxOf p.1 p.2).shed = true) ∧ t.dev.shed.stepClk = clk + 1 ∧
        Counted s t R.CHN_SHED_STEPS_COUNT 0 ∧ Raised s t R.CHN_EVT_SHED ∧ Only [R.CHN_SHED_STEPS.at 0, R.CHN_EVT.at 0] s t)) ∧
    (due → may ≠ [] → pool'.val ≠ 3 → n < poolSize pool' → fresh pool' n →
      Runs .shedStep s (fun t => t.dev.ctxManaged pool' n = false ∧ t.dev.fget (ctxFld pool' 2 12 12 false) n = 0 ∧
        s.dev.fget R.CHN_MGD_REFUSED_COUNT ≤ t.dev.fget R.CHN_MGD_REFUSED_COUNT ∧ t.dev.fbit R.CHN_EVT_MGD_REFUSED = true)) ∧
    (due → may = [] → Runs .shedStep s (fun t => t.dev.ctx = s.dev.ctx ∧ t.dev.shed.stepClk = clk + 1 ∧ Only [] s t)) ∧
    (s.dev.hotShed = true → h.stepClk ≠ 0 → clk < h.stepClk - 1 + gap → Runs .shedStep s (fun t => t = s)) ∧
    (cool → shed ≠ [] →
      Runs .resumeStep s (fun t => (∃ p ∈ shed, (∀ q ∈ shed, key q ≤ key p) ∧ (t.dev.ctxOf p.1 p.2).resume = true) ∧ t.dev.shed.resumeClk = clk + 1 ∧
        Counted s t R.CHN_RESUMES_COUNT 0 ∧ Raised s t R.CHN_EVT_RESUME ∧ Only [R.CHN_RESUMES.at 0, R.CHN_EVT.at 0] s t))

/-- R48, R148 to R150, R152. `freq` is what an entry is known by: a frequency in kHz, a block, or block × 64 + subchannel. -/
def Obligations.ManagedContexts : Prop :=
  ∀ (s : State) (p : Fin 128) (g : MgdTarget) (n : Fin 256) (pool' : Fin 5),
    let pool : Nat := match g with | .fm _ => 0 | .am _ => 1 | .dbe _ => 2 | .dsc _ _ => 4
    let freq : Nat := match g with | .fm f => f | .am f => f | .dbe b => b | .dsc b sc => b * 64 + sc
    let found : Option Nat := match g with
      | .fm f => s.dev.receiving 0 f | .am f => s.dev.receiving 1 f | .dbe b => s.dev.receiving 2 b | .dsc b sc => s.dev.dscNaming b sc
    let free : Option Nat := s.dev.mgdFree pool (match g with | .dbe b => some b.val | _ => none)
    let barred := s.dev.anyShed = true ∨ s.dev.managedLimit pool ≤ s.dev.managedCount pool ∨ free = none
    let linger := (s.dev.ctxOf pool' n).freeClk - 1 + msCycles (1000 * s.dev.fget R.CHN_MGD_TIME_LINGER)
    (found = some n.val →
      Runs (.managedRequest p g) s (fun t => Counted s t R.PRG_REQUESTS_COUNT 0 ∧ p.val ∈ (t.dev.ctxOf pool n).holders ∧
        Only [R.PRG_REQUESTS.at 0] s t)) ∧
    (found = none → barred →
      Runs (.managedRequest p g) s (fun t => Counted s t R.PRG_REQUESTS_COUNT 0 ∧ Counted s t R.CHN_MGD_REFUSED_COUNT 0 ∧
        Raised s t R.CHN_EVT_MGD_REFUSED ∧ Only [R.PRG_REQUESTS.at 0, R.CHN_MGD_REFUSED.at 0, R.CHN_EVT.at 0] s t)) ∧
    (found = none → ¬ barred → free = some n.val →
      Runs (.managedRequest p g) s (fun t => Counted s t R.PRG_REQUESTS_COUNT 0 ∧
        (t.dev.ctxOf pool n).granted = false ∧ (t.dev.ctxOf pool n).managed = true ∧ (t.dev.ctxOf pool n).freq = freq ∧
        (t.dev.ctxOf pool n).holders = [p.val] ∧ Wrote s t (ctxFld pool 2 12 12 false) n 1 ∧
        Only [R.PRG_REQUESTS.at 0, (ctxFld pool 2 12 12 false).at n] s t)) ∧
    (s.dev.ctxManaged pool' n = true → (s.dev.ctxOf pool' n).holders = [] → (s.dev.ctxOf pool' n).freeClk ≠ 0 → linger ≤ s.dev.time.clk →
      Runs (.managedLingerExpiry pool' n) s (fun t => t.dev.ctxOf pool' n = { s.dev.ctxOf pool' n with release := true } ∧ Only [] s t)) ∧
    (s.dev.ctxManaged pool' n = true →
      Runs .releaseMgd s (fun t => t.dev.ctxOf pool' n = { s.dev.ctxOf pool' n with releaseCmd := true } ∧ Only [] s t)) ∧
    (s.dev.ctxManaged pool' n = true → (s.dev.ctxOf pool' n).holders ≠ [] ∨ s.dev.time.clk < linger →
      Runs (.managedLingerExpiry pool' n) s (fun t => t = s)) ∧
    (s.dev.ctxManaged pool' n = false → Runs .releaseMgd s (fun t => t.dev.ctxOf pool' n = s.dev.ctxOf pool' n ∧ Only [] s t))

/-- R154, R166, R168, R170. -/
def Obligations.ContextAndSpectrumViews : Prop :=
  ∀ (s : State) (pool : Fin 4) (index : Fin 512) (x : Fin 2) (ffts : List (List Nat)) (k : Fin 16384) (i : Fin 32),
    let n := min index.val (poolSize pool - 1)
    let c := s.dev.ctxOf pool n
    let off := s.dev.ctxState pool n = 0 ∧ c.managed = false
    let khz := if off then (if pool = 2 then dbeCentre n else s.dev.pinFreq pool n) else if pool = 2 then dbeCentre c.freq else c.freq
    let sc := s.dev.scnOf x
    let nf := s.dev.fget R.SCN_CFG_NFFT
    let period := msCycles (100 * s.dev.fget R.SCN_PERIOD_PERIOD)
    let place (i : Nat) := (sc.start + i * period / nf - s.dev.time.smpClk) * 5 / 16
    let kept := (ffts.take nf).zipIdx.filter (fun f => !sc.blanked (place f.2))
    let ovl := kept.any (fun f => sc.overloaded (place f.2))
    let cnt := ofInput x R.SCN_CNT_A_COUNT R.SCN_CNT_B_COUNT
    let scanning := s.dev.fbit (ofInput x R.SCN_CFG_EN_A R.SCN_CFG_EN_B) = true ∧ s.dev.fget R.AFE_STAT_SAMPLING x = 1 ∧
      s.dev.domOn 4 = true ∧ s.dev.splStopped = false ∧ sc.start + period ≤ s.dev.time.clk
    Runs (.viewLatch pool index) s (fun t =>
      Wrote s t R.CHN_VIEW_FREQ_FREQ 0 khz ∧ t.dev.fget R.CHN_VIEW_SEL_POOL = pool.val ∧ t.dev.fget R.CHN_VIEW_SEL_INDEX = n ∧
      t.dev.fget R.CHN_VIEW_FHI_FREQ_HI = khz / 65536 % 4 ∧ t.dev.fget R.CHN_VIEW_CTL_STATE = s.dev.ctxState pool n ∧
      t.dev.fget R.CHN_VIEW_CTL_MANAGED = b2n c.managed ∧ t.dev.fget R.CHN_VIEW_CTL_SRC = (if off then s.dev.pinSrc pool n else c.src) % 4 ∧
      t.dev.fget R.CHN_VIEW_CTL_PRIO = s.dev.ctxPrio pool n % 4 ∧ t.dev.fget R.CHN_VIEW_CTL_HELD = b2n (!c.holders.isEmpty) ∧
      Only [R.CHN_VIEW_SEL.at 0, R.CHN_VIEW_FREQ.at 0, R.CHN_VIEW_CTL.at 0, R.CHN_VIEW_FHI.at 0] s t) ∧
    (scanning →
      Runs (.spectrumComplete x ffts) s (fun t =>
        t.dev.scnBin x k = (if kept = [] then 0xB1E0#16 else s.dev.scnLevel x (kept.map (fun f => f.1.getD k 0))) ∧
        t.reg ((ofInput x R.SCN_STAT_A R.SCN_STAT_B).at 0) =
          BitVec.ofNat 16 (0x8000 + (if kept = [] then 0x4000 else if ovl = true then 0x2000 else 0) + kept.length) ∧
        (t.dev.scnOf x).start = sc.start + period ∧
        t.dev.fget cnt = (s.dev.fget cnt + 1) % 65536 ∧
        t.reg (R.SCN_EVT.at 0) = s.reg (R.SCN_EVT.at 0) ||| (if x = 0 then 1 else 2) |||
          (if ovl = true then (if x = 0 then 4 else 8) else 0) ∧
        Only [(ofInput x R.SCN_STAT_A R.SCN_STAT_B).at 0, cnt.at 0, R.SCN_EVT.at 0] s t)) ∧
    Runs (.scnWindowLatch x index) s (fun t =>
      t.dev.fget R.SCN_WIN_SEL_INPUT = x.val ∧ t.dev.fget R.SCN_WIN_SEL_PAGE = index.val ∧
      Wrote s t R.SCN_WIN_SEQ_SEQ 0 (s.dev.fget cnt) ∧ t.reg (R.SCN_WIN.at i) = s.dev.scnBin x (index.val * 32 + i.val) ∧
      Only ([R.SCN_WIN_SEL.at 0, R.SCN_WIN_SEQ.at 0] ++ (List.range 32).map (fun j => R.SCN_WIN.at j)) s t)

/-- R335, R336, R350 to R352. -/
def Obligations.PacketsAreStoredOrDropped : Prop :=
  ∀ (s : State) (p : PktReq) (rest : List PktReq),
    takeFirst s.dev.fsp.formed = some (p, rest) →
    let payload := p.body.payload
    let k := streamKey p.cls p.stream
    let seq := smGet (fun _ => 0) s.dev.fsp.seq k
    let within := s.dev.genUsed + p.len + 2 ≤ s.dev.fget R.FSP_WM_WM (p.cls - 1) * 256
    let res := min 2 (resBlocksAll - s.dev.resUsed)
    let room := 2 - res ≤ genBlocksAll - s.dev.genUsed
    let fill := [R.FSP_FILL.at 0, R.FSP_FILL_PEAK.at 0, R.FSP_C0_FILL.at 0, R.FSP_STAT.at 0]
    (1 ≤ p.cls → p.cls ≤ 6 → within →
      Runs .packetFormed s (fun t =>
        t.dev.fsp.stored = s.dev.fsp.stored ++ [⟨p.cls, p.stream, seq, p.time, smGet (fun _ => false) s.dev.fsp.dropMark k, p.mark, p.len,
          fitUnits p.len payload, 0, p.len + 2, false⟩] ∧
        smGet (fun _ => 0) t.dev.fsp.seq k = (seq + 1) % 65536 ∧ smGet (fun _ => false) t.dev.fsp.dropMark k = false ∧
        t.dev.fsp.formed = rest ∧ Only fill s t)) ∧
    (1 ≤ p.cls → p.cls ≤ 6 → ¬ within →
      Runs .packetFormed s (fun t =>
        t.dev.fsp.stored = s.dev.fsp.stored ∧ smGet (fun _ => 0) t.dev.fsp.seq k = (seq + 1) % 65536 ∧
        smGet (fun _ => false) t.dev.fsp.dropMark k = true ∧
        smGet (fun _ => 0) t.dev.fsp.drops k = (smGet (fun _ => 0) s.dev.fsp.drops k + 1) % 2 ^ 32 ∧
        Counted s t R.FSP_DROP_CLS_COUNT (p.cls - 1) ∧ Raised s t R.FSP_EVT_DROP ∧
        Only [R.FSP_DROP_CLS.at (p.cls - 1), R.FSP_EVT.at 0] s t)) ∧
    (p.cls = 0 → s.dev.fsp.deferred = 0 → room →
      Runs .packetFormed s (fun t =>
        t.dev.fsp.stored = s.dev.fsp.stored ++ [⟨0, 0, smGet (fun _ => 0) s.dev.fsp.seq 0, p.time,
          smGet (fun _ => false) s.dev.fsp.dropMark 0, false, 0, fitUnits 0 payload, res, 2 - res, false⟩] ∧ Only fill s t)) ∧
    (p.cls = 0 → ¬ room →
      Runs .packetFormed s (fun t =>
        t.dev.fsp.stored = s.dev.fsp.stored ∧ t.dev.fsp.deferred = s.dev.fsp.deferred + 1 ∧ Counted s t R.FSP_C0_DEFER_COUNT 0 ∧
        Raised s t R.FSP_EVT_C0_DEFER ∧ Only [R.FSP_C0_DEFER.at 0, R.FSP_EVT.at 0] s t))

/-- R329, R331, R348, R352, R354 to R357, R569. The length of a stop is rounded to whole ms, ties down (R9). -/
def Obligations.FersonPortOnTheWire : Prop :=
  ∀ (s : State) (p : Packet) (w : Nat),
    let i := nextIdx s.dev.fsp.head s.dev.fsp.stored
    let live := s.dev.fget R.FSP_STAT_RUN = 1 ∧ s.dev.fget R.FSP_STAT_STOPPED = 0 ∧ s.dev.splStopped = false ∧
      s.dev.fsp.wire.length + 2 ≤ s.dev.fspOut
    let out := s.dev.fspOut
    let begun := s.dev.fspBegun
    let bytes := s.dev.fsp.wire.length
    let cut := if s.dev.fsp.transit.isSome = true ∧ bytes ≤ out then [] else (s.dev.fsp.transit.map (fun q => { q with poisoned := false })).toList
    let room := 2 ≤ (resBlocksAll - s.dev.resUsed) + (genBlocksAll - s.dev.genUsed)
    let fill := [R.FSP_FILL.at 0, R.FSP_FILL_PEAK.at 0, R.FSP_C0_FILL.at 0, R.FSP_STAT.at 0]
    let old := s.reg (R.FSP_STAT.at 0)
    let len := s.dev.time.clk - s.dev.fsp.stopClk
    let up := s.dev.fget R.FSP_STAT_RUN = 1 ∧ s.dev.fget R.FSP_STAT_STOPPED = 1 ∧ s.dev.splStopped = false ∧ s.dev.domOn 4 = true
    let long := s.dev.fget R.FSP_STALL_TH_TH * 294912 ≤ len
    (live → s.dev.fget R.FSP_CFG_EN = 1 → s.dev.fsp.stored[i]? = some p →
      Runs (.packetBoundary 0 w) s (fun t => t.dev.fsp.transit = some p ∧ t.dev.fsp.wire = p.wire ∧
        t.dev.fsp.stored = s.dev.fsp.stored.eraseIdx i ∧ (s.dev.fsp.head = 0 → p.cls = 0 ∨ ∀ q ∈ s.dev.fsp.stored, q.cls ≠ 0) ∧
        (s.dev.fsp.head ≠ 0 → s.dev.fsp.stored.head? = some p) ∧ t.dev.fsp.head = s.dev.fsp.head - 1 ∧
        t.dev.fsp.sent = (if s.dev.fsp.transit = none then s.dev.fsp.sent else (s.dev.fsp.sent + 1) % 2 ^ 32) ∧ Only fill s t)) ∧
    (live → s.dev.fget R.FSP_CFG_EN = 1 → s.dev.fsp.stored[i]? = some p →
      Runs (.packetBoundary 1 w) s (fun t => t.dev.fsp.transit = some p ∧ Counted s t R.MON_ECC_CORR_COUNT 0 ∧
        Only (R.MON_ECC_CORR.at 0 :: fill) s t)) ∧
    (live → s.dev.fget R.FSP_CFG_EN = 1 → s.dev.fsp.stored[i]? = some p →
      Runs (.packetBoundary 2 w) s (fun t => t.dev.fsp.transit = some { p with poisoned := true } ∧
        t.dev.fsp.wire = Packet.wire { p with poisoned := true } ∧ Counted s t R.FSP_POISON_COUNT 0 ∧ Raised s t R.FSP_EVT_ECC ∧
        Counted s t R.MON_ECC_UNC_COUNT 0 ∧ Raised s t R.MON_EVT_UNCORR ∧
        Only ([R.FSP_POISON.at 0, R.FSP_EVT.at 0, R.MON_ECC_UNC.at 0, R.MON_EVT.at 0, R.MON_SEQ_HI.at 0] ++ fill) s t)) ∧
    (live → s.dev.fget R.FSP_CFG_EN = 1 → s.dev.fsp.stored = [] →
      Runs (.packetBoundary 0 w) s (fun t => t.dev.fsp.transit = none ∧ t.dev.fsp.wire = [] ∧ Only fill s t)) ∧
    (s.dev.fget R.FSP_STAT_RUN = 1 → s.dev.fget R.FSP_CFG_EN = 1 →
      Runs .fspRdyFall s (fun t => t.reg (R.FSP_STAT.at 0) = putBits (putBits old 13 13 0) 14 14 1 ∧ Only [R.FSP_STAT.at 0] s t)) ∧
    (s.dev.fget R.FSP_STAT_RUN = 1 → s.dev.fget R.FSP_STAT_STOPPED = 0 → s.dev.fget R.FSP_CFG_EN = 1 →
      Runs .fspRdyFall s (fun t => begun ≤ t.dev.fsp.pos ∧ (begun < bytes → t.dev.fsp.pos < begun + 64 ∧ (t.dev.fsp.pos % 64 = 0 ∨ t.dev.fsp.pos = bytes)) ∧
        (bytes ≤ begun → t.dev.fsp.pos = begun))) ∧
    (s.dev.fget R.FSP_STAT_RUN = 1 → s.dev.fget R.FSP_CFG_EN ≠ 1 →
      Runs .fspRdyFall s (fun t => t.dev.fget R.FSP_STAT_RUN = 0 ∧ t.dev.fget R.FSP_STAT_STOPPED = 0 ∧ t.dev.fget R.FSP_STAT_RDY = 0 ∧
        t.dev.fsp.stored = [] ∧ t.dev.fsp.formed = [] ∧ t.dev.fsp.transit = none)) ∧
    (live → s.dev.fget R.FSP_CFG_EN = 1 → s.dev.fsp.stored[i]? = some p →
      Runs (.packetBoundary 0 w) s (fun t => t.dev.fsp.pos = 0 ∧ t.dev.fsp.runClk = s.dev.time.clk ∧ t.dev.fsp.divNow = s.dev.fget R.FSP_CFG_DIV)) ∧
    (s.dev.fget R.FSP_STAT_STOPPED = 1 ∨ s.dev.splStopped = true ∨ out < bytes + 2 → Runs (.packetBoundary 0 w) s (fun t => t = s)) ∧
    (s.dev.fget R.FSP_STAT_RUN = 0 → Runs .fspRdyFall s (fun t => Wrote s t R.FSP_STAT_RDY 0 0 ∧ Only [R.FSP_STAT.at 0] s t)) ∧
    (up → ¬ long →
      Runs .fspRdyRise s (fun t => t.dev.fsp.divNow = s.dev.fget R.FSP_CFG_DIV ∧ t.reg (R.FSP_STAT.at 0) = putBits (putBits old 13 13 1) 14 14 0 ∧ Only [R.FSP_STAT.at 0] s t)) ∧
    (up → long →
      Runs .fspRdyRise s (fun t => t.reg (R.FSP_STAT.at 0) = putBits (putBits old 13 13 1) 14 14 0 ∧
        Counted s t R.FSP_STALLS_COUNT 0 ∧ Raised s t R.FSP_EVT_STALL ∧
        Wrote s t R.FSP_STALL_MAX_COUNT 0 (max (s.dev.fget R.FSP_STALL_MAX_COUNT) (min (divNear len 294912) 65535)) ∧
        Only [R.FSP_STAT.at 0, R.FSP_STALLS.at 0, R.FSP_STALL_MAX.at 0, R.FSP_EVT.at 0] s t)) ∧
    (s.dev.fget R.FSP_STAT_RUN = 1 → s.dev.fsp.deferred = 0 → room →
      Runs .fspPortRestart s (fun t =>
        (t.dev.fsp.stored.head?.map (fun q => (q.cls, q.payload.take 3))) = some (0, [5, 0, 1]) ∧
        t.dev.fsp.stored.tail = cut ++ s.dev.fsp.stored ∧ t.dev.fsp.head = 1 + cut.length ∧
        t.dev.fsp.transit = none ∧ Raised s t R.FSP_EVT_RESTART ∧ Only (R.FSP_EVT.at 0 :: fill) s t)) ∧
    (s.dev.fget R.FSP_STAT_RUN = 1 → ¬ (s.dev.fsp.transit.isSome = true ∧ bytes ≤ out) → ¬ room →
      Runs .fspPortRestart s (fun t => t.dev.fsp.stored = cut ++ s.dev.fsp.stored ∧ t.dev.fsp.deferred = s.dev.fsp.deferred + 1 ∧
        t.dev.fsp.transit = none ∧ Counted s t R.FSP_C0_DEFER_COUNT 0 ∧ t.reg (R.FSP_EVT.at 0) = s.reg (R.FSP_EVT.at 0) ||| 2 ^ R.FSP_EVT_RESTART.lo ||| 2 ^ R.FSP_EVT_C0_DEFER.lo ∧
        Only ([R.FSP_EVT.at 0, R.FSP_C0_DEFER.at 0] ++ fill) s t)) ∧
    (s.dev.fget R.FSP_STAT_RUN = 0 → Runs .fspPortRestart s (fun t => t = s))

/-- The command FSP_CMD.CLR_CNT, R337, R350, and the class 0 table of chapter 10. -/
def Obligations.FersonCountersAndHeartbeat : Prop :=
  ∀ (s : State) (cls : Fin 16) (stream : Fin 4096) (i : Nat),
    let c := clampNat 1 6 cls
    let n := if streamExists c stream then smGet (fun _ => 0) s.dev.fsp.drops (streamKey c stream) else 0
    let ctrs := [0x05A2, 0x05A4, 0x05A5, 0x05A6, 0x05A7, 0x05A8, 0x05A9, 0x05AA, 0x05AB, 0x05AC, 0x05AD, 0x05AE, 0x05AF, 0x05B1, 0x05B2]
    Runs .fspClrCnt s (fun t => (i ∈ ctrs → t.reg i = 0) ∧ t.dev.fsp.drops = [] ∧ t.dev.fsp.sent = 0 ∧ Only ctrs s t) ∧
    Runs (.fspDropLatch cls stream) s (fun t =>
      t.dev.fget R.FSP_DROP_SEL_CLASS = c ∧ t.dev.fget R.FSP_DROP_SEL_STREAM = stream.val ∧
      Wrote s t R.FSP_DROP_HI_COUNT 0 (n / 65536) ∧ Wrote s t R.FSP_DROP_LO_COUNT 0 (n % 65536) ∧
      Only [R.FSP_DROP_SEL.at 0, R.FSP_DROP_HI.at 0, R.FSP_DROP_LO.at 0] s t) ∧
    (s.dev.fget R.FSP_STAT_RUN = 1 → s.dev.fget R.FSP_SRC_HB ≠ 0 → s.dev.time.sec % s.dev.fget R.FSP_SRC_HB = 0 →
      s.dev.fsp.beat ≠ s.dev.time.sec + 1 → Runs .heartbeat s (fun t => t.dev.fsp.formed = s.dev.fsp.formed ++ [⟨s.dev.time.clk, 0, 0, s.dev.time.stamp, false, 0,
          .bytes ([6, 0] ++ beWord s.dev.sysEvt ++ beWord s.dev.sysEvt2 ++ beWord (s.dev.fget R.SYS_EPOCH_NUM) ++
            beWord (s.dev.fget R.FSP_FILL_KIB) ++ beWord (s.dev.fget R.FSP_C0_FILL_KIB) ++ be32 s.dev.fsp.dropAll)⟩] ∧ Only [] s t)) ∧
    (s.dev.inReset = false ∧ s.dev.chainHeld = false ∧ s.dev.bus.dead = false → Runs .fspSentCapture s (fun t => Wrote s t R.FSP_SENT_LO_COUNT 0 (s.dev.fsp.sent % 65536) ∧ Only [R.FSP_SENT_LO.at 0, R.FSP_SENT_HI.at 0, R.HIF_INB_DEFER.at 0] s t))

/-- R189, R190, R193, R194, R196, for one context n among all. -/
def Obligations.FmStatistics : Prop :=
  ∀ (s : State) (n : Fin 256),
    let f := s.dev.fmOf n
    let g := s.dev.grid
    let v := min (divNear f.devPeak 100) 2000
    let lim := s.dev.fget R.CHN_FM_LIM_DEV
    let bin := min (v / 50) 29
    let dev := (List.range 256).map (fun k => R.FMC_DEV.at k)
    let shifted (x : Option Nat) := let l := (x :: f.devLast).take 20; if l.all (·.isNone) = true then [] else l
    let cleared (t : State) := (t.dev.fmOf n).bins = [] ∧ (t.dev.fmOf n).count = 0 ∧ (t.dev.fmOf n).peak = none ∧ (t.dev.fmOf n).elapsed = 0 ∧ (t.dev.fmOf n).excluded = 0
    (g.dev = true → 50 ≤ f.devN →
      Runs .deviationInterval s (fun t =>
        (t.dev.fmOf n).devPeak = 0 ∧ (t.dev.fmOf n).devN = 0 ∧ (t.dev.fmOf n).devLast = shifted (some v) ∧
        (t.dev.fmOf n).count = f.count + 1 ∧ (t.dev.fmOf n).peak = some (max (f.peak.getD 0) v) ∧
        smGet (fun _ => 0) (t.dev.fmOf n).bins bin = smGet (fun _ => 0) f.bins bin + 1 ∧
        (t.dev.fmOf n).hist = f.hist ∧ (t.dev.fmOf n).periods = f.periods ∧ t.dev.grid = { g with dev := false } ∧
        (lim ≠ 0 → lim * 10 < v → f.devSec ≠ s.dev.time.sec + 1 →
          (t.dev.fmOf n).flags = f.flags ||| 4 ∧ t.dev.fget R.CHN_EVT_DEV = 1) ∧
        (lim = 0 → (t.dev.fmOf n).flags = f.flags) ∧ Only (R.CHN_EVT.at 0 :: dev) s t)) ∧
    (g.dev = true → f.devN < 50 → (s.dev.ctxState 0 n = 0 → f.devLast = [] → f.devN ≠ 0) →
      Runs .deviationInterval s (fun t =>
        (t.dev.fmOf n).devPeak = 0 ∧ (t.dev.fmOf n).devN = 0 ∧ (t.dev.fmOf n).devLast = shifted none ∧
        (t.dev.fmOf n).count = f.count ∧ (t.dev.fmOf n).bins = f.bins ∧ (t.dev.fmOf n).flags = f.flags ∧
        Only (R.CHN_EVT.at 0 :: dev) s t)) ∧
    (g.dev = true → s.dev.ctxState 0 n = 0 → f.devLast = [] → f.devN = 0 →
      Runs .deviationInterval s (fun t => t.dev.fmOf n = f ∧ Only (R.CHN_EVT.at 0 :: dev) s t)) ∧
    (g.dev = false → Runs .deviationInterval s (fun t => t = s)) ∧
    (g.period = true → s.dev.ctxState 0 n = 3 →
      Runs .measurementPeriodEnd s (fun t =>
        (t.dev.fmOf n).hist = (List.range 30).map (fun i => if f.count = 0 then 0x8000
          else divNear (smGet (fun _ => 0) f.bins i * 65535) f.count) ∧
        (t.dev.fmOf n).lastPeak = f.peak ∧ (t.dev.fmOf n).lastN = f.count ∧ (t.dev.fmOf n).periods = (f.periods + 1) % 65536 ∧
        (t.dev.fmOf n).flags = f.flags ||| 16 ∧ cleared t ∧
        t.dev.fget R.CHN_EVT_PERIOD = 1 ∧ Only [R.CHN_EVT.at 0] s t)) ∧
    (g.period = true → g.clr = false → s.dev.ctxState 0 n ≠ 3 → s.dev.ctxState 0 n ≠ 0 →
      Runs .measurementPeriodEnd s (fun t =>
        (t.dev.fmOf n).hist = f.hist ∧ (t.dev.fmOf n).periods = f.periods ∧ (t.dev.fmOf n).flags = f.flags ∧
        cleared t ∧ Only [R.CHN_EVT.at 0] s t)) ∧
    (g.period = true → g.clr = true → s.dev.ctxState 0 n = 0 →
      Runs .measurementPeriodEnd s (fun t =>
        cleared t ∧ (t.dev.fmOf n).mpxHist = [] ∧ (t.dev.fmOf n).mpxMax = none ∧ t.dev.grid.clr = false ∧
        (t.dev.fmOf n).hist = f.hist ∧ (t.dev.fmOf n).lastPeak = f.lastPeak ∧ (t.dev.fmOf n).periods = f.periods ∧ Only [R.CHN_EVT.at 0] s t)) ∧
    (g.period = false → Runs .measurementPeriodEnd s (fun t => t = s)) ∧
    Runs .clrAcc s (fun t => t.dev.grid = { g with clr := true } ∧ t.dev.fm = s.dev.fm ∧ Only [] s t)

/-- R197, R211. -/
def Obligations.MeasurementWindowAndFlags : Prop :=
  ∀ (s : State) (pool : Fin 2) (page : Fin 8) (index : Fin 512) (i : Fin 30) (bits : Byte),
    let n := min index.val (poolSize pool - 1)
    let m := s.dev.fget R.CHN_FLAG_CTX_INDEX
    Runs (.measWindowLatch pool page index) s (fun t =>
      t.dev.fget R.CHN_MEAS_SEL_POOL = pool.val ∧ t.dev.fget R.CHN_MEAS_SEL_PAGE = page.val ∧ t.dev.fget R.CHN_MEAS_SEL_INDEX = n ∧
      t.dev.fget R.CHN_MEAS_HDR_STATE = s.dev.ctxState pool n ∧
      t.dev.fget R.CHN_MEAS_HDR_VALID = (if s.dev.ctxState pool n = 3 then 1 else 0) ∧
      t.reg (R.CHN_MEAS.at i) = BitVec.ofNat 16 (s.dev.measEntry pool page n i) ∧ (1 < page.val → t.reg (R.CHN_MEAS.at i) = 0x8000#16) ∧
      Only ([R.CHN_MEAS_SEL.at 0, R.CHN_MEAS_HDR.at 0] ++ (List.range 30).map (fun k => R.CHN_MEAS.at k)) s t) ∧
    (s.dev.fget R.CHN_FLAG_CTX_POOL = 0 →
      Runs (.chnFlagClear bits) s (fun t =>
        t.dev.fmOf m = { s.dev.fmOf m with flags := (s.dev.fmOf m).flags - ((s.dev.fmOf m).flags &&& bits.toNat) } ∧ Only [] s t)) ∧
    (s.dev.fget R.CHN_FLAG_CTX_POOL ≠ 0 →
      Runs (.chnFlagClear bits) s (fun t =>
        t.dev.amOf m = { s.dev.amOf m with flags := (s.dev.amOf m).flags - ((s.dev.amOf m).flags &&& bits.toNat) } ∧ Only [] s t))

/-- R214 to R216, R219, R224. A block with offset E in RBDS mode is passed over (R217). -/
def Obligations.RdsBlocks : Prop :=
  ∀ (s : State) (n : Fin 256) (word : BitVec 16) (off : RdsOffset) (burst : Option Nat) (bits : Nat) (raw : BitVec 16),
    s.dev.rdsRuns n = true →
    let r := s.dev.rdsOf n
    let c := s.dev.rdsClass r.pos off burst
    let blk : RdsBlk := ⟨if c = 3 then raw.toNat else word.toNat, c, r.pos == 2 && off == .c' && c != 3⟩
    let synced := s.dev.fget R.RDS_STAT_SYNC n = 1 ∧ (off ≠ .e ∨ burst ≠ some 0 ∨ s.dev.rdsRbds n = false)
    let lost := s.dev.fget R.CHN_RDS_CFG_LOSS ≤ ((((c == 3) :: r.last50).take 50).filter id).length
    let isPi := c ≠ 3 ∧ (r.pos = 0 ∨ (r.pos = 2 ∧ off = .c'))
    let own := [R.RDS_STAT.at n, R.RDS_PI.at n, R.RDS_QUAL.at n, R.RDS_PS0.at n, R.RDS_PS1.at n, R.RDS_PS2.at n, R.RDS_PS3.at n,
      R.CHN_RDS_EVT.at 0]
    (synced → ¬ lost → r.pos ≠ 3 →
      Runs (.rdsBlock n ⟨word, raw⟩ off burst bits) s (fun t =>
        (t.dev.rdsOf n).blks = r.blks.set r.pos blk ∧ (t.dev.rdsOf n).pos = r.pos + 1 ∧
        smGet (fun _ => 0) (t.dev.rdsOf n).counts 0 = (smGet (fun _ => 0) r.counts 0 + 1) % 2 ^ 32 ∧
        t.dev.fget R.RDS_STAT_SYNC n = 1 ∧ Only own s t)) ∧
    (synced → ¬ lost → r.pos = 3 →
      Runs (.rdsBlock n ⟨word, raw⟩ off burst bits) s (fun t =>
        ((t.dev.rdsOf n).ready.map (fun g => g.1.blks)) = some (r.blks.set 3 blk) ∧ (t.dev.rdsOf n).pos = 0 ∧ Only own s t)) ∧
    (synced → isPi → r.piCand = some word.toNat →
      Runs (.rdsBlock n ⟨word, raw⟩ off burst bits) s (fun t => t.reg (R.RDS_PI.at n) = word ∧ t.dev.fget R.RDS_STAT_PI_CONF n = 1 ∧ Only own s t)) ∧
    (synced → isPi → r.piCand ≠ some word.toNat →
      Runs (.rdsBlock n ⟨word, raw⟩ off burst bits) s (fun t => (t.dev.rdsOf n).piCand = some word.toNat ∧
        t.reg (R.RDS_PI.at n) = s.reg (R.RDS_PI.at n) ∧ Only own s t)) ∧
    (synced → lost → Runs (.rdsBlock n ⟨word, raw⟩ off burst bits) s (fun t => t.dev.fget R.RDS_STAT_SYNC n = 0 ∧
      bitAt (t.reg (R.CHN_RDS_EVT.at 0)).toNat 0 = true ∧ Only own s t)) ∧
    (s.dev.fget R.RDS_STAT_SYNC n = 0 → off = .b → burst = some 0 → r.seen = [] →
      Runs (.rdsBlock n ⟨word, raw⟩ off burst bits) s (fun t => (t.dev.rdsOf n).seen = [(0, some 1, ⟨word.toNat, 0, false⟩, s.dev.rdsBlanked 26)] ∧
        t.dev.fget R.RDS_STAT_SYNC n = 0 ∧ Only own s t)) ∧
    (s.dev.fget R.RDS_STAT_SYNC n = 0 → off = .b → burst = some 0 → bits = 26 → (r.seen.map (fun e => (e.1, e.2.1))) = [(0, some 0)] →
      Runs (.rdsBlock n ⟨word, raw⟩ off burst bits) s (fun t => t.dev.fget R.RDS_STAT_SYNC n = 1 ∧ (t.dev.rdsOf n).pos = 2 ∧
        ((t.dev.rdsOf n).blks[1]?) = some ⟨word.toNat, 0, false⟩ ∧ bitAt (t.reg (R.CHN_RDS_EVT.at 0)).toNat 0 = true ∧ Only own s t))

/-- R218, R220, R227, R236. -/
def Obligations.RdsGroups : Prop :=
  (∀ (s : State) (n : Fin 256) (g : RdsGrp) (straddle : Bool) (rest : List RdsGrp) (index : Fin 512),
      let r := s.dev.rdsOf n
      let b := (g.blks.getD 1 {}).word
      let c := (g.blks.getD 2 {}).word
      let w := (g.blks.getD 3 {}).word
      let formed := g.blks.all (fun k => k.cls == 3) = false
      let use := s.dev.rdsUse (g.blks.getD 1 {}) = true
      let m := min index.val 255
      let own := [R.RDS_STAT.at n, R.RDS_QUAL.at n, R.RDS_PS0.at n, R.RDS_PS1.at n, R.RDS_PS2.at n, R.RDS_PS3.at n, R.CHN_RDS_EVT.at 0]
      (r.ready = some (g, straddle) → ¬ formed →
        Runs (.rdsGroup n) s (fun t => (t.dev.rdsOf n).ready = none ∧ (t.dev.rdsOf n).ring = r.ring ∧ Only [] s t)) ∧
      (r.ready = some (g, straddle) → formed → r.ring.length < 16 →
        Runs (.rdsGroup n) s (fun t => (t.dev.rdsOf n).ready = none ∧ (t.dev.rdsOf n).ring = r.ring ++ [g] ∧
          t.dev.fget R.RDS_QUAL_UNREAD n = r.ring.length + 1 ∧
          t.dev.fget R.RDS_STAT_PTY n = (if use ∧ r.ptyLast = some (field b 9 5) then field b 9 5 else s.dev.fget R.RDS_STAT_PTY n) ∧
          t.dev.fget R.RDS_STAT_TP n = (if use ∧ r.tpLast = some (bitAt b 10) then field b 10 10 else s.dev.fget R.RDS_STAT_TP n) ∧
          Only own s t)) ∧
      (r.ready = some (g, straddle) → formed → r.ring.length = 16 →
        Runs (.rdsGroup n) s (fun t => (t.dev.rdsOf n).ring = r.ring.drop 1 ++ [g] ∧ bitAt (t.reg (R.CHN_RDS_EVT.at 0)).toNat 7 = true ∧ Only own s t)) ∧
      (r.ready = some (g, straddle) → use → (g.blks.drop 1).all (fun k => k.cls == 0) = true → g.blks.length = 4 → field b 15 11 = 8 →
        field c 0 0 * 16 + field w 15 12 ≤ 23 → field w 11 6 ≤ 59 → field w 4 0 ≤ 28 →
        Runs (.rdsGroup n) s (fun t =>
          ((t.dev.rdsOf n).ct.map (fun k => (k.mjd, k.hour, k.minute, k.time))) =
            some (field b 1 0 * 32768 + field c 15 1, field c 0 0 * 16 + field w 15 12, field w 11 6, g.time) ∧
          bitAt (t.reg (R.CHN_RDS_EVT.at 0)).toNat 6 = true ∧ Only own s t)) ∧
      ((s.dev.rdsOf m).ring = g :: rest →
        Runs (.rdsGroupLatch index) s (fun t => (t.dev.rdsOf m).ring = rest ∧ t.dev.fget R.CHN_RDS_GSEL_INDEX = m ∧
          t.dev.fget R.RDS_QUAL_UNREAD m = rest.length % 32 ∧
          t.reg (R.CHN_RDS_GBLK.at 0) = BitVec.ofNat 16 (g.blks.getD 0 {}).word ∧ t.reg (R.CHN_RDS_GBLK.at 1) = BitVec.ofNat 16 b ∧
          t.reg (R.CHN_RDS_GBLK.at 2) = BitVec.ofNat 16 c ∧ t.reg (R.CHN_RDS_GBLK.at 3) = BitVec.ofNat 16 w ∧
          t.reg (R.CHN_RDS_GINF.at 0) = BitVec.ofNat 16 (0x8000 + b2n g.blanked * 0x4000 + b2n g.verB * 0x2000 + rest.length * 256 + g.classes) ∧
          Only ([R.CHN_RDS_GSEL.at 0, R.CHN_RDS_GINF.at 0, R.RDS_QUAL.at m] ++ (List.range 4).map (fun k => R.CHN_RDS_GBLK.at k)) s t)) ∧
      ((s.dev.rdsOf m).ring = [] →
        Runs (.rdsGroupLatch index) s (fun t => t.reg (R.CHN_RDS_GINF.at 0) = 0#16 ∧ t.dev.fget R.CHN_RDS_GSEL_INDEX = m ∧
          Only [R.CHN_RDS_GSEL.at 0, R.CHN_RDS_GINF.at 0] s t))) ∧
  (∀ (s : State) (n : Fin 256) (bits : Byte) (q : MbxReq),
      let m := s.dev.fget R.CHN_RDS_FCTX_INDEX
      let due := (s.dev.rdsOf n).piClk + msCycles (1000 * s.dev.fget R.CHN_RDS_CFG2_PI_HOLD) ≤ s.dev.time.clk
      (due → Runs (.piHoldExpiry n) s (fun t => Wrote s t R.RDS_STAT_PI_CONF n 0 ∧ Only [R.RDS_STAT.at n] s t)) ∧
      (¬ due → Runs (.piHoldExpiry n) s (fun t => t = s)) ∧
      Runs (.rdsFlagClear bits) s (fun t =>
        t.dev.rdsOf m = { s.dev.rdsOf m with flags := (s.dev.rdsOf m).flags - ((s.dev.rdsOf m).flags &&& bits.toNat) } ∧ Only [] s t) ∧
      (s.dev.mbxWork 0x40 = some q →
        Runs .rdsItemRead s (fun t =>
          t.dev.mbx.result = some (match s.dev.mbx.snap with | some p => (0, p) | none => (2, [])) ∧ Only [] s t)) ∧
      s.dev.mbxSnap 0x40 q.offset = s.dev.rdsItem q.offset ∧ (255 < q.offset % 65536 → s.dev.mbxSnap 0x40 q.offset = none) ∧
      (s.dev.inReset = false ∧ s.dev.chainHeld = false ∧ s.dev.bus.dead = false → Runs (.psFreeze n) s (fun t => (t.dev.rdsOf n).psFrozen = some (s.dev.fget R.RDS_PS1 n, s.dev.fget R.RDS_PS2 n, s.dev.fget R.RDS_PS3 n) ∧ Only [R.HIF_INB_DEFER.at 0] s t)) ∧
      (s.dev.inReset = false ∧ s.dev.chainHeld = false ∧ s.dev.bus.dead = false → Runs (.psRelease n) s (fun t => (t.dev.rdsOf n).psFrozen = none ∧ Only [R.HIF_INB_DEFER.at 0] s t)))

/-- R244, R248, R250, R251, R253, R255. That the moment is the null symbol ending the frame is log entry 21. -/
def Obligations.DabEnsemble : Prop :=
  ∀ (s : State) (n : Fin 41) (frame : DabFrame) (x : Nat) (f : Int) (data : List Byte) (figs : List Fig) (eid cif occ : Nat)
    (id start size prot rate i : Nat) (eep : Bool) (old : DbEnt DabSub),
    let e := s.dev.dbeOf n
    let sync := s.dev.dbeSync n
    let counts := [R.DAB_CU_USED.at 0, R.DAB_N_SUB.at 0, R.DAB_N_PCM.at 0, R.DAB_N_LOCK.at 0]
    let own := counts ++ [R.DBE_STAT.at n, R.DBE_EID.at n, R.DBE_FOFS.at n, R.DBE_SNR.at n, R.DBE_FIBQ.at n, R.DAB_EVT.at 0,
      R.DAB_SYNC_LOSS.at 0, R.DAB_DB_OVF.at 0] ++ (List.range 48).flatMap (fun m => [R.DSC_STAT.at m, R.DSC_QUAL.at m])
    s.dev.ctxState 2 n = 3 →
    (e.dateNew = none → sync = 0 → frame.dips = some x → ((x : Int) - 196608).natAbs ≤ 16 →
      Runs (.dabFrame n frame) s (fun t => Wrote s t R.DBE_STAT_SYNC n 1 ∧ Only [R.DBE_STAT.at n] s t)) ∧
    (e.dateNew = none → sync = 1 → frame.prs = some f → f.natAbs ≤ 25000 →
      Runs (.dabFrame n frame) s (fun t => Wrote s t R.DBE_STAT_SYNC n 2 ∧ Only [R.DBE_STAT.at n] s t)) ∧
    (e.dateNew = none → sync = 1 → frame.prs = none → 1 ≤ e.frames →
      Runs (.dabFrame n frame) s (fun t => Wrote s t R.DBE_STAT_SYNC n 0 ∧ Only (counts ++ [R.DBE_STAT.at n, R.DBE_FOFS.at n]) s t)) ∧
    (e.dateNew = none → sync = 3 → frame.null = true →
      Runs (.dabFrame n frame) s (fun t => (t.dev.dbeOf n).missed = 0 ∧ t.dev.dbeSync n = 3 ∧
        (frame.snr = some f → t.dev.fget R.DBE_SNR_VALUE n = unsgn 16 (clampInt 0 400 f)) ∧
        Only [R.DBE_FOFS.at n, R.DBE_SNR.at n, R.DBE_FIBQ.at n] s t)) ∧
    (e.dateNew = none → sync = 3 → frame.null = false → e.missed = 4 →
      Runs (.dabFrame n frame) s (fun t => t.dev.dbeSync n = 0 ∧ Counted s t R.DAB_SYNC_LOSS_COUNT ∧ t.dev.fget R.DBE_STAT_STALE n = 1 ∧
        (dbAll (t.dev.dbeOf n).subs).all (fun p => p.2.stale) = true ∧ (dbAll (t.dev.dbeOf n).svcs).all (fun p => p.2.stale) = true ∧
        bitAt (t.reg (R.DAB_EVT.at 0)).toNat 0 = true ∧ Only own s t)) ∧
    (sync = 2 → 5 ≤ ((e.last12.take 11).filter (· == true)).length →
      Runs (.fib n true data figs) s (fun t => t.dev.dbeSync n = 3 ∧ bitAt (t.reg (R.DAB_EVT.at 0)).toNat 0 = true ∧ Only own s t)) ∧
    (sync = 3 → e.failed < 124 →
      Runs (.fib n false data figs) s (fun t => (t.dev.dbeOf n).failed = e.failed + 1 ∧
        smGet (fun _ => 0) (t.dev.dbeOf n).counts 2 = (smGet (fun _ => 0) e.counts 2 + 1) % 2 ^ 32 ∧ Only [] s t)) ∧
    (sync = 3 → e.failed = 124 →
      Runs (.fib n false data figs) s (fun t => t.dev.dbeSync n = 0 ∧ Counted s t R.DAB_SYNC_LOSS_COUNT ∧ Only own s t)) ∧
    (2 ≤ sync →
      Runs (.fib n true data [.ensemble eid 0 cif occ]) s (fun t => t.reg (R.DBE_EID.at n) = BitVec.ofNat 16 eid ∧ (t.dev.dbeOf n).cif = cif ∧
        (t.dev.dbeOf n).sameEid = true ∧ (e.haveEid = true → s.dev.fget R.DBE_EID_EID n ≠ eid → (t.dev.dbeOf n).svcs = [] ∧ (t.dev.dbeOf n).subs = []) ∧
        Only own s t)) ∧
    (2 ≤ sync → dbFind id e.subs = some (i, old) →
      Runs (.fib n true data [.subch false id start size eep prot rate]) s (fun t =>
        smGet (fun _ => none) (t.dev.dbeOf n).subs i = some ⟨id, ⟨start, size, eep, prot, rate⟩, old.stale && !(decide (sync = 3) && e.sameEid), e.serial + 1⟩ ∧ Only own s t)) ∧
    (2 ≤ sync → dbFind id e.subs = none → ((List.range 64).filter (fun k => (smGet (fun _ => none) e.subs k).isNone)).head? = some i →
      Runs (.fib n true data [.subch false id start size eep prot rate]) s (fun t =>
        smGet (fun _ => none) (t.dev.dbeOf n).subs i = some ⟨id, ⟨start, size, eep, prot, rate⟩, false, e.serial + 1⟩ ∧
        t.dev.fget R.DBE_STAT_MCI n = 0 ∧ bitAt (t.reg (R.DAB_EVT.at 0)).toNat 2 = true ∧ Only own s t)) ∧
    (e.haveEid = true → (dbAll e.svcs).all (fun p => p.2.body.comps.all (fun c => (dbFind c.subch e.subs).isSome)) = true →
      Config.sysPerSecond ≤ s.dev.since e.newClk →
      Runs (.mciComplete n) s (fun t => Wrote s t R.DBE_STAT_MCI n 1 ∧ Only [R.DBE_STAT.at n] s t)) ∧
    (s.dev.since e.newClk < Config.sysPerSecond → Runs (.mciComplete n) s (fun t => t = s)) ∧
    (sync = 3 → e.sameEid = true → s.dev.fget R.DAB_CFG_AGE * Config.sysPerSecond ≤ s.dev.since e.lockClk →
      Runs (.dbAgeOut n) s (fun t => (t.dev.dbeOf n).anyStale = false ∧ t.dev.fget R.DBE_STAT_STALE n = 0 ∧
        (t.dev.dbeOf n).subs = dbKeep (fun x => !x.stale) e.subs ∧ (t.dev.dbeOf n).svcs = dbKeep (fun x => !x.stale) e.svcs ∧
        Only [R.DBE_STAT.at n, R.DBE_FIBQ.at n, R.DAB_EVT.at 0] s t))

/-- R259, R260, R262. -/
def Obligations.CifKeepsTheCapacity : Prop :=
  ∀ (s : State) (n : Fin 41) (count : Fin 5000) (frames : List DscFrame) (m : Fin 48) (v : DabSub),
    (s.dev.locked n = false → Runs (.cif n count frames) s (fun t => t = s)) ∧
    (s.dev.locked n = true → Runs (.cif n count frames) s (fun t => t.dev.cuUsed ≤ 3456 ∧ t.dev.fget R.DAB_CU_USED_COUNT = t.dev.cuUsed ∧
      (t.dev.dbeOf n).cif = count ∧ t.flash = s.flash ∧ t.lily = s.lily ∧ t.pending = s.pending)) ∧
    (s.dev.locked n = true → s.dev.fbit R.DBE_STAT_RECONF n = false → s.dev.dscOn n = [m.val] → s.dev.ctxEn 4 m = true →
      s.dev.ctxManaged 4 m = false → s.dev.dscState m = 2 → s.dev.fbit R.DSC_STAT_MIRROR m = false → s.dev.mirrored m = none →
      s.dev.dscTarget m = ((s.dev.dscOf m).block, (s.dev.dscOf m).subch) → s.dev.subOf (s.dev.dscTarget m).1 (s.dev.dscTarget m).2 = some v →
      (s.dev.dscOf m).sub = some v → s.dev.cuUsed ≤ 3456 → (s.dev.dscOf m).fill = 15 →
      Runs (.cif n count frames) s (fun t => t.dev.dscState m = 3 ∧ bitAt (t.reg (R.DAB_EVT.at 0)).toNat 8 = true))

/-- R268, R269, R271, R273, R276, R277. -/
def Obligations.DabAudioAndHostAccess : Prop :=
  ∀ (s : State) (n : Fin 48) (frame : AudioFrame) (q : Nat × Nat × Nat × Bool) (rest : List (Nat × Nat × Nat × Bool)) (bits : Byte) (r : MbxReq),
    let e := s.dev.dscOf n
    let up := s.dev.dscState n = 3 ∧ s.dev.fbit R.DSC_STAT_PCM n = true
    let k := s.dev.fget R.DAB_FLAG_CTX_INDEX
    let own := [R.DSC_STAT.at n, R.DSC_QUAL.at n, R.DAB_EVT.at 0]
    let mark := if frame.syncLost = true then 2 else if e.lost = true ∨ frame.units = [false] then 1 else if q.2.2.2 = true then 3 else 0
    let marks (t : State) := (t.dev.dscOf n).pend.map (·.mark) = e.pend.map (·.mark) ++ List.replicate 24 mark
    (¬ up → e.drain = 0 → Runs (.audioFrameDecode n frame) s (fun t => t = s)) ∧
    (¬ up → e.drain = 1 → s.dev.dscState n ≠ 3 → frame.low = false → frame.units = [true] → e.queue = [q] →
      Runs (.audioFrameDecode n frame) s (fun t => (t.dev.dscOf n).queue = [] ∧ (t.dev.dscOf n).drain = 0 ∧ marks t ∧ Only own s t)) ∧
    (up → e.drain = 0 → s.dev.fget R.DSC_STAT_CODING n ≠ 2 → frame.low = false → e.queue = q :: rest →
      Runs (.audioFrameDecode n frame) s (fun t => (t.dev.dscOf n).queue = rest ∧
        smGet (fun _ => 0) (t.dev.dscOf n).counts 2 = (smGet (fun _ => 0) e.counts 2 + ((frame.words.map (fun w => (w.map Fin.val).getD 0)).foldl (· + ·) 0)) % 2 ^ 32 ∧
        smGet (fun _ => 0) (t.dev.dscOf n).counts 3 = (smGet (fun _ => 0) e.counts 3 + (frame.words.filter (·.isNone)).length) % 2 ^ 32 ∧
        (frame.units = [true] ∨ frame.units = [false] → marks t) ∧
        (frame.units = [true] → e.lost = false → (t.dev.dscOf n).conceal = 0) ∧
        (frame.units = [false] → frame.syncLost = false →
          t.dev.fget R.DSC_STAT_CONCEAL n = 1 ∧ (t.dev.dscOf n).conceal = e.conceal + 1 ∧
          smGet (fun _ => 0) (t.dev.dscOf n).counts 5 = (smGet (fun _ => 0) e.counts 5 + 1) % 2 ^ 32) ∧
        (frame.pad = [.remove] → t.dev.fget R.DSC_STAT_DLS n = 0 ∧ (t.dev.dscOf n).dls = {}) ∧ Only own s t)) ∧
    (up → e.drain = 0 → s.dev.fget R.DSC_STAT_CODING n = 2 → e.sync = true → e.fails = 2 → frame.fire = false → frame.syncLost = false →
      e.build = [] → e.queue = q :: rest → q.1 % 5 = 0 → (rest.take 4).map (·.1) = [q.1 + 1, q.1 + 2, q.1 + 3, q.1 + 4] →
      (rest.drop 4).all (fun k => k.1 / 5 != q.1 / 5) = true →
      Runs (.audioFrameDecode n frame) s (fun t => (t.dev.dscOf n).sync = false ∧ (t.dev.dscOf n).queue = rest.drop 4 ∧
        smGet (fun _ => 0) (t.dev.dscOf n).counts 4 = (smGet (fun _ => 0) e.counts 4 + 1) % 2 ^ 32 ∧
        t.dev.fget R.DSC_STAT_CONCEAL n = 1 ∧ Only own s t)) ∧
    (s.dev.fget R.DAB_FLAG_CTX_POOL = 0 → Runs (.dabFlagClear bits) s (fun t =>
      t.dev.dbeOf k = { s.dev.dbeOf k with flags := (s.dev.dbeOf k).flags - ((s.dev.dbeOf k).flags &&& bits.toNat) } ∧ Only [] s t)) ∧
    (s.dev.fget R.DAB_FLAG_CTX_POOL ≠ 0 → Runs (.dabFlagClear bits) s (fun t =>
      t.dev.dscOf k = { s.dev.dscOf k with flags := (s.dev.dscOf k).flags - ((s.dev.dscOf k).flags &&& bits.toNat) } ∧ Only [] s t)) ∧
    (s.dev.mbxWork 0x50 = some r → Runs .dabDatabaseRead s (fun t =>
      t.dev.mbx.result = some (match s.dev.mbx.snap with | some p => (0, p) | none => (2, [])) ∧ Only [] s t)) ∧
    s.dev.mbxSnap 0x50 r.offset = s.dev.dabItem r.offset ∧
    (40 < r.offset % 65536 → r.offset / 16777216 % 256 ≠ 8 → r.offset / 16777216 % 256 ≠ 10 → s.dev.mbxSnap 0x50 r.offset = none)
/-- R286 to R296. -/
def Obligations.PrgScoresAndSwitches : Prop :=
  ∀ (s : State) (p i a : Nat) (t0 : Nat) (x : XfSt) (o : Nat),
    let d1 := s.dev.prgScore p
    let g := s.dev.prgOf p
    let score (k : Nat) := (d1.srcOf p k).score
    let hold := 10 * s.dev.fget R.PGT_SW_HOLD p
    let usable := (d1.scoring p).filter (fun k => decide (s.dev.fget R.PRG_USABLE_USABLE ≤ score k))
    let own := (List.range 128).flatMap (fun q => [R.PGT_STAT.at q, R.PGT_SCORE.at q]) ++
      [R.PRG_EVT.at 0, R.PRG_N_ALIGNED.at 0, R.PRG_PAGES_FREE.at 0, R.PRG_SWITCHES.at 0, R.PRG_UNALIGNED.at 0]
    let fix := s.dev.fget R.PGT_CTL_FIX p
    let due := s.dev.grid.score = true ∧ s.dev.domOn 4 = true ∧ s.dev.splStopped = false ∧ s.dev.inReset = false
    (¬ due → Runs .scoringInterval s (fun t => t = s)) ∧
    (due → s.dev.scoreBlank = false → p < 128 → g.on = true → i ∈ s.dev.srcIdx p →
      Runs .scoringInterval s (fun t => (t.dev.srcOf p i).score ≤ 1000 ∧ (t.dev.srcOf p i).n = 0 ∧ (t.dev.srcOf p i).missing = false ∧
        t.dev.scoreBlank = s.dev.blanking ∧ t.dev.grid.score = false ∧ Only own s t)) ∧
    (due → s.dev.scoreBlank = true → p < 128 → g.on = true → i ∈ s.dev.srcIdx p → s.dev.offAir p i = true →
      Runs .scoringInterval s (fun t => ((t.dev.srcOf p i).score = (if s.dev.srcShed p i then 0 else (s.dev.srcOf p i).score) ∨
        8 ≤ i ∧ t.dev.candOf p i = none) ∧ Only own s t)) ∧
    (due → s.dev.prgLive = [p] → g.xf = none → s.dev.policy p ≠ 2 → g.active = some a → score a = 0 → d1.forced p = some t0 →
      Runs .scoringInterval s (fun t => (t.dev.prgOf p).xf.map (fun x => (x.old, x.target, x.start)) = some (some a, t0, s.dev.time.clk) ∧
        t.dev.fget R.PGT_STAT_XFADE p = 1 ∧ t.dev.fget R.PGT_STAT_NOSRC p = 0)) ∧
    (due → s.dev.prgLive = [p] → g.xf = none → s.dev.policy p = 0 → g.active = some a → score a ≠ 0 → hold ≤ g.since → hold ≤ 2550 →
      d1.bestRank p usable = some t0 → t0 ≠ a → d1.srcRank p t0 < d1.srcRank p a → hold ≤ (d1.srcOf p t0).usable →
      Runs .scoringInterval s (fun t => (t.dev.prgOf p).xf.map (fun x => (x.old, x.target, x.start)) = some (some a, t0, s.dev.time.clk) ∧
        t.dev.fget R.PGT_STAT_XFADE p = 1)) ∧
    (due → s.dev.prgLive = [p] → g.xf = none → s.dev.policy p ≠ 2 → g.active = some a → score a ≠ 0 → g.since + 1 < hold →
      Runs .scoringInterval s (fun t => ((t.dev.prgOf p).xf = none ∨
          s.dev.fbit R.PRG_ALIGN_GROW = false ∧ (t.dev.prgOf p).xf.map (fun y => (y.old, y.target)) = some (some a, a)) ∧
        (t.dev.prgOf p).active = some a ∧ t.dev.fget R.PGT_STAT_NOSRC p = 0)) ∧
    (due → s.dev.prgLive = [p] → g.xf = none → s.dev.policy p ≠ 2 → d1.scoring p = [] → g.active = some a → score a = 0 →
      Runs .scoringInterval s (fun t => (t.dev.prgOf p).active = none ∧ t.dev.fget R.PGT_STAT_NOSRC p = 1 ∧ t.dev.fget R.PGT_SCORE_SCORE p = 0)) ∧
    (due → s.dev.prgLive = [p] → g.xf = none → s.dev.policy p = 2 → g.begun = true → g.active ≠ some fix → score fix = 0 →
      Runs .scoringInterval s (fun t => (t.dev.prgOf p).active = some fix ∧ (t.dev.prgOf p).switches = g.switches + 1 ∧ t.dev.fget R.PGT_STAT_ACTIVE p = fix % 16)) ∧
    (due → s.dev.prgLive = [p] → g.xf = some x → x.old = some o → score x.target = 0 → score o ≠ 0 → (s.dev.policy p = 2 → x.target ≠ fix) →
      Runs .scoringInterval s (fun t => (t.dev.prgOf p).xf.map (fun y => (y.old, y.target, y.reversed)) = some (some x.target, o, !x.reversed)))

/-- R296, R309, R310, R312. -/
def Obligations.PrgCrossfadeAndTrim : Prop :=
  ∀ (s : State) (n : Fin 128) (x : XfSt),
    let g := s.dev.prgOf n
    let rel := s.dev.fget R.PRG_XF_TRIM_REL
    let own := [R.PGT_STAT.at n, R.PRG_EVT.at 0, R.PRG_N_ALIGNED.at 0, R.PRG_PAGES_FREE.at 0]
    let runs := s.dev.domOn 4 = true ∧ s.dev.inReset = false
    let into (t : State) (a : Option Nat) := (t.dev.prgOf n).xf = none ∧ t.dev.fget R.PGT_STAT_XFADE n = 0 ∨
      s.dev.fbit R.PRG_ALIGN_GROW = false ∧ (t.dev.prgOf n).xf.map (fun y => (y.old, some y.target)) = some (a, a)
    (¬ runs → Runs (.crossfadeEnd n) s (fun t => t = s) ∧ Runs (.trimReleaseEnd n) s (fun t => t = s) ∧ Runs (.slewComplete n) s (fun t => t = s)) ∧
    (g.xf = some x → s.dev.since x.start < x.dur → Runs (.crossfadeEnd n) s (fun t => t = s)) ∧
    (g.xf = none → Runs (.crossfadeEnd n) s (fun t => t = s)) ∧
    (runs → g.xf = some x → x.dur ≤ s.dev.since x.start → x.reversed = false → x.kpOld = none →
      Runs (.crossfadeEnd n) s (fun t => (t.dev.prgOf n).active = some x.target ∧ into t (some x.target) ∧ (t.dev.prgOf n).since = 0 ∧
        (t.dev.prgOf n).switches = g.switches + 1 ∧ (t.dev.prgOf n).unaligned = g.unaligned + b2n (!x.aligned) ∧
        t.dev.fget R.PGT_STAT_ACTIVE n = x.target % 16 ∧ Counted s t R.PRG_SWITCHES_COUNT ∧
        (x.aligned = false → Counted s t R.PRG_UNALIGNED_COUNT) ∧ bitAt (t.reg (R.PRG_EVT.at 0)).toNat 0 = true ∧
        Only (own ++ [R.PRG_SWITCHES.at 0, R.PRG_UNALIGNED.at 0]) s t)) ∧
    (runs → g.xf = some x → x.dur ≤ s.dev.since x.start → (x.reversed = true ∨ x.kpOld ≠ none) →
      Runs (.crossfadeEnd n) s (fun t => into t g.active ∧ (t.dev.prgOf n).active = g.active ∧ (t.dev.prgOf n).switches = g.switches ∧
        (t.dev.prgOf n).since = g.since ∧ (t.dev.prgOf n).trim = x.trimOld ∧ (t.dev.prgOf n).trimClk = x.trimOldClk ∧ Only own s t)) ∧
    (runs → rel ≠ 0 → g.switching = false → rel * Config.sysPerSecond ≤ s.dev.since g.trimClk →
      Runs (.trimReleaseEnd n) s (fun t => (t.dev.prgOf n).trim = 0 ∧ t.dev.trimNow n = 0 ∧ Only [] s t)) ∧
    (s.dev.since g.trimClk < rel * Config.sysPerSecond → Runs (.trimReleaseEnd n) s (fun t => t = s)) ∧
    (runs → s.dev.fbit R.PGT_STAT_SLEW n = true → s.dev.kpNow n = g.kpTo →
      Runs (.slewComplete n) s (fun t => t.dev.fget R.PGT_STAT_SLEW n = 0 ∧ (t.dev.prgOf n).kp = g.kpTo ∧ Only own s t)) ∧
    (s.dev.fbit R.PGT_STAT_SLEW n = false → Runs (.slewComplete n) s (fun t => t = s))

/-- R303 to R308. -/
def Obligations.PrgAlignment : Prop :=
  ∀ (s : State) (n : Fin 128) (i : Fin 16) (lag x : Int),
    let c := s.dev.srcOf n i
    let started := c.est ≠ 0 ∧ 8 * Config.sysPerSecond ≤ s.dev.time.clk + 1 - c.est ∧
      (c.prevClk = 0 ∨ Config.sysPerSecond ≤ s.dev.time.clk + 1 - c.prevClk)
    let late := 30 * Config.sysPerSecond ≤ s.dev.time.clk + 1 - c.est
    let found := s.dev.coarseFound n i
    let fine := s.dev.fineLag n i (c.lag.getD 0)
    let held := max (s.dev.kpWant n) (48 * lag + s.dev.pMin n i) - 48 * lag - s.dev.pMin n i
    let filled := ((max 0 (s.dev.kpWant n - c.lag.getD 0 - s.dev.pMin n i)).toNat + 48000) * 6144 ≤ s.dev.since c.clk
    let verify := s.dev.fget R.PRG_EST_VERIFY * Config.sysPerSecond ≤ s.dev.since c.clk
    let own := (List.range 128).map (fun q => R.PGT_STAT.at q) ++
      [R.PRG_EVT.at 0, R.PRG_N_ALIGNED.at 0, R.PRG_PAGES_FREE.at 0, R.PRG_PAGE_REFUSED.at 0]
    let runs := s.dev.domOn 4 = true ∧ s.dev.inReset = false
    let again := s.dev.fineLag n i (48 * lag)
    (found = some lag → lag.natAbs ≤ 4000) ∧ (fine - c.lag.getD 0).natAbs ≤ 96 ∧
    (¬ runs → Runs (.coarseEstimate n i) s (fun t => t = s) ∧ Runs (.pageFillDone n i) s (fun t => t = s) ∧ Runs (.pageRetry n i) s (fun t => t = s) ∧
      Runs (.verifyReestimate n i) s (fun t => t = s) ∧ Runs (.timelineExit n i) s (fun t => t = s)) ∧
    (¬ started → Runs (.coarseEstimate n i) s (fun t => t = s)) ∧
    (runs → started → found = some lag → c.prev = some x → (x - lag).natAbs ≤ 2 → c.align = 3 →
      Runs (.coarseEstimate n i) s (fun t => (t.dev.srcOf n i).est = 0 ∧
        (t.dev.srcOf n i).lag = (if 1 < (again - c.lag.getD 0).natAbs then some again else c.lag) ∧ Only own s t)) ∧
    (runs → started → found = some lag → c.prev = some x → (x - lag).natAbs ≤ 2 → c.align ≠ 3 →
      Runs (.coarseEstimate n i) s (fun t => (t.dev.srcOf n i).est = 0 ∧ (t.dev.srcOf n i).lag = some (48 * lag) ∧
        ((t.dev.srcOf n i).align = 2 ∨ (t.dev.srcOf n i).align = 4 ∨ (t.dev.srcOf n i).align = 5) ∧
        (c.align = 1 → 216000 < held → (t.dev.srcOf n i).align = 5 ∧ (t.dev.srcOf n i).pages = 0) ∧ Only own s t)) ∧
    (runs → started → found = none → ¬ late →
      Runs (.coarseEstimate n i) s (fun t => t.dev.srcOf n i = { c with prev := none, prevClk := s.dev.time.clk + 1 } ∧ Only [] s t)) ∧
    (runs → started → found = some lag → c.prev = none → ¬ late →
      Runs (.coarseEstimate n i) s (fun t => t.dev.srcOf n i = { c with prev := some lag, prevClk := s.dev.time.clk + 1 } ∧ Only [] s t)) ∧
    (runs → started → found = none → late →
      Runs (.coarseEstimate n i) s (fun t => (t.dev.srcOf n i).est = s.dev.time.clk + 1 ∧ (t.dev.srcOf n i).prev = none ∧
        Counted s t R.PRG_EST_FAIL_COUNT ∧ Only [R.PRG_EST_FAIL.at 0] s t)) ∧
    (runs → c.align = 2 → c.fine = false → filled →
      Runs (.pageFillDone n i) s (fun t => (t.dev.srcOf n i).lag = some fine ∧ (t.dev.srcOf n i).fine = true ∧
        ((t.dev.srcOf n i).align = 2 ∨ (t.dev.srcOf n i).align = 3 ∨ (t.dev.srcOf n i).align = 5) ∧ Only own s t)) ∧
    (¬ filled → Runs (.pageFillDone n i) s (fun t => t = s)) ∧
    (c.align ≠ 4 → Runs (.pageRetry n i) s (fun t => t = s)) ∧
    (runs → c.align = 4 → c.lag = some x → Config.sysPerSecond ≤ s.dev.since c.clk →
      Runs (.pageRetry n i) s (fun t => ((t.dev.srcOf n i).align = 2 ∨ (t.dev.srcOf n i).align = 4 ∨ (t.dev.srcOf n i).align = 5) ∧ Only own s t)) ∧
    (¬ verify → Runs (.verifyReestimate n i) s (fun t => t = s)) ∧
    (runs → c.align = 5 → verify → Runs (.verifyReestimate n i) s (fun t => (t.dev.srcOf n i).align = 1 ∧ Only own s t)) ∧
    (runs → c.align = 3 → verify →
      Runs (.verifyReestimate n i) s (fun t => t.dev.srcOf n i = { c with clk := s.dev.time.clk, verify := true } ∧ Only [] s t)) ∧
    (runs → 2 ≤ c.align ∨ c.pages ≠ 0 → c.align ≠ 6 → c.zero ≠ 0 → s.dev.fget R.PRG_ALIGN_KEEP * Config.sysPerSecond ≤ s.dev.time.clk + 1 - c.zero →
      Runs (.timelineExit n i) s (fun t => (t.dev.srcOf n i).align = 1 ∧ (t.dev.srcOf n i).pages = 0 ∧ (t.dev.srcOf n i).lag = none ∧
        t.dev.fget R.PRG_PAGES_FREE_COUNT ≥ min 128 (s.dev.fget R.PRG_PAGES_FREE_COUNT + c.pages) ∧ Only own s t)) ∧
    ((s.dev.prgOf n).on = true → i.val ∈ s.dev.srcIdx n → c.align ≠ 0 → c.align ≠ 6 →
      Runs .reestimate s (fun t => (t.dev.srcOf n i).align = 1 ∧ (t.dev.srcOf n i).pages = c.pages ∧ (t.dev.srcOf n i).est = 0 ∧ Only own s t))

/-- R298 to R300. -/
def Obligations.PrgCandidates : Prop :=
  ∀ (s : State) (n : Fin 128) (i : Fin 16) (khz : Nat) (target : MgdTarget) (when : Nat) (c : CandSt),
    let g := s.dev.prgOf n
    let runs := s.dev.domOn 4 = true ∧ s.dev.inReset = false
    let recent := g.req ≠ 0 ∧ s.dev.time.clk + 1 - g.req < msCycles 100
    let may := runs ∧ g.on = true ∧ ¬ recent
    let refusal (x : MgdTarget) := (g.refused.find? (fun r => r.1 == targetKey x)).map (·.2)
    let first := s.dev.nextRequest n (fun x => (refusal x).isNone)
    let again := s.dev.nextRequest n (fun x => (refusal x).any (fun k => decide (Config.sysPerSecond ≤ s.dev.since k)))
    let Sent (t : State) := Counted s t R.PRG_REQUESTS_COUNT ∧ (t.dev.prgOf n).req = s.dev.time.clk + 1 ∧
      (t.dev.prgOf n).refused.filter (fun r => r.1 != targetKey target) = g.refused.filter (fun r => r.1 != targetKey target) ∧
      (∀ r ∈ (t.dev.prgOf n).refused, r ∈ g.refused ∨ r = (targetKey target, s.dev.time.clk)) ∧
      t.flash = s.flash ∧ t.lily = s.lily ∧ t.pending = s.pending
    (¬ may → Runs (.discoveryRequest n) s (fun t => t = s) ∧ Runs (.requestRepeat n) s (fun t => t = s)) ∧
    (first = none → Runs (.discoveryRequest n) s (fun t => t = s)) ∧
    (may → first = some target → Runs (.discoveryRequest n) s (fun t => Sent t)) ∧
    (again = none → Runs (.requestRepeat n) s (fun t => t = s)) ∧
    (may → again = some target → Runs (.requestRepeat n) s (fun t => Sent t)) ∧
    (runs → s.dev.candOf n i = some c → c.kind = 1 → s.dev.fbit R.RDS_STAT_PI_CONF c.idx = false →
      msCycles (100 * s.dev.fget R.PRG_DISC_PI_WAIT) ≤ s.dev.since c.since →
      Runs (.candidatePiTimeout n i) s (fun t => t.dev.candOf n i = none ∧
        ((s.dev.ctxOf 0 c.idx).freq, s.dev.time.clk) ∈ (t.dev.prgOf n).bars ∧
        Only [R.PGT_STAT.at n, R.PRG_EVT.at 0, R.PRG_N_ALIGNED.at 0, R.PRG_PAGES_FREE.at 0] s t)) ∧
    (s.dev.candOf n i = some c → c.kind ≠ 1 ∨ s.dev.fbit R.RDS_STAT_PI_CONF c.idx = true →
      Runs (.candidatePiTimeout n i) s (fun t => t = s)) ∧
    (60 * Config.sysPerSecond ≤ s.dev.since when → Runs (.candidateBarExpiry n khz) s (fun t => (khz, when) ∉ (t.dev.prgOf n).bars ∧ Only [] s t)) ∧
    ((khz, when) ∈ g.bars → s.dev.since when < 60 * Config.sysPerSecond →
      Runs (.candidateBarExpiry n khz) s (fun t => (khz, when) ∈ (t.dev.prgOf n).bars ∧ Only [] s t))

/-- R20, R280, R315, R317 to R321, R323, R324. -/
def Obligations.PrgBlocksAndMeters : Prop :=
  ∀ (s : State) (n : Fin 128) (ecc : Option (Nat × Bool × Nat)) (word : Nat) (i a arg m : Nat) (b : Blk) (v : Int) (bits : Byte) (page : Fin 4) (e : Nat),
    let g := s.dev.prgOf n
    let pg := min page.val 2
    let c := s.dev.srcOf n i
    let t0 := s.dev.grid.prg
    let due := s.dev.splStopped = false ∧ s.dev.inReset = false ∧ t0 ≤ s.dev.time.clk
    let lost := delivered g.last g.gap true []
    let none' := delivered g.last g.gap false silence
    let same (t : State) := (t.dev.prgOf n).loud = g.loud ∧ (t.dev.prgOf n).peaks = g.peaks ∧ (t.dev.prgOf n).active = g.active
    let own := (List.range 128).map (fun q => R.PGT_STAT.at q) ++ [R.PRG_EVT.at 0, R.BOOT_T_AUDIO.at 0]
    let runs := s.dev.domOn 4 = true ∧ s.dev.inReset = false
    let unc := [R.MON_ECC_UNC.at 1, R.MON_EVT.at 0, R.MON_SEQ_HI.at 0]
    (¬ due → Runs (.programmeBlock ecc) s (fun t => t = s)) ∧
    (due → s.dev.domOn 4 = false → g.on = true →
      Runs (.programmeBlock ecc) s (fun t => t.dev.prgOf n = { g with gap := true, last := (0, 0) } ∧
        t.dev.grid.prg = t0 + Config.sysPerMs ∧ Only [] s t)) ∧
    (due → s.dev.domOn 4 = true → g.on = true → g.xf = none → g.active = none → ecc = none →
      Runs (.programmeBlock ecc) s (fun t => (t.dev.prgOf n).out = ((t0, lost) :: g.out).take 3 ∧ (t.dev.prgOf n).gap = true ∧
        (t.dev.prgOf n).sil = g.sil.step (s.dev.fget R.PRG_SIL_TH) (s.dev.fget R.PRG_SIL_TIME) (peakOfBlock lost) ∧ (t.dev.prgOf n).meter = g.meter ∧ same t ∧ t.dev.grid.prg = t0 + Config.sysPerMs ∧ Only own s t)) ∧
    (due → s.dev.domOn 4 = true → g.on = true → ecc = some (n.val, true, word) →
      Runs (.programmeBlock ecc) s (fun t => (t.dev.prgOf n).out = ((t0, lost) :: g.out).take 3 ∧ (t.dev.prgOf n).gap = true ∧
        (t.dev.prgOf n).sil = g.sil.step (s.dev.fget R.PRG_SIL_TH) (s.dev.fget R.PRG_SIL_TIME) (peakOfBlock lost) ∧ (t.dev.prgOf n).meter = g.meter ∧ same t ∧ Counted s t R.MON_ECC_UNC_COUNT 1 ∧ Only (own ++ unc) s t)) ∧
    (due → s.dev.domOn 4 = true → g.on = true → g.xf = none → g.active = some a → s.dev.srcRef n a = some (9, arg, m) → s.dev.policy n ≠ 2 →
      s.dev.fbit R.PGT_STAT_SLEW n = false → s.dev.clk.gapPrg = false → ecc = none → g.trim = 0 →
      Runs (.programmeBlock ecc) s (fun t => (t.dev.prgOf n).out = ((t0, none') :: g.out).take 3 ∧ (t.dev.prgOf n).gap = false ∧
        (t.dev.prgOf n).sil = g.sil.step (s.dev.fget R.PRG_SIL_TH) (s.dev.fget R.PRG_SIL_TIME) (peakOfBlock none') ∧
        (g.sil.silent = s.dev.fbit R.PGT_STAT_SILENT n → t.dev.fbit R.PGT_STAT_SILENT n = (t.dev.prgOf n).sil.silent) ∧ same t ∧ Only own s t)) ∧
    (due → s.dev.domOn 4 = true → g.on = true → i ∈ s.dev.srcIdx n → s.dev.srcRef n i = some (1, arg, m) → (s.dev.ctxOf 0 arg).ring = [b] →
      b.mark ≠ 2 → t0 < b.ready + Config.sysPerMs → ecc = none →
      Runs (.programmeBlock ecc) s (fun t => (t.dev.srcOf n i).hist = ({ b with pcm := delivered c.last c.gap false b.pcm } :: c.hist).take 5700 ∧
        (t.dev.srcOf n i).gap = false ∧ (t.dev.srcOf n i).env.head? = some (envDb (envSum (delivered c.last c.gap false b.pcm)) 48) ∧
        (t.dev.ctxOf 0 arg).ring = [] ∧ Only own s t)) ∧
    (due → s.dev.domOn 4 = true → s.dev.prgLive = [] →
      Runs (.programmeBlock (some (n.val, false, word))) s (fun t => Counted s t R.MON_ECC_CORR_COUNT 1 ∧ Only [R.MON_ECC_CORR.at 1] s t)) ∧
    (¬ runs → Runs .loudnessUpdate s (fun t => t = s) ∧ Runs (.referenceSearch n) s (fun t => t = s)) ∧
    (s.dev.grid.loud = false → Runs .loudnessUpdate s (fun t => t = s)) ∧
    (runs → s.dev.grid.loud = true → g.on = true → Runs .loudnessUpdate s (fun t =>
      let w := t.dev.prgOf n
      w.loud.1 = g.meter.close.lufs 4 ∧ w.loud.2.1 = g.meter.close.lufs 30 ∧ (w.loud.1 = some v → -700 ≤ v) ∧ (w.loud.2.2 = some v → -700 ≤ v) ∧
      w.peaks = (g.tp :: g.peaks).take 30 ∧ w.tp = 0 ∧ w.meter = g.meter.close ∧ t.dev.grid.loud = false ∧
      (i ∈ s.dev.srcIdx n → (t.dev.srcOf n i).loud = c.meter.close.lufs 30) ∧ Only [] s t)) ∧
    (g.on = true → Runs .clrLoud s (fun t => t.dev.prgOf n = { g with loud := (g.loud.1, g.loud.2.1, none), gates := [], gateWait := if g.meter.n = 0 then 4 else 5 } ∧ Only [] s t)) ∧
    (n.val ∉ s.dev.refs ∨ g.refDue = false → Runs (.referenceSearch n) s (fun t => t = s)) ∧
    (runs → n.val ∈ s.dev.refs → g.refDue = true → s.dev.fbit R.PGT_STAT_MISMATCH n = false → g.low + 1 < s.dev.fget R.PRG_REF_TIME →
      Runs (.referenceSearch n) s (fun t =>
        let agree := (match s.dev.refFound n, g.refPrev with | some x, some y => decide (((x : Int) - y).natAbs ≤ 2) | _, _ => false) = true
        (t.dev.prgOf n).refPrev = s.dev.refFound n ∧ (t.dev.prgOf n).refDue = false ∧
        (agree → t.dev.fget R.PGT_STAT_REF_LOCK n = 1 ∧ (t.dev.prgOf n).refD = s.dev.refFound n) ∧
        (¬ agree → t.dev.fget R.PGT_STAT_REF_LOCK n = s.dev.fget R.PGT_STAT_REF_LOCK n ∧ (t.dev.prgOf n).refD = g.refD) ∧
        t.dev.fget R.PGT_STAT_MISMATCH n = 0 ∧ Only [R.PGT_STAT.at n, R.PRG_EVT.at 0] s t)) ∧
    (runs → n.val ∈ s.dev.refs → g.refDue = true → g.refLost = false → s.dev.pairLost (s.dev.fget R.PGT_REF_KIND n + 5) (s.dev.fget R.PGT_REF_ARG n) = false →
      envSilent (s.dev.fget R.PRG_SIL_TH) g.envO = false → g.envR.all (fun v => decide (v < -100 * (s.dev.fget R.PRG_SIL_TH : Int))) = true →
      0 < s.dev.fget R.PRG_REF_TH → s.dev.fget R.PRG_REF_TIME ≤ min (g.low + 1) 65535 → s.dev.fbit R.PGT_STAT_MISMATCH n = false →
      Runs (.referenceSearch n) s (fun t => t.dev.fget R.PGT_STAT_MISMATCH n = 1 ∧ t.dev.fget R.PGT_STAT_REF_LOCK n = 0 ∧
        (t.dev.prgOf n).sim = 0 ∧ (t.dev.prgOf n).mismatches = g.mismatches + 1 ∧ Counted s t R.PRG_MISMATCH_COUNT ∧
        bitAt (t.reg (R.PRG_EVT.at 0)).toNat 4 = true ∧ Only [R.PGT_STAT.at n, R.PRG_EVT.at 0, R.PRG_MISMATCH.at 0] s t)) ∧
    Runs (.prgFlagClear bits) s (fun t =>
      let m := s.dev.fget R.PRG_FLAG_CTX_INDEX
      t.dev.prgOf m = { s.dev.prgOf m with flags := (s.dev.prgOf m).flags - ((s.dev.prgOf m).flags &&& bits.toNat) } ∧ Only [] s t) ∧
    (e < 30 → Runs (.prgMeasLatch page n) s (fun t =>
      t.dev.fget R.PRG_MEAS_SEL_PAGE = pg ∧ t.dev.fget R.PRG_MEAS_SEL_INDEX = n ∧ t.dev.fbit R.PRG_MEAS_HDR_VALID = g.on ∧
      t.dev.fget R.PRG_MEAS_VALUE e = (if g.on then s.dev.prgEntry n pg e else noValue) % 65536 ∧
      Only ([R.PRG_MEAS_SEL.at 0, R.PRG_MEAS_HDR.at 0] ++ (List.range 30).map (fun k => R.PRG_MEAS.at k)) s t))
/-- R362, R364 to R369. The phases of the speaker's stop read 0b10: log entry 22. -/
def Obligations.OutputSequences : Prop :=
  ∀ (s : State) (out : Fin 2) (l r res : Int) (pvdd : Nat),
    let k := out.val
    let q := s.dev.outSeq k
    let due := q.dur ≤ s.dev.since q.clk
    let hp := s.dev.fget (outField k)
    let spk := s.dev.cod.spk
    let spkDue := spk.dur ≤ s.dev.since spk.clk
    let cfg := [R.COD_STAT.at 0, R.COD_EVT.at 0]
    (¬ due → Runs (.hpSequenceStep out l r res) s (fun t => t = s)) ∧
    (due → hp = 1 → Runs (.hpSequenceStep out l r res) s (fun t => Wrote s t (outField k) 0 2 ∧
      t.dev.outSeq k = { clk := s.dev.time.clk, dur := msCycles 5 } ∧ Only [R.COD_STAT.at 0] s t)) ∧
    (due → hp = 2 → q.check = false → Runs (.hpSequenceStep out l r res) s (fun t => t.dev.outSeq k = { q with clk := s.dev.time.clk, check := true } ∧
      (k = 0 → t.dev.fgetI R.COD_HP_OFS_L_OFS = clampInt (-10000) 10000 l ∧ t.dev.fgetI R.COD_HP_OFS_R_OFS = clampInt (-10000) 10000 r) ∧
      (k = 1 → t.dev.cod.loOfs = (clampInt (-10000) 10000 l, clampInt (-10000) 10000 r)) ∧
      Only (if k = 0 then [R.COD_HP_OFS_L.at 0, R.COD_HP_OFS_R.at 0] else []) s t)) ∧
    (due → hp = 2 → q.check = true → res.natAbs ≤ 500 → Runs (.hpSequenceStep out l r res) s (fun t => Wrote s t (outField k) 0 3 ∧
      (t.dev.outSeq k).dur = msCycles (s.dev.fget R.COD_RAMP_UP) ∧ Only [R.COD_STAT.at 0] s t)) ∧
    (due → hp = 2 → q.check = true → 500 < res.natAbs → q.again = false → Runs (.hpSequenceStep out l r res) s (fun t =>
      t.dev.outSeq k = { clk := s.dev.time.clk, dur := msCycles 5, again := true } ∧ Wrote s t (outField k) 0 2 ∧ Only [R.COD_STAT.at 0] s t)) ∧
    (due → hp = 2 → q.check = true → 500 < res.natAbs → q.again = true → Runs (.hpSequenceStep out l r res) s (fun t => Wrote s t (outField k) 0 6 ∧
      Raised s t R.COD_EVT_SERVO_RANGE ∧ (k = 0 → t.dev.cod.hpHold = true) ∧ Only cfg s t)) ∧
    (due → hp = 3 → Runs (.hpSequenceStep out l r res) s (fun t => Wrote s t (outField k) 0 4 ∧
      (k = 0 → Raised s t R.COD_EVT_HP_ON) ∧ Only cfg s t)) ∧
    (s.dev.fget R.COD_STAT_HP ≠ 0 → s.dev.fget R.COD_STAT_HP ≠ 6 → Runs .hpOvercurrent s (fun t => Wrote s t R.COD_STAT_HP 0 6 ∧
      Counted s t R.COD_HP_OC_COUNT ∧ Raised s t R.COD_EVT_HP_OC ∧ Only (cfg ++ [R.COD_HP_OC.at 0]) s t)) ∧
    (¬ spkDue → Runs .speakerSequenceStep s (fun t => t = s)) ∧
    (spkDue → spk.phase = 1 → Runs .speakerSequenceStep s (fun t => t.dev.cod.spk.phase = 2 ∧
      t.dev.cod.spk.dur = msCycles (s.dev.fget R.COD_RAMP_UP) ∧ Wrote s t R.COD_STAT_SPK 0 1 ∧ Only [R.COD_STAT.at 0] s t)) ∧
    (spkDue → spk.phase = 2 → Runs .speakerSequenceStep s (fun t => t.dev.cod.spk.phase = 3 ∧ Wrote s t R.COD_STAT_SPK 0 2 ∧ Only [R.COD_STAT.at 0] s t)) ∧
    (spkDue → spk.phase = 4 → Runs .speakerSequenceStep s (fun t => t.dev.cod.spk.phase = 5 ∧ t.dev.cod.spk.dur = msCycles 5 ∧ Only [R.COD_STAT.at 0] s t)) ∧
    (spkDue → spk.phase = 5 → s.dev.spkWanted = false → Runs .speakerSequenceStep s (fun t => t.dev.cod.spk.phase = 0 ∧
      Wrote s t R.COD_STAT_SPK 0 0 ∧ Only [R.COD_STAT.at 0] s t)) ∧
    (spk.phase ≠ 0 → (spk.ocs.filter (fun c => decide (s.dev.since c < Config.sysPerSecond))).length < 2 →
      Runs .spkOvercurrent s (fun t => t.dev.cod.spk.phase = 0 ∧ t.dev.cod.spk.ocWait = s.dev.time.clk + 1 ∧ Wrote s t R.COD_STAT_SPK 0 0 ∧
        Counted s t R.COD_SPK_OC_COUNT ∧ Raised s t R.COD_EVT_SPK_OC ∧ Only (cfg ++ [R.COD_SPK_OC.at 0]) s t)) ∧
    (spk.phase ≠ 0 → 2 ≤ (spk.ocs.filter (fun c => decide (s.dev.since c < Config.sysPerSecond))).length →
      Runs .spkOvercurrent s (fun t => t.dev.cod.spk.phase = 0 ∧ t.dev.cod.spk.ocWait = 0 ∧ Wrote s t R.COD_STAT_SPK 0 3 ∧
        Counted s t R.COD_SPK_OC_COUNT ∧ Raised s t R.COD_EVT_SPK_OC ∧ Only (cfg ++ [R.COD_SPK_OC.at 0]) s t)) ∧
    Runs .pvddUndervoltage s (fun t => t.dev.cod.spk.uv = true ∧ t.dev.fget R.COD_STAT_PVDD_OK = 0 ∧ Raised s t R.COD_EVT_PVDD_UV ∧
      (s.dev.fget R.COD_STAT_SPK ≠ 3 → t.dev.cod.spk.phase = 0 ∧ t.dev.fget R.COD_STAT_SPK = 0) ∧
      (s.dev.fget R.COD_STAT_SPK = 3 → t.dev.fget R.COD_STAT_SPK = 3) ∧ Only cfg s t) ∧
    (2900 < pvdd → Runs (.spkAutoRestart pvdd) s (fun t => t.dev.cod.spk.uv = false ∧ t.dev.fget R.COD_STAT_PVDD_OK = 1 ∧ Only [R.COD_STAT.at 0] s t)) ∧
    (spk.phase = 0 → spk.ocWait ≠ 0 ∧ s.dev.time.clk + 1 - spk.ocWait < msCycles 100 ∨ spk.uv = true ∧ pvdd ≤ 2900 →
      Runs (.spkAutoRestart pvdd) s (fun t => t.dev.cod.spk.phase = 0 ∧ Only [R.COD_STAT.at 0] s t)) ∧
    (msCycles 100 ≤ s.dev.time.clk + 1 - spk.ocWait ∨ spk.ocWait = 0 → spk.uv = false ∨ 2900 < pvdd → spk.phase = 0 → s.dev.fget R.COD_STAT_SPK = 0 →
      s.dev.audOk = true → s.dev.fbit R.COD_PWR_SPK_EN = true →
      Runs (.spkAutoRestart pvdd) s (fun t => t.dev.cod.spk.phase = 1 ∧ t.dev.cod.spk.ocWait = 0 ∧ Only [R.COD_STAT.at 0] s t)) ∧
    (s.dev.fget R.COD_STAT_SPK = 3 → Runs .spkRestart s (fun t => t.dev.fget R.COD_STAT_SPK ≠ 3 ∧ t.dev.cod.spk.ocs = [] ∧ Only [R.COD_STAT.at 0] s t)) ∧
    (s.dev.fget R.COD_STAT_SPK ≠ 3 → Runs .spkRestart s (fun t => t = s)) ∧
    (msCycles 50 ≤ s.dev.since s.dev.cod.railClk → Runs .railReturn s (fun t => t.dev.fget R.COD_STAT_RAIL_HI = 0 ∧ Only [R.COD_STAT.at 0] s t))

/-- R359 to R361, R372 to R374, R376 to R382. -/
def Obligations.InputsServoAndJack : Prop :=
  ∀ (s : State) (mic : Fin 2) (level : Bool) (ch : Fin 4) (pvdd : Nat) (m mean : Int) (held : Nat) (z : JackZ) (ohm : Option Nat) (b when : Nat) (rest : List (Nat × Nat)),
    let now := smGet (fun _ => 0) s.dev.cod.pga mic
    let target := if mic.val = 0 then s.dev.fget R.COD_MIC1_GAIN_GAIN else s.dev.fget R.COD_MIC2_GAIN_GAIN
    let last := smGet (fun _ => 0) s.dev.cod.pgaClk mic
    let crossed := last + 1 < smGet (fun _ => 0) s.dev.fab.zero mic
    let v := s.dev.servoOf mic
    let servo := s.dev.fget R.COD_SERVO_BG_EN = 1 ∧ s.dev.fget R.COD_STAT_HP = 4 ∧ v.win ≠ 0 ∧ msCycles 20 ≤ s.dev.time.clk + 1 - v.win
    let here := level = s.dev.fbit R.JCK_CFG_POL
    let out := [R.COD_STAT.at 0, R.COD_EVT.at 0]
    let jck := out ++ [R.JCK_STAT.at 0, R.JCK_EVT.at 0]
    let w := s.dev.btnWindow ohm
    let run := if w = s.dev.jck.win then min (s.dev.jck.run + 1) 256 else 1
    let load := s.dev.jck.load.getD (z.tip, z.ring)
    let headset := s.dev.fget R.JCK_CFG_BTN_EN = 1 ∧ (s.dev.fget R.JCK_STAT_CLASS = 2 ∨ s.dev.fget R.JCK_STAT_CLASS = 3)
    (now ≠ target → crossed ∨ msCycles 2 ≤ s.dev.since last →
      Runs (.pgaStep mic) s (fun t => smGet (fun _ => 0) t.dev.cod.pga mic = (if now < target then now + 1 else now - 1) ∧
        smGet (fun _ => 0) t.dev.cod.pgaClk mic = s.dev.time.clk ∧ Only [] s t)) ∧
    (now = target ∨ ¬ crossed ∧ s.dev.since last < msCycles 2 → Runs (.pgaStep mic) s (fun t => t = s)) ∧
    (smGet (fun _ => 0) s.dev.cod.adcClk ch ≠ 0 → msCycles 20 ≤ s.dev.time.clk + 1 - smGet (fun _ => 0) s.dev.cod.adcClk ch →
      Runs (.adcEnableSettle ch) s (fun t => smGet (fun _ => false) t.dev.cod.adcOn ch = true ∧ Only [] s t)) ∧
    Runs (.micbiasDropout pvdd) s (fun t => t.dev.cod.pvdd = pvdd ∧
      t.dev.fbit R.COD_STAT_BIAS_LOW = ((s.dev.biasSet 0).toList ++ (s.dev.biasSet 1).toList).any (fun v => decide (pvdd - 200 < v)) ∧
      Only [R.COD_STAT.at 0] s t) ∧
    (servo → v.first = none → Runs (.servoWindow mic mean) s (fun t => t.dev.servoOf mic = { v with first := some mean, win := s.dev.time.clk + 1 } ∧
      Only [] s t)) ∧
    (servo → v.first = some m → 50 < (m - mean).natAbs →
      Runs (.servoWindow mic mean) s (fun t => (t.dev.servoOf mic).first = none ∧ (t.dev.servoOf mic).todo = v.todo ∧
        Counted s t R.COD_SERVO_REJ_COUNT ∧ Raised s t R.COD_EVT_SERVO_REJ ∧ Only [R.COD_SERVO_REJ.at 0, R.COD_EVT.at 0] s t)) ∧
    (servo → v.first = some m → (m - mean).natAbs ≤ 50 → 50 < (divNearInt (m + mean) 2).natAbs →
      (s.dev.fgetI (ofsField mic) - divNearInt (m + mean) 2).natAbs ≤ 10000 →
      Runs (.servoWindow mic mean) s (fun t => (t.dev.servoOf mic).todo = -divNearInt (m + mean) 2 ∧ Only [] s t)) ∧
    (¬ servo → Runs (.servoWindow mic mean) s (fun t => t = s)) ∧
    (s.dev.fget R.COD_SERVO_BG_EN = 1 → s.dev.servoSilent mic = true → s.dev.fget R.COD_STAT_HP = 4 → v.todo ≠ 0 → msCycles 1 ≤ s.dev.since v.clk →
      Runs (.servoStep mic) s (fun t => t.dev.fgetI (ofsField mic) = sgn 16 (unsgn 16 (s.dev.fgetI (ofsField mic) + clampInt (-20) 20 v.todo)) ∧
        (t.dev.servoOf mic).todo = v.todo - clampInt (-20) 20 v.todo ∧ Counted s t R.COD_SERVO_STEPS_COUNT ∧
        Only [(ofsField mic).at 0, R.COD_SERVO_STEPS.at 0] s t)) ∧
    (s.dev.fget R.COD_SERVO_BG_EN ≠ 1 ∨ s.dev.servoSilent mic = false ∨ s.dev.since v.clk < msCycles 1 → Runs (.servoStep mic) s (fun t => t = s)) ∧
    (s.dev.fget R.JCK_CFG_EN = 1 → here → s.dev.fget R.JCK_STAT_INSERTED = 0 → 10 * s.dev.fget R.JCK_DEB_INS ≤ held →
      Runs (.jackInsert level held) s (fun t => t.dev.fget R.JCK_STAT_INSERTED = 1 ∧ t.dev.fget R.JCK_STAT_CLASS = 6 ∧ Counted s t R.JCK_INSERTS_COUNT ∧
        Raised s t R.JCK_EVT_INSERT ∧ Only (jck ++ [R.JCK_INSERTS.at 0]) s t)) ∧
    (¬ here ∨ held < 10 * s.dev.fget R.JCK_DEB_INS → Runs (.jackInsert level held) s (fun t => t = s)) ∧
    (here ∨ held < s.dev.fget R.JCK_DEB_REM → Runs (.jackRemove level held) s (fun t => t = s)) ∧
    (s.dev.fget R.JCK_STAT_INSERTED = 1 → ¬ here → s.dev.fget R.JCK_DEB_REM ≤ held →
      Runs (.jackRemove level held) s (fun t => t.dev.fget R.JCK_STAT_INSERTED = 0 ∧ t.dev.fget R.JCK_STAT_CLASS = 0 ∧ t.dev.fget R.JCK_STAT_BTN = 0 ∧
        t.dev.jck = {} ∧ Raised s t R.JCK_EVT_REMOVE ∧ Wrote s t R.JCK_BTN_DISC_COUNT 0 (min (s.dev.fget R.JCK_BTN_DISC_COUNT + s.dev.jck.press.length) (2 ^ (R.JCK_BTN_DISC_COUNT.hi + 1 - R.JCK_BTN_DISC_COUNT.lo) - 1)) ∧
        Only (jck ++ [R.JCK_BTN_DISC.at 0]) s t)) ∧
    (s.dev.fget R.JCK_STAT_CLASS ≠ 6 ∨ s.dev.since s.dev.jck.clk < msCycles 2 → Runs (.jackClassify z) s (fun t => t = s)) ∧
    (s.dev.fget R.JCK_STAT_CLASS = 6 → msCycles 2 ≤ s.dev.since s.dev.jck.clk → s.dev.since s.dev.jck.clk < msCycles 6 → s.dev.jck.load = none →
      Runs (.jackClassify z) s (fun t => t.dev.jck = { s.dev.jck with load := some (z.tip, z.ring) } ∧ t.dev.fget R.JCK_Z_TIP_OHM = ohms z.tip ∧
        t.dev.fget R.JCK_Z_RING_OHM = ohms z.ring ∧ Only [R.COD_STAT.at 0, R.JCK_Z_TIP.at 0, R.JCK_Z_RING.at 0] s t)) ∧
    (s.dev.fget R.JCK_STAT_CLASS = 6 → msCycles 6 ≤ s.dev.since s.dev.jck.clk →
      Runs (.jackClassify z) s (fun t => t.dev.fget R.JCK_STAT_CLASS = jackClass { z with tip := load.1, ring := load.2 } ∧
        (s.dev.jck.load = none → t.dev.fget R.JCK_Z_TIP_OHM = ohms z.tip ∧ t.dev.fget R.JCK_Z_RING_OHM = ohms z.ring) ∧
        bitAt (t.reg (R.JCK_EVT.at 0)).toNat R.JCK_EVT_CLASS.lo = true ∧
        Only (jck ++ [R.JCK_Z_TIP.at 0, R.JCK_Z_RING.at 0]) s t)) ∧
    (s.dev.fget R.JCK_CFG_EN = 1 → s.dev.fget R.JCK_STAT_INSERTED = 1 →
      Runs .reclassify s (fun t => t.dev.fget R.JCK_STAT_CLASS = 6 ∧ t.dev.fget R.JCK_STAT_BTN = 0 ∧ t.dev.jck.clk = s.dev.time.clk ∧
        t.dev.fget R.COD_STAT_HP = (if s.dev.fget R.COD_STAT_HP = 6 then 6 else 0) ∧ Only jck s t)) ∧
    (s.dev.fget R.JCK_STAT_INSERTED = 0 → Runs .reclassify s (fun t => t = s)) ∧
    (headset → run < s.dev.fget R.JCK_BTN_TIME_DEB →
      Runs (.buttonReading ohm) s (fun t => t.dev.jck = { s.dev.jck with win := w, run := run } ∧ t.dev.fget R.JCK_Z_MIC_OHM = ohms ohm ∧
        Only [R.JCK_Z_MIC.at 0] s t)) ∧
    (headset → s.dev.fget R.JCK_BTN_TIME_DEB ≤ run → w < 4 → s.dev.jck.held = none →
      Runs (.buttonReading ohm) s (fun t => t.dev.jck.held = some w ∧ t.dev.jck.press = s.dev.jck.press ++ [(w, s.dev.time.clk)] ∧ Only [R.JCK_Z_MIC.at 0] s t)) ∧
    (headset → s.dev.fget R.JCK_BTN_TIME_DEB ≤ run → w < 4 → s.dev.jck.held = some b → b ≠ w →
      Runs (.buttonReading ohm) s (fun t => t.dev.jck.held = some w ∧ t.dev.jck.press = s.dev.jck.press ++ [(w, s.dev.time.clk)] ∧
        bitAt (t.dev.fget R.JCK_STAT_BTN) b = false ∧ Raised s t R.JCK_EVT_RELEASE ∧ Only [R.JCK_Z_MIC.at 0, R.JCK_STAT.at 0, R.JCK_EVT.at 0] s t)) ∧
    (headset → s.dev.fget R.JCK_BTN_TIME_DEB ≤ run → w = 4 → s.dev.jck.held = some b →
      Runs (.buttonReading ohm) s (fun t => t.dev.jck.held = none ∧ t.dev.jck.press = s.dev.jck.press ∧ bitAt (t.dev.fget R.JCK_STAT_BTN) b = false ∧
        Raised s t R.JCK_EVT_RELEASE ∧ Only [R.JCK_Z_MIC.at 0, R.JCK_STAT.at 0, R.JCK_EVT.at 0] s t)) ∧
    (s.dev.jck.press = (b, when) :: rest → b < 4 → msCycles (s.dev.fget R.JCK_BTN_TIME_GUARD) ≤ s.dev.since when →
      Runs .buttonPressPublish s (fun t => t.dev.jck.press = rest ∧ bitAt (t.dev.fget R.JCK_STAT_BTN) b = true ∧ Raised s t R.JCK_EVT_PRESS ∧
        Only [R.JCK_STAT.at 0, R.JCK_EVT.at 0] s t)) ∧
    (s.dev.jck.press = (b, when) :: rest → s.dev.since when < msCycles (s.dev.fget R.JCK_BTN_TIME_GUARD) →
      Runs .buttonPressPublish s (fun t => t = s))
/-- R390, R391, R393 to R396, R405. -/
def Obligations.MixGainsAndRoutes : Prop :=
  ∀ (s : State) (n : Fin 128) (k : Fin 4) (a b : Byte) (i : Fin 8) (tone : Fin 4) (level : Byte),
    let ta := s.dev.termOf n (2 * k)
    let tb := s.dev.termOf n (2 * k + 1)
    let ti := s.dev.termOf n i
    let m := s.dev.mixOf n
    let clk := s.dev.time.clk
    let code := s.dev.gainCode n i
    let new (j : Nat) (r : TermSt) (c : Nat) : TermSt :=
      let up (phase : Nat) : TermSt := { r with ramp := ⟨r.ramp.level clk, codeLevel c, clk, s.dev.termTime n j, phase⟩ }
      if r.ramp.phase = 2 then (if c = 0 then ⟨r.pend, r.pend, {}⟩ else r)
      else if c = s.dev.gainCode n j ∧ r.ramp.done clk = true then r
      else if r.ramp.phase = 3 ∧ r.ramp.done clk = false then (if c = 0 then { r with ramp := {} } else up 3)
      else up 0
    Runs (.mixGainWrite n k a b) s (fun t => t.dev.gainCode n (2 * k) = min a.toNat 240 ∧ t.dev.gainCode n (2 * k + 1) = min b.toNat 240 ∧
      (∀ j : Fin 8, j.val ≠ 2 * k → j.val ≠ 2 * k + 1 → t.dev.termOf n j = s.dev.termOf n j) ∧
      Only [R.MXT_GAIN.at (16 * n + k), R.MXT_STAT.at n] s t) ∧
    Runs (.mixGainWrite n k a b) s (fun t => t.dev.termOf n (2 * k) = new (2 * k) ta (min a.toNat 240) ∧
      t.dev.termOf n (2 * k + 1) = new (2 * k + 1) tb (min b.toNat 240) ∧
      (ta.ramp.phase < 2 → 0 < s.dev.termTime n (2 * k) → (t.dev.termOf n (2 * k)).ramp.level clk = ta.ramp.level clk)) ∧
    (ti.ramp.phase = 2 → ti.ramp.done clk = true →
      Runs (.routeRampOutEnd n (i.castLE (by decide))) s (fun t => t.dev.termOf n i =
          ⟨ti.pend, ti.pend, if code = 0 then {} else ⟨-100000, codeLevel code, clk, s.dev.termTime n i, 3⟩⟩ ∧
        Only [R.MXT_STAT.at n] s t)) ∧
    (ti.ramp.done clk = false → Runs (.routeRampOutEnd n (i.castLE (by decide))) s (fun t => t = s)) ∧
    (m.ramp.phase = 2 → m.ramp.done clk = true →
      Runs (.routeRampOutEnd n 8) s (fun t => (t.dev.mixOf n).sink = m.pend ∧
        (t.dev.mixOf n).ramp = (if m.pend.isSome then ⟨-100000, 0, clk, rampTime (s.dev.fget R.MXT_CTL_RAMP n), 3⟩ else {}) ∧
        Only [R.MXT_STAT.at n] s t)) ∧
    (m.ramp.phase ≠ 2 → Runs (.routeRampOutEnd n 8) s (fun t => t = s)) ∧
    Runs (.toneLevelWrite tone level) s (fun t => t.dev.fget R.MIX_TONE_LEVEL_LEVEL tone = min level.toNat 240 ∧
      t.dev.toneNow tone = s.dev.toneNow tone ∧ Only [R.MIX_TONE_LEVEL.at tone] s t)

/-- R360, R362, R383, R384, R397 to R399, R406 to R408. -/
def Obligations.MixEqualiserAndMeters : Prop :=
  ∀ (s : State) (band : Fin 8) (n : Fin 128) (j : Fin 5) (inp : FabricIn) (ch : Fin 4) (e : Fin 6),
    let b := s.dev.fget R.MIX_EQ_SEL_BAND
    let x := s.dev.fget R.MIX_EQ_SEL_MIX
    let w (j : Nat) : Nat := s.dev.fget R.MIX_EQ_C_HALF (2 * j) * 65536 + s.dev.fget R.MIX_EQ_C_HALF (2 * j + 1)
    let ok := eqStable (sgn 32 (w 3)) (sgn 32 (w 4)) = true
    let runs := s.dev.audClocked = true ∧ s.dev.splStopped = false
    let m := s.dev.mixOf n
    let y := s.dev.mixRamped n 0 (m.line.getD (s.dev.fabFrames 1000 - 1) 0)
    let later := s.dev.time.clk + Config.sysPerMs / 2
    let ahead (k : Nat) : Int := scaled (({ s.dev with time := { s.dev.time with clk := later } } : Dev).dacGain k)
      ((smGet (fun _ => []) s.dev.fab.dac k).getD (s.dev.fabFrames 1100 - s.dev.fabFrames 500 - 1) 0)
    let read (t : State) (mag : Nat) : Prop :=
      let l := (mag :: m.mags).take (3 * s.dev.frames100)
      (t.dev.mixOf n).mags = (if l.all (· == 0) then [] else l) ∧
        t.dev.fget R.MXT_PEAK_PEAK n = unsgn 16 (magTenths (((t.dev.mixOf n).mags.take s.dev.frames100).foldl max 0 ^ 2) (2 ^ 46))
    let own := (List.range 128).flatMap (fun k => [R.MXT_STAT.at k, R.MXT_PEAK.at k]) ++ (List.range 3).flatMap (fun k => [R.P_UNDERRUN.at k, R.P_EVT.at k]) ++
      [R.MIX_EVT.at 0, R.COD_STAT.at 0, R.SPD_EVT.at 0, R.SPD_RX_PARITY.at 0, R.SPD_RX_VSAMP.at 0, R.PRT_LEAD_STAT.at 0, R.PRT_LEAD_PPM.at 0, R.CLK_APL_PPM.at 0]
    Runs (.eqSelect band n) s (fun t => t.dev.fget R.MIX_EQ_SEL_BAND = min band.val 4 ∧ t.dev.fget R.MIX_EQ_SEL_MIX = n ∧
      t.dev.fget R.MIX_EQ_C_HALF (2 * j) = s.dev.coef n (min band 4) j / 65536 % 65536 ∧
      t.dev.fget R.MIX_EQ_C_HALF (2 * j + 1) = s.dev.coef n (min band 4) j % 65536 ∧
      Only ([R.MIX_EQ_SEL.at 0] ++ (List.range 10).map (fun k => R.MIX_EQ_C.at k)) s t) ∧
    (ok → Runs .eqLoad s (fun t => t.dev.coef x b j = w j ∧ Only [] s t)) ∧
    (¬ ok → Runs .eqLoad s (fun t => t.dev.mix = s.dev.mix ∧ Raised s t R.MXT_STAT_EQ_REJ x ∧ Raised s t R.MIX_EVT_EQ_REJ ∧
      Only [R.MXT_STAT.at x, R.MIX_EVT.at 0] s t)) ∧
    (¬ runs → Runs (.fabricFrame inp) s (fun t => t = s)) ∧
    (runs → Runs (.fabricFrame inp) s (fun t => t.dev.fab.frames = s.dev.fab.frames + 1 ∧ t.dev.fab.rise = s.dev.fab.rise - 1 ∧
      t.dev.fab.mute = (if s.dev.btnMutes then min (s.dev.fabFrames 5000) (s.dev.fab.mute + 1) else s.dev.fab.mute - 1) ∧
      (smGet (fun _ => false) s.dev.cod.adcOn ch = false → t.dev.poolSample (256 + ch) = 0) ∧ Only own s t)) ∧
    (runs → s.dev.fbit R.MXT_CTL_EN n = true → s.dev.fbit R.MXT_CTL_LIM_EN n = false →
      Runs (.fabricFrame inp) s (fun t => (t.dev.mixOf n).y = clampInt (-(fullScale : Int)) fullScale y ∧ (t.dev.mixOf n).own = 0 ∧
        (t.dev.mixOf n).hold = max m.hold (min y.natAbs fullScale) ∧ (t.dev.mixOf n).clips = min (m.clips + b2n (fullScale < y.natAbs)) 65535 ∧
        read t (min y.natAbs fullScale) ∧
        (m.clipSec ≠ s.dev.time.sec + 1 → fullScale < y.natAbs → bitAt (t.reg (R.MXT_STAT.at n)).toNat 0 = true) ∧ Only own s t)) ∧
    (runs → s.dev.fbit R.MXT_CTL_EN n = false → m.sink = none → m.mags ≠ [] → Runs (.fabricFrame inp) s (fun t => read t 0 ∧ Only own s t)) ∧
    (runs → s.dev.railAsks (ahead 0) = true ∨ s.dev.railAsks (ahead 1) = true →
      Runs (.fabricFrame inp) s (fun t => t.dev.fget R.COD_STAT_RAIL_HI = 1 ∧ t.dev.cod.railClk = later ∧ Only own s t)) ∧
    Runs (.mixMeterLatch n) s (fun t => t.dev.fget R.MIX_MTR_SEL_MIX = n ∧ t.dev.fget R.MIX_MTR_VALUE e = s.dev.mixEntry n e % 65536 ∧
      Only ([R.MIX_MTR_SEL.at 0] ++ (List.range 6).map (fun k => R.MIX_MTR.at k)) s t) ∧
    Runs .clrMtr s (fun t => t.dev.mixOf n = { m with hold := 0, clips := 0, redMax := 0 } ∧ Only [] s t)
/-- R37, R411, R413 to R416, R420 to R422. -/
def Obligations.PortFrames : Prop :=
  ∀ (s : State) (n : Fin 3) (f : PortFrame),
    let p := s.dev.portOf n
    let st := s.dev.portState n
    let mask := s.dev.fget R.P_TXMASK_HI_MASK n * 65536 + s.dev.fget R.P_TXMASK_LO_MASK n
    let rx := s.dev.fget R.P_RXMASK_HI_MASK n * 65536 + s.dev.fget R.P_RXMASK_LO_MASK n
    let d1 := s.dev.updPort n (fun p => { p with txMask := mask, rxMask := rx })
    let m := max 1 (d1.sentSlots n).length
    let ripe := p.maskAt = 0 ∨ ((s.dev.portMeasure n f.rate f.bpf).ratioFrame n).bclkCycles n ≤ s.dev.time.clk + 1 - p.maskAt
    let plain := ripe ∧ s.dev.audClocked = true ∧ s.dev.prt.held = false ∧ p.fall = 0 ∧ s.dev.fbit R.P_CFG_MASTER n = true ∧ s.dev.fbit R.P_CFG_GRP n = false ∧
      s.dev.fget R.PRT_LEAD_SRC ≠ n + 1 ∧ mask ≠ 0 ∧ s.dev.asrcNeeds (2 * n + 2) = false ∧ (∀ k : Fin 3, (s.dev.portOf k).wait = false)
    let alone := plain ∧ st = 3 ∧ s.dev.splStopped = false ∧ p.txPrime = false
    let word (x : List Int) (j : Nat) := slotOut (s.dev.slotWidth n) (s.dev.fbit R.P_CFG_JUST n) (x.getD ((d1.sentSlots n).getD j 0) 0)
    let words (x y : List Int) := d1.dataOut n (word x) (word y)
    let own := (List.range 3).flatMap (fun k => [R.P_STAT.at k, R.P_EVT.at k, R.P_FS_MEAS.at k, R.P_BPF_MEAS.at k, R.P_UNDERRUN.at k, R.P_OVERRUN.at k, R.P_SLIPS.at k]) ++
      [R.PRT_LEAD_STAT.at 0, R.PRT_LEAD_PPM.at 0, R.CLK_APL_PPM.at 0, R.SPD_EVT.at 0]
    (s.dev.audClocked = false → Runs (.portFrameStart n f) s (fun t => t = s)) ∧
    (s.dev.audClocked = true → st ≠ 2 → st ≠ 3 → p.fall = 0 ∨ msCycles 1 ≤ s.dev.since (p.fall - 1) → Runs (.portFrameStart n f) s (fun t =>
      t.dev.portOf n = { p with dout := [], sent := [], fall := 0 } ∧ Only [] s t)) ∧
    (s.dev.audClocked = true → st ≠ 2 → st ≠ 3 → p.fall ≠ 0 → s.dev.since (p.fall - 1) < msCycles 1 → Runs (.portFrameStart n f) s (fun t =>
      (t.dev.portOf n).sent = p.sent ∧ (t.dev.portOf n).fall = p.fall ∧ Only [] s t)) ∧
    (ripe → s.dev.audClocked = true → st = 2 ∨ st = 3 → Runs (.portFrameStart n f) s (fun t =>
      (t.dev.portOf n).txMask = mask ∧ (t.dev.portOf n).rxMask = rx ∧ (t.dev.portOf n).edge = s.dev.time.clk + 1 ∧ Only own s t)) ∧
    (plain → st = 2 → p.ramp = 0 → p.shift = 0 → s.dev.splStopped = false → Runs (.portFrameStart n f) s (fun t => (t.dev.portOf n).dout = words [] [])) ∧
    (plain → st = 3 → s.dev.splStopped = true → Runs (.portFrameStart n f) s (fun t =>
      (t.dev.portOf n).dout = words (p.sent.map (fun x => fallen 48 (s.dev.stoppedFrames + 1) x)) (p.sent.map (fun x => fallen 48 s.dev.stoppedFrames x)) ∧ (t.dev.portOf n).txFill = p.txFill ∧
      (t.dev.portOf n).rxQueue = p.rxQueue)) ∧
    (alone → s.dev.fbit R.P_CFG_LEGACY n = false → p.txFill = 0 →
      Runs (.portFrameStart n f) s (fun t => Counted s t R.P_UNDERRUN_COUNT n ∧ (t.dev.portOf n).realign = true ∧
        (t.dev.portOf n).dout = words [] p.sent ∧ bitAt (t.reg (R.P_EVT.at n)).toNat 2 = true)) ∧
    (alone → s.dev.fbit R.P_CFG_LEGACY n = true → p.txFill = 0 → f.unsent ≠ 0 → f.unsent < (d1.sentSlots n).length →
      Runs (.portFrameStart n f) s (fun t => (t.dev.portOf n).shift = (p.shift + f.unsent) % m ∧ t.dev.fget R.P_STAT_SLIPPED n = 1 ∧
        (t.dev.portOf n).dout = (words f.late p.sent).zipIdx.map (fun w =>
          if (d1.sentSlots n).length ≤ ((d1.sentSlots n).idxOf? w.2).getD 0 + f.unsent then w.1.map (fun _ => 0) else w.1) ∧
        Counted s t R.P_SLIPS_COUNT n ∧ Counted s t R.P_UNDERRUN_COUNT n ∧ bitAt (t.reg (R.P_EVT.at n)).toNat 4 = true)) ∧
    (alone → 0 < p.txFill → p.realign = false →
      Runs (.portFrameStart n f) s (fun t => (t.dev.portOf n).txFill = p.txFill - 1 ∧
        (t.dev.portOf n).dout = words (p.txHist.getD (p.txFill - 1) (0, [])).2 p.sent)) ∧
    (alone → 0 < p.txFill → p.realign = true →
      Runs (.portFrameStart n f) s (fun t => (t.dev.portOf n).txFill = 4 ∧ (t.dev.portOf n).realign = false ∧
        (t.dev.portOf n).dout = words (p.txHist.getD 4 (0, [])).2 p.sent)) ∧
    (alone → rx ≠ 0 → s.dev.asrcNeeds (2 * n + 1) = false → p.rxQueue.length < 8 →
      Runs (.portFrameStart n f) s (fun t => (t.dev.portOf n).rxQueue = p.rxQueue ++ [d1.frameIn n f.din])) ∧
    (alone → rx ≠ 0 → s.dev.asrcNeeds (2 * n + 1) = false → 8 ≤ p.rxQueue.length →
      Runs (.portFrameStart n f) s (fun t => (t.dev.portOf n).rxQueue = p.rxQueue ∧ (t.dev.portOf n).gap = true ∧ Counted s t R.P_OVERRUN_COUNT n)) ∧
    (st = 3 → 8 ≤ p.rxQueue.length → Runs (.portOverrun n) s (fun t => Counted s t R.P_OVERRUN_COUNT n ∧ Raised s t R.P_EVT_OVERRUN n ∧
      (t.dev.portOf n).gap = true ∧ (t.dev.portOf n).rxQueue = p.rxQueue ∧ Only [R.P_OVERRUN.at n, R.P_EVT.at n] s t)) ∧
    (p.rxQueue.length < 8 → Runs (.portOverrun n) s (fun t => t = s))

/-- R7, R416, R423, R424, R428, R430, R437. -/
def Obligations.PortStatesAndLeader : Prop :=
  ∀ (s : State) (n : Fin 3) (k : Fin 4) (bclk : Bool) (rate bpf : Nat),
    let p := s.dev.portOf n
    let st := s.dev.portState n
    let slave := s.dev.fbit R.P_CFG_MASTER n = false
    let gone := (if bclk then Config.sysPerMs / 500 else s.dev.twoFrames n) < s.dev.time.clk + 1 - p.edge
    let lead := [R.PRT_LEAD_STAT.at 0, R.SPD_EVT.at 0]
    let own := (List.range 3).flatMap (fun k => [R.P_STAT.at k, R.P_EVT.at k]) ++ [R.P_FS_MEAS.at n, R.P_BPF_MEAS.at n, R.P_CLK_LOSS.at n] ++ lead
    let u := s.dev.asrcUser k
    let ust := if u = 7 then s.dev.prt.spd else s.dev.portState (asrcPort u)
    (slave → st = 2 ∨ st = 3 → gone → Runs (.portClockLoss n bclk) s (fun t => t.dev.portState n = 4 ∧ t.dev.fget R.P_FS_MEAS_VALUE n = 0 ∧
      t.dev.fget R.P_BPF_MEAS_VALUE n = 0 ∧ Counted s t R.P_CLK_LOSS_COUNT n ∧ Raised s t R.P_EVT_CLK_LOSS n ∧
      (s.dev.prt.leader = n + 1 → s.dev.fget R.PRT_LEAD_SRC = n + 1 → s.dev.fget R.PRT_LEAD_STAT_STATE = 2 →
        t.dev.fget R.PRT_LEAD_STAT_STATE = 3 ∧ Raised s t R.SPD_EVT_LEAD_COAST) ∧ Only own s t)) ∧
    (slave → st = 2 ∨ st = 3 → ¬ gone → Runs (.portClockLoss n bclk) s (fun t => t = s)) ∧
    (slave → st = 0 → p.offAt = s.dev.time.clk + 1 → Runs (.portClockLoss n bclk) s (fun t => t.dev.portState n = 0 ∧
      Counted s t R.P_CLK_LOSS_COUNT n ∧ Raised s t R.P_EVT_CLK_LOSS n ∧ Only [R.P_CLK_LOSS.at n, R.P_EVT.at n] s t)) ∧
    (¬ slave → Runs (.portClockLoss n bclk) s (fun t => t = s)) ∧
    (s.dev.audRuns = true → st = 1 ∨ st = 4 → Runs (.portClockPresent n rate bpf) s (fun t => t.dev.portState n = 2 ∧
      (slave → t.dev.fget R.P_FS_MEAS_VALUE n = min rate 65535 ∧ t.dev.fget R.P_BPF_MEAS_VALUE n = min bpf 65535) ∧
      (st = 4 → bitAt (t.reg (R.P_EVT.at n)).toNat 1 = true) ∧ (t.dev.portOf n).txFill = 0 ∧ (t.dev.portOf n).rxQueue = [] ∧ Only own s t)) ∧
    (st ≠ 1 → st ≠ 4 → Runs (.portClockPresent n rate bpf) s (fun t => t = s)) ∧
    (st = 2 → p.ramp ≠ 0 → msCycles 10 ≤ s.dev.time.clk + 1 - p.ramp →
      Runs (.portStartDone (n.castLE (by decide))) s (fun t => t.dev.portState n = 3 ∧ Only own s t)) ∧
    (s.dev.time.clk + 1 - p.ramp < msCycles 10 → Runs (.portStartDone (n.castLE (by decide))) s (fun t => t = s)) ∧
    (s.dev.prt.spd = 2 → s.dev.asrcsLocked 3 = true → 4 ≤ s.dev.prt.spdQueue.length ∨ s.dev.asrcNeeds 7 = true → Runs (.portStartDone 3) s (fun t => t.dev.prt.spd = 3 ∧ Only [] s t)) ∧
    (st = 3 → Runs (.portRestart n) s (fun t => t.dev.portState n = 2 ∧ (t.dev.portOf n).txFill = 0 ∧ (t.dev.portOf n).rxQueue = [] ∧
      (t.dev.portOf n).shift = 0 ∧ t.dev.fget R.P_STAT_SLIPPED n = 0 ∧ Only own s t)) ∧
    (st ≠ 3 → Runs (.portRestart n) s (fun t => t = s)) ∧
    (u ≠ 0 → ust = 2 ∨ ust = 3 → Runs (.asrcLock k) s (fun t => bitAt t.dev.prt.locked k = true ∧ Only [] s t)) ∧
    (u = 0 → Runs (.asrcLock k) s (fun t => t = s)) ∧
    (s.dev.fget R.PRT_LEAD_STAT_STATE = 1 → 2 * Config.sysPerSecond ≤ s.dev.since s.dev.prt.acqClk →
      Runs .leaderLoopLock s (fun t => Wrote s t R.PRT_LEAD_STAT_STATE 0 2 ∧ Raised s t R.SPD_EVT_LEAD_LOCK ∧ Only lead s t)) ∧
    (s.dev.fget R.PRT_LEAD_STAT_STATE ≠ 1 → Runs .leaderLoopLock s (fun t => t = s))

/-- R7, R417, R421, R428, R432 to R434. -/
def Obligations.SpdifReceiver : Prop :=
  ∀ (s : State) (rate : Nat) (cs user : List Byte) (still : Bool) (f : SpdSub × SpdSub) (old : List Nat) (i : Fin 12),
    let lock := s.dev.fbit R.SPD_RX_STAT_LOCK
    let c := (cs.take 24).map BitVec.toNat
    let lead := [R.PRT_LEAD_STAT.at 0, R.SPD_EVT.at 0]
    let own := [R.SPD_RX_STAT.at 0, R.SPD_RX_FS.at 0] ++ lead
    let kept := s.dev.prt.cs.getD []
    let gone := (if still then Config.sysPerMs / 500 else 2 * Config.sysPerSecond / max 1 (10 * s.dev.fget R.SPD_RX_FS_FS)) < s.dev.time.clk + 1 - s.dev.prt.spdEdge
    let l := if f.1.parityOk then sat24 f.1.sample else s.dev.prt.spdLast.1
    let r := if f.2.parityOk then sat24 f.2.sample else s.dev.prt.spdLast.2
    (s.dev.audRuns = true → s.dev.fbit R.SPD_RX_CFG_EN = true → lock = false →
      Runs (.spdRxLock rate) s (fun t => t.dev.fget R.SPD_RX_STAT_LOCK = 1 ∧ t.dev.fget R.SPD_RX_FS_FS = min rate 65535 ∧ t.dev.prt.spd = 2 ∧
        bitAt (t.reg (R.SPD_EVT.at 0)).toNat 0 = true ∧ Only own s t)) ∧
    (s.dev.fbit R.SPD_RX_CFG_EN = false ∨ lock = true → Runs (.spdRxLock rate) s (fun t => t = s)) ∧
    (lock = true → gone → Runs (.spdRxLoss still) s (fun t => t.dev.fget R.SPD_RX_STAT_LOCK = 0 ∧ t.dev.fget R.SPD_RX_FS_FS = 0 ∧ t.dev.prt.spd = 0 ∧
      t.dev.fget R.SPD_RX_STAT_NONAUDIO = 0 ∧ Counted s t R.SPD_RX_LOSS_COUNT ∧ bitAt (t.reg (R.SPD_EVT.at 0)).toNat 1 = true ∧
      Only (own ++ [R.SPD_RX_LOSS.at 0]) s t)) ∧
    (lock = false ∨ ¬ gone → Runs (.spdRxLoss still) s (fun t => t = s)) ∧
    (lock = true → s.dev.audClocked = true → s.dev.splStopped = false → s.dev.prt.spd = 3 → s.dev.asrcNeeds 7 = false →
      s.dev.fbit R.SPD_RX_STAT_NONAUDIO = false → s.dev.fbit R.SPD_RX_CFG_VMUTE = false → s.dev.prt.spdQueue.length < 8 →
      Runs (.fabricFrame { line := [], spd := [f] }) s (fun t =>
        t.dev.fget R.SPD_RX_PARITY_COUNT = min (s.dev.fget R.SPD_RX_PARITY_COUNT + b2n (!f.1.parityOk) + b2n (!f.2.parityOk)) 65535 ∧
        t.dev.prt.spdLast = (l, r) ∧ t.dev.prt.spdQueue = (s.dev.prt.spdQueue ++ [[l, r]]).drop 1 ∧
        t.dev.prt.spdLine.head? = some (((s.dev.prt.spdQueue ++ [[l, r]]).headD []).getD 0 0, ((s.dev.prt.spdQueue ++ [[l, r]]).headD []).getD 1 0) ∧
        t.dev.prt.spdSrc = s.dev.prt.spdLine.getD (divNear (s.dev.fabricRate * 1500) 1000000 - 1) (0, 0) ∧
        t.dev.prt.spdV = (s.dev.prt.spdV || f.1.v || f.2.v) ∧ t.dev.prt.spdEdge = s.dev.time.clk + 1)) ∧
    (lock = true → s.dev.prt.cs = some old →
      Runs (.zPreamble cs user) s (fun t => t.dev.prt.cs = some c ∧ t.dev.prt.user = (user.take 24).map BitVec.toNat ∧
        bitAt (t.reg (R.SPD_EVT.at 0)).toNat 3 = true ∧ (old ≠ c → bitAt (t.reg (R.SPD_EVT.at 0)).toNat 2 = true) ∧
        t.dev.fbit R.SPD_RX_STAT_VBIT = s.dev.prt.spdV ∧ t.dev.prt.spdV = false ∧ t.dev.fbit R.SPD_RX_STAT_NONAUDIO = bitAt (c.getD 0 0) 1 ∧
        Only [R.SPD_RX_STAT.at 0, R.SPD_EVT.at 0] s t)) ∧
    (lock = false → Runs (.zPreamble cs user) s (fun t => t = s)) ∧
    Runs .spdRxLatch s (fun t =>
      t.dev.fget R.SPD_RX_CS_DATA i = (kept.getD (2 * i) 0 * 256 + kept.getD (2 * i + 1) 0) % 65536 ∧
      t.dev.fget R.SPD_RX_U_DATA i = (s.dev.prt.user.getD (2 * i) 0 * 256 + s.dev.prt.user.getD (2 * i + 1) 0) % 65536 ∧
      Only ((List.range 12).flatMap (fun k => [R.SPD_RX_CS.at k, R.SPD_RX_U.at k])) s t)
/-- R49, R484, R485. -/
def Obligations.CoexistenceSignals : Prop :=
  ∀ (s : State) (x : SlkTx) (c : SlkCur),
    let was := s.dev.fbit R.CX_STAT_ACT
    let slk := [R.SLK_STAT.at 0, R.SLK_EVT.at 0, R.SLK_RXQ_OVF.at 0, R.CX_STAT.at 0]
    let ramp := usCycles (4 * s.dev.fget R.SLK_RAMP_VALUE)
    let backs (t : State) (c' : SlkCur) (k : Nat) := t.dev.slk.cur.map (fun y => { y with wait := 0 }) = some { c' with wait := 0 } ∧
      (t.dev.slk.cur.map (·.wait)).getD 0 ≤ s.dev.fget R.SLK_RETRY_SLOT * (2 ^ min k (s.dev.fget R.SLK_RETRY_BE_MAX) - 1)
    (was = false → Runs (.cxActChange true) s (fun t => Wrote s t R.CX_STAT_ACT 0 1 ∧ Raised s t R.CX_EVT_ACT_RISE ∧ t.dev.cx.blank = true ∧
      Only [R.CX_STAT.at 0, R.CX_EVT.at 0] s t)) ∧
    (was = true → Runs (.cxActChange false) s (fun t => Wrote s t R.CX_STAT_ACT 0 0 ∧ t.dev.cx.rel = s.dev.time.clk ∧
      t.dev.cx.blank = s.dev.cx.blank ∧ Only [R.CX_STAT.at 0] s t)) ∧
    (s.dev.cx.blank = true → s.dev.cx.tx = false → was = false → usCycles 200 ≤ s.dev.since s.dev.cx.rel →
      Runs .blankingEnd s (fun t => t.dev.cx.blank = false ∧ t.dev.cx.image = none ∧ (∀ n : Fin 41, t.dev.fbit R.DBE_STAT_CXA n = false) ∧
        Only ((List.range 41).map (fun n => R.DBE_STAT.at n)) s t)) ∧
    (s.dev.cx.tx = true ∨ was = true ∨ s.dev.since s.dev.cx.rel < usCycles 200 → Runs .blankingEnd s (fun t => t = s)) ∧
    (s.dev.slk.tx = none → Runs .cxGrant s (fun t => Wrote s t R.CX_STAT_GNT 0 1 ∧ t.dev.slk = s.dev.slk ∧ Only [R.CX_STAT.at 0] s t)) ∧
    (s.dev.slk.tx = some x → x.phase = 2 → x.isAck = false → s.dev.fbit R.SLK_HOP_CFG_LBT x.hop = true →
      Runs .cxGrant s (fun t => t.dev.slk.tx.map (fun y => { y with wait := 0 }) = some { x with phase := 3, clk := s.dev.time.clk, wait := 0 } ∧
        10 ≤ (t.dev.slk.tx.map (·.wait)).getD 0 ∧ (t.dev.slk.tx.map (·.wait)).getD 0 ≤ 20 ∧ t.dev.fget R.SLK_STAT_STATE = 4 ∧
        t.dev.fget R.CX_STAT_GNT = 1 ∧ Only [R.CX_STAT.at 0, R.SLK_STAT.at 0] s t)) ∧
    (s.dev.slk.tx = some x → x.phase = 2 → usCycles (100 * s.dev.fget R.CX_CFG_GNT_TMO) < s.dev.since x.clk → x.isAck = true →
      Runs .cxGrantTimeout s (fun t => t.dev.slk.tx = none ∧ t.dev.slk.cur = s.dev.slk.cur ∧ Counted s t R.CX_DENIED_COUNT ∧ Raised s t R.CX_EVT_DENIED ∧
        t.dev.fget R.CX_STAT_REQ = 0 ∧ Only (slk ++ [R.CX_DENIED.at 0, R.CX_EVT.at 0]) s t)) ∧
    (s.dev.slk.tx = some x → x.phase = 2 → usCycles (100 * s.dev.fget R.CX_CFG_GNT_TMO) < s.dev.since x.clk → x.isAck = false →
      s.dev.slk.cur = some c → c.denied + 1 ≤ s.dev.fget R.SLK_RETRY_MAX →
      Runs .cxGrantTimeout s (fun t => t.dev.slk.tx = none ∧ backs t { c with denied := c.denied + 1, phase := 2, clk := s.dev.time.clk } (c.denied + 1) ∧
        Counted s t R.CX_DENIED_COUNT ∧ Only (slk ++ [R.CX_DENIED.at 0, R.CX_EVT.at 0]) s t)) ∧
    (s.dev.slk.tx = some x → x.phase = 2 → usCycles (100 * s.dev.fget R.CX_CFG_GNT_TMO) < s.dev.since x.clk → x.isAck = false →
      s.dev.slk.cur = some c → s.dev.fget R.SLK_RETRY_MAX < c.denied + 1 →
      Runs .cxGrantTimeout s (fun t => t.dev.slk.tx = none ∧ t.dev.slk.cur = none ∧
        t.dev.slk.reports.getLast? = some ([2, c.req.seq, 4, c.retries] ++ beWord c.req.dst ++ [0]) ∧
        bitAt (t.reg (R.SLK_EVT.at 0)).toNat 3 = true ∧ Only (slk ++ [R.CX_DENIED.at 0, R.CX_EVT.at 0]) s t)) ∧
    (s.dev.slk.tx = some x → x.phase = 5 → s.dev.time.clk + ramp < x.stop → s.dev.fbit R.CX_CFG_EN = true → s.dev.fbit R.CX_CFG_GNT_ABORT = true →
      Runs .cxGrantWithdrawn s (fun t => t.dev.slk.tx = some { x with stop := s.dev.time.clk + ramp, cut := some 6 } ∧ Counted s t R.CX_ABORTS_COUNT ∧
        Raised s t R.CX_EVT_ABORT ∧ t.dev.fget R.CX_STAT_GNT = 0 ∧ Only [R.CX_STAT.at 0, R.CX_ABORTS.at 0, R.CX_EVT.at 0] s t)) ∧
    (s.dev.slk.tx = none → Runs .cxGrantWithdrawn s (fun t => Wrote s t R.CX_STAT_GNT 0 0 ∧ t.dev.slk = s.dev.slk ∧ Only [R.CX_STAT.at 0] s t))

/-- R471, R488, R495, R497, R498. -/
def Obligations.SiteLinkHostCommands : Prop :=
  ∀ (s : State) (r : MbxReq) (p : List Nat) (rest : List (List Nat)) (c : SlkCur) (q : SlkReq) (h : Fin 64) (j : Fin 8) (k : Nat),
    let o := r.offset
    let on := s.dev.fget R.SLK_CFG_ROLE ≠ 0
    let moved := s.dev.since s.dev.slk.binClk / (60 * Config.sysPerSecond)
    let well := r.data.length ≤ 240 ∧ bitAt o 13 = false ∧ bitAt o 7 = false ∧ bitAt o 6 = false
    let slk := [R.SLK_STAT.at 0, R.SLK_EVT.at 0, R.SLK_RXQ_OVF.at 0, R.CX_STAT.at 0]
    (s.dev.mbxWork 0x60 = some r → on → well → s.dev.slk.queue.length < 8 →
      Runs .siteLinkSend s (fun t => t.dev.mbx.result = some (0, [s.dev.slk.nextSeq]) ∧
        t.dev.slk.queue = s.dev.slk.queue ++ [⟨s.dev.slk.nextSeq, o / 65536, bitAt o 15, bitAt o 14, o / 256 % 32, o % 64, r.data⟩] ∧
        t.dev.slk.nextSeq = (s.dev.slk.nextSeq + 1) % 256 ∧ t.dev.fget R.SLK_STAT_TXQ = s.dev.slk.queue.length + 1 ∧ Only [R.SLK_STAT.at 0] s t)) ∧
    (s.dev.mbxWork 0x60 = some r → on → well → 8 ≤ s.dev.slk.queue.length →
      Runs .siteLinkSend s (fun t => t.dev.mbx.result = some (1, []) ∧ t.dev.slk = s.dev.slk ∧ Only [] s t)) ∧
    (s.dev.mbxWork 0x60 = some r → on → ¬ well → Runs .siteLinkSend s (fun t => t.dev.mbx.result = some (2, []) ∧ t.dev.slk = s.dev.slk ∧ Only [] s t)) ∧
    (s.dev.mbxWork 0x60 = some r → ¬ on → Runs .siteLinkSend s (fun t => t.dev.mbx.result = some (6, []) ∧ t.dev.slk = s.dev.slk ∧ Only [] s t)) ∧
    (s.dev.mbxWork 0x61 = some r → on → o = 0 → s.dev.slk.reports = p :: rest →
      Runs .nextReport s (fun t => t.dev.mbx.result = some (0, p) ∧ t.dev.slk.reports = rest ∧ Only [] s t)) ∧
    (s.dev.mbxWork 0x61 = some r → on → o = 0 → s.dev.slk.reports = [] →
      Runs .nextReport s (fun t => t.dev.mbx.result = some (0, [0]) ∧ Only [] s t)) ∧
    (s.dev.mbxWork 0x62 = some r → on → o < 1024 →
      Runs .gatewayTableRead s (fun t => t.dev.slk = s.dev.slk ∧ Only [] s t ∧ t.dev.mbx.result = some (0, (min 16 (1024 - o)) ::
        (beWord (s.dev.fget R.SLK_GW_NODES_VALUE) ++ (List.range (min 16 (1024 - o))).flatMap (fun i => gwBytes (smGet (fun _ => none) s.dev.slk.gw (o + i))))))) ∧
    (s.dev.mbxWork 0x62 = some r → on → 1024 ≤ o → Runs .gatewayTableRead s (fun t => t.dev.mbx.result = some (2, []) ∧ Only [] s t)) ∧
    (s.dev.slk.tx = none → s.dev.slk.cur = some c → s.dev.slk.queue = [q] → s.dev.slk.reports.length < 14 →
      Runs .flush s (fun t => t.dev.slk.queue = [] ∧ t.dev.slk.cur = none ∧ t.dev.fget R.SLK_STAT_TXQ = 0 ∧
        t.dev.slk.reports = s.dev.slk.reports ++ [[2, c.req.seq, 7, c.retries] ++ beWord c.req.dst ++ [0], [2, q.seq, 7, 0] ++ beWord q.dst ++ [0]] ∧
        Only slk s t)) ∧
    (s.dev.domOn 7 = true → Runs .recal s (fun t => t.dev.fbit R.SLK_HOP_CAL_VALID h = false ∧
      (s.dev.fget R.TMP_MAX_TEMP ≠ 0x8000 → t.dev.fget R.SLK_CALT_VALUE = s.dev.fget R.TMP_MAX_TEMP) ∧
      Only ([R.SLK_CALT.at 0] ++ (List.range 64).map (fun h => R.SLK_HOP_CAL.at h)) s t)) ∧
    (s.dev.domOn 7 = false → Runs .recal s (fun t => t = s)) ∧
    (moved = 0 → Runs .ledgerBin s (fun t => t = s)) ∧
    (1 ≤ moved → k + moved < 60 → smWf (fun _ => 0) s.dev.slk.bins = true →
      Runs .ledgerBin s (fun t => smGet (fun _ => 0) t.dev.slk.bins (60 * j + k + moved) = smGet (fun _ => 0) s.dev.slk.bins (60 * j + k) ∧
        smGet (fun _ => 0) t.dev.slk.bins (60 * j) = 0 ∧ t.dev.slk.binClk = s.dev.slk.binClk + moved * (60 * Config.sysPerSecond) ∧
        Only ((List.range 8).map (fun j => R.SLK_LDG_USED.at j)) s t))

/-- R481, R483, R486, R487, R496. The airtime is charged at this check: log entry 24. -/
def Obligations.TransmissionAndLedger : Prop :=
  ∀ (s : State) (q : SlkReq) (rest : List SlkReq) (j : Nat),
    let tx := s.dev.reqTx q
    let air := (s.dev.airtime tx).2
    let js := s.dev.ledgerOf q.hop
    let d := s.dev.ledgerMove
    let exceeds := js.any (fun j => decide (s.dev.fget R.SLK_LDG_LIM_VALUE j * 360 < d.ledgerUsed j + air))
    let ready := s.dev.slkOn = true ∧ s.dev.slk.runs = true ∧ s.dev.slk.rx = none ∧ s.dev.slk.tx = none ∧ s.dev.slk.ack = none ∧ s.dev.slk.cur = none ∧ s.dev.slk.queue = q :: rest
    let here := s.dev.slkTuned q.hop = true ∧ s.dev.fbit R.SLK_STAT_LOCKED = true
    let free := s.dev.fbit R.CX_CFG_EN = false ∧ s.dev.fbit R.SLK_HOP_CFG_LBT q.hop = false
    let ext := s.dev.fbit R.SLK_PWR_CFG_EXT tx.pwr = true
    let own := [R.SLK_STAT.at 0, R.SLK_EVT.at 0, R.SLK_RXQ_OVF.at 0, R.CX_STAT.at 0, R.SLK_TX_PKT.at 0, R.SLK_LDG_REFUSE.at 0,
      R.DAB_EVT.at 0] ++ (List.range 8).map (fun j => R.SLK_LDG_USED.at j) ++ (List.range 41).map (fun n => R.DBE_STAT.at n)
    (s.dev.slkOn = false ∨ s.dev.slk.runs = false ∨ s.dev.slk.rx.isSome = true ∨ s.dev.slk.tx.isSome = true ∨ s.dev.slk.ack.isSome = true →
      Runs .transmissionDue s (fun t => t = s)) ∧
    (ready → ¬ here → Runs .transmissionDue s (fun t => t.dev.slk.queue = rest ∧ t.dev.slk.tx = some { tx with phase := 1, clk := s.dev.time.clk } ∧
      t.dev.fget R.SLK_STAT_HOP = q.hop % 64 ∧
      (s.dev.slkTuned q.hop = false → t.dev.slk.freq = s.dev.fget R.SLK_HOP_FREQ_FREQ q.hop ∧ t.dev.slk.hopClk = s.dev.time.clk) ∧
      (s.dev.slkTuned q.hop = false → s.dev.fbit R.SLK_HOP_CAL_VALID q.hop = true → t.dev.fget R.SLK_STAT_STATE = 1 ∧
        t.dev.slk.band = s.dev.fget R.SLK_HOP_CAL_BAND q.hop ∧ t.dev.slk.fcap = s.dev.fget R.SLK_HOP_CAL_FCAP q.hop) ∧
      (s.dev.slkTuned q.hop = false → s.dev.fbit R.SLK_HOP_CAL_VALID q.hop = false → t.dev.fget R.SLK_STAT_STATE = 7 ∧ t.dev.slk.calib = true) ∧
      Only own s t)) ∧
    (ready → here → free → ¬ ext → js = [] → Runs .transmissionDue s (fun t => t.dev.slk.tx = none ∧ t.dev.slk.cur = none ∧ t.dev.slk.bins = d.slk.bins ∧
      t.dev.slk.reports.getLast? = some ([2, q.seq, 8, 0] ++ beWord q.dst ++ [0]) ∧ Only own s t)) ∧
    (ready → here → free → ¬ ext → js ≠ [] → exceeds = true → Runs .transmissionDue s (fun t => t.dev.slk.tx = none ∧ t.dev.slk.cur = none ∧
      t.dev.slk.bins = d.slk.bins ∧ t.dev.slk.reports.getLast? = some ([2, q.seq, 2, 0] ++ beWord q.dst ++ [0]) ∧
      Counted s t R.SLK_LDG_REFUSE_COUNT ∧ Only own s t)) ∧
    (ready → here → free → ¬ ext → j ∈ js → exceeds = false →
      Runs .transmissionDue s (fun t => t.dev.slk.queue = rest ∧ t.dev.slk.tx.map (fun x => (x.phase, x.frame, x.hop, x.isAck)) = some (5, tx.frame, q.hop, false) ∧
        t.dev.ledgerUsed j = d.ledgerUsed j + air ∧ t.dev.ledgerUsed j ≤ s.dev.fget R.SLK_LDG_LIM_VALUE j * 360 ∧
        t.dev.slk.onAir = symbols tx.mode (s.dev.airBits tx.mode tx.r23 tx.frame) ∧
        t.dev.slk.power = clampInt (-100) 160 (s.dev.fgetI R.SLK_PWR_LEVEL_LEVEL tx.pwr + s.dev.fgetI R.SLK_PWR_CFG_TRIM tx.pwr) ∧
        Counted s t R.SLK_TX_PKT_COUNT ∧ t.dev.cx.tx = true ∧ t.dev.cx.blank = true ∧ t.dev.fget R.SLK_STAT_STATE = 5 ∧ Only own s t)) ∧
    (ready → here → free → ext →
      Runs .transmissionDue s (fun t => t.dev.slk.tx.map (fun x => (x.phase, x.step, x.frame)) = some (4, 0, tx.frame) ∧ t.dev.slk.tr = true ∧
        t.dev.cx.tx = s.dev.cx.tx ∧ Only own s t))

/-- R470, R473, R480, R482, R492. -/
def Obligations.TransmissionSteps : Prop :=
  ∀ (s : State) (band : Fin 64) (fcap : Fin 512) (a : SlkAck) (x : SlkTx) (c : SlkCur) (mean : Int),
    let clk := s.dev.time.clk
    let stat := s.dev.fget R.SLK_STAT_STATE
    let hop := s.dev.fget R.SLK_STAT_HOP
    let base := [R.SLK_STAT.at 0, R.SLK_EVT.at 0, R.SLK_RXQ_OVF.at 0, R.CX_STAT.at 0]
    let m := mean - s.dev.fgetI R.SLK_RX_GAIN_GAIN
    (s.dev.slk.ack = some a → s.dev.since a.clk < msCycles 2 → Runs .ackSend s (fun t => t = s)) ∧
    (s.dev.slk.ack = some a → msCycles 2 ≤ s.dev.since a.clk → s.dev.slkOn = true → s.dev.slk.tx = none → s.dev.slk.rx = none → s.dev.slkTuned a.hop = true →
      s.dev.fbit R.SLK_STAT_LOCKED = true → s.dev.fbit R.CX_CFG_EN = true → s.dev.fbit R.CX_STAT_GNT = false →
      Runs .ackSend s (fun t => t.dev.slk.ack = none ∧ t.dev.fget R.CX_STAT_REQ = 1 ∧ t.dev.fget R.CX_STAT_PRI = 1 ∧ t.dev.fget R.SLK_STAT_STATE = 2 ∧
        t.dev.slk.tx.map (fun x => (x.phase, x.isAck, x.frame, x.hop)) =
          some (2, true, [64, a.seq] ++ beWord a.dst ++ beWord (s.dev.fget R.SLK_ADDR_ADDR), a.hop) ∧ Only [R.CX_STAT.at 0, R.SLK_STAT.at 0] s t)) ∧
    (s.dev.fbit R.SLK_STAT_LOCKED = false → stat = 1 ∨ stat = 7 → usCycles 10 ≤ s.dev.since s.dev.slk.hopClk → s.dev.slk.tx = none → s.dev.slk.calib = true → s.dev.slkTuned (s.dev.fget R.SLK_LISTEN_HOP) = true →
      Runs (.lsyLock band fcap) s (fun t => t.dev.fget R.SLK_STAT_LOCKED = 1 ∧ t.dev.fget R.SLK_HOP_CAL_BAND hop = band ∧
        t.dev.fget R.SLK_HOP_CAL_FCAP hop = fcap ∧ t.dev.fget R.SLK_HOP_CAL_VALID hop = 1 ∧ t.dev.slk.calib = false ∧
        t.dev.slk.runs = true ∧ t.dev.slk.band = band ∧ t.dev.slk.fcap = fcap ∧ bitAt (t.reg (R.SLK_EVT.at 0)).toNat R.SLK_EVT_CAL.lo = true ∧ Only (base ++ [R.SLK_HOP_CAL.at hop]) s t)) ∧
    (s.dev.fbit R.SLK_STAT_LOCKED = false → stat = 1 → usCycles 10 ≤ s.dev.since s.dev.slk.hopClk → s.dev.slk.calib = false → s.dev.slk.tx = some x → x.phase = 1 →
      x.hop = hop → s.dev.fbit R.CX_CFG_EN = true → s.dev.fbit R.CX_STAT_GNT = false →
      Runs (.lsyLock band fcap) s (fun t => t.dev.fget R.SLK_STAT_LOCKED = 1 ∧ t.dev.slk.tx = some { x with phase := 2, clk := clk } ∧
        Counted s t R.SLK_TX_DEFER_COUNT ∧ bitAt (t.reg (R.SLK_EVT.at 0)).toNat R.SLK_EVT_TX_DEFER.lo = true ∧ t.dev.fget R.CX_STAT_REQ = 1 ∧
        t.dev.fget R.SLK_STAT_STATE = 2 ∧ Only (base ++ [R.SLK_TX_DEFER.at 0]) s t)) ∧
    (s.dev.fbit R.SLK_STAT_LOCKED = true ∨ s.dev.since s.dev.slk.hopClk < usCycles 10 → Runs (.lsyLock band fcap) s (fun t => t = s)) ∧
    (s.dev.slk.tx = some x → x.phase = 1 → usCycles (100 * s.dev.fget R.SLK_LOCK_TMO_VALUE) < s.dev.since x.due → x.isAck = false → s.dev.slk.cur = some c →
      Runs .lsyLockTimeout s (fun t => t.dev.slk.tx = none ∧ t.dev.slk.cur = none ∧ Counted s t R.SLK_LOCK_ABORT_COUNT ∧
        bitAt (t.reg (R.SLK_EVT.at 0)).toNat 9 = true ∧ t.dev.fget R.SLK_STAT_HOP = s.dev.fget R.SLK_LISTEN_HOP ∧
        t.dev.slk.reports.getLast? = some ([2, c.req.seq, 5, c.retries] ++ beWord c.req.dst ++ [0]) ∧ Only (base ++ [R.SLK_LOCK_ABORT.at 0]) s t)) ∧
    (s.dev.slk.tx = some x → x.phase ≠ 1 → Runs .lsyLockTimeout s (fun t => t = s)) ∧
    (s.dev.slk.tx = some x → x.phase = 3 → msCycles x.wait / 2 ≤ s.dev.since x.clk → -10 * (s.dev.fget R.SLK_LBT_TH : Int) ≤ m → s.dev.slk.cur = some c →
      c.busy + 1 < s.dev.fget R.SLK_LBT_TRIES →
      Runs (.lbtListenEnd mean) s (fun t => t.dev.slk.tx = none ∧ t.dev.slk.cur.map (fun y => { y with wait := 0 }) = some { c with busy := c.busy + 1, phase := 2, clk := clk, wait := 0 } ∧
        (t.dev.slk.cur.map (·.wait)).getD 0 ≤ (s.dev.fget R.SLK_RETRY_SLOT * (2 ^ min (c.busy + 1) (s.dev.fget R.SLK_RETRY_BE_MAX) - 1)) ∧
        Counted s t R.SLK_LBT_BUSY_COUNT ∧ smGet (fun _ => (-32768 : Int)) t.dev.slk.noise x.hop = m ∧ Only (base ++ [R.SLK_LBT_BUSY.at 0]) s t)) ∧
    (s.dev.slk.tx = some x → s.dev.since x.clk < msCycles x.wait / 2 → Runs (.lbtListenEnd mean) s (fun t => t = s)) ∧
    (s.dev.slk.tx = some x → x.phase = 4 → x.step = 0 → usCycles (s.dev.fget R.SLK_XPA_ON_D1) ≤ s.dev.since x.clk →
      Runs .extPaStep s (fun t => t.dev.slk.paEn = true ∧ t.dev.slk.tx = some { x with step := 1, clk := clk } ∧ Only [] s t)) ∧
    (s.dev.slk.tx = some x → x.phase = 6 → x.step = 0 → usCycles (s.dev.fget R.SLK_XPA_OFF_D3) ≤ s.dev.since x.clk →
      Runs .extPaStep s (fun t => t.dev.slk.paEn = false ∧ t.dev.slk.tx = some { x with step := 1, clk := clk } ∧ Only [] s t)) ∧
    (s.dev.slk.tx = some x → x.phase = 6 → x.step = 1 → usCycles (s.dev.fget R.SLK_XPA_OFF_D4) ≤ s.dev.since x.clk →
      Runs .extPaStep s (fun t => t.dev.slk.tx = none ∧ t.dev.slk.tr = false ∧ t.dev.fget R.CX_STAT_REQ = 0 ∧ Only base s t)) ∧
    (s.dev.slk.tx = none → Runs .extPaStep s (fun t => t = s))

/-- R483, R493, R494, R498. -/
def Obligations.TransmissionOutcomes : Prop :=
  ∀ (s : State) (x : SlkTx) (c : SlkCur),
    let clk := s.dev.time.clk
    let base := [R.SLK_STAT.at 0, R.SLK_EVT.at 0, R.SLK_RXQ_OVF.at 0, R.CX_STAT.at 0]
    let dab := [R.DAB_EVT.at 0] ++ (List.range 41).map (fun n => R.DBE_STAT.at n)
    (s.dev.slk.tx = some x → x.phase = 5 → x.stop ≤ clk → x.isAck = false → x.cut = none → s.dev.fbit R.SLK_PWR_CFG_EXT x.pwr = false →
      s.dev.slk.cur = some c → c.req.ack = true →
      Runs .txEnd s (fun t => t.dev.slk.tx = none ∧ t.dev.slk.cur.map (fun c => (c.phase, c.clk)) =
          some (1, x.stop - usCycles (4 * s.dev.fget R.SLK_RAMP_VALUE)) ∧ t.dev.cx.tx = false ∧ t.dev.cx.rel = clk ∧ Only (base ++ dab) s t)) ∧
    (s.dev.slk.tx = some x → x.phase = 5 → x.stop ≤ clk → x.isAck = false → x.cut = none → s.dev.slk.cur = some c → c.req.ack = false →
      Runs .txEnd s (fun t => t.dev.slk.cur = none ∧ t.dev.cx.tx = false ∧
        t.dev.slk.reports.getLast? = some ([2, c.req.seq, 0, c.retries] ++ beWord c.req.dst ++ [0]) ∧ Only (base ++ dab) s t)) ∧
    (s.dev.slk.tx = some x → clk < x.stop → Runs .txEnd s (fun t => t = s)) ∧
    (s.dev.slk.cur = some c → c.phase = 1 → msCycles (s.dev.fget R.SLK_ACK_TMO) < s.dev.since c.clk → c.retries < s.dev.fget R.SLK_RETRY_MAX →
      Runs .ackTimeout s (fun t => t.dev.slk.cur.map (fun y => { y with wait := 0 }) = some { c with retries := c.retries + 1, phase := 2, clk := clk, busy := 0, denied := 0, wait := 0 } ∧
        (t.dev.slk.cur.map (·.wait)).getD 0 ≤ (s.dev.fget R.SLK_RETRY_SLOT * (2 ^ min (c.retries + 1) (s.dev.fget R.SLK_RETRY_BE_MAX) - 1)) ∧
        Counted s t R.SLK_RETRIES_COUNT ∧ Only (base ++ [R.SLK_RETRIES.at 0]) s t)) ∧
    (s.dev.slk.cur = some c → c.phase = 1 → msCycles (s.dev.fget R.SLK_ACK_TMO) < s.dev.since c.clk → s.dev.fget R.SLK_RETRY_MAX ≤ c.retries →
      Runs .ackTimeout s (fun t => t.dev.slk.cur = none ∧ Counted s t R.SLK_ACK_FAIL_COUNT ∧
        t.dev.slk.reports.getLast? = some ([2, c.req.seq, 1, c.retries] ++ beWord c.req.dst ++ [0]) ∧ Only (base ++ [R.SLK_ACK_FAIL.at 0]) s t)) ∧
    (s.dev.slk.cur = some c → s.dev.since c.clk ≤ msCycles (s.dev.fget R.SLK_ACK_TMO) → Runs .ackTimeout s (fun t => t = s)) ∧
    (s.dev.slk.cur = some c → c.phase = 2 → c.clk + msCycles c.wait ≤ clk → s.dev.slk.rx.isSome = true →
      Runs .backoffExpiry s (fun t => t.dev.slk.cur = some { c with phase := 0 } ∧ Only [] s t)) ∧
    (s.dev.slk.cur = some c → c.phase ≠ 2 ∨ clk < c.clk + msCycles c.wait → Runs .backoffExpiry s (fun t => t = s))

/-- R474 to R479, R491, R492, R495. -/
def Obligations.SiteLinkReception : Prop :=
  ∀ (s : State) (level : Int) (bits : BitVec 16) (sync : BitVec 32) (r : SlkRx) (word : BitVec 24) (info len : Nat) (decoded : List Byte) (its : List Nat) (r23 : Bool),
    let l := level - s.dev.fgetI R.SLK_RX_GAIN_GAIN
    let hop := s.dev.fget R.SLK_STAT_HOP
    let mode := s.dev.fget R.SLK_HOP_CFG_MODE hop
    let k := s.dev.slk
    let pats := if 3 ≤ mode then [0x7777, 0xDDDD] else [0xAAAA, 0x5555]
    let near := ∃ p ∈ pats, weightOf 16 (p ^^^ bits.toNat) ≤ 1
    let errors := weightOf 32 ((s.dev.fget R.SLK_SYNC_HI_SYNC * 65536 + s.dev.fget R.SLK_SYNC_LO_SYNC) ^^^ sync.toNat)
    let heard := s.dev.slkHears = true ∧ errors ≤ s.dev.fget R.SLK_PHY_SYNC_ERR
    let strong := s.dev.fbit R.SLK_CFG_CAPT_EN = true ∧ r.level + 10 * s.dev.fget R.SLK_CAPT_DB_VALUE ≤ l
    let last := r.head.isSome = true ∧ r.stop ≤ s.dev.time.clk
    let clear := bytesOf (len + 2) (whiten (decoded.map BitVec.toNat))
    let p := clear.take len
    let ended := k.prev = none ∧ k.rx = some r ∧ r.head = some (len, r23) ∧ r.stop ≤ s.dev.time.clk ∧ decoded.length = len + 2
    let src := ofBe ((p.drop 4).take 2)
    let base := [R.SLK_STAT.at 0, R.SLK_EVT.at 0, R.SLK_RXQ_OVF.at 0]
    let pkt := [R.SLK_LDPC_FAIL.at 0, R.SLK_RX_PKT.at 0, R.SLK_RX_DUP.at 0, R.SLK_GW_NODES.at 0]
    let new : SlkRx := { level := l, time := s.dev.time.stamp, hop := hop, mode := mode, stop := s.dev.time.clk + 24 * bitCycles mode }
    (s.dev.slkHears = true → near → k.rx = none → k.pre = 0 → Runs (.preambleDetect bits) s (fun t => t.dev.slk = { k with pre := s.dev.time.clk + 1 } ∧ Only [] s t)) ∧
    (s.dev.slkHears = false ∨ ¬ near → Runs (.preambleDetect bits) s (fun t => t = s)) ∧
    (k.pre ≠ 0 → k.rx = none → (8 * s.dev.fget R.SLK_PHY_PRE + 40) * bitCycles mode < s.dev.time.clk + 1 - k.pre →
      Runs .falsePreamble s (fun t => t.dev.slk = { k with pre := 0 } ∧ Counted s t R.SLK_FALSE_PRE_COUNT ∧ Only [R.SLK_FALSE_PRE.at 0] s t)) ∧
    (k.pre = 0 ∨ s.dev.time.clk + 1 - k.pre ≤ (8 * s.dev.fget R.SLK_PHY_PRE + 40) * bitCycles mode → Runs .falsePreamble s (fun t => t = s)) ∧
    (heard → k.rx = none →
      Runs (.syncWord level sync) s (fun t => t.dev.slk.rx = some new ∧
        t.dev.fget R.SLK_RSSI_LEVEL = unsgn 16 l ∧ Wrote s t R.SLK_STAT_STATE 0 3 ∧ t.dev.slk.pre = 0 ∧ Only [R.SLK_STAT.at 0, R.SLK_RSSI.at 0] s t)) ∧
    (s.dev.fget R.SLK_PHY_SYNC_ERR < errors → Runs (.syncWord level sync) s (fun t => t = s)) ∧
    (heard → k.rx = some r → strong → ¬ last →
      Runs (.syncWord level sync) s (fun t => t.dev.slk.rx = some new ∧ t.dev.slk.prev = k.prev ∧ Counted s t R.SLK_CAPT_TAKEN_COUNT ∧ Raised s t R.SLK_EVT_CAPT ∧
        Only [R.SLK_STAT.at 0, R.SLK_RSSI.at 0, R.SLK_CAPT_TAKEN.at 0, R.SLK_EVT.at 0] s t)) ∧
    (heard → k.rx = some r → strong → last →
      Runs (.syncWord level sync) s (fun t => t.dev.slk.rx = some new ∧ t.dev.slk.prev = some r ∧ Only [R.SLK_STAT.at 0, R.SLK_RSSI.at 0] s t)) ∧
    (heard → k.rx = some r → l < r.level + 10 * s.dev.fget R.SLK_CAPT_DB_VALUE →
      Runs (.syncWord level sync) s (fun t => t.dev.slk.rx = some r ∧ Counted s t R.SLK_CAPT_IGNORED_COUNT ∧ Only [R.SLK_CAPT_IGNORED.at 0] s t)) ∧
    (k.rx = some r → r.head = none → r.stop ≤ s.dev.time.clk → golayDecode word.toNat = some info → info % 8 = 0 →
      Runs (.phyHeader word) s (fun t => t.dev.slk.rx = some { r with
        head := some (info / 16, bitAt info 3), stop := s.dev.time.clk + (packetBits 0 (info / 16) (bitAt info 3) - 56) * bitCycles r.mode } ∧ Only [] s t)) ∧
    (k.rx = some r → r.head = none → r.stop ≤ s.dev.time.clk → golayDecode word.toNat = none ∨ (golayDecode word.toNat = some info ∧ info % 8 ≠ 0) →
      Runs (.phyHeader word) s (fun t => t.dev.slk.rx = none ∧ Counted s t R.SLK_HDR_ERR_COUNT ∧ Only (base ++ [R.SLK_HDR_ERR.at 0]) s t)) ∧
    (k.rx = some r → s.dev.time.clk < r.stop → Runs (.phyHeader word) s (fun t => t = s)) ∧
    (ended → crc16 p = ofBe (clear.drop len) → 6 ≤ len → len ≤ 246 →
      p.getD 0 0 / 64 = 0 → ofBe ((p.drop 2).take 2) = s.dev.fget R.SLK_ADDR_ADDR → s.dev.fget R.SLK_ADDR_ADDR ≠ 0 →
      smGet (fun _ => none) k.last src = none →
      Runs (.packetReceived decoded its) s (fun t => t.dev.slk.rx = none ∧ Counted s t R.SLK_RX_PKT_COUNT ∧
        t.dev.slk.reports.getLast? = some ([1, dbmByte r.level] ++ be32 (r.time / 2 ^ 16 % 2 ^ 32) ++ p) ∧ bitAt (t.reg (R.SLK_EVT.at 0)).toNat 0 = true ∧
        t.dev.slk.ack = (if bitAt (p.getD 0 0) 5 then some ⟨src, p.getD 1 0, r.hop, r.mode, r23, s.dev.time.clk⟩ else k.ack) ∧ Only (base ++ pkt) s t)) ∧
    (ended → crc16 p = ofBe (clear.drop len) → 6 ≤ len → len ≤ 246 →
      p.getD 0 0 / 64 = 0 → ofBe ((p.drop 2).take 2) = s.dev.fget R.SLK_ADDR_ADDR → s.dev.fget R.SLK_ADDR_ADDR ≠ 0 →
      smGet (fun _ => none) k.last src = some (p.getD 1 0, s.dev.time.clk) →
      Runs (.packetReceived decoded its) s (fun t => t.dev.slk.rx = none ∧ t.dev.slk.reports = k.reports ∧ Counted s t R.SLK_RX_DUP_COUNT ∧
        Only (base ++ pkt) s t)) ∧
    (ended → crc16 p ≠ ofBe (clear.drop len) →
      Runs (.packetReceived decoded its) s (fun t => t.dev.slk.rx = none ∧ t.dev.slk.reports = k.reports ∧ Counted s t R.SLK_CRC_ERR_COUNT ∧
        Only (base ++ [R.SLK_LDPC_FAIL.at 0, R.SLK_CRC_ERR.at 0]) s t)) ∧
    (k.prev = none → k.rx = none ∨ (k.rx = some r ∧ s.dev.time.clk < r.stop) → Runs (.packetReceived decoded its) s (fun t => t = s)) ∧
    (s.dev.slkHears = true → k.rx = none → k.noiseClk + msCycles 5 ≤ s.dev.time.clk →
      Runs (.noiseMeasure level) s (fun t => t.dev.fget R.SLK_NOISE_LEVEL = unsgn 16 l ∧
        smGet (fun _ => (-32768 : Int)) t.dev.slk.noise hop = l ∧ t.dev.slk.noiseClk = s.dev.time.clk ∧ Only [R.SLK_NOISE.at 0] s t)) ∧
    (s.dev.slkHears = false ∨ s.dev.time.clk < k.noiseClk + msCycles 5 → Runs (.noiseMeasure level) s (fun t => t = s))
/-- R440, R442, R443, R461. -/
def Obligations.PllLocks : Prop :=
  ∀ (s : State) (p : Pll) (count : Nat),
    let v := s.dev.pll p
    let st := s.dev.fget (pllField p)
    let cfg (a b : Fld) := s.dev.lockCfg p a b
    let w := 2 ^ (8 + cfg R.CLK_SPL_LOCK_WIN R.CLK_APL_LOCK_WIN)
    let good := ((count : Int) - s.dev.lockExpected p w).natAbs ≤ cfg R.CLK_SPL_LOCK_TOL R.CLK_APL_LOCK_TOL
    let band (t : State) := if p = .spl then t.dev.fget R.CLK_BAND_SPL else t.dev.fget R.CLK_BAND_APL
    let ev (a b : Fld) := if p = .spl then a else b
    let stat := [R.CLK_STAT.at 0, R.CLK_BAND.at 0]
    let clk := s.dev.time.clk
    let full := v.winClk + 6 * w ≤ clk
    (s.dev.fget R.CLK_STAT_SPL ≠ 0 → s.dev.fget R.CLK_STAT_SPL ≠ 1 → Runs .splRelock s (fun t => (t.dev.pll .spl).want = true ∧ Only [] s t)) ∧
    (s.dev.fget R.CLK_STAT_SPL = 0 ∨ s.dev.fget R.CLK_STAT_SPL = 1 → Runs .splRelock s (fun t => t = s)) ∧
    (s.dev.fget R.CLK_STAT_APL ≠ 0 → s.dev.fget R.CLK_STAT_APL ≠ 1 → Runs .aplRelock s (fun t => (t.dev.pll .apl).want = true ∧
      (s.dev.fget R.CLK_STAT_APL = 2 → t.dev.cod.leaving = true ∧ t.dev.prt.held = true) ∧ Only [R.COD_STAT.at 0, R.COD_EVT.at 0] s t)) ∧
    (v.want = true → p = .spl ∨ s.dev.aplMayStop = true → Runs (.relockBegin p) s (fun t => t.dev.fget (pllField p) = 1 ∧ band t = t.dev.bandOf p 0 ∧
      t.dev.pll p = { v with good := 0, bad := 0, attempt := 0, want := false, bandClk := clk, winClk := clk + usCycles 61 } ∧ t.flash = s.flash ∧ t.lily = s.lily)) ∧
    (v.want = false → Runs (.relockBegin p) s (fun t => t = s)) ∧
    (full → st = 1 → good → v.good + 1 < cfg R.CLK_SPL_LOCK_GOOD R.CLK_APL_LOCK_GOOD →
      Runs (.lockWindow p count) s (fun t => t.dev.pll p = { v with good := v.good + 1, bad := 0, winClk := clk } ∧ Only [] s t)) ∧
    (full → st = 1 → good → cfg R.CLK_SPL_LOCK_GOOD R.CLK_APL_LOCK_GOOD ≤ v.good + 1 →
      Runs (.lockWindow p count) s (fun t => t.dev.fget (pllField p) = 2 ∧ t.dev.pll p = { v with good := 0, bad := 0, winClk := clk, lockClk := clk } ∧
        bitAt (t.reg (R.CLK_EVT.at 0)).toNat (ev R.CLK_EVT_SPL_LOCK R.CLK_EVT_APL_LOCK).lo = true ∧ t.flash = s.flash ∧ t.lily = s.lily)) ∧
    (full → st = 1 → ¬ good → 0 < cfg R.CLK_SPL_LOCK_GOOD R.CLK_APL_LOCK_GOOD →
      Runs (.lockWindow p count) s (fun t => t.dev.pll p = { v with good := 0, bad := v.bad + 1, winClk := clk } ∧ Only [] s t)) ∧
    (full → st = 2 → ¬ good → v.want = false → cfg R.CLK_SPL_LOCK_LOSS R.CLK_APL_LOCK_LOSS ≤ v.bad + 1 →
      Runs (.lockWindow p count) s (fun t => t.dev.pll p = { v with good := 0, bad := v.bad + 1, want := true, winClk := clk } ∧ Counted s t (ev R.CLK_SPL_UNLOCKS_COUNT R.CLK_APL_UNLOCKS_COUNT) ∧
        Raised s t (ev R.CLK_EVT_SPL_UNLOCK R.CLK_EVT_APL_UNLOCK) ∧
        Only [R.CLK_SPL_UNLOCKS.at 0, R.CLK_APL_UNLOCKS.at 0, R.CLK_EVT.at 0, R.COD_STAT.at 0, R.COD_EVT.at 0] s t)) ∧
    (full → st = 2 → good → 0 < cfg R.CLK_SPL_LOCK_LOSS R.CLK_APL_LOCK_LOSS →
      Runs (.lockWindow p count) s (fun t => t.dev.pll p = { v with good := v.good + 1, bad := 0, winClk := clk } ∧ Only [] s t)) ∧
    (¬ full → Runs (.lockWindow p count) s (fun t => t = s)) ∧
    (st = 1 → v.bandClk + msCycles 5 ≤ clk → v.attempt < 2 → Runs (.bandTimeout p) s (fun t => t.dev.fget (pllField p) = 1 ∧ (t.dev.pll p).attempt = v.attempt + 1 ∧
      band t = s.dev.bandOf p (v.attempt + 1) ∧ Only stat s t)) ∧
    (st = 1 → v.bandClk + msCycles 5 ≤ clk → 2 ≤ v.attempt → Runs (.bandTimeout p) s (fun t => Wrote s t (pllField p) 0 3 ∧
      Raised s t (ev R.CLK_EVT_SPL_FAIL R.CLK_EVT_APL_FAIL) ∧ Only [R.CLK_STAT.at 0, R.CLK_EVT.at 0] s t)) ∧
    (st ≠ 1 ∨ clk < v.bandClk + msCycles 5 → Runs (.bandTimeout p) s (fun t => t = s)) ∧
    (st = 3 → v.bandClk + msCycles 100 ≤ clk → Runs (.pllFailRetry p) s (fun t => t.dev.fget (pllField p) = 1 ∧ (t.dev.pll p).attempt = 0 ∧ band t = s.dev.bandOf p 0 ∧ Only stat s t)) ∧
    (st ≠ 3 ∨ clk < v.bandClk + msCycles 100 → Runs (.pllFailRetry p) s (fun t => t = s))

/-- R448 to R450. The loop filter is log entry 10. -/
def Obligations.SteeringIsBounded : Prop :=
  ∀ (s : State) (off err : Int),
    let st := s.dev.fget R.CLK_STAT_DISC
    let usable := s.dev.refUsable = true ∨ s.dev.ppsUsable = true
    let old := s.dev.steer
    let r := s.dev.rampStep
    let full := s.dev.splStopped = false ∧ (s.dev.clk.discClk = 0 ∨ s.dev.clk.discClk - 1 + Config.sysPerSecond ≤ s.dev.time.clk)
    let o := if s.dev.refUsable then off else s.dev.clk.ppsOff
    let own := [R.CLK_STAT.at 0, R.CLK_DISC_PPM.at 0, R.CLK_APL_PPM.at 0, R.CLK_PHASE_HI.at 0, R.CLK_THETA_HI.at 0, R.CLK_JUMPS.at 0, R.CLK_EVT.at 0]
    (full → old.natAbs ≤ 20000 → (st = 2 ∧ usable) ∨ (st = 1 ∧ usable) ∨ st = 0 →
      Runs (.disciplineUpdate off err) s (fun t => ((t.dev.steer - old).natAbs : Int) ≤ r ∧ t.dev.steer.natAbs ≤ 20000 ∧ Only own s t)) ∧
    (full → st = 0 → usable → Runs (.disciplineUpdate off err) s (fun t => t.dev.fget R.CLK_STAT_DISC = 1 ∧ t.dev.steer = old ∧ Only own s t)) ∧
    (full → st = 1 → usable → o.natAbs ≤ 5 → s.dev.clk.acqGood < 9 → Runs (.disciplineUpdate off err) s (fun t =>
      t.dev.fget R.CLK_STAT_DISC = 1 ∧ t.dev.clk.acqGood = s.dev.clk.acqGood + 1 ∧ Only own s t)) ∧
    (full → st = 1 → usable → o.natAbs ≤ 5 → 9 ≤ s.dev.clk.acqGood → Runs (.disciplineUpdate off err) s (fun t =>
      t.dev.fget R.CLK_STAT_DISC = 2 ∧ t.dev.clk.theta = t.dev.clk.e ∧ bitAt (t.reg (R.CLK_EVT.at 0)).toNat 10 = true ∧ Only own s t)) ∧
    (full → st = 1 → usable → 5 < o.natAbs → Runs (.disciplineUpdate off err) s (fun t =>
      t.dev.fget R.CLK_STAT_DISC = 1 ∧ t.dev.clk.acqGood = 0 ∧ Only own s t)) ∧
    (full → st = 1 ∨ st = 2 → ¬ usable → Runs (.disciplineUpdate off err) s (fun t => t.dev.fget R.CLK_STAT_DISC = 3 ∧
      t.dev.clk.goal = meanInt s.dev.clk.hist ∧ t.dev.steer = old ∧ t.dev.clk.slew = 0 ∧ bitAt (t.reg (R.CLK_EVT.at 0)).toNat 11 = true ∧ Only own s t)) ∧
    (full → st = 3 → ¬ usable → Runs (.disciplineUpdate off err) s (fun t => t.dev.fget R.CLK_STAT_DISC = 3 ∧
      t.dev.steer = clampInt (-20000) 20000 (clampInt (old - r) (old + r) s.dev.clk.goal) ∧ Only own s t)) ∧
    (¬ full → Runs (.disciplineUpdate off err) s (fun t => t = s)) ∧
    (full → st = 3 → usable → o.natAbs ≤ 5 → Runs (.disciplineUpdate off err) s (fun t => t.dev.fget R.CLK_STAT_DISC = 2 ∧ Only own s t)) ∧
    Runs .discRestart s (fun t => t.dev.fget R.CLK_STAT_DISC = (if s.dev.fget R.CLK_DISC_SRC = 0 then 0 else 1) ∧ t.dev.steer = old ∧
      t.dev.clk.slew = 0 ∧ t.dev.clk.acqGood = 0 ∧ Only own s t)

/-- R7, R25, R445 to R447, R451, R457, R458, R460. -/
def Obligations.ReferencesAndClockOutputs : Prop :=
  ∀ (s : State) (raw : Int) (rising : Bool) (sub : Fin 4) (k : Fin 4) (fine : Fin 64),
    let tol := s.dev.fget R.CLK_REF_CFG_TOL * 100
    let ok := s.dev.fbit R.CLK_STAT_REF_OK
    let pps := s.dev.fbit R.CLK_STAT_PPS_OK
    let c := s.dev.clk
    let clk := s.dev.time.clk
    let ppm := raw - s.dev.fgetI R.CLK_SPL_TRIM_TRIM
    let full := c.refClk = 0 ∨ c.refClk - 1 + msCycles 100 ≤ clk
    let still := c.refClk = 0 ∨ c.refClk + usCycles 1 ≤ clk
    let now := clk * 15625 / 4608 + sub
    let gap : Int := (now : Int) - c.ppsNs - 1000000000 * (c.ppsMiss + 1 : Nat)
    let valid := c.ppsSeen = false ∨ gap.natAbs ≤ s.dev.fget R.CLK_PPS_CFG_WIN * 10000
    let active := rising ≠ s.dev.fbit R.CLK_PPS_CFG_POL
    let missed := c.ppsSeen = true ∧ (c.ppsMiss + 1) * 1000000000 + s.dev.fget R.CLK_PPS_CFG_WIN * 10000 < clk * 15625 / 4608 - c.ppsNs
    let e := wrapHalf (s.dev.time.cyc * 15625 / 4608 + sub : Nat)
    let loop := [R.CLK_STAT.at 0, R.CLK_DISC_PPM.at 0, R.CLK_PHASE_HI.at 0, R.CLK_THETA_HI.at 0, R.CLK_EVT.at 0]
    let p := if s.dev.fbit R.CLKOUT_CFG_SRC k then Pll.apl else Pll.spl
    let taken := s.dev.setClkOut k { s.dev.clkOut k with div := s.dev.fget R.CLKOUT_DIV_DIV k, coarse := s.dev.fget R.CLKOUT_CFG_COARSE k, fineClk := clk }
    (full → ppm.natAbs ≤ tol → c.refGood < 9 → Runs (.refinWindow raw) s (fun t => t.dev.clk = { c with refGood := c.refGood + 1, refClk := clk + 1 } ∧
      t.dev.fgetI R.CLK_REF_MEAS_PPM = clampInt (-32767) 32767 (divNearInt ppm 10) ∧ Only [R.CLK_REF_MEAS.at 0] s t)) ∧
    (full → ppm.natAbs ≤ tol → 9 ≤ c.refGood → ok = false → Runs (.refinWindow raw) s (fun t => Wrote s t R.CLK_STAT_REF_OK 0 1 ∧ Raised s t R.CLK_EVT_REF_UP ∧
      Only [R.CLK_REF_MEAS.at 0, R.CLK_STAT.at 0, R.CLK_EVT.at 0] s t)) ∧
    (full → tol < ppm.natAbs → ok = true → Runs (.refinWindow raw) s (fun t => t.dev.fget R.CLK_STAT_REF_OK = 0 ∧ t.dev.clk.refGood = 0 ∧
      Counted s t R.CLK_REF_LOSSES_COUNT ∧ bitAt (t.reg (R.CLK_EVT.at 0)).toNat 7 = true ∧ Only (loop ++ [R.CLK_REF_MEAS.at 0, R.CLK_REF_LOSSES.at 0]) s t)) ∧
    (¬ full → Runs (.refinWindow raw) s (fun t => t = s)) ∧
    (still → ok = true → Runs .refinEdgeLoss s (fun t => t.dev.fget R.CLK_STAT_REF_OK = 0 ∧ t.dev.fget R.CLK_REF_MEAS_PPM = 0x8000 ∧
      Counted s t R.CLK_REF_LOSSES_COUNT ∧ Only (loop ++ [R.CLK_REF_MEAS.at 0, R.CLK_REF_LOSSES.at 0]) s t)) ∧
    (still → ok = false → Runs .refinEdgeLoss s (fun t => Wrote s t R.CLK_REF_MEAS_PPM 0 0x8000 ∧ t.dev.clk.refGood = 0 ∧ Only [R.CLK_REF_MEAS.at 0] s t)) ∧
    (¬ still → Runs .refinEdgeLoss s (fun t => t = s)) ∧
    (active → valid → c.ppsValid = 2 → pps = false → bitAt (s.dev.fget R.CLK_DISC_SRC) 1 = false →
      Runs (.ppsEdge rising sub) s (fun t => Wrote s t R.CLK_STAT_PPS_OK 0 1 ∧ Raised s t R.CLK_EVT_PPS_UP ∧ t.dev.clk.ppsMiss = 0 ∧ t.dev.clk.ppsNs = now ∧
        Only [R.CLK_STAT.at 0, R.CLK_EVT.at 0] s t)) ∧
    (active → valid → bitAt (s.dev.fget R.CLK_DISC_SRC) 1 = true →
      Runs (.ppsEdge rising sub) s (fun t => t.dev.clk.e = e ∧ t.dev.clk.ppsSeen = true ∧ t.dev.fget R.CLK_PHASE_HI_NS = unsgn 32 e / 65536 ∧
        Only (loop ++ [R.CLK_JUMPS.at 0]) s t)) ∧
    (active → ¬ valid → Runs (.ppsEdge rising sub) s (fun t => t.dev.clk = { c with ppsValid := 0 } ∧ Only [] s t)) ∧
    (¬ active → Runs (.ppsEdge rising sub) s (fun t => t = s)) ∧
    (missed → c.ppsMiss + 1 < s.dev.fget R.CLK_PPS_CFG_MISS → Runs .ppsMissed s (fun t => t.dev.clk = { c with ppsMiss := c.ppsMiss + 1, ppsValid := 0 } ∧ Only [] s t)) ∧
    (missed → s.dev.fget R.CLK_PPS_CFG_MISS ≤ c.ppsMiss + 1 → pps = true → Runs .ppsMissed s (fun t => t.dev.fget R.CLK_STAT_PPS_OK = 0 ∧
      t.dev.clk.ppsSeen = false ∧ Counted s t R.CLK_PPS_LOSSES_COUNT ∧ bitAt (t.reg (R.CLK_EVT.at 0)).toNat 9 = true ∧
      Only (loop ++ [R.CLK_PPS_LOSSES.at 0]) s t)) ∧
    (¬ missed → Runs .ppsMissed s (fun t => t = s)) ∧
    (s.dev.fbit R.CLKOUT_CFG_EN k = true → s.dev.fget R.CLKOUT_STAT_STATE k = 0 → s.dev.fget (pllField p) = 2 → taken.firstEdge k ≤ taken.gridPos k clk →
      Runs (.clkoutStart k) s (fun t => t.dev.fget R.CLKOUT_STAT_STATE k = 1 ∧ (t.dev.clkOut k).div = s.dev.fget R.CLKOUT_DIV_DIV k ∧
        (t.dev.clkOut k).coarse = s.dev.fget R.CLKOUT_CFG_COARSE k ∧ t.dev.fbit R.CLKOUT_STAT_SEC_OK k = taken.secOk k ∧ Only [R.CLKOUT_STAT.at k] s t)) ∧
    (s.dev.fget (pllField p) ≠ 2 ∨ taken.gridPos k clk < taken.firstEdge k → Runs (.clkoutStart k) s (fun t => t = s)) ∧
    Runs (.clkoutFineWrite k fine) s (fun t => t.dev.fget R.CLKOUT_FINE_FINE k = fine ∧ t.dev.fineNow k = s.dev.fineNow k ∧ Only [R.CLKOUT_FINE.at k] s t) ∧
    (s.dev.inReset = false ∧ s.dev.chainHeld = false ∧ s.dev.bus.dead = false → Runs (.clkPhaseCapture false) s (fun t => Wrote s t R.CLK_PHASE_LO_NS 0 (unsgn 32 c.e % 65536) ∧ Only [R.CLK_PHASE_LO.at 0, R.HIF_INB_DEFER.at 0] s t)) ∧
    (s.dev.inReset = false ∧ s.dev.chainHeld = false ∧ s.dev.bus.dead = false → Runs (.clkPhaseCapture true) s (fun t => Wrote s t R.CLK_THETA_LO_NS 0 (unsgn 32 c.theta % 65536) ∧ Only [R.CLK_THETA_LO.at 0, R.HIF_INB_DEFER.at 0] s t))
/-- R500 to R502, R509. -/
def Obligations.RtcCalendarAdvances : Prop :=
  ∀ (s : State) (n e : Nat),
    let y (t : State) := t.dev.fget R.RTC_YEAR_YEAR
    let m (t : State) := t.dev.fget R.RTC_MW_MONTH
    let day (t : State) := t.dev.fget R.RTC_HD_DAY
    let valid (t : State) := 2000 ≤ y t ∧ y t ≤ 2399 ∧ 1 ≤ m t ∧ m t ≤ 12 ∧ 1 ≤ day t ∧ day t ≤ monthDays (y t) (m t) ∧
      t.dev.fget R.RTC_HD_HOUR ≤ 23 ∧ t.dev.fget R.RTC_MS_MIN ≤ 59 ∧ t.dev.fget R.RTC_MS_SEC ≤ 59
    let idle := ∀ w ∈ s.dev.rtc.transit, s.dev.time.clk < w.due
    let running := s.dev.fbit R.RTC_STAT_RUN = true ∧ s.dev.fbit R.RTC_CTL_HALTED = false ∧ s.dev.fbit R.RTC_STAT_END = false
    let wraps := idle ∧ 129 ≤ n ∧ s.dev.fget R.RTC_SUB_SUB = 255
    (running → wraps → valid s → s.dev.rtcAtEnd = false →
      Runs (.rtcTick n) s (fun t => valid t ∧ t.dev.rtcSeconds = s.dev.rtcSeconds + 1 ∧ t.dev.fget R.RTC_SUB_SUB = 0 ∧
        (s.dev.fget R.RTC_MW_WDAY = weekday (y s) (m s) (day s) → t.dev.fget R.RTC_MW_WDAY = weekday (y t) (m t) (day t)))) ∧
    (running → wraps → s.dev.rtcAtEnd = true →
      Runs (.rtcTick n) s (fun t => t.dev.rtcSeconds = s.dev.rtcSeconds ∧ t.dev.fget R.RTC_SUB_SUB = 0 ∧ t.dev.fget R.RTC_STAT_END = 1 ∧
        bitAt (t.reg (R.RTC_EVT.at 0)).toNat 6 = true ∧ Only [R.RTC_SUB.at 0, R.RTC_STAT.at 0, R.RTC_EVT.at 0] s t)) ∧
    (idle → s.dev.fbit R.RTC_STAT_END = true ∨ n < 127 → Runs (.rtcTick n) s (fun t => t = s)) ∧
    (s.dev.fbit R.RTC_STAT_END = true → s.dev.fbit R.RTC_CTL_HALTED = true → s.dev.rtc.transit = [⟨5, 0, e⟩] → e ≤ s.dev.time.clk →
      Runs (.rtcTick 0) s (fun t => t.dev.fbit R.RTC_STAT_END = false))

/-- R500, R504 to R506, R509, R513. What waits for the third edge and what acts with the write is log entry 59. -/
def Obligations.RtcCountingAndSetting : Prop :=
  ∀ (s : State) (reg : Fin 4) (v : BitVec 16) (n e : Nat),
    let c := s.dev.rtc
    let clk := s.dev.time.clk
    let idle := ∀ w ∈ c.transit, clk < w.due
    let running := s.dev.fbit R.RTC_STAT_RUN = true ∧ s.dev.fbit R.RTC_CTL_HALTED = false ∧ s.dev.fbit R.RTC_STAT_END = false
    let a := c.acc + s.dev.fgetI R.RTC_TRIM_TRIM * 128
    let next := if 20000000 ≤ a then (a - 20000000, 127) else if a ≤ -20000000 then (a + 20000000, 129) else (a, 128)
    let y := s.dev.fget R.RTC_YEAR_YEAR
    let m := s.dev.fget R.RTC_MW_MONTH
    let day := min (s.dev.fget R.RTC_HD_DAY) (monthDays y m)
    let edge := c.edge + 9000 * ((clk - c.edge) / 9000 + 3)
    let sent (t : State) (what word : Nat) := t.dev.rtc.transit = c.transit ++ [⟨what, word, edge⟩] ∧ t.dev.fget R.RTC_CTL_BUSY = 1
    let halted := s.dev.fbit R.RTC_CTL_HALTED = true
    (idle → ¬ running ∨ n < next.2 → Runs (.rtcTick n) s (fun t => t = s)) ∧
    (idle → running → next.2 ≤ n → s.dev.fget R.RTC_SUB_SUB < 255 →
      Runs (.rtcTick n) s (fun t => Wrote s t R.RTC_SUB_SUB 0 (s.dev.fget R.RTC_SUB_SUB + 1) ∧
        t.dev.rtc = { c with acc := next.1, tick := next.2, edge := clk } ∧ Only [R.RTC_SUB.at 0] s t)) ∧
    (idle → Runs .rtcHalt s (fun t => t.dev.fget R.RTC_CTL_HALT = 1 ∧ t.dev.fbit R.RTC_CTL_HALTED = s.dev.fbit R.RTC_CTL_HALTED ∧ sent t 4 0 ∧
      Only [R.RTC_CTL.at 0] s t)) ∧
    (c.transit = [⟨4, 0, e⟩] → e ≤ clk → Runs (.rtcTick 0) s (fun t => t.dev.fget R.RTC_CTL_HALTED = 1 ∧ t.dev.fget R.RTC_CTL_BUSY = 0 ∧
      t.dev.rtc = { c with transit := [], span := none, recs := [], discApplied := false } ∧ Only [R.RTC_CTL.at 0] s t)) ∧
    (idle → Runs (.rtcTimeWrite reg v) s (fun t => sent t reg v.toNat ∧ Only [R.RTC_CTL.at 0] s t)) ∧
    (¬ halted → c.transit = [⟨reg, v.toNat, e⟩] → e ≤ clk → Runs (.rtcTick 0) s (fun t => t.dev.rtc = { c with transit := [] } ∧ Only [R.RTC_CTL.at 0] s t)) ∧
    (halted → c.transit = [⟨reg, v.toNat, e⟩] → e ≤ clk → Runs (.rtcTick 0) s (fun t => Only [R.RTC_CTL.at 0, R.RTC_MS.at 0 + reg] s t ∧
      (reg = 0 → t.dev.fget R.RTC_MS_MIN = min (bitsOf v 13 8) 59 ∧ t.dev.fget R.RTC_MS_SEC = min (bitsOf v 5 0) 59) ∧
      (reg = 1 → t.dev.fget R.RTC_HD_HOUR = min (bitsOf v 12 8) 23 ∧ t.dev.fget R.RTC_HD_DAY = clampNat 1 31 (bitsOf v 4 0)) ∧
      (reg = 2 → t.dev.fget R.RTC_MW_MONTH = clampNat 1 12 (bitsOf v 3 0) ∧ t.dev.fget R.RTC_MW_WDAY = s.dev.fget R.RTC_MW_WDAY) ∧
      (reg = 3 → t.dev.fget R.RTC_YEAR_YEAR = clampNat 2000 2399 (bitsOf v 11 0)))) ∧
    (idle → Runs .rtcResume s (fun t => t.dev.fget R.RTC_CTL_HALT = 0 ∧ t.dev.fbit R.RTC_CTL_HALTED = s.dev.fbit R.RTC_CTL_HALTED ∧ sent t 5 0 ∧
      Only [R.RTC_CTL.at 0] s t)) ∧
    (halted → c.transit = [⟨5, 0, e⟩] → e ≤ clk → 1 ≤ m → m ≤ 12 →
      Runs (.rtcTick 0) s (fun t => t.dev.fget R.RTC_HD_DAY = day ∧ t.dev.fget R.RTC_MW_WDAY = weekday y m day ∧ t.dev.fget R.RTC_SUB_SUB = 0 ∧
        t.dev.fget R.RTC_CTL_HALTED = 0 ∧ t.dev.fget R.RTC_STAT_END = 0 ∧ t.dev.rtc.edge = e ∧ t.dev.time.secPending = some t.dev.rtcSeconds ∧
        Only [R.RTC_SUB.at 0, R.RTC_HD.at 0, R.RTC_MW.at 0, R.RTC_CTL.at 0, R.RTC_STAT.at 0] s t)) ∧
    (¬ halted → c.transit = [⟨5, 0, e⟩] → e ≤ clk → Runs (.rtcTick 0) s (fun t => t.dev.rtc = { c with transit := [] } ∧ Only [R.RTC_CTL.at 0] s t)) ∧
    (idle → Runs (.rtcTrimWrite v) s (fun t => t.dev.fgetI R.RTC_TRIM_TRIM = clampInt (-32000) 32000 v.toInt ∧ t.dev.rtc.span = none ∧ t.dev.rtc.recs = [] ∧ sent t 6 0 ∧
      Only [R.RTC_TRIM.at 0, R.RTC_CTL.at 0] s t)) ∧
    (s.dev.fbit R.RTC_STAT_RUN = true → Runs .osfClear s (fun t => Wrote s t R.RTC_STAT_OSF 0 0 ∧ Only [R.RTC_STAT.at 0] s t)) ∧
    (s.dev.fbit R.RTC_STAT_RUN = false → Runs .osfClear s (fun t => t = s)) ∧
    (idle → s.dev.inReset = false ∧ s.dev.chainHeld = false ∧ s.dev.bus.dead = false → c.shadow = none → Runs (.rtcFreeze reg) s (fun t => t.dev.rtc = { c with shadow := some s.dev.rtcTime } ∧ Only [R.HIF_INB_DEFER.at 0] s t)) ∧
    (idle → s.dev.inReset = false ∧ s.dev.chainHeld = false ∧ s.dev.bus.dead = false → Runs .rtcRelease s (fun t => t.dev.rtc = { c with shadow := none } ∧ Only [R.HIF_INB_DEFER.at 0] s t))

/-- R499, R510 to R514, R516. -/
def Obligations.RtcTrimAndBackupDomain : Prop :=
  ∀ (s : State) (n from_ : Nat) (i : Fin 32) (v : BitVec 16) (mv va : Nat),
    let c := s.dev.rtc
    let dur := c.tickClk - from_
    let r := divNearInt (((1000 * Config.sysPerSecond : Nat) - (dur : Int)) * 20000000) dur
    let recs := c.recs
    let span := match recs.head?, recs.getLast? with | some a, some b => a.1 - b.1 | _, _ => 0
    let clk := s.dev.time.clk
    let idle := ∀ w ∈ c.transit, clk < w.due
    let sums := fitSums recs
    let fits := 100 ≤ recs.length ∧ 0 < sums.2.1 ∧ sums.2.2 * sums.2.1 - sums.1 * sums.1 ≤ 40000 * (recs.length : Int) * recs.length * sums.2.1 ∧
      ¬ (bitAt (s.dev.fget R.RTC_TRIM_CFG_SRC) 0 = true ∧ c.discApplied = true)
    let asked := bitAt (s.dev.fget R.RTC_TRIM_CFG_SRC) 1 = true ∧ s.dev.monitorRuns = true ∧ s.dev.fget R.RTC_TRIM_CFG_DAYS * 86400 * 2 ^ 32 ≤ span
    (c.span = some (n, from_) → 1000 ≤ n → dur ≠ 0 → Runs .trimSpanEnd s (fun t =>
      t.dev.fgetI R.RTC_TRIM_TRIM = clampInt (-32000) 32000 (s.dev.fgetI R.RTC_TRIM_TRIM - r) ∧ Raised s t R.RTC_EVT_TRIM ∧
      t.dev.rtc.span = some (0, c.tickClk) ∧ t.dev.rtc.discApplied = true ∧ Only [R.RTC_TRIM.at 0, R.RTC_EVT.at 0] s t)) ∧
    (c.span = some (n, from_) → n < 1000 → Runs .trimSpanEnd s (fun t => t = s)) ∧
    (c.span = none → Runs .trimSpanEnd s (fun t => t = s)) ∧
    (¬ asked → Runs .broadcastTrimFit s (fun t => t = s)) ∧
    (asked → recs.length < 100 → Runs .broadcastTrimFit s (fun t => t.dev.rtc.recs = [] ∧ t.dev.rtc.span = c.span ∧ Only [] s t)) ∧
    (asked → fits → Runs .broadcastTrimFit s (fun t =>
      t.dev.fgetI R.RTC_TRIM_TRIM = clampInt (-32000) 32000 (s.dev.fgetI R.RTC_TRIM_TRIM - divNearInt (-(sums.1 * 2 ^ 32 * 20000)) sums.2.1.toNat) ∧
      Raised s t R.RTC_EVT_TRIM ∧ t.dev.rtc.recs = [] ∧ t.dev.rtc.span = none ∧ Only [R.RTC_TRIM.at 0, R.RTC_EVT.at 0] s t)) ∧
    Runs .backupPor s (fun t => t.dev.rtc = { cold := true } ∧
      (∀ k : Fin 64, isBackup (0xC0 + k) = true → t.reg (0xC0 + k) = resetWord (0xC0 + k)) ∧
      bitAt (t.reg (R.RTC_EVT.at 0)).toNat 2 = true ∧ bitAt (t.reg (R.RTC_EVT.at 0)).toNat 0 = false ∧
      Only ((List.range 64).map (0xC0 + ·)) s t) ∧
    (idle → Runs (.backupRamWrite i v) s (fun t => t.reg (R.RTC_BRAM.at i) = v ∧ Wrote s t R.RTC_STAT_RAM_VALID 0 1 ∧ t.dev.fget R.RTC_CTL_BUSY = 1 ∧
      Only [R.RTC_BRAM.at i, R.RTC_STAT.at 0, R.RTC_CTL.at 0] s t)) ∧
    (s.dev.fbit R.RTC_STAT_RUN = false ∨ Config.sysPerMs ≤ s.dev.since c.edge → Runs .oscillatorStop s (fun t => t.dev.fget R.RTC_STAT_RUN = 0 ∧ t.dev.fget R.RTC_STAT_OSF = 1 ∧
      Raised s t R.RTC_EVT_OSF ∧ Only [R.RTC_STAT.at 0, R.RTC_EVT.at 0] s t)) ∧
    (s.dev.fbit R.RTC_STAT_RUN = true → s.dev.since c.edge < Config.sysPerMs → Runs .oscillatorStop s (fun t => t = s)) ∧
    Runs .oscillatorStart s (fun t => Wrote s t R.RTC_STAT_RUN 0 1 ∧ t.dev.rtc.edge = clk ∧ Only [R.RTC_STAT.at 0] s t) ∧
    Runs (.vbatLow mv) s (fun t => t.dev.fbit R.RTC_STAT_VBAT_LOW = decide (mv < 2000) ∧
      (mv < 2000 → s.dev.fbit R.RTC_STAT_VBAT_LOW = false → Raised s t R.RTC_EVT_VBAT_LOW) ∧
      (s.dev.fbit R.RTC_STAT_VBAT_LOW = true → t.reg (R.RTC_EVT.at 0) = s.reg (R.RTC_EVT.at 0)) ∧ Only [R.RTC_STAT.at 0, R.RTC_EVT.at 0] s t) ∧
    (1500 ≤ mv ∨ 1500 ≤ va → Runs (.backupSupplySwitch mv va) s (fun t => (va + 50 < mv → t.dev.fget R.RTC_STAT_SUPPLY = 1) ∧
      (mv + 50 < va → t.dev.fget R.RTC_STAT_SUPPLY = 0) ∧
      (va ≤ mv + 50 → mv ≤ va + 50 → t.dev.fget R.RTC_STAT_SUPPLY = s.dev.fget R.RTC_STAT_SUPPLY) ∧ Only [R.RTC_STAT.at 0] s t)) ∧
    (mv < 1500 → va < 1500 → Runs (.backupSupplySwitch mv va) s (fun t => t.dev.rtc = { cold := true } ∧ t.dev.fget R.RTC_STAT_OSF = 1 ∧
      (∀ k : Fin 32, t.reg (R.RTC_BRAM.at k) = resetWord (R.RTC_BRAM.at k)) ∧ Only ((List.range 64).map (0xC0 + ·)) s t))
/-- R545 to R547, R549. -/
def Obligations.LocalScripts : Prop :=
  ∀ (s : State) (i : Fin 16) (x : LifScript) (r : LifRun) (ms : Nat) (tl : List LifOp),
    let l := s.dev.lif
    let blocked := l.queue.contains (.script i) = true ∨ l.run.map (·.s) = some (i : Nat)
    let free := s.dev.fbit R.LIF_CFG_EN = true ∧ ¬ blocked ∧ s.dev.scriptAt i = some x
    let isStuck := s.dev.fget R.LIF_STAT_STATE = 3
    let drained := l.queue.all (· == .clear) = true
    let ended (k result : Nat) (t : State) := t.dev.fget R.LIF_SCR_RESULT k = result ∧
      t.dev.fget R.LIF_SCR_RUNS k = (s.dev.fget R.LIF_SCR_RUNS k + 1) % 4096 ∧ t.dev.fbit R.LIF_EVT_DONE = true ∧
      t.dev.fget R.LIF_STAT_STATE = s.dev.fget R.LIF_STAT_STATE ∧ t.dev.fget R.LIF_STAT_EXT_BUSY = s.dev.fget R.LIF_STAT_EXT_BUSY ∧
      t.dev.fget R.LIF_STAT_NSCR = s.dev.fget R.LIF_STAT_NSCR
    let failed (t : State) := t.dev.fbit R.LIF_EVT_FAIL = true ∧ Counted s t R.LIF_FAIL_COUNT 0
    let due := smGet (fun _ => 0) l.due i
    let waits := l.run = some r ∧ r.rest = .wait ms :: tl
    let lasted := r.wait ≠ 0 ∧ msCycles ms ≤ s.dev.time.clk + 1 - r.wait
    let next (t : State) := t.dev.lif.run = some { r with rest := tl, wait := 0 }
    (free → ¬ isStuck → Runs (.scriptRun i) s (fun t => t.dev.lif = { l with queue := l.queue ++ [.script i] } ∧ Only [] s t)) ∧
    (free → isStuck → drained → Runs (.scriptRun i) s (fun t => ended i 5 t ∧ failed t ∧ t.dev.lif.queue = l.queue ∧ t.dev.lif.run = l.run ∧
      Only [R.LIF_STAT.at 0, R.LIF_EVT.at 0, R.LIF_SCR.at i, R.LIF_FAIL.at 0] s t)) ∧
    (¬ s.dev.fbit R.LIF_CFG_EN = true ∨ s.dev.scriptAt i = none ∨ blocked → Runs (.scriptRun i) s (fun t => t = s)) ∧
    (free → ¬ isStuck → x.trigger = 1 → due ≠ 0 → due ≤ s.dev.time.clk →
      Runs (.scriptPeriodic i) s (fun t => t.dev.lif.queue = l.queue ++ [.script i] ∧ t.dev.lif.run = l.run ∧
        smGet (fun _ => 0) t.dev.lif.due i = due + x.period * Config.sysPerSecond ∧ Only [] s t)) ∧
    (s.dev.scriptAt i = some x → blocked → x.trigger = 1 → due ≠ 0 → due ≤ s.dev.time.clk →
      Runs (.scriptPeriodic i) s (fun t => t.dev.lif.queue = l.queue ∧ t.dev.lif.run = l.run ∧
        smGet (fun _ => 0) t.dev.lif.due i = due + x.period * Config.sysPerSecond ∧ Only [] s t)) ∧
    (s.dev.scriptAt i = some x → x.trigger ≠ 1 ∨ due = 0 ∨ s.dev.time.clk < due → Runs (.scriptPeriodic i) s (fun t => t = s)) ∧
    (waits → lasted → tl = [] → drained → Runs .scriptWaitEnd s (fun t => ended r.s 0 t ∧ t.dev.lif = { l with run := none } ∧
      t.dev.fbit R.LIF_STAT_RUN = false ∧ Only [R.LIF_STAT.at 0, R.LIF_EVT.at 0, R.LIF_SCR.at r.s] s t)) ∧
    (waits → lasted → transferFirst tl = true → ¬ isStuck → Runs .scriptWaitEnd s (fun t => next t ∧ t.dev.lif.queue = l.queue ++ [.step] ∧ Only [] s t)) ∧
    (waits → lasted → transferFirst tl = true → isStuck → drained → Runs .scriptWaitEnd s (fun t => ended r.s 5 t ∧ failed t ∧
      t.dev.lif.run = none ∧ t.dev.lif.queue = l.queue ∧ t.dev.fbit R.LIF_STAT_RUN = false ∧
      Only [R.LIF_STAT.at 0, R.LIF_EVT.at 0, R.LIF_SCR.at r.s, R.LIF_FAIL.at 0] s t)) ∧
    (waits → lasted → tl ≠ [] → transferFirst tl = false → drained →
      Runs .scriptWaitEnd s (fun t => t.dev.lif = { l with run := some { r with rest := tl, wait := s.dev.time.clk + 1 } } ∧ Only [] s t)) ∧
    (waits → ¬ lasted → Runs .scriptWaitEnd s (fun t => t = s)) ∧
    (l.run = none → Runs .scriptWaitEnd s (fun t => t = s))

/-- R539 to R544, R547, R548. -/
def Obligations.LocalTransfersAndBusClears : Prop :=
  ∀ (s : State) (q : MbxReq) (addr n : Nat) (data : List Nat) (nack : Fin 3) (bytes : List Byte) (js : List LifJob) (r : LifRun) (op : LifOp) (tl : List LifOp) (stop sda : Bool) (high low : Nat) (samples : List Bool),
    let l := s.dev.lif
    let unheld := stop = true ∨ msCycles (s.dev.fget R.LIF_TMO_TMO) ≤ high
    let isFree := unheld ∧ (if s.dev.fbit R.LIF_CFG_FAST then 384 else 1387) ≤ high
    let held := msCycles (s.dev.fget R.LIF_TMO_TMO) < low
    let lineFree := sda = true ∨ true ∈ samples.take 9
    let took := { l with fast := s.dev.fbit R.LIF_CFG_FAST, tmo := s.dev.fget R.LIF_TMO_TMO, retry := s.dev.fget R.LIF_RETRY_RETRY }
    let busAt (k : Nat) := s.dev.fget R.LIF_STAT_STATE = k
    let asks := s.dev.mbxWork 0x70 = some q
    let n1 := q.offset % 256
    let a1 := q.offset / 65536
    let inLimits := n1 ≤ 32 ∧ a1 ≤ 127 ∧ q.offset / 256 % 256 = 0 ∧ q.data.length ≤ 32
    let host := LifJob.host addr n data
    let hostActs := l.act = some host ∧ s.dev.mbxWork 0x70 = some q
    let scriptActs := l.act = some .step ∧ l.run = some r ∧ r.rest = op :: tl
    let answers (st : Nat) (bs : List Nat) (t : State) := t.dev.mbx = { s.dev.mbx with result := some (st, bs) }
    let failed (result : Nat) (t : State) := t.dev.fget R.LIF_SCR_RESULT r.s = result ∧
      t.dev.fget R.LIF_SCR_RUNS r.s = (s.dev.fget R.LIF_SCR_RUNS r.s + 1) % 4096 ∧ t.dev.fbit R.LIF_EVT_DONE = true ∧ t.dev.fbit R.LIF_EVT_FAIL = true ∧
      Counted s t R.LIF_FAIL_COUNT 0 ∧ t.dev.lif.run = none ∧ t.dev.fbit R.LIF_STAT_RUN = false
    let idle (t : State) := t.dev.lif.act = none ∧ t.dev.fget R.LIF_STAT_STATE = 0
    let ends := [R.LIF_STAT.at 0, R.LIF_EVT.at 0, R.LIF_SCR.at r.s, R.LIF_FAIL.at 0]
    (asks → inLimits → l.queue = [] → l.act = none → ¬ busAt 3 →
      Runs .localTransfer s (fun t => t.dev.lif = { l with queue := [.host a1 n1 q.data] } ∧ t.dev.mbx = s.dev.mbx ∧ Only [] s t)) ∧
    (asks → inLimits → l.queue = [] → l.act = none → busAt 3 → Runs .localTransfer s (fun t => t.dev.lif = l ∧ answers 7 [5] t ∧ Only [] s t)) ∧
    (asks → ¬ inLimits → Runs .localTransfer s (fun t => t.dev.lif = l ∧ answers 2 [] t ∧ Only [] s t)) ∧
    (s.dev.mbxWork 0x70 = none → Runs .localTransfer s (fun t => t = s)) ∧
    (isFree → busAt 0 → l.act = none → l.queue = host :: js → l.needClear = false →
      Runs (.localBusFree stop high) s (fun t => t.dev.lif = { took with queue := js, repeats := 0, act := some host } ∧ t.dev.fget R.LIF_STAT_STATE = 1 ∧
        t.dev.fget R.LIF_STAT_EXT_BUSY = 0 ∧ Only [R.LIF_STAT.at 0] s t)) ∧
    (isFree → busAt 0 → l.act = none → l.queue = host :: js → l.needClear = true →
      Runs (.localBusFree stop high) s (fun t => t.dev.lif = l ∧ t.dev.fget R.LIF_STAT_STATE = 2 ∧ t.dev.fget R.LIF_STAT_EXT_BUSY = 0 ∧ Only [R.LIF_STAT.at 0] s t)) ∧
    (isFree → busAt 0 → l.act = none → l.queue = .clear :: js →
      Runs (.localBusFree stop high) s (fun t => t.dev.lif = { l with queue := js } ∧ t.dev.fget R.LIF_STAT_STATE = 2 ∧ t.dev.fget R.LIF_STAT_EXT_BUSY = 0 ∧ Only [R.LIF_STAT.at 0] s t)) ∧
    (isFree → busAt 0 → l.act = some host → Runs (.localBusFree stop high) s (fun t => t.dev.lif = l ∧ t.dev.fget R.LIF_STAT_STATE = 1 ∧
      t.dev.fget R.LIF_STAT_EXT_BUSY = 0 ∧ Only [R.LIF_STAT.at 0] s t)) ∧
    (isFree → busAt 1 → Runs (.localBusFree stop high) s (fun t => t.dev.lif = l ∧ Wrote s t R.LIF_STAT_EXT_BUSY 0 0 ∧ Only [R.LIF_STAT.at 0] s t)) ∧
    (¬ isFree → Runs (.localBusFree stop high) s (fun t => t.dev.lif = l ∧ (¬ unheld ∧ busAt 0 → Wrote s t R.LIF_STAT_EXT_BUSY 0 1) ∧
      (unheld ∨ ¬ busAt 0 → Wrote s t R.LIF_STAT_EXT_BUSY 0 0) ∧ Only [R.LIF_STAT.at 0] s t)) ∧
    (busAt 1 → hostActs → nack = 0 → bytes.length = n → Runs (.localTransferDone nack bytes) s (fun t => answers 0 (bytes.map (·.toNat)) t ∧ idle t ∧
      Counted s t R.LIF_XFER_COUNT 0 ∧ t.dev.lif.queue = l.queue ∧ Only [R.LIF_STAT.at 0, R.LIF_XFER.at 0] s t)) ∧
    (busAt 1 → hostActs → nack ≠ 0 → Runs (.localTransferDone nack bytes) s (fun t => answers 7 [(nack : Nat)] t ∧ idle t ∧
      Counted s t R.LIF_NACK_COUNT 0 ∧ t.dev.lif.queue = l.queue ∧ Only [R.LIF_STAT.at 0, R.LIF_NACK.at 0] s t)) ∧
    (busAt 1 → scriptActs → nack = 0 → op = .write addr data → transferFirst tl = true → Runs (.localTransferDone nack bytes) s (fun t =>
      t.dev.lif = { l with act := none, repeats := 0, run := some { r with rest := tl }, queue := l.queue ++ [.step] } ∧ t.dev.fget R.LIF_STAT_STATE = 0 ∧
      Counted s t R.LIF_XFER_COUNT 0 ∧ t.dev.mbx = s.dev.mbx ∧ Only [R.LIF_STAT.at 0, R.LIF_XFER.at 0] s t)) ∧
    (busAt 1 → scriptActs → nack = 0 → op = .read addr 1 n → n < 32 → transferFirst tl = true → bytes.length = 1 → Runs (.localTransferDone nack bytes) s (fun t =>
      t.dev.lif.run = some { r with rest := tl } ∧ t.dev.lif.queue = l.queue ++ [.step] ∧ idle t ∧ Counted s t R.LIF_XFER_COUNT 0 ∧
      Wrote s t { R.LIF_RES_DATA with hi := if n % 2 = 0 then 15 else 7, lo := if n % 2 = 0 then 8 else 0 } (n / 2) (bytes.headD 0).toNat ∧
      Only [R.LIF_STAT.at 0, R.LIF_XFER.at 0, R.LIF_RES.at (n / 2)] s t)) ∧
    (busAt 1 → scriptActs → nack ≠ 0 → l.queue = [] → Runs (.localTransferDone nack bytes) s (fun t => failed nack t ∧ idle t ∧ Counted s t R.LIF_NACK_COUNT 0 ∧
      t.dev.lif.queue = [] ∧ t.dev.mbx = s.dev.mbx ∧ Only (R.LIF_NACK.at 0 :: ends) s t)) ∧
    (busAt 1 → l.repeats < l.retry → Runs .arbitrationLost s (fun t => t.dev.lif = { l with repeats := l.repeats + 1 } ∧
      t.dev.fget R.LIF_STAT_STATE = 0 ∧ t.dev.fget R.LIF_STAT_EXT_BUSY = 1 ∧ Counted s t R.LIF_ARB_LOST_COUNT 0 ∧ Only [R.LIF_STAT.at 0, R.LIF_ARB_LOST.at 0] s t)) ∧
    (busAt 1 → scriptActs → l.retry ≤ l.repeats → l.queue = [] → Runs .arbitrationLost s (fun t => failed 3 t ∧ idle t ∧ t.dev.fbit R.LIF_EVT_ARB = true ∧
      Counted s t R.LIF_ARB_LOST_COUNT 0 ∧ Only (R.LIF_ARB_LOST.at 0 :: ends) s t)) ∧
    (busAt 1 → msCycles l.tmo < low → scriptActs → l.queue = [] → Runs (.localClockTimeout low) s (fun t => failed 4 t ∧ t.dev.lif.act = none ∧ t.dev.lif.needClear = true ∧ t.dev.fget R.LIF_STAT_STATE = 2 ∧
      Counted s t R.LIF_TIMEOUT_COUNT 0 ∧ Only (R.LIF_TIMEOUT.at 0 :: ends) s t)) ∧
    (low ≤ msCycles l.tmo → Runs (.localClockTimeout low) s (fun t => t = s)) ∧
    (¬ busAt 1 → Runs (.localTransferDone nack bytes) s (fun t => t = s) ∧ Runs .arbitrationLost s (fun t => t = s) ∧ Runs (.localClockTimeout low) s (fun t => t = s)) ∧
    Runs .busClear s (fun t => t.dev.lif = { l with queue := l.queue ++ [.clear] } ∧ Only [] s t) ∧
    (busAt 2 → ¬ held → lineFree → Runs (.busClearDone sda samples low) s (fun t => t.dev.lif = { l with needClear := false } ∧ t.dev.fget R.LIF_STAT_STATE = 0 ∧
      Counted s t R.LIF_CLEARS_COUNT 0 ∧ Only [R.LIF_STAT.at 0, R.LIF_CLEARS.at 0] s t)) ∧
    (busAt 2 → held ∨ (¬ lineFree ∧ 9 ≤ samples.length) → l.queue.all (· == .clear) = true → Runs (.busClearDone sda samples low) s (fun t => t.dev.lif = { l with needClear := true, stuckClk := s.dev.time.clk } ∧ t.dev.fget R.LIF_STAT_STATE = 3 ∧
      Counted s t R.LIF_CLEARS_COUNT 0 ∧ Raised s t R.LIF_EVT_STUCK 0 ∧ Only [R.LIF_STAT.at 0, R.LIF_CLEARS.at 0, R.LIF_EVT.at 0] s t)) ∧
    (¬ busAt 2 ∨ (¬ held ∧ ¬ lineFree ∧ samples.length < 9) → Runs (.busClearDone sda samples low) s (fun t => t = s)) ∧
    (busAt 3 → l.stuckClk + Config.sysPerSecond ≤ s.dev.time.clk → Runs .stuckRetry s (fun t => t.dev.lif = l ∧ Wrote s t R.LIF_STAT_STATE 0 2 ∧ Only [R.LIF_STAT.at 0] s t)) ∧
    (¬ busAt 3 ∨ s.dev.time.clk < l.stuckClk + Config.sysPerSecond → Runs .stuckRetry s (fun t => t = s))
/-- R438, R499, R550 to R557, R597, R601. -/
def Obligations.MainResetCauses : Prop :=
  ∀ (s : State) (i : Nat) (k : Nat) (supply : Fin 8) (flash : Bool) (mv ns us : Nat),
    let p := s.dev.pwr
    let outside := s.dev.boot.phase ≠ .inReset
    let low := mv < (s.dev.supplyLevels supply).1 ∧ 2000 < ns
    let rises := (s.dev.supplyLevels supply).2 < mv ∧ 1000 ≤ us ∧ Config.sysPerMs ≤ s.dev.since (smGet (fun _ => 0) p.boClk supply) ∧ bitAt p.bo supply = true
    let cleared (t : State) := t.dev.boot.phase = .inReset ∧ t.dev.regs.staged = [] ∧ t.dev.regs.committed = [] ∧ t.dev.regs.applied = [] ∧
      t.pending = s.pending ∧ t.flash = s.flash ∧ t.lily = s.lily ∧ (isBackup i = true → t.reg i = s.reg i) ∧
      t.reg 0xCA = s.reg 0xCA &&& BitVec.ofNat 16 backupEvt ∧
      (isBackup i = false → i ≠ 0xCA → i ≠ R.PWR_STAT.at 0 → i ≠ R.GPIO_IN.at 0 → i ≠ R.CX_STAT.at 0 → i ≠ R.FSP_STAT.at 0 → t.reg i = resetWord i) ∧
      (∀ b ∈ signalBalls, t.dev.ballState b = some b.rest ∧ t.dev.ballLevel b = none)
    let sensors (t : State) := t.dev.tmp = s.dev.tmp
    let held (c : Nat) (t : State) := t.dev.pwr.seen = p.seen ||| 2 ^ c ∧ t.dev.pwr.active = p.active ||| 2 ^ c
    let noted (c : Nat) (t : State) := t.dev.pwr.seen = p.seen ||| 2 ^ c ∧ t.dev.pwr.active = p.active
    let ended (c : Nat) (t : State) := t.dev.pwr.active.testBit c = false ∧ (k ≠ c → t.dev.pwr.active.testBit k = p.active.testBit k) ∧ Only [] s t
    let good (t : State) := t.dev.pwr.bo.testBit supply = false ∧ (k ≠ supply → t.dev.pwr.bo.testBit k = p.bo.testBit k)
    (outside → Runs .por s (fun t => cleared t ∧ sensors t ∧ noted 0 t)) ∧
    (outside → Runs .xoLoss s (fun t => cleared t ∧ sensors t ∧ noted 3 t)) ∧
    (outside → 1000 ≤ ns → Runs (.resetNAssert ns) s (fun t => cleared t ∧ sensors t ∧ held 4 t)) ∧
    (ns < 100 → Runs (.resetNAssert ns) s (fun t => t = s)) ∧
    (outside → p.soft = true → usCycles 100 ≤ s.dev.since p.softClk → Runs .softwareReset s (fun t => cleared t ∧ sensors t ∧ noted 6 t)) ∧
    (p.soft = false ∨ s.dev.since p.softClk < usCycles 100 → Runs .softwareReset s (fun t => t = s)) ∧
    (outside → low → Runs (.brownOut supply mv ns) s (fun t => cleared t ∧ held 1 t ∧ t.dev.pwr.bo = p.bo ||| 2 ^ (supply : Nat) ∧
      t.dev.pwr.boSeen = p.boSeen ||| 2 ^ (supply : Nat) ∧ (supply ≠ 2 → sensors t) ∧ (supply = 2 → t.dev.tmp = {}))) ∧
    (¬ low → Runs (.brownOut supply mv ns) s (fun t => t = s)) ∧
    (outside → Runs (.testPin true) s (fun t => cleared t ∧ sensors t ∧ t.dev.pwr.test = true ∧ t.dev.pwr.active = p.active ∧
      t.dev.pwr.seen = p.seen ||| s.dev.fget R.PWR_RST_CAUSE_CAUSE)) ∧
    Runs (.testPin false) s (fun t => t.dev = { s.dev with pwr := { p with test := false, endClk := if p.test then max p.endClk s.dev.time.clk else p.endClk } } ∧ Only [] s t) ∧
    (¬ outside → Runs .por s (fun t => t.dev = { s.dev with pwr := { p with seen := p.seen ||| 1, endClk := max p.endClk (s.dev.time.clk + causeHold 0) } } ∧ Only [] s t)) ∧
    Runs .resetNRelease s (ended 4) ∧
    (rises → p.bo ≠ 2 ^ (supply : Nat) → Runs (.supplyGood supply ⟨mv, us⟩) s (fun t => good t ∧ t.dev.pwr.active = p.active ∧ Only [] s t)) ∧
    (rises → p.bo = 2 ^ (supply : Nat) → Runs (.supplyGood supply ⟨mv, us⟩) s (fun t => good t ∧ ended 1 t)) ∧
    (¬ rises → Runs (.supplyGood supply ⟨mv, us⟩) s (fun t => t = s)) ∧
    (ns < 500 → 1200 < mv → Runs (.vioLevelSelect flash ns mv) s (fun t =>
      Wrote s t (if flash then R.PWR_STAT_VIOF_33 else R.PWR_STAT_VIOH_33) 0 (b2n (decide (2500 < mv))) ∧ Only [R.PWR_STAT.at 0] s t)) ∧
    (500 ≤ ns ∨ mv ≤ 1200 → Runs (.vioLevelSelect flash ns mv) s (fun t => t = s))

/-- R38, R558 to R560, R566, R567, R638. -/
def Obligations.DomainTransitionsAndTemperature : Prop :=
  ∀ (s : State) (pd k : Fin 8) (g : Nat) (i : Fin 4) (v : Int) (w : List (Option Int)),
    let dom := s.dev.domOf pd
    let settled (j : Nat) := (j : Nat) ≠ pd → s.dev.domState j = s.dev.domWant j
    let quiet := settled 2 ∧ settled 3 ∧ settled 4 ∧ settled 5 ∧ settled 6 ∧ settled 7 ∧ s.dev.domOrder 5 ≠ 2 ∧ s.dev.domWant pd = g
    let plain := 2 ≤ pd ∧ g ≤ 2 ∧ (pd = 2 ∨ pd = 3 ∨ (g = 1 ∧ dom.old = 2))
    let passed := dom.clk + domCycles pd dom.old ≤ s.dev.time.clk
    let trip := s.dev.fget R.TMP_CFG_TRIP
    let x := s.dev.sensor i
    let running := s.dev.boot.phase = .released ∧ s.dev.sensorsDark = false ∧ (s.dev.tmp.readClk = 0 ∨ s.dev.tmp.readClk - 1 + usCycles 10 ≤ s.dev.time.clk)
    let one := w = (List.replicate 4 none).set i (some v)
    let inRange := -550 ≤ v ∧ v ≤ 1750
    let calm := (List.range 4).all (fun j => decide ((s.dev.sensor j).high = 0)) = true
    let silent := usCycles 100 < s.dev.since x.clk
    let failed (n : Nat) (t : State) := t.dev.sensor i = { val := none, failed := true, good := n, clk := s.dev.time.clk } ∧ t.dev.fget R.TMP_T_TEMP i = 0x8000 ∧
      bitAt (t.dev.fget R.TMP_STAT_FAILED) i = true
    (dom.goal = some g → dom.stopping = false → passed → plain → quiet → Runs (.domainTransitionDone pd) s (fun t => t.dev.domState pd = g ∧
      (2 ≤ k → k ≠ pd → t.dev.domState k = s.dev.domState k) ∧ (t.dev.domOf pd).goal = none ∧ t.dev.fbit R.PWR_EVT_DOM_DONE = true ∧
      Only [R.PWR_DOM_STAT.at 0, R.PWR_EVT.at 0] s t)) ∧
    (dom.goal = some g → dom.stopping = false → ¬ passed → Runs (.domainTransitionDone pd) s (fun t => t = s)) ∧
    (dom.goal = none → Runs (.domainTransitionDone pd) s (fun t => t = s)) ∧
    ((s.dev.domOf 5).held = true → (s.dev.domOf 5).goal = none → s.dev.domWant 5 = 2 → s.dev.domState 5 = 1 →
      Runs .domainHeldRelease s (fun t => (t.dev.domOf 5).goal = some 2 ∧ t.dev.domState 5 = 3 ∧ Only [R.PWR_DOM_STAT.at 0] s t)) ∧
    ((s.dev.domOf 5).held = false → Runs .domainHeldRelease s (fun t => t = s)) ∧
    (running → one → inRange → calm → x.failed = false → v < 10 * trip → v < 1050 → Runs (.tempReading w) s (fun t =>
      t.dev.fgetI R.TMP_T_TEMP i = v ∧ v ≤ t.dev.fgetI R.TMP_MAX_TEMP ∧ bitAt (t.dev.fget R.TMP_STAT_FAILED) i = false ∧ t.dev.boot.phase = .released)) ∧
    (running → one → inRange → calm → x.failed = true → 99 ≤ x.good → v < 10 * trip → Runs (.tempReading w) s (fun t =>
      t.dev.fgetI R.TMP_T_TEMP i = v ∧ (t.dev.sensor i).failed = false)) ∧
    (running → one → inRange → calm → x.failed = true → x.good < 99 → Runs (.tempReading w) s (failed (x.good + 1))) ∧
    (running → one → ¬ inRange → calm → Runs (.tempReading w) s (failed 0)) ∧
    (running → one → inRange → x.failed = false → 2 ≤ x.high → 10 * (trip : Int) ≤ v → bitAt s.dev.pwr.active 2 = false → Runs (.tempReading w) s (fun t =>
      t.dev.boot.phase = .inReset ∧ bitAt t.dev.pwr.seen 2 = true ∧ bitAt t.dev.pwr.active 2 = true ∧ t.flash = s.flash)) ∧
    (s.dev.tmp.cool ≠ 0 → s.dev.tmp.cool + Config.sysPerSecond ≤ s.dev.time.clk + 1 →
      Runs .thermalRelease s (fun t => bitAt t.dev.pwr.active 2 = false ∧ Only [] s t)) ∧
    (s.dev.tmp.cool = 0 ∨ s.dev.time.clk + 1 < s.dev.tmp.cool + Config.sysPerSecond → Runs .thermalRelease s (fun t => t = s)) ∧
    (running → x.failed = false → silent → Runs (.sensorFail i) s (fun t => (t.dev.sensor i).failed = true ∧ (t.dev.sensor i).val = none ∧
      t.dev.fget R.TMP_T_TEMP i = 0x8000 ∧ bitAt (t.dev.fget R.TMP_STAT_FAILED) i = true)) ∧
    (x.failed = true ∨ ¬ silent → Runs (.sensorFail i) s (fun t => t = s))
/-- R603 to R609. -/
def Obligations.PinsAndTestPort : Prop :=
  ∀ (s : State) (n m : Fin 12) (drive : Option Bool) (level trst : Bool) (tenths tms : Nat) (v : BitVec 16) (code : Byte) (cells : List Bool),
    let w := s.dev.fget R.GPIO_IN_IN
    let edge := bitAt (s.dev.fget R.GPIO_CFG_EDGE n) (if level then 0 else 1)
    let shows (t : State) := bitAt (t.dev.fget R.GPIO_IN_IN) n = level ∧ (m ≠ n → bitAt (t.dev.fget R.GPIO_IN_IN) m = bitAt w m)
    let output := s.dev.fget R.GPIO_CFG_FUNC n = 1 ∧ s.dev.fbit R.GPIO_CFG_OD n = false ∧ s.dev.chainHeld = false ∧ s.dev.boot.phase = .released
    let pull := s.dev.fget R.GPIO_CFG_PULL n
    let at_ := match drive, s.dev.gpioDrives n with | some b, _ => some b | none, some b => some b | none, none => if pull = 0 then none else some (decide (2 ≤ pull))
    let same (t : State) := t.dev = { s.dev with freeIdx := s.dev.freeIdx + 1 } ∧ Only [] s t
    let idBits := (List.range 32).map (bitAt idCode)
    let bdReg := s.dev.pin.ir = 0 ∨ s.dev.pin.ir = 2
    (611 ≤ tenths → at_ = some level → bitAt w n ≠ level → edge = true → Runs (.gpioEdge n drive tenths) s (fun t => shows t ∧
      t.reg (R.GPIO_EVT.at 0) = s.reg (R.GPIO_EVT.at 0) ||| BitVec.ofNat 16 (2 ^ (n : Nat)) ∧ Only [R.GPIO_IN.at 0, R.GPIO_EVT.at 0] s t)) ∧
    (611 ≤ tenths → at_ = some level → bitAt w n ≠ level → edge = false → Runs (.gpioEdge n drive tenths) s (fun t => shows t ∧ Only [R.GPIO_IN.at 0] s t)) ∧
    (tenths < 203 ∨ at_ = none ∨ at_ = some (bitAt w n) → Runs (.gpioEdge n drive tenths) s same) ∧
    Runs (.gpioOutWrite v) s (fun t => Wrote s t R.GPIO_OUT_OUT 0 (v.toNat % 4096) ∧ t.dev.pin = s.dev.pin ∧ Only [R.GPIO_OUT.at 0] s t ∧
      (output → t.dev.gpioDrives n = some (bitAt v.toNat n != s.dev.fbit R.GPIO_CFG_INV n))) ∧
    (msCycles 100 ≤ s.dev.time.cyc → Runs .ppsOutEnd s (fun t => t.dev.pin = { s.dev.pin with pps := false } ∧ Only [] s t)) ∧
    (s.dev.time.cyc < msCycles 100 → Runs .ppsOutEnd s (fun t => t = s)) ∧
    (trst = true ∨ 5 ≤ tms → Runs (.jtagReset trst tms) s (fun t => t.dev.pin = { s.dev.pin with ir := 1, shift := idBits } ∧ t.dev.chainHeld = false ∧ Only [] s t)) ∧
    (trst = false → tms < 5 → Runs (.jtagReset trst tms) s (fun t => t = s)) ∧
    Runs (.jtagInstruction code) s (fun t => t.dev.pin = { s.dev.pin with
        ir := code.toNat, shift := if code = 0 ∨ code = 2 then s.dev.pin.boundary else if code = 1 then idBits else [false] } ∧ Only [] s t ∧
      (code = 0 ∨ code = 7 ∨ code = 8 → t.dev.gpioDrives n = none)) ∧
    (bdReg → cells.length = 198 → Runs (.boundaryRegisterUpdate cells) s (fun t => t.dev.pin = { s.dev.pin with boundary := cells } ∧ Only [] s t)) ∧
    (¬ bdReg → Runs (.boundaryRegisterUpdate cells) s (fun t => t = s))

/-- R23, R24, R114, R142, R161, R639. -/
def Obligations.BoundariesAndSeconds : Prop :=
  ∀ (s : State) (fm : List FmBlock) (am : List AmBlock) (dbe : List (Nat × Nat)) (iq : List (Nat × List (Int × Int))) (n : Fin 8) (k : Fin 256) (pa pb mv v : Nat),
    let up := s.dev.splStopped = false ∧ s.dev.inReset = false
    let due := s.dev.grid.due ≤ s.dev.time.clk
    let runs4 := up ∧ due ∧ (s.dev.domOf 4).stopping = false ∧ s.dev.domOn 4 = true
    let c := s.dev.ctxOf 3 n
    let tap := s.dev.ctxLive = [(3, (n : Nat))] ∧ c.managed = false ∧ s.dev.ctxEn 3 n = true ∧ c.shed = false ∧ c.restart = false ∧
      c.freq = s.dev.pinFreq 3 n ∧ c.src = s.dev.pinSrc 3 n
    let quiet := (List.range 48).all (fun j => s.dev.dscState j == 0) = true
    let isServed := s.dev.served 3 c.freq c.src = true
    let noted (t : State) := t.dev.blockBlank = s.dev.blanking ∧ t.dev.clk.gap = false ∧ t.dev.grid.due = s.dev.grid.due + Config.sysPerMs
    let power (x p : Nat) (t : State) :=
      t.dev.fgetI R.AFE_POWER_POWER x = clampInt (-32768) 32767 (if p = 0 then -32768 else levelTenths p (10 ^ 22) - s.dev.fgetI R.AFE_ANT_GAIN_GAIN x) ∧ (t.dev.afeOf x).peak100 = 0
    let inputs := s.dev.fbit R.AFE_STAT_SAMPLING 0 = true ∧ s.dev.fbit R.AFE_STAT_SAMPLING 1 = true
    let f := s.dev.fmOf k
    (runs4 → s.dev.ctxLive = [] → Runs (.contextBlockBoundary fm am dbe iq) s (fun t => noted t ∧ t.dev.fget R.CHN_N_FM_COUNT = 0 ∧ t.dev.fget R.CHN_N_IQ_COUNT = 0)) ∧
    (runs4 → tap → quiet → isServed → s.dev.ctxState 3 n = 2 → Runs (.contextBlockBoundary fm am dbe iq) s (fun t => noted t ∧ t.dev.ctxState 3 n = 3 ∧
      t.dev.fget R.CHN_N_IQ_COUNT = 1 ∧ (t.dev.ctxOf 3 n).data = false)) ∧
    (runs4 → tap → quiet → ¬ isServed → s.dev.ctxState 3 n = 3 → Runs (.contextBlockBoundary fm am dbe iq) s (fun t => noted t ∧ t.dev.ctxState 3 n = 1 ∧
      t.dev.fget R.CHN_N_IQ_COUNT = 0 ∧ (t.dev.ctxOf 3 n).missing = true)) ∧
    (¬ up ∨ ¬ due → Runs (.contextBlockBoundary fm am dbe iq) s (fun t => t = s)) ∧
    (up → due → (s.dev.domOf 4).stopping = false → s.dev.domOn 4 = false → Runs (.contextBlockBoundary fm am dbe iq) s (fun t => noted t ∧ t.dev.ctx = s.dev.ctx ∧ Only [] s t)) ∧
    (up → s.dev.grid.meas = some true → inputs → s.dev.domOn 4 = false → Runs (.measurementUpdate true pa pb) s (fun t => power 0 pa t ∧ power 1 pb t ∧
      Only [R.AFE_PEAK.at 0, R.AFE_PEAK.at 1, R.AFE_POWER.at 0, R.AFE_POWER.at 1] s t)) ∧
    (up → s.dev.grid.meas = some false → inputs → s.dev.domOn 4 = true → s.dev.fmLive = [(k : Nat)] → s.dev.amLive = [] → s.dev.ctxState 0 k = 3 → 0 < f.freqN → 60 ≤ s.dev.fgetI R.FMC_SNR_VALUE k →
      Runs (.measurementUpdate false pa pb) s (fun t => power 0 pa t ∧ power 1 pb t ∧
        t.dev.fgetI R.FMC_FOFS_VALUE k = clampInt (-32767) 32767 (divNearInt f.freqSum (10 * f.freqN)) ∧ (t.dev.fmOf k).freqSum = 0 ∧ (t.dev.fmOf k).freqN = 0)) ∧
    (¬ up ∨ s.dev.grid.meas ≠ some true → Runs (.measurementUpdate true pa pb) s (fun t => t = s)) ∧
    (s.dev.inReset = false → s.dev.time.secPending = none → Runs (.dtimeSecond mv) s (fun t => t.dev.time.sec = (s.dev.time.sec + 1) % 2 ^ 32 ∧ t.dev.time.cyc = 0 ∧
      t.dev.fget R.PWR_STAT_VDD08 = clampNat 600 1000 mv ∧ t.dev.pin = { s.dev.pin with pps := true } ∧
      ((s.dev.afeOf 0).ovlSecond = true → Counted s t R.AFE_OVL_SEC_COUNT 0) ∧ ((s.dev.afeOf 0).ovlSecond = false → t.reg (R.AFE_OVL_SEC.at 0) = s.reg (R.AFE_OVL_SEC.at 0)) ∧
      Only [R.PWR_STAT.at 0, R.AFE_OVL_SEC.at 0, R.AFE_OVL_SEC.at 1] s t)) ∧
    (s.dev.inReset = false → s.dev.time.secPending = some v → s.dev.fmLive = [] → Runs (.dtimeSecond mv) s (fun t => t.dev.time.sec = v ∧ t.dev.time.cyc = 0 ∧
      t.dev.time.secPending = none ∧ bitAt (t.dev.fget R.SYS_OWN_EVT) 0 = bitAt (s.dev.fget R.SYS_OWN_EVT) 0 ∧ t.dev.fbit R.SYS_OWN_EVT_TIME_STEP = true)) ∧
    (s.dev.inReset = true → Runs (.dtimeSecond mv) s (fun t => t = s)) ∧
    (s.dev.inReset = false ∧ s.dev.chainHeld = false ∧ s.dev.bus.dead = false → Runs .dtimeFreeze s (fun t => t.dev.time = { s.dev.time with frozen := some s.dev.dtimeNow } ∧ Only [R.HIF_INB_DEFER.at 0] s t)) ∧
    (s.dev.inReset = false ∧ s.dev.chainHeld = false ∧ s.dev.bus.dead = false → Runs .dtimeRelease s (fun t => t.dev.time = { s.dev.time with frozen := none } ∧ Only [R.HIF_INB_DEFER.at 0] s t))
/-- R30, R31, R91, R569 to R575, R580, R583, R585, R590. -/
def Obligations.MonitorErrorsAndRecoveries : Prop :=
  ∀ (s : State) (clean item index : Nat) (ecc : Fin 3) (written : Bool) (i j v : BitVec 16) (e : Fin 12) (k : Fin 256) (c : Fin 8) (r : RecovSt),
    let up := s.dev.inReset = false
    let m := s.dev.mon
    let logs := s.dev.fbit R.MON_CFG_LOG_EN = true ∧ s.dev.fbit R.MON_STAT_LOG_STOP = false
    let passed := passWords ≤ m.scrub
    let ready := up ∧ (m.scrub < passWords ∨ m.scrubClk + 10 * Config.sysPerSecond ≤ s.dev.time.clk)
    let w := min ((if passed then 0 else m.scrub) + clean) (passWords - 1)
    let region := (scrubAt w regionWords).1
    let within := ready ∧ w + 1 < passWords
    let scrubbed (t : State) := t.dev.mon.scrub = w + 1 ∧ t.dev.mon.scrubClk = if passed then s.dev.time.clk else m.scrubClk
    let seq := (m.seq + 1) % 2 ^ 32
    let formed (type : Nat) (body : List Nat) (t : State) := t.dev.mon.queue = m.queue ++ [⟨type, seq, s.dev.time.stamp, body, false⟩] ∧ t.dev.mon.seq = seq ∧
      t.dev.anole = s.dev.anole ++ [false]
    let begins (domain cause it ix : Nat) (acted : Bool) (t : State) :=
      t.dev.mon.recov = [
        { domain := domain, cause := cause, item := it, index := ix, detect := s.dev.time.stamp, clk := s.dev.time.clk
          acted := acted, done := false, duration := 0, epoch := 0, watch := s.dev.lossWatch domain it ix }]
    let layers (t : State) := t.pending = s.pending ∧ t.flash = s.flash ∧ t.lily = s.lily ∧ t.dev.regs.committed = s.dev.regs.committed
    let stalled := s.dev.itemUp 2 k = true ∧ s.dev.ctxState (itemPool 2) k = 3 ∧ msCycles 3 < s.dev.time.clk + 1 - smGet (fun _ => 0) m.prog (4096 + 2 * 256 + k)
    let mine := m.recov = [r] ∧ r.domain = 6 ∧ r.index = e ∧ r.acted = false ∧ r.done = false
    let ended := m.recov = [r] ∧ r.domain = c ∧ r.acted = true ∧ r.done = false ∧ s.dev.epoch.waiting = [] ∧ s.dev.boot.phase = .released ∧ c ≠ 0
    let body := [r.domain, r.cause, r.item, 0] ++ beWord r.index ++ beWord r.epoch ++ be32 (min r.duration (2 ^ 32 - 1)) ++
      be32 (min r.lost (2 ^ 32 - 1)) ++ beWord (r.prog.getD 0xFFFF) ++ be64 r.detect
    let known := r.done = true ∧ (r.watch = [] ∨ r.doneClk + 10 * Config.sysPerSecond ≤ s.dev.time.clk)
    (within → written = false → ecc = 1 → Runs (.scrubRead clean ecc written item index) s (fun t => Counted s t R.MON_ECC_CORR_COUNT region ∧ scrubbed t ∧ Only [R.MON_ECC_CORR.at region] s t)) ∧
    (ready → w + 1 = passWords → written = true ∨ ecc = 0 → Runs (.scrubRead clean ecc written item index) s (fun t => scrubbed t ∧
      Wrote s t R.MON_SCRUB_COUNT 0 ((s.dev.fget R.MON_SCRUB_COUNT + 1) % 65536) ∧ Only [R.MON_SCRUB.at 0] s t)) ∧
    (within → written = false → ecc = 2 → region = 2 → logs → smGet (fun _ => 0) m.errAt 2 = 0 → Runs (.scrubRead clean ecc written item index) s (fun t => 
      Counted s t R.MON_ECC_UNC_COUNT 2 ∧ scrubbed t ∧ t.dev.fbit R.MON_EVT_UNCORR = true ∧ formed 4 ([2, 3] ++ beWord 1 ++ be32 (scrubAt w regionWords).2) t ∧
      Only [R.MON_ECC_UNC.at 2, R.MON_EVT.at 0, R.MON_SEQ_HI.at 0] s t)) ∧
    (within → written = true → Runs (.scrubRead clean ecc written item index) s (fun t => scrubbed t ∧ Only [] s t)) ∧
    (¬ ready → Runs (.scrubRead clean ecc written item index) s (fun t => t = s)) ∧
    (up → isStaged i.toNat = true → Runs (.registerParityError i v false) s (fun t => Counted s t R.MON_PARITY_COUNT 0 ∧ layers t ∧
      smGet resetWord t.dev.regs.applied i.toNat = v ∧ i.toNat ∈ t.dev.epoch.bad ∧ t.dev.regs.staged = s.dev.regs.staged ∧
      (j ≠ i → smGet resetWord t.dev.regs.applied j.toNat = smGet resetWord s.dev.regs.applied j.toNat) ∧ (j.toNat ≠ R.MON_PARITY.at 0 → t.reg j.toNat = s.reg j.toNat))) ∧
    (up → isStaged i.toNat = true → Runs (.registerParityError i v true) s (fun t => smGet resetWord t.dev.regs.staged i.toNat = smGet resetWord s.dev.regs.applied i.toNat ∧
      (j ≠ i → smGet resetWord t.dev.regs.staged j.toNat = smGet resetWord s.dev.regs.staged j.toNat) ∧ t.dev.fbit R.MON_EVT_STAGE_LOST = true ∧ layers t ∧
      t.dev.regs.applied = s.dev.regs.applied ∧ (j.toNat ≠ R.MON_EVT.at 0 → t.reg j.toNat = s.reg j.toNat))) ∧
    (isStaged i.toNat = false → Runs (.registerParityError i v true) s (fun t => t = s)) ∧
    (e ≠ 0 → s.dev.engineRuns e = true → m.recov = [] → s.dev.restarted 6 1 e (s.dev.fget R.MON_CFG_WIN) = false → Runs (.watchdogTrip e) s (fun t =>
      Counted s t R.MON_WDG_COUNT e ∧ begins 6 2 1 e false t ∧ Only [R.MON_WDG.at e] s t)) ∧
    (s.dev.engineRuns 0 = true → m.recov = [] → s.dev.restarted 7 0 0 600 = false → Runs (.watchdogTrip 0) s (fun t => Counted s t R.MON_WDG_COUNT 0 ∧
      begins 7 2 0 0 false t ∧ t.dev.mon.warm = some 2 ∧ Only [R.MON_WDG.at 0] s t)) ∧
    (s.dev.engineRuns e = false → Runs (.watchdogTrip e) s (fun t => t = s)) ∧
    (up → stalled → m.recov = [] → s.dev.restarted 0 2 k (s.dev.fget R.MON_CFG_WIN) = false → s.dev.epoch.waiting = [] → Runs (.stallDetected 0 2 k) s (fun t => begins 0 4 2 k true t ∧
      t.dev.mon.warm = m.warm ∧ (t.dev.ctxOf 0 k).restart = true ∧ Only [] s t)) ∧
    (up → stalled → m.recov = [] → s.dev.restarted 0 2 k (s.dev.fget R.MON_CFG_WIN) = true → s.dev.restarted 7 0 0 600 = false → Runs (.stallDetected 0 2 k) s (fun t =>
      begins 7 3 0 0 false t ∧ t.dev.mon.warm = some 3 ∧ t.dev.fbit R.MON_EVT_ESCALATE = true ∧ Only [R.MON_EVT.at 0] s t)) ∧
    (up → stalled → m.recov = [] → s.dev.restarted 0 2 k (s.dev.fget R.MON_CFG_WIN) = false → s.dev.epoch.waiting = [.rf] →
      Runs (.stallDetected 0 2 k) s (fun t => t.dev.epoch.waiting = [] ∧
        smGet resetWord t.dev.regs.applied j.toNat = smGet resetWord (if unitOf j.toNat = .rf then s.dev.regs.committed else s.dev.regs.applied) j.toNat)) ∧
    (¬ stalled → Runs (.stallDetected 0 2 k) s (fun t => t = s)) ∧
    (mine → s.dev.eraseBusy = false → e = 0 ∨ (4 ≤ e ∧ e ≠ 11) → s.dev.epoch.waiting = [] → Runs (.engineReload e true) s (fun t => t.dev.mon.recov = [{ r with acted := true }] ∧ Only [] s t)) ∧
    (mine → s.dev.eraseBusy = false → e = 11 → s.dev.epoch.waiting = [] → s.dev.fbit R.FSP_SRC_MOULT = false → Runs (.engineReload e true) s (fun t => t.dev.mon.recov = [{ r with acted := true }] ∧
      t.dev.mon.queue = m.queue.map (fun x => if x.type = 1 then { x with time := s.dev.time.stamp, body := s.dev.countersBody (x.body.getD 156 1) }
        else if x.type = 2 then { x with time := s.dev.time.stamp, body := s.dev.histBody } else x) ∧ t.dev.mon.seq = m.seq ∧ Only [] s t)) ∧
    (mine → s.dev.eraseBusy = false → e = 11 → s.dev.epoch.waiting = [] → s.dev.fbit R.FSP_SRC_MOULT = false → Runs (.engineReload e false) s (fun t => t.dev.mon.recov = [{ r with acted := true }] ∧ t.dev.fbit R.MON_EVT_CNT_LOST = true ∧
      t.dev.mon.seq = m.seq ∧ Only [R.MON_EVT.at 0, R.MON_STAT.at 0] s t)) ∧
    (m.recov = [] ∨ s.dev.eraseBusy = true → Runs (.engineReload e true) s (fun t => t = s)) ∧
    (ended → Runs (.recoveryComplete c) s (fun t =>
      t.dev.mon.recov = [{ r with done := true, doneClk := s.dev.time.clk, duration := usOf (s.dev.time.clk - r.clk), epoch := s.dev.fget R.SYS_EPOCH_NUM }] ∧
      t.dev.fbit R.SYS_OWN_EVT_RECOVERED = true ∧ t.dev.fbit R.MON_EVT_RECOVERY = true ∧ Counted s t R.MON_RECOV_COUNT c ∧
      Only [R.SYS_OWN_EVT.at 0, R.MON_EVT.at 0, R.MON_RECOV.at c] s t)) ∧
    (m.recov = [] → Runs (.recoveryComplete c) s (fun t => t = s)) ∧
    (m.recov = [r] → known → logs → Runs .recoveryRecord s (fun t => t.dev.mon.recov = [] ∧ formed 3 body t ∧
      Wrote s t R.MON_LOST_MS_MS 0 (min (s.dev.fget R.MON_LOST_MS_MS + r.lost) 65535) ∧ Only [R.MON_LOST_MS.at 0, R.MON_SEQ_HI.at 0] s t)) ∧
    (m.recov = [] ∨ (m.recov = [r] ∧ ¬ known) → Runs .recoveryRecord s (fun t => t = s))

/-- R586 to R589, R591, R593. -/
def Obligations.MoultRecordsAndRing : Prop :=
  ∀ (s : State) (r : MonRec) (rest : List MonRec) (a j v : Nat) (w : BitVec 16) (q : RingRec),
    let up := s.dev.inReset = false
    let m := s.dev.mon
    let logs := s.dev.fbit R.MON_CFG_LOG_EN = true ∧ s.dev.fbit R.MON_STAT_LOG_STOP = false
    let pair (why : Nat) (flush : Bool) (t : State) := t.dev.mon.queue = m.queue ++ [⟨1, (m.seq + 1) % 2 ^ 32, s.dev.time.stamp, s.dev.countersBody why, flush⟩,
      ⟨2, (m.seq + 2) % 2 ^ 32, s.dev.time.stamp, s.dev.histBody, flush⟩] ∧ t.dev.anole = s.dev.anole ++ [false, false] ∧ t.dev.mon.seq = (m.seq + 2) % 2 ^ 32 ∧ t.dev.mon.pairSec = 0
    let n := recUnits r.type
    let sec := s.dev.ringSector
    let u := ringPlace s.flash m.unit n sec
    let turn := s.dev.anole.head? = some false ∧ s.dev.flashBusy = false
    let first := m.queue = r :: rest ∧ turn
    let inside := ringAddr u ≤ a ∧ a < ringAddr (u + n)
    let spoilt := ringAddr ((ringNeeds s.flash u sec).headD 0) ≤ a ∧ a < ringAddr ((ringNeeds s.flash u sec).headD 0) + 64 * sec
    let sector := ringAddr v ≤ a ∧ a < ringAddr (v + sec)
    let at' (t : State) (x : Nat) := smGet erased t.flash x
    let regs (t : State) := OnlyRegs [R.MON_LOG_POS.at 0, R.MON_STAT.at 0, R.MON_EVT.at 0] s t ∧ t.lily = s.lily
    let readAt (p : Option Nat) (t : State) := t.dev.mon.rd = p ∧ t.dev.fbit R.MON_STAT_RD_END = false
    let newest := ringNewest ((ringAll s.flash).filter (fun x => x.type == 1))
    (up → logs → m.bootPair = true → Runs .countersPair s (fun t => pair 1 false t ∧ t.dev.mon.bootPair = false ∧ Only [R.MON_SEQ_HI.at 0] s t)) ∧
    (up → logs → m.bootPair = false → 3600 ≤ m.pairSec → Runs .countersPair s (fun t => pair 2 false t ∧ Only [R.MON_SEQ_HI.at 0] s t)) ∧
    (m.bootPair = false → m.pairSec < 3600 → Runs .countersPair s (fun t => t = s)) ∧
    (up → logs → s.dev.fbit R.MON_STAT_FLUSHING = false → Runs .moultFlush s (fun t => pair 3 true t ∧ t.dev.fbit R.MON_STAT_FLUSHING = true ∧
      Only [R.MON_SEQ_HI.at 0, R.MON_STAT.at 0] s t)) ∧
    (up → s.dev.fbit R.MON_STAT_FLUSHING = true → Runs .moultFlush s (fun t => t = s)) ∧
    (logs → first → ringNeeds s.flash u sec = [] → ringErased s.flash u (u + n) = true → j < 64 * n → Runs (.logWrite true true) s (fun t =>
      t.dev.mon.queue = rest ∧ t.dev.anole = s.dev.anole.tail ∧ t.dev.mon.unit = (u + n) % 4096 ∧ t.dev.fget R.MON_LOG_POS_UNIT = (u + n) % 4096 ∧
      at' t (ringAddr u + j) = BitVec.ofNat 8 (r.bytes.getD j 0) ∧ (¬ inside → at' t a = at' s a) ∧ regs t)) ∧
    (logs → first → ringNeeds s.flash u sec = [] → Runs (.logWrite true false) s (fun t => t.dev.mon.queue = m.queue ∧ t.dev.anole = s.dev.anole ∧ t.dev.mon.unit = (u / sec + 1) * sec % 4096 ∧
      (¬ inside → at' t a = at' s a) ∧ regs t)) ∧
    (logs → first → ringNeeds s.flash u sec = [v] → v ≠ u → Runs (.logWrite true true) s (fun t => t.dev.mon.queue = rest ∧
      (sector → ¬ inside → at' t a = 0xFF) ∧ (¬ sector → ¬ inside → at' t a = at' s a) ∧ regs t)) ∧
    (logs → first → ringNeeds s.flash u sec ≠ [] → Runs (.logWrite false true) s (fun t => (¬ spoilt → at' t a = at' s a) ∧ t.dev.mon.queue = [] ∧ t.dev.anole = s.dev.anole.filter id ∧
      t.dev.fbit R.MON_STAT_LOG_STOP = true ∧ t.dev.fbit R.MON_EVT_LOG_ERR = true ∧ regs t)) ∧
    (m.queue = [] ∨ (logs ∧ ¬ turn) → Runs (.logWrite true true) s (fun t => t = s)) ∧
    (up → Runs .rdOldest s (fun t => readAt none t ∧ Only [R.MON_STAT.at 0] s t)) ∧
    (up → s.dev.boot.sfdp.isSome = true → newest = some q → Runs .rdNewest s (fun t => readAt (some q.seq) t ∧ Only [R.MON_STAT.at 0] s t)) ∧
    (newest = none → Runs .rdNewest s (fun t => t = s)) ∧
    (up → Runs (.rdSeqWrite w) s (fun t => readAt (some (s.dev.fget R.MON_RD_SEQ_HI_SEQ * 65536 + w.toNat)) t ∧ t.dev.fget R.MON_RD_SEQ_LO_SEQ = w.toNat ∧
      Only [R.MON_STAT.at 0, R.MON_RD_SEQ_LO.at 0] s t)) ∧
    (s.dev.inReset = false ∧ s.dev.chainHeld = false ∧ s.dev.bus.dead = false → Runs .monSeqCapture s (fun t => Wrote s t R.MON_SEQ_LO_SEQ 0 (m.seq % 65536) ∧ Only [R.MON_SEQ_LO.at 0, R.HIF_INB_DEFER.at 0] s t)) ∧
    (up → s.dev.chainHeld = false → s.dev.rdRecord s.flash = some q → Runs (.logRead q.bytes.length) s (fun t => t.dev.bus.out = q.bytes.length :: q.bytes ∧ readAt (some ((q.seq + 1) % 2 ^ 32)) t ∧
      Only [R.MON_STAT.at 0, R.HIF_INB_DEFER.at 0] s t))
/-- R80 to R88, R90, R527, R571. -/
def Obligations.EpochsOfConfiguration : Prop :=
  ∀ (s : State) (k : Nat) (lo : Byte) (k1 k2 : Byte) (u : EpochUnit),
    let d := s.dev
    let atRest := d.inReset = false ∧ d.chainHeld = false ∧ d.bus.active = false ∧ d.bus.inb = .idle ∧ d.fbit R.HIF_CFG_PEC_EN = false
    let applying := d.fbit R.SYS_EPOCH_STAT_APPLYING = true
    let number := if d.fget R.SYS_EPOCH_NUM = 0xFFFF then 1 else d.fget R.SYS_EPOCH_NUM + 1
    let kept (t : State) := t.flash = s.flash ∧ t.lily = s.lily ∧ t.pending = s.pending
    let captured (t : State) := t.dev.regs.committed = d.regs.staged ∧ t.dev.regs.staged = d.regs.staged ∧ t.dev.regs.applied = d.regs.applied ∧
      t.dev.fget R.SYS_EPOCH_NUM = number ∧ t.dev.fbit R.SYS_EPOCH_STAT_APPLYING = true ∧ t.dev.fbit R.BOOT_STAT_WAIT_COMMIT = false ∧ kept t ∧
      (k ∉ [R.SYS_EPOCH_NUM.at 0, R.SYS_EPOCH_STAT.at 0, R.BOOT_STAT.at 0] → t.reg k = s.reg k)
    let heldOn (t : State) := Wrote s t R.SYS_EPOCH_STAT_HELD 0 1 ∧ Only [R.SYS_EPOCH_STAT.at 0] s t
    let abandoned (t : State) := t.dev.regs.staged = d.regs.committed ∧ t.dev.regs.committed = d.regs.committed ∧ t.dev.regs.applied = d.regs.applied ∧
      Wrote s t R.SYS_EPOCH_STAT_HELD 0 0 ∧ kept t ∧ (k ≠ R.SYS_EPOCH_STAT.at 0 → t.reg k = s.reg k)
    let keyed := k1 = 0xC3 ∧ k2 = 0x3C
    let waits := d.epoch.waiting.contains u = true
    let free := d.flashBusy = false ∧ (u = .slk → d.slkBusy = false)
    let bad := d.epoch.bad.any (fun x => unitOf x == u) = true
    let firm := d.lif.started = true ∧ d.fget R.CLK_STAT_SPL ≠ 0 ∧ d.fget R.CLK_STAT_APL ≠ 0
    (atRest → ¬ applying → keyed → Runs (.epochCommit (.command k1 k2 none)) s captured) ∧
    (atRest → applying → keyed → Runs (.epochCommit (.command k1 k2 none)) s heldOn) ∧
    (atRest → ¬ keyed → Runs (.epochCommit (.command k1 k2 none)) s (fun t => Only [] s t ∧ t.dev.epoch = d.epoch)) ∧
    (atRest → ¬ applying → bitsOf (BitVec.ofNat 16 lo.toNat) 1 0 = 1 → Runs (.epochCommit (.register 0xA5 lo none)) s captured) ∧
    (atRest → applying → bitsOf (BitVec.ofNat 16 lo.toNat) 1 0 = 1 → Runs (.epochCommit (.register 0xA5 lo none)) s heldOn) ∧
    (atRest → k1 ≠ 0xA5 → Runs (.epochCommit (.register k1 lo none)) s (fun t => Only [] s t ∧ t.dev.epoch = d.epoch)) ∧
    (atRest → Runs (.epochAbandon (.command none)) s abandoned) ∧
    (atRest → 2 ≤ bitsOf (BitVec.ofNat 16 lo.toNat) 1 0 → Runs (.epochAbandon (.register 0xA5 lo none)) s abandoned) ∧
    (atRest → k1 ≠ 0xA5 → Runs (.epochAbandon (.register k1 lo none)) s (fun t => Only [] s t ∧ t.dev.epoch = d.epoch)) ∧
    (waits → free → Runs (.blockEpochApply u) s (fun t => t.dev.regs.staged = d.regs.staged ∧ t.dev.regs.committed = d.regs.committed ∧
      smGet resetWord t.dev.regs.applied k = smGet resetWord (if unitOf k = u then d.regs.committed else d.regs.applied) k ∧
      t.dev.epoch.waiting = d.epoch.waiting.filter (· != u) ∧ t.flash = s.flash ∧ t.pending = s.pending ∧ (u = .dab → t.reg k = s.reg k))) ∧
    (¬ waits → bad → free → Runs (.blockEpochApply u) s (fun t => t.dev.epoch.bad = d.epoch.bad.filter (fun x => unitOf x != u) ∧ t.dev.epoch.waiting = d.epoch.waiting ∧
      smGet resetWord t.dev.regs.applied k = smGet resetWord (if unitOf k = u ∧ k ∈ d.epoch.bad then d.regs.committed else d.regs.applied) k ∧
      t.dev.regs.staged = d.regs.staged ∧ t.dev.regs.committed = d.regs.committed ∧ t.flash = s.flash ∧ t.pending = s.pending ∧ (isStaged k = false → t.reg k = s.reg k))) ∧
    (¬ waits → ¬ bad → Runs (.blockEpochApply u) s (fun t => t = s)) ∧
    (¬ free → Runs (.blockEpochApply u) s (fun t => t = s)) ∧
    (d.epochDone = true → firm → d.fbit R.SYS_EPOCH_STAT_HELD = false → Runs .epochApplyComplete s (fun t => t.dev.fbit R.SYS_EPOCH_STAT_APPLYING = false ∧
      t.dev.fbit R.SYS_OWN_EVT_EPOCH_APPLIED = true ∧ t.dev.lif = d.lif ∧ t.dev.clk = d.clk ∧ Only [R.SYS_EPOCH_STAT.at 0, R.SYS_OWN_EVT.at 0] s t)) ∧
    (d.epochDone = true → firm → d.fbit R.SYS_EPOCH_STAT_HELD = true → Runs .epochApplyComplete s (fun t => t.dev.fbit R.SYS_OWN_EVT_EPOCH_APPLIED = true ∧
      t.dev.fbit R.SYS_EPOCH_STAT_HELD = false ∧ t.dev.fbit R.SYS_EPOCH_STAT_APPLYING = true ∧ t.dev.regs.committed = d.regs.staged ∧
      t.dev.fget R.SYS_EPOCH_NUM = number ∧ kept t)) ∧
    (d.epochDone = true → d.lif.started = false → d.lif.scripts = [] → d.fget R.CLK_STAT_SPL = 0 → d.fget R.CLK_STAT_APL = 0 → d.fbit R.SYS_EPOCH_STAT_HELD = false →
      Runs .epochApplyComplete s (fun t => t.dev.lif.started = true ∧ t.dev.clk.spl.want = true ∧ t.dev.clk.apl.want = true ∧
        Only [R.SYS_EPOCH_STAT.at 0, R.SYS_OWN_EVT.at 0] s t)) ∧
    (d.epochDone = false → Runs .epochApplyComplete s (fun t => t = s))
/-- R32, R55 to R58, R62, R65, R66, R69, R70, R74, R91, R518, R556. -/
def Obligations.BootAndRelease : Prop :=
  ∀ (s : State) (boot addr : Fin 4) (f : Sfdp) (c : FlashCmd) (b : Fin 2) (first : Bool) (w : Nat) (cntOk : Bool) (r : MbxReq),
    let d := s.dev
    let free := d.boot.phase = .inReset ∧ d.pwr.active = 0 ∧ d.pwr.test = false ∧ d.pwr.endClk + Config.sysPerSecond / 10000 ≤ d.time.clk
    let again := d.boot.phase = .romHold ∧ d.boot.releaseClk + Config.sysPerSecond ≤ d.time.clk
    let off := d.fget R.PWR_DOM_STAT_STATE = 0 ∧ d.pwr.doms = []
    let kept (t : State) := t.flash = s.flash ∧ t.pending = s.pending
    let latched (t : State) := t.dev.fget R.BOOT_STAT_MODE = boot ∧ t.dev.fget R.HIF_STAT_ADDRESS = 0x58 + addr ∧ t.dev.fget R.HIF_STAT_STRAP = addr ∧
      t.dev.fget R.PWR_RST_CAUSE_CAUSE = d.pwr.seen % 256 ∧ t.dev.pwr.seen = 0 ∧ t.dev.fbit R.PWR_EVT_RESET = true ∧ t.dev.time.sec = d.rtcSeconds % 2 ^ 32 ∧
      (bitAt d.pwr.seen 2 = true → t.dev.fbit R.TMP_EVT_TRIPPED = true) ∧ t.lily = [] ∧ kept t
    let quad (lines : Nat) : FlashRead := { addrLines := lines, dataLines := 4, command := c, mhz := 104, enable := some f.quadEnable }
    let single : FlashRead := { addrLines := 1, dataLines := 1, command := ⟨0x03, 0⟩, mhz := 26, enable := none }
    let slow (t : State) := t.dev.boot.read = single ∧ t.dev.fbit R.BOOT_STAT_SLOW_FLASH = true
    let asked (t : State) := t.dev.boot.sfdp = some f ∧ t.dev.boot.sent = [0x66, 0x99, 0x5A] ∧
      (f.read144 = some c → t.dev.boot.read = quad 4 ∧ t.dev.fbit R.BOOT_STAT_SLOW_FLASH = false) ∧
      (f.read144 = none → f.read114 = some c → t.dev.boot.read = quad 1 ∧ t.dev.fbit R.BOOT_STAT_SLOW_FLASH = false) ∧
      (f.read144 = none → f.read114 = none → slow t)
    let after (mode : Nat) := if mode = 2 then BootPhase.imgWait else if mode = 3 then BootPhase.baseline else BootPhase.headers
    let ia := bankImage s.flash 0
    let ib := bankImage s.flash 1
    let ca := headerCheck ia none
    let cb := headerCheck ib none
    let headers := d.boot.phase = .headers
    let results (x y : Nat) (t : State) := t.dev.fget R.BOOT_A_RES = x ∧ t.dev.fget R.BOOT_B_RES = y ∧ kept t ∧ t.lily = s.lily
    let noImage (t : State) := t.dev.boot.phase = .baseline ∧ t.dev.boot.noImage = true ∧ t.dev.fbit R.BOOT_STAT_NO_IMAGE = true ∧
      t.dev.fbit R.BOOT_STAT_FW_MISMATCH = true ∧ t.dev.fget R.BOOT_MISMATCH_CLASS = 0x7F ∧ t.dev.fbit R.BOOT_EVT_FW_MISMATCH = true
    let reads := d.boot.phase = .reading b first ∧ d.enginesUp = true
    let img := bankImage s.flash b
    let other := bankImage s.flash (1 - (b : Nat))
    let ordered := d.fget R.PWR_DOM = 0xAAA ∧ d.fget R.PWR_DOM_STAT_STATE = 0xAAA ∧ d.pwr.doms = []
    let plain (m : BootImage) := imgRecords m = [] ∧ imgScripts m = none
    let runs (bank : Nat) (m : BootImage) (fallback : Bool) (fail : Nat) (t : State) := t.dev.boot.phase = .released ∧ t.dev.boot.noImage = false ∧ t.dev.boot.tadpole = fail ∧
      t.dev.fget R.BOOT_STAT_BANK = bank ∧ t.dev.fbit R.BOOT_STAT_FALLBACK = fallback ∧ t.dev.fget R.BOOT_SEQ_HI_SEQ_HI * 65536 + t.dev.fget R.BOOT_SEQ_LO_SEQ_LO = imgSeq m ∧
      t.dev.fbit R.BOOT_EVT_IMAGE_LOADED = true ∧ kept t ∧ t.lily = s.lily
    let mode := d.fget R.BOOT_STAT_MODE
    let calm := d.fbit R.SYS_EPOCH_STAT_APPLYING = false
    let o := r.offset
    let n := r.data.length
    let asks (op : Nat) := d.mbx.req = some r ∧ d.mbx.result = none ∧ r.opcode = op
    let answers (status : Nat) (payload : List Nat) (t : State) := t.dev.mbx = { d.mbx with result := some (status, payload) }
    let host := mode = 2 ∧ d.boot.hostLoaded = false
    let has (e : Nat) := d.boot.sfdp = some f ∧ e ≤ f.size
    let any := mode = 3
    (free → off → Runs (.resetRelease boot addr true (some f)) s (fun t => t.dev.boot.phase = after boot ∧ asked t ∧ latched t)) ∧
    (free → off → Runs (.resetRelease boot addr true none) s (fun t => t.dev.boot.phase = after boot ∧ t.dev.boot.sfdp = none ∧ slow t ∧
      t.dev.fbit R.BIC_JNL_STAT_STOPPED = true ∧ t.dev.fbit R.MON_STAT_LOG_STOP = true ∧ latched t)) ∧
    (free → Runs (.resetRelease boot addr false none) s (fun t => t.dev.boot.phase = .romHold ∧ latched t)) ∧
    (¬ free → Runs (.resetRelease boot addr true (some f)) s (fun t => t = s)) ∧
    (again → off → Runs (.romCheckRetry true (some f)) s (fun t => t.dev.boot.phase = after mode ∧ asked t ∧ kept t ∧ t.lily = s.lily)) ∧
    (again → Runs (.romCheckRetry false none) s (fun t => t.dev.boot.phase = .romHold ∧ t.dev.boot.releaseClk = d.time.clk ∧ Only [] s t)) ∧
    (¬ again → Runs (.romCheckRetry true (some f)) s (fun t => t = s)) ∧
    (headers → ca = 0 → cb = 0 → seqNewer (imgSeq ib) (imgSeq ia) = true → Runs .bankHeadersRead s (fun t => t.dev.boot.phase = .reading 1 true ∧ results 9 9 t)) ∧
    (headers → ca = 0 → cb ≠ 0 → Runs .bankHeadersRead s (fun t => t.dev.boot.phase = .reading 0 true ∧ results 9 cb t)) ∧
    (headers → ca ≠ 0 → cb = 0 → Runs .bankHeadersRead s (fun t => t.dev.boot.phase = .reading 1 true ∧ results ca 9 t)) ∧
    (headers → ca ≠ 0 → cb ≠ 0 → Runs .bankHeadersRead s (fun t => noImage t ∧ results ca cb t)) ∧
    (reads → first = true → imageCheck img none ≠ 0 → headerCheck other none = 0 → Runs .bankReadDone s (fun t => t.dev.boot.phase = .reading (1 - b) false ∧
      t.dev.boot.prefValid = false ∧ t.dev.fget (resField b) = imageCheck img none ∧ kept t ∧ t.lily = s.lily)) ∧
    (reads → first = true → imageCheck img none ≠ 0 → headerCheck other none ≠ 0 → Runs .bankReadDone s (fun t => noImage t ∧ kept t ∧ t.lily = s.lily)) ∧
    (reads → ordered → imageCheck img none = 0 → compatFail img = 0 → plain img → mode = 0 → calm → Runs .bankReadDone s (fun t => runs b img (!first) 0 t ∧ t.dev.fget (resField b) = 0 ∧
      t.dev.fbit R.SYS_EPOCH_STAT_APPLYING = true ∧ t.dev.regs.committed = d.regs.staged)) ∧
    (reads → ordered → imageCheck img none = 0 → compatFail img = 0 → plain img → mode = 1 → Runs .bankReadDone s (fun t => runs b img (!first) 0 t ∧ t.dev.fget (resField b) = 0 ∧
      t.dev.fbit R.BOOT_STAT_WAIT_COMMIT = true ∧ t.dev.fbit R.BOOT_EVT_WAIT_COMMIT = true ∧ t.dev.regs.committed = d.regs.committed)) ∧
    (reads → ordered → first = false → imageCheck img none ≠ 0 → d.boot.prefValid = true → plain other → mode = 1 → w = d.boot.prefFail → w < 128 → w ≠ 0 → Runs .bankReadDone s (fun t =>
      runs (1 - (b : Nat)) other false w t ∧ t.dev.fget R.BOOT_MISMATCH_CLASS = w ∧ t.dev.fbit R.BOOT_STAT_FW_MISMATCH = true)) ∧
    (d.boot.phase = .baseline → ordered → d.enginesUp = true → Runs .baselineLoadDone s (fun t => t.dev.boot.phase = .released ∧ t.dev.boot.tadpole = 127 ∧
      t.dev.fget R.BOOT_FW_VER 3 = 0 ∧ t.dev.fbit R.BOOT_EVT_IMAGE_LOADED = true ∧ t.dev.regs.committed = d.regs.committed ∧ kept t ∧ t.lily = s.lily)) ∧
    (d.boot.phase ≠ .baseline → Runs .baselineLoadDone s (fun t => t = s)) ∧
    (d.mon.warm = some w → d.flashBusy = false → Runs (.fullWarmRestart true cntOk) s (fun t => t.dev.mon.warm = none ∧ t.dev.regs.staged = t.dev.regs.committed ∧
      t.dev.fbit R.SYS_EPOCH_STAT_HELD = false ∧ t.flash = s.flash ∧ t.pending = s.pending ∧ t.lily = (if d.fspRuns then [] else s.lily))) ∧
    (d.mon.warm = some w → d.flashBusy = false → d.boot.phase = .released → Runs (.fullWarmRestart false cntOk) s (fun t => t.dev.boot.phase = .inReset ∧ bitAt t.dev.pwr.seen 5 = true ∧ kept t ∧ t.lily = s.lily)) ∧
    (d.mon.warm = none ∨ d.flashBusy = true → Runs (.fullWarmRestart true cntOk) s (fun t => t = s)) ∧
    (asks 0x10 → host → o + n ≤ 4194304 → d.domOn 4 = true → Runs .loadChunk s (fun t => answers 0 [] t ∧ t.lily = smSetList (fun _ => 0) s.lily o (r.data.map (BitVec.ofNat 8)) ∧ t.flash = s.flash ∧ OnlyRegs [] s t)) ∧
    (asks 0x11 → host → o % 256 = 0 → o ≤ 4194304 → d.enginesUp = true → imageCheck (hostImage s.lily) (some o) ≠ 0 →
      Runs .loadEnd s (fun t => answers 5 [] t ∧ Wrote s t R.BOOT_H_RES 0 (imageCheck (hostImage s.lily) (some o)) ∧ Only [R.BOOT_H_RES.at 0] s t)) ∧
    (asks 0x20 → ofBe r.data ≠ 0 → o % 65536 = 0 → has (o + 65536 * ofBe r.data) → any → Runs (.flashErase none) s (fun t => answers 0 [] t ∧ t.flash = flashErase s.flash o (65536 * ofBe r.data) ∧ OnlyRegs [] s t)) ∧
    (asks 0x21 → 0 < n → o % 4 = 0 → has (o + n) → any → Runs (.flashWrite none) s (fun t => answers 0 [] t ∧ t.flash = flashProg s.flash o r.data ∧ OnlyRegs [] s t)) ∧
    (asks 0x22 → 0 < r.data.headD 0 → r.data.headD 0 ≤ 248 → has (o + r.data.headD 0) → Runs .flashRead s (fun t => answers 0 (flashBytes s.flash o (r.data.headD 0)) t ∧ Only [] s t)) ∧
    (asks 0x23 → has (o + ofBe r.data) → Runs .flashCrc s (fun t => answers 0 (be32 (crc32 (flashBytes s.flash o (ofBe r.data)))) t ∧ Only [] s t))
/-- R60, R75 to R79. What a failed part holds is a free value; that programming ANDs is log entry 30. -/
def Obligations.MailboxLoadAndFlash : Prop :=
  ∀ (s : State) (r : MbxReq) (st k a : Nat) (pay : List Nat) (f : Sfdp) (j : Nat) (fail : Option Nat),
    let d := s.dev
    let m := d.mbx
    let asks (op : Nat) := m.req = some r ∧ m.result = none ∧ r.opcode = op
    let answers (status : Nat) (payload : List Nat) (t : State) := t.dev.mbx = { m with result := some (status, payload) }
    let n := r.data.length
    let o := r.offset
    let has (b : Nat) := d.boot.sfdp = some f ∧ b ≤ f.size
    let beyond (b : Nat) := d.boot.sfdp = none ∨ (d.boot.sfdp = some f ∧ f.size < b)
    let fl (t : State) (x : Nat) := smGet erased t.flash x
    let within (lo hi : Nat) := lo ≤ a ∧ a < hi
    let mode := d.fget R.BOOT_STAT_MODE
    let free := if d.fget R.BOOT_STAT_BANK = 0 then 0x400000 else 0
    let may (lo hi : Nat) := mode = 3 ∨ d.boot.noImage = true ∨ 0xD00000 ≤ lo ∨ (mode = 2 ∧ hi ≤ 0x800000) ∨ (mode < 2 ∧ free ≤ lo ∧ hi ≤ free + 0x400000)
    let parts := ofBe r.data
    let stop := o + 65536 * parts
    let part := if f.erase64k then 65536 else 4096
    let host := d.fget R.BOOT_STAT_MODE = 2 ∧ d.boot.hostLoaded = false
    let img := hostImage s.lily
    let ready := d.enginesUp = true ∧ d.fget R.PWR_DOM = 0xAAA ∧ d.fget R.PWR_DOM_STAT_STATE = 0xAAA ∧ d.pwr.doms = [] ∧ d.fbit R.SYS_EPOCH_STAT_APPLYING = false
    let unfailed (whole : Nat) (before : Nat → Nat) := fail.all (fun x => decide (whole ≤ before x)) = true
    let regs (t : State) := OnlyRegs [] s t ∧ t.lily = s.lily
    let failed (t : State) := answers 4 [] t ∧ Raised s t R.BOOT_EVT_FLASH_ERR 0 ∧ OnlyRegs [R.BOOT_EVT.at 0] s t ∧ t.lily = s.lily
    (m.req = some r → m.result = some (st, pay) → Runs .mailboxRequestComplete s (fun t =>
      t.dev.mbx = { resp := some ((r.opcode ||| 0x80) :: r.tag :: st :: pay) } ∧ Raised s t R.BOOT_EVT_MBX_DONE 0 ∧ Only [R.BOOT_EVT.at 0] s t)) ∧
    (m.req = none ∨ m.result = none → Runs .mailboxRequestComplete s (fun t => t = s)) ∧
    (asks 0x10 → host → o + n ≤ 4194304 → d.domOn 4 = true → Runs .loadChunk s (fun t => answers 0 [] t ∧
      (within o (o + n) → smGet (fun _ => 0) t.lily a = BitVec.ofNat 8 (r.data.getD (a - o) 0)) ∧ (¬ within o (o + n) → smGet (fun _ => 0) t.lily a = smGet (fun _ => 0) s.lily a) ∧
      t.flash = s.flash ∧ OnlyRegs [] s t)) ∧
    (asks 0x10 → host → 4194304 < o + n → Runs .loadChunk s (fun t => answers 2 [] t ∧ Only [] s t)) ∧
    (asks 0x10 → ¬ host → Runs .loadChunk s (fun t => answers 6 [] t ∧ Only [] s t)) ∧
    (asks 0x11 → host → o % 256 = 0 → o ≤ 4194304 → d.enginesUp = true → imageCheck img (some o) ≠ 0 →
      Runs .loadEnd s (fun t => answers 5 [] t ∧ Wrote s t R.BOOT_H_RES 0 (imageCheck img (some o)) ∧ Only [R.BOOT_H_RES.at 0] s t)) ∧
    (asks 0x11 → host → o % 256 = 0 → o ≤ 4194304 → ready → imageCheck img (some o) = 0 → compatFail img = 0 → imgRecords img = [] → imgScripts img = none →
      Runs .loadEnd s (fun t => answers 0 [] t ∧ t.dev.boot.hostLoaded = true ∧ t.dev.boot.phase = .released ∧ t.dev.boot.tadpole = 0 ∧ t.dev.fget R.BOOT_H_RES = 0 ∧
        t.dev.fget R.BOOT_STAT_BANK = 2 ∧ t.dev.fbit R.BOOT_STAT_IMG_WAIT = false ∧ t.dev.fget R.BOOT_SEQ_HI_SEQ_HI * 65536 + t.dev.fget R.BOOT_SEQ_LO_SEQ_LO = imgSeq img ∧
        t.dev.fbit R.BOOT_EVT_IMAGE_LOADED = true ∧ t.dev.regs.committed = d.regs.staged ∧ t.flash = s.flash ∧ t.lily = s.lily ∧ t.pending = s.pending)) ∧
    (asks 0x11 → host → o % 256 ≠ 0 ∨ 4194304 < o → Runs .loadEnd s (fun t => answers 2 [] t ∧ Only [] s t)) ∧
    (asks 0x11 → d.fget R.BOOT_STAT_MODE ≠ 2 → Runs .loadEnd s (fun t => answers 6 [] t ∧ Only [] s t)) ∧
    (asks 0x10 → host → o + n ≤ 4194304 → d.domOn 4 = false → Runs .loadChunk s (fun t => t = s)) ∧
    (asks 0x20 → parts ≠ 0 → o % 65536 = 0 → has stop → may o stop → unfailed (65536 * parts) (part * ·) → Runs (.flashErase fail) s (fun t => answers 0 [] t ∧
      (within o stop → fl t a = 0xFF) ∧ (¬ within o stop → fl t a = fl s a) ∧ regs t)) ∧
    (asks 0x20 → parts ≠ 0 → o % 65536 = 0 → has stop → ¬ may o stop → Runs (.flashErase fail) s (fun t => answers 3 [] t ∧ t.flash = s.flash ∧ regs t)) ∧
    (asks 0x20 → parts = 0 ∨ o % 65536 ≠ 0 ∨ beyond stop → Runs (.flashErase fail) s (fun t => answers 2 [] t ∧ t.flash = s.flash ∧ regs t)) ∧
    (asks 0x20 → parts ≠ 0 → o % 65536 = 0 → has stop → may o stop → part * k < 65536 * parts → Runs (.flashErase (some k)) s (fun t => failed t ∧
      (within o (o + part * k) → fl t a = 0xFF) ∧ (¬ within o (o + part * (k + 1)) → fl t a = fl s a))) ∧
    (asks 0x21 → o % 4 = 0 → 0 < n → has (o + n) → may o (o + n) → unfailed n (pagesBefore o) → Runs (.flashWrite fail) s (fun t => answers 0 [] t ∧
      (within o (o + n) → fl t a = fl s a &&& BitVec.ofNat 8 (r.data.getD (a - o) 0)) ∧ (¬ within o (o + n) → fl t a = fl s a) ∧ regs t)) ∧
    (asks 0x21 → o % 4 = 0 → 0 < n → has (o + n) → ¬ may o (o + n) → Runs (.flashWrite fail) s (fun t => answers 3 [] t ∧ t.flash = s.flash ∧ regs t)) ∧
    (asks 0x21 → o % 4 ≠ 0 ∨ beyond (o + n) → Runs (.flashWrite fail) s (fun t => answers 2 [] t ∧ t.flash = s.flash ∧ regs t)) ∧
    (asks 0x21 → o % 4 = 0 → n = 0 → has o → Runs (.flashWrite fail) s (fun t => answers 0 [] t ∧ t.flash = s.flash ∧ regs t)) ∧
    (asks 0x21 → o % 4 = 0 → has (o + n) → may o (o + n) → pagesBefore o k < n → Runs (.flashWrite (some k)) s (fun t => failed t ∧
      (within o (o + pagesBefore o k) → fl t a = fl s a &&& BitVec.ofNat 8 (r.data.getD (a - o) 0)) ∧
      (¬ within (o + pagesBefore o k) (o + min n (pagesBefore o (k + 1))) → ¬ within o (o + pagesBefore o k) → fl t a = fl s a))) ∧
    (asks 0x22 → j = r.data.headD 0 → 1 ≤ j → j ≤ 248 → has (o + j) → Runs .flashRead s (fun t => answers 0 (flashBytes s.flash o j) t ∧ Only [] s t)) ∧
    (asks 0x22 → r.data.headD 0 = 0 ∨ beyond (o + r.data.headD 0) → Runs .flashRead s (fun t => answers 2 [] t ∧ Only [] s t)) ∧
    (asks 0x23 → has (o + parts) → Runs .flashCrc s (fun t => answers 0 (be32 (crc32 (flashBytes s.flash o parts))) t ∧ Only [] s t)) ∧
    (asks 0x23 → beyond (o + parts) → Runs .flashCrc s (fun t => answers 2 [] t ∧ Only [] s t)) ∧
    (m.req = none → Runs .loadChunk s (fun t => t = s) ∧ Runs .loadEnd s (fun t => t = s) ∧ Runs (.flashErase fail) s (fun t => t = s) ∧
      Runs (.flashWrite fail) s (fun t => t = s) ∧ Runs .flashRead s (fun t => t = s) ∧ Runs .flashCrc s (fun t => t = s))
/-- R5, R8, R13, R520 to R538. -/
def Obligations.HostTransactions : Prop :=
  ∀ (s : State) (again : Bool) (hi lo pec code : Byte) (p k : Nat) (bytes : List Byte) (other : Option Byte) (out : List Nat) (q : MbxReq),
    let d := s.dev
    let b := d.bus
    let up := d.inReset = false
    let heard := up ∧ d.chainHeld = false
    let edge : BusSt := { b with edgeClk := d.time.clk, timedOut := false }
    let low := b.timedOut = false ∧ b.edgeClk + Config.sysPerSecond / 40 < d.time.clk
    let addr := d.fget R.HIF_STAT_ADDRESS * 2
    let wins := other.all (fun o => decide (addr ≤ o.toNat)) = true
    let idle := b.active = false ∧ b.inb = .idle
    let pecOn := d.fbit R.HIF_CFG_PEC_EN = true
    let v := hi.toNat * 256 + lo.toNat
    let start := crc8From 0 [addr, hi.toNat, lo.toNat]
    let wr (ph : Bool) := b.active = true ∧ b.reading = false ∧ b.dead = false ∧ b.phase = .hi ∧ bitAt b.cfg 15 = ph ∧ b.pointer = p
    let moved (t : State) := t.dev.bus.pointer = p / 32 * 32 + (p + 1) % 32 ∧ t.dev.bus.phase = .hi ∧ t.dev.bus.active = true
    let memories (t : State) := t.flash = s.flash ∧ t.lily = s.lily ∧ t.pending = s.pending
    let pecErr (t : State) := t.dev.bus.dead = true ∧ Counted s t R.HIF_PEC_ERR_COUNT 0 ∧ Raised s t R.HIF_EVT_PEC_ERR 0 ∧
      Only [R.HIF_PEC_ERR.at 0, R.HIF_EVT.at 0] s t
    let reads := b.active = true ∧ b.dead = false ∧ bitAt b.cfg 15 = false ∧ b.pointer = p
    let ordinary := 0x0180 ≤ p ∧ p < 0x01C0
    let alerts := d.fbit R.HIF_CFG_ARA_EN = true ∧ d.halert = true
    let mayAsk := d.inbOn = true ∧ d.halert = true ∧ idle ∧ b.idleClk + usCycles 50 ≤ d.time.clk ∧ b.inbNotBefore ≤ d.time.clk
    let waited := d.fget R.HIF_INB_HOLD * (Config.sysPerMs / 10) < d.since b.inbClk
    let whole : List Byte := [16, lo, 0, 0, 0, hi] ++ bytes
    let closes (p : Nat) (l : List Nat) := other = (if d.fbit R.HIF_CFG_PEC_EN then some (BitVec.ofNat 8 (crc8From 0 ([addr] ++ beWord p ++ [crc8From 0 ([addr] ++ beWord p), l.length] ++ l))) else none)
    (heard → idle → ¬ pecOn → v ≠ 0xF011 → Runs (.pointerWrite again hi lo none) s (fun t => t.dev.bus.pointer = v ∧ t.dev.bus.active = true ∧ t.dev.bus.phase = .hi ∧ Only [] s t)) ∧
    (heard → b.active = false → b.inb ≠ .idle → ¬ pecOn → v ≠ 0xF011 → Runs (.pointerWrite again hi lo none) s (fun t => t.dev.bus.pointer = v ∧ t.dev.bus.inb = .idle ∧
      Counted s t R.HIF_INB_DEFER_COUNT 0 ∧ Only [R.HIF_INB_DEFER.at 0] s t)) ∧
    (heard → b.active = true → b.dead = false → bitAt b.cfg 15 = false → again = true → v ≠ 0xF011 → Runs (.pointerWrite again hi lo none) s (fun t =>
      t.dev.bus = { edge with pointer := v, phase := .hi, reading := false, crc := t.dev.bus.crc } ∧ Only [] s t)) ∧
    (heard → idle → pecOn → v ≠ 0xF011 → pec.toNat = start → Runs (.pointerWrite again hi lo (some pec)) s (fun t => t.dev.bus.pointer = v ∧ t.dev.bus.phase = .hi ∧
      t.dev.bus.dead = false ∧ Only [] s t)) ∧
    (heard → idle → pecOn → pec.toNat ≠ start → Runs (.pointerWrite again hi lo (some pec)) s (fun t => t.dev.bus.pointer = b.pointer ∧ pecErr t)) ∧
    (heard → wr false → isStaged p = true → Runs (.registerWrite hi lo none) s (fun t => moved t ∧ t.dev.regs.committed = d.regs.committed ∧
      t.dev.regs.applied = d.regs.applied ∧ t.reg k = s.reg k ∧ memories t)) ∧
    (heard → wr false → p = R.HIF_INB.at 0 → Runs (.registerWrite hi lo none) s (fun t => smGet resetWord t.dev.regs.staged p = BitVec.ofNat 16 (max 1 lo.toNat) ∧
      (k ≠ p → smGet resetWord t.dev.regs.staged k = smGet resetWord d.regs.staged k))) ∧
    (heard → wr false → p = R.HIF_EVT.at 0 → Runs (.registerWrite hi lo none) s (fun t => moved t ∧
      t.reg p = (s.reg p &&& BitVec.ofNat 16 (15 - lo.toNat % 16)) ∧ Only [p] s t)) ∧
    (heard → wr false → findRow p = none → p < 0xF000 → Runs (.registerWrite hi lo none) s (fun t => moved t ∧ Only [] s t)) ∧
    (heard → wr true → p < 0xF000 → pec.toNat ≠ crc8From b.crc [hi.toNat, lo.toNat] → Runs (.registerWrite hi lo (some pec)) s (fun t => t.dev.bus.pointer = p ∧ pecErr t)) ∧
    (heard → wr false → Runs (.registerWrite hi none none) s (fun t => t.dev.bus.pointer = p ∧ t.dev.bus.phase = .lo hi.toNat ∧ Only [] s t)) ∧
    (heard → b.active = false ∨ b.reading = true ∨ b.dead = true → Runs (.registerWrite hi lo none) s (fun t => t.dev.bus = edge ∧ Only [] s t)) ∧
    (¬ heard → Runs (.pointerWrite again hi lo none) s (fun t => t = s) ∧ Runs (.registerWrite hi lo none) s (fun t => t = s) ∧ Runs (.transactionEnd k) s (fun t => t = s) ∧
      Runs (.unknownCommand code bytes k) s (fun t => t = s) ∧ Runs (.alertResponse other) s (fun t => t = s)) ∧
    (heard → b.active = true → Runs (.transactionEnd 0) s (fun t => t.dev.bus.active = false ∧ t.dev.time.frozen = none ∧ t.dev.rtc.shadow = none ∧
      t.dev.bus.pointer = b.pointer ∧ t.dev.bus.idleClk = d.time.clk ∧ Only [] s t)) ∧
    (heard → reads → ordinary → Runs (.transactionEnd 2) s (fun t => t.dev.bus.out = beWord (d.readReg p) ∧ t.dev.bus.active = false ∧
      t.dev.bus.pointer = p / 32 * 32 + (p + 1) % 32 ∧ Only [] s t)) ∧
    (up → low → bitAt b.cfg 12 = true → Runs .hostBusTimeout s (fun t => t.dev.bus.active = false ∧ t.dev.bus.inb = .idle ∧ t.dev.bus.pointer = b.pointer ∧
      Counted s t R.HIF_TIMEOUT_COUNT 0 ∧ Raised s t R.HIF_EVT_TIMEOUT 0 ∧ Only [R.HIF_TIMEOUT.at 0, R.HIF_EVT.at 0] s t)) ∧
    (bitAt b.cfg 12 = false ∨ ¬ low → Runs .hostBusTimeout s (fun t => t = s)) ∧
    (heard → idle → ¬ pecOn → listedCode code.toNat = false → Runs (.unknownCommand code bytes 2) s (fun t => t.dev.bus.out = [0, 0] ∧ Only [] s t)) ∧
    (heard → b.active = false → alerts → ¬ pecOn → wins → Runs (.alertResponse other) s (fun t => t.dev.bus.out = [addr] ∧ t.dev.bus.inb = .idle ∧
      Counted s t R.HIF_ARA_WON_COUNT 0 ∧ Only [R.HIF_ARA_WON.at 0] s t)) ∧
    (heard → b.active = false → alerts → ¬ wins → Runs (.alertResponse other) s (fun t => t.dev.bus.out = b.out ∧ Counted s t R.HIF_ARA_LOST_COUNT 0 ∧ Only [R.HIF_ARA_LOST.at 0] s t)) ∧
    (heard → b.active = false → ¬ alerts → Runs (.alertResponse other) s (fun t => t.dev.bus.out = b.out ∧ t.dev.bus.inb = .idle ∧ Only [] s t)) ∧
    (mayAsk → Runs .inbandRequest s (fun t => t.dev.bus = { b with inb := .hold, inbClk := d.time.clk } ∧ Counted s t R.HIF_INB_REQ_COUNT 0 ∧ Only [R.HIF_INB_REQ.at 0] s t)) ∧
    (¬ mayAsk → Runs .inbandRequest s (fun t => t = s)) ∧
    (b.inb = .hold → Runs .inbandRelease s (fun t => t.dev.bus = { edge with inb := if d.halert then .asked else .idle } ∧ Only [] s t)) ∧
    (b.inb ≠ .hold → Runs .inbandRelease s (fun t => t = s)) ∧
    (b.inb = .hold → waited → d.halert = true → Runs .inbandHoldTimeout s (fun t => t.dev.bus = { b with inb := .idle, inbNotBefore := d.time.clk + msCycles 10 } ∧
      Counted s t R.HIF_INB_TMO_COUNT 0 ∧ Raised s t R.HIF_EVT_INB_TMO 0 ∧ Only [R.HIF_INB_TMO.at 0, R.HIF_EVT.at 0] s t)) ∧
    (b.inb ≠ .hold ∨ ¬ waited → Runs .inbandHoldTimeout s (fun t => t = s)) ∧
    (d.mbx.req = some q → d.mbx.result = some (k, out) → Runs .mailboxRequestComplete s (fun t => t.dev.mbx = { resp := some ((q.opcode ||| 0x80) :: q.tag :: k :: out) } ∧
      Raised s t R.BOOT_EVT_MBX_DONE 0 ∧ Only [R.BOOT_EVT.at 0] s t)) ∧
    (heard → closes 0xF001 (whole.map (·.toNat)) → bytes.length ≤ 248 → d.mbx.req = none → d.mbx.resp = none → Runs (.mailboxWrite (BitVec.ofNat 8 (6 + bytes.length)) whole other) s (fun t =>
      t.dev.mbx.req = some ⟨16, lo.toNat, hi.toNat, bytes.map (·.toNat)⟩ ∧ t.dev.mbx.result = none ∧ Only [R.HIF_INB_DEFER.at 0] s t)) ∧
    (heard → d.mbx.resp = some out → Runs (.mailboxRead out.length) s (fun t => t.dev.bus.out = out.length :: out ∧ t.dev.mbx = { d.mbx with resp := none, busyAnswer := false } ∧
      Only [R.HIF_INB_DEFER.at 0] s t)) ∧
    (heard → hi.toNat ≤ 127 → lo.toNat ≤ 15 → closes 0xF030 [hi.toNat, lo.toNat] → Runs (.pgtBulkWrite 2 [hi, lo] other) s (fun t => t.dev.bus.bulkPos = hi.toNat * 16 + lo.toNat ∧
      Only [R.HIF_INB_DEFER.at 0] s t)) ∧
    (heard → b.bulkPos ≤ 2048 - 127 → Runs (.pgtBulkRead 254) s (fun t => t.dev.bus.out = 254 :: (List.range 127).flatMap (fun x => beWord (d.readReg (0x2000 + b.bulkPos + x))) ∧
      t.dev.bus.bulkPos = b.bulkPos + 127 ∧ Only [R.HIF_INB_DEFER.at 0] s t))
/-- R27, R75, R229, R335, R451, R503, R526 to R531, R537, R586, R593, R636. -/
def Obligations.CapturesAndBlockTransfers : Prop :=
  ∀ (s : State) (n : Fin 256) (i : Fin 4) (theta : Bool) (ds dt op tg : Byte) (px : Option Byte) (body : List Byte) (resp : List Nat) (m k : Nat) (q : RingRec),
    let d := s.dev
    let b := d.bus
    let rest := d.inReset = false ∧ d.chainHeld = false ∧ b.active = false ∧ b.dead = false
    let pec := d.fbit R.HIF_CFG_PEC_EN
    let aw := d.fget R.HIF_STAT_ADDRESS * 2
    let only (l : List Nat) (t : State) := Only (R.HIF_INB_DEFER.at 0 :: l) s t ∧ t.dev.bus.inb = .idle ∧
      (if b.inb = .idle then t.reg (R.HIF_INB_DEFER.at 0) = s.reg (R.HIF_INB_DEFER.at 0) else Counted s t R.HIF_INB_DEFER_COUNT 0)
    let answer (p v : Nat) := beWord v ++ (if pec then [crc8From 0 ([aw] ++ beWord p ++ [aw + 1] ++ beWord v)] else [])
    let sent (p v : Nat) (t : State) := t.dev.bus.out = answer p v ∧ t.dev.bus.active = true
    let block (p : Nat) (l : List Nat) := l ++ (if pec then [crc8From 0 ([aw] ++ beWord p ++ [aw + 1] ++ l)] else [])
    let closes (p : Nat) (l : List Nat) := px = (if pec then some (BitVec.ofNat 8 (crc8From 0 ([aw] ++ beWord p ++ [crc8From 0 ([aw] ++ beWord p), l.length] ++ l))) else none)
    let now := d.dtimeNow
    let set (r : RdsSt) := r.psFrozen
    let settled := ∀ w ∈ d.rtc.transit, d.time.clk < w.due
    let pin := d.mbx.req = none ∧ d.mbx.resp = none
    let count := BitVec.ofNat 8 (6 + body.length)
    let whole := [op, tg, 0x12, 0x34, ds, dt] ++ body
    let request := closes 0xF001 (whole.map (·.toNat)) ∧ body.length ≤ 248
    let asked (data : List Nat) : MbxReq := ⟨op.toNat, tg.toNat, 0x12340000 + ds.toNat * 256 + dt.toNat, data⟩
    let index := 0x2000 + ds.toNat * 16 + dt.toNat
    let pair := [ds, dt, op, tg]
    let inTable := ds.toNat ≤ 127 ∧ dt.toNat ≤ 15
    let values (j : Nat) := (List.range j).flatMap (fun x => beWord (d.readReg (0x2000 + b.bulkPos + x)))
    let layers (t : State) := t.dev.regs.applied = d.regs.applied ∧ t.dev.regs.committed = d.regs.committed ∧ (k ≠ R.HIF_INB_DEFER.at 0 → t.reg k = s.reg k) ∧
      t.flash = s.flash ∧ t.lily = s.lily ∧ t.pending = s.pending
    (rest → Runs .dtimeFreeze s (fun t => t.dev.time = { d.time with frozen := some now } ∧ sent 0x20 (now.1 % 65536) t ∧ t.dev.bus.pointer = 0x21 ∧ only [] t)) ∧
    (rest → Runs .dtimeRelease s (fun t => t.dev.time = { d.time with frozen := none } ∧ (d.time.frozen = some (m, m, m, m) → sent 0x23 (m % 65536) t) ∧ only [] t)) ∧
    (rest → Runs (.psFreeze n) s (fun t => set (t.dev.rdsOf n) = some (d.fget R.RDS_PS1 n, d.fget R.RDS_PS2 n, d.fget R.RDS_PS3 n) ∧
      sent (0x3003 + 8 * n) (s.reg (0x3003 + 8 * n)).toNat t ∧ only [] t)) ∧
    (rest → Runs (.psRelease n) s (fun t => set (t.dev.rdsOf n) = none ∧ (set (d.rdsOf n) = some (m, m, m) → sent (0x3006 + 8 * n) (m % 65536) t) ∧ only [] t)) ∧
    (rest → settled → d.rtc.shadow = none → Runs (.rtcFreeze i) s (fun t => t.dev.rtc = { d.rtc with shadow := some d.rtcTime } ∧
      sent (0xC0 + i) (s.reg (0xC0 + i)).toNat t ∧ only [] t)) ∧
    (rest → settled → d.rtc.shadow = some [m, m, m, m, m] → Runs (.rtcFreeze i) s (fun t => t.dev.rtc = d.rtc ∧ sent (0xC0 + i) (m % 65536) t ∧ only [] t)) ∧
    (rest → settled → Runs .rtcRelease s (fun t => t.dev.rtc = { d.rtc with shadow := none } ∧ (d.rtc.shadow = some [m, m, m, m, m] → sent 0xC4 (m % 65536) t) ∧ only [] t)) ∧
    (rest → theta = false → Runs (.clkPhaseCapture theta) s (fun t => Wrote s t R.CLK_PHASE_LO_NS 0 (unsgn 32 d.clk.e % 65536) ∧
      sent (R.CLK_PHASE_HI.at 0) (s.reg (R.CLK_PHASE_HI.at 0)).toNat t ∧ only [R.CLK_PHASE_LO.at 0] t)) ∧
    (rest → theta = true → Runs (.clkPhaseCapture theta) s (fun t => Wrote s t R.CLK_THETA_LO_NS 0 (unsgn 32 d.clk.theta % 65536) ∧
      sent (R.CLK_THETA_HI.at 0) (s.reg (R.CLK_THETA_HI.at 0)).toNat t ∧ only [R.CLK_THETA_LO.at 0] t)) ∧
    (rest → Runs .fspSentCapture s (fun t => Wrote s t R.FSP_SENT_LO_COUNT 0 (d.fsp.sent % 65536) ∧ sent 0x5AE (d.fsp.sent / 65536 % 65536) t ∧
      only [R.FSP_SENT_LO.at 0, R.FSP_SENT_HI.at 0] t)) ∧
    (rest → Runs .monSeqCapture s (fun t => Wrote s t R.MON_SEQ_LO_SEQ 0 (d.mon.seq % 65536) ∧ sent 0x1C6 (s.reg (R.MON_SEQ_HI.at 0)).toNat t ∧ only [R.MON_SEQ_LO.at 0] t)) ∧
    (rest → pin → request → op = 0x10 → Runs (.mailboxWrite count whole px) s (fun t => t.dev.mbx = { d.mbx with
      req := some (asked (body.map (·.toNat))), result := none, snap := none } ∧ only [] t)) ∧
    (rest → pin → request → op = 0x40 → body = [] → Runs (.mailboxWrite count whole px) s (fun t => t.dev.mbx = { d.mbx with
      req := some (asked []), result := none, snap := d.rdsItem (asked []).offset } ∧ only [] t)) ∧
    (rest → pin → request → mbxFurther op.toNat = none → op.toNat < 0x20 → Runs (.mailboxWrite count whole px) s (fun t => t.dev.mbx.req = some (asked (body.map (·.toNat))) ∧
      t.dev.mbx.result = some (6, []) ∧ only [] t)) ∧
    (rest → d.mbx.req ≠ none → d.mbx.resp = none → request → Runs (.mailboxWrite count whole px) s (fun t =>
      t.dev.mbx = { d.mbx with resp := some [op.toNat ||| 0x80, tg.toNat, 1], busyAnswer := true } ∧ only [] t)) ∧
    (rest → d.mbx.resp ≠ none → request → Runs (.mailboxWrite count whole px) s (fun t => t.dev.mbx = d.mbx ∧ only [] t)) ∧
    (rest → whole.length < op.toNat → Runs (.mailboxWrite op whole none) s (fun t => t.dev.mbx = d.mbx ∧ Counted s t R.HIF_MBX_CUT_COUNT 0 ∧ Raised s t R.HIF_EVT_MBX_CUT 0 ∧
      only [R.HIF_MBX_CUT.at 0, R.HIF_EVT.at 0] t)) ∧
    (rest → d.mbx.resp = some resp → Runs (.mailboxRead resp.length) s (fun t => t.dev.bus.out = resp.length :: resp ∧
      t.dev.mbx = { d.mbx with resp := none, busyAnswer := false } ∧ only [] t)) ∧
    (rest → d.mbx.resp = some resp → m < resp.length → Runs (.mailboxRead m) s (fun t => t.dev.bus.out = resp.length :: resp.take m ∧ t.dev.mbx = d.mbx ∧ only [] t)) ∧
    (rest → d.mbx.resp = none → Runs (.mailboxRead m) s (fun t => t.dev.bus.out = (block 0xF002 [0] ++ List.replicate m 0xFF).take (m + 1) ∧ t.dev.mbx = d.mbx ∧ only [] t)) ∧
    (rest → inTable → closes 0xF030 [ds.toNat, dt.toNat] → Runs (.pgtBulkWrite 2 [ds, dt] px) s (fun t => t.dev.bus.bulkPos = ds.toNat * 16 + dt.toNat ∧ only [] t)) ∧
    (rest → inTable → closes 0xF030 (pair.map (·.toNat)) → Runs (.pgtBulkWrite 4 pair px) s (fun t => layers t ∧ t.dev.bus.bulkPos = b.bulkPos ∧
      t.dev.regs.staged = (Dev.hostWrite s.flash d index (BitVec.ofNat 16 (op.toNat * 256 + tg.toNat))).regs.staged ∧
      (dt = 1 ∨ dt = 2 → smGet resetWord t.dev.regs.staged index = BitVec.ofNat 16 (op.toNat * 256 + tg.toNat)) ∧
      (k ≠ index → smGet resetWord t.dev.regs.staged k = smGet resetWord d.regs.staged k))) ∧
    (rest → ¬ inTable → closes 0xF030 (pair.map (·.toNat)) → Runs (.pgtBulkWrite 4 pair px) s (fun t => t.dev.bus.bulkPos = b.bulkPos ∧ only [] t)) ∧
    (rest → b.bulkPos ≤ 2048 - 127 → m ≤ 127 → Runs (.pgtBulkRead (2 * m)) s (fun t => t.dev.bus.out = 254 :: values m ∧ t.dev.bus.bulkPos = b.bulkPos + m ∧ only [] t)) ∧
    (rest → d.rdRecord s.flash = some q → Runs (.logRead q.bytes.length) s (fun t => t.dev.bus.out = q.bytes.length :: q.bytes ∧
      t.dev.mon.rd = some ((q.seq + 1) % 2 ^ 32) ∧ t.dev.fbit R.MON_STAT_RD_END = false ∧ only [R.MON_STAT.at 0] t)) ∧
    (rest → d.rdRecord s.flash = none → Runs (.logRead m) s (fun t => t.dev.bus.out = (block 0xF020 [0] ++ List.replicate m 0xFF).take (m + 1) ∧ t.dev.mon.rd = d.mon.rd ∧
      t.dev.fbit R.MON_STAT_RD_END = true ∧ only [R.MON_STAT.at 0] t))
/-- R65. -/
def Obligations.NewerBankIsPreferred : Prop :=
  ∀ (s : State),
    let a := bankImage s.flash 0
    let b := bankImage s.flash 1
    let diff := (imgSeq b + 2 ^ 32 - imgSeq a) % 2 ^ 32
    let both := s.dev.boot.phase = .headers ∧ headerCheck a none = 0 ∧ headerCheck b none = 0
    (both → 1 ≤ diff → diff ≤ 2 ^ 31 - 1 → Runs .bankHeadersRead s (fun t => t.dev.boot.phase = .reading 1 true)) ∧
    (both → diff = 0 ∨ diff = 2 ^ 31 → Runs .bankHeadersRead s (fun t => t.dev.boot.phase = .reading 0 true)) ∧
    (both → 2 ^ 31 < diff → Runs .bankHeadersRead s (fun t => t.dev.boot.phase = .reading 0 true))

/-- R82. -/
def Obligations.BothBitsAbandonOnly : Prop :=
  ∀ (s : State) (lo pec : Byte) (k : Nat),
    let d := s.dev
    let b := d.bus
    let at4 := d.inReset = false ∧ d.chainHeld = false ∧ b.active = true ∧ b.reading = false ∧ b.dead = false ∧ b.phase = .hi ∧ b.pointer = 4
    let two := bitAt lo.toNat 0 = true ∧ bitAt lo.toNat 1 = true
    let pecOn := bitAt b.cfg 15 = true
    let right := pec.toNat = crc8From b.crc [0xA5, lo.toNat]
    let abandoned (t : State) := t.dev.regs.staged = d.regs.committed ∧ t.dev.regs.committed = d.regs.committed ∧ t.dev.regs.applied = d.regs.applied ∧
      t.dev.epoch = d.epoch ∧ Wrote s t R.SYS_EPOCH_STAT_HELD 0 0 ∧ (k ≠ R.SYS_EPOCH_STAT.at 0 → t.reg k = s.reg k) ∧
      t.flash = s.flash ∧ t.lily = s.lily ∧ t.pending = s.pending
    (at4 → two → ¬ pecOn → Runs (.registerWrite 0xA5 lo none) s abandoned ∧ Runs (.epochCommit (.register 0xA5 lo none)) s abandoned ∧
      Runs (.epochAbandon (.register 0xA5 lo none)) s abandoned) ∧
    (at4 → two → pecOn → right → Runs (.registerWrite 0xA5 lo (some pec)) s abandoned ∧ Runs (.epochCommit (.register 0xA5 lo (some pec))) s abandoned ∧
      Runs (.epochAbandon (.register 0xA5 lo (some pec))) s abandoned)
/-- The step of a block, and the state after reset (log entries 3 and 4). -/
def Obligations.StepRunsTheCommand : Prop :=
  ∀ (c : Instr) (s : State) (rest : List Instr) (i : Nat),
    (step { s with pending := c :: rest } = exec c { s with pending := rest }) ∧
    (s.pending = [] → ∃ t, step s = .next t ∧ t.dev.time.clk = s.dev.time.clk + 1 ∧ t.dev.time.sec = s.dev.time.sec ∧
      (s.dev.inReset = true → t.dev.time.cyc = s.dev.time.cyc) ∧ Only [] s t) ∧
    (State.reset.pending = [] ∧ State.reset.memWf = true ∧ State.reset.flash = [] ∧ State.reset.lily = [] ∧ State.reset.dev.boot.phase = .inReset ∧
      State.reset.reg i = resetWord i ∧ smGet resetWord State.reset.dev.regs.staged i = resetWord i ∧
      smGet resetWord State.reset.dev.regs.committed i = resetWord i ∧ smGet resetWord State.reset.dev.regs.applied i = resetWord i)

/-- The invariant of the memories, and the protection of the running bank (R78). -/
def Obligations.StepsCompleteAndKeepTheMemories : Prop :=
  ∀ (s : State) (a : Nat),
    let guarded := s.dev.fget R.BOOT_STAT_MODE < 2 ∧ s.dev.boot.noImage = false
    let same (t : State) := smGet erased t.flash a = smGet erased s.flash a
    (∀ c : Instr, ∃ t, exec c s = .next t ∧ t.pending = s.pending) ∧
    ∃ t, step s = .next t ∧ t.pending = s.pending.tail ∧ (s.memWf = true → t.memWf = true) ∧
      (guarded → s.dev.fget R.BOOT_STAT_BANK = 0 → a < 0x400000 → same t) ∧
      (guarded → s.dev.fget R.BOOT_STAT_BANK = 1 → 0x400000 ≤ a → a < 0x800000 → same t)

end
end

