-- ==== Sys2Proof/Laws/Audio.lean ====
section
/-!
SUPPORT. What the correlations of spec/09_programmes.md (R303, R315) find: small facts about `correlate` and `bestLag`.
-/
namespace Sys2Proof.Machine

/-- Signals with nothing in common show no variance. -/
@[simp] theorem correlate_nil_left (b : List Int) : correlate [] b = ⟨0, 0, 0⟩ := rfl

@[simp] theorem correlate_nil_right (a : List Int) : correlate a [] = ⟨0, 0, 0⟩ := by simp [correlate]

/-- Without a lag that gives a correlation the search finds none. -/
theorem bestLag_none (f : Int → Corr) (l : List Int) (h : ∀ x ∈ l, (f x).va * (f x).vb = 0) : bestLag f l = none := by
  induction l with
  | nil => rfl
  | cons x l ih =>
    have hx : ((f x).va * (f x).vb = 0) = True := by simpa using h x (by simp)
    have := ih (fun y hy => h y (by simp [hy]))
    simpa only [bestLag, List.foldl_cons, hx, if_true] using this

/-- Where only one lag of a list gives a correlation, the search finds it. -/
theorem bestLag_single (f : Int → Corr) (m : Int) (l r : List Int) (hl : ∀ x ∈ l, (f x).va * (f x).vb = 0)
    (hm : (f m).va * (f m).vb ≠ 0) (hr : ∀ x ∈ r, (f x).va * (f x).vb = 0) : bestLag f (l ++ m :: r) = some (m, f m) := by
  have h0 := bestLag_none f l hl
  unfold bestLag at h0 ⊢
  rw [List.foldl_append, h0]
  simp only [List.foldl_cons, hm, if_false]
  induction r with
  | nil => rfl
  | cons x r ih =>
    have hx : (f x).above (f m) = false := by simp [Corr.above, hr x (by simp)]
    simpa only [List.foldl_cons, hx, Bool.false_eq_true, if_false] using ih (fun y hy => hr y (by simp [hy]))

end Sys2Proof.Machine
end

