-- ==== Sys2Proof/Laws/SMap.lean ====
section
/-!
SUPPORT. The laws of sparse maps: a read after a write, and that every operation keeps the canonical form.
-/
namespace Sys2Proof.Machine

section
variable {α : Type} {dflt : Nat → α} {m : SMap α} {k j lo : Nat} {v : α}

theorem smGet_smDrop (p : Nat → Bool) (m : SMap α) : smGet dflt (smDrop p m) j = if p j then dflt j else smGet dflt m j := by
  induction m with
  | nil => simp [smDrop, smGet]
  | cons e t ih =>
    obtain ⟨a, w⟩ := e
    by_cases hp : p a <;> by_cases ha : a = j <;> simp_all [smDrop, smGet]

theorem smGet_smIns (k : Nat) (v : α) (m : SMap α) : smGet dflt (smIns m k v) j = if j = k then v else smGet dflt m j := by
  induction m with
  | nil => simp [smIns, smGet, eq_comm]
  | cons e t ih =>
    obtain ⟨a, w⟩ := e
    unfold smIns
    split
    · by_cases h : j = k <;> simp [smGet, h, eq_comm]
    · split
      · next h => subst h; by_cases h : j = k <;> simp [smGet, h, eq_comm]
      · next hka =>
        by_cases ha : a = j
        · subst ha; simp [smGet, Ne.symm hka]
        · simp [smGet, ha, ih]

variable [DecidableEq α]

/-- A read after a write: the value written at its key, and what stood there at every other key. -/
@[simp] theorem smGet_smSet : smGet dflt (smSet dflt m k v) j = if j = k then v else smGet dflt m j := by
  unfold smSet
  split
  · next h => by_cases hj : j = k <;> simp [smGet_smDrop, hj, h]
  · exact smGet_smIns k v m

theorem smWfFrom_mono {lo lo' : Nat} (h : lo' ≤ lo) : ∀ {m : SMap α}, smWfFrom dflt lo m = true → smWfFrom dflt lo' m = true
  | [], _ => rfl
  | (a, w) :: t, hm => by
    simp only [smWfFrom, Bool.and_eq_true, decide_eq_true_eq] at hm ⊢
    exact ⟨by omega, hm.2⟩

theorem smWfFrom_drop (p : Nat → Bool) : ∀ {lo : Nat} {m : SMap α}, smWfFrom dflt lo m = true → smWfFrom dflt lo (smDrop p m) = true
  | _, [], _ => rfl
  | lo, (a, w) :: t, hm => by
    simp only [smWfFrom, Bool.and_eq_true, decide_eq_true_eq] at hm
    have ih := smWfFrom_drop p hm.2.2
    unfold smDrop
    split
    · exact smWfFrom_mono (by omega) ih
    · simp only [smWfFrom, Bool.and_eq_true, decide_eq_true_eq]
      exact ⟨hm.1, hm.2.1, ih⟩

theorem smWfFrom_ins (hv : v ≠ dflt k) : ∀ {lo : Nat} {m : SMap α}, lo ≤ k → smWfFrom dflt lo m = true →
    smWfFrom dflt lo (smIns m k v) = true
  | lo, [], hk, _ => by simp [smIns, smWfFrom, hk, hv]
  | lo, (a, w) :: t, hk, hm => by
    simp only [smWfFrom, Bool.and_eq_true, decide_eq_true_eq] at hm
    unfold smIns
    split
    · next h =>
      simp only [smWfFrom, Bool.and_eq_true, decide_eq_true_eq]
      exact ⟨hk, hv, by omega, hm.2.1, hm.2.2⟩
    · split
      · next h =>
        subst h
        simp only [smWfFrom, Bool.and_eq_true, decide_eq_true_eq]
        exact ⟨hk, hv, hm.2.2⟩
      · next h1 h2 =>
        simp only [smWfFrom, Bool.and_eq_true, decide_eq_true_eq]
        exact ⟨hm.1, hm.2.1, smWfFrom_ins hv (by omega) hm.2.2⟩

/-- A write keeps the canonical form. -/
theorem smWf_smSet (h : smWf dflt m = true) : smWf dflt (smSet dflt m k v) = true := by
  unfold smSet smWf at *
  split
  · exact smWfFrom_drop _ h
  · next hv => exact smWfFrom_ins hv (Nat.zero_le _) h

/-- Returning keys to the default keeps the canonical form. -/
theorem smWf_smDrop (p : Nat → Bool) (h : smWf dflt m = true) : smWf dflt (smDrop p m) = true := smWfFrom_drop p h

/-- Writing a list of values keeps the canonical form. -/
theorem smWf_smSetList : ∀ {vs : List α} {m : SMap α} {k : Nat}, smWf dflt m = true → smWf dflt (smSetList dflt m k vs) = true
  | [], _, _, h => h
  | _ :: vs, _, _, h => smWf_smSet (smWf_smSetList (vs := vs) h)

/-- A read after writing a list: the list's values from `k` on, and what stood there elsewhere. -/
theorem smGet_smSetList : ∀ {vs : List α} {m : SMap α} {k : Nat},
    smGet dflt (smSetList dflt m k vs) j = if h : k ≤ j ∧ j - k < vs.length then vs[j - k] else smGet dflt m j
  | [], m, k => by simp [smSetList]
  | v :: vs, m, k => by
    rw [smSetList, smGet_smSet, smGet_smSetList (vs := vs)]
    by_cases hj : j = k
    · subst hj; simp
    · rw [if_neg hj]
      by_cases h1 : k + 1 ≤ j ∧ j - (k + 1) < vs.length
      · have h2 : k ≤ j ∧ j - k < (v :: vs).length := by simp only [List.length_cons]; omega
        have h3 : j - k = (j - (k + 1)) + 1 := by omega
        simp [h1, h2, h3]
      · have h2 : ¬(k ≤ j ∧ j - k < (v :: vs).length) := by simp only [List.length_cons]; omega
        rw [dif_neg h1, dif_neg h2]

/-- Taking keys over from another canonical map keeps the canonical form. -/
theorem smWf_smTake (p : Nat → Bool) (src : SMap α) (h : smWf dflt m = true) : smWf dflt (smTake dflt p m src) = true := by
  unfold smTake
  induction src with
  | nil => exact smWf_smDrop p h
  | cons e t ih =>
    simp only [List.foldr_cons]
    split
    · exact smWf_smSet ih
    · exact ih

/-- A merge reads as the source on the keys taken over, and as before elsewhere. -/
theorem smGet_smTake (p : Nat → Bool) (src : SMap α) :
    smGet dflt (smTake dflt p m src) j = if p j then smGet dflt src j else smGet dflt m j := by
  unfold smTake
  induction src with
  | nil => simp [smGet_smDrop, smGet]
  | cons e t ih =>
    obtain ⟨a, v⟩ := e
    simp only [List.foldr_cons, smGet]
    by_cases ha : a = j
    · subst ha; by_cases hp : p a = true <;> simp_all
    · have hj : j ≠ a := fun h => ha h.symm
      by_cases hp : p a = true <;> simp_all

end

end Sys2Proof.Machine
end

