-- ==== Sys2Proof/Laws/State.lean ====
section
/-!
SUPPORT. One lemma per update of the state: what each part of the block reads after it. An update of one part leaves every other
part as it was; the simplifier takes each clause as a rewriting rule, so that no proof unfolds a record update.
-/
namespace Sys2Proof.Machine

@[simp] theorem Dev.setImm_parts (d : Dev) (i : Nat) (w : Word) :
    (d.setImm i w).regs.imm = smSet resetWord d.regs.imm i w ∧
    (d.setImm i w).regs.staged = d.regs.staged ∧
    (d.setImm i w).regs.committed = d.regs.committed ∧
    (d.setImm i w).regs.applied = d.regs.applied ∧
    (d.setImm i w).time = d.time ∧ (d.setImm i w).bus = d.bus ∧ (d.setImm i w).mbx = d.mbx ∧
    (d.setImm i w).boot = d.boot ∧ (d.setImm i w).epoch = d.epoch ∧ (d.setImm i w).fsp = d.fsp ∧
    (d.setImm i w).afe = d.afe ∧ (d.setImm i w).bic = d.bic ∧ (d.setImm i w).jnl = d.jnl ∧
    (d.setImm i w).anole = d.anole ∧ (d.setImm i w).ctx = d.ctx ∧ (d.setImm i w).scn = d.scn ∧
    (d.setImm i w).grid = d.grid ∧ (d.setImm i w).shed = d.shed ∧ (d.setImm i w).blockBlank = d.blockBlank ∧
    (d.setImm i w).fm = d.fm ∧ (d.setImm i w).am = d.am ∧ (d.setImm i w).filt = d.filt ∧ (d.setImm i w).rds = d.rds ∧
    (d.setImm i w).ctOffer = d.ctOffer ∧ (d.setImm i w).dbe = d.dbe ∧ (d.setImm i w).dsc = d.dsc ∧
    (d.setImm i w).prg = d.prg ∧ (d.setImm i w).pairs = d.pairs ∧ (d.setImm i w).refs = d.refs ∧
    (d.setImm i w).scoreBlank = d.scoreBlank ∧ (d.setImm i w).fab = d.fab ∧ (d.setImm i w).cod = d.cod ∧
    (d.setImm i w).jck = d.jck ∧ (d.setImm i w).mix = d.mix ∧ (d.setImm i w).tone = d.tone ∧
    (d.setImm i w).ports = d.ports ∧ (d.setImm i w).prt = d.prt ∧ (d.setImm i w).clk = d.clk ∧
    (d.setImm i w).cx = d.cx ∧ (d.setImm i w).slk = d.slk ∧ (d.setImm i w).rtc = d.rtc ∧ (d.setImm i w).lif = d.lif ∧
    (d.setImm i w).pwr = d.pwr ∧ (d.setImm i w).tmp = d.tmp ∧ (d.setImm i w).life = d.life ∧
    (d.setImm i w).mon = d.mon ∧ (d.setImm i w).pin = d.pin ∧ (d.setImm i w).freeIdx = d.freeIdx := by
  repeat' apply And.intro
  all_goals rfl

@[simp] theorem Dev.setStaged_parts (d : Dev) (i : Nat) (w : Word) :
    (d.setStaged i w).regs.staged = smSet resetWord d.regs.staged i w ∧
    (d.setStaged i w).regs.imm = d.regs.imm ∧
    (d.setStaged i w).regs.committed = d.regs.committed ∧
    (d.setStaged i w).regs.applied = d.regs.applied ∧
    (d.setStaged i w).time = d.time ∧ (d.setStaged i w).bus = d.bus ∧ (d.setStaged i w).mbx = d.mbx ∧
    (d.setStaged i w).boot = d.boot ∧ (d.setStaged i w).epoch = d.epoch ∧ (d.setStaged i w).fsp = d.fsp ∧
    (d.setStaged i w).afe = d.afe ∧ (d.setStaged i w).bic = d.bic ∧ (d.setStaged i w).jnl = d.jnl ∧
    (d.setStaged i w).anole = d.anole ∧ (d.setStaged i w).ctx = d.ctx ∧ (d.setStaged i w).scn = d.scn ∧
    (d.setStaged i w).grid = d.grid ∧ (d.setStaged i w).shed = d.shed ∧ (d.setStaged i w).blockBlank = d.blockBlank ∧
    (d.setStaged i w).fm = d.fm ∧ (d.setStaged i w).am = d.am ∧ (d.setStaged i w).filt = d.filt ∧
    (d.setStaged i w).rds = d.rds ∧ (d.setStaged i w).ctOffer = d.ctOffer ∧ (d.setStaged i w).dbe = d.dbe ∧
    (d.setStaged i w).dsc = d.dsc ∧ (d.setStaged i w).prg = d.prg ∧ (d.setStaged i w).pairs = d.pairs ∧
    (d.setStaged i w).refs = d.refs ∧ (d.setStaged i w).scoreBlank = d.scoreBlank ∧ (d.setStaged i w).fab = d.fab ∧
    (d.setStaged i w).cod = d.cod ∧ (d.setStaged i w).jck = d.jck ∧ (d.setStaged i w).mix = d.mix ∧
    (d.setStaged i w).tone = d.tone ∧ (d.setStaged i w).ports = d.ports ∧ (d.setStaged i w).prt = d.prt ∧
    (d.setStaged i w).clk = d.clk ∧ (d.setStaged i w).cx = d.cx ∧ (d.setStaged i w).slk = d.slk ∧
    (d.setStaged i w).rtc = d.rtc ∧ (d.setStaged i w).lif = d.lif ∧ (d.setStaged i w).pwr = d.pwr ∧
    (d.setStaged i w).tmp = d.tmp ∧ (d.setStaged i w).life = d.life ∧ (d.setStaged i w).mon = d.mon ∧
    (d.setStaged i w).pin = d.pin ∧ (d.setStaged i w).freeIdx = d.freeIdx := by
  repeat' apply And.intro
  all_goals rfl

@[simp] theorem Dev.fput_parts (d : Dev) (f : Fld) (n v : Nat) :
    (d.fput f n v).regs.imm = smSet resetWord d.regs.imm (f.base + f.stride * n) (putBits (smGet resetWord d.regs.imm (f.base + f.stride * n)) f.hi f.lo v) ∧
    (d.fput f n v).regs.staged = d.regs.staged ∧
    (d.fput f n v).regs.committed = d.regs.committed ∧
    (d.fput f n v).regs.applied = d.regs.applied ∧
    (d.fput f n v).time = d.time ∧ (d.fput f n v).bus = d.bus ∧ (d.fput f n v).mbx = d.mbx ∧
    (d.fput f n v).boot = d.boot ∧ (d.fput f n v).epoch = d.epoch ∧ (d.fput f n v).fsp = d.fsp ∧
    (d.fput f n v).afe = d.afe ∧ (d.fput f n v).bic = d.bic ∧ (d.fput f n v).jnl = d.jnl ∧
    (d.fput f n v).anole = d.anole ∧ (d.fput f n v).ctx = d.ctx ∧ (d.fput f n v).scn = d.scn ∧
    (d.fput f n v).grid = d.grid ∧ (d.fput f n v).shed = d.shed ∧ (d.fput f n v).blockBlank = d.blockBlank ∧
    (d.fput f n v).fm = d.fm ∧ (d.fput f n v).am = d.am ∧ (d.fput f n v).filt = d.filt ∧ (d.fput f n v).rds = d.rds ∧
    (d.fput f n v).ctOffer = d.ctOffer ∧ (d.fput f n v).dbe = d.dbe ∧ (d.fput f n v).dsc = d.dsc ∧
    (d.fput f n v).prg = d.prg ∧ (d.fput f n v).pairs = d.pairs ∧ (d.fput f n v).refs = d.refs ∧
    (d.fput f n v).scoreBlank = d.scoreBlank ∧ (d.fput f n v).fab = d.fab ∧ (d.fput f n v).cod = d.cod ∧
    (d.fput f n v).jck = d.jck ∧ (d.fput f n v).mix = d.mix ∧ (d.fput f n v).tone = d.tone ∧
    (d.fput f n v).ports = d.ports ∧ (d.fput f n v).prt = d.prt ∧ (d.fput f n v).clk = d.clk ∧
    (d.fput f n v).cx = d.cx ∧ (d.fput f n v).slk = d.slk ∧ (d.fput f n v).rtc = d.rtc ∧ (d.fput f n v).lif = d.lif ∧
    (d.fput f n v).pwr = d.pwr ∧ (d.fput f n v).tmp = d.tmp ∧ (d.fput f n v).life = d.life ∧
    (d.fput f n v).mon = d.mon ∧ (d.fput f n v).pin = d.pin ∧ (d.fput f n v).freeIdx = d.freeIdx := by
  repeat' apply And.intro
  all_goals rfl

@[simp] theorem Dev.lifeBy_parts (d : Dev) (a b k : Nat) :
    (d.lifeBy a b k).regs = d.regs ∧ (d.lifeBy a b k).time = d.time ∧ (d.lifeBy a b k).bus = d.bus ∧
    (d.lifeBy a b k).mbx = d.mbx ∧ (d.lifeBy a b k).boot = d.boot ∧ (d.lifeBy a b k).epoch = d.epoch ∧
    (d.lifeBy a b k).fsp = d.fsp ∧ (d.lifeBy a b k).afe = d.afe ∧ (d.lifeBy a b k).bic = d.bic ∧
    (d.lifeBy a b k).jnl = d.jnl ∧ (d.lifeBy a b k).anole = d.anole ∧ (d.lifeBy a b k).ctx = d.ctx ∧
    (d.lifeBy a b k).scn = d.scn ∧ (d.lifeBy a b k).grid = d.grid ∧ (d.lifeBy a b k).shed = d.shed ∧
    (d.lifeBy a b k).blockBlank = d.blockBlank ∧ (d.lifeBy a b k).fm = d.fm ∧ (d.lifeBy a b k).am = d.am ∧
    (d.lifeBy a b k).filt = d.filt ∧ (d.lifeBy a b k).rds = d.rds ∧ (d.lifeBy a b k).ctOffer = d.ctOffer ∧
    (d.lifeBy a b k).dbe = d.dbe ∧ (d.lifeBy a b k).dsc = d.dsc ∧ (d.lifeBy a b k).prg = d.prg ∧
    (d.lifeBy a b k).pairs = d.pairs ∧ (d.lifeBy a b k).refs = d.refs ∧ (d.lifeBy a b k).scoreBlank = d.scoreBlank ∧
    (d.lifeBy a b k).fab = d.fab ∧ (d.lifeBy a b k).cod = d.cod ∧ (d.lifeBy a b k).jck = d.jck ∧
    (d.lifeBy a b k).mix = d.mix ∧ (d.lifeBy a b k).tone = d.tone ∧ (d.lifeBy a b k).ports = d.ports ∧
    (d.lifeBy a b k).prt = d.prt ∧ (d.lifeBy a b k).clk = d.clk ∧ (d.lifeBy a b k).cx = d.cx ∧
    (d.lifeBy a b k).slk = d.slk ∧ (d.lifeBy a b k).rtc = d.rtc ∧ (d.lifeBy a b k).lif = d.lif ∧
    (d.lifeBy a b k).pwr = d.pwr ∧ (d.lifeBy a b k).tmp = d.tmp ∧ (d.lifeBy a b k).mon = d.mon ∧
    (d.lifeBy a b k).pin = d.pin ∧ (d.lifeBy a b k).freeIdx = d.freeIdx := by
  repeat' apply And.intro
  all_goals rfl

@[simp] theorem Dev.updAfe_parts (d : Dev) (n : Nat) (f : AfeSt → AfeSt) :
    (d.updAfe n f).afe = smSet (fun _ => {}) d.afe n (f (d.afeOf n)) ∧
    (d.updAfe n f).regs = d.regs ∧ (d.updAfe n f).time = d.time ∧ (d.updAfe n f).bus = d.bus ∧
    (d.updAfe n f).mbx = d.mbx ∧ (d.updAfe n f).boot = d.boot ∧ (d.updAfe n f).epoch = d.epoch ∧
    (d.updAfe n f).fsp = d.fsp ∧ (d.updAfe n f).bic = d.bic ∧ (d.updAfe n f).jnl = d.jnl ∧
    (d.updAfe n f).anole = d.anole ∧ (d.updAfe n f).ctx = d.ctx ∧ (d.updAfe n f).scn = d.scn ∧
    (d.updAfe n f).grid = d.grid ∧ (d.updAfe n f).shed = d.shed ∧ (d.updAfe n f).blockBlank = d.blockBlank ∧
    (d.updAfe n f).fm = d.fm ∧ (d.updAfe n f).am = d.am ∧ (d.updAfe n f).filt = d.filt ∧ (d.updAfe n f).rds = d.rds ∧
    (d.updAfe n f).ctOffer = d.ctOffer ∧ (d.updAfe n f).dbe = d.dbe ∧ (d.updAfe n f).dsc = d.dsc ∧
    (d.updAfe n f).prg = d.prg ∧ (d.updAfe n f).pairs = d.pairs ∧ (d.updAfe n f).refs = d.refs ∧
    (d.updAfe n f).scoreBlank = d.scoreBlank ∧ (d.updAfe n f).fab = d.fab ∧ (d.updAfe n f).cod = d.cod ∧
    (d.updAfe n f).jck = d.jck ∧ (d.updAfe n f).mix = d.mix ∧ (d.updAfe n f).tone = d.tone ∧
    (d.updAfe n f).ports = d.ports ∧ (d.updAfe n f).prt = d.prt ∧ (d.updAfe n f).clk = d.clk ∧
    (d.updAfe n f).cx = d.cx ∧ (d.updAfe n f).slk = d.slk ∧ (d.updAfe n f).rtc = d.rtc ∧ (d.updAfe n f).lif = d.lif ∧
    (d.updAfe n f).pwr = d.pwr ∧ (d.updAfe n f).tmp = d.tmp ∧ (d.updAfe n f).life = d.life ∧
    (d.updAfe n f).mon = d.mon ∧ (d.updAfe n f).pin = d.pin ∧ (d.updAfe n f).freeIdx = d.freeIdx := by
  repeat' apply And.intro
  all_goals rfl

@[simp] theorem Dev.updBic_parts (d : Dev) (n : Nat) (f : BicSt → BicSt) :
    (d.updBic n f).bic = smSet (fun _ => {}) d.bic n (f (d.bicOf n)) ∧
    (d.updBic n f).regs = d.regs ∧ (d.updBic n f).time = d.time ∧ (d.updBic n f).bus = d.bus ∧
    (d.updBic n f).mbx = d.mbx ∧ (d.updBic n f).boot = d.boot ∧ (d.updBic n f).epoch = d.epoch ∧
    (d.updBic n f).fsp = d.fsp ∧ (d.updBic n f).afe = d.afe ∧ (d.updBic n f).jnl = d.jnl ∧
    (d.updBic n f).anole = d.anole ∧ (d.updBic n f).ctx = d.ctx ∧ (d.updBic n f).scn = d.scn ∧
    (d.updBic n f).grid = d.grid ∧ (d.updBic n f).shed = d.shed ∧ (d.updBic n f).blockBlank = d.blockBlank ∧
    (d.updBic n f).fm = d.fm ∧ (d.updBic n f).am = d.am ∧ (d.updBic n f).filt = d.filt ∧ (d.updBic n f).rds = d.rds ∧
    (d.updBic n f).ctOffer = d.ctOffer ∧ (d.updBic n f).dbe = d.dbe ∧ (d.updBic n f).dsc = d.dsc ∧
    (d.updBic n f).prg = d.prg ∧ (d.updBic n f).pairs = d.pairs ∧ (d.updBic n f).refs = d.refs ∧
    (d.updBic n f).scoreBlank = d.scoreBlank ∧ (d.updBic n f).fab = d.fab ∧ (d.updBic n f).cod = d.cod ∧
    (d.updBic n f).jck = d.jck ∧ (d.updBic n f).mix = d.mix ∧ (d.updBic n f).tone = d.tone ∧
    (d.updBic n f).ports = d.ports ∧ (d.updBic n f).prt = d.prt ∧ (d.updBic n f).clk = d.clk ∧
    (d.updBic n f).cx = d.cx ∧ (d.updBic n f).slk = d.slk ∧ (d.updBic n f).rtc = d.rtc ∧ (d.updBic n f).lif = d.lif ∧
    (d.updBic n f).pwr = d.pwr ∧ (d.updBic n f).tmp = d.tmp ∧ (d.updBic n f).life = d.life ∧
    (d.updBic n f).mon = d.mon ∧ (d.updBic n f).pin = d.pin ∧ (d.updBic n f).freeIdx = d.freeIdx := by
  repeat' apply And.intro
  all_goals rfl

@[simp] theorem Dev.updFm_parts (d : Dev) (n : Nat) (f : FmSt → FmSt) :
    (d.updFm n f).fm = smSet (fun _ => {}) d.fm n (f (d.fmOf n)) ∧
    (d.updFm n f).regs = d.regs ∧ (d.updFm n f).time = d.time ∧ (d.updFm n f).bus = d.bus ∧
    (d.updFm n f).mbx = d.mbx ∧ (d.updFm n f).boot = d.boot ∧ (d.updFm n f).epoch = d.epoch ∧
    (d.updFm n f).fsp = d.fsp ∧ (d.updFm n f).afe = d.afe ∧ (d.updFm n f).bic = d.bic ∧ (d.updFm n f).jnl = d.jnl ∧
    (d.updFm n f).anole = d.anole ∧ (d.updFm n f).ctx = d.ctx ∧ (d.updFm n f).scn = d.scn ∧
    (d.updFm n f).grid = d.grid ∧ (d.updFm n f).shed = d.shed ∧ (d.updFm n f).blockBlank = d.blockBlank ∧
    (d.updFm n f).am = d.am ∧ (d.updFm n f).filt = d.filt ∧ (d.updFm n f).rds = d.rds ∧
    (d.updFm n f).ctOffer = d.ctOffer ∧ (d.updFm n f).dbe = d.dbe ∧ (d.updFm n f).dsc = d.dsc ∧
    (d.updFm n f).prg = d.prg ∧ (d.updFm n f).pairs = d.pairs ∧ (d.updFm n f).refs = d.refs ∧
    (d.updFm n f).scoreBlank = d.scoreBlank ∧ (d.updFm n f).fab = d.fab ∧ (d.updFm n f).cod = d.cod ∧
    (d.updFm n f).jck = d.jck ∧ (d.updFm n f).mix = d.mix ∧ (d.updFm n f).tone = d.tone ∧
    (d.updFm n f).ports = d.ports ∧ (d.updFm n f).prt = d.prt ∧ (d.updFm n f).clk = d.clk ∧ (d.updFm n f).cx = d.cx ∧
    (d.updFm n f).slk = d.slk ∧ (d.updFm n f).rtc = d.rtc ∧ (d.updFm n f).lif = d.lif ∧ (d.updFm n f).pwr = d.pwr ∧
    (d.updFm n f).tmp = d.tmp ∧ (d.updFm n f).life = d.life ∧ (d.updFm n f).mon = d.mon ∧ (d.updFm n f).pin = d.pin ∧
    (d.updFm n f).freeIdx = d.freeIdx := by
  repeat' apply And.intro
  all_goals rfl

@[simp] theorem Dev.updAm_parts (d : Dev) (n : Nat) (f : AmSt → AmSt) :
    (d.updAm n f).am = smSet (fun _ => {}) d.am n (f (d.amOf n)) ∧
    (d.updAm n f).regs = d.regs ∧ (d.updAm n f).time = d.time ∧ (d.updAm n f).bus = d.bus ∧
    (d.updAm n f).mbx = d.mbx ∧ (d.updAm n f).boot = d.boot ∧ (d.updAm n f).epoch = d.epoch ∧
    (d.updAm n f).fsp = d.fsp ∧ (d.updAm n f).afe = d.afe ∧ (d.updAm n f).bic = d.bic ∧ (d.updAm n f).jnl = d.jnl ∧
    (d.updAm n f).anole = d.anole ∧ (d.updAm n f).ctx = d.ctx ∧ (d.updAm n f).scn = d.scn ∧
    (d.updAm n f).grid = d.grid ∧ (d.updAm n f).shed = d.shed ∧ (d.updAm n f).blockBlank = d.blockBlank ∧
    (d.updAm n f).fm = d.fm ∧ (d.updAm n f).filt = d.filt ∧ (d.updAm n f).rds = d.rds ∧
    (d.updAm n f).ctOffer = d.ctOffer ∧ (d.updAm n f).dbe = d.dbe ∧ (d.updAm n f).dsc = d.dsc ∧
    (d.updAm n f).prg = d.prg ∧ (d.updAm n f).pairs = d.pairs ∧ (d.updAm n f).refs = d.refs ∧
    (d.updAm n f).scoreBlank = d.scoreBlank ∧ (d.updAm n f).fab = d.fab ∧ (d.updAm n f).cod = d.cod ∧
    (d.updAm n f).jck = d.jck ∧ (d.updAm n f).mix = d.mix ∧ (d.updAm n f).tone = d.tone ∧
    (d.updAm n f).ports = d.ports ∧ (d.updAm n f).prt = d.prt ∧ (d.updAm n f).clk = d.clk ∧ (d.updAm n f).cx = d.cx ∧
    (d.updAm n f).slk = d.slk ∧ (d.updAm n f).rtc = d.rtc ∧ (d.updAm n f).lif = d.lif ∧ (d.updAm n f).pwr = d.pwr ∧
    (d.updAm n f).tmp = d.tmp ∧ (d.updAm n f).life = d.life ∧ (d.updAm n f).mon = d.mon ∧ (d.updAm n f).pin = d.pin ∧
    (d.updAm n f).freeIdx = d.freeIdx := by
  repeat' apply And.intro
  all_goals rfl

@[simp] theorem Dev.updRds_parts (d : Dev) (n : Nat) (f : RdsSt → RdsSt) :
    (d.updRds n f).rds = smSet (fun _ => {}) d.rds n (f (d.rdsOf n)) ∧
    (d.updRds n f).regs = d.regs ∧ (d.updRds n f).time = d.time ∧ (d.updRds n f).bus = d.bus ∧
    (d.updRds n f).mbx = d.mbx ∧ (d.updRds n f).boot = d.boot ∧ (d.updRds n f).epoch = d.epoch ∧
    (d.updRds n f).fsp = d.fsp ∧ (d.updRds n f).afe = d.afe ∧ (d.updRds n f).bic = d.bic ∧
    (d.updRds n f).jnl = d.jnl ∧ (d.updRds n f).anole = d.anole ∧ (d.updRds n f).ctx = d.ctx ∧
    (d.updRds n f).scn = d.scn ∧ (d.updRds n f).grid = d.grid ∧ (d.updRds n f).shed = d.shed ∧
    (d.updRds n f).blockBlank = d.blockBlank ∧ (d.updRds n f).fm = d.fm ∧ (d.updRds n f).am = d.am ∧
    (d.updRds n f).filt = d.filt ∧ (d.updRds n f).ctOffer = d.ctOffer ∧ (d.updRds n f).dbe = d.dbe ∧
    (d.updRds n f).dsc = d.dsc ∧ (d.updRds n f).prg = d.prg ∧ (d.updRds n f).pairs = d.pairs ∧
    (d.updRds n f).refs = d.refs ∧ (d.updRds n f).scoreBlank = d.scoreBlank ∧ (d.updRds n f).fab = d.fab ∧
    (d.updRds n f).cod = d.cod ∧ (d.updRds n f).jck = d.jck ∧ (d.updRds n f).mix = d.mix ∧
    (d.updRds n f).tone = d.tone ∧ (d.updRds n f).ports = d.ports ∧ (d.updRds n f).prt = d.prt ∧
    (d.updRds n f).clk = d.clk ∧ (d.updRds n f).cx = d.cx ∧ (d.updRds n f).slk = d.slk ∧ (d.updRds n f).rtc = d.rtc ∧
    (d.updRds n f).lif = d.lif ∧ (d.updRds n f).pwr = d.pwr ∧ (d.updRds n f).tmp = d.tmp ∧
    (d.updRds n f).life = d.life ∧ (d.updRds n f).mon = d.mon ∧ (d.updRds n f).pin = d.pin ∧
    (d.updRds n f).freeIdx = d.freeIdx := by
  repeat' apply And.intro
  all_goals rfl

@[simp] theorem Dev.updDbe_parts (d : Dev) (n : Nat) (f : DbeSt → DbeSt) :
    (d.updDbe n f).dbe = smSet (fun _ => {}) d.dbe n (f (d.dbeOf n)) ∧
    (d.updDbe n f).regs = d.regs ∧ (d.updDbe n f).time = d.time ∧ (d.updDbe n f).bus = d.bus ∧
    (d.updDbe n f).mbx = d.mbx ∧ (d.updDbe n f).boot = d.boot ∧ (d.updDbe n f).epoch = d.epoch ∧
    (d.updDbe n f).fsp = d.fsp ∧ (d.updDbe n f).afe = d.afe ∧ (d.updDbe n f).bic = d.bic ∧
    (d.updDbe n f).jnl = d.jnl ∧ (d.updDbe n f).anole = d.anole ∧ (d.updDbe n f).ctx = d.ctx ∧
    (d.updDbe n f).scn = d.scn ∧ (d.updDbe n f).grid = d.grid ∧ (d.updDbe n f).shed = d.shed ∧
    (d.updDbe n f).blockBlank = d.blockBlank ∧ (d.updDbe n f).fm = d.fm ∧ (d.updDbe n f).am = d.am ∧
    (d.updDbe n f).filt = d.filt ∧ (d.updDbe n f).rds = d.rds ∧ (d.updDbe n f).ctOffer = d.ctOffer ∧
    (d.updDbe n f).dsc = d.dsc ∧ (d.updDbe n f).prg = d.prg ∧ (d.updDbe n f).pairs = d.pairs ∧
    (d.updDbe n f).refs = d.refs ∧ (d.updDbe n f).scoreBlank = d.scoreBlank ∧ (d.updDbe n f).fab = d.fab ∧
    (d.updDbe n f).cod = d.cod ∧ (d.updDbe n f).jck = d.jck ∧ (d.updDbe n f).mix = d.mix ∧
    (d.updDbe n f).tone = d.tone ∧ (d.updDbe n f).ports = d.ports ∧ (d.updDbe n f).prt = d.prt ∧
    (d.updDbe n f).clk = d.clk ∧ (d.updDbe n f).cx = d.cx ∧ (d.updDbe n f).slk = d.slk ∧ (d.updDbe n f).rtc = d.rtc ∧
    (d.updDbe n f).lif = d.lif ∧ (d.updDbe n f).pwr = d.pwr ∧ (d.updDbe n f).tmp = d.tmp ∧
    (d.updDbe n f).life = d.life ∧ (d.updDbe n f).mon = d.mon ∧ (d.updDbe n f).pin = d.pin ∧
    (d.updDbe n f).freeIdx = d.freeIdx := by
  repeat' apply And.intro
  all_goals rfl

@[simp] theorem Dev.updDsc_parts (d : Dev) (n : Nat) (f : DscSt → DscSt) :
    (d.updDsc n f).dsc = smSet (fun _ => {}) d.dsc n (f (d.dscOf n)) ∧
    (d.updDsc n f).regs = d.regs ∧ (d.updDsc n f).time = d.time ∧ (d.updDsc n f).bus = d.bus ∧
    (d.updDsc n f).mbx = d.mbx ∧ (d.updDsc n f).boot = d.boot ∧ (d.updDsc n f).epoch = d.epoch ∧
    (d.updDsc n f).fsp = d.fsp ∧ (d.updDsc n f).afe = d.afe ∧ (d.updDsc n f).bic = d.bic ∧
    (d.updDsc n f).jnl = d.jnl ∧ (d.updDsc n f).anole = d.anole ∧ (d.updDsc n f).ctx = d.ctx ∧
    (d.updDsc n f).scn = d.scn ∧ (d.updDsc n f).grid = d.grid ∧ (d.updDsc n f).shed = d.shed ∧
    (d.updDsc n f).blockBlank = d.blockBlank ∧ (d.updDsc n f).fm = d.fm ∧ (d.updDsc n f).am = d.am ∧
    (d.updDsc n f).filt = d.filt ∧ (d.updDsc n f).rds = d.rds ∧ (d.updDsc n f).ctOffer = d.ctOffer ∧
    (d.updDsc n f).dbe = d.dbe ∧ (d.updDsc n f).prg = d.prg ∧ (d.updDsc n f).pairs = d.pairs ∧
    (d.updDsc n f).refs = d.refs ∧ (d.updDsc n f).scoreBlank = d.scoreBlank ∧ (d.updDsc n f).fab = d.fab ∧
    (d.updDsc n f).cod = d.cod ∧ (d.updDsc n f).jck = d.jck ∧ (d.updDsc n f).mix = d.mix ∧
    (d.updDsc n f).tone = d.tone ∧ (d.updDsc n f).ports = d.ports ∧ (d.updDsc n f).prt = d.prt ∧
    (d.updDsc n f).clk = d.clk ∧ (d.updDsc n f).cx = d.cx ∧ (d.updDsc n f).slk = d.slk ∧ (d.updDsc n f).rtc = d.rtc ∧
    (d.updDsc n f).lif = d.lif ∧ (d.updDsc n f).pwr = d.pwr ∧ (d.updDsc n f).tmp = d.tmp ∧
    (d.updDsc n f).life = d.life ∧ (d.updDsc n f).mon = d.mon ∧ (d.updDsc n f).pin = d.pin ∧
    (d.updDsc n f).freeIdx = d.freeIdx := by
  repeat' apply And.intro
  all_goals rfl

@[simp] theorem Dev.updPrg_parts (d : Dev) (n : Nat) (f : PrgSt → PrgSt) :
    (d.updPrg n f).prg = smSet (fun _ => {}) d.prg n (f (d.prgOf n)) ∧
    (d.updPrg n f).regs = d.regs ∧ (d.updPrg n f).time = d.time ∧ (d.updPrg n f).bus = d.bus ∧
    (d.updPrg n f).mbx = d.mbx ∧ (d.updPrg n f).boot = d.boot ∧ (d.updPrg n f).epoch = d.epoch ∧
    (d.updPrg n f).fsp = d.fsp ∧ (d.updPrg n f).afe = d.afe ∧ (d.updPrg n f).bic = d.bic ∧
    (d.updPrg n f).jnl = d.jnl ∧ (d.updPrg n f).anole = d.anole ∧ (d.updPrg n f).ctx = d.ctx ∧
    (d.updPrg n f).scn = d.scn ∧ (d.updPrg n f).grid = d.grid ∧ (d.updPrg n f).shed = d.shed ∧
    (d.updPrg n f).blockBlank = d.blockBlank ∧ (d.updPrg n f).fm = d.fm ∧ (d.updPrg n f).am = d.am ∧
    (d.updPrg n f).filt = d.filt ∧ (d.updPrg n f).rds = d.rds ∧ (d.updPrg n f).ctOffer = d.ctOffer ∧
    (d.updPrg n f).dbe = d.dbe ∧ (d.updPrg n f).dsc = d.dsc ∧ (d.updPrg n f).pairs = d.pairs ∧
    (d.updPrg n f).refs = d.refs ∧ (d.updPrg n f).scoreBlank = d.scoreBlank ∧ (d.updPrg n f).fab = d.fab ∧
    (d.updPrg n f).cod = d.cod ∧ (d.updPrg n f).jck = d.jck ∧ (d.updPrg n f).mix = d.mix ∧
    (d.updPrg n f).tone = d.tone ∧ (d.updPrg n f).ports = d.ports ∧ (d.updPrg n f).prt = d.prt ∧
    (d.updPrg n f).clk = d.clk ∧ (d.updPrg n f).cx = d.cx ∧ (d.updPrg n f).slk = d.slk ∧ (d.updPrg n f).rtc = d.rtc ∧
    (d.updPrg n f).lif = d.lif ∧ (d.updPrg n f).pwr = d.pwr ∧ (d.updPrg n f).tmp = d.tmp ∧
    (d.updPrg n f).life = d.life ∧ (d.updPrg n f).mon = d.mon ∧ (d.updPrg n f).pin = d.pin ∧
    (d.updPrg n f).freeIdx = d.freeIdx := by
  repeat' apply And.intro
  all_goals rfl

@[simp] theorem Dev.updMix_parts (d : Dev) (n : Nat) (f : MixSt → MixSt) :
    (d.updMix n f).mix = smSet (fun _ => {}) d.mix n (f (d.mixOf n)) ∧
    (d.updMix n f).regs = d.regs ∧ (d.updMix n f).time = d.time ∧ (d.updMix n f).bus = d.bus ∧
    (d.updMix n f).mbx = d.mbx ∧ (d.updMix n f).boot = d.boot ∧ (d.updMix n f).epoch = d.epoch ∧
    (d.updMix n f).fsp = d.fsp ∧ (d.updMix n f).afe = d.afe ∧ (d.updMix n f).bic = d.bic ∧
    (d.updMix n f).jnl = d.jnl ∧ (d.updMix n f).anole = d.anole ∧ (d.updMix n f).ctx = d.ctx ∧
    (d.updMix n f).scn = d.scn ∧ (d.updMix n f).grid = d.grid ∧ (d.updMix n f).shed = d.shed ∧
    (d.updMix n f).blockBlank = d.blockBlank ∧ (d.updMix n f).fm = d.fm ∧ (d.updMix n f).am = d.am ∧
    (d.updMix n f).filt = d.filt ∧ (d.updMix n f).rds = d.rds ∧ (d.updMix n f).ctOffer = d.ctOffer ∧
    (d.updMix n f).dbe = d.dbe ∧ (d.updMix n f).dsc = d.dsc ∧ (d.updMix n f).prg = d.prg ∧
    (d.updMix n f).pairs = d.pairs ∧ (d.updMix n f).refs = d.refs ∧ (d.updMix n f).scoreBlank = d.scoreBlank ∧
    (d.updMix n f).fab = d.fab ∧ (d.updMix n f).cod = d.cod ∧ (d.updMix n f).jck = d.jck ∧
    (d.updMix n f).tone = d.tone ∧ (d.updMix n f).ports = d.ports ∧ (d.updMix n f).prt = d.prt ∧
    (d.updMix n f).clk = d.clk ∧ (d.updMix n f).cx = d.cx ∧ (d.updMix n f).slk = d.slk ∧ (d.updMix n f).rtc = d.rtc ∧
    (d.updMix n f).lif = d.lif ∧ (d.updMix n f).pwr = d.pwr ∧ (d.updMix n f).tmp = d.tmp ∧
    (d.updMix n f).life = d.life ∧ (d.updMix n f).mon = d.mon ∧ (d.updMix n f).pin = d.pin ∧
    (d.updMix n f).freeIdx = d.freeIdx := by
  repeat' apply And.intro
  all_goals rfl

@[simp] theorem Dev.updPort_parts (d : Dev) (n : Nat) (f : PortSt → PortSt) :
    (d.updPort n f).ports = smSet (fun _ => {}) d.ports n (f (d.portOf n)) ∧
    (d.updPort n f).regs = d.regs ∧ (d.updPort n f).time = d.time ∧ (d.updPort n f).bus = d.bus ∧
    (d.updPort n f).mbx = d.mbx ∧ (d.updPort n f).boot = d.boot ∧ (d.updPort n f).epoch = d.epoch ∧
    (d.updPort n f).fsp = d.fsp ∧ (d.updPort n f).afe = d.afe ∧ (d.updPort n f).bic = d.bic ∧
    (d.updPort n f).jnl = d.jnl ∧ (d.updPort n f).anole = d.anole ∧ (d.updPort n f).ctx = d.ctx ∧
    (d.updPort n f).scn = d.scn ∧ (d.updPort n f).grid = d.grid ∧ (d.updPort n f).shed = d.shed ∧
    (d.updPort n f).blockBlank = d.blockBlank ∧ (d.updPort n f).fm = d.fm ∧ (d.updPort n f).am = d.am ∧
    (d.updPort n f).filt = d.filt ∧ (d.updPort n f).rds = d.rds ∧ (d.updPort n f).ctOffer = d.ctOffer ∧
    (d.updPort n f).dbe = d.dbe ∧ (d.updPort n f).dsc = d.dsc ∧ (d.updPort n f).prg = d.prg ∧
    (d.updPort n f).pairs = d.pairs ∧ (d.updPort n f).refs = d.refs ∧ (d.updPort n f).scoreBlank = d.scoreBlank ∧
    (d.updPort n f).fab = d.fab ∧ (d.updPort n f).cod = d.cod ∧ (d.updPort n f).jck = d.jck ∧
    (d.updPort n f).mix = d.mix ∧ (d.updPort n f).tone = d.tone ∧ (d.updPort n f).prt = d.prt ∧
    (d.updPort n f).clk = d.clk ∧ (d.updPort n f).cx = d.cx ∧ (d.updPort n f).slk = d.slk ∧
    (d.updPort n f).rtc = d.rtc ∧ (d.updPort n f).lif = d.lif ∧ (d.updPort n f).pwr = d.pwr ∧
    (d.updPort n f).tmp = d.tmp ∧ (d.updPort n f).life = d.life ∧ (d.updPort n f).mon = d.mon ∧
    (d.updPort n f).pin = d.pin ∧ (d.updPort n f).freeIdx = d.freeIdx := by
  repeat' apply And.intro
  all_goals rfl

@[simp] theorem Dev.updCtx_parts (d : Dev) (p n : Nat) (f : CtxSt → CtxSt) :
    (d.updCtx p n f).ctx = smSet (fun _ => {}) d.ctx (ctxKey p n) (f (d.ctxOf p n)) ∧
    (d.updCtx p n f).regs = d.regs ∧ (d.updCtx p n f).time = d.time ∧ (d.updCtx p n f).bus = d.bus ∧
    (d.updCtx p n f).mbx = d.mbx ∧ (d.updCtx p n f).boot = d.boot ∧ (d.updCtx p n f).epoch = d.epoch ∧
    (d.updCtx p n f).fsp = d.fsp ∧ (d.updCtx p n f).afe = d.afe ∧ (d.updCtx p n f).bic = d.bic ∧
    (d.updCtx p n f).jnl = d.jnl ∧ (d.updCtx p n f).anole = d.anole ∧ (d.updCtx p n f).scn = d.scn ∧
    (d.updCtx p n f).grid = d.grid ∧ (d.updCtx p n f).shed = d.shed ∧ (d.updCtx p n f).blockBlank = d.blockBlank ∧
    (d.updCtx p n f).fm = d.fm ∧ (d.updCtx p n f).am = d.am ∧ (d.updCtx p n f).filt = d.filt ∧
    (d.updCtx p n f).rds = d.rds ∧ (d.updCtx p n f).ctOffer = d.ctOffer ∧ (d.updCtx p n f).dbe = d.dbe ∧
    (d.updCtx p n f).dsc = d.dsc ∧ (d.updCtx p n f).prg = d.prg ∧ (d.updCtx p n f).pairs = d.pairs ∧
    (d.updCtx p n f).refs = d.refs ∧ (d.updCtx p n f).scoreBlank = d.scoreBlank ∧ (d.updCtx p n f).fab = d.fab ∧
    (d.updCtx p n f).cod = d.cod ∧ (d.updCtx p n f).jck = d.jck ∧ (d.updCtx p n f).mix = d.mix ∧
    (d.updCtx p n f).tone = d.tone ∧ (d.updCtx p n f).ports = d.ports ∧ (d.updCtx p n f).prt = d.prt ∧
    (d.updCtx p n f).clk = d.clk ∧ (d.updCtx p n f).cx = d.cx ∧ (d.updCtx p n f).slk = d.slk ∧
    (d.updCtx p n f).rtc = d.rtc ∧ (d.updCtx p n f).lif = d.lif ∧ (d.updCtx p n f).pwr = d.pwr ∧
    (d.updCtx p n f).tmp = d.tmp ∧ (d.updCtx p n f).life = d.life ∧ (d.updCtx p n f).mon = d.mon ∧
    (d.updCtx p n f).pin = d.pin ∧ (d.updCtx p n f).freeIdx = d.freeIdx := by
  repeat' apply And.intro
  all_goals rfl

@[simp] theorem Dev.updScn_parts (d : Dev) (n : Nat) (f : ScnSt → ScnSt) :
    (d.updScn n f).scn = smSet (fun _ => {}) d.scn n (f (d.scnOf n)) ∧
    (d.updScn n f).regs = d.regs ∧ (d.updScn n f).time = d.time ∧ (d.updScn n f).bus = d.bus ∧
    (d.updScn n f).mbx = d.mbx ∧ (d.updScn n f).boot = d.boot ∧ (d.updScn n f).epoch = d.epoch ∧
    (d.updScn n f).fsp = d.fsp ∧ (d.updScn n f).afe = d.afe ∧ (d.updScn n f).bic = d.bic ∧
    (d.updScn n f).jnl = d.jnl ∧ (d.updScn n f).anole = d.anole ∧ (d.updScn n f).ctx = d.ctx ∧
    (d.updScn n f).grid = d.grid ∧ (d.updScn n f).shed = d.shed ∧ (d.updScn n f).blockBlank = d.blockBlank ∧
    (d.updScn n f).fm = d.fm ∧ (d.updScn n f).am = d.am ∧ (d.updScn n f).filt = d.filt ∧ (d.updScn n f).rds = d.rds ∧
    (d.updScn n f).ctOffer = d.ctOffer ∧ (d.updScn n f).dbe = d.dbe ∧ (d.updScn n f).dsc = d.dsc ∧
    (d.updScn n f).prg = d.prg ∧ (d.updScn n f).pairs = d.pairs ∧ (d.updScn n f).refs = d.refs ∧
    (d.updScn n f).scoreBlank = d.scoreBlank ∧ (d.updScn n f).fab = d.fab ∧ (d.updScn n f).cod = d.cod ∧
    (d.updScn n f).jck = d.jck ∧ (d.updScn n f).mix = d.mix ∧ (d.updScn n f).tone = d.tone ∧
    (d.updScn n f).ports = d.ports ∧ (d.updScn n f).prt = d.prt ∧ (d.updScn n f).clk = d.clk ∧
    (d.updScn n f).cx = d.cx ∧ (d.updScn n f).slk = d.slk ∧ (d.updScn n f).rtc = d.rtc ∧ (d.updScn n f).lif = d.lif ∧
    (d.updScn n f).pwr = d.pwr ∧ (d.updScn n f).tmp = d.tmp ∧ (d.updScn n f).life = d.life ∧
    (d.updScn n f).mon = d.mon ∧ (d.updScn n f).pin = d.pin ∧ (d.updScn n f).freeIdx = d.freeIdx := by
  repeat' apply And.intro
  all_goals rfl

@[simp] theorem Dev.updCod_parts (d : Dev) (f : CodSt → CodSt) :
    (d.updCod f).cod = f d.cod ∧
    (d.updCod f).regs = d.regs ∧ (d.updCod f).time = d.time ∧ (d.updCod f).bus = d.bus ∧ (d.updCod f).mbx = d.mbx ∧
    (d.updCod f).boot = d.boot ∧ (d.updCod f).epoch = d.epoch ∧ (d.updCod f).fsp = d.fsp ∧ (d.updCod f).afe = d.afe ∧
    (d.updCod f).bic = d.bic ∧ (d.updCod f).jnl = d.jnl ∧ (d.updCod f).anole = d.anole ∧ (d.updCod f).ctx = d.ctx ∧
    (d.updCod f).scn = d.scn ∧ (d.updCod f).grid = d.grid ∧ (d.updCod f).shed = d.shed ∧
    (d.updCod f).blockBlank = d.blockBlank ∧ (d.updCod f).fm = d.fm ∧ (d.updCod f).am = d.am ∧
    (d.updCod f).filt = d.filt ∧ (d.updCod f).rds = d.rds ∧ (d.updCod f).ctOffer = d.ctOffer ∧
    (d.updCod f).dbe = d.dbe ∧ (d.updCod f).dsc = d.dsc ∧ (d.updCod f).prg = d.prg ∧ (d.updCod f).pairs = d.pairs ∧
    (d.updCod f).refs = d.refs ∧ (d.updCod f).scoreBlank = d.scoreBlank ∧ (d.updCod f).fab = d.fab ∧
    (d.updCod f).jck = d.jck ∧ (d.updCod f).mix = d.mix ∧ (d.updCod f).tone = d.tone ∧ (d.updCod f).ports = d.ports ∧
    (d.updCod f).prt = d.prt ∧ (d.updCod f).clk = d.clk ∧ (d.updCod f).cx = d.cx ∧ (d.updCod f).slk = d.slk ∧
    (d.updCod f).rtc = d.rtc ∧ (d.updCod f).lif = d.lif ∧ (d.updCod f).pwr = d.pwr ∧ (d.updCod f).tmp = d.tmp ∧
    (d.updCod f).life = d.life ∧ (d.updCod f).mon = d.mon ∧ (d.updCod f).pin = d.pin ∧
    (d.updCod f).freeIdx = d.freeIdx := by
  repeat' apply And.intro
  all_goals rfl

@[simp] theorem Dev.updJck_parts (d : Dev) (f : JckSt → JckSt) :
    (d.updJck f).jck = f d.jck ∧
    (d.updJck f).regs = d.regs ∧ (d.updJck f).time = d.time ∧ (d.updJck f).bus = d.bus ∧ (d.updJck f).mbx = d.mbx ∧
    (d.updJck f).boot = d.boot ∧ (d.updJck f).epoch = d.epoch ∧ (d.updJck f).fsp = d.fsp ∧ (d.updJck f).afe = d.afe ∧
    (d.updJck f).bic = d.bic ∧ (d.updJck f).jnl = d.jnl ∧ (d.updJck f).anole = d.anole ∧ (d.updJck f).ctx = d.ctx ∧
    (d.updJck f).scn = d.scn ∧ (d.updJck f).grid = d.grid ∧ (d.updJck f).shed = d.shed ∧
    (d.updJck f).blockBlank = d.blockBlank ∧ (d.updJck f).fm = d.fm ∧ (d.updJck f).am = d.am ∧
    (d.updJck f).filt = d.filt ∧ (d.updJck f).rds = d.rds ∧ (d.updJck f).ctOffer = d.ctOffer ∧
    (d.updJck f).dbe = d.dbe ∧ (d.updJck f).dsc = d.dsc ∧ (d.updJck f).prg = d.prg ∧ (d.updJck f).pairs = d.pairs ∧
    (d.updJck f).refs = d.refs ∧ (d.updJck f).scoreBlank = d.scoreBlank ∧ (d.updJck f).fab = d.fab ∧
    (d.updJck f).cod = d.cod ∧ (d.updJck f).mix = d.mix ∧ (d.updJck f).tone = d.tone ∧ (d.updJck f).ports = d.ports ∧
    (d.updJck f).prt = d.prt ∧ (d.updJck f).clk = d.clk ∧ (d.updJck f).cx = d.cx ∧ (d.updJck f).slk = d.slk ∧
    (d.updJck f).rtc = d.rtc ∧ (d.updJck f).lif = d.lif ∧ (d.updJck f).pwr = d.pwr ∧ (d.updJck f).tmp = d.tmp ∧
    (d.updJck f).life = d.life ∧ (d.updJck f).mon = d.mon ∧ (d.updJck f).pin = d.pin ∧
    (d.updJck f).freeIdx = d.freeIdx := by
  repeat' apply And.intro
  all_goals rfl

@[simp] theorem Dev.updPrt_parts (d : Dev) (f : PrtSt → PrtSt) :
    (d.updPrt f).prt = f d.prt ∧
    (d.updPrt f).regs = d.regs ∧ (d.updPrt f).time = d.time ∧ (d.updPrt f).bus = d.bus ∧ (d.updPrt f).mbx = d.mbx ∧
    (d.updPrt f).boot = d.boot ∧ (d.updPrt f).epoch = d.epoch ∧ (d.updPrt f).fsp = d.fsp ∧ (d.updPrt f).afe = d.afe ∧
    (d.updPrt f).bic = d.bic ∧ (d.updPrt f).jnl = d.jnl ∧ (d.updPrt f).anole = d.anole ∧ (d.updPrt f).ctx = d.ctx ∧
    (d.updPrt f).scn = d.scn ∧ (d.updPrt f).grid = d.grid ∧ (d.updPrt f).shed = d.shed ∧
    (d.updPrt f).blockBlank = d.blockBlank ∧ (d.updPrt f).fm = d.fm ∧ (d.updPrt f).am = d.am ∧
    (d.updPrt f).filt = d.filt ∧ (d.updPrt f).rds = d.rds ∧ (d.updPrt f).ctOffer = d.ctOffer ∧
    (d.updPrt f).dbe = d.dbe ∧ (d.updPrt f).dsc = d.dsc ∧ (d.updPrt f).prg = d.prg ∧ (d.updPrt f).pairs = d.pairs ∧
    (d.updPrt f).refs = d.refs ∧ (d.updPrt f).scoreBlank = d.scoreBlank ∧ (d.updPrt f).fab = d.fab ∧
    (d.updPrt f).cod = d.cod ∧ (d.updPrt f).jck = d.jck ∧ (d.updPrt f).mix = d.mix ∧ (d.updPrt f).tone = d.tone ∧
    (d.updPrt f).ports = d.ports ∧ (d.updPrt f).clk = d.clk ∧ (d.updPrt f).cx = d.cx ∧ (d.updPrt f).slk = d.slk ∧
    (d.updPrt f).rtc = d.rtc ∧ (d.updPrt f).lif = d.lif ∧ (d.updPrt f).pwr = d.pwr ∧ (d.updPrt f).tmp = d.tmp ∧
    (d.updPrt f).life = d.life ∧ (d.updPrt f).mon = d.mon ∧ (d.updPrt f).pin = d.pin ∧
    (d.updPrt f).freeIdx = d.freeIdx := by
  repeat' apply And.intro
  all_goals rfl

@[simp] theorem Dev.updSlk_parts (d : Dev) (f : SlkSt → SlkSt) :
    (d.updSlk f).slk = f d.slk ∧
    (d.updSlk f).regs = d.regs ∧ (d.updSlk f).time = d.time ∧ (d.updSlk f).bus = d.bus ∧ (d.updSlk f).mbx = d.mbx ∧
    (d.updSlk f).boot = d.boot ∧ (d.updSlk f).epoch = d.epoch ∧ (d.updSlk f).fsp = d.fsp ∧ (d.updSlk f).afe = d.afe ∧
    (d.updSlk f).bic = d.bic ∧ (d.updSlk f).jnl = d.jnl ∧ (d.updSlk f).anole = d.anole ∧ (d.updSlk f).ctx = d.ctx ∧
    (d.updSlk f).scn = d.scn ∧ (d.updSlk f).grid = d.grid ∧ (d.updSlk f).shed = d.shed ∧
    (d.updSlk f).blockBlank = d.blockBlank ∧ (d.updSlk f).fm = d.fm ∧ (d.updSlk f).am = d.am ∧
    (d.updSlk f).filt = d.filt ∧ (d.updSlk f).rds = d.rds ∧ (d.updSlk f).ctOffer = d.ctOffer ∧
    (d.updSlk f).dbe = d.dbe ∧ (d.updSlk f).dsc = d.dsc ∧ (d.updSlk f).prg = d.prg ∧ (d.updSlk f).pairs = d.pairs ∧
    (d.updSlk f).refs = d.refs ∧ (d.updSlk f).scoreBlank = d.scoreBlank ∧ (d.updSlk f).fab = d.fab ∧
    (d.updSlk f).cod = d.cod ∧ (d.updSlk f).jck = d.jck ∧ (d.updSlk f).mix = d.mix ∧ (d.updSlk f).tone = d.tone ∧
    (d.updSlk f).ports = d.ports ∧ (d.updSlk f).prt = d.prt ∧ (d.updSlk f).clk = d.clk ∧ (d.updSlk f).cx = d.cx ∧
    (d.updSlk f).rtc = d.rtc ∧ (d.updSlk f).lif = d.lif ∧ (d.updSlk f).pwr = d.pwr ∧ (d.updSlk f).tmp = d.tmp ∧
    (d.updSlk f).life = d.life ∧ (d.updSlk f).mon = d.mon ∧ (d.updSlk f).pin = d.pin ∧
    (d.updSlk f).freeIdx = d.freeIdx := by
  repeat' apply And.intro
  all_goals rfl

@[simp] theorem Dev.updRtc_parts (d : Dev) (f : RtcSt → RtcSt) :
    (d.updRtc f).rtc = f d.rtc ∧
    (d.updRtc f).regs = d.regs ∧ (d.updRtc f).time = d.time ∧ (d.updRtc f).bus = d.bus ∧ (d.updRtc f).mbx = d.mbx ∧
    (d.updRtc f).boot = d.boot ∧ (d.updRtc f).epoch = d.epoch ∧ (d.updRtc f).fsp = d.fsp ∧ (d.updRtc f).afe = d.afe ∧
    (d.updRtc f).bic = d.bic ∧ (d.updRtc f).jnl = d.jnl ∧ (d.updRtc f).anole = d.anole ∧ (d.updRtc f).ctx = d.ctx ∧
    (d.updRtc f).scn = d.scn ∧ (d.updRtc f).grid = d.grid ∧ (d.updRtc f).shed = d.shed ∧
    (d.updRtc f).blockBlank = d.blockBlank ∧ (d.updRtc f).fm = d.fm ∧ (d.updRtc f).am = d.am ∧
    (d.updRtc f).filt = d.filt ∧ (d.updRtc f).rds = d.rds ∧ (d.updRtc f).ctOffer = d.ctOffer ∧
    (d.updRtc f).dbe = d.dbe ∧ (d.updRtc f).dsc = d.dsc ∧ (d.updRtc f).prg = d.prg ∧ (d.updRtc f).pairs = d.pairs ∧
    (d.updRtc f).refs = d.refs ∧ (d.updRtc f).scoreBlank = d.scoreBlank ∧ (d.updRtc f).fab = d.fab ∧
    (d.updRtc f).cod = d.cod ∧ (d.updRtc f).jck = d.jck ∧ (d.updRtc f).mix = d.mix ∧ (d.updRtc f).tone = d.tone ∧
    (d.updRtc f).ports = d.ports ∧ (d.updRtc f).prt = d.prt ∧ (d.updRtc f).clk = d.clk ∧ (d.updRtc f).cx = d.cx ∧
    (d.updRtc f).slk = d.slk ∧ (d.updRtc f).lif = d.lif ∧ (d.updRtc f).pwr = d.pwr ∧ (d.updRtc f).tmp = d.tmp ∧
    (d.updRtc f).life = d.life ∧ (d.updRtc f).mon = d.mon ∧ (d.updRtc f).pin = d.pin ∧
    (d.updRtc f).freeIdx = d.freeIdx := by
  repeat' apply And.intro
  all_goals rfl

@[simp] theorem Dev.updLif_parts (d : Dev) (f : LifSt → LifSt) :
    (d.updLif f).lif = f d.lif ∧
    (d.updLif f).regs = d.regs ∧ (d.updLif f).time = d.time ∧ (d.updLif f).bus = d.bus ∧ (d.updLif f).mbx = d.mbx ∧
    (d.updLif f).boot = d.boot ∧ (d.updLif f).epoch = d.epoch ∧ (d.updLif f).fsp = d.fsp ∧ (d.updLif f).afe = d.afe ∧
    (d.updLif f).bic = d.bic ∧ (d.updLif f).jnl = d.jnl ∧ (d.updLif f).anole = d.anole ∧ (d.updLif f).ctx = d.ctx ∧
    (d.updLif f).scn = d.scn ∧ (d.updLif f).grid = d.grid ∧ (d.updLif f).shed = d.shed ∧
    (d.updLif f).blockBlank = d.blockBlank ∧ (d.updLif f).fm = d.fm ∧ (d.updLif f).am = d.am ∧
    (d.updLif f).filt = d.filt ∧ (d.updLif f).rds = d.rds ∧ (d.updLif f).ctOffer = d.ctOffer ∧
    (d.updLif f).dbe = d.dbe ∧ (d.updLif f).dsc = d.dsc ∧ (d.updLif f).prg = d.prg ∧ (d.updLif f).pairs = d.pairs ∧
    (d.updLif f).refs = d.refs ∧ (d.updLif f).scoreBlank = d.scoreBlank ∧ (d.updLif f).fab = d.fab ∧
    (d.updLif f).cod = d.cod ∧ (d.updLif f).jck = d.jck ∧ (d.updLif f).mix = d.mix ∧ (d.updLif f).tone = d.tone ∧
    (d.updLif f).ports = d.ports ∧ (d.updLif f).prt = d.prt ∧ (d.updLif f).clk = d.clk ∧ (d.updLif f).cx = d.cx ∧
    (d.updLif f).slk = d.slk ∧ (d.updLif f).rtc = d.rtc ∧ (d.updLif f).pwr = d.pwr ∧ (d.updLif f).tmp = d.tmp ∧
    (d.updLif f).life = d.life ∧ (d.updLif f).mon = d.mon ∧ (d.updLif f).pin = d.pin ∧
    (d.updLif f).freeIdx = d.freeIdx := by
  repeat' apply And.intro
  all_goals rfl

@[simp] theorem Dev.updBus_parts (d : Dev) (f : BusSt → BusSt) :
    (d.updBus f).bus = f d.bus ∧
    (d.updBus f).regs = d.regs ∧ (d.updBus f).time = d.time ∧ (d.updBus f).mbx = d.mbx ∧ (d.updBus f).boot = d.boot ∧
    (d.updBus f).epoch = d.epoch ∧ (d.updBus f).fsp = d.fsp ∧ (d.updBus f).afe = d.afe ∧ (d.updBus f).bic = d.bic ∧
    (d.updBus f).jnl = d.jnl ∧ (d.updBus f).anole = d.anole ∧ (d.updBus f).ctx = d.ctx ∧ (d.updBus f).scn = d.scn ∧
    (d.updBus f).grid = d.grid ∧ (d.updBus f).shed = d.shed ∧ (d.updBus f).blockBlank = d.blockBlank ∧
    (d.updBus f).fm = d.fm ∧ (d.updBus f).am = d.am ∧ (d.updBus f).filt = d.filt ∧ (d.updBus f).rds = d.rds ∧
    (d.updBus f).ctOffer = d.ctOffer ∧ (d.updBus f).dbe = d.dbe ∧ (d.updBus f).dsc = d.dsc ∧
    (d.updBus f).prg = d.prg ∧ (d.updBus f).pairs = d.pairs ∧ (d.updBus f).refs = d.refs ∧
    (d.updBus f).scoreBlank = d.scoreBlank ∧ (d.updBus f).fab = d.fab ∧ (d.updBus f).cod = d.cod ∧
    (d.updBus f).jck = d.jck ∧ (d.updBus f).mix = d.mix ∧ (d.updBus f).tone = d.tone ∧ (d.updBus f).ports = d.ports ∧
    (d.updBus f).prt = d.prt ∧ (d.updBus f).clk = d.clk ∧ (d.updBus f).cx = d.cx ∧ (d.updBus f).slk = d.slk ∧
    (d.updBus f).rtc = d.rtc ∧ (d.updBus f).lif = d.lif ∧ (d.updBus f).pwr = d.pwr ∧ (d.updBus f).tmp = d.tmp ∧
    (d.updBus f).life = d.life ∧ (d.updBus f).mon = d.mon ∧ (d.updBus f).pin = d.pin ∧
    (d.updBus f).freeIdx = d.freeIdx := by
  repeat' apply And.intro
  all_goals rfl

/-- A change of one input's state reads back for that input alone. -/
@[simp] theorem Dev.afeOf_updAfe (d : Dev) (n m : Nat) (f : AfeSt → AfeSt) :
    (d.updAfe n f).afeOf m = if m = n then f (d.afeOf n) else d.afeOf m := by
  simp [Dev.afeOf, Dev.updAfe]

@[simp] theorem Dev.bicOf_updBic (d : Dev) (n m : Nat) (f : BicSt → BicSt) :
    (d.updBic n f).bicOf m = if m = n then f (d.bicOf n) else d.bicOf m := by
  simp [Dev.bicOf, Dev.updBic]

@[simp] theorem Dev.fmOf_updFm (d : Dev) (n m : Nat) (f : FmSt → FmSt) :
    (d.updFm n f).fmOf m = if m = n then f (d.fmOf n) else d.fmOf m := by
  simp [Dev.fmOf, Dev.updFm]

@[simp] theorem Dev.amOf_updAm (d : Dev) (n m : Nat) (f : AmSt → AmSt) :
    (d.updAm n f).amOf m = if m = n then f (d.amOf n) else d.amOf m := by
  simp [Dev.amOf, Dev.updAm]

@[simp] theorem Dev.rdsOf_updRds (d : Dev) (n m : Nat) (f : RdsSt → RdsSt) :
    (d.updRds n f).rdsOf m = if m = n then f (d.rdsOf n) else d.rdsOf m := by
  simp [Dev.rdsOf, Dev.updRds]

@[simp] theorem Dev.dbeOf_updDbe (d : Dev) (n m : Nat) (f : DbeSt → DbeSt) :
    (d.updDbe n f).dbeOf m = if m = n then f (d.dbeOf n) else d.dbeOf m := by
  simp [Dev.dbeOf, Dev.updDbe]

@[simp] theorem Dev.dscOf_updDsc (d : Dev) (n m : Nat) (f : DscSt → DscSt) :
    (d.updDsc n f).dscOf m = if m = n then f (d.dscOf n) else d.dscOf m := by
  simp [Dev.dscOf, Dev.updDsc]

@[simp] theorem Dev.prgOf_updPrg (d : Dev) (n m : Nat) (f : PrgSt → PrgSt) :
    (d.updPrg n f).prgOf m = if m = n then f (d.prgOf n) else d.prgOf m := by
  simp [Dev.prgOf, Dev.updPrg]

@[simp] theorem Dev.mixOf_updMix (d : Dev) (n m : Nat) (f : MixSt → MixSt) :
    (d.updMix n f).mixOf m = if m = n then f (d.mixOf n) else d.mixOf m := by
  simp [Dev.mixOf, Dev.updMix]

@[simp] theorem Dev.portOf_updPort (d : Dev) (n m : Nat) (f : PortSt → PortSt) :
    (d.updPort n f).portOf m = if m = n then f (d.portOf n) else d.portOf m := by
  simp [Dev.portOf, Dev.updPort]

end Sys2Proof.Machine
end

