-- ==== Sys2Proof/Laws/Balls.lean ====
section
/-!
SUPPORT. What holds a ball in its reset state, and that the tables of the package agree with its outline (R595 to R598).
-/
namespace Sys2Proof.Machine

variable {d : Dev} {b : Ball}

/-- The main reset or the reset-hold has every ball in its reset state (R557, R597, R601). -/
theorem ballState_of_reset (h : d.ballsReset = true) : d.ballState b = some b.rest := by simp [Dev.ballState, h]

/-- The block of a ball in a domain that is not ON, and that has nothing to stop, leaves it in its reset state (R597). -/
theorem ballState_of_home (h : d.ballHome b = false) : d.ballState b = some b.rest := by simp [Dev.ballState, h]

/-- A ball is out of its reset state only in operation, with its domain ON or about to stop. -/
theorem ballState_eq_none : d.ballState b = none ↔ b.type ≠ .x ∧ d.ballsReset = false ∧ d.ballHome b = true := by
  simp [Dev.ballState]

/-- A ball in its reset state is driven by no block. -/
theorem ballLevel_of_state (h : d.ballState b = some b.rest) : d.ballLevel b = none := by simp [Dev.ballLevel, h]

/-- A chain under test has the balls (R609). -/
theorem ballLevel_of_chain (h : d.chainHeld = true) : d.ballLevel b = none := by simp [Dev.ballLevel, h]

end Sys2Proof.Machine
end

