-- ==== Sys2Proof/Laws/Fields.lean ====
section
/-!
SUPPORT. The laws of bit fields: what a field reads after it, or another field of the word, has been written.
-/
namespace Sys2Proof.Machine

theorem bitsOf_lt (w : Word) (hi lo : Nat) : bitsOf w hi lo < 2 ^ (hi + 1 - lo) := Nat.mod_lt _ (by positivity)

theorem bitsOf_mul_le (w : Word) (hi lo : Nat) : bitsOf w hi lo * 2 ^ lo ≤ w.toNat := by
  unfold bitsOf
  calc w.toNat / 2 ^ lo % 2 ^ (hi + 1 - lo) * 2 ^ lo ≤ w.toNat / 2 ^ lo * 2 ^ lo := Nat.mul_le_mul_right _ (Nat.mod_le _ _)
    _ ≤ w.toNat := Nat.div_mul_le_self _ _

/-- Bit `k` of a written word: the value's bit within the field, the old bit outside it. -/
theorem testBit_putBits (w : Word) {hi lo : Nat} (h1 : lo ≤ hi) (h2 : hi < 16) (v k : Nat) :
    (putBits w hi lo v).toNat.testBit k =
      if lo ≤ k ∧ k ≤ hi then v.testBit (k - lo) else w.toNat.testBit k := by
  have hw : w.toNat < 2 ^ 16 := w.isLt
  -- the word in three parts
  obtain ⟨n, hn⟩ : ∃ n, hi + 1 - lo = n := ⟨_, rfl⟩
  have key : w.toNat - bitsOf w hi lo * 2 ^ lo + v % 2 ^ (hi + 1 - lo) * 2 ^ lo =
      (w.toNat / 2 ^ (lo + n) * 2 ^ n + v % 2 ^ n) * 2 ^ lo + w.toNat % 2 ^ lo := by
    unfold bitsOf
    rw [hn]
    have e1 := Nat.div_add_mod w.toNat (2 ^ lo)
    have e2 := Nat.div_add_mod (w.toNat / 2 ^ lo) (2 ^ n)
    rw [Nat.div_div_eq_div_mul, ← Nat.pow_add] at e2
    generalize w.toNat / 2 ^ (lo + n) = q at *
    generalize w.toNat / 2 ^ lo = p at *
    generalize w.toNat % 2 ^ lo = r at *
    generalize p % 2 ^ n = f at *
    rw [← e1, ← e2]
    have : 2 ^ lo * (2 ^ n * q + f) + r - f * 2 ^ lo = q * 2 ^ n * 2 ^ lo + r := by
      have : 2 ^ lo * (2 ^ n * q + f) + r = q * 2 ^ n * 2 ^ lo + r + f * 2 ^ lo := by ring
      omega
    rw [this]; ring
  have hlt : (w.toNat / 2 ^ (lo + n) * 2 ^ n + v % 2 ^ n) * 2 ^ lo + w.toNat % 2 ^ lo < 2 ^ 16 := by
    have hq : w.toNat / 2 ^ (lo + n) < 2 ^ (16 - (lo + n)) := by
      rw [Nat.div_lt_iff_lt_mul (by positivity), ← Nat.pow_add]
      rwa [show 16 - (lo + n) + (lo + n) = 16 by omega]
    have hv : v % 2 ^ n < 2 ^ n := Nat.mod_lt _ (by positivity)
    have hr : w.toNat % 2 ^ lo < 2 ^ lo := Nat.mod_lt _ (by positivity)
    have h3 : w.toNat / 2 ^ (lo + n) * 2 ^ n + v % 2 ^ n < 2 ^ (16 - lo) := by
      calc _ < (w.toNat / 2 ^ (lo + n) + 1) * 2 ^ n := by rw [Nat.add_mul]; omega
        _ ≤ 2 ^ (16 - (lo + n)) * 2 ^ n := Nat.mul_le_mul_right _ hq
        _ = 2 ^ (16 - lo) := by rw [← Nat.pow_add]; congr 1; omega
    calc _ < (w.toNat / 2 ^ (lo + n) * 2 ^ n + v % 2 ^ n + 1) * 2 ^ lo := by rw [Nat.add_mul _ 1]; omega
      _ ≤ 2 ^ (16 - lo) * 2 ^ lo := Nat.mul_le_mul_right _ h3
      _ = 2 ^ 16 := by rw [← Nat.pow_add]; congr 1; omega
  unfold putBits
  rw [BitVec.toNat_ofNat, key, Nat.mod_eq_of_lt hlt]
  rw [Nat.mul_comm _ (2 ^ lo), Nat.testBit_two_pow_mul_add _ (Nat.mod_lt _ (by positivity)), Nat.mul_comm _ (2 ^ n),
    Nat.testBit_two_pow_mul_add _ (Nat.mod_lt _ (by positivity))]
  simp only [Nat.testBit_mod_two_pow, Nat.testBit_div_two_pow]
  by_cases ha : k < lo
  · have : ¬(lo ≤ k ∧ k ≤ hi) := by omega
    simp [ha, this]
  · by_cases hb : k ≤ hi
    · have h3 : k - lo < n := by omega
      have : lo ≤ k ∧ k ≤ hi := by omega
      simp [ha, h3, this]
    · have h3 : ¬ k - lo < n := by omega
      have h4 : ¬(lo ≤ k ∧ k ≤ hi) := by omega
      have h6 : k - lo - n + (lo + n) = k := by omega
      simp [ha, h3, h4, h6]

theorem testBit_bitsOf (w : Word) (hi lo k : Nat) :
    (bitsOf w hi lo).testBit k = (decide (k < hi + 1 - lo) && w.toNat.testBit (lo + k)) := by
  unfold bitsOf
  rw [Nat.testBit_mod_two_pow, Nat.testBit_div_two_pow, Nat.add_comm k lo]

/-- A field reads what was last written into it. -/
theorem bitsOf_putBits_same (w : Word) {hi lo : Nat} (h1 : lo ≤ hi) (h2 : hi < 16) (v : Nat) :
    bitsOf (putBits w hi lo v) hi lo = v % 2 ^ (hi + 1 - lo) := by
  apply Nat.eq_of_testBit_eq
  intro k
  rw [testBit_bitsOf, testBit_putBits w h1 h2, Nat.testBit_mod_two_pow]
  by_cases hk : k < hi + 1 - lo
  · have : lo ≤ lo + k ∧ lo + k ≤ hi := by omega
    simp [hk, this]
  · simp [hk]

/-- A field keeps its value while another field of the word is written. -/
theorem bitsOf_putBits_other (w : Word) {hi lo hi' lo' : Nat} (h1 : lo ≤ hi) (h2 : hi < 16) (h : hi' < lo ∨ hi < lo') (v : Nat) :
    bitsOf (putBits w hi lo v) hi' lo' = bitsOf w hi' lo' := by
  apply Nat.eq_of_testBit_eq
  intro k
  rw [testBit_bitsOf, testBit_bitsOf, testBit_putBits w h1 h2]
  by_cases hk : k < hi' + 1 - lo'
  · have : ¬(lo ≤ lo' + k ∧ lo' + k ≤ hi) := by omega
    simp [hk, this]
  · simp [hk]

/-- The later of two writes of one field stands. -/
theorem putBits_putBits (w : Word) {hi lo : Nat} (h1 : lo ≤ hi) (h2 : hi < 16) (u v : Nat) :
    putBits (putBits w hi lo u) hi lo v = putBits w hi lo v := by
  apply BitVec.eq_of_toNat_eq
  apply Nat.eq_of_testBit_eq
  intro k
  rw [testBit_putBits _ h1 h2, testBit_putBits _ h1 h2, testBit_putBits _ h1 h2]
  split <;> rfl

/-- Writing back what a field holds changes nothing. -/
theorem putBits_bitsOf (w : Word) {hi lo : Nat} (h1 : lo ≤ hi) (h2 : hi < 16) : putBits w hi lo (bitsOf w hi lo) = w := by
  apply BitVec.eq_of_toNat_eq
  apply Nat.eq_of_testBit_eq
  intro k
  rw [testBit_putBits _ h1 h2]
  split
  · next h =>
    rw [testBit_bitsOf]
    have h3 : k - lo < hi + 1 - lo := by omega
    have h4 : lo + (k - lo) = k := by omega
    simp [h3, h4]
  · rfl

theorem putBits_whole (w : Word) (v : Nat) : putBits w 15 0 v = BitVec.ofNat 16 v := by
  apply BitVec.eq_of_toNat_eq
  apply Nat.eq_of_testBit_eq
  intro k
  rw [testBit_putBits _ (by omega) (by omega), BitVec.toNat_ofNat, Nat.testBit_mod_two_pow]
  by_cases hk : k < 16
  · have : 0 ≤ k ∧ k ≤ 15 := by omega
    simp [hk, this]
  · have h1 : ¬ k ≤ 15 := by omega
    have h2 : w.toNat.testBit k = false := Nat.testBit_lt_two_pow (by
      calc w.toNat < 2 ^ 16 := w.isLt
        _ ≤ 2 ^ k := Nat.pow_le_pow_right (by omega) (by omega))
    simp [hk, h1, h2]

theorem bitsOf_whole (w : Word) : bitsOf w 15 0 = w.toNat := by
  unfold bitsOf
  have := w.isLt
  simp
  omega

end Sys2Proof.Machine
end

