-- ==== Sys2Proof/Laws/Ops.lean ====
section
/-!
SUPPORT. What the shared operations can do: one lemma each.
-/
namespace Sys2Proof.Machine

/-- A packet formed changes the Ferson port alone (R325). -/
theorem Dev.formPacket_eq (d : Dev) (p : PktReq) : d.formPacket p = { d with fsp := (d.formPacket p).fsp } := by
  unfold Dev.formPacket
  split <;> rfl

/-- An EVENT alert changes the Ferson port alone (R346). -/
theorem Dev.eventAlert_eq (d : Dev) (r b v : Nat) : d.eventAlert r b v = { d with fsp := (d.eventAlert r b v).fsp } := by
  unfold Dev.eventAlert
  split
  · split
    · rfl
    · exact Dev.formPacket_eq d _
  · rfl

/-- Setting event bits joins them to their register and may form an alert: nothing else changes (R41, R346). -/
theorem Dev.setEvtBits_eq (d : Dev) (i b : Nat) :
    d.setEvtBits i b = { d.setImm i (smGet resetWord d.regs.imm i ||| BitVec.ofNat 16 b) with fsp := (d.setEvtBits i b).fsp } := by
  unfold Dev.setEvtBits
  exact Dev.eventAlert_eq _ _ _ _

@[simp] theorem Dev.setEvtBits_parts (d : Dev) (i b : Nat) :
    (d.setEvtBits i b).regs.imm = smSet resetWord d.regs.imm i (smGet resetWord d.regs.imm i ||| BitVec.ofNat 16 b) ∧
    (d.setEvtBits i b).regs.staged = d.regs.staged ∧ (d.setEvtBits i b).regs.committed = d.regs.committed ∧
    (d.setEvtBits i b).regs.applied = d.regs.applied ∧ (d.setEvtBits i b).time = d.time ∧
    (d.setEvtBits i b).bus = d.bus ∧ (d.setEvtBits i b).mbx = d.mbx ∧ (d.setEvtBits i b).boot = d.boot ∧
    (d.setEvtBits i b).epoch = d.epoch ∧ (d.setEvtBits i b).afe = d.afe ∧ (d.setEvtBits i b).bic = d.bic ∧
    (d.setEvtBits i b).jnl = d.jnl ∧ (d.setEvtBits i b).anole = d.anole ∧ (d.setEvtBits i b).ctx = d.ctx ∧
    (d.setEvtBits i b).scn = d.scn ∧ (d.setEvtBits i b).grid = d.grid ∧ (d.setEvtBits i b).shed = d.shed ∧
    (d.setEvtBits i b).blockBlank = d.blockBlank ∧ (d.setEvtBits i b).fm = d.fm ∧ (d.setEvtBits i b).am = d.am ∧
    (d.setEvtBits i b).filt = d.filt ∧ (d.setEvtBits i b).rds = d.rds ∧ (d.setEvtBits i b).ctOffer = d.ctOffer ∧
    (d.setEvtBits i b).dbe = d.dbe ∧ (d.setEvtBits i b).dsc = d.dsc ∧ (d.setEvtBits i b).prg = d.prg ∧
    (d.setEvtBits i b).pairs = d.pairs ∧ (d.setEvtBits i b).refs = d.refs ∧
    (d.setEvtBits i b).scoreBlank = d.scoreBlank ∧ (d.setEvtBits i b).fab = d.fab ∧ (d.setEvtBits i b).cod = d.cod ∧
    (d.setEvtBits i b).jck = d.jck ∧ (d.setEvtBits i b).mix = d.mix ∧ (d.setEvtBits i b).tone = d.tone ∧
    (d.setEvtBits i b).ports = d.ports ∧ (d.setEvtBits i b).prt = d.prt ∧ (d.setEvtBits i b).clk = d.clk ∧
    (d.setEvtBits i b).cx = d.cx ∧ (d.setEvtBits i b).slk = d.slk ∧ (d.setEvtBits i b).rtc = d.rtc ∧
    (d.setEvtBits i b).lif = d.lif ∧ (d.setEvtBits i b).pwr = d.pwr ∧ (d.setEvtBits i b).tmp = d.tmp ∧
    (d.setEvtBits i b).life = d.life ∧ (d.setEvtBits i b).mon = d.mon ∧ (d.setEvtBits i b).pin = d.pin ∧
    (d.setEvtBits i b).freeIdx = d.freeIdx := by
  rw [Dev.setEvtBits_eq]
  repeat' apply And.intro
  all_goals rfl

@[simp] theorem Dev.formPacket_parts (d : Dev) (p : PktReq) :
    (d.formPacket p).regs = d.regs ∧ (d.formPacket p).time = d.time ∧ (d.formPacket p).bus = d.bus ∧
    (d.formPacket p).mbx = d.mbx ∧ (d.formPacket p).boot = d.boot ∧ (d.formPacket p).epoch = d.epoch ∧
    (d.formPacket p).afe = d.afe ∧ (d.formPacket p).bic = d.bic ∧ (d.formPacket p).jnl = d.jnl ∧
    (d.formPacket p).anole = d.anole ∧ (d.formPacket p).ctx = d.ctx ∧ (d.formPacket p).scn = d.scn ∧
    (d.formPacket p).grid = d.grid ∧ (d.formPacket p).shed = d.shed ∧ (d.formPacket p).blockBlank = d.blockBlank ∧
    (d.formPacket p).fm = d.fm ∧ (d.formPacket p).am = d.am ∧ (d.formPacket p).filt = d.filt ∧
    (d.formPacket p).rds = d.rds ∧ (d.formPacket p).ctOffer = d.ctOffer ∧ (d.formPacket p).dbe = d.dbe ∧
    (d.formPacket p).dsc = d.dsc ∧ (d.formPacket p).prg = d.prg ∧ (d.formPacket p).pairs = d.pairs ∧
    (d.formPacket p).refs = d.refs ∧ (d.formPacket p).scoreBlank = d.scoreBlank ∧ (d.formPacket p).fab = d.fab ∧
    (d.formPacket p).cod = d.cod ∧ (d.formPacket p).jck = d.jck ∧ (d.formPacket p).mix = d.mix ∧
    (d.formPacket p).tone = d.tone ∧ (d.formPacket p).ports = d.ports ∧ (d.formPacket p).prt = d.prt ∧
    (d.formPacket p).clk = d.clk ∧ (d.formPacket p).cx = d.cx ∧ (d.formPacket p).slk = d.slk ∧
    (d.formPacket p).rtc = d.rtc ∧ (d.formPacket p).lif = d.lif ∧ (d.formPacket p).pwr = d.pwr ∧
    (d.formPacket p).tmp = d.tmp ∧ (d.formPacket p).life = d.life ∧ (d.formPacket p).mon = d.mon ∧
    (d.formPacket p).pin = d.pin ∧ (d.formPacket p).freeIdx = d.freeIdx := by
  rw [Dev.formPacket_eq]
  repeat' apply And.intro
  all_goals rfl

/-- Field `f` of entry `n` of an immediate register reads the written value, held to its width. -/
theorem Dev.fget_fput (d : Dev) (f : Fld) (n v : Nat) (h1 : f.lo ≤ f.hi) (h2 : f.hi < 16) (h3 : f.staged = false) :
    (d.fput f n v).fget f n = v % 2 ^ (f.hi + 1 - f.lo) := by
  simp [Dev.fget, Dev.word, h3, bitsOf_putBits_same _ h1 h2]

/-- A field of another register keeps its value. -/
theorem Dev.fget_fput_other (d : Dev) (f g : Fld) (n m v : Nat) (h : g.base + g.stride * m ≠ f.base + f.stride * n) :
    (d.fput f n v).fget g m = d.fget g m := by
  simp [Dev.fget, Dev.word, h]

/-- A staged field keeps its value in force while an immediate register is written. -/
theorem Dev.fget_fput_staged (d : Dev) (f g : Fld) (n m v : Nat) (h : g.staged = true) :
    (d.fput f n v).fget g m = d.fget g m := by
  simp [Dev.fget, Dev.word, h]

/-- Another field of the same register keeps its value. -/
theorem Dev.fget_fput_field (d : Dev) (f g : Fld) (n m v : Nat) (h1 : f.lo ≤ f.hi) (h2 : f.hi < 16) (h3 : g.hi < f.lo ∨ f.hi < g.lo) :
    (d.fput f n v).fget g m = d.fget g m := by
  unfold Dev.fget Dev.word
  split
  · simp
  · by_cases h : g.base + g.stride * m = f.base + f.stride * n
    · simp [h, bitsOf_putBits_other _ h1 h2 h3]
    · simp [h]

end Sys2Proof.Machine
end

