-- ==== Sys2Proof/Laws/Frame.lean ====
section
/-!
SUPPORT. The frames of the statements: how they compose, and what writing a field, counting and raising an event say in their terms.
-/
namespace Sys2Proof.Machine

variable {s t u : State} {l l' : List Nat}

theorem Only.refl (l : List Nat) (s : State) : Only l s s := ⟨rfl, rfl, rfl, rfl, rfl, rfl, fun _ _ => rfl⟩

/-- A frame may name more registers. -/
theorem Only.mono (h : Only l s t) (hl : ∀ i ∈ l, i ∈ l') : Only l' s t :=
  ⟨h.1, h.2.1, h.2.2.1, h.2.2.2.1, h.2.2.2.2.1, h.2.2.2.2.2.1, fun i hi => h.2.2.2.2.2.2 i (fun hm => hi (hl i hm))⟩

/-- Two changes within one frame stay within it. -/
theorem Only.trans (h : Only l s t) (k : Only l t u) : Only l s u := by
  obtain ⟨a1, a2, a3, a4, a5, a6, a7⟩ := h
  obtain ⟨b1, b2, b3, b4, b5, b6, b7⟩ := k
  exact ⟨b1.trans a1, b2.trans a2, b3.trans a3, b4.trans a4, b5.trans a5, b6.trans a6, fun i hi => (b7 i hi).trans (a7 i hi)⟩

/-- A command whose meaning maps the block completes with the mapped block. -/
theorem runs_nextDev {c : Instr} {f : Dev → Dev} {p : State → Prop} (h : exec c s = nextDev s f) (hp : p { s with dev := f s.dev }) :
    Runs c s p := ⟨_, h, hp⟩

/-- Writing a field touches its register alone. -/
theorem only_fput (s : State) (f : Fld) (n v : Nat) : Only [f.at n] s { s with dev := s.dev.fput f n v } := by
  refine ⟨rfl, rfl, rfl, rfl, rfl, rfl, fun i hi => ?_⟩
  have : i ≠ f.base + f.stride * n := by simpa [Fld.at] using hi
  simp [State.reg, this]

theorem wrote_fput (s : State) (f : Fld) (n v : Nat) : Wrote s { s with dev := s.dev.fput f n v } f n v := by
  simp [Wrote, State.reg, Fld.at]

/-- Counting in a field of an immediate register. -/
theorem counted_bump (s : State) (f : Fld) (n : Nat) : Counted s { s with dev := s.dev.bump f n } f n := wrote_fput s f n _

theorem only_bump (s : State) (f : Fld) (n : Nat) : Only [f.at n] s { s with dev := s.dev.bump f n } := only_fput s f n _

/-- Raising an event touches its register alone (and may form an alert in the Ferson port). -/
theorem only_event (s : State) (f : Fld) (n : Nat) : Only [f.at n] s { s with dev := s.dev.event f n } := by
  refine ⟨rfl, rfl, rfl, by simp [Dev.event], by simp [Dev.event], by simp [Dev.event], fun i hi => ?_⟩
  have : i ≠ f.base + f.stride * n := by simpa [Fld.at] using hi
  simp [State.reg, Dev.event, this]

theorem raised_event (s : State) (f : Fld) (n : Nat) : Raised s { s with dev := s.dev.event f n } f n := by
  simp [Raised, State.reg, Fld.at, Dev.event]

end Sys2Proof.Machine
end

