-- ==== Sys2Proof/Laws/Memory.lean ====
section
/-!
SUPPORT. Every operation on the flash and on the Lilypad keeps the canonical form of the memory, and the memories after reset have it.
-/
namespace Sys2Proof.Machine

variable {m : SMap Byte}

/-- The memories after reset list nothing. -/
theorem reset_memWf : State.reset.memWf = true := rfl

/-- Programming keeps the canonical form. -/
theorem wf_flashProg (bs : List Nat) : ∀ {m : SMap Byte} (a : Nat), Memory.wf erased m = true → Memory.wf erased (flashProg m a bs) = true := by
  induction bs with
  | nil => exact fun _ h => h
  | cons b t ih => exact fun a h => ih (a + 1) (smWf_smSet h)

/-- Programming the bytes from `a` leaves every address outside them as it was. -/
theorem smGet_flashProg_other (bs : List Nat) : ∀ {m : SMap Byte} (a j : Nat), j < a ∨ a + bs.length ≤ j →
    smGet erased (flashProg m a bs) j = smGet erased m j := by
  induction bs with
  | nil => exact fun _ _ _ => rfl
  | cons b t ih =>
    intro m a j h
    have hj : j ≠ a := by simp at h; omega
    rw [flashProg, ih (a + 1) j (by simp at h; omega), smGet_smSet, if_neg hj]

/-- A programmed byte is the old byte with the given bits cleared. -/
theorem smGet_flashProg_one (b a : Nat) : smGet erased (flashProg m a [b]) a = smGet erased m a &&& BitVec.ofNat 8 b := by
  rw [flashProg, flashProg, smGet_smSet, if_pos rfl]

/-- Erasing keeps the canonical form. -/
theorem wf_flashErase (a n : Nat) (h : Memory.wf erased m = true) : Memory.wf erased (flashErase m a n) = true := smWf_smDrop _ h

/-- An erased range reads 0xFF; every other address reads as before. -/
theorem smGet_flashErase (a n j : Nat) : smGet erased (flashErase m a n) j = if a ≤ j ∧ j < a + n then 0xFF else smGet erased m j := by
  rw [flashErase, smGet_smDrop]; simp [erased]

/-- Erasing sectors of the ring keeps the canonical form. -/
theorem wf_ringErase (v k : Nat) (h : Memory.wf erased m = true) : Memory.wf erased (ringErase m v k) = true := smWf_smDrop _ h

/-- A chunk loaded into the Lilypad keeps the canonical form. -/
theorem wf_lilyLoad (a : Nat) (bs : List Byte) (h : Memory.wf (fun _ => 0) m = true) :
    Memory.wf (fun _ => 0) (smSetList (fun _ => 0) m a bs) = true := smWf_smSetList h

/-- A write of bytes into the flash keeps the canonical form. -/
theorem wf_flashSet (a : Nat) (bs : List Byte) (h : Memory.wf erased m = true) : Memory.wf erased (smSetList erased m a bs) = true := smWf_smSetList h

end Sys2Proof.Machine
end

