-- ==== Sys2Proof/WellFormed.lean ====
section
/-!
DEFINITION. Well-formed commands: what the parts of a command that are lists or plain numbers must satisfy to be something that can arrive.
Every other operand is held within its range by its type. The meanings are total on ill-formed commands too.
-/
namespace Sys2Proof

/-- A counted block write carries what follows the count byte in one transaction: at most 255 bytes count (R526). -/
def blockWf (data : List Byte) : Bool := decide (data.length ≤ 255)

/-- An SFDP table lists a 4 KiB or a 64 KiB erase (R57). -/
def sfdpWf : Option Sfdp → Bool
  | none => true
  | some f => f.erase4k || f.erase64k

/-- The context or programme indices of a list of measurements are in range and rise, so that no entry stands twice. -/
def indicesWf (size : Nat) : List Nat → Bool
  | [] => true
  | [n] => decide (n < size)
  | n :: m :: t => decide (n < m) && indicesWf size (m :: t)

/-- The block of an FM context: 1 ms of samples at 384 kS/s of each input that serves it (R171), and noise powers to divide by (R176). -/
def fmWf (b : FmBlock) : Bool :=
  (b.a.length == 0 || b.a.length == 384) && (b.b.length == 0 || b.b.length == 384) && decide (0 < b.noiseA) && decide (0 < b.noiseB)

/-- An audio frame has at least one frame or access unit, decoded at 24, 32 or 48 kHz (R267). -/
def frameWf (f : AudioFrame) : Bool := !f.units.isEmpty && [24, 32, 48].contains f.khz

/-- A command is well formed. -/
def Instr.wf : Instr → Bool
  | .mailboxWrite _ data _ => blockWf data
  | .pgtBulkWrite _ data _ => blockWf data
  | .romCheckRetry _ sfdp => sfdpWf sfdp
  | .resetRelease _ _ _ sfdp => sfdpWf sfdp
  | .laneGroup _ codes => codes.length == 8                                    -- R99
  | .estimationWindow _ _ _ est => est.length == 8                             -- R120
  | .spectrumComplete _ ffts => ffts.all (fun f => f.length == 16384)          -- R166
  | .contextBlockBoundary fm am dbe iq =>
    indicesWf 256 (fm.map (·.n)) && indicesWf 160 (am.map (·.n)) && indicesWf 41 (dbe.map (·.1)) && indicesWf 8 (iq.map (·.1)) &&
      fm.all fmWf && am.all (fun b => b.z.length == 48) && iq.all (fun e => decide (e.2.length ≤ 2048))
  | .cif _ _ frames => indicesWf 48 (frames.map (·.n))
  | .fib _ _ data _ => data.length == 32                                       -- R250
  | .audioFrameDecode _ frame => frameWf frame
  | .fabricFrame inp => inp.line.length == 6                                   -- R358
  | .portFrameStart _ frame => decide (frame.din.length ≤ 32) && decide (frame.late.length ≤ 32)  -- R410
  | .zPreamble cs user => cs.length == 24 && user.length == 24                 -- R433
  | .packetReceived decoded its => decide (decoded.length ≤ 257) && decide (its.length ≤ 8)  -- R466, R468
  | .localTransferDone _ data => decide (data.length ≤ 32)                     -- R548
  | .busClearDone _ samples _ => decide (samples.length ≤ 9)                   -- R541
  | .tempReading values => values.length == 4                                  -- R558
  | .boundaryRegisterUpdate cells => cells.length == 198                       -- R608
  | _ => true

end Sys2Proof
end

