-- ==== Sys2Proof/Tests/Slice0.lean ====
section
/-!
SUPPORT. Tests of the model: check values of the spec, the check of well-formedness, and for every statement one theorem that names a state and
operands for each of its clauses.
-/
set_option maxRecDepth 100000
set_option synthInstance.maxSize 2000000
set_option linter.all false
set_option Elab.async false
section
open Sys2Proof Sys2Proof.Machine

/-- A state from given fields: registers in force (a staged field in all three layers), all else at reset. -/
def st (l : List (Fld × Nat × Nat)) : State :=
  { dev := l.foldl (fun d e =>
      if e.1.staged then
        let i := e.1.at e.2.1
        let w := putBits (smGet resetWord d.regs.applied i) e.1.hi e.1.lo e.2.2
        { d with regs := { d.regs with
            applied := smSet resetWord d.regs.applied i w, staged := smSet resetWord d.regs.staged i w,
            committed := smSet resetWord d.regs.committed i w } }
      else d.fput e.1 e.2.1 e.2.2) {} }

/-- The state with its block changed. -/
def on (s : State) (f : Dev → Dev) : State := { s with dev := f s.dev }

/-- The state about an hour after its beginning, so that what was timed from there is due. -/
def late (s : State) : State := on s (fun d => { d with time := { d.time with clk := 1000000000000 } })

def est1 : List (Int × Int × Int) := (List.range 8).map (fun (k : Nat) => ((k : Int), 3, -5))
def est2 : List (Int × Int × Int) := (List.range 8).map (fun (k : Nat) => ((k : Int), 40 * (k : Int), -5))
def e1l (o : Int) : List LaneCorr := (List.range 8).map (fun (k : Nat) => ⟨(k : Int) + o, 3, -5⟩)
/-- Calibration of input `x` enabled and sampling, in STATE `n`, with the correction `c` of every lane's offset. -/
def cal (x n : Nat) (c : Int) (f : BicSt → BicSt) : State :=
  on (st [(R.CLK_STAT_SPL, 0, 2), (R.BIC_CFG_EN_A, 0, 1), (R.BIC_CFG_EN_B, 0, 1), (R.AFE_STAT_SAMPLING, x, 1), (R.BICX_STAT_STATE, x, n)])
    (fun d => d.updBic x (fun b => f { b with corr := some ((List.range 8).map (fun _ => ⟨c, 0, 0⟩)) }))
def jnlRec : JnlRec := ⟨5, some (e1l 2), none⟩
/-- A journal at position `pos` of slot `sl` with two records waiting. -/
def jnlAt (sl pos : Nat) (dirty : Bool) (last : Option Nat) : State :=
  { on {} (fun d => { d with anole := [true, true], jnl := { dirty := dirty, last := last, queue := [jnlRec, jnlRec], slot := sl, pos := pos, seq := 7 } }) with
    flash := [(0xC00003, 7), (0xC10000, 9)] }

/-- Thermal test state: threshold 100 °C, the hottest sensor at `t` tenths, FM entry 5 in STATE `a`, AM entry 2 in STATE `b`. -/
def warm (t a b : Nat) : State :=
  st [(R.TMP_CFG_SHED, 0, 100), (R.TMP_MAX_TEMP, 0, t), (R.FMC_STAT_STATE, 5, a), (R.AMC_STAT_STATE, 2, b), (R.CHN_SHED_KEEP, 0, 3)]
def spec0 : List Nat := (List.range 16384).map (fun k => if k < 8 then 10 ^ (k + 10) else 0)
def spec1 : List Nat := (List.range 16384).map (fun k => if k < 6 then 3 * k else 0)
/-- A scanner of input `x` in mode `m` that runs. -/
def scan (x m : Nat) (f : ScnSt → ScnSt) : State :=
  on (st [(if x = 0 then R.SCN_CFG_EN_A else R.SCN_CFG_EN_B, 0, 1), (R.AFE_STAT_SAMPLING, x, 1), (R.SCN_CFG_NFFT, 0, 8), (R.SCN_CFG_MODE, 0, m),
    (R.SCN_PERIOD_PERIOD, 0, 1), (R.PWR_DOM_STAT_STATE, 0, 0xAAA), (R.CLK_STAT_SPL, 0, 2)]) (fun d => d.updScn x f)
/-- FM entry 7 receives 98,500 kHz for no programme. -/
def mgd7 : State :=
  on (st [(R.FMC_STAT_STATE, 7, 3)]) (fun d => d.updCtx 0 7 (fun c => { c with managed := true, granted := true, freeClk := 1, freq := 98500, src := 2 }))

def req (cls stream len : Nat) : PktReq := ⟨4, cls, stream, 77, true, len, .bytes [1, 2, 3]⟩
def pkt (cls seq gen : Nat) : Packet := ⟨cls, 0, seq, 5, false, false, 0, List.replicate 64 7, 0, gen, true⟩
/-- The port runs with the packets `l` stored and `f` formed. -/
def port (r : List (Fld × Nat × Nat)) (l : List Packet) (tr : Option Packet) (f : List PktReq) : State :=
  on (st ([(R.FSP_STAT_RUN, 0, 1), (R.FSP_CFG_EN, 0, 1), (R.CLK_STAT_SPL, 0, 2), (R.FSP_STAT_RDY, 0, 1), (R.PWR_DOM_STAT_STATE, 0, 0xAAA)] ++ r))
    (fun d => { d with fsp := { d.fsp with formed := f, stored := l, transit := tr } })
/-- A packet of 150 bytes is on the wire for `n` cycles. -/
def onWire (n : Nat) : State :=
  on (port [] [pkt 2 3 0] (some (pkt 1 1 2)) []) (fun d => { d with time := { d.time with clk := n }, fsp := { d.fsp with wire := List.replicate 150 1 } })

/-- FM contexts 9 and 255 in STATE `a`, each with the accumulators `f`, at a boundary of both kinds. -/
def fmAt (a : Nat) (f : FmSt) (r : List (Fld × Nat × Nat)) : State :=
  on (st ([(R.FMC_STAT_STATE, 9, a), (R.FMC_STAT_STATE, 255, a)] ++ r)) (fun d => { (d.updFm 9 (fun _ => f)).updFm 255 (fun _ => f) with grid := { dev := true, period := true, clr := true } })

/-- FM context 9 in RUN with its decoder on and synchronised as `sync` says, and the decoder's state `r`. -/
def rdsAt (sync : Nat) (r : RdsSt) : State :=
  on (st [(R.FMC_STAT_STATE, 9, 3), (R.RDS_CTL_EN, 9, 1), (R.RDS_STAT_SYNC, 9, sync), (R.CHN_RDS_CFG_CORR_MAX, 0, 2), (R.CHN_RDS_CFG_USE_MAX, 0, 1),
    (R.CHN_RDS_CFG_LOSS, 0, 45)]) (fun d => d.updRds 9 (fun _ => r))
def blkw (w c : Nat) : RdsBlk := ⟨w, c, false⟩
def grp (b c w k : Nat) : RdsGrp := ⟨[blkw 0x1234 k, blkw b k, blkw c k, blkw w k], 500, false⟩

/-- Ensemble context 9 in RUN with SYNC `y` and the receiver state `e`. -/
def ens (y : Nat) (e : DbeSt) : State :=
  on (st [(R.DBE_STAT_STATE, 9, 3), (R.DBE_STAT_SYNC, 9, y), (R.DBE_EID_EID, 9, 0x1234)]) (fun d => { d.updDbe 9 (fun _ => e) with time := { d.time with clk := 50000000000 } })
/-- Entry 7 of subchannels in STATE `a` with coding `c` and the state `e`. -/
def sub7 (a c : Nat) (e : DscSt) : State :=
  on (st [(R.DSC_STAT_STATE, 7, a), (R.DSC_STAT_PCM, 7, 1), (R.DSC_STAT_CODING, 7, c), (R.DSC_STAT_DLS, 7, 1)]) (fun d => d.updDsc 7 (fun _ => e))
def subA : DabSub := ⟨100, 60, true, 3, 64⟩
def svcA : DbEnt DabSvc := ⟨0xD311, { data := false, comps := [⟨0, 63, 5, true, false⟩] }, true, 3⟩
def entA (k : Nat) (stale : Bool) : DbEnt DabSub := ⟨k, subA, stale, 2⟩
/-- Ensemble 9 locked, entry 7 enabled for its subchannel 5, in FILL with `f` CIFs passed. -/
def filling (f : Nat) : State :=
  on (st [(R.DBE_STAT_STATE, 9, 3), (R.DBE_STAT_SYNC, 9, 3), (R.DSC_CTL_EN, 7, 1), (R.DSC_SEL_DBE, 7, 9), (R.DSC_SEL_SUBCH, 7, 5), (R.DSC_STAT_STATE, 7, 2)])
    (fun d => (d.updDbe 9 (fun e => { e with subs := [(0, some (entA 5 false))] })).updDsc 7 (fun e => { e with block := 9, subch := 5, sub := some subA, cu := 60, fill := f }))
/-- Three entries reserve 1,500 CU each. -/
def crowded : State :=
  on (filling 3) (fun d => ((d.updDsc 1 (fun e => { e with cu := 1500 })).updDsc 2 (fun e => { e with cu := 1500 })).updDsc 40 (fun e => { e with cu := 1500 }))

/-- Programme 9 runs in the state `g`; FM contexts 3 and 4 are its slots 0 and 1, and run; the registers `r` are set as well. -/
def prog (r : List (Fld × Nat × Nat)) (g : PrgSt) : State :=
  on (st ([(R.PGT_CTL_EN, 9, 1), (R.PGT_SRC_KIND, 16 * 9, 1), (R.PGT_SRC_ARG, 16 * 9, 3), (R.PGT_SRC_KIND, 16 * 9 + 1, 1), (R.PGT_SRC_ARG, 16 * 9 + 1, 4),
    (R.PRG_EST_MIN_CORR, 0, 100), (R.PRG_EST_VERIFY, 0, 5), (R.PRG_PAGES_FREE_COUNT, 0, 100), (R.FMC_STAT_STATE, 3, 3), (R.FMC_STAT_STATE, 4, 3), (R.CLK_STAT_SPL, 0, 2),
    (R.PWR_DOM_STAT_STATE, 0, 0xAAA)] ++ r))
    (fun d => { d.updPrg 9 (fun _ => { g with on := true }) with
      time := { d.time with clk := 50000000000 }, grid := { score := true, loud := true, prg := 49999999990 }, boot := { d.boot with phase := .released } })
def two (a b : SrcSt) : SMap SrcSt := [(0, a), (1, b)]
/-- Programme 9 has an FM follow slot and discovery, and the AF list of its FM context 3 offers 98,500 kHz, which no context receives. -/
def offered : State :=
  on (prog [(R.PGT_SRC_KIND, 16 * 9 + 2, 4), (R.PGT_SRC_ARG, 16 * 9 + 2, 4), (R.PGT_CTL_DISC, 9, 1), (R.PGT_PI_ID, 9, 0xD311), (R.PRG_DISC_MIN_LVL, 0, 0)]
      { offers := [(5, .freq 0xD311 8 [98500] false)] })
    (fun d => { d.updDbe 5 (fun e => { e with freqs := [(0, some ⟨0xD311 * 16 + 8, [98500], false, 1⟩)] }) with scn := [(1, { d.scnOf 1 with bins := List.replicate 4400 0#16 })] })
/-- Source 1 of programme 9, in alignment state `al`, estimated since cycle `est` with the last estimate `prev`, hears what source 0 plays 1 ms later. -/
def heard (est : Nat) (prev : Option Int) (al : Nat := 1) : State :=
  prog [] { active := some 0, srcs := two { env := [0, 7] } { env := [0, 0, 7], align := al, est := est, prev := prev } }
theorem heard_lag :
    bestLag (fun l => correlate (shifted (0 - l) [0, 7] [0, 0, 7]).1 (shifted (0 - l) [0, 7] [0, 0, 7]).2) (intRange (-4000) 4000) =
      some (-1, ⟨49, 49, 49⟩) := by
  have parts : intRange (-4000) 4000 = intRange (-4000) (-2) ++ (-1) :: intRange 0 4000 := by decide +kernel
  have zero (l : Int) (h : l ≠ -1) :
      (correlate (shifted (0 - l) [0, 7] [0, 0, 7]).1 (shifted (0 - l) [0, 7] [0, 0, 7]).2).va *
        (correlate (shifted (0 - l) [0, 7] [0, 0, 7]).1 (shifted (0 - l) [0, 7] [0, 0, 7]).2).vb = 0 := by
    rcases (show l ≤ -3 ∨ l = -2 ∨ l = 0 ∨ l = 1 ∨ 2 ≤ l by omega) with h | rfl | rfl | rfl | h
    · rw [shifted, if_pos (by omega), List.drop_of_length_le (show _ ≤ _ by simp; omega)]; simp
    · decide
    · decide
    · decide
    · rw [shifted, if_neg (by omega), List.drop_of_length_le (show _ ≤ _ by simp; omega)]; simp
  rw [parts]
  refine bestLag_single _ (-1) _ _ (fun l h => zero l ?_) (by decide) (fun l h => zero l ?_) <;> simp [intRange] at h <;> omega
theorem heard_corr (est : Nat) (prev : Option Int) (al : Nat) : (heard est prev al).dev.coarseCorr 9 0 1 =
    fun l => correlate (shifted (0 - l) [0, 7] [0, 0, 7]).1 (shifted (0 - l) [0, 7] [0, 0, 7]).2 := by
  have o : ((heard est prev al).dev.newestStart 9 1 - (heard est prev al).dev.newestStart 9 0) / (Config.sysPerMs : Int) = 0 := by rfl
  have e0 : ((heard est prev al).dev.srcOf 9 0).env = [0, 7] := rfl
  have e1 : ((heard est prev al).dev.srcOf 9 1).env = [0, 0, 7] := rfl
  funext l
  unfold Dev.coarseCorr
  rw [o, e0, e1]
  rfl
theorem heard_min (est : Nat) (prev : Option Int) (al : Nat) : (heard est prev al).dev.fget R.PRG_EST_MIN_CORR = 100 := by
  have r : (heard est prev al).dev.regs = (heard 0 none).dev.regs := rfl
  unfold Dev.fget Dev.word
  rw [r]
  decide +kernel
theorem heard_best (est : Nat) (prev : Option Int) (al : Nat) :
    (((heard est prev al).dev.prgOf 9).active.bind fun a => bestLag ((heard est prev al).dev.coarseCorr 9 a 1) (intRange (-4000) 4000)) =
      some (-1, ⟨49, 49, 49⟩) := by
  rw [show ((heard est prev al).dev.prgOf 9).active = some 0 from rfl, Option.bind_some, heard_corr]
  exact heard_lag
theorem heard_found (est : Nat) (prev : Option Int) (al : Nat) : (heard est prev al).dev.coarseFound 9 1 = some (-1) := by
  rw [Dev.coarseFound, heard_best, heard_min]
  rfl
theorem witness_PrgAlignment_heard :
    (let s : State := heard 9 (some 1); let c := s.dev.srcOf 9 1
      (c.est ≠ 0 ∧ 8 * Config.sysPerSecond ≤ s.dev.time.clk + 1 - c.est ∧ (c.prevClk = 0 ∨ Config.sysPerSecond ≤ s.dev.time.clk + 1 - c.prevClk)) ∧
      s.dev.coarseFound (9 : Fin 128) (1 : Fin 16) = some (-1) ∧ c.prev = some 1 ∧ ((1 : Int) - (-1)).natAbs ≤ 2 ∧ c.align = 1 ∧
      s.dev.domOn 4 = true ∧ s.dev.inReset = false) ∧
    (let s : State := heard 9 (some 1) 3; let c := s.dev.srcOf 9 1
      (c.est ≠ 0 ∧ 8 * Config.sysPerSecond ≤ s.dev.time.clk + 1 - c.est ∧ (c.prevClk = 0 ∨ Config.sysPerSecond ≤ s.dev.time.clk + 1 - c.prevClk)) ∧
      s.dev.coarseFound (9 : Fin 128) (1 : Fin 16) = some (-1) ∧ c.prev = some 1 ∧ ((1 : Int) - (-1)).natAbs ≤ 2 ∧ c.align = 3 ∧
      s.dev.domOn 4 = true ∧ s.dev.inReset = false) ∧
    (let s : State := heard 46000000000 none; let c := s.dev.srcOf 9 1
      (c.est ≠ 0 ∧ 8 * Config.sysPerSecond ≤ s.dev.time.clk + 1 - c.est ∧ (c.prevClk = 0 ∨ Config.sysPerSecond ≤ s.dev.time.clk + 1 - c.prevClk)) ∧
      s.dev.coarseFound (9 : Fin 128) (1 : Fin 16) = some (-1) ∧ c.prev = none ∧ ¬ 30 * Config.sysPerSecond ≤ s.dev.time.clk + 1 - c.est ∧
      s.dev.domOn 4 = true ∧ s.dev.inReset = false) :=
  ⟨⟨by decide +kernel, heard_found 9 (some 1) 1, rfl, by decide, rfl, by decide +kernel, by decide +kernel⟩,
    ⟨by decide +kernel, heard_found 9 (some 1) 3, rfl, by decide, rfl, by decide +kernel, by decide +kernel⟩, ⟨by decide +kernel, heard_found 46000000000 none 1, rfl, by decide +kernel, by decide +kernel, by decide +kernel⟩⟩

/-- Registers `r`, at cycle 5,000,000,000. -/
def cod5 (r : List (Fld × Nat × Nat)) : State := on (st r) (fun d => { d with time := { d.time with clk := 5000000000 } })
/-- The headphone or line output `k` in state `a` with the sequence `q`. -/
def seq (k a : Nat) (q : OutSeq) : State := on (cod5 [(outField k, 0, a)]) (fun d => d.setSeq k q)
/-- The speaker in the state `q`, and its register at `v`. -/
def spk (v : Nat) (q : SpkSt) : State :=
  on (cod5 [(R.COD_STAT_SPK, 0, v), (R.COD_PWR_SPK_EN, 0, 1), (R.CLK_STAT_APL, 0, 2), (R.PWR_DOM_STAT_STATE, 0, 0xAAAA)])
    (fun d => d.updCod (fun c => { c with spk := q }))
def jack (r : List (Fld × Nat × Nat)) (j : JckSt) : State :=
  on (cod5 ([(R.JCK_CFG_EN, 0, 1), (R.JCK_CFG_BTN_EN, 0, 1), (R.COD_PWR_HP_EN, 0, 1)] ++ r)) (fun d => d.updJck (fun _ => j))

/-- Mix 9 in the state `m`, at cycle 5,000,000,000, with PD6 ON and the AUD clock. -/
def mixAt (r : List (Fld × Nat × Nat)) (m : MixSt) : State :=
  on (st ([(R.CLK_STAT_APL, 0, 2), (R.CLK_STAT_SPL, 0, 2), (R.PWR_DOM_STAT_STATE, 0, 0xAAAA), (R.MXT_CTL_EN, 9, 1), (R.MXT_GAIN_G_A, 16 * 9 + 2, 100)] ++ r))
    (fun d => { d.updMix 9 (fun _ => m) with time := { d.time with clk := 5000000000 } })
def out4 : MixSt := { terms := [(4, ⟨7, 8, ⟨0, -100000, 5, 5, 2⟩⟩)], ramp := ⟨0, -100000, 5, 5, 2⟩, pend := some 0x1000 }

/-- Port 1 in STATE `a` with the state `p`, the AUD clock and PD6 ON, at cycle 5,000,000,000. -/
def portAt (a : Nat) (r : List (Fld × Nat × Nat)) (p : PortSt) : State :=
  on (st ([(R.CLK_STAT_APL, 0, 2), (R.CLK_STAT_SPL, 0, 2), (R.PWR_DOM_STAT_STATE, 0, 0xAAAA), (R.P_STAT_STATE, 1, a), (R.P_CFG_EN, 1, 1), (R.P_CFG_RATE, 1, 2)] ++ r))
    (fun d => { d.updPort 1 (fun _ => p) with time := { d.time with clk := 5000000000 } })
def masked : List (Fld × Nat × Nat) := [(R.P_CFG_MASTER, 1, 1), (R.P_TXMASK_LO_MASK, 1, 5), (R.P_FRAME_SLOTS, 1, 3), (R.P_CFG_WIDTH, 1, 2)]

/-- The site link in role 1 with PD7 ON, locked on hop 5 in STATE 2, the state `k`, at cycle 50,000,000,000. -/
def link (r : List (Fld × Nat × Nat)) (k : SlkSt) : State :=
  on (st ([(R.PWR_DOM_STAT_STATE, 0, 0xAAAA), (R.SLK_CFG_ROLE, 0, 1), (R.SLK_ADDR_ADDR, 0, 0x1234), (R.SLK_STAT_STATE, 0, 2), (R.SLK_STAT_LOCKED, 0, 1),
    (R.SLK_STAT_HOP, 0, 5), (R.SLK_LISTEN_HOP, 0, 5), (R.SLK_HOP_FREQ_FREQ, 5, 400), (R.SLK_HOP_CFG_LBT, 5, 0), (R.SLK_LDG_LO_VALUE, 2, 0), (R.SLK_LDG_HI_VALUE, 2, 800),
    (R.SLK_LDG_LIM_VALUE, 2, 10), (R.SLK_LDG_LIM_VALUE, 1, 0), (R.SLK_LDG_LIM_VALUE, 0, 0), (R.SLK_LDG_LIM_VALUE, 3, 0), (R.SLK_RETRY_MAX, 0, 3), (R.SLK_LBT_TRIES, 0, 4)] ++ r))
    (fun d => { d with slk := { k with freq := 400 }, time := { d.time with clk := 50000000000 } })
def reqA (ack : Bool) : SlkReq := ⟨7, 0x2222, ack, false, 1, 5, [1, 2, 3]⟩
def txA (ph clk stop : Nat) : SlkTx := { isAck := false, frame := [1, 2], hop := 5, mode := 0, r23 := false, pwr := 1, prio := false, phase := ph, due := 5, clk := clk, stop := stop }
def rxA (h : Option (Nat × Bool)) (stop : Nat) : SlkRx := { level := -800, time := 99999999, hop := 5, mode := 1, head := h, stop := stop }
def asked (op off : Nat) (data : List Nat) (s : State) : State := on s (fun d => { d with mbx := { req := some ⟨op, data.length, off, data⟩ } })
def frameA : List Nat := [0x20, 9, 0x12, 0x34, 0x56, 0x78, 1]
/-- `frameA` and its CRC as the decoder gives them, still whitened. -/
def decA : List Byte := (bytesOf 9 (whiten (frameA ++ [crc16 frameA / 256, crc16 frameA % 256]))).map (BitVec.ofNat 8)

/-- The registers `r` and the clock state `c`, at cycle 50,000,000,000. -/
def clkAt (r : List (Fld × Nat × Nat)) (c : ClkSt) : State :=
  on (st r) (fun d => { d with clk := c, time := { d.time with clk := 50000000000 } })

/-- The RTC runs at the given year, month, day, hour, minute and second, with the sub-seconds at `sub` and the weekday right. -/
def calendar (y m d h mi se sub : Nat) (r : List (Fld × Nat × Nat)) : State :=
  st ([(R.RTC_STAT_RUN, 0, 1), (R.RTC_CTL_HALTED, 0, 0), (R.RTC_STAT_END, 0, 0), (R.RTC_YEAR_YEAR, 0, y), (R.RTC_MW_MONTH, 0, m), (R.RTC_HD_DAY, 0, d), (R.RTC_HD_HOUR, 0, h),
    (R.RTC_MS_MIN, 0, mi), (R.RTC_MS_SEC, 0, se), (R.RTC_SUB_SUB, 0, sub), (R.RTC_MW_WDAY, 0, weekday y m d)] ++ r)

/-- The state with its local interface changed. -/
def lif (r : List (Fld × Nat × Nat)) (f : LifSt → LifSt) : State := on (st r) (fun d => d.updLif f)

/-- A request 0x70 of the mailbox is at work. -/
def lreq (r : List (Fld × Nat × Nat)) (q : MbxReq) (f : LifSt → LifSt) : State := on (lif r f) (fun d => { d with mbx := { d.mbx with req := some q } })

/-- Domains 2 to 7 stand at `x`, and are ordered there. -/
def doms (x : Nat) (r : List (Fld × Nat × Nat)) (f : Dev → Dev) : State :=
  on (st ([(R.PWR_DOM_STAT_STATE, 0, x), (R.PWR_DOM, 0, x)] ++ r)) (fun d => f { d with boot := { d.boot with phase := .released } })

/-- Domain `pd` is in transition. -/
def goesTo (pd g old clk : Nat) (d : Dev) : Dev := d.updDom pd (fun c => { c with goal := some g, old := old, clk := clk })

/-- Sensor `i` stands so, and the block runs. -/
def sense (r : List (Fld × Nat × Nat)) (i : Nat) (x : SensorSt) : State :=
  on (st r) (fun d => ({ d with boot := { d.boot with phase := .released }, time := { d.time with clk := 500000 } } : Dev).setSensor i x)

/-- The block runs. -/
def live (r : List (Fld × Nat × Nat)) (f : Dev → Dev) : State :=
  on (st ([(R.PWR_DOM_STAT_STATE, 0, 0xAAA), (R.CLK_STAT_SPL, 0, 2)] ++ r)) (fun d => f { d with boot := { d.boot with phase := .released } })

/-- The block runs, the Monitor logs into the ring, and stands as `f` says. -/
def mon (r : List (Fld × Nat × Nat)) (f : MonSt → MonSt) : State :=
  on (st ([(R.PWR_DOM_STAT_STATE, 0, 0xAAA), (R.MON_CFG_LOG_EN, 0, 1), (R.MON_STAT_LOG_STOP, 0, 0)] ++ r)) (fun d =>
    { d with boot := { d.boot with phase := .released }, mon := f d.mon, time := { d.time with clk := 400000 } })

/-- A COUNTERS record whose numbers are all ones. -/
def rec7 : List Nat := (MonRec.mk 1 (2 ^ 32 - 1) (2 ^ 64 - 1) (List.replicate 172 255) false).bytes

/-- It stands at unit 0 of the ring. -/
def ring7 : SMap Byte := ((rec7.zipIdx).filter (fun p => p.1 != 255)).map (fun p => (0xC40000 + p.2, BitVec.ofNat 8 p.1))

/-- The log's records are first in the order of arrival. -/
def turn (s : State) : State := on s (fun d => { d with anole := [false, true, false] })

/-- The block is out of reset, and the layers of index 0x0141 hold the given values. -/
def layered (sv cv av : Nat) (r : List (Fld × Nat × Nat)) (f : Dev → Dev) : State :=
  on (st r) (fun d => f { d with boot := { d.boot with phase := .released }, regs := { d.regs with
    staged := smSet resetWord d.regs.staged 0x0141 (BitVec.ofNat 16 sv), committed := smSet resetWord d.regs.committed 0x0141 (BitVec.ofNat 16 cv),
    applied := smSet resetWord d.regs.applied 0x0141 (BitVec.ofNat 16 av) } })

/-- The header and the trailer of an image of 3,072 bytes in bank `b`, with the four bytes of its sequence number and of its header CRC. -/
def header (b : Nat) (seq crc : List Nat) : SMap Byte :=
  ([(0, 0x50), (1, 0x51), (2, 0x73), (3, 0x60), (4, 0), (5, 1), (6, 0), (7, 13), (8, seq.getD 0 0), (9, seq.getD 1 0), (10, seq.getD 2 0), (11, seq.getD 3 0),
    (12, 0), (13, 0), (14, 12), (15, 0), (0x18, 0x73), (0x19, 0x60), (0xFC, crc.getD 0 0), (0xFD, crc.getD 1 0), (0xFE, crc.getD 2 0), (0xFF, crc.getD 3 0),
    (3056, 0x60), (3057, 0x73), (3058, 0x51), (3059, 0x50), (3060, seq.getD 0 0), (3061, seq.getD 1 0), (3062, seq.getD 2 0), (3063, seq.getD 3 0)]).map
      (fun p => (0x400000 * b + p.1, BitVec.ofNat 8 p.2))

def image0 : SMap Byte :=
  [(0, 80), (1, 81), (2, 115), (3, 96), (4, 0), (5, 1), (6, 0), (7, 13), (8, 0), (9, 0), (10, 0), (11, 4), (12, 0), (13, 0), (14, 12), (15, 0), (24,
  115), (25, 96), (252, 45), (253, 68), (254, 231), (255, 87)]

def image1_0 : SMap Byte :=
  [(256, 1), (257, 0), (260, 0), (261, 0), (262, 4), (263, 0), (264, 0), (265, 0), (266, 0), (267, 48), (268, 172), (269, 242), (270, 174), (271, 82),
  (272, 1), (273, 1), (276, 0), (277, 0), (278, 5), (279, 0), (280, 0), (281, 0), (282, 0), (283, 48), (284, 145), (285, 67), (286, 66), (287, 142),
  (288, 1), (289, 2), (292, 0), (293, 0), (294, 6), (295, 0), (296, 0), (297, 0), (298, 0), (299, 48), (300, 215), (301, 145), (302, 119), (303, 234),
  (304, 1), (305, 3), (308, 0), (309, 0), (310, 7), (311, 0), (312, 0), (313, 0), (314, 0), (315, 48), (316, 234), (317, 32), (318, 155), (319, 54)]

def image1_1 : SMap Byte :=
  [(320, 1), (321, 4), (324, 0), (325, 0), (326, 8), (327, 0), (328, 0), (329, 0), (330, 0), (331, 48), (332, 90), (333, 53), (334, 29), (335, 34),
  (336, 1), (337, 5), (340, 0), (341, 0), (342, 9), (343, 0), (344, 0), (345, 0), (346, 0), (347, 48), (348, 103), (349, 132), (350, 241), (351, 254),
  (352, 1), (353, 6), (356, 0), (357, 0), (358, 10), (359, 0), (360, 0), (361, 0), (362, 0), (363, 48), (364, 33), (365, 86), (366, 196), (367, 154),
  (368, 2), (372, 0), (373, 0), (374, 4), (375, 0), (376, 0), (377, 0), (378, 0), (379, 0), (380, 0), (381, 0), (382, 0), (383, 0), (384, 3)]

def image1_2 : SMap Byte :=
  [(388, 0), (389, 0), (390, 4), (391, 0), (392, 0), (393, 0), (394, 0), (395, 0), (396, 0), (397, 0), (398, 0), (399, 0), (400, 4), (404, 0), (405, 0),
  (406, 4), (407, 0), (408, 0), (409, 0), (410, 0), (411, 0), (412, 0), (413, 0), (414, 0), (415, 0), (416, 5), (420, 0), (421, 0), (422, 4), (423, 0),
  (424, 0), (425, 0), (426, 0), (427, 0), (428, 0), (429, 0), (430, 0), (431, 0), (432, 6), (436, 0), (437, 0), (438, 4), (439, 0), (440, 0), (441, 0),
  (442, 0), (443, 0), (444, 0), (445, 0), (446, 0), (447, 0), (448, 7), (452, 0), (453, 0), (454, 4), (455, 0)]

def image1_3 : SMap Byte :=
  [(456, 0), (457, 0), (458, 0), (459, 0), (460, 0), (461, 0), (462, 0), (463, 0)]

def image4 : SMap Byte :=
  [(1024, 0), (1025, 0), (1026, 0), (1027, 3), (1028, 0), (1029, 9), (1032, 11), (1033, 1), (1056, 0), (1057, 0), (1058, 0), (1059, 0)]

def image5 : SMap Byte :=
  [(1280, 1), (1281, 0), (1282, 0), (1283, 3), (1284, 0), (1285, 9), (1288, 11), (1289, 1), (1312, 0), (1313, 0), (1314, 0), (1315, 0)]

def image6 : SMap Byte :=
  [(1536, 2), (1537, 0), (1538, 0), (1539, 3), (1540, 0), (1541, 9), (1544, 11), (1545, 1), (1568, 0), (1569, 0), (1570, 0), (1571, 0)]

def image7 : SMap Byte :=
  [(1792, 3), (1793, 0), (1794, 0), (1795, 3), (1796, 0), (1797, 9), (1800, 11), (1801, 1), (1824, 0), (1825, 0), (1826, 0), (1827, 0)]

def image8 : SMap Byte :=
  [(2048, 4), (2049, 0), (2050, 0), (2051, 3), (2052, 0), (2053, 9), (2056, 11), (2057, 1), (2080, 0), (2081, 0), (2082, 0), (2083, 0)]

def image9 : SMap Byte :=
  [(2304, 5), (2305, 0), (2306, 0), (2307, 3), (2308, 0), (2309, 9), (2312, 11), (2313, 1), (2336, 0), (2337, 0), (2338, 0), (2339, 0)]

def image10 : SMap Byte :=
  [(2560, 6), (2561, 0), (2562, 0), (2563, 3), (2564, 0), (2565, 9), (2568, 11), (2569, 1), (2592, 0), (2593, 0), (2594, 0), (2595, 0)]

def image11 : SMap Byte :=
  [(3056, 96), (3057, 115), (3058, 81), (3059, 80), (3060, 0), (3061, 0), (3062, 0), (3063, 4), (3064, 4), (3065, 22), (3066, 55), (3067, 67)]

/-- A whole valid image without configuration, in bank A: 3,072 bytes, sequence number 4. -/
def image : SMap Byte :=
  image0 ++ image1_0 ++ image1_1 ++ image1_2 ++ image1_3 ++ image4 ++ image5 ++ image6 ++ image7 ++ image8 ++ image9 ++ image10 ++ image11

/-- A boot that stands in phase `ph`, with the domains ON. -/
def boots (ph : BootPhase) (fl : SMap Byte) (r : List (Fld × Nat × Nat)) : State :=
  { on (st ([(R.PWR_DOM, 0, 0xAAA), (R.PWR_DOM_STAT_STATE, 0, 0xAAA)] ++ r)) (fun d => { d with boot := { d.boot with phase := ph } }) with flash := fl }

/-- A request of the mailbox is at work in mode `mode`, with a flash of 16 MiB. -/
def asking (mode : Nat) (q : MbxReq) : State :=
  on (st [(R.BOOT_STAT_MODE, 0, mode), (R.PWR_DOM_STAT_STATE, 0, 0xAAA)]) (fun d => { d with
    boot := { d.boot with phase := .released, sfdp := some ⟨0x1000000, true, true, none, none, 0⟩ }, mbx := { d.mbx with req := some q } })

/-- A request of the mailbox is at work in mode `mode`, with a flash of 16 MiB. -/
def asks (mode : Nat) (q : MbxReq) (fl : SMap Byte) : State :=
  { on (st [(R.BOOT_STAT_MODE, 0, mode), (R.BOOT_STAT_BANK, 0, 0), (R.PWR_DOM_STAT_STATE, 0, 0xAAA)]) (fun d => { d with
      boot := { d.boot with phase := .released, sfdp := some ⟨0x1000000, true, true, none, none, 0⟩ }, mbx := { d.mbx with req := some q } }) with flash := fl }

def loaded0 : SMap Byte :=
  [(0, 80), (1, 81), (2, 115), (3, 96), (5, 1), (7, 13), (11, 4), (14, 12), (24, 115), (25, 96), (252, 49), (253, 165), (254, 144), (255,
  102), (256, 1), (262, 4), (267, 48), (268, 180), (269, 182), (270, 239), (271, 150), (272, 1), (273, 1), (278, 5), (283, 48), (284, 137),
  (285, 7), (286, 3), (287, 74), (288, 1), (289, 2), (294, 6), (299, 48), (300, 207), (301, 213), (302, 54), (303, 46), (304, 1), (305, 3),
  (310, 7), (315, 48), (316, 242), (317, 100), (318, 218), (319, 242), (320, 1), (321, 4), (326, 8), (331, 48), (332, 66), (333, 113), (334,
  92), (335, 230), (336, 1), (337, 5), (342, 9), (347, 48), (348, 127), (349, 192), (350, 176), (351, 58), (352, 1), (353, 6), (358, 10),
  (363, 48), (364, 57), (365, 18), (366, 133), (367, 94), (368, 2), (374, 4), (384, 3), (390, 4), (400, 4), (406, 4), (416, 5), (422, 4),
  (432, 6), (438, 4), (448, 7), (454, 4), (1027, 3), (1029, 9), (1032, 11), (1033, 1), (1041, 1), (1043, 1), (1045, 1), (1047, 1), (1049,
  1)]

def loaded1 : SMap Byte :=
  [(1051, 1), (1053, 1), (1280, 1), (1283, 3), (1285, 9), (1288, 11), (1289, 1), (1297, 1), (1299, 1), (1301, 1), (1303, 1), (1305, 1),
  (1307, 1), (1309, 1), (1536, 2), (1539, 3), (1541, 9), (1544, 11), (1545, 1), (1553, 1), (1555, 1), (1557, 1), (1559, 1), (1561, 1),
  (1563, 1), (1565, 1), (1792, 3), (1795, 3), (1797, 9), (1800, 11), (1801, 1), (1809, 1), (1811, 1), (1813, 1), (1815, 1), (1817, 1),
  (1819, 1), (1821, 1), (2048, 4), (2051, 3), (2053, 9), (2056, 11), (2057, 1), (2065, 1), (2067, 1), (2069, 1), (2071, 1), (2073, 1),
  (2075, 1), (2077, 1), (2304, 5), (2307, 3), (2309, 9), (2312, 11), (2313, 1), (2321, 1), (2323, 1), (2325, 1), (2327, 1), (2329, 1),
  (2331, 1), (2333, 1), (2560, 6), (2563, 3), (2565, 9), (2568, 11), (2569, 1), (2577, 1), (2579, 1), (2581, 1), (2583, 1), (2585, 1),
  (2587, 1), (2589, 1), (3056, 96), (3057, 115), (3058, 81), (3059, 80), (3063, 4), (3064, 90), (3065, 2), (3066, 102), (3067, 182)]

/-- The same image in the Lilypad, where what is not written reads 0: 3,072 bytes, each class accepting generation 0 of the others. -/
def loaded : SMap Byte := loaded0 ++ loaded1

/-- The load end of that image is at work in mode 0b10. -/
def loads : State :=
  { on (st [(R.BOOT_STAT_MODE, 0, 2), (R.PWR_DOM, 0, 0xAAA), (R.PWR_DOM_STAT_STATE, 0, 0xAAA)]) (fun d => { d with
      boot := { d.boot with phase := .imgWait }, mbx := { d.mbx with req := some ⟨0x11, 9, 0xC00, []⟩ } }) with lily := loaded }

/-- Out of reset, with the host interface as `f` says. -/
def hif (r : List (Fld × Nat × Nat)) (f : BusSt → BusSt) : State :=
  on (st ([(R.HIF_STAT_ADDRESS, 0, 0x5A)] ++ r)) (fun d => { d with boot := { d.boot with phase := .released }, bus := f d.bus, time := { d.time with clk := 10000000 } })

/-- A write transaction at pointer `p`, with PEC as `pec` says. -/
def writing (p : Nat) (pec : Bool) (b : BusSt) : BusSt := { b with active := true, pointer := p, cfg := if pec then 0xB000 else 0x3000, crc := 0x42 }

/-- Out of reset on an idle bus, with the block as `f` says. -/
def calm (r : List (Fld × Nat × Nat)) (f : Dev → Dev) : State :=
  on (st ([(R.HIF_STAT_ADDRESS, 0, 0x5A)] ++ r)) (fun d => f { d with boot := { d.boot with phase := .released, sfdp := some ⟨0x1000000, true, true, none, none, 0⟩ } })
/-- An ERROR record whose numbers are all ones, at unit 0 of the ring. -/
def rec4 : List Nat := (MonRec.mk 4 (2 ^ 32 - 1) (2 ^ 64 - 1) (List.replicate 44 255) false).bytes
def ring4 : SMap Byte := ((rec4.zipIdx).filter (fun p => p.1 != 255)).map (fun p => (0xC40000 + p.2, BitVec.ofNat 8 p.1))

/-- A write transaction at SYS_EPOCH_CTRL, with PEC as `pec` says. -/
def ctrl (pec : Bool) (r : List (Fld × Nat × Nat)) : State :=
  on (st r) (fun d => { d with
    boot := { d.boot with phase := .released }
    bus := { d.bus with active := true, pointer := 4, cfg := if pec then 0x8000 else 0 }
    regs := { d.regs with staged := smSet resetWord d.regs.staged 0x0141 7, committed := smSet resetWord d.regs.committed 0x0141 8 } })

/-! ### Check values and encodings that the spec gives -/

/-- The ASCII string "123456789". -/
def digits : List Nat := [0x31, 0x32, 0x33, 0x34, 0x35, 0x36, 0x37, 0x38, 0x39]

/-- R60: the CRC-32 of "123456789" is 0xCBF43926. -/
theorem test_crc32_check_value : crc32 digits = 0xCBF43926 := by decide +kernel

/-- R334: the CRC-8 of "123456789" is 0xF4. -/
theorem test_crc8_check_value : crc8From 0 digits = 0xF4 := by decide +kernel

/-- R467: the CRC-16 of "123456789" is 0x29B1. -/
theorem test_crc16_check_value : crc16 digits = 0x29B1 := by decide +kernel

/-- R65: newer from 1 to 2^31 − 1 ahead, modulo 2^32; not when equal or exactly 2^31 apart. -/
theorem test_sequence_order :
    seqNewer 5 4 = true ∧ seqNewer 4 5 = false ∧ seqNewer 4 4 = false ∧ seqNewer 0 0xFFFFFFFF = true ∧ seqNewer 0x80000004 4 = false := by decide +kernel

/-- R520: the pointer wraps in its page of 32 registers. -/
theorem test_pointer_wraps : ptrNext 0x011F = 0x0100 ∧ ptrNext 0x0100 = 0x0101 := by decide +kernel

/-- R502, R505: 2100 has no leap day; 2000-01-01 was a Saturday, day 6 of the week, and 2024-02-29 a Thursday. -/
theorem test_calendar : monthDays 2024 2 = 29 ∧ monthDays 2100 2 = 28 ∧ monthDays 2400 2 = 29 ∧ monthDays 2025 12 = 31 ∧ weekday 2000 1 1 = 6 ∧ weekday 2024 2 29 = 4 := by decide +kernel

/-- R90: the epoch number goes on from 0xFFFF to 1. -/
theorem test_epoch_number_wraps : epochNext 0xFFFF = 1 ∧ epochNext 0 = 1 := by decide +kernel

/-- No row of the table gives bits. -/
theorem test_no_word_spells_a_command : decodeTableWord 16 0x1234 = none := by decide +kernel

/-! ### Reset and the step -/

/-- The block after reset is in the main reset, with the reset values of three registers as the spec lists them. -/
theorem test_reset_values : (State.reset.reg 0x0121).toNat = 3 ∧ (State.reset.reg 0x0188).toNat = 0x8000 ∧ (State.reset.reg 0x0160).toNat = 0xF000 := by decide +kernel

/-- A software reset by RESET_N: the command leaves the queue and cause 4 holds the reset. -/
theorem test_step_runs_front : (match step { State.reset with pending := [.resetNAssert 1000, .por] } with
    | .next t => decide (t.pending = [.por] ∧ t.dev.pwr.active = 16)
    | _ => false) = true := by decide +kernel

/-- The alert response sends the address 0x5A as 0xB4 (R534). -/
theorem test_alert_response_sends_address :
    (match exec (.alertResponse none) (hif [(R.HIF_EVT, 0, 1), (R.HIF_EVM_EN, 0, 3), (R.SYS_EVM_EN, 0, 0xFFFF)] id) with
     | .next t => t.dev.bus.out == [0xB4]
     | _ => false) = true := by decide +kernel

/-! ### The package -/

/-- The package has 529 balls; its 112 signal balls stand at different positions (R595, R596, R598). -/
theorem test_signal_balls : ballGrid.length = 529 ∧ signalBalls.length = 112 ∧ (signalBalls.map (·.pos)).Nodup ∧
    signalBalls.all (fun b => ballGrid.contains b.pos) = true := by decide +kernel

/-- The counts of the table of R598: the 69 supply balls stand apart from the signals, and 348 carry VSS. -/
theorem test_supply_balls :
    let free := ballGrid.filter (fun p => !signalBalls.any (fun b => b.pos == p))
    ([.vdd08, .vdda10, .vdda18, .vddAud, .cpvdd, .pvdd, .vddSlk, .vioH, .vioF, .vbat, .pgnd, .vss] : List Supply).map
      (fun v => (free.filter (fun p => supplyAt p == v)).length) = [24, 8, 8, 4, 2, 4, 4, 6, 4, 1, 4, 348] := by decide +kernel

/-- A is row 1, P row 14 and AD row 23 (R595). -/
theorem test_ball_rows : BallRow.A.number = 1 ∧ BallRow.P.number = 14 ∧ BallRow.AD.number = 23 := by decide +kernel

/-! ### Ill-formed commands are refused by the check -/

theorem test_wf_mailbox_block : (Instr.mailboxWrite 0 (List.replicate 256 0) none).wf = false := by decide +kernel
theorem test_wf_bulk_block : (Instr.pgtBulkWrite 0 (List.replicate 256 0) none).wf = false := by decide +kernel
theorem test_wf_sfdp : (Instr.romCheckRetry true (some ⟨0x1000000, false, false, none, none, 1⟩)).wf = false := by decide +kernel
theorem test_wf_sfdp_at_release : (Instr.resetRelease 0 0 true (some ⟨0x1000000, false, false, none, none, 1⟩)).wf = false := by decide +kernel
theorem test_wf_lane_group : (Instr.laneGroup 0 [1, 2, 3]).wf = false := by decide +kernel
theorem test_wf_estimation_window : (Instr.estimationWindow 0 0 0 [(0, 0, 0)]).wf = false := by decide +kernel
theorem test_wf_spectrum : (Instr.spectrumComplete 0 [[0]]).wf = false := by decide +kernel
theorem test_wf_boundary_indices : (Instr.contextBlockBoundary [{ n := 3 }, { n := 3 }] [] [] []).wf = false ∧
    (Instr.contextBlockBoundary [] [] [(41, 0)] []).wf = false ∧ (Instr.contextBlockBoundary [] [] [] [(8, [])]).wf = false := by decide +kernel
theorem test_wf_boundary_samples : (Instr.contextBlockBoundary [{ n := 3, a := [(0, 0)] }] [] [] []).wf = false ∧
    (Instr.contextBlockBoundary [] [{ n := 3 }] [] []).wf = false ∧ (Instr.contextBlockBoundary [{ n := 3, noiseA := 0 }] [] [] []).wf = false := by decide +kernel
theorem test_wf_fib : (Instr.fib 0 true (List.replicate 31 0) []).wf = false := by decide +kernel
theorem test_wf_cif : (Instr.cif 0 0 [{ n := 48, bits := [], ber := 0 }]).wf = false := by decide +kernel
theorem test_wf_audio_frame : (Instr.audioFrameDecode 0 { units := [] }).wf = false := by decide +kernel
theorem test_wf_fabric_frame : (Instr.fabricFrame {}).wf = false := by decide +kernel
theorem test_wf_port_frame : (Instr.portFrameStart 0 { din := List.replicate 33 0 }).wf = false := by decide +kernel
theorem test_wf_z_preamble : (Instr.zPreamble (List.replicate 23 0) (List.replicate 24 0)).wf = false := by decide +kernel
theorem test_wf_packet : (Instr.packetReceived (List.replicate 258 0) []).wf = false := by decide +kernel
theorem test_wf_packet_its : (Instr.packetReceived [] (List.replicate 9 0)).wf = false := by decide +kernel
theorem test_wf_local_transfer : (Instr.localTransferDone 0 (List.replicate 33 0)).wf = false := by decide +kernel
theorem test_wf_bus_clear : (Instr.busClearDone true (List.replicate 10 true) 0).wf = false := by decide +kernel
theorem test_wf_temp_reading : (Instr.tempReading [none, none, none]).wf = false := by decide +kernel
theorem test_wf_boundary_register : (Instr.boundaryRegisterUpdate (List.replicate 197 true)).wf = false := by decide +kernel
theorem test_wf_accepts : (Instr.mailboxWrite 7 (List.replicate 7 0) none).wf = true := by decide +kernel
theorem test_wf_accepts_boundary : (Instr.contextBlockBoundary [{ n := 3 }, { n := 255 }] [{ n := 1, z := List.replicate 48 (0, 0) }] [(40, 7)] [(7, [(1, 2)])]).wf = true :=
  by decide +kernel

/-! ### Witnesses: a state and operands that meet the hypotheses of each clause -/

theorem witness_AfePhantomSupply :
    (let s : State := late (st [(R.AFE_STAT_PH_STATE, 1, 1)]); let x : Fin 2 := 1; let a := s.dev.afeOf x; let clk := s.dev.time.clk; (s.dev.phState x = 1) ∧ (a.phClk + msCycles (s.dev.fget R.AFE_PH_CFG_SETTLE x) ≤ clk)) ∧
    (let s : State := late (st [(R.AFE_STAT_PH_STATE, 1, 5)]); let x : Fin 2 := 1; let a := s.dev.afeOf x; let clk := s.dev.time.clk; (s.dev.phState x = 5) ∧ (a.phClk + msCycles (100 * s.dev.fget R.AFE_PH_TIME_RETRY x) ≤ clk)) ∧
    (let s : State := st [(R.AFE_STAT_PH_STATE, 0, 4)]; let x : Fin 2 := 0; (s.dev.phState x = 4)) ∧
    (let s : State := st [(R.AFE_STAT_PH_STATE, 1, 3)]; let x : Fin 2 := 1; (s.dev.phState x ≠ 4)) ∧
    (let s : State := on (st []) (fun d => d.updAfe 1 (fun a => { a with closing := 1 })); let x : Fin 2 := 1; let mv : Nat := 1760; let a := s.dev.afeOf x; (s.dev.phState x = 0) ∧ (0 < a.closing) ∧ (1750 ≤ mv) ∧ (s.dev.fget R.AFE_PH_CFG_AUTO_OFF x = 1 ∨ a.armed = true)) ∧
    (let mv : Nat := 1749; (mv < 1750)) ∧
    (let s : State := st [(R.AFE_STAT_PH_STATE, 0, 1), (R.AFE_PH_CFG_AUTO_OFF, 0, 1)]; let x : Fin 2 := 0; let mv : Nat := 1750; (1750 ≤ mv) ∧ ((s.dev.phState x = 1 ∨ s.dev.phState x = 2 ∨ s.dev.phState x = 3)) ∧ (s.dev.fget R.AFE_PH_CFG_AUTO_OFF x = 1)) ∧
    (let s : State := st [(R.AFE_STAT_PH_STATE, 1, 2), (R.AFE_PH_CFG_AUTO_OFF, 1, 0)]; let x : Fin 2 := 1; let mv : Nat := 1800; (1750 ≤ mv) ∧ ((s.dev.phState x = 1 ∨ s.dev.phState x = 2 ∨ s.dev.phState x = 3)) ∧ (s.dev.fget R.AFE_PH_CFG_AUTO_OFF x ≠ 1) ∧ ((s.dev.afeOf x).armed = true)) ∧
    (let s : State := on (st [(R.AFE_STAT_PH_STATE, 1, 3), (R.AFE_PH_CFG_AUTO_OFF, 1, 0)]) (fun d => d.updAfe 1 (fun a => { a with armed := false })); let x : Fin 2 := 1; let mv : Nat := 1800; (1750 ≤ mv) ∧ ((s.dev.phState x = 1 ∨ s.dev.phState x = 2 ∨ s.dev.phState x = 3)) ∧ (s.dev.fget R.AFE_PH_CFG_AUTO_OFF x ≠ 1) ∧ ((s.dev.afeOf x).armed = false)) := by
  decide +kernel

theorem witness_AfePhantomAverage :
    (let s : State := on (st []) (fun d => d.updAfe 0 (fun a => { a with snsSum := 1000, snsN := 10 })); let x : Fin 2 := 0; let avg : Nat := 100; (10 ≤ (s.dev.afeOf x).snsN) ∧ (avg = divNear (s.dev.afeOf x).snsSum (s.dev.afeOf x).snsN) ∧ ((s.dev.afeOf x).closing = 0) ∧ (1 ≤ s.dev.fget R.AFE_PH_TIME_DEB x) ∧ (s.dev.phState x ≠ 2) ∧ (s.dev.phState x ≠ 3)) ∧
    (let s : State := on (st [(R.AFE_STAT_PH_STATE, 1, 2), (R.AFE_PH_TIME_DEB, 1, 3), (R.AFE_PH_TH_OL, 1, 2)]) (fun d => d.updAfe 1 (fun a => { a with snsSum := 100, snsN := 10, olRun := 2 })); let x : Fin 2 := 1; let avg : Nat := 10; let ol := s.dev.fget R.AFE_PH_TH_OL x * 8; let oc := s.dev.fget R.AFE_PH_TH_OC x * 8; let deb := s.dev.fget R.AFE_PH_TIME_DEB x; (10 ≤ (s.dev.afeOf x).snsN) ∧ (avg = divNear (s.dev.afeOf x).snsSum (s.dev.afeOf x).snsN) ∧ ((s.dev.afeOf x).closing = 0) ∧ (1 ≤ s.dev.fget R.AFE_PH_TIME_DEB x) ∧ (s.dev.phState x = 2) ∧ (avg < ol) ∧ (avg ≤ oc) ∧ (deb ≤ min ((s.dev.afeOf x).olRun + 1) 15)) ∧
    (let s : State := on (st [(R.AFE_STAT_PH_STATE, 0, 3), (R.AFE_PH_TIME_DEB, 0, 3), (R.AFE_PH_TH_OL, 0, 2), (R.AFE_PH_TH_OC, 0, 100)]) (fun d => d.updAfe 0 (fun a => { a with snsSum := 1000, snsN := 10, inRun := 15 })); let x : Fin 2 := 0; let avg : Nat := 100; let ol := s.dev.fget R.AFE_PH_TH_OL x * 8; let oc := s.dev.fget R.AFE_PH_TH_OC x * 8; let deb := s.dev.fget R.AFE_PH_TIME_DEB x; (10 ≤ (s.dev.afeOf x).snsN) ∧ (avg = divNear (s.dev.afeOf x).snsSum (s.dev.afeOf x).snsN) ∧ ((s.dev.afeOf x).closing = 0) ∧ (1 ≤ s.dev.fget R.AFE_PH_TIME_DEB x) ∧ (s.dev.phState x = 3) ∧ (ol ≤ avg) ∧ (avg ≤ oc) ∧ (deb ≤ min ((s.dev.afeOf x).inRun + 1) 15)) ∧
    (let s : State := on (st [(R.AFE_STAT_PH_STATE, 1, 3), (R.AFE_PH_TIME_DEB, 1, 1), (R.AFE_PH_TH_OL, 1, 2), (R.AFE_PH_TH_OC, 1, 100), (R.AFE_PH_CFG_AUTO_OFF, 1, 1)]) (fun d => d.updAfe 1 (fun a => { a with snsSum := 9000, snsN := 10 })); let x : Fin 2 := 1; let avg : Nat := 900; let oc := s.dev.fget R.AFE_PH_TH_OC x * 8; let deb := s.dev.fget R.AFE_PH_TIME_DEB x; (10 ≤ (s.dev.afeOf x).snsN) ∧ (avg = divNear (s.dev.afeOf x).snsSum (s.dev.afeOf x).snsN) ∧ ((s.dev.afeOf x).closing = 0) ∧ (1 ≤ s.dev.fget R.AFE_PH_TIME_DEB x) ∧ ((s.dev.phState x = 2 ∨ s.dev.phState x = 3)) ∧ (oc < avg) ∧ (deb ≤ min ((s.dev.afeOf x).ocRun + 1) 15) ∧ (s.dev.fget R.AFE_PH_CFG_AUTO_OFF x = 1)) ∧
    (let s : State := on (st [(R.AFE_STAT_PH_STATE, 1, 2), (R.AFE_PH_TIME_DEB, 1, 1), (R.AFE_PH_TH_OL, 1, 2), (R.AFE_PH_TH_OC, 1, 100), (R.AFE_PH_CFG_AUTO_OFF, 1, 0)]) (fun d => d.updAfe 1 (fun a => { a with snsSum := 9000, snsN := 10 })); let x : Fin 2 := 1; let avg : Nat := 900; let oc := s.dev.fget R.AFE_PH_TH_OC x * 8; let deb := s.dev.fget R.AFE_PH_TIME_DEB x; (10 ≤ (s.dev.afeOf x).snsN) ∧ (avg = divNear (s.dev.afeOf x).snsSum (s.dev.afeOf x).snsN) ∧ ((s.dev.afeOf x).closing = 0) ∧ (1 ≤ s.dev.fget R.AFE_PH_TIME_DEB x) ∧ ((s.dev.phState x = 2 ∨ s.dev.phState x = 3)) ∧ (oc < avg) ∧ (deb ≤ min ((s.dev.afeOf x).ocRun + 1) 15) ∧ (s.dev.fget R.AFE_PH_CFG_AUTO_OFF x ≠ 1) ∧ ((s.dev.afeOf x).armed = true)) := by
  decide +kernel

theorem witness_AfeGainControl :
    (let s : State := late (on (st [(R.CLK_STAT_SPL, 0, 2)]) (fun d => d.updAfe 1 (fun a => { a with attTarget := some (9, 5) }))); let x : Fin 2 := 1; let v : Nat := 9; let n : Nat := 5; let a := s.dev.afeOf x; let runs := s.dev.splStopped = false; let lg := s.dev.lg; let commit := (s.dev.bicOf x).commitAt; let noPend := (s.dev.bicOf x).pend = none; (runs) ∧ (a.attTarget = some (v, n)) ∧ (noPend) ∧ (commit ≠ some n) ∧ (n ≤ lg) ∧ (v < 32) ∧ (a.lnaTarget = none)) ∧
    (let s : State := on (st [(R.CLK_STAT_SPL, 0, 2)]) (fun d => { (d.updAfe 0 (fun a => { a with attTarget := some (9, 5) })).updBic 0 (fun b => { b with commitAt := some 5 }) with time := { d.time with clk := 16 } }); let x : Fin 2 := 0; let v : Nat := 9; let n : Nat := 5; let a := s.dev.afeOf x; let runs := s.dev.splStopped = false; let lg := s.dev.lg; let commit := (s.dev.bicOf x).commitAt; let noPend := (s.dev.bicOf x).pend = none; (runs) ∧ (a.attTarget = some (v, n)) ∧ (noPend) ∧ (commit = some n) ∧ (n = lg) ∧ (a.lnaTarget = none)) ∧
    (let s : State := late (on (st [(R.CLK_STAT_SPL, 0, 2), (R.AFE_CFG_LNA_MODE, 0, 1)]) (fun d => d.updAfe 0 (fun a => { a with lnaTarget := some 5 }))); let x : Fin 2 := 0; let n : Nat := 5; let a := s.dev.afeOf x; let runs := s.dev.splStopped = false; let lg := s.dev.lg; let commit := (s.dev.bicOf x).commitAt; let noPend := (s.dev.bicOf x).pend = none; (runs) ∧ (a.attTarget = none) ∧ (noPend) ∧ (commit ≠ some n) ∧ (a.lnaTarget = some n) ∧ (n ≤ lg)) ∧
    (let s : State := st []; (s.dev.splStopped = true)) ∧
    (let s : State := st []; (s.dev.splStopped = true)) ∧
    (let s : State := st []; (s.dev.splStopped = true)) ∧
    (let s : State := late (on (st [(R.CLK_STAT_SPL, 0, 2), (R.AFE_STAT_SAMPLING, 0, 1), (R.AFE_STAT_ATT, 0, 30)]) (fun d => d.updAfe 0 (fun a => { a with peak := 8000 }))); let x : Fin 2 := 0; let a := s.dev.afeOf x; let runs := s.dev.splStopped = false; let lg := s.dev.lg; let att := s.dev.fget R.AFE_STAT_ATT x; let hi := s.dev.fget R.AFE_ATT_LIM_MAX x; let due := runs ∧ a.peakAt + 1024 ≤ lg ∧ a.stepClk.all (fun k => decide (k + msCycles (s.dev.fget R.AFE_WGC_TIME_INTERVAL x) ≤ s.dev.time.clk)) = true ∧ a.attTarget = none ∧ a.blanked = false ∧ s.dev.blanking = false ∧ s.dev.fget R.AFE_STAT_ACQ x = 0 ∧ s.dev.fget R.AFE_STAT_SAMPLING x = 1; (due) ∧ (s.dev.wgcMode x = 0) ∧ (aboveDbfs a.peak (s.dev.fget R.AFE_WGC_TH_UP x) = true) ∧ (att < hi)) ∧
    (let s : State := late (on (st [(R.CLK_STAT_SPL, 0, 2), (R.AFE_STAT_SAMPLING, 1, 1), (R.AFE_STAT_ATT, 1, 5)]) (fun d => d.updAfe 1 (fun a => { a with peak := 3 }))); let x : Fin 2 := 1; let a := s.dev.afeOf x; let runs := s.dev.splStopped = false; let lg := s.dev.lg; let att := s.dev.fget R.AFE_STAT_ATT x; let lo := s.dev.fget R.AFE_ATT_LIM_MIN x; let due := runs ∧ a.peakAt + 1024 ≤ lg ∧ a.stepClk.all (fun k => decide (k + msCycles (s.dev.fget R.AFE_WGC_TIME_INTERVAL x) ≤ s.dev.time.clk)) = true ∧ a.attTarget = none ∧ a.blanked = false ∧ s.dev.blanking = false ∧ s.dev.fget R.AFE_STAT_ACQ x = 0 ∧ s.dev.fget R.AFE_STAT_SAMPLING x = 1; (due) ∧ (s.dev.wgcMode x ≠ 1) ∧ (aboveDbfs a.peak (s.dev.fget R.AFE_WGC_TH_UP x) = false) ∧ (aboveDbfs a.peak (s.dev.fget R.AFE_WGC_TH_DN x) = false) ∧ (10 ^ s.dev.fget R.AFE_WGC_TH_DN x * a.peak ^ 20 ≠ 8192 ^ 20) ∧ (a.lowClk + msCycles (10 * s.dev.fget R.AFE_WGC_TIME_HOLD x) ≤ s.dev.time.clk) ∧ (a.attacked = false) ∧ ((if s.dev.wgcMode x = 0 then lo else s.dev.attFloor x) < att)) ∧
    (let s : State := late (on (st [(R.CLK_STAT_SPL, 0, 2), (R.AFE_STAT_ACQ, 0, 1), (R.AFE_STAT_ATT, 0, 5)]) (fun d => d.updAfe 0 (fun a => { a with clips := 30 }))); let x : Fin 2 := 0; let a := s.dev.afeOf x; let runs := s.dev.splStopped = false; let lg := s.dev.lg; let live := s.dev.fget R.AFE_STAT_SAMPLING x = 1 ∨ s.dev.fget R.AFE_STAT_ACQ x = 1; (runs) ∧ (live) ∧ (a.ovlAt + 64 ≤ lg) ∧ (s.dev.fget R.AFE_OVL_CFG_CNT x ≤ a.clips)) ∧
    (let s : State := late (st [(R.CLK_STAT_SPL, 0, 2), (R.AFE_STAT_SAMPLING, 1, 1)]); let x : Fin 2 := 1; let a := s.dev.afeOf x; let runs := s.dev.splStopped = false; let lg := s.dev.lg; let live := s.dev.fget R.AFE_STAT_SAMPLING x = 1 ∨ s.dev.fget R.AFE_STAT_ACQ x = 1; (runs) ∧ (live) ∧ (a.ovlAt + 64 ≤ lg) ∧ (a.clips < s.dev.fget R.AFE_OVL_CFG_CNT x)) := by
  decide +kernel

theorem witness_AfeAcquisition :
    (let s : State := late (st [(R.PWR_DOM_STAT_STATE, 0, 0xAAA), (R.CLK_STAT_SPL, 0, 2)]); let x : Fin 2 := 0; let a := s.dev.afeOf x; let runs := s.dev.splStopped = false; let clk := s.dev.time.clk; (s.dev.domOn (2 + x) = true) ∧ (runs) ∧ (a.onClk + msCycles 2 ≤ clk) ∧ (s.dev.fget R.AFE_STAT_SAMPLING x = 0) ∧ (s.dev.fget R.AFE_STAT_ACQ x = 0) ∧ (s.dev.phState x ≠ 1) ∧ (s.dev.wgcMode x = 0)) ∧
    (let s : State := late (st [(R.PWR_DOM_STAT_STATE, 0, 0xAAA), (R.CLK_STAT_SPL, 0, 2), (R.AFE_CFG_WGC_MODE, 1, 1), (R.AFE_ATT_MAN_ATT, 1, 7)]); let x : Fin 2 := 1; let a := s.dev.afeOf x; let runs := s.dev.splStopped = false; let clk := s.dev.time.clk; (s.dev.domOn (2 + x) = true) ∧ (runs) ∧ (a.onClk + msCycles 2 ≤ clk) ∧ (s.dev.fget R.AFE_STAT_SAMPLING x = 0) ∧ (s.dev.fget R.AFE_STAT_ACQ x = 0) ∧ (s.dev.phState x ≠ 1) ∧ (s.dev.wgcMode x ≠ 0)) ∧
    (let s : State := st [(R.AFE_STAT_SAMPLING, 1, 1), (R.CLK_STAT_SPL, 0, 2)]; let x : Fin 2 := 1; let a := s.dev.afeOf x; let runs := s.dev.splStopped = false; (s.dev.fget R.AFE_STAT_SAMPLING x = 1) ∧ (s.dev.fget R.AFE_STAT_ACQ x = 0) ∧ (runs) ∧ (s.dev.wgcMode x = 0) ∧ (a.attTarget = none)) ∧
    (let s : State := st [(R.AFE_STAT_ACQ, 0, 1)]; let x : Fin 2 := 0; (s.dev.fget R.AFE_STAT_ACQ x = 1)) ∧
    (let s : State := late (on (st [(R.CLK_STAT_SPL, 0, 2), (R.AFE_STAT_SAMPLING, 0, 1), (R.AFE_STAT_ACQ, 0, 1)]) (fun d => d.updAfe 0 (fun a => { a with acqPeak := 1000, acqClk := some 7 }))); let x : Fin 2 := 0; let k : Nat := 7; let a := s.dev.afeOf x; let runs := s.dev.splStopped = false; let clk := s.dev.time.clk; let ended := s.dev.fget R.AFE_STAT_ACQ x = 1 ∧ runs ∧ a.acqClk = some k ∧ k + Config.sysPerMs ≤ clk; (ended) ∧ (a.starting = false) ∧ (a.attTarget = none) ∧ (s.dev.wgcMode x = 0)) ∧
    (let s : State := late (on (st [(R.CLK_STAT_SPL, 0, 2), (R.AFE_STAT_SAMPLING, 1, 1), (R.AFE_STAT_ACQ, 1, 1), (R.AFE_CFG_WGC_MODE, 1, 2)]) (fun d => d.updAfe 1 (fun a => { a with acqPeak := 1000, acqClk := some 7 }))); let x : Fin 2 := 1; let k : Nat := 7; let a := s.dev.afeOf x; let runs := s.dev.splStopped = false; let clk := s.dev.time.clk; let ended := s.dev.fget R.AFE_STAT_ACQ x = 1 ∧ runs ∧ a.acqClk = some k ∧ k + Config.sysPerMs ≤ clk; (ended) ∧ (a.starting = false) ∧ (a.attTarget = none) ∧ (s.dev.wgcMode x ≠ 0)) ∧
    (let s : State := late (on (st [(R.CLK_STAT_SPL, 0, 2), (R.AFE_STAT_ACQ, 1, 1)]) (fun d => d.updAfe 1 (fun a => { a with acqPeak := 1000, starting := true, acqClk := some 7 }))); let x : Fin 2 := 1; let k : Nat := 7; let a := s.dev.afeOf x; let runs := s.dev.splStopped = false; let clk := s.dev.time.clk; let ended := s.dev.fget R.AFE_STAT_ACQ x = 1 ∧ runs ∧ a.acqClk = some k ∧ k + Config.sysPerMs ≤ clk; (ended) ∧ (a.starting = true) ∧ (a.acqClip = false) ∧ (s.dev.wgcMode x = 0)) ∧
    (let s : State := st [(R.AFE_STAT_SAMPLING, 1, 1), (R.CLK_STAT_SPL, 0, 2)]; let x : Fin 2 := 1; let codes : List (BitVec 14) := [1,-5,8191,-8192,7,3,2,100]; let runs := s.dev.splStopped = false; (codes.length = 8) ∧ (s.dev.fget R.AFE_STAT_SAMPLING x = 1) ∧ (runs)) := by
  decide +kernel

theorem witness_BicWindow :
    (let s : State := late (cal 0 1 0 id); let x : Fin 2 := 0; let power : Int := (-1000); let flat : Byte := 200; let good := s.dev.bicPre x power flat.toNat = 0; (s.dev.bicEn x = true) ∧ (s.dev.fget R.AFE_STAT_SAMPLING x = 1) ∧ (s.dev.splStopped = false) ∧ ((s.dev.bicOf x).pend = none) ∧ ((s.dev.bicOf x).start + 2 ^ s.dev.fget R.BIC_CFG_WIN ≤ s.dev.lg) ∧ (¬ good)) ∧
    (let s : State := late (cal 1 1 0 id); let x : Fin 2 := 1; let power : Int := (-100); let flat : Byte := 200; let good := s.dev.bicPre x power flat.toNat = 0; (s.dev.bicEn x = true) ∧ (s.dev.fget R.AFE_STAT_SAMPLING x = 1) ∧ (s.dev.splStopped = false) ∧ ((s.dev.bicOf x).pend = none) ∧ ((s.dev.bicOf x).start + 2 ^ s.dev.fget R.BIC_CFG_WIN ≤ s.dev.lg) ∧ (good) ∧ (s.dev.bicState x ≠ 2) ∧ (s.dev.bicState x ≠ 4)) ∧
    (let s : State := late (cal 0 2 0 (fun b => { b with e1 := e1l 300 })); let x : Fin 2 := 0; let power : Int := (-100); let flat : Byte := 200; let est : List (Int × Int × Int) := est1; let e2 : List LaneCorr := balanced ((est.take 8).map (fun e => ⟨e.1, e.2.1, e.2.2⟩)); let good := s.dev.bicPre x power flat.toNat = 0; let pair := good ∧ s.dev.bicState x = 2; (s.dev.bicEn x = true) ∧ (s.dev.fget R.AFE_STAT_SAMPLING x = 1) ∧ (s.dev.splStopped = false) ∧ ((s.dev.bicOf x).pend = none) ∧ ((s.dev.bicOf x).start + 2 ^ s.dev.fget R.BIC_CFG_WIN ≤ s.dev.lg) ∧ (pair) ∧ (s.dev.bicAgree (s.dev.bicOf x).e1 e2 = false)) ∧
    (let s : State := late (cal 1 2 2047 (fun b => { b with e1 := e1l 1 })); let x : Fin 2 := 1; let power : Int := (-100); let flat : Byte := 200; let est : List (Int × Int × Int) := est1; let e2 : List LaneCorr := balanced ((est.take 8).map (fun e => ⟨e.1, e.2.1, e.2.2⟩)); let r := meanCorr (s.dev.bicOf x).e1 e2; let c := s.dev.bicCandidate x r; let good := s.dev.bicPre x power flat.toNat = 0; let pair := good ∧ s.dev.bicState x = 2; let agree := pair ∧ s.dev.bicAgree (s.dev.bicOf x).e1 e2 = true; (s.dev.bicEn x = true) ∧ (s.dev.fget R.AFE_STAT_SAMPLING x = 1) ∧ (s.dev.splStopped = false) ∧ ((s.dev.bicOf x).pend = none) ∧ ((s.dev.bicOf x).start + 2 ^ s.dev.fget R.BIC_CFG_WIN ≤ s.dev.lg) ∧ (agree) ∧ (inRange c = false)) ∧
    (let s : State := late (on (cal 1 2 0 (fun b => { b with e1 := e1l 1 })) (fun d => (st [(R.BIC_TOL2_IMG_MIN, 0, 20)]).dev |> fun e => { d with regs := { d.regs with applied := e.regs.applied ++ d.regs.applied } })); let x : Fin 2 := 1; let power : Int := (-100); let flat : Byte := 200; let est : List (Int × Int × Int) := est1; let e2 : List LaneCorr := balanced ((est.take 8).map (fun e => ⟨e.1, e.2.1, e.2.2⟩)); let r := meanCorr (s.dev.bicOf x).e1 e2; let c := s.dev.bicCandidate x r; let m := s.dev.fget R.BIC_TOL2_IMG_MIN; let need := aboveTenTo (imgNum r) imgDen (-(m : Int)) 10 || aboveTenTo (ofsNum r) ofsDen (-(m + 20 : Nat)) 10; let good := s.dev.bicPre x power flat.toNat = 0; let pair := good ∧ s.dev.bicState x = 2; let agree := pair ∧ s.dev.bicAgree (s.dev.bicOf x).e1 e2 = true; (s.dev.bicEn x = true) ∧ (s.dev.fget R.AFE_STAT_SAMPLING x = 1) ∧ (s.dev.splStopped = false) ∧ ((s.dev.bicOf x).pend = none) ∧ ((s.dev.bicOf x).start + 2 ^ s.dev.fget R.BIC_CFG_WIN ≤ s.dev.lg) ∧ (agree) ∧ (inRange c = true) ∧ (need = false)) ∧
    (let s : State := late (on (cal 0 2 0 (fun b => { b with e1 := e1l 1 })) (fun d => (st [(R.BIC_TOL2_IMG_MIN, 0, 80)]).dev |> fun e => { d with regs := { d.regs with applied := e.regs.applied ++ d.regs.applied } })); let x : Fin 2 := 0; let power : Int := (-100); let flat : Byte := 200; let est : List (Int × Int × Int) := est1; let e2 : List LaneCorr := balanced ((est.take 8).map (fun e => ⟨e.1, e.2.1, e.2.2⟩)); let r := meanCorr (s.dev.bicOf x).e1 e2; let c := s.dev.bicCandidate x r; let m := s.dev.fget R.BIC_TOL2_IMG_MIN; let need := aboveTenTo (imgNum r) imgDen (-(m : Int)) 10 || aboveTenTo (ofsNum r) ofsDen (-(m + 20 : Nat)) 10; let good := s.dev.bicPre x power flat.toNat = 0; let pair := good ∧ s.dev.bicState x = 2; let agree := pair ∧ s.dev.bicAgree (s.dev.bicOf x).e1 e2 = true; (s.dev.bicEn x = true) ∧ (s.dev.fget R.AFE_STAT_SAMPLING x = 1) ∧ (s.dev.splStopped = false) ∧ ((s.dev.bicOf x).pend = none) ∧ ((s.dev.bicOf x).start + 2 ^ s.dev.fget R.BIC_CFG_WIN ≤ s.dev.lg) ∧ (agree) ∧ (inRange c = true) ∧ (need = true) ∧ (s.dev.fget R.BIC_CFG_COMMIT ≠ 2)) ∧
    (let s : State := late (cal 0 4 0 id); let x : Fin 2 := 0; let power : Int := (-100); let flat : Byte := 200; let est : List (Int × Int × Int) := est2; let e2 : List LaneCorr := balanced ((est.take 8).map (fun e => ⟨e.1, e.2.1, e.2.2⟩)); let good := s.dev.bicPre x power flat.toNat = 0; (s.dev.bicEn x = true) ∧ (s.dev.fget R.AFE_STAT_SAMPLING x = 1) ∧ (s.dev.splStopped = false) ∧ ((s.dev.bicOf x).pend = none) ∧ ((s.dev.bicOf x).start + 2 ^ s.dev.fget R.BIC_CFG_WIN ≤ s.dev.lg) ∧ (good) ∧ (s.dev.bicState x = 4) ∧ ((s.dev.bicOf x).img < imgNum e2) ∧ (s.dev.fget R.BIC_CFG_COMMIT ≠ 2)) ∧
    (let s : State := late (cal 1 4 0 (fun b => { b with img := 10 ^ 60 })); let x : Fin 2 := 1; let power : Int := (-100); let flat : Byte := 200; let est : List (Int × Int × Int) := est1; let e2 : List LaneCorr := balanced ((est.take 8).map (fun e => ⟨e.1, e.2.1, e.2.2⟩)); let good := s.dev.bicPre x power flat.toNat = 0; (s.dev.bicEn x = true) ∧ (s.dev.fget R.AFE_STAT_SAMPLING x = 1) ∧ (s.dev.splStopped = false) ∧ ((s.dev.bicOf x).pend = none) ∧ ((s.dev.bicOf x).start + 2 ^ s.dev.fget R.BIC_CFG_WIN ≤ s.dev.lg) ∧ (good) ∧ (s.dev.bicState x = 4) ∧ (imgNum e2 ≤ (s.dev.bicOf x).img)) := by
  decide +kernel

theorem witness_BicCommitAndControl :
    (let s : State := late (cal 1 3 0 (fun b => { b with pend := some (⟨some (e1l 0), false, some 5, 1000, 3, 3, 0, 17, 2⟩) })); let x : Fin 2 := 1; let p : BicPend := (⟨some (e1l 0), false, some 5, 1000, 3, 3, 0, 17, 2⟩); let n : Nat := 5; let runs := s.dev.splStopped = false; let waits := (s.dev.bicOf x).pend = some p; (runs) ∧ (waits) ∧ (p.target = some n) ∧ (n ≤ s.dev.lg)) ∧
    (let s : State := late (cal 1 3 0 (fun b => { b with pend := some (⟨some (e1l 0), false, none, 1000, 3, 3, 0, 17, 2⟩) })); let x : Fin 2 := 1; let p : BicPend := (⟨some (e1l 0), false, none, 1000, 3, 3, 0, 17, 2⟩); let n : Nat := 5; let waits := (s.dev.bicOf x).pend = some p; (waits) ∧ (p.target = none ∨ p.target = some n ∧ s.dev.lg < n ∨ s.dev.splStopped = true)) ∧
    (let s : State := late (cal 1 3 0 (fun b => { b with pend := some (⟨some (e1l 0), true, none, 1000, 3, 3, 0, 17, 2⟩) })); let x : Fin 2 := 1; let p : BicPend := (⟨some (e1l 0), true, none, 1000, 3, 3, 0, 17, 2⟩); let n : Nat := 5; let runs := s.dev.splStopped = false; let waits := (s.dev.bicOf x).pend = some p; let meets (n : Nat) := s.dev.lgClk n ≤ p.clk + p.tmo; let elapsed := p.clk + p.tmo ≤ s.dev.time.clk; (runs) ∧ (waits) ∧ (p.null = true) ∧ (elapsed) ∧ (p.target = none ∨ p.target = some n ∧ ¬ meets n)) ∧
    (let s : State := late (cal 1 3 0 (fun b => { b with pend := some (⟨some (e1l 0), true, some 5, 1000, 3, 3, 0, 17, 2⟩) })); let x : Fin 2 := 1; let p : BicPend := (⟨some (e1l 0), true, some 5, 1000, 3, 3, 0, 17, 2⟩); let n : Nat := 5; let waits := (s.dev.bicOf x).pend = some p; let meets (n : Nat) := s.dev.lgClk n ≤ p.clk + p.tmo; let elapsed := p.clk + p.tmo ≤ s.dev.time.clk; (waits) ∧ (p.null = true) ∧ (p.target = some n ∧ meets n ∨ ¬ elapsed ∨ s.dev.splStopped = true)) ∧
    (let s : State := cal 1 1 0 id; (s.dev.fget R.BIC_CFG_COMMIT ≠ 2)) ∧
    (let s : State := st [(R.BIC_CFG_COMMIT, 0, 2)]; (s.dev.fget R.BIC_CFG_COMMIT = 2)) ∧
    (let s : State := cal 1 2 0 id; let x : Fin 2 := 1; (s.dev.bicState x = 1 ∨ s.dev.bicState x = 2 ∨ s.dev.bicState x = 4)) ∧
    (let s : State := cal 0 3 0 id; let x : Fin 2 := 0; (s.dev.bicState x = 0 ∨ s.dev.bicState x = 3)) := by
  decide +kernel

theorem witness_BicJournal :
    (let s : State := jnlAt 0 0 true none; (s.dev.jnl.dirty = true) ∧ (s.dev.fget R.BIC_JNL_STAT_STOPPED ≠ 1) ∧ (s.dev.jnl.last.all (fun c => decide (s.dev.fget R.BIC_JNL_MIN_INT * 60 * Config.sysPerSecond ≤ s.dev.since c)) = true)) ∧
    (let s : State := on (jnlAt 0 0 true none) (fun d => { d with anole := [false] }); (s.dev.anole.head? = some false ∨ s.dev.flashBusy = true)) ∧
    (let s : State := jnlAt 0 0 true (some 0); (s.dev.jnl.last.any (fun c => decide (s.dev.since c < s.dev.fget R.BIC_JNL_MIN_INT * 60 * Config.sysPerSecond)) = true)) ∧
    (let s : State := jnlAt 0 0 false none; let r : JnlRec := jnlRec; let rest : List JnlRec := [jnlRec]; let pos := s.dev.jnl.pos; let free := s.dev.fget R.BIC_JNL_STAT_STOPPED ≠ 1 ∧ s.dev.jnl.queue = r :: rest ∧ s.dev.anole.head? = some true ∧ s.dev.flashBusy = false; (free) ∧ (pos < 512)) ∧
    (let s : State := jnlAt 1 512 false none; let r : JnlRec := jnlRec; let rest : List JnlRec := [jnlRec]; let pos := s.dev.jnl.pos; let free := s.dev.fget R.BIC_JNL_STAT_STOPPED ≠ 1 ∧ s.dev.jnl.queue = r :: rest ∧ s.dev.anole.head? = some true ∧ s.dev.flashBusy = false; (free) ∧ (pos = 512)) ∧
    (let s : State := jnlAt 0 512 false none; let r : JnlRec := jnlRec; let rest : List JnlRec := [jnlRec]; let pos := s.dev.jnl.pos; let free := s.dev.fget R.BIC_JNL_STAT_STOPPED ≠ 1 ∧ s.dev.jnl.queue = r :: rest ∧ s.dev.anole.head? = some true ∧ s.dev.flashBusy = false; (free) ∧ (pos = 512)) := by
  decide +kernel

theorem witness_ThermalShedding :
    (let s : State := warm 1000 3 3; let n : Nat := 0; let may := ctxAll (fun pool n => s.dev.ctxState pool n != 0 && !s.dev.ctxShed pool n && s.dev.ctxState pool n != 4 && (s.dev.ctxManaged pool n || decide (s.dev.ctxPrio pool n < s.dev.fget R.CHN_SHED_KEEP))); let h := s.dev.shed; let clk := s.dev.time.clk; let gap := msCycles (10 * s.dev.fget R.CHN_SHED_TIME_STEP); let due := s.dev.hotShed = true ∧ (h.stepClk = 0 ∨ h.stepClk - 1 + gap ≤ clk); (due) ∧ (may ≠ []) ∧ ((s.dev.ctx.all (fun e => !(e.2.managed && !e.2.granted))) = true)) ∧
    (let s : State := on (warm 1000 3 3) (fun d => d.updCtx 0 7 (fun c => { c with managed := true, freq := 98500 })); let pool' : Fin 5 := 0; let n : Nat := 7; let may := ctxAll (fun pool n => s.dev.ctxState pool n != 0 && !s.dev.ctxShed pool n && s.dev.ctxState pool n != 4 && (s.dev.ctxManaged pool n || decide (s.dev.ctxPrio pool n < s.dev.fget R.CHN_SHED_KEEP))); let h := s.dev.shed; let clk := s.dev.time.clk; let gap := msCycles (10 * s.dev.fget R.CHN_SHED_TIME_STEP); let due := s.dev.hotShed = true ∧ (h.stepClk = 0 ∨ h.stepClk - 1 + gap ≤ clk); let fresh (pool n : Nat) := s.dev.ctxManaged pool n = true ∧ (s.dev.ctxOf pool n).granted = false; (due) ∧ (may ≠ []) ∧ (pool'.val ≠ 3) ∧ (n < poolSize pool') ∧ (fresh pool' n)) ∧
    (let s : State := warm 1000 0 4; let n : Nat := 0; let may := ctxAll (fun pool n => s.dev.ctxState pool n != 0 && !s.dev.ctxShed pool n && s.dev.ctxState pool n != 4 && (s.dev.ctxManaged pool n || decide (s.dev.ctxPrio pool n < s.dev.fget R.CHN_SHED_KEEP))); let h := s.dev.shed; let clk := s.dev.time.clk; let gap := msCycles (10 * s.dev.fget R.CHN_SHED_TIME_STEP); let due := s.dev.hotShed = true ∧ (h.stepClk = 0 ∨ h.stepClk - 1 + gap ≤ clk); (due) ∧ (may = [])) ∧
    (let s : State := on (warm 1000 3 3) (fun d => { d with shed := { stepClk := 1 } }); let h := s.dev.shed; let clk := s.dev.time.clk; let gap := msCycles (10 * s.dev.fget R.CHN_SHED_TIME_STEP); (s.dev.hotShed = true) ∧ (h.stepClk ≠ 0) ∧ (clk < h.stepClk - 1 + gap)) ∧
    (let s : State := late (on (warm 500 4 4) (fun d => { d with shed := { coolClk := 1 } })); let n : Nat := 0; let shed := ctxAll (fun pool n => s.dev.ctxState pool n == 4 && !(s.dev.ctxOf pool n).resume); let h := s.dev.shed; let clk := s.dev.time.clk; let gap := msCycles (10 * s.dev.fget R.CHN_SHED_TIME_STEP); let cool := s.dev.coolResume = true ∧ h.coolClk ≠ 0 ∧ h.coolClk - 1 + msCycles (1000 * s.dev.fget R.CHN_SHED_TIME_RESUME) ≤ clk ∧ (h.resumeClk = 0 ∨ h.resumeClk - 1 + gap ≤ clk); (cool) ∧ (shed ≠ [])) := by
  decide +kernel

theorem witness_ManagedContexts :
    (let s : State := mgd7; let g : MgdTarget := (.fm 98500); let n : Fin 256 := 7; let found : Option Nat := match g with | .fm f => s.dev.receiving 0 f | .am f => s.dev.receiving 1 f | .dbe b => s.dev.receiving 2 b | .dsc b sc => s.dev.dscNaming b sc; (found = some n.val)) ∧
    (let s : State := warm 1000 3 4; let g : MgdTarget := (.fm 98500); let pool : Nat := match g with | .fm _ => 0 | .am _ => 1 | .dbe _ => 2 | .dsc _ _ => 4; let found : Option Nat := match g with | .fm f => s.dev.receiving 0 f | .am f => s.dev.receiving 1 f | .dbe b => s.dev.receiving 2 b | .dsc b sc => s.dev.dscNaming b sc; let free : Option Nat := s.dev.mgdFree pool (match g with | .dbe b => some b.val | _ => none); let barred := s.dev.anyShed = true ∨ s.dev.managedLimit pool ≤ s.dev.managedCount pool ∨ free = none; (found = none) ∧ (barred)) ∧
    (let s : State := st [(R.CHN_MGD_FM_LIM, 0, 8)]; let g : MgdTarget := (.fm 98500); let n : Fin 256 := 255; let pool : Nat := match g with | .fm _ => 0 | .am _ => 1 | .dbe _ => 2 | .dsc _ _ => 4; let found : Option Nat := match g with | .fm f => s.dev.receiving 0 f | .am f => s.dev.receiving 1 f | .dbe b => s.dev.receiving 2 b | .dsc b sc => s.dev.dscNaming b sc; let free : Option Nat := s.dev.mgdFree pool (match g with | .dbe b => some b.val | _ => none); let barred := s.dev.anyShed = true ∨ s.dev.managedLimit pool ≤ s.dev.managedCount pool ∨ free = none; (found = none) ∧ (¬ barred) ∧ (free = some n.val)) ∧
    (let s : State := late mgd7; let n : Fin 256 := 7; let pool' : Fin 5 := 0; let linger := (s.dev.ctxOf pool' n).freeClk - 1 + msCycles (1000 * s.dev.fget R.CHN_MGD_TIME_LINGER); (s.dev.ctxManaged pool' n = true) ∧ ((s.dev.ctxOf pool' n).holders = []) ∧ ((s.dev.ctxOf pool' n).freeClk ≠ 0) ∧ (linger ≤ s.dev.time.clk)) ∧
    (let s : State := mgd7; let n : Fin 256 := 7; let pool' : Fin 5 := 0; (s.dev.ctxManaged pool' n = true)) ∧
    (let s : State := on mgd7 (fun d => d.updCtx 0 7 (fun c => { c with holders := [4] })); let n : Fin 256 := 7; let pool' : Fin 5 := 0; let linger := (s.dev.ctxOf pool' n).freeClk - 1 + msCycles (1000 * s.dev.fget R.CHN_MGD_TIME_LINGER); (s.dev.ctxManaged pool' n = true) ∧ ((s.dev.ctxOf pool' n).holders ≠ [] ∨ s.dev.time.clk < linger)) ∧
    (let s : State := mgd7; let n : Fin 256 := 8; let pool' : Fin 5 := 0; (s.dev.ctxManaged pool' n = false)) := by
  decide +kernel

theorem witness_ContextAndSpectrumViews :
    (let s : State := late (scan 1 0 (fun c => c)); let x : Fin 2 := 1; let sc := s.dev.scnOf x; let period := msCycles (100 * s.dev.fget R.SCN_PERIOD_PERIOD); let scanning := s.dev.fbit (ofInput x R.SCN_CFG_EN_A R.SCN_CFG_EN_B) = true ∧ s.dev.fget R.AFE_STAT_SAMPLING x = 1 ∧ s.dev.domOn 4 = true ∧ s.dev.splStopped = false ∧ sc.start + period ≤ s.dev.time.clk; (scanning)) := by
  decide +kernel

theorem witness_PacketsAreStoredOrDropped :
    (let s : State := port [] [] none [req 1 2 30]; let p : PktReq := (req 1 2 30); let rest : List PktReq := []; let within := s.dev.genUsed + p.len + 2 ≤ s.dev.fget R.FSP_WM_WM (p.cls - 1) * 256; (takeFirst s.dev.fsp.formed = some (p, rest)) ∧ (1 ≤ p.cls) ∧ (p.cls ≤ 6) ∧ (within)) ∧
    (let s : State := port [(R.FSP_WM_WM, 5, 2)] [pkt 3 1 511] none [req 6 1 0]; let p : PktReq := (req 6 1 0); let rest : List PktReq := []; let within := s.dev.genUsed + p.len + 2 ≤ s.dev.fget R.FSP_WM_WM (p.cls - 1) * 256; (takeFirst s.dev.fsp.formed = some (p, rest)) ∧ (1 ≤ p.cls) ∧ (p.cls ≤ 6) ∧ (¬ within)) ∧
    (let s : State := port [] [pkt 3 1 511] none [req 0 0 0]; let p : PktReq := (req 0 0 0); let rest : List PktReq := []; let res := min 2 (resBlocksAll - s.dev.resUsed); let room := 2 - res ≤ genBlocksAll - s.dev.genUsed; (takeFirst s.dev.fsp.formed = some (p, rest)) ∧ (p.cls = 0) ∧ (s.dev.fsp.deferred = 0) ∧ (room)) ∧
    (let s : State := port [] [⟨0, 0, 1, 5, false, false, 0, [], 4096, 126976, false⟩] none [req 0 0 0]; let p : PktReq := (req 0 0 0); let rest : List PktReq := []; let res := min 2 (resBlocksAll - s.dev.resUsed); let room := 2 - res ≤ genBlocksAll - s.dev.genUsed; (takeFirst s.dev.fsp.formed = some (p, rest)) ∧ (p.cls = 0) ∧ (¬ room)) := by
  decide +kernel

theorem witness_FersonPortOnTheWire :
    (let s : State := late (port [] [pkt 1 1 2, pkt 0 3 0, pkt 0 4 0] (some (pkt 2 1 2)) []); let p : Packet := (pkt 0 3 0); let i := nextIdx s.dev.fsp.head s.dev.fsp.stored; let live := s.dev.fget R.FSP_STAT_RUN = 1 ∧ s.dev.fget R.FSP_STAT_STOPPED = 0 ∧ s.dev.splStopped = false ∧ s.dev.fsp.wire.length + 2 ≤ s.dev.fspOut; (live) ∧ (s.dev.fget R.FSP_CFG_EN = 1) ∧ (s.dev.fsp.stored[i]? = some p)) ∧
    (let s : State := late (port [] [pkt 1 1 2] none []); let p : Packet := (pkt 1 1 2); let i := nextIdx s.dev.fsp.head s.dev.fsp.stored; let live := s.dev.fget R.FSP_STAT_RUN = 1 ∧ s.dev.fget R.FSP_STAT_STOPPED = 0 ∧ s.dev.splStopped = false ∧ s.dev.fsp.wire.length + 2 ≤ s.dev.fspOut; (live) ∧ (s.dev.fget R.FSP_CFG_EN = 1) ∧ (s.dev.fsp.stored[i]? = some p)) ∧
    (let s : State := late (port [] [pkt 1 1 2] none []); let p : Packet := (pkt 1 1 2); let i := nextIdx s.dev.fsp.head s.dev.fsp.stored; let live := s.dev.fget R.FSP_STAT_RUN = 1 ∧ s.dev.fget R.FSP_STAT_STOPPED = 0 ∧ s.dev.splStopped = false ∧ s.dev.fsp.wire.length + 2 ≤ s.dev.fspOut; (live) ∧ (s.dev.fget R.FSP_CFG_EN = 1) ∧ (s.dev.fsp.stored[i]? = some p)) ∧
    (let s : State := late (port [] [] (some (pkt 1 1 2)) []); let live := s.dev.fget R.FSP_STAT_RUN = 1 ∧ s.dev.fget R.FSP_STAT_STOPPED = 0 ∧ s.dev.splStopped = false ∧ s.dev.fsp.wire.length + 2 ≤ s.dev.fspOut; (live) ∧ (s.dev.fget R.FSP_CFG_EN = 1) ∧ (s.dev.fsp.stored = [])) ∧
    (let s : State := port [] [] none []; (s.dev.fget R.FSP_STAT_RUN = 1) ∧ (s.dev.fget R.FSP_CFG_EN = 1)) ∧
    (let s : State := onWire 40; (s.dev.fget R.FSP_STAT_RUN = 1) ∧ (s.dev.fget R.FSP_STAT_STOPPED = 0) ∧ (s.dev.fget R.FSP_CFG_EN = 1)) ∧
    (let s : State := port [(R.FSP_CFG_EN, 0, 0)] [pkt 3 1 2] (some (pkt 1 1 2)) []; (s.dev.fget R.FSP_STAT_RUN = 1) ∧ (s.dev.fget R.FSP_CFG_EN ≠ 1)) ∧
    (let s : State := late (port [(R.FSP_CFG_DIV, 0, 2)] [pkt 1 1 2, pkt 2 3 0] none []); let p : Packet := (pkt 1 1 2); let i := nextIdx s.dev.fsp.head s.dev.fsp.stored; let live := s.dev.fget R.FSP_STAT_RUN = 1 ∧ s.dev.fget R.FSP_STAT_STOPPED = 0 ∧ s.dev.splStopped = false ∧ s.dev.fsp.wire.length + 2 ≤ s.dev.fspOut; (live) ∧ (s.dev.fget R.FSP_CFG_EN = 1) ∧ (s.dev.fsp.stored[i]? = some p)) ∧
    (let s : State := onWire 40; let out := s.dev.fspOut; let bytes := s.dev.fsp.wire.length; (s.dev.fget R.FSP_STAT_STOPPED = 1 ∨ s.dev.splStopped = true ∨ out < bytes + 2)) ∧
    (let s : State := port [(R.FSP_STAT_RUN, 0, 0)] [] none []; (s.dev.fget R.FSP_STAT_RUN = 0)) ∧
    (let s : State := port [(R.FSP_STAT_STOPPED, 0, 1), (R.FSP_STALL_TH_TH, 0, 9)] [] none []; let len := s.dev.time.clk - s.dev.fsp.stopClk; let up := s.dev.fget R.FSP_STAT_RUN = 1 ∧ s.dev.fget R.FSP_STAT_STOPPED = 1 ∧ s.dev.splStopped = false ∧ s.dev.domOn 4 = true; let long := s.dev.fget R.FSP_STALL_TH_TH * 294912 ≤ len; (up) ∧ (¬ long)) ∧
    (let s : State := on (port [(R.FSP_STAT_STOPPED, 0, 1), (R.FSP_STALL_TH_TH, 0, 9)] [] none []) (fun d => { d with time := { d.time with clk := 294912 * 9 } }); let len := s.dev.time.clk - s.dev.fsp.stopClk; let up := s.dev.fget R.FSP_STAT_RUN = 1 ∧ s.dev.fget R.FSP_STAT_STOPPED = 1 ∧ s.dev.splStopped = false ∧ s.dev.domOn 4 = true; let long := s.dev.fget R.FSP_STALL_TH_TH * 294912 ≤ len; (up) ∧ (long)) ∧
    (let s : State := onWire 40; let room := 2 ≤ (resBlocksAll - s.dev.resUsed) + (genBlocksAll - s.dev.genUsed); (s.dev.fget R.FSP_STAT_RUN = 1) ∧ (s.dev.fsp.deferred = 0) ∧ (room)) ∧
    (let s : State := port [] [⟨0, 0, 1, 5, false, false, 0, [], 4096, 126976, false⟩] none []; let out := s.dev.fspOut; let bytes := s.dev.fsp.wire.length; let room := 2 ≤ (resBlocksAll - s.dev.resUsed) + (genBlocksAll - s.dev.genUsed); (s.dev.fget R.FSP_STAT_RUN = 1) ∧ (¬ (s.dev.fsp.transit.isSome = true ∧ bytes ≤ out)) ∧ (¬ room)) ∧
    (let s : State := port [(R.FSP_STAT_RUN, 0, 0)] [] none []; (s.dev.fget R.FSP_STAT_RUN = 0)) := by
  decide +kernel

theorem witness_FersonCountersAndHeartbeat :
    (let s : State := port [(R.FSP_SRC_HB, 0, 7)] [] none [req 1 1 1]; (s.dev.fget R.FSP_STAT_RUN = 1) ∧ (s.dev.fget R.FSP_SRC_HB ≠ 0) ∧ (s.dev.time.sec % s.dev.fget R.FSP_SRC_HB = 0) ∧ (s.dev.fsp.beat ≠ s.dev.time.sec + 1)) ∧
    (let s : State := on (port [(R.FSP_SENT_HI, 0, 1)] [] none []) (fun d => { d with fsp := { d.fsp with sent := 0x123456 }, boot := { d.boot with phase := .released } }); (s.dev.inReset = false ∧ s.dev.chainHeld = false ∧ s.dev.bus.dead = false)) := by
  decide +kernel

theorem witness_FmStatistics :
    (let s : State := fmAt 3 { devN := 50, devPeak := 90000, count := 4, bins := [(18, 3)], hist := [7] } [(R.CHN_FM_LIM_DEV, 0, 75)]; let n : Fin 256 := 9; let f := s.dev.fmOf n; let g := s.dev.grid; (g.dev = true) ∧ (50 ≤ f.devN)) ∧
    (let s : State := fmAt 3 { devPeak := 900, devN := 49 } []; let n : Fin 256 := 9; let f := s.dev.fmOf n; let g := s.dev.grid; (g.dev = true) ∧ (f.devN < 50) ∧ ((s.dev.ctxState 0 n = 0 → f.devLast = [] → f.devN ≠ 0))) ∧
    (let s : State := fmAt 0 { devPeak := 900 } []; let n : Fin 256 := 9; let f := s.dev.fmOf n; let g := s.dev.grid; (g.dev = true) ∧ (s.dev.ctxState 0 n = 0) ∧ (f.devLast = []) ∧ (f.devN = 0)) ∧
    (let s : State := on (fmAt 3 { devPeak := 900 } []) (fun d => { d with grid := {} }); let g := s.dev.grid; (g.dev = false)) ∧
    (let s : State := fmAt 3 { devPeak := 900, count := 3, bins := [(3, 2), (5, 1)], peak := some 275 } []; let n : Fin 256 := 9; let g := s.dev.grid; (g.period = true) ∧ (s.dev.ctxState 0 n = 3)) ∧
    (let s : State := on (fmAt 1 { hist := [4], count := 3, bins := [(3, 2), (5, 1)], peak := some 275 } []) (fun d => { d with grid := { period := true } }); let n : Fin 256 := 9; let g := s.dev.grid; (g.period = true) ∧ (g.clr = false) ∧ (s.dev.ctxState 0 n ≠ 3) ∧ (s.dev.ctxState 0 n ≠ 0)) ∧
    (let s : State := fmAt 0 { hist := [4], count := 3, bins := [(3, 2), (5, 1)], peak := some 275, mpxHist := [(3, 4)] } []; let n : Fin 256 := 255; let g := s.dev.grid; (g.period = true) ∧ (g.clr = true) ∧ (s.dev.ctxState 0 n = 0)) ∧
    (let s : State := on (fmAt 1 { hist := [4], count := 3 } []) (fun d => { d with grid := {} }); let g := s.dev.grid; (g.period = false)) := by
  decide +kernel

theorem witness_MeasurementWindowAndFlags :
    (let s : State := fmAt 3 { flags := 0x33 } [(R.CHN_FLAG_CTX_INDEX, 0, 9)]; (s.dev.fget R.CHN_FLAG_CTX_POOL = 0)) ∧
    (let s : State := on (st [(R.CHN_FLAG_CTX_INDEX, 0, 9), (R.CHN_FLAG_CTX_POOL, 0, 1)]) (fun d => d.updAm 9 (fun a => { a with flags := 0x93 })); (s.dev.fget R.CHN_FLAG_CTX_POOL ≠ 0)) := by
  decide +kernel

theorem witness_RdsBlocks :
    (let s : State := rdsAt 1 { pos := 1 }; let n : Fin 256 := 9; let off : RdsOffset := .b; let burst : Option Nat := (some 1); let r := s.dev.rdsOf n; let c := s.dev.rdsClass r.pos off burst; let synced := s.dev.fget R.RDS_STAT_SYNC n = 1 ∧ (off ≠ .e ∨ burst ≠ some 0 ∨ s.dev.rdsRbds n = false); let lost := s.dev.fget R.CHN_RDS_CFG_LOSS ≤ ((((c == 3) :: r.last50).take 50).filter id).length; (s.dev.rdsRuns n = true) ∧ (synced) ∧ (¬ lost) ∧ (r.pos ≠ 3)) ∧
    (let s : State := rdsAt 1 { pos := 3, blks := [blkw 1 0, blkw 2 0, blkw 3 1, {}] }; let n : Fin 256 := 9; let off : RdsOffset := .d; let burst : Option Nat := (some 1); let r := s.dev.rdsOf n; let c := s.dev.rdsClass r.pos off burst; let synced := s.dev.fget R.RDS_STAT_SYNC n = 1 ∧ (off ≠ .e ∨ burst ≠ some 0 ∨ s.dev.rdsRbds n = false); let lost := s.dev.fget R.CHN_RDS_CFG_LOSS ≤ ((((c == 3) :: r.last50).take 50).filter id).length; (s.dev.rdsRuns n = true) ∧ (synced) ∧ (¬ lost) ∧ (r.pos = 3)) ∧
    (let s : State := rdsAt 1 { pos := 0, piCand := some 0xD311, flags := 0 }; let n : Fin 256 := 9; let word : BitVec 16 := 0xD311; let off : RdsOffset := .a; let burst : Option Nat := (some 0); let r := s.dev.rdsOf n; let c := s.dev.rdsClass r.pos off burst; let synced := s.dev.fget R.RDS_STAT_SYNC n = 1 ∧ (off ≠ .e ∨ burst ≠ some 0 ∨ s.dev.rdsRbds n = false); let isPi := c ≠ 3 ∧ (r.pos = 0 ∨ (r.pos = 2 ∧ off = .c')); (s.dev.rdsRuns n = true) ∧ (synced) ∧ (isPi) ∧ (r.piCand = some word.toNat)) ∧
    (let s : State := rdsAt 1 { pos := 0, piCand := some 0xD312 }; let n : Fin 256 := 9; let word : BitVec 16 := 0xD311; let off : RdsOffset := .a; let burst : Option Nat := (some 0); let r := s.dev.rdsOf n; let c := s.dev.rdsClass r.pos off burst; let synced := s.dev.fget R.RDS_STAT_SYNC n = 1 ∧ (off ≠ .e ∨ burst ≠ some 0 ∨ s.dev.rdsRbds n = false); let isPi := c ≠ 3 ∧ (r.pos = 0 ∨ (r.pos = 2 ∧ off = .c')); (s.dev.rdsRuns n = true) ∧ (synced) ∧ (isPi) ∧ (r.piCand ≠ some word.toNat)) ∧
    (let s : State := rdsAt 1 { pos := 0, last50 := List.replicate 49 true }; let n : Fin 256 := 9; let off : RdsOffset := .a; let burst : Option Nat := none; let r := s.dev.rdsOf n; let c := s.dev.rdsClass r.pos off burst; let synced := s.dev.fget R.RDS_STAT_SYNC n = 1 ∧ (off ≠ .e ∨ burst ≠ some 0 ∨ s.dev.rdsRbds n = false); let lost := s.dev.fget R.CHN_RDS_CFG_LOSS ≤ ((((c == 3) :: r.last50).take 50).filter id).length; (s.dev.rdsRuns n = true) ∧ (synced) ∧ (lost)) ∧
    (let s : State := rdsAt 0 {}; let n : Fin 256 := 9; let off : RdsOffset := .b; let burst : Option Nat := (some 0); let r := s.dev.rdsOf n; (s.dev.rdsRuns n = true) ∧ (s.dev.fget R.RDS_STAT_SYNC n = 0) ∧ (off = .b) ∧ (burst = some 0) ∧ (r.seen = [])) ∧
    (let s : State := rdsAt 0 { seen := [(0, some 0, blkw 4 0, false)] }; let n : Fin 256 := 9; let off : RdsOffset := .b; let burst : Option Nat := (some 0); let bits : Nat := 26; let r := s.dev.rdsOf n; (s.dev.rdsRuns n = true) ∧ (s.dev.fget R.RDS_STAT_SYNC n = 0) ∧ (off = .b) ∧ (burst = some 0) ∧ (bits = 26) ∧ ((r.seen.map (fun e => (e.1, e.2.1))) = [(0, some 0)])) := by
  decide +kernel

theorem witness_RdsGroups :
    (let s : State := rdsAt 1 { ready := some (grp 0 0 0 3, false) }; let n : Fin 256 := 9; let g : RdsGrp := (grp 0 0 0 3); let straddle : Bool := false; let r := s.dev.rdsOf n; let formed := g.blks.all (fun k => k.cls == 3) = false; (r.ready = some (g, straddle)) ∧ (¬ formed)) ∧
    (let s : State := rdsAt 1 { ready := some (grp 0x0548 0xE2E3 0x4142 1, false), ptyLast := some 10, tpLast := some true }; let n : Fin 256 := 9; let g : RdsGrp := (grp 0x0548 0xE2E3 0x4142 1); let straddle : Bool := false; let r := s.dev.rdsOf n; let formed := g.blks.all (fun k => k.cls == 3) = false; (r.ready = some (g, straddle)) ∧ (formed) ∧ (r.ring.length < 16)) ∧
    (let s : State := rdsAt 1 { ready := some (grp 0x0548 0xE2E3 0x4142 0, false), ring := List.replicate 16 (grp 1 2 3 0) }; let n : Fin 256 := 9; let g : RdsGrp := (grp 0x0548 0xE2E3 0x4142 0); let straddle : Bool := false; let r := s.dev.rdsOf n; let formed := g.blks.all (fun k => k.cls == 3) = false; (r.ready = some (g, straddle)) ∧ (formed) ∧ (r.ring.length = 16)) ∧
    (let s : State := rdsAt 1 { ready := some (grp 0x4001 0xCB0D 0x7E40 0, false) }; let n : Fin 256 := 9; let g : RdsGrp := (grp 0x4001 0xCB0D 0x7E40 0); let straddle : Bool := false; let r := s.dev.rdsOf n; let b := (g.blks.getD 1 {}).word; let c := (g.blks.getD 2 {}).word; let w := (g.blks.getD 3 {}).word; let use := s.dev.rdsUse (g.blks.getD 1 {}) = true; (r.ready = some (g, straddle)) ∧ (use) ∧ ((g.blks.drop 1).all (fun k => k.cls == 0) = true) ∧ (g.blks.length = 4) ∧ (field b 15 11 = 8) ∧ (field c 0 0 * 16 + field w 15 12 ≤ 23) ∧ (field w 11 6 ≤ 59) ∧ (field w 4 0 ≤ 28)) ∧
    (let s : State := rdsAt 1 { ring := [grp 1 2 3 1, grp 4 5 6 1] }; let g : RdsGrp := (grp 1 2 3 1); let rest : List RdsGrp := [grp 4 5 6 1]; let index : Fin 512 := 9; let m := min index.val 255; ((s.dev.rdsOf m).ring = g :: rest)) ∧
    (let s : State := rdsAt 1 {}; let index : Fin 512 := 300; let m := min index.val 255; ((s.dev.rdsOf m).ring = [])) := by
  decide +kernel

theorem witness_RdsHostAccess :
    (let s : State := late (rdsAt 1 { flags := 0x3C }); let n : Fin 256 := 9; let due := (s.dev.rdsOf n).piClk + msCycles (1000 * s.dev.fget R.CHN_RDS_CFG2_PI_HOLD) ≤ s.dev.time.clk; (due)) ∧
    (let s : State := rdsAt 1 { flags := 0x3C, piClk := 40000000000 }; let n : Fin 256 := 9; let due := (s.dev.rdsOf n).piClk + msCycles (1000 * s.dev.fget R.CHN_RDS_CFG2_PI_HOLD) ≤ s.dev.time.clk; (¬ due)) ∧
    (let s : State := on (rdsAt 1 { flags := 0x3C }) (fun d => { d with mbx := { req := some ⟨0x40,1,0x06000009,[]⟩, snap := some [1, 2] } }); let q : MbxReq := ⟨0x40,1,0x06000009,[]⟩; (s.dev.mbxWork 0x40 = some q)) ∧
    (let s : State := on (rdsAt 1 { flags := 0x3C }) (fun d => { d with boot := { d.boot with phase := .released } }); (s.dev.inReset = false ∧ s.dev.chainHeld = false ∧ s.dev.bus.dead = false)) ∧
    (let s : State := on (rdsAt 1 { flags := 0x3C, psFrozen := some (1, 2, 3) }) (fun d => { d with boot := { d.boot with phase := .released } }); (s.dev.inReset = false ∧ s.dev.chainHeld = false ∧ s.dev.bus.dead = false)) := by
  decide +kernel

theorem witness_DabEnsemble :
    (let s : State := ens 0 {}; let n : Fin 41 := 9; let frame : DabFrame := ({ dips := some 196620 }); let x : Nat := 196620; let e := s.dev.dbeOf n; let sync := s.dev.dbeSync n; (s.dev.ctxState 2 n = 3) ∧ (e.dateNew = none) ∧ (sync = 0) ∧ (frame.dips = some x) ∧ (((x : Int) - 196608).natAbs ≤ 16)) ∧
    (let s : State := ens 1 {}; let n : Fin 41 := 9; let frame : DabFrame := ({ prs := some (-25000) }); let f : Int := (-25000); let e := s.dev.dbeOf n; let sync := s.dev.dbeSync n; (s.dev.ctxState 2 n = 3) ∧ (e.dateNew = none) ∧ (sync = 1) ∧ (frame.prs = some f) ∧ (f.natAbs ≤ 25000)) ∧
    (let s : State := ens 1 { frames := 1 }; let n : Fin 41 := 9; let frame : DabFrame := ({}); let e := s.dev.dbeOf n; let sync := s.dev.dbeSync n; (s.dev.ctxState 2 n = 3) ∧ (e.dateNew = none) ∧ (sync = 1) ∧ (frame.prs = none) ∧ (1 ≤ e.frames)) ∧
    (let s : State := ens 3 { missed := 3, last120 := [true, false] }; let n : Fin 41 := 9; let frame : DabFrame := ({ null := true, snr := some 500, fofs := some 4 }); let e := s.dev.dbeOf n; let sync := s.dev.dbeSync n; (s.dev.ctxState 2 n = 3) ∧ (e.dateNew = none) ∧ (sync = 3) ∧ (frame.null = true)) ∧
    (let s : State := ens 3 { missed := 4, subs := [(0, some (entA 5 false))], svcs := [(0, some svcA)] }; let n : Fin 41 := 9; let frame : DabFrame := ({ null := false }); let e := s.dev.dbeOf n; let sync := s.dev.dbeSync n; (s.dev.ctxState 2 n = 3) ∧ (e.dateNew = none) ∧ (sync = 3) ∧ (frame.null = false) ∧ (e.missed = 4)) ∧
    (let s : State := ens 2 { last12 := [true, true, true, true, true, false, true] }; let n : Fin 41 := 9; let e := s.dev.dbeOf n; let sync := s.dev.dbeSync n; (s.dev.ctxState 2 n = 3) ∧ (sync = 2) ∧ (5 ≤ ((e.last12.take 11).filter (· == true)).length)) ∧
    (let s : State := ens 3 { failed := 123 }; let n : Fin 41 := 9; let e := s.dev.dbeOf n; let sync := s.dev.dbeSync n; (s.dev.ctxState 2 n = 3) ∧ (sync = 3) ∧ (e.failed < 124)) ∧
    (let s : State := ens 3 { failed := 124 }; let n : Fin 41 := 9; let e := s.dev.dbeOf n; let sync := s.dev.dbeSync n; (s.dev.ctxState 2 n = 3) ∧ (sync = 3) ∧ (e.failed = 124)) ∧
    (let s : State := ens 3 { haveEid := true, subs := [(0, some (entA 5 false))], svcs := [(0, some svcA)] }; let n : Fin 41 := 9; let sync := s.dev.dbeSync n; (s.dev.ctxState 2 n = 3) ∧ (2 ≤ sync)) ∧
    (let s : State := ens 3 { subs := [(6, some (entA 5 true))] }; let n : Fin 41 := 9; let id : Nat := 5; let i : Nat := 6; let old : DbEnt DabSub := (entA 5 true); let e := s.dev.dbeOf n; let sync := s.dev.dbeSync n; (s.dev.ctxState 2 n = 3) ∧ (2 ≤ sync) ∧ (dbFind id e.subs = some (i, old))) ∧
    (let s : State := ens 3 { subs := [(0, some (entA 6 true)), (2, some (entA 7 true))] }; let n : Fin 41 := 9; let id : Nat := 5; let i : Nat := 1; let e := s.dev.dbeOf n; let sync := s.dev.dbeSync n; (s.dev.ctxState 2 n = 3) ∧ (2 ≤ sync) ∧ (dbFind id e.subs = none) ∧ (((List.range 64).filter (fun k => (smGet (fun _ => none) e.subs k).isNone)).head? = some i)) ∧
    (let s : State := ens 3 { haveEid := true, subs := [(0, some (entA 5 true))], svcs := [(0, some svcA)] }; let n : Fin 41 := 9; let e := s.dev.dbeOf n; (s.dev.ctxState 2 n = 3) ∧ (e.haveEid = true) ∧ ((dbAll e.svcs).all (fun p => p.2.body.comps.all (fun c => (dbFind c.subch e.subs).isSome)) = true) ∧ (Config.sysPerSecond ≤ s.dev.since e.newClk)) ∧
    (let s : State := ens 3 { newClk := 50000000000 }; let n : Fin 41 := 9; let e := s.dev.dbeOf n; (s.dev.ctxState 2 n = 3) ∧ (s.dev.since e.newClk < Config.sysPerSecond)) ∧
    (let s : State := ens 3 { sameEid := true, subs := [(0, some (entA 5 true)), (1, some (entA 6 false))], svcs := [(0, some svcA)] }; let n : Fin 41 := 9; let e := s.dev.dbeOf n; let sync := s.dev.dbeSync n; (s.dev.ctxState 2 n = 3) ∧ (sync = 3) ∧ (e.sameEid = true) ∧ (s.dev.fget R.DAB_CFG_AGE * Config.sysPerSecond ≤ s.dev.since e.lockClk)) := by
  decide +kernel

theorem witness_CifKeepsTheCapacity :
    (let s : State := ens 2 {}; let n : Fin 41 := 9; (s.dev.locked n = false)) ∧
    (let s : State := crowded; let n : Fin 41 := 9; (s.dev.locked n = true)) ∧
    (let s : State := filling 15; let n : Fin 41 := 9; let m : Fin 48 := 7; let v : DabSub := subA; (s.dev.locked n = true) ∧ (s.dev.fbit R.DBE_STAT_RECONF n = false) ∧ (s.dev.dscOn n = [m.val]) ∧ (s.dev.ctxEn 4 m = true) ∧ (s.dev.ctxManaged 4 m = false) ∧ (s.dev.dscState m = 2) ∧ (s.dev.fbit R.DSC_STAT_MIRROR m = false) ∧ (s.dev.mirrored m = none) ∧ (s.dev.dscTarget m = ((s.dev.dscOf m).block, (s.dev.dscOf m).subch)) ∧ (s.dev.subOf (s.dev.dscTarget m).1 (s.dev.dscTarget m).2 = some v) ∧ ((s.dev.dscOf m).sub = some v) ∧ (s.dev.cuUsed ≤ 3456) ∧ ((s.dev.dscOf m).fill = 15)) := by
  decide +kernel

theorem witness_DabAudioAndHostAccess :
    (let s : State := sub7 2 1 {}; let n : Fin 48 := 7; let e := s.dev.dscOf n; let up := s.dev.dscState n = 3 ∧ s.dev.fbit R.DSC_STAT_PCM n = true; (¬ up) ∧ (e.drain = 0)) ∧
    (let s : State := sub7 1 1 { drain := 1, queue := [(3,4,9,true)] }; let n : Fin 48 := 7; let frame : AudioFrame := ({ units := [true] }); let q : Nat × Nat × Nat × Bool := (3,4,9,true); let e := s.dev.dscOf n; let up := s.dev.dscState n = 3 ∧ s.dev.fbit R.DSC_STAT_PCM n = true; (¬ up) ∧ (e.drain = 1) ∧ (s.dev.dscState n ≠ 3) ∧ (frame.low = false) ∧ (frame.units = [true]) ∧ (e.queue = [q])) ∧
    (let s : State := sub7 3 1 { conceal := 4, queue := [(3,4,9,true)] }; let n : Fin 48 := 7; let frame : AudioFrame := ({ units := [true], words := [some 1, some 2, none] }); let q : Nat × Nat × Nat × Bool := (3,4,9,true); let rest : List (Nat × Nat × Nat × Bool) := []; let e := s.dev.dscOf n; let up := s.dev.dscState n = 3 ∧ s.dev.fbit R.DSC_STAT_PCM n = true; (up) ∧ (e.drain = 0) ∧ (s.dev.fget R.DSC_STAT_CODING n ≠ 2) ∧ (frame.low = false) ∧ (e.queue = q :: rest)) ∧
    (let s : State := sub7 3 2 { sync := true, fails := 2, queue := [(5,4,9,true), (6,4,9,true),(7,4,9,true),(8,4,9,true),(9,4,9,true),(10,4,9,true)] }; let n : Fin 48 := 7; let frame : AudioFrame := ({ units := [true, false], fire := false }); let q : Nat × Nat × Nat × Bool := (5,4,9,true); let rest : List (Nat × Nat × Nat × Bool) := [(6,4,9,true),(7,4,9,true),(8,4,9,true),(9,4,9,true),(10,4,9,true)]; let e := s.dev.dscOf n; let up := s.dev.dscState n = 3 ∧ s.dev.fbit R.DSC_STAT_PCM n = true; let k := s.dev.fget R.DAB_FLAG_CTX_INDEX; (up) ∧ (e.drain = 0) ∧ (s.dev.fget R.DSC_STAT_CODING n = 2) ∧ (e.sync = true) ∧ (e.fails = 2) ∧ (frame.fire = false) ∧ (frame.syncLost = false) ∧ (e.build = []) ∧ (e.queue = q :: rest) ∧ (q.1 % 5 = 0) ∧ ((rest.take 4).map (·.1) = [q.1 + 1, q.1 + 2, q.1 + 3, q.1 + 4]) ∧ ((rest.drop 4).all (fun k => k.1 / 5 != q.1 / 5) = true)) ∧
    (let s : State := on (st [(R.DAB_FLAG_CTX_INDEX, 0, 9)]) (fun d => d.updDbe 9 (fun e => { e with flags := 6 })); (s.dev.fget R.DAB_FLAG_CTX_POOL = 0)) ∧
    (let s : State := on (st [(R.DAB_FLAG_CTX_INDEX, 0, 7), (R.DAB_FLAG_CTX_POOL, 0, 1)]) (fun d => d.updDsc 7 (fun e => { e with flags := 6 })); (s.dev.fget R.DAB_FLAG_CTX_POOL ≠ 0)) ∧
    (let s : State := on (ens 3 { subs := [(0, some (entA 5 true))] }) (fun d => { d with mbx := { req := some ⟨0x50, 1, 0x03000009, []⟩, snap := some [3, 4] } }); let r : MbxReq := ⟨0x50,1,0x03000009,[]⟩; (s.dev.mbxWork 0x50 = some r)) := by
  decide +kernel

theorem witness_PrgScoresAndSwitches :
    (let s : State := on (prog [] { active := some 0, srcs := two { sum := 3000, n := 10 } { missing := true } }) (fun d => { d with grid := {} }); let due := s.dev.grid.score = true ∧ s.dev.domOn 4 = true ∧ s.dev.splStopped = false ∧ s.dev.inReset = false; (¬ due)) ∧
    (let s : State := prog [] { active := some 0, srcs := two { sum := 3000, n := 10 } { missing := true } }; let p : Nat := 9; let i : Nat := 0; let g := s.dev.prgOf p; let due := s.dev.grid.score = true ∧ s.dev.domOn 4 = true ∧ s.dev.splStopped = false ∧ s.dev.inReset = false; (due) ∧ (s.dev.scoreBlank = false) ∧ (p < 128) ∧ (g.on = true) ∧ (i ∈ s.dev.srcIdx p)) ∧
    (let s : State := on (prog [] { active := some 0, srcs := two { sum := 3000, score := 470 } { missing := true } }) (fun d => { d with scoreBlank := true }); let p : Nat := 9; let i : Nat := 0; let g := s.dev.prgOf p; let due := s.dev.grid.score = true ∧ s.dev.domOn 4 = true ∧ s.dev.splStopped = false ∧ s.dev.inReset = false; (due) ∧ (s.dev.scoreBlank = true) ∧ (p < 128) ∧ (g.on = true) ∧ (i ∈ s.dev.srcIdx p) ∧ (s.dev.offAir p i = true)) ∧
    (let s : State := prog [] { active := some 0, srcs := two { missing := true } { sum := 3000, n := 10 } }; let p : Nat := 9; let a : Nat := 0; let t0 : Nat := 1; let d1 := s.dev.prgScore p; let g := s.dev.prgOf p; let score (k : Nat) := (d1.srcOf p k).score; let due := s.dev.grid.score = true ∧ s.dev.domOn 4 = true ∧ s.dev.splStopped = false ∧ s.dev.inReset = false; (due) ∧ (s.dev.prgLive = [p]) ∧ (g.xf = none) ∧ (s.dev.policy p ≠ 2) ∧ (g.active = some a) ∧ (score a = 0) ∧ (d1.forced p = some t0)) ∧
    (let s : State := prog [(R.PGT_SW_HOLD, 9, 2)] { active := some 1, since := 30, begun := true, srcs := two { sum := 3000, n := 10, usable := 40 } { sum := 3000, n := 10 } }; let p : Nat := 9; let a : Nat := 1; let t0 : Nat := 0; let d1 := s.dev.prgScore p; let g := s.dev.prgOf p; let score (k : Nat) := (d1.srcOf p k).score; let hold := 10 * s.dev.fget R.PGT_SW_HOLD p; let usable := (d1.scoring p).filter (fun k => decide (s.dev.fget R.PRG_USABLE_USABLE ≤ score k)); let due := s.dev.grid.score = true ∧ s.dev.domOn 4 = true ∧ s.dev.splStopped = false ∧ s.dev.inReset = false; (due) ∧ (s.dev.prgLive = [p]) ∧ (g.xf = none) ∧ (s.dev.policy p = 0) ∧ (g.active = some a) ∧ (score a ≠ 0) ∧ (hold ≤ g.since) ∧ (hold ≤ 2550) ∧ (d1.bestRank p usable = some t0) ∧ (t0 ≠ a) ∧ (d1.srcRank p t0 < d1.srcRank p a) ∧ (hold ≤ (d1.srcOf p t0).usable)) ∧
    (let s : State := prog [(R.PGT_SW_HOLD, 9, 20)] { active := some 1, since := 30, begun := true, srcs := two { sum := 3000, n := 10, usable := 40 } { sum := 3000, n := 10 } }; let p : Nat := 9; let a : Nat := 1; let d1 := s.dev.prgScore p; let g := s.dev.prgOf p; let score (k : Nat) := (d1.srcOf p k).score; let hold := 10 * s.dev.fget R.PGT_SW_HOLD p; let due := s.dev.grid.score = true ∧ s.dev.domOn 4 = true ∧ s.dev.splStopped = false ∧ s.dev.inReset = false; (due) ∧ (s.dev.prgLive = [p]) ∧ (g.xf = none) ∧ (s.dev.policy p ≠ 2) ∧ (g.active = some a) ∧ (score a ≠ 0) ∧ (g.since + 1 < hold)) ∧
    (let s : State := prog [(R.PGT_SW_HOLD, 9, 20)] { active := some 1, since := 30, begun := true, srcs := two { } { sum := 300, n := 10 } }; let p : Nat := 9; let a : Nat := 1; let d1 := s.dev.prgScore p; let g := s.dev.prgOf p; let score (k : Nat) := (d1.srcOf p k).score; let due := s.dev.grid.score = true ∧ s.dev.domOn 4 = true ∧ s.dev.splStopped = false ∧ s.dev.inReset = false; (due) ∧ (s.dev.prgLive = [p]) ∧ (g.xf = none) ∧ (s.dev.policy p ≠ 2) ∧ (d1.scoring p = []) ∧ (g.active = some a) ∧ (score a = 0)) ∧
    (let s : State := on (prog [(R.PGT_CTL_POLICY, 9, 2), (R.PGT_CTL_FIX, 9, 1)] { active := some 0, begun := true, srcs := two { sum := 3000, n := 10 } { missing := true } }) (fun d => { d with boot := { d.boot with tadpole := 0 } }); let p : Nat := 9; let d1 := s.dev.prgScore p; let g := s.dev.prgOf p; let score (k : Nat) := (d1.srcOf p k).score; let fix := s.dev.fget R.PGT_CTL_FIX p; let due := s.dev.grid.score = true ∧ s.dev.domOn 4 = true ∧ s.dev.splStopped = false ∧ s.dev.inReset = false; (due) ∧ (s.dev.prgLive = [p]) ∧ (g.xf = none) ∧ (s.dev.policy p = 2) ∧ (g.begun = true) ∧ (g.active ≠ some fix) ∧ (score fix = 0)) ∧
    (let s : State := prog [(R.PGT_SW_HOLD, 9, 20)] { active := some 0, xf := some { old := some 0, target := 1, start := 7, dur := 99, aligned := false }, begun := true, srcs := two { sum := 3000, n := 10, usable := 40 } { missing := true } }; let p : Nat := 9; let x : XfSt := ({ old := some 0, target := 1, start := 7, dur := 99, aligned := false }); let o : Nat := 0; let d1 := s.dev.prgScore p; let g := s.dev.prgOf p; let score (k : Nat) := (d1.srcOf p k).score; let fix := s.dev.fget R.PGT_CTL_FIX p; let due := s.dev.grid.score = true ∧ s.dev.domOn 4 = true ∧ s.dev.splStopped = false ∧ s.dev.inReset = false; (due) ∧ (s.dev.prgLive = [p]) ∧ (g.xf = some x) ∧ (x.old = some o) ∧ (score x.target = 0) ∧ (score o ≠ 0) ∧ ((s.dev.policy p = 2 → x.target ≠ fix))) := by
  decide +kernel

theorem witness_PrgCrossfadeAndTrim :
    (let s : State := prog [(R.PWR_DOM_STAT_STATE, 0, 0)] { xf := some { old := some 0, target := 1, start := 7, dur := 99, aligned := false } }; let runs := s.dev.domOn 4 = true ∧ s.dev.inReset = false; (¬ runs)) ∧
    (let s : State := prog [(R.PWR_DOM_STAT_STATE, 0, 0)] { xf := some { old := some 0, target := 1, start := 7, dur := 99, aligned := false } }; let runs := s.dev.domOn 4 = true ∧ s.dev.inReset = false; (¬ runs)) ∧
    (let s : State := prog [(R.PWR_DOM_STAT_STATE, 0, 0)] { xf := some { old := some 0, target := 1, start := 7, dur := 99, aligned := false } }; let runs := s.dev.domOn 4 = true ∧ s.dev.inReset = false; (¬ runs)) ∧
    (let s : State := prog [] { xf := some { old := some 0, target := 1, start := 49999999999, dur := 99, aligned := false } }; let n : Fin 128 := 9; let x : XfSt := ({ old := some 0, target := 1, start := 49999999999, dur := 99, aligned := false }); let g := s.dev.prgOf n; (g.xf = some x) ∧ (s.dev.since x.start < x.dur)) ∧
    (let s : State := prog [] { }; let n : Fin 128 := 9; let g := s.dev.prgOf n; (g.xf = none)) ∧
    (let s : State := prog [(R.PGT_CTL_ALIGN, 9, 1)] { active := some 0, xf := some { old := some 0, target := 1, start := 7, dur := 99, aligned := false }, srcs := two { align := 6, lag := some 0 } { align := 2, lag := some 30, pages := 4 } }; let n : Fin 128 := 9; let x : XfSt := ({ old := some 0, target := 1, start := 7, dur := 99, aligned := false }); let g := s.dev.prgOf n; let runs := s.dev.domOn 4 = true ∧ s.dev.inReset = false; (runs) ∧ (g.xf = some x) ∧ (x.dur ≤ s.dev.since x.start) ∧ (x.reversed = false) ∧ (x.kpOld = none)) ∧
    (let s : State := prog [] { active := some 0, trim := 5, xf := some { old := some 1, target := 0, start := 7, dur := 99, aligned := true, reversed := true, trimOld := 3 } }; let n : Fin 128 := 9; let x : XfSt := ({ old := some 1, target := 0, start := 7, dur := 99, aligned := true, reversed := true, trimOld := 3 }); let g := s.dev.prgOf n; let runs := s.dev.domOn 4 = true ∧ s.dev.inReset = false; (runs) ∧ (g.xf = some x) ∧ (x.dur ≤ s.dev.since x.start) ∧ ((x.reversed = true ∨ x.kpOld ≠ none))) ∧
    (let s : State := prog [] { active := some 1, trim := 5, xf := some { old := some 1, target := 1, start := 49999999999, dur := 99, aligned := false, kpOld := some 4 } }; let n : Fin 128 := 9; let g := s.dev.prgOf n; let rel := s.dev.fget R.PRG_XF_TRIM_REL; let runs := s.dev.domOn 4 = true ∧ s.dev.inReset = false; (runs) ∧ (rel ≠ 0) ∧ (g.switching = false) ∧ (rel * Config.sysPerSecond ≤ s.dev.since g.trimClk)) ∧
    (let s : State := prog [] { active := some 0, trim := 5, trimClk := 49999999993 }; let n : Fin 128 := 9; let g := s.dev.prgOf n; let rel := s.dev.fget R.PRG_XF_TRIM_REL; (s.dev.since g.trimClk < rel * Config.sysPerSecond)) ∧
    (let s : State := prog [(R.PGT_STAT_SLEW, 9, 1)] { active := some 0, kp := 100, kpTo := 200, srcs := two { align := 6, lag := some 0 } { align := 2, lag := some (-300), pages := 4, fine := true } }; let n : Fin 128 := 9; let g := s.dev.prgOf n; let runs := s.dev.domOn 4 = true ∧ s.dev.inReset = false; (runs) ∧ (s.dev.fbit R.PGT_STAT_SLEW n = true) ∧ (s.dev.kpNow n = g.kpTo)) ∧
    (let s : State := prog [] { active := some 0, kp := 100, kpTo := 200 }; let n : Fin 128 := 9; (s.dev.fbit R.PGT_STAT_SLEW n = false)) := by
  decide +kernel

theorem witness_PrgAlignment :
    (let s : State := prog [(R.PWR_DOM_STAT_STATE, 0, 0)] { active := some 0, srcs := two { align := 6 } { align := 3, lag := some 40, pages := 3, zero := 5 } }; let runs := s.dev.domOn 4 = true ∧ s.dev.inReset = false; (¬ runs)) ∧
    (let s : State := prog [(R.PWR_DOM_STAT_STATE, 0, 0)] { active := some 0, srcs := two { align := 6 } { align := 3, lag := some 40, pages := 3, zero := 5 } }; let runs := s.dev.domOn 4 = true ∧ s.dev.inReset = false; (¬ runs)) ∧
    (let s : State := prog [(R.PWR_DOM_STAT_STATE, 0, 0)] { active := some 0, srcs := two { align := 6 } { align := 3, lag := some 40, pages := 3, zero := 5 } }; let runs := s.dev.domOn 4 = true ∧ s.dev.inReset = false; (¬ runs)) ∧
    (let s : State := prog [(R.PWR_DOM_STAT_STATE, 0, 0)] { active := some 0, srcs := two { align := 6 } { align := 3, lag := some 40, pages := 3, zero := 5 } }; let runs := s.dev.domOn 4 = true ∧ s.dev.inReset = false; (¬ runs)) ∧
    (let s : State := prog [(R.PWR_DOM_STAT_STATE, 0, 0)] { active := some 0, srcs := two { align := 6 } { align := 3, lag := some 40, pages := 3, zero := 5 } }; let runs := s.dev.domOn 4 = true ∧ s.dev.inReset = false; (¬ runs)) ∧
    (let s : State := prog [] { active := some 0, srcs := two {} { est := 49999999999 } }; let n : Fin 128 := 9; let i : Fin 16 := 1; let c := s.dev.srcOf n i; let started := c.est ≠ 0 ∧ 8 * Config.sysPerSecond ≤ s.dev.time.clk + 1 - c.est ∧ (c.prevClk = 0 ∨ Config.sysPerSecond ≤ s.dev.time.clk + 1 - c.prevClk); (¬ started)) ∧
    (let s : State := prog [] { srcs := two {} { align := 1, est := 46000000000, prev := some 4, pages := 3 } }; let n : Fin 128 := 9; let i : Fin 16 := 1; let c := s.dev.srcOf n i; let started := c.est ≠ 0 ∧ 8 * Config.sysPerSecond ≤ s.dev.time.clk + 1 - c.est ∧ (c.prevClk = 0 ∨ Config.sysPerSecond ≤ s.dev.time.clk + 1 - c.prevClk); let late := 30 * Config.sysPerSecond ≤ s.dev.time.clk + 1 - c.est; let found := s.dev.coarseFound n i; let runs := s.dev.domOn 4 = true ∧ s.dev.inReset = false; (runs) ∧ (started) ∧ (found = none) ∧ (¬ late)) ∧
    (let s : State := prog [] { srcs := two {} { align := 1, est := 9, prev := some 3, pages := 3 } }; let n : Fin 128 := 9; let i : Fin 16 := 1; let c := s.dev.srcOf n i; let started := c.est ≠ 0 ∧ 8 * Config.sysPerSecond ≤ s.dev.time.clk + 1 - c.est ∧ (c.prevClk = 0 ∨ Config.sysPerSecond ≤ s.dev.time.clk + 1 - c.prevClk); let late := 30 * Config.sysPerSecond ≤ s.dev.time.clk + 1 - c.est; let found := s.dev.coarseFound n i; let runs := s.dev.domOn 4 = true ∧ s.dev.inReset = false; (runs) ∧ (started) ∧ (found = none) ∧ (late)) ∧
    (let s : State := prog [] { active := some 0, srcs := two { align := 6 } { align := 2, lag := some 40, pages := 3 } }; let n : Fin 128 := 9; let i : Fin 16 := 1; let c := s.dev.srcOf n i; let filled := ((max 0 (s.dev.kpWant n - c.lag.getD 0 - s.dev.pMin n i)).toNat + 48000) * 6144 ≤ s.dev.since c.clk; let runs := s.dev.domOn 4 = true ∧ s.dev.inReset = false; (runs) ∧ (c.align = 2) ∧ (c.fine = false) ∧ (filled)) ∧
    (let s : State := prog [] { active := some 0, srcs := two { align := 6 } { align := 2, lag := some 40, pages := 3, clk := 49999999990 } }; let n : Fin 128 := 9; let i : Fin 16 := 1; let c := s.dev.srcOf n i; let filled := ((max 0 (s.dev.kpWant n - c.lag.getD 0 - s.dev.pMin n i)).toNat + 48000) * 6144 ≤ s.dev.since c.clk; (¬ filled)) ∧
    (let s : State := prog [] { active := some 0, srcs := two { align := 6 } { align := 2, lag := some 40, pages := 3 } }; let n : Fin 128 := 9; let i : Fin 16 := 1; let c := s.dev.srcOf n i; (c.align ≠ 4)) ∧
    (let s : State := prog [] { active := some 0, srcs := two { align := 6 } { align := 4, lag := some (-4002), pages := 3 } }; let n : Fin 128 := 9; let i : Fin 16 := 1; let x : Int := (-4002); let c := s.dev.srcOf n i; let runs := s.dev.domOn 4 = true ∧ s.dev.inReset = false; (runs) ∧ (c.align = 4) ∧ (c.lag = some x) ∧ (Config.sysPerSecond ≤ s.dev.since c.clk)) ∧
    (let s : State := prog [] { active := some 0, srcs := two { align := 6 } { align := 5, lag := some (-4002), pages := 3, clk := 49999999990 } }; let n : Fin 128 := 9; let i : Fin 16 := 1; let c := s.dev.srcOf n i; let verify := s.dev.fget R.PRG_EST_VERIFY * Config.sysPerSecond ≤ s.dev.since c.clk; (¬ verify)) ∧
    (let s : State := prog [] { active := some 0, srcs := two { align := 6 } { align := 5, lag := some (-4002), pages := 3 } }; let n : Fin 128 := 9; let i : Fin 16 := 1; let c := s.dev.srcOf n i; let verify := s.dev.fget R.PRG_EST_VERIFY * Config.sysPerSecond ≤ s.dev.since c.clk; let runs := s.dev.domOn 4 = true ∧ s.dev.inReset = false; (runs) ∧ (c.align = 5) ∧ (verify)) ∧
    (let s : State := prog [] { active := some 0, srcs := two { align := 6 } { align := 3, lag := some (-4002), pages := 3 } }; let n : Fin 128 := 9; let i : Fin 16 := 1; let c := s.dev.srcOf n i; let verify := s.dev.fget R.PRG_EST_VERIFY * Config.sysPerSecond ≤ s.dev.since c.clk; let runs := s.dev.domOn 4 = true ∧ s.dev.inReset = false; (runs) ∧ (c.align = 3) ∧ (verify)) ∧
    (let s : State := prog [] { active := some 0, srcs := two { align := 6 } { align := 1, pages := 3, zero := 5 } }; let n : Fin 128 := 9; let i : Fin 16 := 1; let c := s.dev.srcOf n i; let runs := s.dev.domOn 4 = true ∧ s.dev.inReset = false; (runs) ∧ (2 ≤ c.align ∨ c.pages ≠ 0) ∧ (c.align ≠ 6) ∧ (c.zero ≠ 0) ∧ (s.dev.fget R.PRG_ALIGN_KEEP * Config.sysPerSecond ≤ s.dev.time.clk + 1 - c.zero)) ∧
    (let s : State := prog [] { active := some 0, srcs := two { align := 6 } { align := 3, lag := some (-4002), pages := 3, zero := 5 } }; let n : Fin 128 := 9; let i : Fin 16 := 1; let c := s.dev.srcOf n i; ((s.dev.prgOf n).on = true) ∧ (i.val ∈ s.dev.srcIdx n) ∧ (c.align ≠ 0) ∧ (c.align ≠ 6)) := by
  decide +kernel

theorem witness_PrgCandidates :
    (let s : State := prog [] { req := 49999999990 }; let n : Fin 128 := 9; let g := s.dev.prgOf n; let runs := s.dev.domOn 4 = true ∧ s.dev.inReset = false; let recent := g.req ≠ 0 ∧ s.dev.time.clk + 1 - g.req < msCycles 100; let may := runs ∧ g.on = true ∧ ¬ recent; (¬ may)) ∧
    (let s : State := prog [] { req := 49999999990 }; let n : Fin 128 := 9; let g := s.dev.prgOf n; let runs := s.dev.domOn 4 = true ∧ s.dev.inReset = false; let recent := g.req ≠ 0 ∧ s.dev.time.clk + 1 - g.req < msCycles 100; let may := runs ∧ g.on = true ∧ ¬ recent; (¬ may)) ∧
    (let s : State := prog [] { req := 9 }; let n : Fin 128 := 9; let g := s.dev.prgOf n; let refusal (x : MgdTarget) := (g.refused.find? (fun r => r.1 == targetKey x)).map (·.2); let first := s.dev.nextRequest n (fun x => (refusal x).isNone); (first = none)) ∧
    (let s : State := offered; let n : Fin 128 := 9; let target : MgdTarget := (.fm 98500); let g := s.dev.prgOf n; let runs := s.dev.domOn 4 = true ∧ s.dev.inReset = false; let recent := g.req ≠ 0 ∧ s.dev.time.clk + 1 - g.req < msCycles 100; let may := runs ∧ g.on = true ∧ ¬ recent; let refusal (x : MgdTarget) := (g.refused.find? (fun r => r.1 == targetKey x)).map (·.2); let first := s.dev.nextRequest n (fun x => (refusal x).isNone); (may) ∧ (first = some target)) ∧
    (let s : State := prog [] { refused := [((0, 98500), 49999999000)] }; let n : Fin 128 := 9; let g := s.dev.prgOf n; let refusal (x : MgdTarget) := (g.refused.find? (fun r => r.1 == targetKey x)).map (·.2); let again := s.dev.nextRequest n (fun x => (refusal x).any (fun k => decide (Config.sysPerSecond ≤ s.dev.since k))); (again = none)) ∧
    (let s : State := on offered (fun d => d.updPrg 9 (fun g => { g with refused := [((0, 98500), 5), ((1, 7), 6)] })); let n : Fin 128 := 9; let target : MgdTarget := (.fm 98500); let g := s.dev.prgOf n; let runs := s.dev.domOn 4 = true ∧ s.dev.inReset = false; let recent := g.req ≠ 0 ∧ s.dev.time.clk + 1 - g.req < msCycles 100; let may := runs ∧ g.on = true ∧ ¬ recent; let refusal (x : MgdTarget) := (g.refused.find? (fun r => r.1 == targetKey x)).map (·.2); let again := s.dev.nextRequest n (fun x => (refusal x).any (fun k => decide (Config.sysPerSecond ≤ s.dev.since k))); (may) ∧ (again = some target)) ∧
    (let s : State := on (prog [(R.PGT_SRC_KIND, 16 * 9 + 2, 4)] { cands := [(8, some ⟨1, 4, 0, 2, 5, 0, 98500⟩)] }) (fun d => d.updCtx 0 4 (fun c => { c with freq := 98500 })); let n : Fin 128 := 9; let i : Fin 16 := 8; let c : CandSt := ⟨1, 4, 0, 2, 5, 0, 98500⟩; let runs := s.dev.domOn 4 = true ∧ s.dev.inReset = false; (runs) ∧ (s.dev.candOf n i = some c) ∧ (c.kind = 1) ∧ (s.dev.fbit R.RDS_STAT_PI_CONF c.idx = false) ∧ (msCycles (100 * s.dev.fget R.PRG_DISC_PI_WAIT) ≤ s.dev.since c.since)) ∧
    (let s : State := prog [] { cands := [(8, some ⟨2, 4, 0, 2, 5, 0, 98500⟩)] }; let n : Fin 128 := 9; let i : Fin 16 := 8; let c : CandSt := ⟨2, 4, 0, 2, 5, 0, 98500⟩; (s.dev.candOf n i = some c) ∧ (c.kind ≠ 1 ∨ s.dev.fbit R.RDS_STAT_PI_CONF c.idx = true)) ∧
    (let s : State := prog [] { bars := [(98500, 5)] }; let when : Nat := 5; (60 * Config.sysPerSecond ≤ s.dev.since when)) ∧
    (let s : State := prog [] { bars := [(98500, 49000000000), (98500, 5)] }; let n : Fin 128 := 9; let khz : Nat := 98500; let when : Nat := 49000000000; let g := s.dev.prgOf n; ((khz, when) ∈ g.bars) ∧ (s.dev.since when < 60 * Config.sysPerSecond)) := by
  decide +kernel

theorem witness_PrgBlocksAndMeters :
    (let s : State := on (prog [] {}) (fun d => { d with grid := { d.grid with prg := 50000000001 } }); let t0 := s.dev.grid.prg; let due := s.dev.splStopped = false ∧ s.dev.inReset = false ∧ t0 ≤ s.dev.time.clk; (¬ due)) ∧
    (let s : State := prog [(R.PWR_DOM_STAT_STATE, 0, 0)] { active := some 0, out := [(3, [(1, 2)])] }; let n : Fin 128 := 9; let g := s.dev.prgOf n; let t0 := s.dev.grid.prg; let due := s.dev.splStopped = false ∧ s.dev.inReset = false ∧ t0 ≤ s.dev.time.clk; (due) ∧ (s.dev.domOn 4 = false) ∧ (g.on = true)) ∧
    (let s : State := prog [] { out := [(3, [(1, 2)])], gap := false, last := (480, -4800) }; let n : Fin 128 := 9; let ecc : Option (Nat × Bool × Nat) := none; let g := s.dev.prgOf n; let t0 := s.dev.grid.prg; let due := s.dev.splStopped = false ∧ s.dev.inReset = false ∧ t0 ≤ s.dev.time.clk; (due) ∧ (s.dev.domOn 4 = true) ∧ (g.on = true) ∧ (g.xf = none) ∧ (g.active = none) ∧ (ecc = none)) ∧
    (let s : State := prog [] { active := some 0, out := [(3, [(1, 2)])], gap := false, last := (480, -4800) }; let n : Fin 128 := 9; let ecc : Option (Nat × Bool × Nat) := (some (9, true, 77)); let word : Nat := 77; let g := s.dev.prgOf n; let t0 := s.dev.grid.prg; let due := s.dev.splStopped = false ∧ s.dev.inReset = false ∧ t0 ≤ s.dev.time.clk; (due) ∧ (s.dev.domOn 4 = true) ∧ (g.on = true) ∧ (ecc = some (n.val, true, word))) ∧
    (let s : State := prog [(R.PGT_SRC_KIND, 16 * 9 + 2, 9), (R.PGT_SRC_ARG, 16 * 9 + 2, 3)] { active := some 2, out := [(3, [(1, 2)]), (2, []), (1, [])], gap := false, last := (480, -4800) }; let n : Fin 128 := 9; let ecc : Option (Nat × Bool × Nat) := none; let a : Nat := 2; let arg : Nat := 3; let m : Nat := 0; let g := s.dev.prgOf n; let t0 := s.dev.grid.prg; let due := s.dev.splStopped = false ∧ s.dev.inReset = false ∧ t0 ≤ s.dev.time.clk; (due) ∧ (s.dev.domOn 4 = true) ∧ (g.on = true) ∧ (g.xf = none) ∧ (g.active = some a) ∧ (s.dev.srcRef n a = some (9, arg, m)) ∧ (s.dev.policy n ≠ 2) ∧ (s.dev.fbit R.PGT_STAT_SLEW n = false) ∧ (s.dev.clk.gapPrg = false) ∧ (ecc = none) ∧ (g.trim = 0)) ∧
    (let s : State := on (prog [] { active := some 0 }) (fun d => d.updCtx 0 3 (fun c => { c with ring := [⟨5, 0, [(7, 9), (-5, 3)], 49999999990⟩] })); let n : Fin 128 := 9; let ecc : Option (Nat × Bool × Nat) := none; let i : Nat := 0; let arg : Nat := 3; let m : Nat := 0; let b : Blk := ⟨5, 0, [(7, 9), (-5, 3)], 49999999990⟩; let g := s.dev.prgOf n; let t0 := s.dev.grid.prg; let due := s.dev.splStopped = false ∧ s.dev.inReset = false ∧ t0 ≤ s.dev.time.clk; (due) ∧ (s.dev.domOn 4 = true) ∧ (g.on = true) ∧ (i ∈ s.dev.srcIdx n) ∧ (s.dev.srcRef n i = some (1, arg, m)) ∧ ((s.dev.ctxOf 0 arg).ring = [b]) ∧ (b.mark ≠ 2) ∧ (t0 < b.ready + Config.sysPerMs) ∧ (ecc = none)) ∧
    (let s : State := on (prog [] {}) (fun d => { d with prg := [] }); let t0 := s.dev.grid.prg; let due := s.dev.splStopped = false ∧ s.dev.inReset = false ∧ t0 ≤ s.dev.time.clk; (due) ∧ (s.dev.domOn 4 = true) ∧ (s.dev.prgLive = [])) ∧
    (let s : State := on (prog [(R.PWR_DOM_STAT_STATE, 0, 0)] { refDue := true }) (fun d => { d with refs := [9] }); let runs := s.dev.domOn 4 = true ∧ s.dev.inReset = false; (¬ runs)) ∧
    (let s : State := on (prog [(R.PWR_DOM_STAT_STATE, 0, 0)] { refDue := true }) (fun d => { d with refs := [9] }); let runs := s.dev.domOn 4 = true ∧ s.dev.inReset = false; (¬ runs)) ∧
    (let s : State := on (prog [] {}) (fun d => { d with grid := {} }); (s.dev.grid.loud = false)) ∧
    (let s : State := prog [] { tp := 5, peaks := List.replicate 30 9, gates := [10 ^ 12], meter := ⟨10 ^ 16, 4800, List.replicate 29 (10 ^ 15, 4800)⟩, srcs := two { meter := ⟨10 ^ 16, 4800, List.replicate 29 (10 ^ 15, 4800)⟩ } {} }; let n : Fin 128 := 9; let g := s.dev.prgOf n; let runs := s.dev.domOn 4 = true ∧ s.dev.inReset = false; (runs) ∧ (s.dev.grid.loud = true) ∧ (g.on = true)) ∧
    (let s : State := prog [] { loud := (some 1, some 2, some 3), gates := [4] }; let n : Fin 128 := 9; let g := s.dev.prgOf n; (g.on = true)) ∧
    (let s : State := prog [] {}; let n : Fin 128 := 9; let g := s.dev.prgOf n; (n.val ∉ s.dev.refs ∨ g.refDue = false)) ∧
    (let s : State := on (prog [(R.PRG_REF_TIME, 0, 10), (R.PGT_REF_KIND, 9, 3)] { refPrev := some 3002, refDue := true }) (fun d => { d with refs := [9] }); let n : Fin 128 := 9; let g := s.dev.prgOf n; let runs := s.dev.domOn 4 = true ∧ s.dev.inReset = false; (runs) ∧ (n.val ∈ s.dev.refs) ∧ (g.refDue = true) ∧ (s.dev.fbit R.PGT_STAT_MISMATCH n = false) ∧ (g.low + 1 < s.dev.fget R.PRG_REF_TIME)) ∧
    (let s : State := on (prog [(R.PGT_STAT_REF_LOCK, 9, 1), (R.PRG_REF_TIME, 0, 10), (R.PGT_REF_KIND, 9, 3), (R.PRG_REF_TH, 0, 100)] { low := 9, envO := [0], refDue := true }) (fun d => { d with refs := [9] }); let n : Fin 128 := 9; let v : Int := (-300); let g := s.dev.prgOf n; let runs := s.dev.domOn 4 = true ∧ s.dev.inReset = false; (runs) ∧ (n.val ∈ s.dev.refs) ∧ (g.refDue = true) ∧ (g.refLost = false) ∧ (s.dev.pairLost (s.dev.fget R.PGT_REF_KIND n + 5) (s.dev.fget R.PGT_REF_ARG n) = false) ∧ (envSilent (s.dev.fget R.PRG_SIL_TH) g.envO = false) ∧ (g.envR.all (fun v => decide (v < -100 * (s.dev.fget R.PRG_SIL_TH : Int))) = true) ∧ (0 < s.dev.fget R.PRG_REF_TH) ∧ (s.dev.fget R.PRG_REF_TIME ≤ min (g.low + 1) 65535) ∧ (s.dev.fbit R.PGT_STAT_MISMATCH n = false)) ∧
    (let e : Nat := 3; (e < 30)) := by
  decide +kernel

theorem witness_OutputSequences :
    (let s : State := seq 0 1 { clk := 4999999999, dur := 5 }; let out : Fin 2 := 0; let k := out.val; let q := s.dev.outSeq k; let due := q.dur ≤ s.dev.since q.clk; (¬ due)) ∧
    (let s : State := seq 0 1 { clk := 9, dur := 5 }; let out : Fin 2 := 0; let k := out.val; let q := s.dev.outSeq k; let due := q.dur ≤ s.dev.since q.clk; let hp := s.dev.fget (outField k); (due) ∧ (hp = 1)) ∧
    (let s : State := seq 0 2 { clk := 9, dur := 5 }; let out : Fin 2 := 0; let k := out.val; let q := s.dev.outSeq k; let due := q.dur ≤ s.dev.since q.clk; let hp := s.dev.fget (outField k); (due) ∧ (hp = 2) ∧ (q.check = false)) ∧
    (let s : State := seq 0 2 { clk := 9, dur := 5, check := true }; let out : Fin 2 := 0; let res : Int := 500; let k := out.val; let q := s.dev.outSeq k; let due := q.dur ≤ s.dev.since q.clk; let hp := s.dev.fget (outField k); (due) ∧ (hp = 2) ∧ (q.check = true) ∧ (res.natAbs ≤ 500)) ∧
    (let s : State := seq 0 2 { clk := 9, dur := 5, check := true }; let out : Fin 2 := 0; let res : Int := 501; let k := out.val; let q := s.dev.outSeq k; let due := q.dur ≤ s.dev.since q.clk; let hp := s.dev.fget (outField k); (due) ∧ (hp = 2) ∧ (q.check = true) ∧ (500 < res.natAbs) ∧ (q.again = false)) ∧
    (let s : State := seq 0 2 { clk := 9, dur := 5, again := true, check := true }; let out : Fin 2 := 0; let res : Int := 501; let k := out.val; let q := s.dev.outSeq k; let due := q.dur ≤ s.dev.since q.clk; let hp := s.dev.fget (outField k); (due) ∧ (hp = 2) ∧ (q.check = true) ∧ (500 < res.natAbs) ∧ (q.again = true)) ∧
    (let s : State := seq 0 3 { clk := 9, dur := 5, again := true }; let out : Fin 2 := 0; let k := out.val; let q := s.dev.outSeq k; let due := q.dur ≤ s.dev.since q.clk; let hp := s.dev.fget (outField k); (due) ∧ (hp = 3)) ∧
    (let s : State := seq 0 3 { clk := 9, dur := 5, again := true }; (s.dev.fget R.COD_STAT_HP ≠ 0) ∧ (s.dev.fget R.COD_STAT_HP ≠ 6)) ∧
    (let s : State := spk 1 { phase := 1, dur := 5, clk := 4999999999 }; let spk := s.dev.cod.spk; let spkDue := spk.dur ≤ s.dev.since spk.clk; (¬ spkDue)) ∧
    (let s : State := spk 1 { phase := 1, dur := 5, clk := 3 }; let spk := s.dev.cod.spk; let spkDue := spk.dur ≤ s.dev.since spk.clk; (spkDue) ∧ (spk.phase = 1)) ∧
    (let s : State := spk 1 { phase := 2, dur := 5, clk := 3 }; let spk := s.dev.cod.spk; let spkDue := spk.dur ≤ s.dev.since spk.clk; (spkDue) ∧ (spk.phase = 2)) ∧
    (let s : State := spk 1 { phase := 4, dur := 5, clk := 3 }; let spk := s.dev.cod.spk; let spkDue := spk.dur ≤ s.dev.since spk.clk; (spkDue) ∧ (spk.phase = 4)) ∧
    (let s : State := on (spk 1 { phase := 5, dur := 5, clk := 3 }) (fun d => d.updCod (fun c => { c with leaving := true })); let spk := s.dev.cod.spk; let spkDue := spk.dur ≤ s.dev.since spk.clk; (spkDue) ∧ (spk.phase = 5) ∧ (s.dev.spkWanted = false)) ∧
    (let s : State := spk 2 { phase := 3, ocs := [4999999999] }; let spk := s.dev.cod.spk; (spk.phase ≠ 0) ∧ ((spk.ocs.filter (fun c => decide (s.dev.since c < Config.sysPerSecond))).length < 2)) ∧
    (let s : State := spk 2 { phase := 3, ocs := [4999999999, 4999999998] }; let spk := s.dev.cod.spk; (spk.phase ≠ 0) ∧ (2 ≤ (spk.ocs.filter (fun c => decide (s.dev.since c < Config.sysPerSecond))).length)) ∧
    (let pvdd : Nat := 3000; (2900 < pvdd)) ∧
    (let s : State := spk 0 { ocWait := 4999999998 }; let pvdd : Nat := 3000; let spk := s.dev.cod.spk; (spk.phase = 0) ∧ (spk.ocWait ≠ 0 ∧ s.dev.time.clk + 1 - spk.ocWait < msCycles 100 ∨ spk.uv = true ∧ pvdd ≤ 2900)) ∧
    (let s : State := spk 0 { ocWait := 9 }; let pvdd : Nat := 3000; let spk := s.dev.cod.spk; (msCycles 100 ≤ s.dev.time.clk + 1 - spk.ocWait ∨ spk.ocWait = 0) ∧ (spk.uv = false ∨ 2900 < pvdd) ∧ (spk.phase = 0) ∧ (s.dev.fget R.COD_STAT_SPK = 0) ∧ (s.dev.audOk = true) ∧ (s.dev.fbit R.COD_PWR_SPK_EN = true)) ∧
    (let s : State := spk 3 { ocs := [1, 2] }; (s.dev.fget R.COD_STAT_SPK = 3)) ∧
    (let s : State := spk 2 { ocs := [1, 2] }; (s.dev.fget R.COD_STAT_SPK ≠ 3)) ∧
    (let s : State := cod5 [(R.COD_STAT_RAIL_HI, 0, 1)]; (msCycles 50 ≤ s.dev.since s.dev.cod.railClk)) := by
  decide +kernel

theorem witness_InputsServoAndJack :
    (let s : State := cod5 [(R.COD_MIC1_GAIN_GAIN, 0, 20)]; let mic : Fin 2 := 0; let now := smGet (fun _ => 0) s.dev.cod.pga mic; let target := if mic.val = 0 then s.dev.fget R.COD_MIC1_GAIN_GAIN else s.dev.fget R.COD_MIC2_GAIN_GAIN; let last := smGet (fun _ => 0) s.dev.cod.pgaClk mic; let crossed := last + 1 < smGet (fun _ => 0) s.dev.fab.zero mic; (now ≠ target) ∧ (crossed ∨ msCycles 2 ≤ s.dev.since last)) ∧
    (let s : State := st [(R.COD_MIC2_GAIN_GAIN, 0, 0)]; let mic : Fin 2 := 1; let now := smGet (fun _ => 0) s.dev.cod.pga mic; let target := if mic.val = 0 then s.dev.fget R.COD_MIC1_GAIN_GAIN else s.dev.fget R.COD_MIC2_GAIN_GAIN; let last := smGet (fun _ => 0) s.dev.cod.pgaClk mic; let crossed := last + 1 < smGet (fun _ => 0) s.dev.fab.zero mic; (now = target ∨ ¬ crossed ∧ s.dev.since last < msCycles 2)) ∧
    (let s : State := on (cod5 []) (fun d => d.updCod (fun c => { c with adcClk := [(3, 9)] })); let ch : Fin 4 := 3; (smGet (fun _ => 0) s.dev.cod.adcClk ch ≠ 0) ∧ (msCycles 20 ≤ s.dev.time.clk + 1 - smGet (fun _ => 0) s.dev.cod.adcClk ch)) ∧
    (let s : State := on (cod5 [(R.COD_SERVO_BG_EN, 0, 1), (R.COD_STAT_HP, 0, 4)]) (fun d => d.updServo 1 (fun v => { v with win := 7 })); let mic : Fin 2 := 1; let v := s.dev.servoOf mic; let servo := s.dev.fget R.COD_SERVO_BG_EN = 1 ∧ s.dev.fget R.COD_STAT_HP = 4 ∧ v.win ≠ 0 ∧ msCycles 20 ≤ s.dev.time.clk + 1 - v.win; (servo) ∧ (v.first = none)) ∧
    (let s : State := on (cod5 [(R.COD_SERVO_BG_EN, 0, 1), (R.COD_STAT_HP, 0, 4)]) (fun d => d.updServo 1 (fun v => { v with win := 7, first := some 4 })); let mic : Fin 2 := 1; let m : Int := 4; let mean : Int := 90; let v := s.dev.servoOf mic; let servo := s.dev.fget R.COD_SERVO_BG_EN = 1 ∧ s.dev.fget R.COD_STAT_HP = 4 ∧ v.win ≠ 0 ∧ msCycles 20 ≤ s.dev.time.clk + 1 - v.win; (servo) ∧ (v.first = some m) ∧ (50 < (m - mean).natAbs)) ∧
    (let s : State := on (cod5 [(R.COD_SERVO_BG_EN, 0, 1), (R.COD_STAT_HP, 0, 4)]) (fun d => d.updServo 1 (fun v => { v with win := 7, first := some 60 })); let mic : Fin 2 := 1; let m : Int := 60; let mean : Int := 90; let v := s.dev.servoOf mic; let servo := s.dev.fget R.COD_SERVO_BG_EN = 1 ∧ s.dev.fget R.COD_STAT_HP = 4 ∧ v.win ≠ 0 ∧ msCycles 20 ≤ s.dev.time.clk + 1 - v.win; (servo) ∧ (v.first = some m) ∧ ((m - mean).natAbs ≤ 50) ∧ (50 < (divNearInt (m + mean) 2).natAbs) ∧ ((s.dev.fgetI (ofsField mic) - divNearInt (m + mean) 2).natAbs ≤ 10000)) ∧
    (let s : State := on (cod5 [(R.COD_SERVO_BG_EN, 0, 1), (R.COD_STAT_HP, 0, 4)]) (fun d => d.updServo 1 (fun v => { v with win := 4999999999 })); let mic : Fin 2 := 1; let v := s.dev.servoOf mic; let servo := s.dev.fget R.COD_SERVO_BG_EN = 1 ∧ s.dev.fget R.COD_STAT_HP = 4 ∧ v.win ≠ 0 ∧ msCycles 20 ≤ s.dev.time.clk + 1 - v.win; (¬ servo)) ∧
    (let s : State := on (cod5 [(R.COD_SERVO_BG_EN, 0, 1), (R.COD_STAT_HP, 0, 4), (R.COD_HP_OFS_R_OFS, 0, 0xFFF0)]) (fun d => d.updServo 1 (fun v => { v with todo := -33, quiet := 7 })); let mic : Fin 2 := 1; let v := s.dev.servoOf mic; (s.dev.fget R.COD_SERVO_BG_EN = 1) ∧ (s.dev.servoSilent mic = true) ∧ (s.dev.fget R.COD_STAT_HP = 4) ∧ (v.todo ≠ 0) ∧ (msCycles 1 ≤ s.dev.since v.clk)) ∧
    (let s : State := on (cod5 [(R.COD_SERVO_BG_EN, 0, 1), (R.COD_STAT_HP, 0, 4)]) (fun d => d.updServo 1 (fun v => { v with todo := -33, quiet := 0 })); let mic : Fin 2 := 1; let v := s.dev.servoOf mic; (s.dev.fget R.COD_SERVO_BG_EN ≠ 1 ∨ s.dev.servoSilent mic = false ∨ s.dev.since v.clk < msCycles 1)) ∧
    (let s : State := jack [(R.COD_STAT_HP, 0, 0), (R.JCK_CFG_POL, 0, 1)] {}; let level : Bool := true; let held : Nat := 2500; let here := level = s.dev.fbit R.JCK_CFG_POL; (s.dev.fget R.JCK_CFG_EN = 1) ∧ (here) ∧ (s.dev.fget R.JCK_STAT_INSERTED = 0) ∧ (10 * s.dev.fget R.JCK_DEB_INS ≤ held)) ∧
    (let s : State := jack [(R.COD_STAT_HP, 0, 0)] {}; let level : Bool := true; let held : Nat := 5; let here := level = s.dev.fbit R.JCK_CFG_POL; (¬ here ∨ held < 10 * s.dev.fget R.JCK_DEB_INS)) ∧
    (let s : State := jack [(R.JCK_STAT_INSERTED, 0, 1), (R.JCK_CFG_POL, 0, 1)] {}; let level : Bool := true; let held : Nat := 500; let here := level = s.dev.fbit R.JCK_CFG_POL; (here ∨ held < s.dev.fget R.JCK_DEB_REM)) ∧
    (let s : State := jack [(R.JCK_STAT_INSERTED, 0, 1), (R.JCK_STAT_BTN, 0, 4), (R.COD_STAT_HP, 0, 4)] { press := [(2, 7), (1, 8)] }; let level : Bool := true; let held : Nat := 255; let here := level = s.dev.fbit R.JCK_CFG_POL; (s.dev.fget R.JCK_STAT_INSERTED = 1) ∧ (¬ here) ∧ (s.dev.fget R.JCK_DEB_REM ≤ held)) ∧
    (let s : State := jack [(R.JCK_STAT_INSERTED, 0, 1), (R.JCK_STAT_CLASS, 0, 6), (R.COD_STAT_HP, 0, 5)] { clk := 4999999000 }; (s.dev.fget R.JCK_STAT_CLASS ≠ 6 ∨ s.dev.since s.dev.jck.clk < msCycles 2)) ∧
    (let s : State := jack [(R.JCK_STAT_INSERTED, 0, 1), (R.JCK_STAT_CLASS, 0, 6), (R.COD_STAT_HP, 0, 5)] { clk := 4999000000 }; (s.dev.fget R.JCK_STAT_CLASS = 6) ∧ (msCycles 2 ≤ s.dev.since s.dev.jck.clk) ∧ (s.dev.since s.dev.jck.clk < msCycles 6) ∧ (s.dev.jck.load = none)) ∧
    (let s : State := jack [(R.JCK_STAT_INSERTED, 0, 1), (R.JCK_STAT_CLASS, 0, 6), (R.COD_STAT_HP, 0, 5)] { held := some 2 }; (s.dev.fget R.JCK_STAT_CLASS = 6) ∧ (msCycles 6 ≤ s.dev.since s.dev.jck.clk)) ∧
    (let s : State := jack [(R.JCK_STAT_INSERTED, 0, 1), (R.JCK_STAT_CLASS, 0, 2), (R.JCK_STAT_BTN, 0, 1), (R.COD_STAT_HP, 0, 4)] { held := some 2 }; (s.dev.fget R.JCK_CFG_EN = 1) ∧ (s.dev.fget R.JCK_STAT_INSERTED = 1)) ∧
    (let s : State := jack [(R.JCK_STAT_INSERTED, 0, 0), (R.JCK_STAT_CLASS, 0, 2), (R.JCK_STAT_BTN, 0, 1), (R.COD_STAT_HP, 0, 4)] { held := some 2 }; (s.dev.fget R.JCK_STAT_INSERTED = 0)) ∧
    (let s : State := jack [(R.JCK_STAT_CLASS, 0, 2), (R.JCK_BTN_TIME_DEB, 0, 20)] { held := some 2 }; let ohm : Option Nat := (some 300); let w := s.dev.btnWindow ohm; let run := if w = s.dev.jck.win then min (s.dev.jck.run + 1) 256 else 1; let headset := s.dev.fget R.JCK_CFG_BTN_EN = 1 ∧ (s.dev.fget R.JCK_STAT_CLASS = 2 ∨ s.dev.fget R.JCK_STAT_CLASS = 3); (headset) ∧ (run < s.dev.fget R.JCK_BTN_TIME_DEB)) ∧
    (let s : State := jack [(R.JCK_STAT_CLASS, 0, 3), (R.JCK_BTN_TIME_DEB, 0, 20), (R.JCK_BTN_LO, 1, 50), (R.JCK_BTN_HI, 1, 70)] { win := 1, run := 19 }; let ohm : Option Nat := (some 300); let w := s.dev.btnWindow ohm; let run := if w = s.dev.jck.win then min (s.dev.jck.run + 1) 256 else 1; let headset := s.dev.fget R.JCK_CFG_BTN_EN = 1 ∧ (s.dev.fget R.JCK_STAT_CLASS = 2 ∨ s.dev.fget R.JCK_STAT_CLASS = 3); (headset) ∧ (s.dev.fget R.JCK_BTN_TIME_DEB ≤ run) ∧ (w < 4) ∧ (s.dev.jck.held = none)) ∧
    (let s : State := jack [(R.JCK_STAT_CLASS, 0, 3), (R.JCK_STAT_BTN, 0, 4), (R.JCK_BTN_TIME_DEB, 0, 20), (R.JCK_BTN_LO, 1, 50), (R.JCK_BTN_HI, 1, 70)] { win := 1, run := 19, held := some 2, press := [(2, 7)] }; let ohm : Option Nat := (some 300); let b : Nat := 2; let w := s.dev.btnWindow ohm; let run := if w = s.dev.jck.win then min (s.dev.jck.run + 1) 256 else 1; let headset := s.dev.fget R.JCK_CFG_BTN_EN = 1 ∧ (s.dev.fget R.JCK_STAT_CLASS = 2 ∨ s.dev.fget R.JCK_STAT_CLASS = 3); (headset) ∧ (s.dev.fget R.JCK_BTN_TIME_DEB ≤ run) ∧ (w < 4) ∧ (s.dev.jck.held = some b) ∧ (b ≠ w)) ∧
    (let s : State := jack [(R.JCK_STAT_CLASS, 0, 3), (R.JCK_BTN_TIME_DEB, 0, 20), (R.JCK_STAT_BTN, 0, 6)] { held := some 2, win := 4, run := 19 }; let ohm : Option Nat := none; let b : Nat := 2; let w := s.dev.btnWindow ohm; let run := if w = s.dev.jck.win then min (s.dev.jck.run + 1) 256 else 1; let headset := s.dev.fget R.JCK_CFG_BTN_EN = 1 ∧ (s.dev.fget R.JCK_STAT_CLASS = 2 ∨ s.dev.fget R.JCK_STAT_CLASS = 3); (headset) ∧ (s.dev.fget R.JCK_BTN_TIME_DEB ≤ run) ∧ (w = 4) ∧ (s.dev.jck.held = some b)) ∧
    (let s : State := jack [(R.JCK_STAT_CLASS, 0, 3), (R.JCK_STAT_BTN, 0, 0)] { held := some 2, press := [(2, 7), (1, 8)] }; let b : Nat := 2; let when : Nat := 7; let rest : List (Nat × Nat) := [(1, 8)]; (s.dev.jck.press = (b, when) :: rest) ∧ (b < 4) ∧ (msCycles (s.dev.fget R.JCK_BTN_TIME_GUARD) ≤ s.dev.since when)) ∧
    (let s : State := jack [(R.JCK_STAT_CLASS, 0, 3), (R.JCK_STAT_BTN, 0, 0), (R.JCK_BTN_TIME_GUARD, 0, 99)] { held := some 2, press := [(2, 4999999999)] }; let b : Nat := 2; let when : Nat := 4999999999; let rest : List (Nat × Nat) := []; (s.dev.jck.press = (b, when) :: rest) ∧ (s.dev.since when < msCycles (s.dev.fget R.JCK_BTN_TIME_GUARD))) := by
  decide +kernel

theorem witness_MixGainsAndRoutes :
    (let s : State := mixAt [] out4; let n : Fin 128 := 9; let i : Fin 8 := 4; let ti := s.dev.termOf n i; let clk := s.dev.time.clk; (ti.ramp.phase = 2) ∧ (ti.ramp.done clk = true)) ∧
    (let s : State := mixAt [] { terms := [(5, ⟨7, 8, ⟨0, -100000, 4999999999, 5, 2⟩⟩)] }; let n : Fin 128 := 9; let i : Fin 8 := 5; let ti := s.dev.termOf n i; let clk := s.dev.time.clk; (ti.ramp.done clk = false)) ∧
    (let s : State := mixAt [] out4; let n : Fin 128 := 9; let m := s.dev.mixOf n; let clk := s.dev.time.clk; (m.ramp.phase = 2) ∧ (m.ramp.done clk = true)) ∧
    (let s : State := mixAt [] {}; let n : Fin 128 := 9; let m := s.dev.mixOf n; (m.ramp.phase ≠ 2)) := by
  decide +kernel

theorem witness_MixEqualiserAndMeters :
    (let s : State := mixAt [(R.MIX_EQ_SEL_BAND, 0, 4), (R.MIX_EQ_SEL_MIX, 0, 9), (R.MIX_EQ_C_HALF, 6, 0xFFFF), (R.MIX_EQ_C_HALF, 7, 3)] {}; let j : Fin 5 := 3; let w (j : Nat) : Nat := s.dev.fget R.MIX_EQ_C_HALF (2 * j) * 65536 + s.dev.fget R.MIX_EQ_C_HALF (2 * j + 1); let ok := eqStable (sgn 32 (w 3)) (sgn 32 (w 4)) = true; (ok)) ∧
    (let s : State := mixAt [(R.MIX_EQ_SEL_BAND, 0, 4), (R.MIX_EQ_SEL_MIX, 0, 9), (R.MIX_EQ_C_HALF, 6, 0x1000), (R.MIX_EQ_C_HALF, 7, 3)] {}; let j : Fin 5 := 3; let w (j : Nat) : Nat := s.dev.fget R.MIX_EQ_C_HALF (2 * j) * 65536 + s.dev.fget R.MIX_EQ_C_HALF (2 * j + 1); let ok := eqStable (sgn 32 (w 3)) (sgn 32 (w 4)) = true; (¬ ok)) ∧
    (let s : State := mixAt [(R.CLK_STAT_APL, 0, 1)] {}; let runs := s.dev.audClocked = true ∧ s.dev.splStopped = false; (¬ runs)) ∧
    (let s : State := on (mixAt [(R.JCK_CFG_BTN_MUTE, 0, 1), (R.JCK_STAT_BTN, 0, 2)] {}) (fun d => { d with fab := { rise := 3, mute := 9, mic := [(1, -4)] } }); let runs := s.dev.audClocked = true ∧ s.dev.splStopped = false; (runs)) ∧
    (let s : State := mixAt [] { clips := 65535, hold := 4, line := List.replicate 60 (-9000000) }; let n : Fin 128 := 9; let runs := s.dev.audClocked = true ∧ s.dev.splStopped = false; (runs) ∧ (s.dev.fbit R.MXT_CTL_EN n = true) ∧ (s.dev.fbit R.MXT_CTL_LIM_EN n = false)) ∧
    (let s : State := on (mixAt [] {}) (fun d => d.updMix 8 (fun m => { m with mags := [5000, 3000] })); let n : Fin 128 := 8; let runs := s.dev.audClocked = true ∧ s.dev.splStopped = false; let m := s.dev.mixOf n; (runs) ∧ (s.dev.fbit R.MXT_CTL_EN n = false) ∧ (m.sink = none) ∧ (m.mags ≠ [])) ∧
    (let s : State := on (mixAt [(R.COD_STAT_HP, 0, 4)] {}) (fun d => { d with fab := { dac := [(1, List.replicate 60 8000000)] } }); let runs := s.dev.audClocked = true ∧ s.dev.splStopped = false; let later := s.dev.time.clk + Config.sysPerMs / 2; let ahead (k : Nat) : Int := scaled (({ s.dev with time := { s.dev.time with clk := later } } : Dev).dacGain k) ((smGet (fun _ => []) s.dev.fab.dac k).getD (s.dev.fabFrames 1100 - s.dev.fabFrames 500 - 1) 0); (runs) ∧ (s.dev.railAsks (ahead 0) = true ∨ s.dev.railAsks (ahead 1) = true)) := by
  decide +kernel

theorem witness_PortFrames :
    (let s : State := on (portAt 3 [] {}) (fun d => d.fput R.CLK_STAT_APL 0 1); (s.dev.audClocked = false)) ∧
    (let s : State := portAt 1 [] { sent := [5], dout := [some 4], fall := 9 }; let n : Fin 3 := 1; let p := s.dev.portOf n; let st := s.dev.portState n; (s.dev.audClocked = true) ∧ (st ≠ 2) ∧ (st ≠ 3) ∧ (p.fall = 0 ∨ msCycles 1 ≤ s.dev.since (p.fall - 1))) ∧
    (let s : State := portAt 4 (masked) { sent := [5, 9, 70000], dout := [some 4], fall := 4999990000 }; let n : Fin 3 := 1; let p := s.dev.portOf n; let st := s.dev.portState n; (s.dev.audClocked = true) ∧ (st ≠ 2) ∧ (st ≠ 3) ∧ (p.fall ≠ 0) ∧ (s.dev.since (p.fall - 1) < msCycles 1)) ∧
    (let s : State := portAt 2 masked {}; let n : Fin 3 := 1; let f : PortFrame := ({ din := [1, 2, 3, 4], unsent := 1, late := [-1, 2, 300000, 4] }); let p := s.dev.portOf n; let st := s.dev.portState n; let ripe := p.maskAt = 0 ∨ ((s.dev.portMeasure n f.rate f.bpf).ratioFrame n).bclkCycles n ≤ s.dev.time.clk + 1 - p.maskAt; (ripe) ∧ (s.dev.audClocked = true) ∧ (st = 2 ∨ st = 3)) ∧
    (let s : State := portAt 2 masked { txFill := 3, txHist := (List.range 9).map (fun k => (k, [(k : Int) * 70000, 4, -300000, 5])) }; let n : Fin 3 := 1; let f : PortFrame := ({ din := [1, 2, 3, 4], unsent := 1, late := [-1, 2, 300000, 4] }); let p := s.dev.portOf n; let st := s.dev.portState n; let mask := s.dev.fget R.P_TXMASK_HI_MASK n * 65536 + s.dev.fget R.P_TXMASK_LO_MASK n; let ripe := p.maskAt = 0 ∨ ((s.dev.portMeasure n f.rate f.bpf).ratioFrame n).bclkCycles n ≤ s.dev.time.clk + 1 - p.maskAt; let plain := ripe ∧ s.dev.audClocked = true ∧ s.dev.prt.held = false ∧ p.fall = 0 ∧ s.dev.fbit R.P_CFG_MASTER n = true ∧ s.dev.fbit R.P_CFG_GRP n = false ∧ s.dev.fget R.PRT_LEAD_SRC ≠ n + 1 ∧ mask ≠ 0 ∧ s.dev.asrcNeeds (2 * n + 2) = false ∧ (∀ k : Fin 3, (s.dev.portOf k).wait = false); (plain) ∧ (st = 2) ∧ (p.ramp = 0) ∧ (p.shift = 0) ∧ (s.dev.splStopped = false)) ∧
    (let s : State := on (portAt 3 (masked ++ [(R.P_RXMASK_LO_MASK, 1, 3), (R.CLK_STAT_SPL, 0, 1)]) { txFill := 3, sent := [48000, 5, -96000] }) (fun d => { d with fab := { stop := 4999900000 } }); let n : Fin 3 := 1; let f : PortFrame := ({ din := [1, 2, 3, 4], unsent := 1, late := [-1, 2, 300000, 4] }); let p := s.dev.portOf n; let st := s.dev.portState n; let mask := s.dev.fget R.P_TXMASK_HI_MASK n * 65536 + s.dev.fget R.P_TXMASK_LO_MASK n; let ripe := p.maskAt = 0 ∨ ((s.dev.portMeasure n f.rate f.bpf).ratioFrame n).bclkCycles n ≤ s.dev.time.clk + 1 - p.maskAt; let plain := ripe ∧ s.dev.audClocked = true ∧ s.dev.prt.held = false ∧ p.fall = 0 ∧ s.dev.fbit R.P_CFG_MASTER n = true ∧ s.dev.fbit R.P_CFG_GRP n = false ∧ s.dev.fget R.PRT_LEAD_SRC ≠ n + 1 ∧ mask ≠ 0 ∧ s.dev.asrcNeeds (2 * n + 2) = false ∧ (∀ k : Fin 3, (s.dev.portOf k).wait = false); (plain) ∧ (st = 3) ∧ (s.dev.splStopped = true)) ∧
    (let s : State := portAt 3 masked {}; let n : Fin 3 := 1; let f : PortFrame := ({ din := [1, 2, 3, 4], unsent := 1, late := [-1, 2, 300000, 4] }); let p := s.dev.portOf n; let st := s.dev.portState n; let mask := s.dev.fget R.P_TXMASK_HI_MASK n * 65536 + s.dev.fget R.P_TXMASK_LO_MASK n; let ripe := p.maskAt = 0 ∨ ((s.dev.portMeasure n f.rate f.bpf).ratioFrame n).bclkCycles n ≤ s.dev.time.clk + 1 - p.maskAt; let plain := ripe ∧ s.dev.audClocked = true ∧ s.dev.prt.held = false ∧ p.fall = 0 ∧ s.dev.fbit R.P_CFG_MASTER n = true ∧ s.dev.fbit R.P_CFG_GRP n = false ∧ s.dev.fget R.PRT_LEAD_SRC ≠ n + 1 ∧ mask ≠ 0 ∧ s.dev.asrcNeeds (2 * n + 2) = false ∧ (∀ k : Fin 3, (s.dev.portOf k).wait = false); let alone := plain ∧ st = 3 ∧ s.dev.splStopped = false ∧ p.txPrime = false; (alone) ∧ (s.dev.fbit R.P_CFG_LEGACY n = false) ∧ (p.txFill = 0)) ∧
    (let s : State := portAt 3 (masked ++ [(R.P_CFG_LEGACY, 1, 1)]) { shift := 1 }; let n : Fin 3 := 1; let f : PortFrame := ({ din := [1, 2, 3, 4], unsent := 1, late := [-1, 2, 300000, 4] }); let p := s.dev.portOf n; let st := s.dev.portState n; let mask := s.dev.fget R.P_TXMASK_HI_MASK n * 65536 + s.dev.fget R.P_TXMASK_LO_MASK n; let rx := s.dev.fget R.P_RXMASK_HI_MASK n * 65536 + s.dev.fget R.P_RXMASK_LO_MASK n; let d1 := s.dev.updPort n (fun p => { p with txMask := mask, rxMask := rx }); let ripe := p.maskAt = 0 ∨ ((s.dev.portMeasure n f.rate f.bpf).ratioFrame n).bclkCycles n ≤ s.dev.time.clk + 1 - p.maskAt; let plain := ripe ∧ s.dev.audClocked = true ∧ s.dev.prt.held = false ∧ p.fall = 0 ∧ s.dev.fbit R.P_CFG_MASTER n = true ∧ s.dev.fbit R.P_CFG_GRP n = false ∧ s.dev.fget R.PRT_LEAD_SRC ≠ n + 1 ∧ mask ≠ 0 ∧ s.dev.asrcNeeds (2 * n + 2) = false ∧ (∀ k : Fin 3, (s.dev.portOf k).wait = false); let alone := plain ∧ st = 3 ∧ s.dev.splStopped = false ∧ p.txPrime = false; (alone) ∧ (s.dev.fbit R.P_CFG_LEGACY n = true) ∧ (p.txFill = 0) ∧ (f.unsent ≠ 0) ∧ (f.unsent < (d1.sentSlots n).length)) ∧
    (let s : State := portAt 3 (masked ++ [(R.P_CFG_LEGACY, 1, 1)]) { shift := 1, txFill := 4, txHist := (List.range 9).map (fun k => (k, [(k : Int) * 70000, 4, -300000, 5])) }; let n : Fin 3 := 1; let f : PortFrame := ({ din := [1, 2, 3, 4], unsent := 1, late := [-1, 2, 300000, 4] }); let p := s.dev.portOf n; let st := s.dev.portState n; let mask := s.dev.fget R.P_TXMASK_HI_MASK n * 65536 + s.dev.fget R.P_TXMASK_LO_MASK n; let ripe := p.maskAt = 0 ∨ ((s.dev.portMeasure n f.rate f.bpf).ratioFrame n).bclkCycles n ≤ s.dev.time.clk + 1 - p.maskAt; let plain := ripe ∧ s.dev.audClocked = true ∧ s.dev.prt.held = false ∧ p.fall = 0 ∧ s.dev.fbit R.P_CFG_MASTER n = true ∧ s.dev.fbit R.P_CFG_GRP n = false ∧ s.dev.fget R.PRT_LEAD_SRC ≠ n + 1 ∧ mask ≠ 0 ∧ s.dev.asrcNeeds (2 * n + 2) = false ∧ (∀ k : Fin 3, (s.dev.portOf k).wait = false); let alone := plain ∧ st = 3 ∧ s.dev.splStopped = false ∧ p.txPrime = false; (alone) ∧ (0 < p.txFill) ∧ (p.realign = false)) ∧
    (let s : State := portAt 3 (masked ++ [(R.P_RXMASK_LO_MASK, 1, 1)]) { realign := true, txFill := 2, txHist := (List.range 9).map (fun k => (k, [(k : Int) * 70000, 4, -300000, 5])) }; let n : Fin 3 := 1; let f : PortFrame := ({ din := [1, 2, 3, 4], unsent := 1, late := [-1, 2, 300000, 4] }); let p := s.dev.portOf n; let st := s.dev.portState n; let mask := s.dev.fget R.P_TXMASK_HI_MASK n * 65536 + s.dev.fget R.P_TXMASK_LO_MASK n; let ripe := p.maskAt = 0 ∨ ((s.dev.portMeasure n f.rate f.bpf).ratioFrame n).bclkCycles n ≤ s.dev.time.clk + 1 - p.maskAt; let plain := ripe ∧ s.dev.audClocked = true ∧ s.dev.prt.held = false ∧ p.fall = 0 ∧ s.dev.fbit R.P_CFG_MASTER n = true ∧ s.dev.fbit R.P_CFG_GRP n = false ∧ s.dev.fget R.PRT_LEAD_SRC ≠ n + 1 ∧ mask ≠ 0 ∧ s.dev.asrcNeeds (2 * n + 2) = false ∧ (∀ k : Fin 3, (s.dev.portOf k).wait = false); let alone := plain ∧ st = 3 ∧ s.dev.splStopped = false ∧ p.txPrime = false; (alone) ∧ (0 < p.txFill) ∧ (p.realign = true)) ∧
    (let s : State := portAt 3 (masked ++ [(R.P_RXMASK_LO_MASK, 1, 3)]) { rxQueue := [[1], [2], [3]] }; let n : Fin 3 := 1; let f : PortFrame := ({ din := [1, 2, 3, 4], unsent := 1, late := [-1, 2, 300000, 4] }); let p := s.dev.portOf n; let st := s.dev.portState n; let mask := s.dev.fget R.P_TXMASK_HI_MASK n * 65536 + s.dev.fget R.P_TXMASK_LO_MASK n; let rx := s.dev.fget R.P_RXMASK_HI_MASK n * 65536 + s.dev.fget R.P_RXMASK_LO_MASK n; let ripe := p.maskAt = 0 ∨ ((s.dev.portMeasure n f.rate f.bpf).ratioFrame n).bclkCycles n ≤ s.dev.time.clk + 1 - p.maskAt; let plain := ripe ∧ s.dev.audClocked = true ∧ s.dev.prt.held = false ∧ p.fall = 0 ∧ s.dev.fbit R.P_CFG_MASTER n = true ∧ s.dev.fbit R.P_CFG_GRP n = false ∧ s.dev.fget R.PRT_LEAD_SRC ≠ n + 1 ∧ mask ≠ 0 ∧ s.dev.asrcNeeds (2 * n + 2) = false ∧ (∀ k : Fin 3, (s.dev.portOf k).wait = false); let alone := plain ∧ st = 3 ∧ s.dev.splStopped = false ∧ p.txPrime = false; (alone) ∧ (rx ≠ 0) ∧ (s.dev.asrcNeeds (2 * n + 1) = false) ∧ (p.rxQueue.length < 8)) ∧
    (let s : State := portAt 3 (masked ++ [(R.P_RXMASK_LO_MASK, 1, 3)]) { rxQueue := List.replicate 8 [1] }; let n : Fin 3 := 1; let f : PortFrame := ({ din := [1, 2, 3, 4], unsent := 1, late := [-1, 2, 300000, 4] }); let p := s.dev.portOf n; let st := s.dev.portState n; let mask := s.dev.fget R.P_TXMASK_HI_MASK n * 65536 + s.dev.fget R.P_TXMASK_LO_MASK n; let rx := s.dev.fget R.P_RXMASK_HI_MASK n * 65536 + s.dev.fget R.P_RXMASK_LO_MASK n; let ripe := p.maskAt = 0 ∨ ((s.dev.portMeasure n f.rate f.bpf).ratioFrame n).bclkCycles n ≤ s.dev.time.clk + 1 - p.maskAt; let plain := ripe ∧ s.dev.audClocked = true ∧ s.dev.prt.held = false ∧ p.fall = 0 ∧ s.dev.fbit R.P_CFG_MASTER n = true ∧ s.dev.fbit R.P_CFG_GRP n = false ∧ s.dev.fget R.PRT_LEAD_SRC ≠ n + 1 ∧ mask ≠ 0 ∧ s.dev.asrcNeeds (2 * n + 2) = false ∧ (∀ k : Fin 3, (s.dev.portOf k).wait = false); let alone := plain ∧ st = 3 ∧ s.dev.splStopped = false ∧ p.txPrime = false; (alone) ∧ (rx ≠ 0) ∧ (s.dev.asrcNeeds (2 * n + 1) = false) ∧ (8 ≤ p.rxQueue.length)) ∧
    (let s : State := portAt 3 [] { rxQueue := List.replicate 8 [1] }; let n : Fin 3 := 1; let p := s.dev.portOf n; let st := s.dev.portState n; (st = 3) ∧ (8 ≤ p.rxQueue.length)) ∧
    (let s : State := portAt 3 [] { rxQueue := List.replicate 7 [1] }; let n : Fin 3 := 1; let p := s.dev.portOf n; (p.rxQueue.length < 8)) := by
  decide +kernel

theorem witness_PortStatesAndLeader :
    (let s : State := portAt 3 [(R.PRT_ASRC_USER, 0, 0x0300)] {}; let n : Fin 3 := 1; let bclk : Bool := false; let p := s.dev.portOf n; let st := s.dev.portState n; let slave := s.dev.fbit R.P_CFG_MASTER n = false; let gone := (if bclk then Config.sysPerMs / 500 else s.dev.twoFrames n) < s.dev.time.clk + 1 - p.edge; (slave) ∧ (st = 2 ∨ st = 3) ∧ (gone)) ∧
    (let s : State := portAt 3 [] { edge := 4999999990 }; let n : Fin 3 := 1; let bclk : Bool := true; let p := s.dev.portOf n; let st := s.dev.portState n; let slave := s.dev.fbit R.P_CFG_MASTER n = false; let gone := (if bclk then Config.sysPerMs / 500 else s.dev.twoFrames n) < s.dev.time.clk + 1 - p.edge; (slave) ∧ (st = 2 ∨ st = 3) ∧ (¬ gone)) ∧
    (let s : State := portAt 0 [] { offAt := 5000000001 }; let n : Fin 3 := 1; let p := s.dev.portOf n; let st := s.dev.portState n; let slave := s.dev.fbit R.P_CFG_MASTER n = false; (slave) ∧ (st = 0) ∧ (p.offAt = s.dev.time.clk + 1)) ∧
    (let s : State := portAt 3 [(R.P_CFG_MASTER, 1, 1)] {}; let n : Fin 3 := 1; let slave := s.dev.fbit R.P_CFG_MASTER n = false; (¬ slave)) ∧
    (let s : State := portAt 4 [(R.P_FRAME_SLOTS, 1, 31), (R.P_CFG_WIDTH, 1, 3)] { txFill := 4, rxQueue := [[1]] }; let n : Fin 3 := 1; let st := s.dev.portState n; (s.dev.audRuns = true) ∧ (st = 1 ∨ st = 4)) ∧
    (let s : State := portAt 3 [(R.PRT_LEAD_SRC, 0, 2)] { txFill := 4, rxQueue := [[1]] }; let n : Fin 3 := 1; let st := s.dev.portState n; (st ≠ 1) ∧ (st ≠ 4)) ∧
    (let s : State := portAt 2 [(R.P_CFG_GRP, 1, 1)] { txFill := 4, rxQueue := [[1]], ramp := 6 }; let n : Fin 3 := 1; let p := s.dev.portOf n; let st := s.dev.portState n; (st = 2) ∧ (p.ramp ≠ 0) ∧ (msCycles 10 ≤ s.dev.time.clk + 1 - p.ramp)) ∧
    (let s : State := portAt 2 [(R.P_CFG_GRP, 1, 1)] { txFill := 4, rxQueue := [[1]], ramp := 4999999999 }; let n : Fin 3 := 1; let p := s.dev.portOf n; (s.dev.time.clk + 1 - p.ramp < msCycles 10)) ∧
    (let s : State := on (portAt 2 [(R.P_CFG_GRP, 1, 1)] {}) (fun d => d.updPrt (fun p => { p with spd := 2, spdQueue := List.replicate 4 [] })); (s.dev.prt.spd = 2) ∧ (s.dev.asrcsLocked 3 = true) ∧ (4 ≤ s.dev.prt.spdQueue.length ∨ s.dev.asrcNeeds 7 = true)) ∧
    (let s : State := portAt 3 [(R.PRT_LEAD_SRC, 0, 2), (R.P_STAT_SLIPPED, 1, 1)] { txFill := 4, rxQueue := [[1]], shift := 3 }; let n : Fin 3 := 1; let st := s.dev.portState n; (st = 3)) ∧
    (let s : State := portAt 4 [(R.PRT_LEAD_SRC, 0, 2), (R.P_STAT_SLIPPED, 1, 1)] { txFill := 4, rxQueue := [[1]], shift := 3 }; let n : Fin 3 := 1; let st := s.dev.portState n; (st ≠ 3)) ∧
    (let s : State := portAt 2 [(R.PRT_ASRC_USER, 0, 0x0300)] { txFill := 4, rxQueue := [[1]], shift := 3 }; let k : Fin 4 := 2; let u := s.dev.asrcUser k; let ust := if u = 7 then s.dev.prt.spd else s.dev.portState (asrcPort u); (u ≠ 0) ∧ (ust = 2 ∨ ust = 3)) ∧
    (let s : State := portAt 2 [(R.PRT_ASRC_USER, 0, 0x1031)] { txFill := 4, rxQueue := [[1]], shift := 3 }; let k : Fin 4 := 2; let u := s.dev.asrcUser k; (u = 0)) ∧
    (let s : State := portAt 2 [(R.PRT_LEAD_STAT_STATE, 0, 1)] {}; (s.dev.fget R.PRT_LEAD_STAT_STATE = 1) ∧ (2 * Config.sysPerSecond ≤ s.dev.since s.dev.prt.acqClk)) ∧
    (let s : State := portAt 2 [(R.PRT_LEAD_STAT_STATE, 0, 2)] {}; (s.dev.fget R.PRT_LEAD_STAT_STATE ≠ 1)) := by
  decide +kernel

theorem witness_SpdifReceiver :
    (let s : State := portAt 3 [(R.SPD_RX_CFG_EN, 0, 1), (R.PRT_LEAD_SRC, 0, 4)] {}; let lock := s.dev.fbit R.SPD_RX_STAT_LOCK; (s.dev.audRuns = true) ∧ (s.dev.fbit R.SPD_RX_CFG_EN = true) ∧ (lock = false)) ∧
    (let s : State := portAt 3 [(R.SPD_RX_CFG_EN, 0, 0), (R.PRT_ASRC_USER, 0, 0x0070)] {}; let lock := s.dev.fbit R.SPD_RX_STAT_LOCK; (s.dev.fbit R.SPD_RX_CFG_EN = false ∨ lock = true)) ∧
    (let s : State := on (portAt 3 [(R.SPD_RX_STAT_LOCK, 0, 1), (R.SPD_RX_STAT_NONAUDIO, 0, 1), (R.PRT_LEAD_SRC, 0, 4), (R.PRT_LEAD_STAT_STATE, 0, 2)] {}) (fun d => d.updPrt (fun p => { p with leader := 4, spd := 3 })); let still : Bool := false; let lock := s.dev.fbit R.SPD_RX_STAT_LOCK; let gone := (if still then Config.sysPerMs / 500 else 2 * Config.sysPerSecond / max 1 (10 * s.dev.fget R.SPD_RX_FS_FS)) < s.dev.time.clk + 1 - s.dev.prt.spdEdge; (lock = true) ∧ (gone)) ∧
    (let s : State := portAt 3 [] {}; let still : Bool := false; let lock := s.dev.fbit R.SPD_RX_STAT_LOCK; let gone := (if still then Config.sysPerMs / 500 else 2 * Config.sysPerSecond / max 1 (10 * s.dev.fget R.SPD_RX_FS_FS)) < s.dev.time.clk + 1 - s.dev.prt.spdEdge; (lock = false ∨ ¬ gone)) ∧
    (let s : State := on (portAt 3 [(R.SPD_RX_CFG_EN, 0, 0), (R.SPD_RX_CFG_VMUTE, 0, 0), (R.SPD_RX_STAT_LOCK, 0, 1), (R.SPD_RX_PARITY_COUNT, 0, 65534)] {}) (fun d => d.updPrt (fun p => { p with spd := 3, spdQueue := [[1, 2], [3, 4]] })); let lock := s.dev.fbit R.SPD_RX_STAT_LOCK; (lock = true) ∧ (s.dev.audClocked = true) ∧ (s.dev.splStopped = false) ∧ (s.dev.prt.spd = 3) ∧ (s.dev.asrcNeeds 7 = false) ∧ (s.dev.fbit R.SPD_RX_STAT_NONAUDIO = false) ∧ (s.dev.fbit R.SPD_RX_CFG_VMUTE = false) ∧ (s.dev.prt.spdQueue.length < 8)) ∧
    (let s : State := on (portAt 3 [(R.SPD_RX_STAT_LOCK, 0, 1)] {}) (fun d => d.updPrt (fun p => { p with cs := some [], spdV := true })); let old : List Nat := []; let lock := s.dev.fbit R.SPD_RX_STAT_LOCK; (lock = true) ∧ (s.dev.prt.cs = some old)) ∧
    (let s : State := portAt 3 [] {}; let lock := s.dev.fbit R.SPD_RX_STAT_LOCK; (lock = false)) := by
  decide +kernel

theorem witness_CoexistenceSignals :
    (let s : State := link [] {}; let was := s.dev.fbit R.CX_STAT_ACT; (was = false)) ∧
    (let s : State := on (link [(R.CX_STAT_ACT, 0, 1)] {}) (fun d => { d with cx := { d.cx with blank := true } }); let was := s.dev.fbit R.CX_STAT_ACT; (was = true)) ∧
    (let s : State := on (link [] {}) (fun d => { d with cx := { d.cx with blank := true } }); let was := s.dev.fbit R.CX_STAT_ACT; (s.dev.cx.blank = true) ∧ (s.dev.cx.tx = false) ∧ (was = false) ∧ (usCycles 200 ≤ s.dev.since s.dev.cx.rel)) ∧
    (let s : State := on (link [] {}) (fun d => { d with cx := { d.cx with blank := true, tx := true } }); let was := s.dev.fbit R.CX_STAT_ACT; (s.dev.cx.tx = true ∨ was = true ∨ s.dev.since s.dev.cx.rel < usCycles 200)) ∧
    (let s : State := link [] {}; (s.dev.slk.tx = none)) ∧
    (let s : State := link [(R.SLK_HOP_CFG_LBT, 5, 1)] { tx := some (txA 2 5 9), cur := some { req := reqA true } }; let x : SlkTx := (txA 2 5 9); (s.dev.slk.tx = some x) ∧ (x.phase = 2) ∧ (x.isAck = false) ∧ (s.dev.fbit R.SLK_HOP_CFG_LBT x.hop = true)) ∧
    (let s : State := link [] { tx := some { txA 2 5 9 with isAck := true } }; let x : SlkTx := ({ txA 2 5 9 with isAck := true }); (s.dev.slk.tx = some x) ∧ (x.phase = 2) ∧ (usCycles (100 * s.dev.fget R.CX_CFG_GNT_TMO) < s.dev.since x.clk) ∧ (x.isAck = true)) ∧
    (let s : State := link [(R.SLK_HOP_CFG_LBT, 5, 1)] { tx := some (txA 2 5 9), cur := some { req := reqA true } }; let x : SlkTx := (txA 2 5 9); let c : SlkCur := ({ req := reqA true }); (s.dev.slk.tx = some x) ∧ (x.phase = 2) ∧ (usCycles (100 * s.dev.fget R.CX_CFG_GNT_TMO) < s.dev.since x.clk) ∧ (x.isAck = false) ∧ (s.dev.slk.cur = some c) ∧ (c.denied + 1 ≤ s.dev.fget R.SLK_RETRY_MAX)) ∧
    (let s : State := link [(R.SLK_HOP_CFG_LBT, 5, 1)] { tx := some (txA 2 5 9), cur := some { req := reqA true, denied := 3, retries := 1 }, reports := List.replicate 16 [1] }; let x : SlkTx := (txA 2 5 9); let c : SlkCur := ({ req := reqA true, denied := 3, retries := 1 }); (s.dev.slk.tx = some x) ∧ (x.phase = 2) ∧ (usCycles (100 * s.dev.fget R.CX_CFG_GNT_TMO) < s.dev.since x.clk) ∧ (x.isAck = false) ∧ (s.dev.slk.cur = some c) ∧ (s.dev.fget R.SLK_RETRY_MAX < c.denied + 1)) ∧
    (let s : State := link [(R.CX_CFG_EN, 0, 1), (R.CX_CFG_GNT_ABORT, 0, 1)] { tx := some (txA 5 5 99000000000), cur := some { req := reqA true, denied := 3 } }; let x : SlkTx := (txA 5 5 99000000000); let ramp := usCycles (4 * s.dev.fget R.SLK_RAMP_VALUE); (s.dev.slk.tx = some x) ∧ (x.phase = 5) ∧ (s.dev.time.clk + ramp < x.stop) ∧ (s.dev.fbit R.CX_CFG_EN = true) ∧ (s.dev.fbit R.CX_CFG_GNT_ABORT = true)) ∧
    (let s : State := link [(R.CX_CFG_EN, 0, 1), (R.CX_CFG_GNT_ABORT, 0, 1)] {}; (s.dev.slk.tx = none)) := by
  decide +kernel

theorem witness_SiteLinkHostCommands :
    (let s : State := asked 0x60 0x2222C105 [1, 2, 3] (link [] { nextSeq := 255 }); let r : MbxReq := ⟨0x60, 3, 0x2222C105, [1, 2, 3]⟩; let o := r.offset; let on := s.dev.fget R.SLK_CFG_ROLE ≠ 0; let well := r.data.length ≤ 240 ∧ bitAt o 13 = false ∧ bitAt o 7 = false ∧ bitAt o 6 = false; (s.dev.mbxWork 0x60 = some r) ∧ (on) ∧ (well) ∧ (s.dev.slk.queue.length < 8)) ∧
    (let s : State := asked 0x60 0x2222C105 [1, 2, 3] (link [] { nextSeq := 255, queue := List.replicate 8 (reqA true) }); let r : MbxReq := ⟨0x60, 3, 0x2222C105, [1, 2, 3]⟩; let o := r.offset; let on := s.dev.fget R.SLK_CFG_ROLE ≠ 0; let well := r.data.length ≤ 240 ∧ bitAt o 13 = false ∧ bitAt o 7 = false ∧ bitAt o 6 = false; (s.dev.mbxWork 0x60 = some r) ∧ (on) ∧ (well) ∧ (8 ≤ s.dev.slk.queue.length)) ∧
    (let s : State := asked 0x60 0x2222E105 [1, 2, 3] (link [] { nextSeq := 255, queue := List.replicate 8 (reqA true) }); let r : MbxReq := ⟨0x60, 3, 0x2222E105, [1, 2, 3]⟩; let o := r.offset; let on := s.dev.fget R.SLK_CFG_ROLE ≠ 0; let well := r.data.length ≤ 240 ∧ bitAt o 13 = false ∧ bitAt o 7 = false ∧ bitAt o 6 = false; (s.dev.mbxWork 0x60 = some r) ∧ (on) ∧ (¬ well)) ∧
    (let s : State := asked 0x60 0x2222E105 [1, 2, 3] (link [(R.SLK_CFG_ROLE, 0, 0)] {}); let r : MbxReq := ⟨0x60, 3, 0x2222E105, [1, 2, 3]⟩; let on := s.dev.fget R.SLK_CFG_ROLE ≠ 0; (s.dev.mbxWork 0x60 = some r) ∧ (¬ on)) ∧
    (let s : State := asked 0x61 0 [] (link [] { reports := [[4, 5], [6]] }); let r : MbxReq := ⟨0x61, 0, 0, []⟩; let p : List Nat := [4, 5]; let rest : List (List Nat) := [[6]]; let o := r.offset; let on := s.dev.fget R.SLK_CFG_ROLE ≠ 0; (s.dev.mbxWork 0x61 = some r) ∧ (on) ∧ (o = 0) ∧ (s.dev.slk.reports = p :: rest)) ∧
    (let s : State := asked 0x61 0 [] (link [] { reports := [] }); let r : MbxReq := ⟨0x61, 0, 0, []⟩; let o := r.offset; let on := s.dev.fget R.SLK_CFG_ROLE ≠ 0; (s.dev.mbxWork 0x61 = some r) ∧ (on) ∧ (o = 0) ∧ (s.dev.slk.reports = [])) ∧
    (let s : State := asked 0x62 1020 [] (link [] { gw := [(1021, some ⟨5, -800, 7, 8, 9⟩)] }); let r : MbxReq := ⟨0x62, 0, 1020, []⟩; let o := r.offset; let on := s.dev.fget R.SLK_CFG_ROLE ≠ 0; (s.dev.mbxWork 0x62 = some r) ∧ (on) ∧ (o < 1024)) ∧
    (let s : State := asked 0x62 1024 [] (link [] { gw := [(1021, some ⟨5, -800, 7, 8, 9⟩)] }); let r : MbxReq := ⟨0x62, 0, 1024, []⟩; let o := r.offset; let on := s.dev.fget R.SLK_CFG_ROLE ≠ 0; (s.dev.mbxWork 0x62 = some r) ∧ (on) ∧ (1024 ≤ o)) ∧
    (let s : State := link [(R.SLK_STAT_TXQ, 0, 1)] { cur := some { req := reqA true, retries := 2 }, queue := [reqA false], reports := [[1]] }; let c : SlkCur := ({ req := reqA true, retries := 2 }); let q : SlkReq := (reqA false); (s.dev.slk.tx = none) ∧ (s.dev.slk.cur = some c) ∧ (s.dev.slk.queue = [q]) ∧ (s.dev.slk.reports.length < 14)) ∧
    (let s : State := link [(R.SLK_HOP_CAL_VALID, 5, 1), (R.TMP_MAX_TEMP, 0, 400)] {}; (s.dev.domOn 7 = true)) ∧
    (let s : State := link [(R.PWR_DOM_STAT_STATE, 0, 0), (R.SLK_HOP_CAL_VALID, 5, 1), (R.TMP_MAX_TEMP, 0, 400)] {}; (s.dev.domOn 7 = false)) ∧
    (let s : State := link [] { binClk := 49999999999 }; let moved := s.dev.since s.dev.slk.binClk / (60 * Config.sysPerSecond); (moved = 0)) ∧
    (let s : State := link [] { binClk := 30000000000, bins := [(120, 4), (123, 9), (179, 5)] }; let k : Nat := 3; let moved := s.dev.since s.dev.slk.binClk / (60 * Config.sysPerSecond); (1 ≤ moved) ∧ (k + moved < 60) ∧ (smWf (fun _ => 0) s.dev.slk.bins = true)) := by
  decide +kernel

theorem witness_TransmissionAndLedger :
    (let s : State := link [] { runs := true, rx := some (rxA none 0), queue := [reqA true] }; (s.dev.slkOn = false ∨ s.dev.slk.runs = false ∨ s.dev.slk.rx.isSome = true ∨ s.dev.slk.tx.isSome = true ∨ s.dev.slk.ack.isSome = true)) ∧
    (let s : State := link [(R.SLK_STAT_LOCKED, 0, 0)] { runs := true, queue := [reqA true] }; let q : SlkReq := (reqA true); let rest : List SlkReq := []; let ready := s.dev.slkOn = true ∧ s.dev.slk.runs = true ∧ s.dev.slk.rx = none ∧ s.dev.slk.tx = none ∧ s.dev.slk.ack = none ∧ s.dev.slk.cur = none ∧ s.dev.slk.queue = q :: rest; let here := s.dev.slkTuned q.hop = true ∧ s.dev.fbit R.SLK_STAT_LOCKED = true; (ready) ∧ (¬ here)) ∧
    (let s : State := link [(R.SLK_LDG_HI_VALUE, 2, 399)] { runs := true, queue := [reqA true] }; let q : SlkReq := (reqA true); let rest : List SlkReq := []; let tx := s.dev.reqTx q; let js := s.dev.ledgerOf q.hop; let ready := s.dev.slkOn = true ∧ s.dev.slk.runs = true ∧ s.dev.slk.rx = none ∧ s.dev.slk.tx = none ∧ s.dev.slk.ack = none ∧ s.dev.slk.cur = none ∧ s.dev.slk.queue = q :: rest; let here := s.dev.slkTuned q.hop = true ∧ s.dev.fbit R.SLK_STAT_LOCKED = true; let free := s.dev.fbit R.CX_CFG_EN = false ∧ s.dev.fbit R.SLK_HOP_CFG_LBT q.hop = false; let ext := s.dev.fbit R.SLK_PWR_CFG_EXT tx.pwr = true; (ready) ∧ (here) ∧ (free) ∧ (¬ ext) ∧ (js = [])) ∧
    (let s : State := link [] { runs := true, queue := [reqA true], bins := [(125, 3600)], binClk := 45000000000 }; let q : SlkReq := (reqA true); let rest : List SlkReq := []; let j : Nat := 2; let tx := s.dev.reqTx q; let air := (s.dev.airtime tx).2; let js := s.dev.ledgerOf q.hop; let d := s.dev.ledgerMove; let exceeds := js.any (fun j => decide (s.dev.fget R.SLK_LDG_LIM_VALUE j * 360 < d.ledgerUsed j + air)); let ready := s.dev.slkOn = true ∧ s.dev.slk.runs = true ∧ s.dev.slk.rx = none ∧ s.dev.slk.tx = none ∧ s.dev.slk.ack = none ∧ s.dev.slk.cur = none ∧ s.dev.slk.queue = q :: rest; let here := s.dev.slkTuned q.hop = true ∧ s.dev.fbit R.SLK_STAT_LOCKED = true; let free := s.dev.fbit R.CX_CFG_EN = false ∧ s.dev.fbit R.SLK_HOP_CFG_LBT q.hop = false; let ext := s.dev.fbit R.SLK_PWR_CFG_EXT tx.pwr = true; (ready) ∧ (here) ∧ (free) ∧ (¬ ext) ∧ (js ≠ []) ∧ (exceeds = true)) ∧
    (let s : State := link [] { runs := true, queue := [reqA true, reqA false], bins := [(125, 300)] }; let q : SlkReq := (reqA true); let rest : List SlkReq := [reqA false]; let j : Nat := 2; let tx := s.dev.reqTx q; let air := (s.dev.airtime tx).2; let js := s.dev.ledgerOf q.hop; let d := s.dev.ledgerMove; let exceeds := js.any (fun j => decide (s.dev.fget R.SLK_LDG_LIM_VALUE j * 360 < d.ledgerUsed j + air)); let ready := s.dev.slkOn = true ∧ s.dev.slk.runs = true ∧ s.dev.slk.rx = none ∧ s.dev.slk.tx = none ∧ s.dev.slk.ack = none ∧ s.dev.slk.cur = none ∧ s.dev.slk.queue = q :: rest; let here := s.dev.slkTuned q.hop = true ∧ s.dev.fbit R.SLK_STAT_LOCKED = true; let free := s.dev.fbit R.CX_CFG_EN = false ∧ s.dev.fbit R.SLK_HOP_CFG_LBT q.hop = false; let ext := s.dev.fbit R.SLK_PWR_CFG_EXT tx.pwr = true; (ready) ∧ (here) ∧ (free) ∧ (¬ ext) ∧ (j ∈ js) ∧ (exceeds = false)) ∧
    (let s : State := link [(R.SLK_PWR_CFG_EXT, 1, 1)] { runs := true, queue := [reqA true, reqA false], bins := [(125, 300)] }; let q : SlkReq := (reqA true); let rest : List SlkReq := [reqA false]; let tx := s.dev.reqTx q; let ready := s.dev.slkOn = true ∧ s.dev.slk.runs = true ∧ s.dev.slk.rx = none ∧ s.dev.slk.tx = none ∧ s.dev.slk.ack = none ∧ s.dev.slk.cur = none ∧ s.dev.slk.queue = q :: rest; let here := s.dev.slkTuned q.hop = true ∧ s.dev.fbit R.SLK_STAT_LOCKED = true; let free := s.dev.fbit R.CX_CFG_EN = false ∧ s.dev.fbit R.SLK_HOP_CFG_LBT q.hop = false; let ext := s.dev.fbit R.SLK_PWR_CFG_EXT tx.pwr = true; (ready) ∧ (here) ∧ (free) ∧ (ext)) := by
  decide +kernel

theorem witness_TransmissionSteps :
    (let s : State := link [] { ack := some ⟨0x5678, 9, 5, 1, true, 49999999999⟩ }; let a : SlkAck := ⟨0x5678, 9, 5, 1, true, 49999999999⟩; (s.dev.slk.ack = some a) ∧ (s.dev.since a.clk < msCycles 2)) ∧
    (let s : State := link [(R.CX_CFG_EN, 0, 1)] { ack := some ⟨0x5678, 9, 5, 1, true, 9⟩ }; let a : SlkAck := ⟨0x5678, 9, 5, 1, true, 9⟩; (s.dev.slk.ack = some a) ∧ (msCycles 2 ≤ s.dev.since a.clk) ∧ (s.dev.slkOn = true) ∧ (s.dev.slk.tx = none) ∧ (s.dev.slk.rx = none) ∧ (s.dev.slkTuned a.hop = true) ∧ (s.dev.fbit R.SLK_STAT_LOCKED = true) ∧ (s.dev.fbit R.CX_CFG_EN = true) ∧ (s.dev.fbit R.CX_STAT_GNT = false)) ∧
    (let s : State := link [(R.SLK_STAT_LOCKED, 0, 0), (R.SLK_STAT_STATE, 0, 7)] { calib := true }; let stat := s.dev.fget R.SLK_STAT_STATE; (s.dev.fbit R.SLK_STAT_LOCKED = false) ∧ (stat = 1 ∨ stat = 7) ∧ (usCycles 10 ≤ s.dev.since s.dev.slk.hopClk) ∧ (s.dev.slk.tx = none) ∧ (s.dev.slk.calib = true) ∧ (s.dev.slkTuned (s.dev.fget R.SLK_LISTEN_HOP) = true)) ∧
    (let s : State := link [(R.SLK_STAT_LOCKED, 0, 0), (R.SLK_STAT_STATE, 0, 1), (R.CX_CFG_EN, 0, 1), (R.SLK_TX_DEFER_COUNT, 0, 65534)] { tx := some (txA 1 5 9), cur := some { req := reqA true } }; let x : SlkTx := (txA 1 5 9); let stat := s.dev.fget R.SLK_STAT_STATE; let hop := s.dev.fget R.SLK_STAT_HOP; (s.dev.fbit R.SLK_STAT_LOCKED = false) ∧ (stat = 1) ∧ (usCycles 10 ≤ s.dev.since s.dev.slk.hopClk) ∧ (s.dev.slk.calib = false) ∧ (s.dev.slk.tx = some x) ∧ (x.phase = 1) ∧ (x.hop = hop) ∧ (s.dev.fbit R.CX_CFG_EN = true) ∧ (s.dev.fbit R.CX_STAT_GNT = false)) ∧
    (let s : State := link [(R.SLK_STAT_LOCKED, 0, 0), (R.SLK_STAT_STATE, 0, 7)] { calib := true, hopClk := 49999999999 }; (s.dev.fbit R.SLK_STAT_LOCKED = true ∨ s.dev.since s.dev.slk.hopClk < usCycles 10)) ∧
    (let s : State := link [(R.SLK_STAT_LOCKED, 0, 0), (R.SLK_STAT_HOP, 0, 9)] { tx := some (txA 1 5 9), cur := some { req := reqA true } }; let x : SlkTx := (txA 1 5 9); let c : SlkCur := ({ req := reqA true }); (s.dev.slk.tx = some x) ∧ (x.phase = 1) ∧ (usCycles (100 * s.dev.fget R.SLK_LOCK_TMO_VALUE) < s.dev.since x.due) ∧ (x.isAck = false) ∧ (s.dev.slk.cur = some c)) ∧
    (let s : State := link [(R.SLK_STAT_LOCKED, 0, 0), (R.SLK_STAT_HOP, 0, 9)] { tx := some (txA 2 5 9), cur := some { req := reqA true } }; let x : SlkTx := (txA 2 5 9); (s.dev.slk.tx = some x) ∧ (x.phase ≠ 1)) ∧
    (let s : State := link [] { tx := some (txA 3 5 9), cur := some { req := reqA true, busy := 2 } }; let x : SlkTx := (txA 3 5 9); let c : SlkCur := ({ req := reqA true, busy := 2 }); let mean : Int := (-500); let m := mean - s.dev.fgetI R.SLK_RX_GAIN_GAIN; (s.dev.slk.tx = some x) ∧ (x.phase = 3) ∧ (msCycles x.wait / 2 ≤ s.dev.since x.clk) ∧ (-10 * (s.dev.fget R.SLK_LBT_TH : Int) ≤ m) ∧ (s.dev.slk.cur = some c) ∧ (c.busy + 1 < s.dev.fget R.SLK_LBT_TRIES)) ∧
    (let s : State := link [] { tx := some (txA 3 49999999999 9), cur := some { req := reqA true, busy := 2 } }; let x : SlkTx := (txA 3 49999999999 9); (s.dev.slk.tx = some x) ∧ (s.dev.since x.clk < msCycles x.wait / 2)) ∧
    (let s : State := link [] { tx := some (txA 4 5 9), cur := some { req := reqA true, busy := 2 } }; let x : SlkTx := (txA 4 5 9); (s.dev.slk.tx = some x) ∧ (x.phase = 4) ∧ (x.step = 0) ∧ (usCycles (s.dev.fget R.SLK_XPA_ON_D1) ≤ s.dev.since x.clk)) ∧
    (let s : State := link [] { tx := some (txA 6 5 9), paEn := true, cur := some { req := reqA true, busy := 2 } }; let x : SlkTx := (txA 6 5 9); (s.dev.slk.tx = some x) ∧ (x.phase = 6) ∧ (x.step = 0) ∧ (usCycles (s.dev.fget R.SLK_XPA_OFF_D3) ≤ s.dev.since x.clk)) ∧
    (let s : State := link [(R.CX_STAT_REQ, 0, 1)] { tx := some { txA 6 5 9 with step := 1 }, tr := true, cur := some { req := reqA true, busy := 2 } }; let x : SlkTx := ({ txA 6 5 9 with step := 1 }); (s.dev.slk.tx = some x) ∧ (x.phase = 6) ∧ (x.step = 1) ∧ (usCycles (s.dev.fget R.SLK_XPA_OFF_D4) ≤ s.dev.since x.clk)) ∧
    (let s : State := link [(R.CX_STAT_REQ, 0, 1)] { }; (s.dev.slk.tx = none)) := by
  decide +kernel

theorem witness_TransmissionOutcomes :
    (let s : State := on (link [] { tx := some (txA 5 5 49999999999), cur := some { req := reqA true, busy := 2 } }) (fun d => { d with cx := { d.cx with tx := true } }); let x : SlkTx := (txA 5 5 49999999999); let c : SlkCur := ({ req := reqA true, busy := 2 }); let clk := s.dev.time.clk; (s.dev.slk.tx = some x) ∧ (x.phase = 5) ∧ (x.stop ≤ clk) ∧ (x.isAck = false) ∧ (x.cut = none) ∧ (s.dev.fbit R.SLK_PWR_CFG_EXT x.pwr = false) ∧ (s.dev.slk.cur = some c) ∧ (c.req.ack = true)) ∧
    (let s : State := on (link [] { tx := some (txA 5 5 49999999999), cur := some { req := reqA false, busy := 2 } }) (fun d => { d with cx := { d.cx with tx := true } }); let x : SlkTx := (txA 5 5 49999999999); let c : SlkCur := ({ req := reqA false, busy := 2 }); let clk := s.dev.time.clk; (s.dev.slk.tx = some x) ∧ (x.phase = 5) ∧ (x.stop ≤ clk) ∧ (x.isAck = false) ∧ (x.cut = none) ∧ (s.dev.slk.cur = some c) ∧ (c.req.ack = false)) ∧
    (let s : State := link [] { tx := some (txA 5 5 50000000001), cur := some { req := reqA false, busy := 2 } }; let x : SlkTx := (txA 5 5 50000000001); let clk := s.dev.time.clk; (s.dev.slk.tx = some x) ∧ (clk < x.stop)) ∧
    (let s : State := link [] { cur := some { req := reqA true, phase := 1, retries := 1 } }; let c : SlkCur := ({ req := reqA true, phase := 1, retries := 1 }); (s.dev.slk.cur = some c) ∧ (c.phase = 1) ∧ (msCycles (s.dev.fget R.SLK_ACK_TMO) < s.dev.since c.clk) ∧ (c.retries < s.dev.fget R.SLK_RETRY_MAX)) ∧
    (let s : State := link [] { cur := some { req := reqA true, phase := 1, retries := 15 } }; let c : SlkCur := ({ req := reqA true, phase := 1, retries := 15 }); (s.dev.slk.cur = some c) ∧ (c.phase = 1) ∧ (msCycles (s.dev.fget R.SLK_ACK_TMO) < s.dev.since c.clk) ∧ (s.dev.fget R.SLK_RETRY_MAX ≤ c.retries)) ∧
    (let s : State := link [] { cur := some { req := reqA true, phase := 1, retries := 15, clk := 50000000000 } }; let c : SlkCur := ({ req := reqA true, phase := 1, retries := 15, clk := 50000000000 }); (s.dev.slk.cur = some c) ∧ (s.dev.since c.clk ≤ msCycles (s.dev.fget R.SLK_ACK_TMO))) ∧
    (let s : State := link [] { rx := some (rxA none 0), cur := some { req := reqA true, phase := 2, retries := 15, clk := 5, wait := 3 } }; let c : SlkCur := ({ req := reqA true, phase := 2, retries := 15, clk := 5, wait := 3 }); let clk := s.dev.time.clk; (s.dev.slk.cur = some c) ∧ (c.phase = 2) ∧ (c.clk + msCycles c.wait ≤ clk) ∧ (s.dev.slk.rx.isSome = true)) ∧
    (let s : State := link [] { cur := some { req := reqA true, phase := 0, retries := 15 } }; let c : SlkCur := ({ req := reqA true, phase := 0, retries := 15 }); let clk := s.dev.time.clk; (s.dev.slk.cur = some c) ∧ (c.phase ≠ 2 ∨ clk < c.clk + msCycles c.wait)) := by
  decide +kernel

theorem witness_SiteLinkReception :
    (let s : State := link [(R.SLK_HOP_CFG_MODE, 5, 1)] {}; let bits : BitVec 16 := 0xABAA; let hop := s.dev.fget R.SLK_STAT_HOP; let mode := s.dev.fget R.SLK_HOP_CFG_MODE hop; let k := s.dev.slk; let pats := if 3 ≤ mode then [0x7777, 0xDDDD] else [0xAAAA, 0x5555]; let near := ∃ p ∈ pats, weightOf 16 (p ^^^ bits.toNat) ≤ 1; (s.dev.slkHears = true) ∧ (near) ∧ (k.rx = none) ∧ (k.pre = 0)) ∧
    (let s : State := link [(R.SLK_STAT_LOCKED, 0, 0)] {}; let bits : BitVec 16 := 0xAAAB; let hop := s.dev.fget R.SLK_STAT_HOP; let mode := s.dev.fget R.SLK_HOP_CFG_MODE hop; let pats := if 3 ≤ mode then [0x7777, 0xDDDD] else [0xAAAA, 0x5555]; let near := ∃ p ∈ pats, weightOf 16 (p ^^^ bits.toNat) ≤ 1; (s.dev.slkHears = false ∨ ¬ near)) ∧
    (let s : State := link [] { pre := 5 }; let hop := s.dev.fget R.SLK_STAT_HOP; let mode := s.dev.fget R.SLK_HOP_CFG_MODE hop; let k := s.dev.slk; (k.pre ≠ 0) ∧ (k.rx = none) ∧ ((8 * s.dev.fget R.SLK_PHY_PRE + 40) * bitCycles mode < s.dev.time.clk + 1 - k.pre)) ∧
    (let s : State := link [] { pre := 0 }; let hop := s.dev.fget R.SLK_STAT_HOP; let mode := s.dev.fget R.SLK_HOP_CFG_MODE hop; let k := s.dev.slk; (k.pre = 0 ∨ s.dev.time.clk + 1 - k.pre ≤ (8 * s.dev.fget R.SLK_PHY_PRE + 40) * bitCycles mode)) ∧
    (let s : State := link [(R.SLK_SYNC_HI_SYNC, 0, 0x1234), (R.SLK_SYNC_LO_SYNC, 0, 0x5678), (R.SLK_PHY_SYNC_ERR, 0, 1), (R.SLK_RX_GAIN_GAIN, 0, 0xFFF0)] { pre := 5 }; let sync : BitVec 32 := 0x12345670; let k := s.dev.slk; let errors := weightOf 32 ((s.dev.fget R.SLK_SYNC_HI_SYNC * 65536 + s.dev.fget R.SLK_SYNC_LO_SYNC) ^^^ sync.toNat); let heard := s.dev.slkHears = true ∧ errors ≤ s.dev.fget R.SLK_PHY_SYNC_ERR; (heard) ∧ (k.rx = none)) ∧
    (let s : State := link [(R.SLK_SYNC_HI_SYNC, 0, 0x1234), (R.SLK_SYNC_LO_SYNC, 0, 0x5678), (R.SLK_PHY_SYNC_ERR, 0, 1)] { pre := 5 }; let sync : BitVec 32 := 0x1234567B; let errors := weightOf 32 ((s.dev.fget R.SLK_SYNC_HI_SYNC * 65536 + s.dev.fget R.SLK_SYNC_LO_SYNC) ^^^ sync.toNat); (s.dev.fget R.SLK_PHY_SYNC_ERR < errors)) ∧
    (let s : State := link [(R.SLK_SYNC_HI_SYNC, 0, 0x1234), (R.SLK_SYNC_LO_SYNC, 0, 0x5678), (R.SLK_PHY_SYNC_ERR, 0, 2), (R.SLK_CFG_CAPT_EN, 0, 1), (R.SLK_CAPT_DB_VALUE, 0, 10)] { rx := some (rxA none 0) }; let level : Int := (-700); let sync : BitVec 32 := 0x12345670; let r : SlkRx := (rxA none 0); let l := level - s.dev.fgetI R.SLK_RX_GAIN_GAIN; let k := s.dev.slk; let errors := weightOf 32 ((s.dev.fget R.SLK_SYNC_HI_SYNC * 65536 + s.dev.fget R.SLK_SYNC_LO_SYNC) ^^^ sync.toNat); let heard := s.dev.slkHears = true ∧ errors ≤ s.dev.fget R.SLK_PHY_SYNC_ERR; let strong := s.dev.fbit R.SLK_CFG_CAPT_EN = true ∧ r.level + 10 * s.dev.fget R.SLK_CAPT_DB_VALUE ≤ l; let last := r.head.isSome = true ∧ r.stop ≤ s.dev.time.clk; (heard) ∧ (k.rx = some r) ∧ (strong) ∧ (¬ last)) ∧
    (let s : State := link [(R.SLK_SYNC_HI_SYNC, 0, 0x1234), (R.SLK_SYNC_LO_SYNC, 0, 0x5678), (R.SLK_PHY_SYNC_ERR, 0, 2), (R.SLK_CFG_CAPT_EN, 0, 1), (R.SLK_CAPT_DB_VALUE, 0, 10)] { rx := some (rxA (some (7, true)) 5) }; let level : Int := (-700); let sync : BitVec 32 := 0x12345670; let r : SlkRx := (rxA (some (7, true)) 5); let l := level - s.dev.fgetI R.SLK_RX_GAIN_GAIN; let k := s.dev.slk; let errors := weightOf 32 ((s.dev.fget R.SLK_SYNC_HI_SYNC * 65536 + s.dev.fget R.SLK_SYNC_LO_SYNC) ^^^ sync.toNat); let heard := s.dev.slkHears = true ∧ errors ≤ s.dev.fget R.SLK_PHY_SYNC_ERR; let strong := s.dev.fbit R.SLK_CFG_CAPT_EN = true ∧ r.level + 10 * s.dev.fget R.SLK_CAPT_DB_VALUE ≤ l; let last := r.head.isSome = true ∧ r.stop ≤ s.dev.time.clk; (heard) ∧ (k.rx = some r) ∧ (strong) ∧ (last)) ∧
    (let s : State := link [(R.SLK_SYNC_HI_SYNC, 0, 0x1234), (R.SLK_SYNC_LO_SYNC, 0, 0x5678), (R.SLK_PHY_SYNC_ERR, 0, 2), (R.SLK_CFG_CAPT_EN, 0, 1), (R.SLK_CAPT_DB_VALUE, 0, 10)] { rx := some (rxA none 0) }; let level : Int := (-701); let sync : BitVec 32 := 0x12345670; let r : SlkRx := (rxA none 0); let l := level - s.dev.fgetI R.SLK_RX_GAIN_GAIN; let k := s.dev.slk; let errors := weightOf 32 ((s.dev.fget R.SLK_SYNC_HI_SYNC * 65536 + s.dev.fget R.SLK_SYNC_LO_SYNC) ^^^ sync.toNat); let heard := s.dev.slkHears = true ∧ errors ≤ s.dev.fget R.SLK_PHY_SYNC_ERR; (heard) ∧ (k.rx = some r) ∧ (l < r.level + 10 * s.dev.fget R.SLK_CAPT_DB_VALUE)) ∧
    (let s : State := link [] { rx := some (rxA none 0) }; let r : SlkRx := (rxA none 0); let word : BitVec 24 := (BitVec.ofNat 24 (golay 0x078 ^^^ 0x10101)); let info : Nat := 0x078; let k := s.dev.slk; (k.rx = some r) ∧ (r.head = none) ∧ (r.stop ≤ s.dev.time.clk) ∧ (golayDecode word.toNat = some info) ∧ (info % 8 = 0)) ∧
    (let s : State := link [] { rx := some (rxA none 0) }; let r : SlkRx := (rxA none 0); let word : BitVec 24 := (BitVec.ofNat 24 (golay 0x079 ^^^ 0x10101)); let info : Nat := 0x079; let k := s.dev.slk; (k.rx = some r) ∧ (r.head = none) ∧ (r.stop ≤ s.dev.time.clk) ∧ (golayDecode word.toNat = none ∨ (golayDecode word.toNat = some info ∧ info % 8 ≠ 0))) ∧
    (let s : State := link [] { rx := some (rxA none 50000000001) }; let r : SlkRx := (rxA none 50000000001); let k := s.dev.slk; (k.rx = some r) ∧ (s.dev.time.clk < r.stop)) ∧
    (let s : State := link [] { rx := some (rxA (some (7, true)) 50000000000) }; let r : SlkRx := (rxA (some (7, true)) 50000000000); let len : Nat := 7; let decoded : List Byte := decA; let r23 : Bool := true; let k := s.dev.slk; let clear := bytesOf (len + 2) (whiten (decoded.map BitVec.toNat)); let p := clear.take len; let ended := k.prev = none ∧ k.rx = some r ∧ r.head = some (len, r23) ∧ r.stop ≤ s.dev.time.clk ∧ decoded.length = len + 2; let src := ofBe ((p.drop 4).take 2); (ended) ∧ (crc16 p = ofBe (clear.drop len)) ∧ (6 ≤ len) ∧ (len ≤ 246) ∧ (p.getD 0 0 / 64 = 0) ∧ (ofBe ((p.drop 2).take 2) = s.dev.fget R.SLK_ADDR_ADDR) ∧ (s.dev.fget R.SLK_ADDR_ADDR ≠ 0) ∧ (smGet (fun _ => none) k.last src = none)) ∧
    (let s : State := link [(R.SLK_CFG_ROLE, 0, 2)] { rx := some (rxA (some (7, true)) 50000000000), last := [(0x5678, some (9, 50000000000))] }; let r : SlkRx := (rxA (some (7, true)) 50000000000); let len : Nat := 7; let decoded : List Byte := decA; let r23 : Bool := true; let k := s.dev.slk; let clear := bytesOf (len + 2) (whiten (decoded.map BitVec.toNat)); let p := clear.take len; let ended := k.prev = none ∧ k.rx = some r ∧ r.head = some (len, r23) ∧ r.stop ≤ s.dev.time.clk ∧ decoded.length = len + 2; let src := ofBe ((p.drop 4).take 2); (ended) ∧ (crc16 p = ofBe (clear.drop len)) ∧ (6 ≤ len) ∧ (len ≤ 246) ∧ (p.getD 0 0 / 64 = 0) ∧ (ofBe ((p.drop 2).take 2) = s.dev.fget R.SLK_ADDR_ADDR) ∧ (s.dev.fget R.SLK_ADDR_ADDR ≠ 0) ∧ (smGet (fun _ => none) k.last src = some (p.getD 1 0, s.dev.time.clk))) ∧
    (let s : State := link [(R.SLK_CFG_ROLE, 0, 2)] { rx := some (rxA (some (7, true)) 50000000000) }; let r : SlkRx := (rxA (some (7, true)) 50000000000); let len : Nat := 7; let decoded : List Byte := (decA.set 0 0); let r23 : Bool := true; let k := s.dev.slk; let clear := bytesOf (len + 2) (whiten (decoded.map BitVec.toNat)); let p := clear.take len; let ended := k.prev = none ∧ k.rx = some r ∧ r.head = some (len, r23) ∧ r.stop ≤ s.dev.time.clk ∧ decoded.length = len + 2; (ended) ∧ (crc16 p ≠ ofBe (clear.drop len))) ∧
    (let s : State := link [] {}; let r : SlkRx := (rxA none 0); let k := s.dev.slk; (k.prev = none) ∧ (k.rx = none ∨ (k.rx = some r ∧ s.dev.time.clk < r.stop))) ∧
    (let s : State := link [] {}; let k := s.dev.slk; (s.dev.slkHears = true) ∧ (k.rx = none) ∧ (k.noiseClk + msCycles 5 ≤ s.dev.time.clk)) ∧
    (let s : State := link [(R.SLK_STAT_LOCKED, 0, 0)] {}; let k := s.dev.slk; (s.dev.slkHears = false ∨ s.dev.time.clk < k.noiseClk + msCycles 5)) := by
  decide +kernel

theorem witness_PllLocks :
    (let s : State := clkAt [(R.CLK_STAT_SPL, 0, 2)] {}; (s.dev.fget R.CLK_STAT_SPL ≠ 0) ∧ (s.dev.fget R.CLK_STAT_SPL ≠ 1)) ∧
    (let s : State := clkAt [] {}; (s.dev.fget R.CLK_STAT_SPL = 0 ∨ s.dev.fget R.CLK_STAT_SPL = 1)) ∧
    (let s : State := clkAt [(R.CLK_STAT_APL, 0, 2), (R.COD_STAT_HP, 0, 4)] {}; (s.dev.fget R.CLK_STAT_APL ≠ 0) ∧ (s.dev.fget R.CLK_STAT_APL ≠ 1)) ∧
    (let s : State := clkAt [(R.CLK_STAT_SPL, 0, 2)] { spl := { want := true } }; let p : Pll := .spl; let v := s.dev.pll p; (v.want = true) ∧ (p = .spl ∨ s.dev.aplMayStop = true)) ∧
    (let s : State := clkAt [(R.CLK_STAT_APL, 0, 1)] { spl := { want := true } }; let p : Pll := .apl; let v := s.dev.pll p; (v.want = false)) ∧
    (let s : State := clkAt [(R.CLK_STAT_SPL, 0, 1), (R.CLK_SPL_LOCK_WIN, 0, 4), (R.CLK_SPL_LOCK_GOOD, 0, 4)] { }; let p : Pll := .spl; let count : Nat := 61440; let v := s.dev.pll p; let st := s.dev.fget (pllField p); let cfg (a b : Fld) := s.dev.lockCfg p a b; let w := 2 ^ (8 + cfg R.CLK_SPL_LOCK_WIN R.CLK_APL_LOCK_WIN); let good := ((count : Int) - s.dev.lockExpected p w).natAbs ≤ cfg R.CLK_SPL_LOCK_TOL R.CLK_APL_LOCK_TOL; let clk := s.dev.time.clk; let full := v.winClk + 6 * w ≤ clk; (full) ∧ (st = 1) ∧ (good) ∧ (v.good + 1 < cfg R.CLK_SPL_LOCK_GOOD R.CLK_APL_LOCK_GOOD)) ∧
    (let s : State := clkAt [(R.CLK_STAT_SPL, 0, 1), (R.CLK_SPL_LOCK_WIN, 0, 4), (R.CLK_SPL_LOCK_GOOD, 0, 4), (R.CLK_SPL_LOCK_TOL, 0, 1)] { spl := { good := 3 } }; let p : Pll := .spl; let count : Nat := 61441; let v := s.dev.pll p; let st := s.dev.fget (pllField p); let cfg (a b : Fld) := s.dev.lockCfg p a b; let w := 2 ^ (8 + cfg R.CLK_SPL_LOCK_WIN R.CLK_APL_LOCK_WIN); let good := ((count : Int) - s.dev.lockExpected p w).natAbs ≤ cfg R.CLK_SPL_LOCK_TOL R.CLK_APL_LOCK_TOL; let clk := s.dev.time.clk; let full := v.winClk + 6 * w ≤ clk; (full) ∧ (st = 1) ∧ (good) ∧ (cfg R.CLK_SPL_LOCK_GOOD R.CLK_APL_LOCK_GOOD ≤ v.good + 1)) ∧
    (let s : State := clkAt [(R.CLK_STAT_APL, 0, 1), (R.CLK_APL_LOCK_WIN, 0, 4), (R.CLK_APL_LOCK_GOOD, 0, 4), (R.CLK_APL_LOCK_TOL, 0, 1)] { apl := { good := 3 } }; let p : Pll := .apl; let count : Nat := 4099; let v := s.dev.pll p; let st := s.dev.fget (pllField p); let cfg (a b : Fld) := s.dev.lockCfg p a b; let w := 2 ^ (8 + cfg R.CLK_SPL_LOCK_WIN R.CLK_APL_LOCK_WIN); let good := ((count : Int) - s.dev.lockExpected p w).natAbs ≤ cfg R.CLK_SPL_LOCK_TOL R.CLK_APL_LOCK_TOL; let clk := s.dev.time.clk; let full := v.winClk + 6 * w ≤ clk; (full) ∧ (st = 1) ∧ (¬ good) ∧ (0 < cfg R.CLK_SPL_LOCK_GOOD R.CLK_APL_LOCK_GOOD)) ∧
    (let s : State := clkAt [(R.CLK_STAT_APL, 0, 2), (R.CLK_APL_LOCK_WIN, 0, 4), (R.CLK_APL_LOCK_LOSS, 0, 4), (R.CLK_APL_LOCK_TOL, 0, 1)] { apl := { bad := 3 } }; let p : Pll := .apl; let count : Nat := 4099; let v := s.dev.pll p; let st := s.dev.fget (pllField p); let cfg (a b : Fld) := s.dev.lockCfg p a b; let w := 2 ^ (8 + cfg R.CLK_SPL_LOCK_WIN R.CLK_APL_LOCK_WIN); let good := ((count : Int) - s.dev.lockExpected p w).natAbs ≤ cfg R.CLK_SPL_LOCK_TOL R.CLK_APL_LOCK_TOL; let clk := s.dev.time.clk; let full := v.winClk + 6 * w ≤ clk; (full) ∧ (st = 2) ∧ (¬ good) ∧ (v.want = false) ∧ (cfg R.CLK_SPL_LOCK_LOSS R.CLK_APL_LOCK_LOSS ≤ v.bad + 1)) ∧
    (let s : State := clkAt [(R.CLK_STAT_APL, 0, 2), (R.CLK_APL_LOCK_WIN, 0, 4), (R.CLK_APL_LOCK_LOSS, 0, 4), (R.CLK_APL_LOCK_TOL, 0, 1)] { apl := { bad := 3 } }; let p : Pll := .apl; let count : Nat := 4097; let v := s.dev.pll p; let st := s.dev.fget (pllField p); let cfg (a b : Fld) := s.dev.lockCfg p a b; let w := 2 ^ (8 + cfg R.CLK_SPL_LOCK_WIN R.CLK_APL_LOCK_WIN); let good := ((count : Int) - s.dev.lockExpected p w).natAbs ≤ cfg R.CLK_SPL_LOCK_TOL R.CLK_APL_LOCK_TOL; let clk := s.dev.time.clk; let full := v.winClk + 6 * w ≤ clk; (full) ∧ (st = 2) ∧ (good) ∧ (0 < cfg R.CLK_SPL_LOCK_LOSS R.CLK_APL_LOCK_LOSS)) ∧
    (let s : State := clkAt [(R.CLK_STAT_SPL, 0, 1)] { spl := { winClk := 49999998465 } }; let p : Pll := .spl; let v := s.dev.pll p; let cfg (a b : Fld) := s.dev.lockCfg p a b; let w := 2 ^ (8 + cfg R.CLK_SPL_LOCK_WIN R.CLK_APL_LOCK_WIN); let clk := s.dev.time.clk; let full := v.winClk + 6 * w ≤ clk; (¬ full)) ∧
    (let s : State := clkAt [(R.CLK_STAT_SPL, 0, 1)] { spl := { attempt := 1 } }; let p : Pll := .spl; let v := s.dev.pll p; let st := s.dev.fget (pllField p); let clk := s.dev.time.clk; (st = 1) ∧ (v.bandClk + msCycles 5 ≤ clk) ∧ (v.attempt < 2)) ∧
    (let s : State := clkAt [(R.CLK_STAT_SPL, 0, 1)] { spl := { attempt := 2 } }; let p : Pll := .spl; let v := s.dev.pll p; let st := s.dev.fget (pllField p); let clk := s.dev.time.clk; (st = 1) ∧ (v.bandClk + msCycles 5 ≤ clk) ∧ (2 ≤ v.attempt)) ∧
    (let s : State := clkAt [(R.CLK_STAT_SPL, 0, 3)] { spl := { attempt := 2 } }; let p : Pll := .spl; let v := s.dev.pll p; let st := s.dev.fget (pllField p); let clk := s.dev.time.clk; (st ≠ 1 ∨ clk < v.bandClk + msCycles 5)) ∧
    (let s : State := clkAt [(R.CLK_STAT_APL, 0, 3)] { apl := { attempt := 2 } }; let p : Pll := .apl; let v := s.dev.pll p; let st := s.dev.fget (pllField p); let clk := s.dev.time.clk; (st = 3) ∧ (v.bandClk + msCycles 100 ≤ clk)) ∧
    (let s : State := clkAt [(R.CLK_STAT_APL, 0, 2)] { apl := { attempt := 2 } }; let p : Pll := .apl; let v := s.dev.pll p; let st := s.dev.fget (pllField p); let clk := s.dev.time.clk; (st ≠ 3 ∨ clk < v.bandClk + msCycles 100)) := by
  decide +kernel

theorem witness_SteeringIsBounded :
    (let s : State := clkAt [(R.CLK_STAT_SPL, 0, 2), (R.CLK_STAT_DISC, 0, 1), (R.CLK_STAT_REF_OK, 0, 1), (R.CLK_DISC_SRC, 0, 1), (R.CLK_DISC2_RAMP, 0, 3), (R.CLK_DISC_PPM, 0, 20000)] {}; let st := s.dev.fget R.CLK_STAT_DISC; let usable := s.dev.refUsable = true ∨ s.dev.ppsUsable = true; let old := s.dev.steer; let full := s.dev.splStopped = false ∧ (s.dev.clk.discClk = 0 ∨ s.dev.clk.discClk - 1 + Config.sysPerSecond ≤ s.dev.time.clk); (full) ∧ (old.natAbs ≤ 20000) ∧ ((st = 2 ∧ usable) ∨ (st = 1 ∧ usable) ∨ st = 0)) ∧
    (let s : State := clkAt [(R.CLK_STAT_SPL, 0, 2), (R.CLK_STAT_REF_OK, 0, 1), (R.CLK_DISC_SRC, 0, 1), (R.CLK_DISC2_RAMP, 0, 3), (R.CLK_DISC_PPM, 0, 700)] {}; let st := s.dev.fget R.CLK_STAT_DISC; let usable := s.dev.refUsable = true ∨ s.dev.ppsUsable = true; let full := s.dev.splStopped = false ∧ (s.dev.clk.discClk = 0 ∨ s.dev.clk.discClk - 1 + Config.sysPerSecond ≤ s.dev.time.clk); (full) ∧ (st = 0) ∧ (usable)) ∧
    (let s : State := clkAt [(R.CLK_STAT_SPL, 0, 2), (R.CLK_STAT_DISC, 0, 1), (R.CLK_STAT_PPS_OK, 0, 1), (R.CLK_DISC_SRC, 0, 2), (R.CLK_DISC2_RAMP, 0, 3), (R.CLK_DISC_PPM, 0, 700)] {}; let off : Int := 5; let st := s.dev.fget R.CLK_STAT_DISC; let usable := s.dev.refUsable = true ∨ s.dev.ppsUsable = true; let full := s.dev.splStopped = false ∧ (s.dev.clk.discClk = 0 ∨ s.dev.clk.discClk - 1 + Config.sysPerSecond ≤ s.dev.time.clk); let o := if s.dev.refUsable then off else s.dev.clk.ppsOff; (full) ∧ (st = 1) ∧ (usable) ∧ (o.natAbs ≤ 5) ∧ (s.dev.clk.acqGood < 9)) ∧
    (let s : State := clkAt [(R.CLK_STAT_SPL, 0, 2), (R.CLK_STAT_DISC, 0, 1), (R.CLK_STAT_PPS_OK, 0, 1), (R.CLK_DISC_SRC, 0, 2), (R.CLK_DISC2_RAMP, 0, 3), (R.CLK_DISC_PPM, 0, 700)] { acqGood := 9, e := 777 }; let off : Int := 5; let st := s.dev.fget R.CLK_STAT_DISC; let usable := s.dev.refUsable = true ∨ s.dev.ppsUsable = true; let full := s.dev.splStopped = false ∧ (s.dev.clk.discClk = 0 ∨ s.dev.clk.discClk - 1 + Config.sysPerSecond ≤ s.dev.time.clk); let o := if s.dev.refUsable then off else s.dev.clk.ppsOff; (full) ∧ (st = 1) ∧ (usable) ∧ (o.natAbs ≤ 5) ∧ (9 ≤ s.dev.clk.acqGood)) ∧
    (let s : State := clkAt [(R.CLK_STAT_SPL, 0, 2), (R.CLK_STAT_DISC, 0, 1), (R.CLK_STAT_PPS_OK, 0, 1), (R.CLK_DISC_SRC, 0, 2), (R.CLK_DISC2_RAMP, 0, 3), (R.CLK_DISC_PPM, 0, 700)] { ppsOff := -6, acqGood := 9, e := 777 }; let off : Int := 5; let st := s.dev.fget R.CLK_STAT_DISC; let usable := s.dev.refUsable = true ∨ s.dev.ppsUsable = true; let full := s.dev.splStopped = false ∧ (s.dev.clk.discClk = 0 ∨ s.dev.clk.discClk - 1 + Config.sysPerSecond ≤ s.dev.time.clk); let o := if s.dev.refUsable then off else s.dev.clk.ppsOff; (full) ∧ (st = 1) ∧ (usable) ∧ (5 < o.natAbs)) ∧
    (let s : State := clkAt [(R.CLK_STAT_SPL, 0, 2), (R.CLK_STAT_DISC, 0, 2), (R.CLK_DISC_SRC, 0, 2), (R.CLK_DISC2_RAMP, 0, 3), (R.CLK_DISC_PPM, 0, 700)] { hist := [3, -5, 600] }; let st := s.dev.fget R.CLK_STAT_DISC; let usable := s.dev.refUsable = true ∨ s.dev.ppsUsable = true; let full := s.dev.splStopped = false ∧ (s.dev.clk.discClk = 0 ∨ s.dev.clk.discClk - 1 + Config.sysPerSecond ≤ s.dev.time.clk); (full) ∧ (st = 1 ∨ st = 2) ∧ (¬ usable)) ∧
    (let s : State := clkAt [(R.CLK_STAT_SPL, 0, 2), (R.CLK_STAT_DISC, 0, 3), (R.CLK_DISC_SRC, 0, 2), (R.CLK_DISC2_RAMP, 0, 3), (R.CLK_DISC_PPM, 0, 700)] { hist := [3, -5, 600], goal := 690 }; let st := s.dev.fget R.CLK_STAT_DISC; let usable := s.dev.refUsable = true ∨ s.dev.ppsUsable = true; let full := s.dev.splStopped = false ∧ (s.dev.clk.discClk = 0 ∨ s.dev.clk.discClk - 1 + Config.sysPerSecond ≤ s.dev.time.clk); (full) ∧ (st = 3) ∧ (¬ usable)) ∧
    (let s : State := clkAt [(R.CLK_STAT_SPL, 0, 2), (R.CLK_STAT_DISC, 0, 3)] { discClk := 49999999999 }; let full := s.dev.splStopped = false ∧ (s.dev.clk.discClk = 0 ∨ s.dev.clk.discClk - 1 + Config.sysPerSecond ≤ s.dev.time.clk); (¬ full)) ∧
    (let s : State := clkAt [(R.CLK_STAT_SPL, 0, 2), (R.CLK_STAT_DISC, 0, 3), (R.CLK_STAT_REF_OK, 0, 1), (R.CLK_DISC_SRC, 0, 1), (R.CLK_DISC2_RAMP, 0, 3), (R.CLK_DISC_PPM, 0, 700)] { hist := [3, -5, 600] }; let off : Int := (-5); let st := s.dev.fget R.CLK_STAT_DISC; let usable := s.dev.refUsable = true ∨ s.dev.ppsUsable = true; let full := s.dev.splStopped = false ∧ (s.dev.clk.discClk = 0 ∨ s.dev.clk.discClk - 1 + Config.sysPerSecond ≤ s.dev.time.clk); let o := if s.dev.refUsable then off else s.dev.clk.ppsOff; (full) ∧ (st = 3) ∧ (usable) ∧ (o.natAbs ≤ 5)) := by
  decide +kernel

theorem witness_ReferencesAndClockOutputs :
    (let s : State := clkAt [(R.CLK_REF_CFG_TOL, 0, 20), (R.CLK_SPL_TRIM_TRIM, 0, 3)] { refGood := 8, refClk := 9 }; let raw : Int := (1507); let tol := s.dev.fget R.CLK_REF_CFG_TOL * 100; let c := s.dev.clk; let clk := s.dev.time.clk; let ppm := raw - s.dev.fgetI R.CLK_SPL_TRIM_TRIM; let full := c.refClk = 0 ∨ c.refClk - 1 + msCycles 100 ≤ clk; (full) ∧ (ppm.natAbs ≤ tol) ∧ (c.refGood < 9)) ∧
    (let s : State := clkAt [(R.CLK_REF_CFG_TOL, 0, 20), (R.CLK_SPL_TRIM_TRIM, 0, 3)] { refGood := 10 }; let raw : Int := (-1507); let tol := s.dev.fget R.CLK_REF_CFG_TOL * 100; let ok := s.dev.fbit R.CLK_STAT_REF_OK; let c := s.dev.clk; let clk := s.dev.time.clk; let ppm := raw - s.dev.fgetI R.CLK_SPL_TRIM_TRIM; let full := c.refClk = 0 ∨ c.refClk - 1 + msCycles 100 ≤ clk; (full) ∧ (ppm.natAbs ≤ tol) ∧ (9 ≤ c.refGood) ∧ (ok = false)) ∧
    (let s : State := clkAt [(R.CLK_REF_CFG_TOL, 0, 20), (R.CLK_SPL_TRIM_TRIM, 0, 3), (R.CLK_STAT_REF_OK, 0, 1), (R.CLK_DISC_SRC, 0, 1), (R.CLK_STAT_DISC, 0, 2)] { refGood := 10 }; let raw : Int := (-5000); let tol := s.dev.fget R.CLK_REF_CFG_TOL * 100; let ok := s.dev.fbit R.CLK_STAT_REF_OK; let c := s.dev.clk; let clk := s.dev.time.clk; let ppm := raw - s.dev.fgetI R.CLK_SPL_TRIM_TRIM; let full := c.refClk = 0 ∨ c.refClk - 1 + msCycles 100 ≤ clk; (full) ∧ (tol < ppm.natAbs) ∧ (ok = true)) ∧
    (let s : State := clkAt [(R.CLK_REF_CFG_TOL, 0, 20), (R.CLK_SPL_TRIM_TRIM, 0, 3), (R.CLK_STAT_REF_OK, 0, 1), (R.CLK_DISC_SRC, 0, 1), (R.CLK_STAT_DISC, 0, 2)] { refGood := 10, refClk := 49999999999 }; let c := s.dev.clk; let clk := s.dev.time.clk; let full := c.refClk = 0 ∨ c.refClk - 1 + msCycles 100 ≤ clk; (¬ full)) ∧
    (let s : State := clkAt [(R.CLK_REF_CFG_TOL, 0, 20), (R.CLK_SPL_TRIM_TRIM, 0, 3), (R.CLK_STAT_REF_OK, 0, 1), (R.CLK_DISC_SRC, 0, 1), (R.CLK_STAT_DISC, 0, 2)] { refGood := 10 }; let ok := s.dev.fbit R.CLK_STAT_REF_OK; let c := s.dev.clk; let clk := s.dev.time.clk; let still := c.refClk = 0 ∨ c.refClk + usCycles 1 ≤ clk; (still) ∧ (ok = true)) ∧
    (let s : State := clkAt [(R.CLK_REF_CFG_TOL, 0, 20), (R.CLK_SPL_TRIM_TRIM, 0, 3)] { refGood := 3, refClk := 7 }; let ok := s.dev.fbit R.CLK_STAT_REF_OK; let c := s.dev.clk; let clk := s.dev.time.clk; let still := c.refClk = 0 ∨ c.refClk + usCycles 1 ≤ clk; (still) ∧ (ok = false)) ∧
    (let s : State := clkAt [(R.CLK_REF_CFG_TOL, 0, 20), (R.CLK_SPL_TRIM_TRIM, 0, 3)] { refGood := 3, refClk := 49999999999 }; let c := s.dev.clk; let clk := s.dev.time.clk; let still := c.refClk = 0 ∨ c.refClk + usCycles 1 ≤ clk; (¬ still)) ∧
    (let s : State := clkAt [(R.CLK_PPS_CFG_WIN, 0, 20), (R.CLK_PPS_CFG_POL, 0, 0), (R.CLK_DISC_SRC, 0, 0)] { ppsSeen := true, ppsValid := 2, ppsNs := 168541910694 }; let rising : Bool := true; let sub : Fin 4 := 1; let pps := s.dev.fbit R.CLK_STAT_PPS_OK; let c := s.dev.clk; let clk := s.dev.time.clk; let now := clk * 15625 / 4608 + sub; let gap : Int := (now : Int) - c.ppsNs - 1000000000 * (c.ppsMiss + 1 : Nat); let valid := c.ppsSeen = false ∨ gap.natAbs ≤ s.dev.fget R.CLK_PPS_CFG_WIN * 10000; let active := rising ≠ s.dev.fbit R.CLK_PPS_CFG_POL; (active) ∧ (valid) ∧ (c.ppsValid = 2) ∧ (pps = false) ∧ (bitAt (s.dev.fget R.CLK_DISC_SRC) 1 = false)) ∧
    (let s : State := on (clkAt [(R.CLK_PPS_CFG_WIN, 0, 20), (R.CLK_PPS_CFG_POL, 0, 0), (R.CLK_DISC_SRC, 0, 2), (R.CLK_STAT_DISC, 0, 2), (R.CLK_STAT_PPS_OK, 0, 1)] { ppsSeen := true, ppsValid := 2, ppsMiss := 1, ppsNs := 167542100694 }) (fun d => { d with time := { d.time with cyc := 294911000 } }); let rising : Bool := true; let sub : Fin 4 := 3; let c := s.dev.clk; let clk := s.dev.time.clk; let now := clk * 15625 / 4608 + sub; let gap : Int := (now : Int) - c.ppsNs - 1000000000 * (c.ppsMiss + 1 : Nat); let valid := c.ppsSeen = false ∨ gap.natAbs ≤ s.dev.fget R.CLK_PPS_CFG_WIN * 10000; let active := rising ≠ s.dev.fbit R.CLK_PPS_CFG_POL; (active) ∧ (valid) ∧ (bitAt (s.dev.fget R.CLK_DISC_SRC) 1 = true)) ∧
    (let s : State := clkAt [(R.CLK_PPS_CFG_WIN, 0, 20), (R.CLK_PPS_CFG_POL, 0, 0)] { ppsSeen := true, ppsValid := 2, ppsNs := 168541890694 }; let rising : Bool := true; let sub : Fin 4 := 3; let c := s.dev.clk; let clk := s.dev.time.clk; let now := clk * 15625 / 4608 + sub; let gap : Int := (now : Int) - c.ppsNs - 1000000000 * (c.ppsMiss + 1 : Nat); let valid := c.ppsSeen = false ∨ gap.natAbs ≤ s.dev.fget R.CLK_PPS_CFG_WIN * 10000; let active := rising ≠ s.dev.fbit R.CLK_PPS_CFG_POL; (active) ∧ (¬ valid)) ∧
    (let s : State := clkAt [(R.CLK_PPS_CFG_WIN, 0, 20), (R.CLK_PPS_CFG_POL, 0, 0)] { ppsSeen := true, ppsValid := 2, ppsNs := 168541890694 }; let rising : Bool := false; let active := rising ≠ s.dev.fbit R.CLK_PPS_CFG_POL; (¬ active)) ∧
    (let s : State := clkAt [(R.CLK_PPS_CFG_WIN, 0, 20), (R.CLK_PPS_CFG_POL, 0, 0), (R.CLK_PPS_CFG_MISS, 0, 3)] { ppsSeen := true, ppsValid := 2, ppsMiss := 1, ppsNs := 167541900693 }; let c := s.dev.clk; let clk := s.dev.time.clk; let missed := c.ppsSeen = true ∧ (c.ppsMiss + 1) * 1000000000 + s.dev.fget R.CLK_PPS_CFG_WIN * 10000 < clk * 15625 / 4608 - c.ppsNs; (missed) ∧ (c.ppsMiss + 1 < s.dev.fget R.CLK_PPS_CFG_MISS)) ∧
    (let s : State := clkAt [(R.CLK_PPS_CFG_WIN, 0, 20), (R.CLK_PPS_CFG_POL, 0, 0), (R.CLK_PPS_CFG_MISS, 0, 3), (R.CLK_DISC_SRC, 0, 2), (R.CLK_STAT_DISC, 0, 2), (R.CLK_STAT_PPS_OK, 0, 1)] { ppsSeen := true, ppsValid := 2, ppsMiss := 2, ppsNs := 9 }; let pps := s.dev.fbit R.CLK_STAT_PPS_OK; let c := s.dev.clk; let clk := s.dev.time.clk; let missed := c.ppsSeen = true ∧ (c.ppsMiss + 1) * 1000000000 + s.dev.fget R.CLK_PPS_CFG_WIN * 10000 < clk * 15625 / 4608 - c.ppsNs; (missed) ∧ (s.dev.fget R.CLK_PPS_CFG_MISS ≤ c.ppsMiss + 1) ∧ (pps = true)) ∧
    (let s : State := clkAt [(R.CLK_PPS_CFG_WIN, 0, 20), (R.CLK_PPS_CFG_POL, 0, 0), (R.CLK_PPS_CFG_MISS, 0, 3)] { ppsSeen := true, ppsValid := 2, ppsMiss := 1, ppsNs := 167541900694 }; let c := s.dev.clk; let clk := s.dev.time.clk; let missed := c.ppsSeen = true ∧ (c.ppsMiss + 1) * 1000000000 + s.dev.fget R.CLK_PPS_CFG_WIN * 10000 < clk * 15625 / 4608 - c.ppsNs; (¬ missed)) ∧
    (let s : State := clkAt [(R.CLKOUT_CFG_EN, 2, 1), (R.CLKOUT_DIV_DIV, 2, 240), (R.CLKOUT_CFG_COARSE, 2, 7), (R.CLK_STAT_SPL, 0, 2)] {}; let k : Fin 4 := 2; let clk := s.dev.time.clk; let p := if s.dev.fbit R.CLKOUT_CFG_SRC k then Pll.apl else Pll.spl; let taken := s.dev.setClkOut k { s.dev.clkOut k with div := s.dev.fget R.CLKOUT_DIV_DIV k, coarse := s.dev.fget R.CLKOUT_CFG_COARSE k, fineClk := clk }; (s.dev.fbit R.CLKOUT_CFG_EN k = true) ∧ (s.dev.fget R.CLKOUT_STAT_STATE k = 0) ∧ (s.dev.fget (pllField p) = 2) ∧ (taken.firstEdge k ≤ taken.gridPos k clk)) ∧
    (let s : State := clkAt [(R.CLKOUT_CFG_EN, 2, 1), (R.CLKOUT_DIV_DIV, 2, 240), (R.CLKOUT_CFG_COARSE, 2, 7), (R.CLK_STAT_SPL, 0, 1)] {}; let k : Fin 4 := 2; let clk := s.dev.time.clk; let p := if s.dev.fbit R.CLKOUT_CFG_SRC k then Pll.apl else Pll.spl; let taken := s.dev.setClkOut k { s.dev.clkOut k with div := s.dev.fget R.CLKOUT_DIV_DIV k, coarse := s.dev.fget R.CLKOUT_CFG_COARSE k, fineClk := clk }; (s.dev.fget (pllField p) ≠ 2 ∨ taken.gridPos k clk < taken.firstEdge k)) ∧
    (let s : State := on (clkAt [] { e := -70000, theta := 5 }) (fun d => { d with boot := { d.boot with phase := .released } }); (s.dev.inReset = false ∧ s.dev.chainHeld = false ∧ s.dev.bus.dead = false)) ∧
    (let s : State := on (clkAt [] { e := -70000, theta := 5 }) (fun d => { d with boot := { d.boot with phase := .released } }); (s.dev.inReset = false ∧ s.dev.chainHeld = false ∧ s.dev.bus.dead = false)) := by
  decide +kernel

theorem witness_RtcCalendarAdvances :
    (let s : State := calendar 2024 2 28 23 59 59 255 []; let n : Nat := 129; let y (t : State) := t.dev.fget R.RTC_YEAR_YEAR; let m (t : State) := t.dev.fget R.RTC_MW_MONTH; let day (t : State) := t.dev.fget R.RTC_HD_DAY; let valid (t : State) := 2000 ≤ y t ∧ y t ≤ 2399 ∧ 1 ≤ m t ∧ m t ≤ 12 ∧ 1 ≤ day t ∧ day t ≤ monthDays (y t) (m t) ∧ t.dev.fget R.RTC_HD_HOUR ≤ 23 ∧ t.dev.fget R.RTC_MS_MIN ≤ 59 ∧ t.dev.fget R.RTC_MS_SEC ≤ 59; let idle := ∀ w ∈ s.dev.rtc.transit, s.dev.time.clk < w.due; let running := s.dev.fbit R.RTC_STAT_RUN = true ∧ s.dev.fbit R.RTC_CTL_HALTED = false ∧ s.dev.fbit R.RTC_STAT_END = false; let wraps := idle ∧ 129 ≤ n ∧ s.dev.fget R.RTC_SUB_SUB = 255; (running) ∧ (wraps) ∧ (valid s) ∧ (s.dev.rtcAtEnd = false)) ∧
    (let s : State := calendar 2399 12 31 23 59 59 255 []; let n : Nat := 129; let idle := ∀ w ∈ s.dev.rtc.transit, s.dev.time.clk < w.due; let running := s.dev.fbit R.RTC_STAT_RUN = true ∧ s.dev.fbit R.RTC_CTL_HALTED = false ∧ s.dev.fbit R.RTC_STAT_END = false; let wraps := idle ∧ 129 ≤ n ∧ s.dev.fget R.RTC_SUB_SUB = 255; (running) ∧ (wraps) ∧ (s.dev.rtcAtEnd = true)) ∧
    (let s : State := calendar 2399 12 31 23 59 59 255 [(R.RTC_STAT_END, 0, 1)]; let n : Nat := 129; let idle := ∀ w ∈ s.dev.rtc.transit, s.dev.time.clk < w.due; (idle) ∧ (s.dev.fbit R.RTC_STAT_END = true ∨ n < 127)) ∧
    (let s : State := on (calendar 2399 12 31 23 59 59 0 [(R.RTC_STAT_END, 0, 1), (R.RTC_CTL_HALT, 0, 0), (R.RTC_CTL_HALTED, 0, 1)]) (fun d => d.updRtc (fun c => { c with transit := [⟨5, 0, 0⟩] })); let e : Nat := 0; (s.dev.fbit R.RTC_STAT_END = true) ∧ (s.dev.fbit R.RTC_CTL_HALTED = true) ∧ (s.dev.rtc.transit = [⟨5, 0, e⟩]) ∧ (e ≤ s.dev.time.clk)) := by
  decide +kernel

theorem witness_RtcCountingAndSetting :
    (let s : State := on (calendar 2399 12 31 23 59 59 255 [(R.RTC_STAT_END, 0, 1)]) (fun d => { d.updRtc (fun c => { c with edge := 49999991000 }) with time := { d.time with clk := 50000000000 } }); let n : Nat := 129; let c := s.dev.rtc; let clk := s.dev.time.clk; let idle := ∀ w ∈ c.transit, clk < w.due; let running := s.dev.fbit R.RTC_STAT_RUN = true ∧ s.dev.fbit R.RTC_CTL_HALTED = false ∧ s.dev.fbit R.RTC_STAT_END = false; let a := c.acc + s.dev.fgetI R.RTC_TRIM_TRIM * 128; let next := if 20000000 ≤ a then (a - 20000000, 127) else if a ≤ -20000000 then (a + 20000000, 129) else (a, 128); (idle) ∧ (¬ running ∨ n < next.2)) ∧
    (let s : State := on (calendar 2399 12 31 23 59 59 25 [(R.RTC_TRIM_TRIM, 0, 0x8300)]) (fun d => { d.updRtc (fun c => { c with edge := 49999991000, acc := -19000000 }) with time := { d.time with clk := 50000000000 } }); let n : Nat := 129; let c := s.dev.rtc; let clk := s.dev.time.clk; let idle := ∀ w ∈ c.transit, clk < w.due; let running := s.dev.fbit R.RTC_STAT_RUN = true ∧ s.dev.fbit R.RTC_CTL_HALTED = false ∧ s.dev.fbit R.RTC_STAT_END = false; let a := c.acc + s.dev.fgetI R.RTC_TRIM_TRIM * 128; let next := if 20000000 ≤ a then (a - 20000000, 127) else if a ≤ -20000000 then (a + 20000000, 129) else (a, 128); (idle) ∧ (running) ∧ (next.2 ≤ n) ∧ (s.dev.fget R.RTC_SUB_SUB < 255)) ∧
    (let s : State := on (calendar 2399 12 31 23 59 59 25 [(R.RTC_TRIM_TRIM, 0, 0x8300)]) (fun d => { d.updRtc (fun c => { c with edge := 49999991000, span := some (3, 4) }) with time := { d.time with clk := 50000000000 } }); let c := s.dev.rtc; let clk := s.dev.time.clk; let idle := ∀ w ∈ c.transit, clk < w.due; (idle)) ∧
    (let s : State := on (calendar 2399 12 31 23 59 59 25 []) (fun d => { d.updRtc (fun c => { c with edge := 49999991000, transit := [⟨4, 0, 50000000000⟩], span := some (3, 4), recs := [(1, 2)] }) with time := { d.time with clk := 50000000000 } }); let e : Nat := 50000000000; let c := s.dev.rtc; let clk := s.dev.time.clk; (c.transit = [⟨4, 0, e⟩]) ∧ (e ≤ clk)) ∧
    (let s : State := on (calendar 2399 12 31 23 59 59 25 []) (fun d => { d.updRtc (fun c => { c with edge := 49999991000, transit := [⟨4, 0, 50000000001⟩] }) with time := { d.time with clk := 50000000000 } }); let c := s.dev.rtc; let clk := s.dev.time.clk; let idle := ∀ w ∈ c.transit, clk < w.due; (idle)) ∧
    (let s : State := on (calendar 2399 12 31 23 59 59 25 []) (fun d => { d.updRtc (fun c => { c with edge := 49999991000, transit := [⟨1, 0xFFFF, 7⟩] }) with time := { d.time with clk := 50000000000 } }); let reg : Fin 4 := 1; let v : BitVec 16 := 0xFFFF; let e : Nat := 7; let c := s.dev.rtc; let clk := s.dev.time.clk; let halted := s.dev.fbit R.RTC_CTL_HALTED = true; (¬ halted) ∧ (c.transit = [⟨reg, v.toNat, e⟩]) ∧ (e ≤ clk)) ∧
    (let s : State := on (calendar 2399 12 31 23 59 59 25 [(R.RTC_CTL_HALTED, 0, 1)]) (fun d => { d.updRtc (fun c => { c with edge := 49999991000, transit := [⟨0, 0xFFFF, 7⟩] }) with time := { d.time with clk := 50000000000 } }); let reg : Fin 4 := 0; let v : BitVec 16 := 0xFFFF; let e : Nat := 7; let c := s.dev.rtc; let clk := s.dev.time.clk; let halted := s.dev.fbit R.RTC_CTL_HALTED = true; (halted) ∧ (c.transit = [⟨reg, v.toNat, e⟩]) ∧ (e ≤ clk)) ∧
    (let s : State := on (calendar 2399 12 31 23 59 59 25 [(R.RTC_CTL_HALTED, 0, 1), (R.RTC_CTL_HALT, 0, 1)]) (fun d => { d.updRtc (fun c => { c with edge := 49999991000 }) with time := { d.time with clk := 50000000000 } }); let c := s.dev.rtc; let clk := s.dev.time.clk; let idle := ∀ w ∈ c.transit, clk < w.due; (idle)) ∧
    (let s : State := on (calendar 2025 2 31 23 59 59 25 [(R.RTC_CTL_HALTED, 0, 1), (R.RTC_STAT_END, 0, 1)]) (fun d => { d.updRtc (fun c => { c with edge := 49999991000, transit := [⟨5, 0, 7⟩] }) with time := { d.time with clk := 50000000000 } }); let e : Nat := 7; let c := s.dev.rtc; let clk := s.dev.time.clk; let m := s.dev.fget R.RTC_MW_MONTH; let halted := s.dev.fbit R.RTC_CTL_HALTED = true; (halted) ∧ (c.transit = [⟨5, 0, e⟩]) ∧ (e ≤ clk) ∧ (1 ≤ m) ∧ (m ≤ 12)) ∧
    (let s : State := on (calendar 2025 2 31 23 59 59 25 []) (fun d => { d.updRtc (fun c => { c with edge := 49999991000, transit := [⟨5, 0, 7⟩] }) with time := { d.time with clk := 50000000000 } }); let e : Nat := 7; let c := s.dev.rtc; let clk := s.dev.time.clk; let halted := s.dev.fbit R.RTC_CTL_HALTED = true; (¬ halted) ∧ (c.transit = [⟨5, 0, e⟩]) ∧ (e ≤ clk)) ∧
    (let s : State := on (calendar 2025 2 31 23 59 59 25 []) (fun d => { d.updRtc (fun c => { c with edge := 49999991000, span := some (3, 4), recs := [(1, 2)] }) with time := { d.time with clk := 50000000000 } }); let c := s.dev.rtc; let clk := s.dev.time.clk; let idle := ∀ w ∈ c.transit, clk < w.due; (idle)) ∧
    (let s : State := calendar 2025 2 31 23 59 59 25 [(R.RTC_STAT_OSF, 0, 1)]; (s.dev.fbit R.RTC_STAT_RUN = true)) ∧
    (let s : State := calendar 2025 2 31 23 59 59 25 [(R.RTC_STAT_OSF, 0, 1), (R.RTC_STAT_RUN, 0, 0)]; (s.dev.fbit R.RTC_STAT_RUN = false)) ∧
    (let s : State := on (calendar 2025 2 31 23 59 59 25 []) (fun d => { d with boot := { d.boot with phase := .released } }); let c := s.dev.rtc; let clk := s.dev.time.clk; let idle := ∀ w ∈ c.transit, clk < w.due; (idle) ∧ (s.dev.inReset = false ∧ s.dev.chainHeld = false ∧ s.dev.bus.dead = false) ∧ (c.shadow = none)) ∧
    (let s : State := on (calendar 2025 2 31 23 59 59 25 []) (fun d => { d with boot := { d.boot with phase := .released }, rtc := { d.rtc with shadow := some [1, 2, 3, 4, 5] } }); let c := s.dev.rtc; let clk := s.dev.time.clk; let idle := ∀ w ∈ c.transit, clk < w.due; (idle) ∧ (s.dev.inReset = false ∧ s.dev.chainHeld = false ∧ s.dev.bus.dead = false)) := by
  decide +kernel

theorem witness_RtcTrimAndBackupDomain :
    (let s : State := on (st [(R.RTC_TRIM_TRIM, 0, 100)]) (fun d => d.updRtc (fun c => { c with span := some (1000, 5), tickClk := 294912000500 })); let n : Nat := 1000; let from_ : Nat := 5; let c := s.dev.rtc; let dur := c.tickClk - from_; (c.span = some (n, from_)) ∧ (1000 ≤ n) ∧ (dur ≠ 0)) ∧
    (let s : State := on (st [(R.RTC_TRIM_TRIM, 0, 100)]) (fun d => d.updRtc (fun c => { c with span := some (999, 5), tickClk := 294912000500 })); let n : Nat := 999; let from_ : Nat := 5; let c := s.dev.rtc; (c.span = some (n, from_)) ∧ (n < 1000)) ∧
    (let s : State := st []; let c := s.dev.rtc; (c.span = none)) ∧
    (let s : State := st []; let c := s.dev.rtc; let recs := c.recs; let span := match recs.head?, recs.getLast? with | some a, some b => a.1 - b.1 | _, _ => 0; let asked := bitAt (s.dev.fget R.RTC_TRIM_CFG_SRC) 1 = true ∧ s.dev.monitorRuns = true ∧ s.dev.fget R.RTC_TRIM_CFG_DAYS * 86400 * 2 ^ 32 ≤ span; (¬ asked)) ∧
    (let s : State := on (st [(R.RTC_TRIM_CFG_SRC, 0, 2), (R.RTC_TRIM_CFG_DAYS, 0, 1)]) (fun d => { d.updRtc (fun c => { c with recs := [(400000000000000, 4), (7, 5)] }) with boot := { d.boot with tadpole := 0 } }); let c := s.dev.rtc; let recs := c.recs; let span := match recs.head?, recs.getLast? with | some a, some b => a.1 - b.1 | _, _ => 0; let asked := bitAt (s.dev.fget R.RTC_TRIM_CFG_SRC) 1 = true ∧ s.dev.monitorRuns = true ∧ s.dev.fget R.RTC_TRIM_CFG_DAYS * 86400 * 2 ^ 32 ≤ span; (asked) ∧ (recs.length < 100)) ∧
    (let s : State := on (st [(R.RTC_TRIM_CFG_SRC, 0, 2), (R.RTC_TRIM_CFG_DAYS, 0, 1), (R.RTC_TRIM_TRIM, 0, 77)]) (fun d => { d.updRtc (fun c => { c with recs := (List.range 101).reverse.map (fun k => (k * 4000000000000, 4)) }) with boot := { d.boot with tadpole := 0 } }); let c := s.dev.rtc; let recs := c.recs; let span := match recs.head?, recs.getLast? with | some a, some b => a.1 - b.1 | _, _ => 0; let sums := fitSums recs; let fits := 100 ≤ recs.length ∧ 0 < sums.2.1 ∧ sums.2.2 * sums.2.1 - sums.1 * sums.1 ≤ 40000 * (recs.length : Int) * recs.length * sums.2.1 ∧ ¬ (bitAt (s.dev.fget R.RTC_TRIM_CFG_SRC) 0 = true ∧ c.discApplied = true); let asked := bitAt (s.dev.fget R.RTC_TRIM_CFG_SRC) 1 = true ∧ s.dev.monitorRuns = true ∧ s.dev.fget R.RTC_TRIM_CFG_DAYS * 86400 * 2 ^ 32 ≤ span; (asked) ∧ (fits)) ∧
    (let s : State := st []; let c := s.dev.rtc; let clk := s.dev.time.clk; let idle := ∀ w ∈ c.transit, clk < w.due; (idle)) ∧
    (let s : State := on (st [(R.RTC_STAT_RUN, 0, 1)]) (fun d => { d with time := { d.time with clk := 50000000000 } }); let c := s.dev.rtc; (s.dev.fbit R.RTC_STAT_RUN = false ∨ Config.sysPerMs ≤ s.dev.since c.edge)) ∧
    (let s : State := on (st [(R.RTC_STAT_RUN, 0, 1)]) (fun d => { d.updRtc (fun c => { c with edge := 49999991000 }) with time := { d.time with clk := 50000000000 } }); let c := s.dev.rtc; (s.dev.fbit R.RTC_STAT_RUN = true) ∧ (s.dev.since c.edge < Config.sysPerMs)) ∧
    (let mv : Nat := 3000; let va : Nat := 1800; (1500 ≤ mv ∨ 1500 ≤ va)) ∧
    (let mv : Nat := 1499; let va : Nat := 1400; (mv < 1500) ∧ (va < 1500)) := by
  decide +kernel

theorem witness_LocalScripts :
    (let s : State := lif [] (fun c => { c with scripts := List.replicate 4 ⟨some [.wait 5], 2, 0⟩, queue := [.clear] }); let i : Fin 16 := 3; let x : LifScript := (⟨some [.wait 5], 2, 0⟩); let l := s.dev.lif; let blocked := l.queue.contains (.script i) = true ∨ l.run.map (·.s) = some (i : Nat); let free := s.dev.fbit R.LIF_CFG_EN = true ∧ ¬ blocked ∧ s.dev.scriptAt i = some x; let isStuck := s.dev.fget R.LIF_STAT_STATE = 3; (free) ∧ (¬ isStuck)) ∧
    (let s : State := lif [(R.LIF_STAT_STATE, 0, 3), (R.LIF_SCR_RUNS, 3, 4095)] (fun c => { c with scripts := List.replicate 4 ⟨some [.wait 5], 2, 0⟩, queue := [.clear] }); let i : Fin 16 := 3; let x : LifScript := (⟨some [.wait 5], 2, 0⟩); let l := s.dev.lif; let blocked := l.queue.contains (.script i) = true ∨ l.run.map (·.s) = some (i : Nat); let free := s.dev.fbit R.LIF_CFG_EN = true ∧ ¬ blocked ∧ s.dev.scriptAt i = some x; let isStuck := s.dev.fget R.LIF_STAT_STATE = 3; let drained := l.queue.all (· == .clear) = true; (free) ∧ (isStuck) ∧ (drained)) ∧
    (let s : State := lif [] (fun c => { c with scripts := List.replicate 4 ⟨some [.wait 5], 2, 0⟩, run := some ⟨3, [.wait 7], 4⟩ }); let i : Fin 16 := 3; let l := s.dev.lif; let blocked := l.queue.contains (.script i) = true ∨ l.run.map (·.s) = some (i : Nat); (¬ s.dev.fbit R.LIF_CFG_EN = true ∨ s.dev.scriptAt i = none ∨ blocked)) ∧
    (let s : State := on (lif [] (fun c => { c with scripts := List.replicate 4 ⟨some [.wait 5], 1, 2⟩, due := [(3, 50)] })) (fun d => { d with time := { d.time with clk := 50 } }); let i : Fin 16 := 3; let x : LifScript := (⟨some [.wait 5], 1, 2⟩); let l := s.dev.lif; let blocked := l.queue.contains (.script i) = true ∨ l.run.map (·.s) = some (i : Nat); let free := s.dev.fbit R.LIF_CFG_EN = true ∧ ¬ blocked ∧ s.dev.scriptAt i = some x; let isStuck := s.dev.fget R.LIF_STAT_STATE = 3; let due := smGet (fun _ => 0) l.due i; (free) ∧ (¬ isStuck) ∧ (x.trigger = 1) ∧ (due ≠ 0) ∧ (due ≤ s.dev.time.clk)) ∧
    (let s : State := on (lif [] (fun c => { c with scripts := List.replicate 4 ⟨some [.wait 5], 1, 2⟩, due := [(3, 50)], queue := [.script 3] })) (fun d => { d with time := { d.time with clk := 50 } }); let i : Fin 16 := 3; let x : LifScript := (⟨some [.wait 5], 1, 2⟩); let l := s.dev.lif; let blocked := l.queue.contains (.script i) = true ∨ l.run.map (·.s) = some (i : Nat); let due := smGet (fun _ => 0) l.due i; (s.dev.scriptAt i = some x) ∧ (blocked) ∧ (x.trigger = 1) ∧ (due ≠ 0) ∧ (due ≤ s.dev.time.clk)) ∧
    (let s : State := on (lif [] (fun c => { c with scripts := List.replicate 4 ⟨some [.wait 5], 1, 2⟩, due := [(3, 51)] })) (fun d => { d with time := { d.time with clk := 50 } }); let i : Fin 16 := 3; let x : LifScript := (⟨some [.wait 5], 1, 2⟩); let l := s.dev.lif; let due := smGet (fun _ => 0) l.due i; (s.dev.scriptAt i = some x) ∧ (x.trigger ≠ 1 ∨ due = 0 ∨ s.dev.time.clk < due)) ∧
    (let s : State := on (lif [] (fun c => { c with run := some ⟨2, [.wait 7], 4⟩, queue := [.clear] })) (fun d => { d with time := { d.time with clk := 3 + 7 * Config.sysPerMs } }); let r : LifRun := (⟨2, [.wait 7], 4⟩); let ms : Nat := 7; let tl : List LifOp := ([]); let l := s.dev.lif; let drained := l.queue.all (· == .clear) = true; let waits := l.run = some r ∧ r.rest = .wait ms :: tl; let lasted := r.wait ≠ 0 ∧ msCycles ms ≤ s.dev.time.clk + 1 - r.wait; (waits) ∧ (lasted) ∧ (tl = []) ∧ (drained)) ∧
    (let s : State := on (lif [] (fun c => { c with run := some ⟨2, [.wait 7, .read 5 1 3], 4⟩, queue := [.clear, .script 4] })) (fun d => { d with time := { d.time with clk := 3 + 7 * Config.sysPerMs } }); let r : LifRun := (⟨2, [.wait 7, .read 5 1 3], 4⟩); let ms : Nat := 7; let tl : List LifOp := ([.read 5 1 3]); let l := s.dev.lif; let isStuck := s.dev.fget R.LIF_STAT_STATE = 3; let waits := l.run = some r ∧ r.rest = .wait ms :: tl; let lasted := r.wait ≠ 0 ∧ msCycles ms ≤ s.dev.time.clk + 1 - r.wait; (waits) ∧ (lasted) ∧ (transferFirst tl = true) ∧ (¬ isStuck)) ∧
    (let s : State := on (lif [(R.LIF_STAT_STATE, 0, 3)] (fun c => { c with run := some ⟨2, [.wait 7, .read 5 1 3], 4⟩, queue := [.clear] })) (fun d => { d with time := { d.time with clk := 3 + 7 * Config.sysPerMs } }); let r : LifRun := (⟨2, [.wait 7, .read 5 1 3], 4⟩); let ms : Nat := 7; let tl : List LifOp := ([.read 5 1 3]); let l := s.dev.lif; let isStuck := s.dev.fget R.LIF_STAT_STATE = 3; let drained := l.queue.all (· == .clear) = true; let waits := l.run = some r ∧ r.rest = .wait ms :: tl; let lasted := r.wait ≠ 0 ∧ msCycles ms ≤ s.dev.time.clk + 1 - r.wait; (waits) ∧ (lasted) ∧ (transferFirst tl = true) ∧ (isStuck) ∧ (drained)) ∧
    (let s : State := on (lif [] (fun c => { c with run := some ⟨2, [.wait 7, .wait 9], 4⟩, queue := [.clear] })) (fun d => { d with time := { d.time with clk := 3 + 7 * Config.sysPerMs } }); let r : LifRun := (⟨2, [.wait 7, .wait 9], 4⟩); let ms : Nat := 7; let tl : List LifOp := ([.wait 9]); let l := s.dev.lif; let drained := l.queue.all (· == .clear) = true; let waits := l.run = some r ∧ r.rest = .wait ms :: tl; let lasted := r.wait ≠ 0 ∧ msCycles ms ≤ s.dev.time.clk + 1 - r.wait; (waits) ∧ (lasted) ∧ (tl ≠ []) ∧ (transferFirst tl = false) ∧ (drained)) ∧
    (let s : State := on (lif [] (fun c => { c with run := some ⟨2, [.wait 7, .wait 9], 4⟩, queue := [.clear] })) (fun d => { d with time := { d.time with clk := 2 + 7 * Config.sysPerMs } }); let r : LifRun := (⟨2, [.wait 7, .wait 9], 4⟩); let ms : Nat := 7; let tl : List LifOp := ([.wait 9]); let l := s.dev.lif; let waits := l.run = some r ∧ r.rest = .wait ms :: tl; let lasted := r.wait ≠ 0 ∧ msCycles ms ≤ s.dev.time.clk + 1 - r.wait; (waits) ∧ (¬ lasted)) ∧
    (let s : State := st []; let l := s.dev.lif; (l.run = none)) := by
  decide +kernel

theorem witness_LocalTransfersAndBusClears :
    (let s : State := lreq [] ⟨0x70, 3, 0x480002, [1]⟩ id; let q : MbxReq := (⟨0x70, 3, 0x480002, [1]⟩); let l := s.dev.lif; let busAt (k : Nat) := s.dev.fget R.LIF_STAT_STATE = k; let asks := s.dev.mbxWork 0x70 = some q; let n1 := q.offset % 256; let a1 := q.offset / 65536; let inLimits := n1 ≤ 32 ∧ a1 ≤ 127 ∧ q.offset / 256 % 256 = 0 ∧ q.data.length ≤ 32; (asks) ∧ (inLimits) ∧ (l.queue = []) ∧ (l.act = none) ∧ (¬ busAt 3)) ∧
    (let s : State := lreq [(R.LIF_STAT_STATE, 0, 3)] ⟨0x70, 3, 0x7F0020, [1]⟩ id; let q : MbxReq := (⟨0x70, 3, 0x7F0020, [1]⟩); let l := s.dev.lif; let busAt (k : Nat) := s.dev.fget R.LIF_STAT_STATE = k; let asks := s.dev.mbxWork 0x70 = some q; let n1 := q.offset % 256; let a1 := q.offset / 65536; let inLimits := n1 ≤ 32 ∧ a1 ≤ 127 ∧ q.offset / 256 % 256 = 0 ∧ q.data.length ≤ 32; (asks) ∧ (inLimits) ∧ (l.queue = []) ∧ (l.act = none) ∧ (busAt 3)) ∧
    (let s : State := lreq [] ⟨0x70, 3, 0x7F0021, [1]⟩ id; let q : MbxReq := (⟨0x70, 3, 0x7F0021, [1]⟩); let asks := s.dev.mbxWork 0x70 = some q; let n1 := q.offset % 256; let a1 := q.offset / 65536; let inLimits := n1 ≤ 32 ∧ a1 ≤ 127 ∧ q.offset / 256 % 256 = 0 ∧ q.data.length ≤ 32; (asks) ∧ (¬ inLimits)) ∧
    (let s : State := st []; (s.dev.mbxWork 0x70 = none)) ∧
    (let s : State := lif [(R.LIF_STAT_EXT_BUSY, 0, 1)] (fun c => { c with queue := [.host 5 2 [1], .script 4], needClear := false }); let addr : Nat := 5; let n : Nat := 2; let data : List Nat := ([1]); let js : List LifJob := ([.script 4]); let stop : Bool := true; let high : Nat := 1387; let l := s.dev.lif; let unheld := stop = true ∨ msCycles (s.dev.fget R.LIF_TMO_TMO) ≤ high; let isFree := unheld ∧ (if s.dev.fbit R.LIF_CFG_FAST then 384 else 1387) ≤ high; let busAt (k : Nat) := s.dev.fget R.LIF_STAT_STATE = k; let host := LifJob.host addr n data; (isFree) ∧ (busAt 0) ∧ (l.act = none) ∧ (l.queue = host :: js) ∧ (l.needClear = false)) ∧
    (let s : State := lif [(R.LIF_STAT_EXT_BUSY, 0, 1)] (fun c => { c with queue := [.host 5 2 [1], .script 4], needClear := true }); let addr : Nat := 5; let n : Nat := 2; let data : List Nat := ([1]); let js : List LifJob := ([.script 4]); let stop : Bool := true; let high : Nat := 1387; let l := s.dev.lif; let unheld := stop = true ∨ msCycles (s.dev.fget R.LIF_TMO_TMO) ≤ high; let isFree := unheld ∧ (if s.dev.fbit R.LIF_CFG_FAST then 384 else 1387) ≤ high; let busAt (k : Nat) := s.dev.fget R.LIF_STAT_STATE = k; let host := LifJob.host addr n data; (isFree) ∧ (busAt 0) ∧ (l.act = none) ∧ (l.queue = host :: js) ∧ (l.needClear = true)) ∧
    (let s : State := lif [(R.LIF_STAT_EXT_BUSY, 0, 1)] (fun c => { c with queue := [.clear, .script 4] }); let js : List LifJob := ([.script 4]); let stop : Bool := true; let high : Nat := 1387; let l := s.dev.lif; let unheld := stop = true ∨ msCycles (s.dev.fget R.LIF_TMO_TMO) ≤ high; let isFree := unheld ∧ (if s.dev.fbit R.LIF_CFG_FAST then 384 else 1387) ≤ high; let busAt (k : Nat) := s.dev.fget R.LIF_STAT_STATE = k; (isFree) ∧ (busAt 0) ∧ (l.act = none) ∧ (l.queue = .clear :: js)) ∧
    (let s : State := lif [(R.LIF_STAT_EXT_BUSY, 0, 1)] (fun c => { c with act := some (.host 5 2 [1]), queue := [.clear, .script 4] }); let addr : Nat := 5; let n : Nat := 2; let data : List Nat := ([1]); let stop : Bool := true; let high : Nat := 1387; let l := s.dev.lif; let unheld := stop = true ∨ msCycles (s.dev.fget R.LIF_TMO_TMO) ≤ high; let isFree := unheld ∧ (if s.dev.fbit R.LIF_CFG_FAST then 384 else 1387) ≤ high; let busAt (k : Nat) := s.dev.fget R.LIF_STAT_STATE = k; let host := LifJob.host addr n data; (isFree) ∧ (busAt 0) ∧ (l.act = some host)) ∧
    (let s : State := lif [(R.LIF_STAT_EXT_BUSY, 0, 1), (R.LIF_STAT_STATE, 0, 1)] id; let stop : Bool := true; let high : Nat := 1387; let unheld := stop = true ∨ msCycles (s.dev.fget R.LIF_TMO_TMO) ≤ high; let isFree := unheld ∧ (if s.dev.fbit R.LIF_CFG_FAST then 384 else 1387) ≤ high; let busAt (k : Nat) := s.dev.fget R.LIF_STAT_STATE = k; (isFree) ∧ (busAt 1)) ∧
    (let s : State := lif [(R.LIF_STAT_EXT_BUSY, 0, 1), (R.LIF_CFG_FAST, 0, 0)] id; let stop : Bool := true; let high : Nat := 1386; let unheld := stop = true ∨ msCycles (s.dev.fget R.LIF_TMO_TMO) ≤ high; let isFree := unheld ∧ (if s.dev.fbit R.LIF_CFG_FAST then 384 else 1387) ≤ high; (¬ isFree)) ∧
    (let s : State := lreq [(R.LIF_STAT_STATE, 0, 1)] ⟨0x70, 3, 0x050002, [1]⟩ (fun c => { c with act := some (.host 5 2 [1]), queue := [.clear, .script 4] }); let q : MbxReq := (⟨0x70, 3, 0x050002, [1]⟩); let addr : Nat := 5; let n : Nat := 2; let data : List Nat := ([1]); let nack : Fin 3 := 0; let bytes : List Byte := ([1, 2]); let l := s.dev.lif; let busAt (k : Nat) := s.dev.fget R.LIF_STAT_STATE = k; let host := LifJob.host addr n data; let hostActs := l.act = some host ∧ s.dev.mbxWork 0x70 = some q; (busAt 1) ∧ (hostActs) ∧ (nack = 0) ∧ (bytes.length = n)) ∧
    (let s : State := lreq [(R.LIF_STAT_STATE, 0, 1)] ⟨0x70, 3, 0x050002, [1]⟩ (fun c => { c with act := some (.host 5 2 [1]), queue := [.clear, .script 4] }); let q : MbxReq := (⟨0x70, 3, 0x050002, [1]⟩); let addr : Nat := 5; let n : Nat := 2; let data : List Nat := ([1]); let nack : Fin 3 := 2; let l := s.dev.lif; let busAt (k : Nat) := s.dev.fget R.LIF_STAT_STATE = k; let host := LifJob.host addr n data; let hostActs := l.act = some host ∧ s.dev.mbxWork 0x70 = some q; (busAt 1) ∧ (hostActs) ∧ (nack ≠ 0)) ∧
    (let s : State := lif [(R.LIF_STAT_STATE, 0, 1)] (fun c => { c with act := some .step, run := some ⟨2, [.write 5 [1], .read 1 2 3], 0⟩, queue := [.clear, .script 4] }); let addr : Nat := 5; let data : List Nat := ([1]); let nack : Fin 3 := 0; let r : LifRun := (⟨2, [.write 5 [1], .read 1 2 3], 0⟩); let op : LifOp := (.write 5 [1]); let tl : List LifOp := ([.read 1 2 3]); let l := s.dev.lif; let busAt (k : Nat) := s.dev.fget R.LIF_STAT_STATE = k; let scriptActs := l.act = some .step ∧ l.run = some r ∧ r.rest = op :: tl; (busAt 1) ∧ (scriptActs) ∧ (nack = 0) ∧ (op = .write addr data) ∧ (transferFirst tl = true)) ∧
    (let s : State := lif [(R.LIF_STAT_STATE, 0, 1), (R.LIF_RES_DATA, 1, 0x1234)] (fun c => { c with act := some .step, run := some ⟨2, [.read 5 1 3, .read 1 2 3], 0⟩, queue := [.clear, .script 4] }); let addr : Nat := 5; let n : Nat := 3; let nack : Fin 3 := 0; let bytes : List Byte := ([0xAB]); let r : LifRun := (⟨2, [.read 5 1 3, .read 1 2 3], 0⟩); let op : LifOp := (.read 5 1 3); let tl : List LifOp := ([.read 1 2 3]); let l := s.dev.lif; let busAt (k : Nat) := s.dev.fget R.LIF_STAT_STATE = k; let scriptActs := l.act = some .step ∧ l.run = some r ∧ r.rest = op :: tl; (busAt 1) ∧ (scriptActs) ∧ (nack = 0) ∧ (op = .read addr 1 n) ∧ (n < 32) ∧ (transferFirst tl = true) ∧ (bytes.length = 1)) ∧
    (let s : State := lif [(R.LIF_STAT_STATE, 0, 1), (R.LIF_RES_DATA, 1, 0x1234)] (fun c => { c with act := some .step, run := some ⟨2, [.read 5 1 2, .read 1 2 3], 0⟩, queue := [] }); let nack : Fin 3 := 1; let r : LifRun := (⟨2, [.read 5 1 2, .read 1 2 3], 0⟩); let op : LifOp := (.read 5 1 2); let tl : List LifOp := ([.read 1 2 3]); let l := s.dev.lif; let busAt (k : Nat) := s.dev.fget R.LIF_STAT_STATE = k; let scriptActs := l.act = some .step ∧ l.run = some r ∧ r.rest = op :: tl; (busAt 1) ∧ (scriptActs) ∧ (nack ≠ 0) ∧ (l.queue = [])) ∧
    (let s : State := lif [(R.LIF_STAT_STATE, 0, 1), (R.LIF_RES_DATA, 1, 0x1234)] (fun c => { c with act := some .step, repeats := 2, run := some ⟨2, [.read 5 1 2, .read 1 2 3], 0⟩, queue := [] }); let l := s.dev.lif; let busAt (k : Nat) := s.dev.fget R.LIF_STAT_STATE = k; (busAt 1) ∧ (l.repeats < l.retry)) ∧
    (let s : State := lif [(R.LIF_STAT_STATE, 0, 1), (R.LIF_RES_DATA, 1, 0x1234)] (fun c => { c with act := some .step, repeats := 3, run := some ⟨2, [.read 5 1 2, .read 1 2 3], 0⟩, queue := [] }); let r : LifRun := (⟨2, [.read 5 1 2, .read 1 2 3], 0⟩); let op : LifOp := (.read 5 1 2); let tl : List LifOp := ([.read 1 2 3]); let l := s.dev.lif; let busAt (k : Nat) := s.dev.fget R.LIF_STAT_STATE = k; let scriptActs := l.act = some .step ∧ l.run = some r ∧ r.rest = op :: tl; (busAt 1) ∧ (scriptActs) ∧ (l.retry ≤ l.repeats) ∧ (l.queue = [])) ∧
    (let s : State := lif [(R.LIF_STAT_STATE, 0, 1), (R.LIF_RES_DATA, 1, 0x1234)] (fun c => { c with act := some .step, needClear := false, run := some ⟨2, [.read 5 1 2, .read 1 2 3], 0⟩, queue := [] }); let r : LifRun := (⟨2, [.read 5 1 2, .read 1 2 3], 0⟩); let op : LifOp := (.read 5 1 2); let tl : List LifOp := ([.read 1 2 3]); let low : Nat := 7372801; let l := s.dev.lif; let busAt (k : Nat) := s.dev.fget R.LIF_STAT_STATE = k; let scriptActs := l.act = some .step ∧ l.run = some r ∧ r.rest = op :: tl; (busAt 1) ∧ (msCycles l.tmo < low) ∧ (scriptActs) ∧ (l.queue = [])) ∧
    (let s : State := lif [(R.LIF_STAT_STATE, 0, 1)] id; let low : Nat := 7372800; let l := s.dev.lif; (low ≤ msCycles l.tmo)) ∧
    (let s : State := lif [(R.LIF_STAT_STATE, 0, 2)] id; let busAt (k : Nat) := s.dev.fget R.LIF_STAT_STATE = k; (¬ busAt 1)) ∧
    (let s : State := lif [(R.LIF_STAT_STATE, 0, 2)] id; let busAt (k : Nat) := s.dev.fget R.LIF_STAT_STATE = k; (¬ busAt 1)) ∧
    (let s : State := lif [(R.LIF_STAT_STATE, 0, 2)] id; let busAt (k : Nat) := s.dev.fget R.LIF_STAT_STATE = k; (¬ busAt 1)) ∧
    (let s : State := lif [(R.LIF_STAT_STATE, 0, 2), (R.LIF_CLEARS_COUNT, 0, 0xFFFF)] id; let sda : Bool := false; let low : Nat := 0; let samples : List Bool := ([false, true]); let held := msCycles (s.dev.fget R.LIF_TMO_TMO) < low; let lineFree := sda = true ∨ true ∈ samples.take 9; let busAt (k : Nat) := s.dev.fget R.LIF_STAT_STATE = k; (busAt 2) ∧ (¬ held) ∧ (lineFree)) ∧
    (let s : State := lif [(R.LIF_STAT_STATE, 0, 2)] (fun c => { c with queue := [.clear] }); let sda : Bool := false; let low : Nat := 0; let samples : List Bool := (List.replicate 9 false); let l := s.dev.lif; let held := msCycles (s.dev.fget R.LIF_TMO_TMO) < low; let lineFree := sda = true ∨ true ∈ samples.take 9; let busAt (k : Nat) := s.dev.fget R.LIF_STAT_STATE = k; (busAt 2) ∧ (held ∨ (¬ lineFree ∧ 9 ≤ samples.length)) ∧ (l.queue.all (· == .clear) = true)) ∧
    (let s : State := lif [(R.LIF_STAT_STATE, 0, 2)] id; let sda : Bool := false; let low : Nat := 0; let samples : List Bool := (List.replicate 8 false); let held := msCycles (s.dev.fget R.LIF_TMO_TMO) < low; let lineFree := sda = true ∨ true ∈ samples.take 9; let busAt (k : Nat) := s.dev.fget R.LIF_STAT_STATE = k; (¬ busAt 2 ∨ (¬ held ∧ ¬ lineFree ∧ samples.length < 9))) ∧
    (let s : State := on (lif [(R.LIF_STAT_STATE, 0, 3)] (fun c => { c with stuckClk := 10 })) (fun d => { d with time := { d.time with clk := 10 + Config.sysPerSecond } }); let l := s.dev.lif; let busAt (k : Nat) := s.dev.fget R.LIF_STAT_STATE = k; (busAt 3) ∧ (l.stuckClk + Config.sysPerSecond ≤ s.dev.time.clk)) ∧
    (let s : State := on (lif [(R.LIF_STAT_STATE, 0, 3)] (fun c => { c with stuckClk := 10 })) (fun d => { d with time := { d.time with clk := 9 + Config.sysPerSecond } }); let l := s.dev.lif; let busAt (k : Nat) := s.dev.fget R.LIF_STAT_STATE = k; (¬ busAt 3 ∨ s.dev.time.clk < l.stuckClk + Config.sysPerSecond)) := by
  decide +kernel

theorem witness_MainResetCauses :
    (let s : State := on (st [(R.RTC_EVT, 0, 0xFF), (R.RTC_MS, 0, 0x1234)]) (fun d => { d with boot := { d.boot with phase := .released } }); let outside := s.dev.boot.phase ≠ .inReset; (outside)) ∧
    (let s : State := on (st [(R.RTC_EVT, 0, 0xFF), (R.HIF_INB, 0, 0x12)]) (fun d => { d with boot := { d.boot with phase := .romHold } }); let outside := s.dev.boot.phase ≠ .inReset; (outside)) ∧
    (let s : State := on (st [(R.RTC_EVT, 0, 0xFF), (R.RTC_MS, 0, 0x1234)]) (fun d => { d with boot := { d.boot with phase := .released } }); let ns : Nat := 5000; let outside := s.dev.boot.phase ≠ .inReset; (outside) ∧ (1000 ≤ ns)) ∧
    (let ns : Nat := 99; (ns < 100)) ∧
    (let s : State := on (st [(R.RTC_EVT, 0, 0xFF), (R.RTC_MS, 0, 0x1234)]) (fun d => { d with pwr := { d.pwr with soft := true }, boot := { d.boot with phase := .released }, time := { d.time with clk := 900000 } }); let p := s.dev.pwr; let outside := s.dev.boot.phase ≠ .inReset; (outside) ∧ (p.soft = true) ∧ (usCycles 100 ≤ s.dev.since p.softClk)) ∧
    (let s : State := st []; let p := s.dev.pwr; (p.soft = false ∨ s.dev.since p.softClk < usCycles 100)) ∧
    (let s : State := on (st [(R.RTC_EVT, 0, 0xFF), (R.RTC_MS, 0, 0x1234)]) (fun d => { d with tmp := { d.tmp with cool := 4 }, boot := { d.boot with phase := .released } }); let supply : Fin 8 := 2; let mv : Nat := 0; let ns : Nat := 5000; let outside := s.dev.boot.phase ≠ .inReset; let low := mv < (s.dev.supplyLevels supply).1 ∧ 2000 < ns; (outside) ∧ (low)) ∧
    (let s : State := on (st [(R.RTC_EVT, 0, 0xFF), (R.RTC_MS, 0, 0x1234)]) (fun d => { d with tmp := { d.tmp with cool := 4 }, boot := { d.boot with phase := .released } }); let supply : Fin 8 := 2; let mv : Nat := 0; let ns : Nat := 2000; let low := mv < (s.dev.supplyLevels supply).1 ∧ 2000 < ns; (¬ low)) ∧
    (let s : State := on (st [(R.PWR_RST_CAUSE_CAUSE, 0, 0x44), (R.CX_STAT_ACT, 0, 1), (R.FSP_STAT_RDY, 0, 1), (R.PWR_STAT, 0, 0xFFFF)]) (fun d => { d with boot := { d.boot with phase := .released } }); let outside := s.dev.boot.phase ≠ .inReset; (outside)) ∧
    (let s : State := on (st []) (fun d => { d with pwr := { d.pwr with seen := 6 } }); let outside := s.dev.boot.phase ≠ .inReset; (¬ outside)) ∧
    (let s : State := on (st []) (fun d => { d with pwr := { d.pwr with active := 0x1F, bo := 0x28, boClk := [(5, 0)] }, time := { d.time with clk := 900000 } }); let supply : Fin 8 := 5; let mv : Nat := 4000; let us : Nat := 1000; let p := s.dev.pwr; let rises := (s.dev.supplyLevels supply).2 < mv ∧ 1000 ≤ us ∧ Config.sysPerMs ≤ s.dev.since (smGet (fun _ => 0) p.boClk supply) ∧ bitAt p.bo supply = true; (rises) ∧ (p.bo ≠ 2 ^ (supply : Nat))) ∧
    (let s : State := on (st []) (fun d => { d with pwr := { d.pwr with active := 0x1F, bo := 0x20, boClk := [(5, 0)] }, time := { d.time with clk := 900000 } }); let supply : Fin 8 := 5; let mv : Nat := 4000; let us : Nat := 1000; let p := s.dev.pwr; let rises := (s.dev.supplyLevels supply).2 < mv ∧ 1000 ≤ us ∧ Config.sysPerMs ≤ s.dev.since (smGet (fun _ => 0) p.boClk supply) ∧ bitAt p.bo supply = true; (rises) ∧ (p.bo = 2 ^ (supply : Nat))) ∧
    (let s : State := on (st []) (fun d => { d with pwr := { d.pwr with active := 0x1F, bo := 0x20, boClk := [(5, 899000)] }, time := { d.time with clk := 900000 } }); let supply : Fin 8 := 5; let mv : Nat := 4000; let us : Nat := 1000; let p := s.dev.pwr; let rises := (s.dev.supplyLevels supply).2 < mv ∧ 1000 ≤ us ∧ Config.sysPerMs ≤ s.dev.since (smGet (fun _ => 0) p.boClk supply) ∧ bitAt p.bo supply = true; (¬ rises)) ∧
    (let mv : Nat := 2501; let ns : Nat := 499; (ns < 500) ∧ (1200 < mv)) ∧
    (let mv : Nat := 2501; let ns : Nat := 500; (500 ≤ ns ∨ mv ≤ 1200)) := by
  decide +kernel

theorem witness_DomainTransitionsAndTemperature :
    (let s : State := doms 0x405 [(R.PWR_DOM_PD3, 0, 2), (R.PWR_DOM_STAT_STATE, 0, 0x40D)] (fun d => goesTo 3 2 0 5 { d with time := { d.time with clk := 5 + msCycles 1 } }); let pd : Fin 8 := 3; let g : Nat := 2; let dom := s.dev.domOf pd; let settled (j : Nat) := (j : Nat) ≠ pd → s.dev.domState j = s.dev.domWant j; let quiet := settled 2 ∧ settled 3 ∧ settled 4 ∧ settled 5 ∧ settled 6 ∧ settled 7 ∧ s.dev.domOrder 5 ≠ 2 ∧ s.dev.domWant pd = g; let plain := 2 ≤ pd ∧ g ≤ 2 ∧ (pd = 2 ∨ pd = 3 ∨ (g = 1 ∧ dom.old = 2)); let passed := dom.clk + domCycles pd dom.old ≤ s.dev.time.clk; (dom.goal = some g) ∧ (dom.stopping = false) ∧ (passed) ∧ (plain) ∧ (quiet)) ∧
    (let s : State := doms 0x405 [(R.PWR_DOM_PD3, 0, 2), (R.PWR_DOM_STAT_STATE, 0, 0x40D)] (fun d => goesTo 3 2 0 5 { d with time := { d.time with clk := 4 + msCycles 1 } }); let pd : Fin 8 := 3; let g : Nat := 2; let dom := s.dev.domOf pd; let passed := dom.clk + domCycles pd dom.old ≤ s.dev.time.clk; (dom.goal = some g) ∧ (dom.stopping = false) ∧ (¬ passed)) ∧
    (let s : State := doms 0x405 [] id; let pd : Fin 8 := 3; let dom := s.dev.domOf pd; (dom.goal = none)) ∧
    (let s : State := doms 0x6A5 [(R.PWR_DOM_STAT_STATE, 0, 0x665)] (fun d => d.updDom 5 (fun c => { c with held := true })); ((s.dev.domOf 5).held = true) ∧ ((s.dev.domOf 5).goal = none) ∧ (s.dev.domWant 5 = 2) ∧ (s.dev.domState 5 = 1)) ∧
    (let s : State := doms 0x6A5 [(R.PWR_DOM_STAT_STATE, 0, 0x665)] id; ((s.dev.domOf 5).held = false)) ∧
    (let s : State := sense [] 2 { val := some 251 }; let i : Fin 4 := 2; let v : Int := 250; let w : List (Option Int) := ([none, none, some 250, none]); let trip := s.dev.fget R.TMP_CFG_TRIP; let x := s.dev.sensor i; let running := s.dev.boot.phase = .released ∧ s.dev.sensorsDark = false ∧ (s.dev.tmp.readClk = 0 ∨ s.dev.tmp.readClk - 1 + usCycles 10 ≤ s.dev.time.clk); let one := w = (List.replicate 4 none).set i (some v); let inRange := -550 ≤ v ∧ v ≤ 1750; let calm := (List.range 4).all (fun j => decide ((s.dev.sensor j).high = 0)) = true; (running) ∧ (one) ∧ (inRange) ∧ (calm) ∧ (x.failed = false) ∧ (v < 10 * trip) ∧ (v < 1050)) ∧
    (let s : State := sense [] 2 { failed := true, good := 99 }; let i : Fin 4 := 2; let v : Int := 1250; let w : List (Option Int) := ([none, none, some 1250, none]); let trip := s.dev.fget R.TMP_CFG_TRIP; let x := s.dev.sensor i; let running := s.dev.boot.phase = .released ∧ s.dev.sensorsDark = false ∧ (s.dev.tmp.readClk = 0 ∨ s.dev.tmp.readClk - 1 + usCycles 10 ≤ s.dev.time.clk); let one := w = (List.replicate 4 none).set i (some v); let inRange := -550 ≤ v ∧ v ≤ 1750; let calm := (List.range 4).all (fun j => decide ((s.dev.sensor j).high = 0)) = true; (running) ∧ (one) ∧ (inRange) ∧ (calm) ∧ (x.failed = true) ∧ (99 ≤ x.good) ∧ (v < 10 * trip)) ∧
    (let s : State := sense [] 2 { failed := true, good := 98 }; let i : Fin 4 := 2; let v : Int := 1250; let w : List (Option Int) := ([none, none, some 1250, none]); let x := s.dev.sensor i; let running := s.dev.boot.phase = .released ∧ s.dev.sensorsDark = false ∧ (s.dev.tmp.readClk = 0 ∨ s.dev.tmp.readClk - 1 + usCycles 10 ≤ s.dev.time.clk); let one := w = (List.replicate 4 none).set i (some v); let inRange := -550 ≤ v ∧ v ≤ 1750; let calm := (List.range 4).all (fun j => decide ((s.dev.sensor j).high = 0)) = true; (running) ∧ (one) ∧ (inRange) ∧ (calm) ∧ (x.failed = true) ∧ (x.good < 99)) ∧
    (let s : State := sense [] 2 { val := some 1250 }; let i : Fin 4 := 2; let v : Int := 1751; let w : List (Option Int) := ([none, none, some 1751, none]); let running := s.dev.boot.phase = .released ∧ s.dev.sensorsDark = false ∧ (s.dev.tmp.readClk = 0 ∨ s.dev.tmp.readClk - 1 + usCycles 10 ≤ s.dev.time.clk); let one := w = (List.replicate 4 none).set i (some v); let inRange := -550 ≤ v ∧ v ≤ 1750; let calm := (List.range 4).all (fun j => decide ((s.dev.sensor j).high = 0)) = true; (running) ∧ (one) ∧ (¬ inRange) ∧ (calm)) ∧
    (let s : State := sense [] 2 { val := some 1450, high := 2 }; let i : Fin 4 := 2; let v : Int := 1400; let w : List (Option Int) := ([none, none, some 1400, none]); let trip := s.dev.fget R.TMP_CFG_TRIP; let x := s.dev.sensor i; let running := s.dev.boot.phase = .released ∧ s.dev.sensorsDark = false ∧ (s.dev.tmp.readClk = 0 ∨ s.dev.tmp.readClk - 1 + usCycles 10 ≤ s.dev.time.clk); let one := w = (List.replicate 4 none).set i (some v); let inRange := -550 ≤ v ∧ v ≤ 1750; (running) ∧ (one) ∧ (inRange) ∧ (x.failed = false) ∧ (2 ≤ x.high) ∧ (10 * (trip : Int) ≤ v) ∧ (bitAt s.dev.pwr.active 2 = false)) ∧
    (let s : State := on (st []) (fun d => { d with tmp := { d.tmp with cool := 5 }, pwr := { d.pwr with active := 6 }, time := { d.time with clk := 4 + Config.sysPerSecond } }); (s.dev.tmp.cool ≠ 0) ∧ (s.dev.tmp.cool + Config.sysPerSecond ≤ s.dev.time.clk + 1)) ∧
    (let s : State := on (st []) (fun d => { d with tmp := { d.tmp with cool := 5 }, pwr := { d.pwr with active := 6 }, time := { d.time with clk := 3 + Config.sysPerSecond } }); (s.dev.tmp.cool = 0 ∨ s.dev.time.clk + 1 < s.dev.tmp.cool + Config.sysPerSecond)) ∧
    (let s : State := sense [] 2 { val := some 1450, clk := 1 }; let i : Fin 4 := 2; let x := s.dev.sensor i; let running := s.dev.boot.phase = .released ∧ s.dev.sensorsDark = false ∧ (s.dev.tmp.readClk = 0 ∨ s.dev.tmp.readClk - 1 + usCycles 10 ≤ s.dev.time.clk); let silent := usCycles 100 < s.dev.since x.clk; (running) ∧ (x.failed = false) ∧ (silent)) ∧
    (let s : State := sense [] 2 { val := some 1450, clk := 499999 }; let i : Fin 4 := 2; let x := s.dev.sensor i; let silent := usCycles 100 < s.dev.since x.clk; (x.failed = true ∨ ¬ silent)) := by
  decide +kernel

theorem witness_PinsAndTestPort :
    (let s : State := st [(R.GPIO_CFG_EDGE, 4, 1)]; let n : Fin 12 := 4; let drive : Option Bool := (some true); let level : Bool := true; let tenths : Nat := 611; let w := s.dev.fget R.GPIO_IN_IN; let edge := bitAt (s.dev.fget R.GPIO_CFG_EDGE n) (if level then 0 else 1); let pull := s.dev.fget R.GPIO_CFG_PULL n; let at_ := match drive, s.dev.gpioDrives n with | some b, _ => some b | none, some b => some b | none, none => if pull = 0 then none else some (decide (2 ≤ pull)); (611 ≤ tenths) ∧ (at_ = some level) ∧ (bitAt w n ≠ level) ∧ (edge = true)) ∧
    (let s : State := st [(R.GPIO_CFG_EDGE, 4, 1), (R.GPIO_IN, 0, 0xFFFF)]; let n : Fin 12 := 4; let drive : Option Bool := (some false); let level : Bool := false; let tenths : Nat := 611; let w := s.dev.fget R.GPIO_IN_IN; let edge := bitAt (s.dev.fget R.GPIO_CFG_EDGE n) (if level then 0 else 1); let pull := s.dev.fget R.GPIO_CFG_PULL n; let at_ := match drive, s.dev.gpioDrives n with | some b, _ => some b | none, some b => some b | none, none => if pull = 0 then none else some (decide (2 ≤ pull)); (611 ≤ tenths) ∧ (at_ = some level) ∧ (bitAt w n ≠ level) ∧ (edge = false)) ∧
    (let s : State := st [(R.GPIO_CFG_EDGE, 4, 1), (R.GPIO_IN, 0, 0xFFFF)]; let n : Fin 12 := 4; let drive : Option Bool := (some true); let tenths : Nat := 611; let w := s.dev.fget R.GPIO_IN_IN; let pull := s.dev.fget R.GPIO_CFG_PULL n; let at_ := match drive, s.dev.gpioDrives n with | some b, _ => some b | none, some b => some b | none, none => if pull = 0 then none else some (decide (2 ≤ pull)); (tenths < 203 ∨ at_ = none ∨ at_ = some (bitAt w n))) ∧
    (let s : State := live [] (fun d => { d with pin := { d.pin with pps := true }, time := { d.time with cyc := 29491200 } }); (msCycles 100 ≤ s.dev.time.cyc)) ∧
    (let s : State := live [] (fun d => { d with pin := { d.pin with pps := true }, time := { d.time with cyc := 29491199 } }); (s.dev.time.cyc < msCycles 100)) ∧
    (let trst : Bool := false; let tms : Nat := 5; (trst = true ∨ 5 ≤ tms)) ∧
    (let trst : Bool := false; let tms : Nat := 4; (trst = false) ∧ (tms < 5)) ∧
    (let s : State := live [(R.GPIO_CFG_FUNC, 0, 1)] (fun d => { d with pin := { d.pin with ir := 2 } }); let cells : List Bool := (List.replicate 198 true); let bdReg := s.dev.pin.ir = 0 ∨ s.dev.pin.ir = 2; (bdReg) ∧ (cells.length = 198)) ∧
    (let s : State := live [(R.GPIO_CFG_FUNC, 0, 1)] (fun d => { d with pin := { d.pin with ir := 8 } }); let bdReg := s.dev.pin.ir = 0 ∨ s.dev.pin.ir = 2; (¬ bdReg)) := by
  decide +kernel

theorem witness_BoundariesAndSeconds :
    (let s : State := live [(R.CHN_N_FM_COUNT, 0, 9)] (fun d => { d with clk := { d.clk with gap := true } }); let up := s.dev.splStopped = false ∧ s.dev.inReset = false; let due := s.dev.grid.due ≤ s.dev.time.clk; let runs4 := up ∧ due ∧ (s.dev.domOf 4).stopping = false ∧ s.dev.domOn 4 = true; (runs4) ∧ (s.dev.ctxLive = [])) ∧
    (let s : State := live [(R.CHN_IQ_CTL_EN, 3, 1), (R.CHN_IQ_FREQ_FREQ, 3, 20000), (R.CHN_IQ_CFG_FREQ_HI, 3, 0), (R.CHN_IQ_CTL_SRC, 3, 0), (R.CHN_IQ_STAT_STATE, 3, 2), (R.AFE_STAT_SAMPLING, 0, 1), (R.CHN_SEG_A_LF, 0, 1)] (fun d => d.updCtx 3 3 (fun c => { c with freq := 20000, src := 0 })); let n : Fin 8 := 3; let up := s.dev.splStopped = false ∧ s.dev.inReset = false; let due := s.dev.grid.due ≤ s.dev.time.clk; let runs4 := up ∧ due ∧ (s.dev.domOf 4).stopping = false ∧ s.dev.domOn 4 = true; let c := s.dev.ctxOf 3 n; let tap := s.dev.ctxLive = [(3, (n : Nat))] ∧ c.managed = false ∧ s.dev.ctxEn 3 n = true ∧ c.shed = false ∧ c.restart = false ∧ c.freq = s.dev.pinFreq 3 n ∧ c.src = s.dev.pinSrc 3 n; let quiet := (List.range 48).all (fun j => s.dev.dscState j == 0) = true; let isServed := s.dev.served 3 c.freq c.src = true; (runs4) ∧ (tap) ∧ (quiet) ∧ (isServed) ∧ (s.dev.ctxState 3 n = 2)) ∧
    (let s : State := live [(R.CHN_IQ_CTL_EN, 3, 1), (R.CHN_IQ_FREQ_FREQ, 3, 20000), (R.CHN_IQ_CFG_FREQ_HI, 3, 0), (R.CHN_IQ_CTL_SRC, 3, 0), (R.CHN_IQ_STAT_STATE, 3, 3), (R.AFE_STAT_SAMPLING, 0, 0), (R.CHN_SEG_A_LF, 0, 1)] (fun d => d.updCtx 3 3 (fun c => { c with freq := 20000, src := 0 })); let n : Fin 8 := 3; let up := s.dev.splStopped = false ∧ s.dev.inReset = false; let due := s.dev.grid.due ≤ s.dev.time.clk; let runs4 := up ∧ due ∧ (s.dev.domOf 4).stopping = false ∧ s.dev.domOn 4 = true; let c := s.dev.ctxOf 3 n; let tap := s.dev.ctxLive = [(3, (n : Nat))] ∧ c.managed = false ∧ s.dev.ctxEn 3 n = true ∧ c.shed = false ∧ c.restart = false ∧ c.freq = s.dev.pinFreq 3 n ∧ c.src = s.dev.pinSrc 3 n; let quiet := (List.range 48).all (fun j => s.dev.dscState j == 0) = true; let isServed := s.dev.served 3 c.freq c.src = true; (runs4) ∧ (tap) ∧ (quiet) ∧ (¬ isServed) ∧ (s.dev.ctxState 3 n = 3)) ∧
    (let s : State := st []; let up := s.dev.splStopped = false ∧ s.dev.inReset = false; let due := s.dev.grid.due ≤ s.dev.time.clk; (¬ up ∨ ¬ due)) ∧
    (let s : State := live [(R.PWR_DOM_STAT_STATE, 0, 0xA9A)] id; let up := s.dev.splStopped = false ∧ s.dev.inReset = false; let due := s.dev.grid.due ≤ s.dev.time.clk; (up) ∧ (due) ∧ ((s.dev.domOf 4).stopping = false) ∧ (s.dev.domOn 4 = false)) ∧
    (let s : State := live [(R.PWR_DOM_STAT_STATE, 0, 0xA9A), (R.AFE_STAT_SAMPLING, 0, 1), (R.AFE_STAT_SAMPLING, 1, 1)] (fun d => { d with grid := { d.grid with meas := some true } }); let up := s.dev.splStopped = false ∧ s.dev.inReset = false; let inputs := s.dev.fbit R.AFE_STAT_SAMPLING 0 = true ∧ s.dev.fbit R.AFE_STAT_SAMPLING 1 = true; (up) ∧ (s.dev.grid.meas = some true) ∧ (inputs) ∧ (s.dev.domOn 4 = false)) ∧
    (let s : State := live [(R.AFE_STAT_SAMPLING, 0, 1), (R.AFE_STAT_SAMPLING, 1, 1), (R.FMC_STAT_STATE, 5, 3), (R.FMC_SNR_VALUE, 5, 60)] (fun d => { d.updFm 5 (fun f => { f with freqSum := -12345, freqN := 7 }) with grid := { d.grid with meas := some false } }); let k : Fin 256 := 5; let up := s.dev.splStopped = false ∧ s.dev.inReset = false; let inputs := s.dev.fbit R.AFE_STAT_SAMPLING 0 = true ∧ s.dev.fbit R.AFE_STAT_SAMPLING 1 = true; let f := s.dev.fmOf k; (up) ∧ (s.dev.grid.meas = some false) ∧ (inputs) ∧ (s.dev.domOn 4 = true) ∧ (s.dev.fmLive = [(k : Nat)]) ∧ (s.dev.amLive = []) ∧ (s.dev.ctxState 0 k = 3) ∧ (0 < f.freqN) ∧ (60 ≤ s.dev.fgetI R.FMC_SNR_VALUE k)) ∧
    (let s : State := st []; let up := s.dev.splStopped = false ∧ s.dev.inReset = false; (¬ up ∨ s.dev.grid.meas ≠ some true)) ∧
    (let s : State := live [] (fun d => { d.updAfe 0 (fun a => { a with ovlSecond := true }) with time := { d.time with sec := 2 ^ 32 - 1, cyc := 5 } }); (s.dev.inReset = false) ∧ (s.dev.time.secPending = none)) ∧
    (let s : State := live [] (fun d => { d with time := { d.time with sec := 2 ^ 32 - 1, cyc := 5, secPending := some 9 } }); let v : Nat := 9; (s.dev.inReset = false) ∧ (s.dev.time.secPending = some v) ∧ (s.dev.fmLive = [])) ∧
    (let s : State := st []; (s.dev.inReset = true)) ∧
    (let s : State := live [(R.HIF_CFG_PEC_EN, 0, 1)] (fun d => { d with time := { d.time with sec := 0x12345678, cyc := 99999 }, bus := { d.bus with inb := .asked } }); (s.dev.inReset = false ∧ s.dev.chainHeld = false ∧ s.dev.bus.dead = false)) ∧
    (let s : State := live [] (fun d => { d with time := { d.time with frozen := some (1, 2, 3, 4) }, bus := { d.bus with active := true, pointer := 0x23 } }); (s.dev.inReset = false ∧ s.dev.chainHeld = false ∧ s.dev.bus.dead = false)) := by
  decide +kernel

theorem witness_MonitorErrorsAndRecoveries :
    (let s : State := mon [(R.MON_ECC_CORR_COUNT, 3, 0xFFFF)] (fun m => { m with scrub := 2490368 }); let clean : Nat := 77; let ecc : Fin 3 := 1; let written : Bool := false; let up := s.dev.inReset = false; let m := s.dev.mon; let passed := passWords ≤ m.scrub; let ready := up ∧ (m.scrub < passWords ∨ m.scrubClk + 10 * Config.sysPerSecond ≤ s.dev.time.clk); let w := min ((if passed then 0 else m.scrub) + clean) (passWords - 1); let within := ready ∧ w + 1 < passWords; (within) ∧ (written = false) ∧ (ecc = 1)) ∧
    (let s : State := mon [(R.MON_SCRUB_COUNT, 0, 0xFFFF)] (fun m => { m with scrub := 2949100 }); let clean : Nat := 77; let ecc : Fin 3 := 0; let written : Bool := false; let up := s.dev.inReset = false; let m := s.dev.mon; let passed := passWords ≤ m.scrub; let ready := up ∧ (m.scrub < passWords ∨ m.scrubClk + 10 * Config.sysPerSecond ≤ s.dev.time.clk); let w := min ((if passed then 0 else m.scrub) + clean) (passWords - 1); (ready) ∧ (w + 1 = passWords) ∧ (written = true ∨ ecc = 0)) ∧
    (let s : State := mon [(R.MON_SCRUB_COUNT, 0, 0xFFFF)] (fun m => { m with seq := 0xFFFFFFFF, scrub := 2097152 }); let clean : Nat := 77; let ecc : Fin 3 := 2; let written : Bool := false; let up := s.dev.inReset = false; let m := s.dev.mon; let logs := s.dev.fbit R.MON_CFG_LOG_EN = true ∧ s.dev.fbit R.MON_STAT_LOG_STOP = false; let passed := passWords ≤ m.scrub; let ready := up ∧ (m.scrub < passWords ∨ m.scrubClk + 10 * Config.sysPerSecond ≤ s.dev.time.clk); let w := min ((if passed then 0 else m.scrub) + clean) (passWords - 1); let region := (scrubAt w regionWords).1; let within := ready ∧ w + 1 < passWords; (within) ∧ (written = false) ∧ (ecc = 2) ∧ (region = 2) ∧ (logs) ∧ (smGet (fun _ => 0) m.errAt 2 = 0)) ∧
    (let s : State := mon [] (fun m => { m with scrub := 2097152 }); let clean : Nat := 77; let written : Bool := true; let up := s.dev.inReset = false; let m := s.dev.mon; let passed := passWords ≤ m.scrub; let ready := up ∧ (m.scrub < passWords ∨ m.scrubClk + 10 * Config.sysPerSecond ≤ s.dev.time.clk); let w := min ((if passed then 0 else m.scrub) + clean) (passWords - 1); let within := ready ∧ w + 1 < passWords; (within) ∧ (written = true)) ∧
    (let s : State := mon [] (fun m => { m with scrub := passWords, scrubClk := 100000 }); let up := s.dev.inReset = false; let m := s.dev.mon; let ready := up ∧ (m.scrub < passWords ∨ m.scrubClk + 10 * Config.sysPerSecond ≤ s.dev.time.clk); (¬ ready)) ∧
    (let s : State := on (mon [] id) (fun d => d.setStaged 0x140 5); let i : BitVec 16 := 0x140; let up := s.dev.inReset = false; (up) ∧ (isStaged i.toNat = true)) ∧
    (let s : State := on (mon [] id) (fun d => d.setStaged 0x140 5); let i : BitVec 16 := 0x140; let up := s.dev.inReset = false; (up) ∧ (isStaged i.toNat = true)) ∧
    (let i : BitVec 16 := 0x1; (isStaged i.toNat = false)) ∧
    (let s : State := mon [] id; let e : Fin 12 := 4; let m := s.dev.mon; (e ≠ 0) ∧ (s.dev.engineRuns e = true) ∧ (m.recov = []) ∧ (s.dev.restarted 6 1 e (s.dev.fget R.MON_CFG_WIN) = false)) ∧
    (let s : State := mon [] id; let m := s.dev.mon; (s.dev.engineRuns 0 = true) ∧ (m.recov = []) ∧ (s.dev.restarted 7 0 0 600 = false)) ∧
    (let s : State := st []; let e : Fin 12 := 4; (s.dev.engineRuns e = false)) ∧
    (let s : State := on (mon [(R.FMC_STAT_STATE, 5, 3)] id) (fun d => { d with time := { d.time with clk := 4000000 } }); let k : Fin 256 := 5; let up := s.dev.inReset = false; let m := s.dev.mon; let stalled := s.dev.itemUp 2 k = true ∧ s.dev.ctxState (itemPool 2) k = 3 ∧ msCycles 3 < s.dev.time.clk + 1 - smGet (fun _ => 0) m.prog (4096 + 2 * 256 + k); (up) ∧ (stalled) ∧ (m.recov = []) ∧ (s.dev.restarted 0 2 k (s.dev.fget R.MON_CFG_WIN) = false) ∧ (s.dev.epoch.waiting = [])) ∧
    (let s : State := on (mon [(R.FMC_STAT_STATE, 5, 3), (R.MON_CFG_WIN, 0, 60)] (fun m => { m with last := [(4613, 1)] })) (fun d => { d with time := { d.time with clk := 4000000 } }); let k : Fin 256 := 5; let up := s.dev.inReset = false; let m := s.dev.mon; let stalled := s.dev.itemUp 2 k = true ∧ s.dev.ctxState (itemPool 2) k = 3 ∧ msCycles 3 < s.dev.time.clk + 1 - smGet (fun _ => 0) m.prog (4096 + 2 * 256 + k); (up) ∧ (stalled) ∧ (m.recov = []) ∧ (s.dev.restarted 0 2 k (s.dev.fget R.MON_CFG_WIN) = true) ∧ (s.dev.restarted 7 0 0 600 = false)) ∧
    (let s : State := on (on (mon [(R.FMC_STAT_STATE, 5, 3)] id) (fun d => { d with epoch := { d.epoch with waiting := [.rf] }, regs := { d.regs with committed := [(0x0484, 0x1234)] } })) (fun d => { d with time := { d.time with clk := 4000000 } }); let k : Fin 256 := 5; let up := s.dev.inReset = false; let m := s.dev.mon; let stalled := s.dev.itemUp 2 k = true ∧ s.dev.ctxState (itemPool 2) k = 3 ∧ msCycles 3 < s.dev.time.clk + 1 - smGet (fun _ => 0) m.prog (4096 + 2 * 256 + k); (up) ∧ (stalled) ∧ (m.recov = []) ∧ (s.dev.restarted 0 2 k (s.dev.fget R.MON_CFG_WIN) = false) ∧ (s.dev.epoch.waiting = [.rf])) ∧
    (let s : State := mon [(R.FMC_STAT_STATE, 5, 3)] id; let k : Fin 256 := 5; let m := s.dev.mon; let stalled := s.dev.itemUp 2 k = true ∧ s.dev.ctxState (itemPool 2) k = 3 ∧ msCycles 3 < s.dev.time.clk + 1 - smGet (fun _ => 0) m.prog (4096 + 2 * 256 + k); (¬ stalled)) ∧
    (let s : State := mon [] (fun m => { m with recov := [(⟨6, 2, 1, 4, 3, 1000, false, false, 0, 0, [], 0, none, 0⟩)] }); let e : Fin 12 := 4; let r : RecovSt := (⟨6, 2, 1, 4, 3, 1000, false, false, 0, 0, [], 0, none, 0⟩); let m := s.dev.mon; let mine := m.recov = [r] ∧ r.domain = 6 ∧ r.index = e ∧ r.acted = false ∧ r.done = false; (mine) ∧ (s.dev.eraseBusy = false) ∧ (e = 0 ∨ (4 ≤ e ∧ e ≠ 11)) ∧ (s.dev.epoch.waiting = [])) ∧
    (let s : State := mon [(R.FSP_SRC_MOULT, 0, 0)] (fun m => { m with recov := [(⟨6, 2, 1, 11, 3, 1000, false, false, 0, 0, [], 0, none, 0⟩)], queue := [⟨1, 9, 5, [2, 3], false⟩, ⟨4, 8, 5, [7], true⟩, ⟨2, 10, 5, [], true⟩] }); let e : Fin 12 := 11; let r : RecovSt := (⟨6, 2, 1, 11, 3, 1000, false, false, 0, 0, [], 0, none, 0⟩); let m := s.dev.mon; let mine := m.recov = [r] ∧ r.domain = 6 ∧ r.index = e ∧ r.acted = false ∧ r.done = false; (mine) ∧ (s.dev.eraseBusy = false) ∧ (e = 11) ∧ (s.dev.epoch.waiting = []) ∧ (s.dev.fbit R.FSP_SRC_MOULT = false)) ∧
    (let s : State := mon [(R.FSP_SRC_MOULT, 0, 0)] (fun m => { m with recov := [(⟨6, 2, 1, 11, 3, 1000, false, false, 0, 0, [], 0, none, 0⟩)] }); let e : Fin 12 := 11; let r : RecovSt := (⟨6, 2, 1, 11, 3, 1000, false, false, 0, 0, [], 0, none, 0⟩); let m := s.dev.mon; let mine := m.recov = [r] ∧ r.domain = 6 ∧ r.index = e ∧ r.acted = false ∧ r.done = false; (mine) ∧ (s.dev.eraseBusy = false) ∧ (e = 11) ∧ (s.dev.epoch.waiting = []) ∧ (s.dev.fbit R.FSP_SRC_MOULT = false)) ∧
    (let s : State := mon [] id; let m := s.dev.mon; (m.recov = [] ∨ s.dev.eraseBusy = true)) ∧
    (let s : State := mon [] (fun m => { m with recov := [(⟨5, 4, 0, 0, 3, 1000, true, false, 0, 0, [], 0, none, 0⟩)] }); let c : Fin 8 := 5; let r : RecovSt := (⟨5, 4, 0, 0, 3, 1000, true, false, 0, 0, [], 0, none, 0⟩); let m := s.dev.mon; let ended := m.recov = [r] ∧ r.domain = c ∧ r.acted = true ∧ r.done = false ∧ s.dev.epoch.waiting = [] ∧ s.dev.boot.phase = .released ∧ c ≠ 0; (ended)) ∧
    (let s : State := mon [] id; let m := s.dev.mon; (m.recov = [])) ∧
    (let s : State := mon [(R.MON_LOST_MS_MS, 0, 65530)] (fun m => { m with recov := [(⟨5, 4, 0, 0, 3, 1000, true, true, 7, 8, [], 12, some 5, 0⟩)] }); let r : RecovSt := (⟨5, 4, 0, 0, 3, 1000, true, true, 7, 8, [], 12, some 5, 0⟩); let m := s.dev.mon; let logs := s.dev.fbit R.MON_CFG_LOG_EN = true ∧ s.dev.fbit R.MON_STAT_LOG_STOP = false; let known := r.done = true ∧ (r.watch = [] ∨ r.doneClk + 10 * Config.sysPerSecond ≤ s.dev.time.clk); (m.recov = [r]) ∧ (known) ∧ (logs)) ∧
    (let s : State := mon [] id; let r : RecovSt := (⟨5, 4, 0, 0, 3, 1000, true, false, 0, 0, [], 0, none, 0⟩); let m := s.dev.mon; let known := r.done = true ∧ (r.watch = [] ∨ r.doneClk + 10 * Config.sysPerSecond ≤ s.dev.time.clk); (m.recov = [] ∨ (m.recov = [r] ∧ ¬ known))) := by
  decide +kernel

theorem witness_MoultRecordsAndRing :
    (let s : State := mon [] (fun m => { m with bootPair := true, pairSec := 4 }); let up := s.dev.inReset = false; let m := s.dev.mon; let logs := s.dev.fbit R.MON_CFG_LOG_EN = true ∧ s.dev.fbit R.MON_STAT_LOG_STOP = false; (up) ∧ (logs) ∧ (m.bootPair = true)) ∧
    (let s : State := mon [] (fun m => { m with pairSec := 3600, seq := 0xFFFFFFFE }); let up := s.dev.inReset = false; let m := s.dev.mon; let logs := s.dev.fbit R.MON_CFG_LOG_EN = true ∧ s.dev.fbit R.MON_STAT_LOG_STOP = false; (up) ∧ (logs) ∧ (m.bootPair = false) ∧ (3600 ≤ m.pairSec)) ∧
    (let s : State := mon [] (fun m => { m with pairSec := 3599, seq := 0xFFFFFFFE }); let m := s.dev.mon; (m.bootPair = false) ∧ (m.pairSec < 3600)) ∧
    (let s : State := mon [] (fun m => { m with pairSec := 3599, seq := 0xFFFFFFFE }); let up := s.dev.inReset = false; let logs := s.dev.fbit R.MON_CFG_LOG_EN = true ∧ s.dev.fbit R.MON_STAT_LOG_STOP = false; (up) ∧ (logs) ∧ (s.dev.fbit R.MON_STAT_FLUSHING = false)) ∧
    (let s : State := mon [(R.MON_STAT_FLUSHING, 0, 1)] (fun m => { m with pairSec := 3599, seq := 0xFFFFFFFE }); let up := s.dev.inReset = false; (up) ∧ (s.dev.fbit R.MON_STAT_FLUSHING = true)) ∧
    (let s : State := turn (mon [] (fun m => { m with queue := [⟨4, 9, 0, [2, 3, 0, 1, 0, 0, 0, 77], false⟩] })); let r : MonRec := (⟨4, 9, 0, [2, 3, 0, 1, 0, 0, 0, 77], false⟩); let rest : List MonRec := ([]); let j : Nat := 5; let m := s.dev.mon; let logs := s.dev.fbit R.MON_CFG_LOG_EN = true ∧ s.dev.fbit R.MON_STAT_LOG_STOP = false; let n := recUnits r.type; let sec := s.dev.ringSector; let u := ringPlace s.flash m.unit n sec; let turn := s.dev.anole.head? = some false ∧ s.dev.flashBusy = false; let first := m.queue = r :: rest ∧ turn; (logs) ∧ (first) ∧ (ringNeeds s.flash u sec = []) ∧ (ringErased s.flash u (u + n) = true) ∧ (j < 64 * n)) ∧
    (let s : State := turn (mon [] (fun m => { m with unit := 4095, queue := [⟨4, 9, 0, [2, 3, 0, 1, 0, 0, 0, 77], false⟩] })); let r : MonRec := (⟨4, 9, 0, [2, 3, 0, 1, 0, 0, 0, 77], false⟩); let rest : List MonRec := ([]); let m := s.dev.mon; let logs := s.dev.fbit R.MON_CFG_LOG_EN = true ∧ s.dev.fbit R.MON_STAT_LOG_STOP = false; let n := recUnits r.type; let sec := s.dev.ringSector; let u := ringPlace s.flash m.unit n sec; let turn := s.dev.anole.head? = some false ∧ s.dev.flashBusy = false; let first := m.queue = r :: rest ∧ turn; (logs) ∧ (first) ∧ (ringNeeds s.flash u sec = [])) ∧
    (let s : State := { turn (mon [] (fun m => { m with unit := 4095, queue := [⟨4, 9, 0, [2, 3, 0, 1, 0, 0, 0, 77], false⟩] })) with flash := ring7 }; let r : MonRec := (⟨4, 9, 0, [2, 3, 0, 1, 0, 0, 0, 77], false⟩); let rest : List MonRec := ([]); let v : Nat := 0; let m := s.dev.mon; let logs := s.dev.fbit R.MON_CFG_LOG_EN = true ∧ s.dev.fbit R.MON_STAT_LOG_STOP = false; let n := recUnits r.type; let sec := s.dev.ringSector; let u := ringPlace s.flash m.unit n sec; let turn := s.dev.anole.head? = some false ∧ s.dev.flashBusy = false; let first := m.queue = r :: rest ∧ turn; (logs) ∧ (first) ∧ (ringNeeds s.flash u sec = [v]) ∧ (v ≠ u)) ∧
    (let s : State := { turn (mon [] (fun m => { m with unit := 4095, queue := [⟨4, 9, 0, [2, 3, 0, 1, 0, 0, 0, 77], false⟩] })) with flash := ring7 }; let r : MonRec := (⟨4, 9, 0, [2, 3, 0, 1, 0, 0, 0, 77], false⟩); let rest : List MonRec := ([]); let m := s.dev.mon; let logs := s.dev.fbit R.MON_CFG_LOG_EN = true ∧ s.dev.fbit R.MON_STAT_LOG_STOP = false; let n := recUnits r.type; let sec := s.dev.ringSector; let u := ringPlace s.flash m.unit n sec; let turn := s.dev.anole.head? = some false ∧ s.dev.flashBusy = false; let first := m.queue = r :: rest ∧ turn; (logs) ∧ (first) ∧ (ringNeeds s.flash u sec ≠ [])) ∧
    (let s : State := mon [] id; let m := s.dev.mon; let logs := s.dev.fbit R.MON_CFG_LOG_EN = true ∧ s.dev.fbit R.MON_STAT_LOG_STOP = false; let turn := s.dev.anole.head? = some false ∧ s.dev.flashBusy = false; (m.queue = [] ∨ (logs ∧ ¬ turn))) ∧
    (let s : State := mon [] (fun m => { m with rd := some 4 }); let up := s.dev.inReset = false; (up)) ∧
    (let s : State := { on (mon [] id) (fun d => { d with boot := { d.boot with sfdp := some ⟨0x1000000, true, true, none, none, 0⟩ } }) with flash := ring7 }; let q : RingRec := (⟨0, rec7⟩); let up := s.dev.inReset = false; let newest := ringNewest ((ringAll s.flash).filter (fun x => x.type == 1)); (up) ∧ (s.dev.boot.sfdp.isSome = true) ∧ (newest = some q)) ∧
    (let s : State := mon [] id; let newest := ringNewest ((ringAll s.flash).filter (fun x => x.type == 1)); (newest = none)) ∧
    (let s : State := mon [(R.MON_STAT_RD_END, 0, 1), (R.MON_RD_SEQ_HI, 0, 0xFFFF)] id; let up := s.dev.inReset = false; (up)) ∧
    (let s : State := mon [] (fun m => { m with seq := 0x123456 }); (s.dev.inReset = false ∧ s.dev.chainHeld = false ∧ s.dev.bus.dead = false)) ∧
    (let s : State := { on (mon [(R.HIF_CFG_PEC_EN, 0, 1)] id) (fun d => { d with boot := { d.boot with sfdp := some ⟨0x1000000, true, true, none, none, 0⟩ } }) with flash := ring7 }; let q : RingRec := (⟨0, rec7⟩); let up := s.dev.inReset = false; (up) ∧ (s.dev.chainHeld = false) ∧ (s.dev.rdRecord s.flash = some q)) := by
  decide +kernel

theorem witness_EpochsOfConfiguration :
    (let s : State := layered 1 2 3 [(R.SYS_EPOCH_NUM, 0, 0xFFFF), (R.BOOT_STAT_WAIT_COMMIT, 0, 1)] id; let k1 : Byte := 0xC3; let k2 : Byte := 0x3C; let d := s.dev; let atRest := d.inReset = false ∧ d.chainHeld = false ∧ d.bus.active = false ∧ d.bus.inb = .idle ∧ d.fbit R.HIF_CFG_PEC_EN = false; let applying := d.fbit R.SYS_EPOCH_STAT_APPLYING = true; let keyed := k1 = 0xC3 ∧ k2 = 0x3C; (atRest) ∧ (¬ applying) ∧ (keyed)) ∧
    (let s : State := layered 1 2 3 [(R.SYS_EPOCH_STAT_APPLYING, 0, 1)] id; let k1 : Byte := 0xC3; let k2 : Byte := 0x3C; let d := s.dev; let atRest := d.inReset = false ∧ d.chainHeld = false ∧ d.bus.active = false ∧ d.bus.inb = .idle ∧ d.fbit R.HIF_CFG_PEC_EN = false; let applying := d.fbit R.SYS_EPOCH_STAT_APPLYING = true; let keyed := k1 = 0xC3 ∧ k2 = 0x3C; (atRest) ∧ (applying) ∧ (keyed)) ∧
    (let s : State := layered 1 2 3 [] id; let k1 : Byte := 0xC3; let k2 : Byte := 0x3D; let d := s.dev; let atRest := d.inReset = false ∧ d.chainHeld = false ∧ d.bus.active = false ∧ d.bus.inb = .idle ∧ d.fbit R.HIF_CFG_PEC_EN = false; let keyed := k1 = 0xC3 ∧ k2 = 0x3C; (atRest) ∧ (¬ keyed)) ∧
    (let s : State := layered 1 2 3 [] id; let lo : Byte := 0x01; let d := s.dev; let atRest := d.inReset = false ∧ d.chainHeld = false ∧ d.bus.active = false ∧ d.bus.inb = .idle ∧ d.fbit R.HIF_CFG_PEC_EN = false; let applying := d.fbit R.SYS_EPOCH_STAT_APPLYING = true; (atRest) ∧ (¬ applying) ∧ (bitsOf (BitVec.ofNat 16 lo.toNat) 1 0 = 1)) ∧
    (let s : State := layered 1 2 3 [(R.SYS_EPOCH_STAT_APPLYING, 0, 1)] id; let lo : Byte := 0x01; let d := s.dev; let atRest := d.inReset = false ∧ d.chainHeld = false ∧ d.bus.active = false ∧ d.bus.inb = .idle ∧ d.fbit R.HIF_CFG_PEC_EN = false; let applying := d.fbit R.SYS_EPOCH_STAT_APPLYING = true; (atRest) ∧ (applying) ∧ (bitsOf (BitVec.ofNat 16 lo.toNat) 1 0 = 1)) ∧
    (let s : State := layered 1 2 3 [(R.SYS_EPOCH_STAT_APPLYING, 0, 1)] id; let k1 : Byte := 0xA4; let d := s.dev; let atRest := d.inReset = false ∧ d.chainHeld = false ∧ d.bus.active = false ∧ d.bus.inb = .idle ∧ d.fbit R.HIF_CFG_PEC_EN = false; (atRest) ∧ (k1 ≠ 0xA5)) ∧
    (let s : State := layered 1 2 3 [(R.SYS_EPOCH_STAT_APPLYING, 0, 1), (R.SYS_EPOCH_STAT_HELD, 0, 1)] id; let d := s.dev; let atRest := d.inReset = false ∧ d.chainHeld = false ∧ d.bus.active = false ∧ d.bus.inb = .idle ∧ d.fbit R.HIF_CFG_PEC_EN = false; (atRest)) ∧
    (let s : State := layered 1 2 3 [(R.SYS_EPOCH_STAT_APPLYING, 0, 1), (R.SYS_EPOCH_STAT_HELD, 0, 1)] id; let lo : Byte := 0x03; let d := s.dev; let atRest := d.inReset = false ∧ d.chainHeld = false ∧ d.bus.active = false ∧ d.bus.inb = .idle ∧ d.fbit R.HIF_CFG_PEC_EN = false; (atRest) ∧ (2 ≤ bitsOf (BitVec.ofNat 16 lo.toNat) 1 0)) ∧
    (let s : State := layered 1 2 3 [(R.SYS_EPOCH_STAT_APPLYING, 0, 1), (R.SYS_EPOCH_STAT_HELD, 0, 1)] id; let k1 : Byte := 0xA4; let d := s.dev; let atRest := d.inReset = false ∧ d.chainHeld = false ∧ d.bus.active = false ∧ d.bus.inb = .idle ∧ d.fbit R.HIF_CFG_PEC_EN = false; (atRest) ∧ (k1 ≠ 0xA5)) ∧
    (let s : State := layered 1 2 3 [] (fun d => { d with epoch := { d.epoch with waiting := [.dab, .control] } }); let u : EpochUnit := .control; let d := s.dev; let waits := d.epoch.waiting.contains u = true; let free := d.flashBusy = false ∧ (u = .slk → d.slkBusy = false); (waits) ∧ (free)) ∧
    (let s : State := layered 1 2 3 [] (fun d => { d with epoch := { d.epoch with waiting := [.dab], bad := [0x141] } }); let u : EpochUnit := (unitOf 0x141); let d := s.dev; let waits := d.epoch.waiting.contains u = true; let free := d.flashBusy = false ∧ (u = .slk → d.slkBusy = false); let bad := d.epoch.bad.any (fun x => unitOf x == u) = true; (¬ waits) ∧ (bad) ∧ (free)) ∧
    (let s : State := layered 1 2 3 [] (fun d => { d with epoch := { d.epoch with waiting := [.dab, .control] } }); let u : EpochUnit := .rf; let d := s.dev; let waits := d.epoch.waiting.contains u = true; let bad := d.epoch.bad.any (fun x => unitOf x == u) = true; (¬ waits) ∧ (¬ bad)) ∧
    (let s : State := layered 1 2 3 [] (fun d => { d with epoch := { d.epoch with waiting := [.slk] }, slk := { d.slk with tx := some { isAck := false, frame := [], hop := 0, mode := 0, r23 := false, pwr := 0, prio := false, phase := 4, due := 0, clk := 0 } } }); let u : EpochUnit := .slk; let d := s.dev; let free := d.flashBusy = false ∧ (u = .slk → d.slkBusy = false); (¬ free)) ∧
    (let s : State := layered 1 2 3 [(R.SYS_EPOCH_STAT_APPLYING, 0, 1), (R.CLK_STAT_SPL, 0, 2), (R.CLK_STAT_APL, 0, 2), (R.PWR_DOM, 0, 0xAAA), (R.PWR_DOM_STAT_STATE, 0, 0xAAA)] (fun d => { d with lif := { d.lif with started := true } }); let d := s.dev; let firm := d.lif.started = true ∧ d.fget R.CLK_STAT_SPL ≠ 0 ∧ d.fget R.CLK_STAT_APL ≠ 0; (d.epochDone = true) ∧ (firm) ∧ (d.fbit R.SYS_EPOCH_STAT_HELD = false)) ∧
    (let s : State := layered 1 2 3 [(R.SYS_EPOCH_STAT_APPLYING, 0, 1), (R.SYS_EPOCH_STAT_HELD, 0, 1), (R.CLK_STAT_SPL, 0, 2), (R.CLK_STAT_APL, 0, 2), (R.PWR_DOM, 0, 0xAAA), (R.PWR_DOM_STAT_STATE, 0, 0xAAA)] (fun d => { d with lif := { d.lif with started := true } }); let d := s.dev; let firm := d.lif.started = true ∧ d.fget R.CLK_STAT_SPL ≠ 0 ∧ d.fget R.CLK_STAT_APL ≠ 0; (d.epochDone = true) ∧ (firm) ∧ (d.fbit R.SYS_EPOCH_STAT_HELD = true)) ∧
    (let s : State := layered 1 2 3 [(R.SYS_EPOCH_STAT_APPLYING, 0, 1), (R.PWR_DOM, 0, 0xAAA), (R.PWR_DOM_STAT_STATE, 0, 0xAAA)] id; let d := s.dev; (d.epochDone = true) ∧ (d.lif.started = false) ∧ (d.lif.scripts = []) ∧ (d.fget R.CLK_STAT_SPL = 0) ∧ (d.fget R.CLK_STAT_APL = 0) ∧ (d.fbit R.SYS_EPOCH_STAT_HELD = false)) ∧
    (let s : State := layered 1 2 3 [(R.SYS_EPOCH_STAT_APPLYING, 0, 1), (R.PWR_DOM, 0, 0xAAA), (R.PWR_DOM_STAT_STATE, 0, 0xAAA)] (fun d => { d with epoch := { d.epoch with waiting := [.slk] } }); let d := s.dev; (d.epochDone = false)) := by
  decide +kernel

theorem imgPart_add (img : BootImage) (a m n : Nat) : imgPart img a (m + n) = imgPart img a m ++ imgPart img (a + m) n := by
  simp [imgPart, List.range_add, Function.comp_def, Nat.add_assoc]

theorem smGet_filter (f : Nat → Byte) (p : Nat → Bool) (m : SMap Byte) (k : Nat) (hk : p k = true) :
    smGet f (m.filter (fun e => p e.1)) k = smGet f m k := by
  induction m with
  | nil => rfl
  | cons e t ih =>
    obtain ⟨a, v⟩ := e
    by_cases ha : p a = true
    · simp [List.filter_cons, ha, smGet, ih]
    · have hne : a ≠ k := fun h => ha (h ▸ hk)
      simp [List.filter_cons, ha, smGet, ih, hne]

/-- A part of an image is read from the entries of its own range. -/
theorem imgPart_filter (fl : SMap Byte) (a n : Nat) :
    imgPart (bankImage fl 0) a n = imgPart (bankImage (fl.filter (fun e => decide (a ≤ e.1) && decide (e.1 < a + n))) 0) a n := by
  simp only [imgPart, bankImage]
  apply List.map_congr_left
  intro i hi
  rw [smGet_filter _ (fun k => decide (a ≤ k) && decide (k < a + n))]
  simp [List.mem_range] at hi
  simp; omega

/-- A part of an image in the Lilypad is read from the entries of its own range. -/
theorem hostPart_filter (fl : SMap Byte) (a n : Nat) :
    imgPart (hostImage fl) a n = imgPart (hostImage (fl.filter (fun e => decide (a ≤ e.1) && decide (e.1 < a + n)))) a n := by
  simp only [imgPart, hostImage]
  apply List.map_congr_left
  intro i hi
  rw [smGet_filter _ (fun k => decide (a ≤ k) && decide (k < a + n))]
  simp [List.mem_range] at hi
  simp; omega

theorem image_crc0 : (imgPart (bankImage image 0) 0 256).foldl crc32Byte 4294967295 = 889058346 := by
  rw [imgPart_filter]; decide +kernel

theorem image_crc1 : (imgPart (bankImage image 0) 256 256).foldl crc32Byte 889058346 = 1573345586 := by
  rw [imgPart_filter]; decide +kernel

theorem image_crc2 : (imgPart (bankImage image 0) 512 256).foldl crc32Byte 1573345586 = 3692487058 := by
  rw [imgPart_filter]; decide +kernel

theorem image_crc3 : (imgPart (bankImage image 0) 768 256).foldl crc32Byte 3692487058 = 268270094 := by
  rw [imgPart_filter]; decide +kernel

theorem image_crc4 : (imgPart (bankImage image 0) 1024 256).foldl crc32Byte 268270094 = 2394151602 := by
  rw [imgPart_filter]; decide +kernel

theorem image_crc5 : (imgPart (bankImage image 0) 1280 256).foldl crc32Byte 2394151602 = 4082770515 := by
  rw [imgPart_filter]; decide +kernel

theorem image_crc6 : (imgPart (bankImage image 0) 1536 256).foldl crc32Byte 4082770515 = 2420750215 := by
  rw [imgPart_filter]; decide +kernel

theorem image_crc7 : (imgPart (bankImage image 0) 1792 256).foldl crc32Byte 2420750215 = 3242407925 := by
  rw [imgPart_filter]; decide +kernel

theorem image_crc8 : (imgPart (bankImage image 0) 2048 256).foldl crc32Byte 3242407925 = 2871434858 := by
  rw [imgPart_filter]; decide +kernel

theorem image_crc9 : (imgPart (bankImage image 0) 2304 256).foldl crc32Byte 2871434858 = 3763427521 := by
  rw [imgPart_filter]; decide +kernel

theorem image_crc10 : (imgPart (bankImage image 0) 2560 256).foldl crc32Byte 3763427521 = 2519734339 := by
  rw [imgPart_filter]; decide +kernel

theorem image_crc11 : (imgPart (bankImage image 0) 2816 240).foldl crc32Byte 2519734339 = 4226402492 := by
  rw [imgPart_filter]; decide +kernel

theorem image_crc : crc32 (imgPart (bankImage image 0) 0 3056) = 68564803 := by
  have h : imgPart (bankImage image 0) 0 3056 = imgPart (bankImage image 0) 0 256 ++ imgPart (bankImage image 0) 256 256 ++ imgPart (bankImage image 0) 512 256 ++ imgPart (bankImage image 0) 768 256 ++ imgPart (bankImage image 0) 1024 256 ++ imgPart (bankImage image 0) 1280 256 ++ imgPart (bankImage image 0) 1536 256 ++ imgPart (bankImage image 0) 1792 256 ++ imgPart (bankImage image 0) 2048 256 ++ imgPart (bankImage image 0) 2304 256 ++ imgPart (bankImage image 0) 2560 256 ++ imgPart (bankImage image 0) 2816 240 := by
    simp only [← imgPart_add (bankImage image 0), List.append_assoc]
  rw [crc32, h]
  simp only [List.foldl_append, image_crc0, image_crc1, image_crc2, image_crc3, image_crc4, image_crc5, image_crc6, image_crc7, image_crc8, image_crc9, image_crc10, image_crc11]
  decide

theorem image_valid : imageCheck (bankImage image 0) none = 0 := by
  have h1 : headerCheck (bankImage image 0) none = 0 := by decide +kernel
  have h2 : imgLen (bankImage image 0) = 3072 := by decide +kernel
  have h3 : imgVal (bankImage image 0) (3072 - 8) 4 = 68564803 := by decide +kernel
  have h4 : ((imgSections (bankImage image 0)).all (sectionOk (bankImage image 0)) && allApart (imgSections (bankImage image 0))) = true := by decide +kernel
  have h5 : countsOk (imgSections (bankImage image 0)) = true := by decide +kernel
  simp [imageCheck, h1, h2, h3, image_crc, h4, h5]

theorem image_runs : compatFail (bankImage image 0) = 0 ∧ imgRecords (bankImage image 0) = [] ∧ imgScripts (bankImage image 0) = none := by decide +kernel

theorem loaded_crc0 : (imgPart (hostImage loaded) 0 256).foldl crc32Byte 4294967295 = 4261361250 := by
  rw [hostPart_filter]; decide +kernel

theorem loaded_crc1 : (imgPart (hostImage loaded) 256 256).foldl crc32Byte 4261361250 = 3036677740 := by
  rw [hostPart_filter]; decide +kernel

theorem loaded_crc2 : (imgPart (hostImage loaded) 512 256).foldl crc32Byte 3036677740 = 4013954308 := by
  rw [hostPart_filter]; decide +kernel

theorem loaded_crc3 : (imgPart (hostImage loaded) 768 256).foldl crc32Byte 4013954308 = 3620967016 := by
  rw [hostPart_filter]; decide +kernel

theorem loaded_crc4 : (imgPart (hostImage loaded) 1024 256).foldl crc32Byte 3620967016 = 936444606 := by
  rw [hostPart_filter]; decide +kernel

theorem loaded_crc5 : (imgPart (hostImage loaded) 1280 256).foldl crc32Byte 936444606 = 2393516101 := by
  rw [hostPart_filter]; decide +kernel

theorem loaded_crc6 : (imgPart (hostImage loaded) 1536 256).foldl crc32Byte 2393516101 = 2179843548 := by
  rw [hostPart_filter]; decide +kernel

theorem loaded_crc7 : (imgPart (hostImage loaded) 1792 256).foldl crc32Byte 2179843548 = 2620913367 := by
  rw [hostPart_filter]; decide +kernel

theorem loaded_crc8 : (imgPart (hostImage loaded) 2048 256).foldl crc32Byte 2620913367 = 2510282562 := by
  rw [hostPart_filter]; decide +kernel

theorem loaded_crc9 : (imgPart (hostImage loaded) 2304 256).foldl crc32Byte 2510282562 = 846003139 := by
  rw [hostPart_filter]; decide +kernel

theorem loaded_crc10 : (imgPart (hostImage loaded) 2560 256).foldl crc32Byte 846003139 = 1227815817 := by
  rw [hostPart_filter]; decide +kernel

theorem loaded_crc11 : (imgPart (hostImage loaded) 2816 240).foldl crc32Byte 1227815817 = 2784860489 := by
  rw [hostPart_filter]; decide +kernel

theorem loaded_crc : crc32 (imgPart (hostImage loaded) 0 3056) = 1510106806 := by
  have h : imgPart (hostImage loaded) 0 3056 = imgPart (hostImage loaded) 0 256 ++ imgPart (hostImage loaded) 256 256 ++ imgPart (hostImage loaded) 512 256 ++ imgPart (hostImage loaded) 768 256 ++ imgPart (hostImage loaded) 1024 256 ++ imgPart (hostImage loaded) 1280 256 ++ imgPart (hostImage loaded) 1536 256 ++ imgPart (hostImage loaded) 1792 256 ++ imgPart (hostImage loaded) 2048 256 ++ imgPart (hostImage loaded) 2304 256 ++ imgPart (hostImage loaded) 2560 256 ++ imgPart (hostImage loaded) 2816 240 := by
    simp only [← imgPart_add (hostImage loaded), List.append_assoc]
  rw [crc32, h]
  simp only [List.foldl_append, loaded_crc0, loaded_crc1, loaded_crc2, loaded_crc3, loaded_crc4, loaded_crc5, loaded_crc6, loaded_crc7, loaded_crc8, loaded_crc9, loaded_crc10, loaded_crc11]
  decide

theorem loaded_valid : imageCheck (hostImage loaded) (some 3072) = 0 := by
  have h1 : headerCheck (hostImage loaded) (some 3072) = 0 := by decide +kernel
  have h2 : imgLen (hostImage loaded) = 3072 := by decide +kernel
  have h3 : imgVal (hostImage loaded) (3072 - 8) 4 = 1510106806 := by decide +kernel
  have h4 : ((imgSections (hostImage loaded)).all (sectionOk (hostImage loaded)) && allApart (imgSections (hostImage loaded))) = true := by decide +kernel
  have h5 : countsOk (imgSections (hostImage loaded)) = true := by decide +kernel
  simp [imageCheck, h1, h2, h3, loaded_crc, h4, h5]

theorem loaded_runs : compatFail (hostImage loaded) = 0 ∧ imgRecords (hostImage loaded) = [] ∧ imgScripts (hostImage loaded) = none := by decide +kernel

theorem witness_BootAndRelease :
    (let s : State := late (on (st []) (fun d => { d with pwr := { d.pwr with seen := 5 } })); let d := s.dev; let free := d.boot.phase = .inReset ∧ d.pwr.active = 0 ∧ d.pwr.test = false ∧ d.pwr.endClk + Config.sysPerSecond / 10000 ≤ d.time.clk; let off := d.fget R.PWR_DOM_STAT_STATE = 0 ∧ d.pwr.doms = []; (free) ∧ (off)) ∧
    (let s : State := late (on (st [(R.RTC_YEAR_YEAR, 0, 2030)]) (fun d => { d with pwr := { d.pwr with seen := 16 }, rtc := { d.rtc with cold := true } })); let d := s.dev; let free := d.boot.phase = .inReset ∧ d.pwr.active = 0 ∧ d.pwr.test = false ∧ d.pwr.endClk + Config.sysPerSecond / 10000 ≤ d.time.clk; let off := d.fget R.PWR_DOM_STAT_STATE = 0 ∧ d.pwr.doms = []; (free) ∧ (off)) ∧
    (let s : State := late ({ on (st []) (fun d => { d with pwr := { d.pwr with seen := 2 } }) with lily := [(4, 5)] }); let d := s.dev; let free := d.boot.phase = .inReset ∧ d.pwr.active = 0 ∧ d.pwr.test = false ∧ d.pwr.endClk + Config.sysPerSecond / 10000 ≤ d.time.clk; (free)) ∧
    (let s : State := on (st []) (fun d => { d with pwr := { d.pwr with active := 2 } }); let d := s.dev; let free := d.boot.phase = .inReset ∧ d.pwr.active = 0 ∧ d.pwr.test = false ∧ d.pwr.endClk + Config.sysPerSecond / 10000 ≤ d.time.clk; (¬ free)) ∧
    (let s : State := late (on (st [(R.BOOT_STAT_MODE, 0, 2)]) (fun d => { d with boot := { d.boot with phase := .romHold } })); let d := s.dev; let again := d.boot.phase = .romHold ∧ d.boot.releaseClk + Config.sysPerSecond ≤ d.time.clk; let off := d.fget R.PWR_DOM_STAT_STATE = 0 ∧ d.pwr.doms = []; (again) ∧ (off)) ∧
    (let s : State := late (on (st [(R.BOOT_STAT_MODE, 0, 2)]) (fun d => { d with boot := { d.boot with phase := .romHold } })); let d := s.dev; let again := d.boot.phase = .romHold ∧ d.boot.releaseClk + Config.sysPerSecond ≤ d.time.clk; (again)) ∧
    (let s : State := (on (st [(R.BOOT_STAT_MODE, 0, 2)]) (fun d => { d with boot := { d.boot with phase := .romHold } })); let d := s.dev; let again := d.boot.phase = .romHold ∧ d.boot.releaseClk + Config.sysPerSecond ≤ d.time.clk; (¬ again)) ∧
    (let s : State := boots .headers (header 0 [0, 0, 0, 4] [45, 68, 231, 87] ++ header 1 [0, 0, 0, 5] [83, 245, 236, 26]) []; let d := s.dev; let ia := bankImage s.flash 0; let ib := bankImage s.flash 1; let ca := headerCheck ia none; let cb := headerCheck ib none; let headers := d.boot.phase = .headers; (headers) ∧ (ca = 0) ∧ (cb = 0) ∧ (seqNewer (imgSeq ib) (imgSeq ia) = true)) ∧
    (let s : State := boots .headers (header 0 [0, 0, 0, 4] [45, 68, 231, 87]) []; let d := s.dev; let ia := bankImage s.flash 0; let ib := bankImage s.flash 1; let ca := headerCheck ia none; let cb := headerCheck ib none; let headers := d.boot.phase = .headers; (headers) ∧ (ca = 0) ∧ (cb ≠ 0)) ∧
    (let s : State := boots .headers (header 1 [0, 0, 0, 4] [45, 68, 231, 87]) []; let d := s.dev; let ia := bankImage s.flash 0; let ib := bankImage s.flash 1; let ca := headerCheck ia none; let cb := headerCheck ib none; let headers := d.boot.phase = .headers; (headers) ∧ (ca ≠ 0) ∧ (cb = 0)) ∧
    (let s : State := boots .headers [] []; let d := s.dev; let ia := bankImage s.flash 0; let ib := bankImage s.flash 1; let ca := headerCheck ia none; let cb := headerCheck ib none; let headers := d.boot.phase = .headers; (headers) ∧ (ca ≠ 0) ∧ (cb ≠ 0)) ∧
    (let s : State := boots (.reading 0 true) (header 1 [0, 0, 0, 4] [45, 68, 231, 87]) []; let b : Fin 2 := 0; let first : Bool := true; let d := s.dev; let reads := d.boot.phase = .reading b first ∧ d.enginesUp = true; let img := bankImage s.flash b; let other := bankImage s.flash (1 - (b : Nat)); (reads) ∧ (first = true) ∧ (imageCheck img none ≠ 0) ∧ (headerCheck other none = 0)) ∧
    (let s : State := boots (.reading 0 true) [] []; let b : Fin 2 := 0; let first : Bool := true; let d := s.dev; let reads := d.boot.phase = .reading b first ∧ d.enginesUp = true; let img := bankImage s.flash b; let other := bankImage s.flash (1 - (b : Nat)); (reads) ∧ (first = true) ∧ (imageCheck img none ≠ 0) ∧ (headerCheck other none ≠ 0)) ∧
    (let s : State := on (boots (.reading 1 false) (header 0 [0, 0, 0, 9] [49, 42, 145, 133]) [(R.BOOT_STAT_MODE, 0, 1)]) (fun d => { d with boot := { d.boot with prefValid := true, prefFail := 5 } }); let b : Fin 2 := 1; let first : Bool := false; let w : Nat := 5; let d := s.dev; let reads := d.boot.phase = .reading b first ∧ d.enginesUp = true; let img := bankImage s.flash b; let other := bankImage s.flash (1 - (b : Nat)); let ordered := d.fget R.PWR_DOM = 0xAAA ∧ d.fget R.PWR_DOM_STAT_STATE = 0xAAA ∧ d.pwr.doms = []; let plain (m : BootImage) := imgRecords m = [] ∧ imgScripts m = none; let mode := d.fget R.BOOT_STAT_MODE; (reads) ∧ (ordered) ∧ (first = false) ∧ (imageCheck img none ≠ 0) ∧ (d.boot.prefValid = true) ∧ (plain other) ∧ (mode = 1) ∧ (w = d.boot.prefFail) ∧ (w < 128) ∧ (w ≠ 0)) ∧
    (let s : State := boots .baseline [] []; let d := s.dev; let ordered := d.fget R.PWR_DOM = 0xAAA ∧ d.fget R.PWR_DOM_STAT_STATE = 0xAAA ∧ d.pwr.doms = []; (d.boot.phase = .baseline) ∧ (ordered) ∧ (d.enginesUp = true)) ∧
    (let s : State := boots .headers [] []; let d := s.dev; (d.boot.phase ≠ .baseline)) ∧
    (let s : State := on (boots .released [] [(R.SYS_EPOCH_STAT_HELD, 0, 1)]) (fun d => { d with mon := { d.mon with warm := some 5 } }); let w : Nat := 5; let d := s.dev; (d.mon.warm = some w) ∧ (d.flashBusy = false)) ∧
    (let s : State := on (boots .released [] [(R.SYS_EPOCH_STAT_HELD, 0, 1)]) (fun d => { d with mon := { d.mon with warm := some 5 } }); let w : Nat := 5; let d := s.dev; (d.mon.warm = some w) ∧ (d.flashBusy = false) ∧ (d.boot.phase = .released)) ∧
    (let s : State := boots .released [] []; let d := s.dev; (d.mon.warm = none ∨ d.flashBusy = true)) ∧
    (let s : State := asking 2 ⟨0x10, 9, 0x3FFFFC, [1, 2, 3, 4]⟩; let r : MbxReq := (⟨0x10, 9, 0x3FFFFC, [1, 2, 3, 4]⟩); let d := s.dev; let mode := d.fget R.BOOT_STAT_MODE; let o := r.offset; let n := r.data.length; let asks (op : Nat) := d.mbx.req = some r ∧ d.mbx.result = none ∧ r.opcode = op; let host := mode = 2 ∧ d.boot.hostLoaded = false; (asks 0x10) ∧ (host) ∧ (o + n ≤ 4194304) ∧ (d.domOn 4 = true)) ∧
    (let s : State := asking 2 ⟨0x11, 9, 0x1000, []⟩; let r : MbxReq := (⟨0x11, 9, 0x1000, []⟩); let d := s.dev; let mode := d.fget R.BOOT_STAT_MODE; let o := r.offset; let asks (op : Nat) := d.mbx.req = some r ∧ d.mbx.result = none ∧ r.opcode = op; let host := mode = 2 ∧ d.boot.hostLoaded = false; (asks 0x11) ∧ (host) ∧ (o % 256 = 0) ∧ (o ≤ 4194304) ∧ (d.enginesUp = true) ∧ (imageCheck (hostImage s.lily) (some o) ≠ 0)) ∧
    (let s : State := asking 3 ⟨0x20, 9, 0x400000, [0, 2]⟩; let f : Sfdp := (⟨0x1000000, true, true, none, none, 0⟩); let r : MbxReq := (⟨0x20, 9, 0x400000, [0, 2]⟩); let d := s.dev; let mode := d.fget R.BOOT_STAT_MODE; let o := r.offset; let asks (op : Nat) := d.mbx.req = some r ∧ d.mbx.result = none ∧ r.opcode = op; let has (e : Nat) := d.boot.sfdp = some f ∧ e ≤ f.size; let any := mode = 3; (asks 0x20) ∧ (ofBe r.data ≠ 0) ∧ (o % 65536 = 0) ∧ (has (o + 65536 * ofBe r.data)) ∧ (any)) ∧
    (let s : State := asking 3 ⟨0x21, 9, 0x4000FC, [1, 2, 3, 4, 5]⟩; let f : Sfdp := (⟨0x1000000, true, true, none, none, 0⟩); let r : MbxReq := (⟨0x21, 9, 0x4000FC, [1, 2, 3, 4, 5]⟩); let d := s.dev; let mode := d.fget R.BOOT_STAT_MODE; let o := r.offset; let n := r.data.length; let asks (op : Nat) := d.mbx.req = some r ∧ d.mbx.result = none ∧ r.opcode = op; let has (e : Nat) := d.boot.sfdp = some f ∧ e ≤ f.size; let any := mode = 3; (asks 0x21) ∧ (0 < n) ∧ (o % 4 = 0) ∧ (has (o + n)) ∧ (any)) ∧
    (let s : State := asking 0 ⟨0x22, 9, 0xFD, [248]⟩; let f : Sfdp := (⟨0x1000000, true, true, none, none, 0⟩); let r : MbxReq := (⟨0x22, 9, 0xFD, [248]⟩); let d := s.dev; let o := r.offset; let asks (op : Nat) := d.mbx.req = some r ∧ d.mbx.result = none ∧ r.opcode = op; let has (e : Nat) := d.boot.sfdp = some f ∧ e ≤ f.size; (asks 0x22) ∧ (0 < r.data.headD 0) ∧ (r.data.headD 0 ≤ 248) ∧ (has (o + r.data.headD 0))) ∧
    (let s : State := asking 0 ⟨0x23, 9, 0xFD, [0, 0, 0, 5]⟩; let f : Sfdp := (⟨0x1000000, true, true, none, none, 0⟩); let r : MbxReq := (⟨0x23, 9, 0xFD, [0, 0, 0, 5]⟩); let d := s.dev; let o := r.offset; let asks (op : Nat) := d.mbx.req = some r ∧ d.mbx.result = none ∧ r.opcode = op; let has (e : Nat) := d.boot.sfdp = some f ∧ e ≤ f.size; (asks 0x23) ∧ (has (o + ofBe r.data))) := by
  decide +kernel

theorem witness_BootAndRelease_13 :
    let s : State := boots (.reading 0 true) image [(R.BOOT_STAT_MODE, 0, 0)]; let b : Fin 2 := 0; let first : Bool := true; let d := s.dev; let reads := d.boot.phase = .reading b first ∧ d.enginesUp = true; let img := bankImage s.flash b; let ordered := d.fget R.PWR_DOM = 0xAAA ∧ d.fget R.PWR_DOM_STAT_STATE = 0xAAA ∧ d.pwr.doms = []; let plain (m : BootImage) := imgRecords m = [] ∧ imgScripts m = none; let mode := d.fget R.BOOT_STAT_MODE; let calm := d.fbit R.SYS_EPOCH_STAT_APPLYING = false; (reads) ∧ (ordered) ∧ (imageCheck img none = 0) ∧ (compatFail img = 0) ∧ (plain img) ∧ (mode = 0) ∧ (calm) :=
  ⟨by decide +kernel, by decide +kernel, image_valid, image_runs.1, image_runs.2, by decide +kernel, by decide +kernel⟩

theorem witness_BootAndRelease_14 :
    let s : State := boots (.reading 0 true) image [(R.BOOT_STAT_MODE, 0, 1)]; let b : Fin 2 := 0; let first : Bool := true; let d := s.dev; let reads := d.boot.phase = .reading b first ∧ d.enginesUp = true; let img := bankImage s.flash b; let ordered := d.fget R.PWR_DOM = 0xAAA ∧ d.fget R.PWR_DOM_STAT_STATE = 0xAAA ∧ d.pwr.doms = []; let plain (m : BootImage) := imgRecords m = [] ∧ imgScripts m = none; let mode := d.fget R.BOOT_STAT_MODE; (reads) ∧ (ordered) ∧ (imageCheck img none = 0) ∧ (compatFail img = 0) ∧ (plain img) ∧ (mode = 1) :=
  ⟨by decide +kernel, by decide +kernel, image_valid, image_runs.1, image_runs.2, by decide +kernel⟩

theorem witness_MailboxLoadAndFlash :
    (let s : State := on (asks 0 ⟨0x23, 9, 0, []⟩ []) (fun d => { d with mbx := { d.mbx with result := some (5, [1, 2]), busyAnswer := true, resp := some [4] } }); let r : MbxReq := (⟨0x23, 9, 0, []⟩); let st : Nat := 5; let pay : List Nat := ([1, 2]); let d := s.dev; let m := d.mbx; (m.req = some r) ∧ (m.result = some (st, pay))) ∧
    (let s : State := asks 0 ⟨0x23, 9, 0, []⟩ []; let d := s.dev; let m := d.mbx; (m.req = none ∨ m.result = none)) ∧
    (let s : State := { asks 2 ⟨0x10, 9, 0x3FFFFC, [1, 2, 3, 4]⟩ [] with lily := [(0, 1), (0x3FFFFD, 9)] }; let r : MbxReq := (⟨0x10, 9, 0x3FFFFC, [1, 2, 3, 4]⟩); let d := s.dev; let m := d.mbx; let asks (op : Nat) := m.req = some r ∧ m.result = none ∧ r.opcode = op; let n := r.data.length; let o := r.offset; let host := d.fget R.BOOT_STAT_MODE = 2 ∧ d.boot.hostLoaded = false; (asks 0x10) ∧ (host) ∧ (o + n ≤ 4194304) ∧ (d.domOn 4 = true)) ∧
    (let s : State := asks 2 ⟨0x10, 9, 0x3FFFFD, [1, 2, 3, 4]⟩ []; let r : MbxReq := (⟨0x10, 9, 0x3FFFFD, [1, 2, 3, 4]⟩); let d := s.dev; let m := d.mbx; let asks (op : Nat) := m.req = some r ∧ m.result = none ∧ r.opcode = op; let n := r.data.length; let o := r.offset; let host := d.fget R.BOOT_STAT_MODE = 2 ∧ d.boot.hostLoaded = false; (asks 0x10) ∧ (host) ∧ (4194304 < o + n)) ∧
    (let s : State := asks 1 ⟨0x10, 9, 0x3FFFFD, [1, 2, 3, 4]⟩ []; let r : MbxReq := (⟨0x10, 9, 0x3FFFFD, [1, 2, 3, 4]⟩); let d := s.dev; let m := d.mbx; let asks (op : Nat) := m.req = some r ∧ m.result = none ∧ r.opcode = op; let host := d.fget R.BOOT_STAT_MODE = 2 ∧ d.boot.hostLoaded = false; (asks 0x10) ∧ (¬ host)) ∧
    (let s : State := asks 2 ⟨0x11, 9, 0x1000, []⟩ []; let r : MbxReq := (⟨0x11, 9, 0x1000, []⟩); let d := s.dev; let m := d.mbx; let asks (op : Nat) := m.req = some r ∧ m.result = none ∧ r.opcode = op; let o := r.offset; let host := d.fget R.BOOT_STAT_MODE = 2 ∧ d.boot.hostLoaded = false; let img := hostImage s.lily; (asks 0x11) ∧ (host) ∧ (o % 256 = 0) ∧ (o ≤ 4194304) ∧ (d.enginesUp = true) ∧ (imageCheck img (some o) ≠ 0)) ∧
    (let s : State := asks 2 ⟨0x11, 9, 0x1001, []⟩ []; let r : MbxReq := (⟨0x11, 9, 0x1001, []⟩); let d := s.dev; let m := d.mbx; let asks (op : Nat) := m.req = some r ∧ m.result = none ∧ r.opcode = op; let o := r.offset; let host := d.fget R.BOOT_STAT_MODE = 2 ∧ d.boot.hostLoaded = false; (asks 0x11) ∧ (host) ∧ (o % 256 ≠ 0 ∨ 4194304 < o)) ∧
    (let s : State := asks 0 ⟨0x11, 9, 0x1001, []⟩ []; let r : MbxReq := (⟨0x11, 9, 0x1001, []⟩); let d := s.dev; let m := d.mbx; let asks (op : Nat) := m.req = some r ∧ m.result = none ∧ r.opcode = op; (asks 0x11) ∧ (d.fget R.BOOT_STAT_MODE ≠ 2)) ∧
    (let s : State := on (asks 2 ⟨0x10, 9, 0x3FFFFC, [1, 2, 3, 4]⟩ []) (fun d => d.fput R.PWR_DOM_STAT_STATE 0 0); let r : MbxReq := (⟨0x10, 9, 0x3FFFFC, [1, 2, 3, 4]⟩); let d := s.dev; let m := d.mbx; let asks (op : Nat) := m.req = some r ∧ m.result = none ∧ r.opcode = op; let n := r.data.length; let o := r.offset; let host := d.fget R.BOOT_STAT_MODE = 2 ∧ d.boot.hostLoaded = false; (asks 0x10) ∧ (host) ∧ (o + n ≤ 4194304) ∧ (d.domOn 4 = false)) ∧
    (let s : State := asks 0 ⟨0x20, 9, 0x400000, [0, 2]⟩ [(0x3FFFFF, 1), (0x400000, 1), (0x41FFFF, 2), (0x420000, 3)]; let r : MbxReq := (⟨0x20, 9, 0x400000, [0, 2]⟩); let f : Sfdp := (⟨0x1000000, true, true, none, none, 0⟩); let fail : Option Nat := (some 2); let d := s.dev; let m := d.mbx; let asks (op : Nat) := m.req = some r ∧ m.result = none ∧ r.opcode = op; let o := r.offset; let has (b : Nat) := d.boot.sfdp = some f ∧ b ≤ f.size; let mode := d.fget R.BOOT_STAT_MODE; let free := if d.fget R.BOOT_STAT_BANK = 0 then 0x400000 else 0; let may (lo hi : Nat) := mode = 3 ∨ d.boot.noImage = true ∨ 0xD00000 ≤ lo ∨ (mode = 2 ∧ hi ≤ 0x800000) ∨ (mode < 2 ∧ free ≤ lo ∧ hi ≤ free + 0x400000); let parts := ofBe r.data; let stop := o + 65536 * parts; let part := if f.erase64k then 65536 else 4096; let unfailed (whole : Nat) (before : Nat → Nat) := fail.all (fun x => decide (whole ≤ before x)) = true; (asks 0x20) ∧ (parts ≠ 0) ∧ (o % 65536 = 0) ∧ (has stop) ∧ (may o stop) ∧ (unfailed (65536 * parts) (part * ·))) ∧
    (let s : State := asks 0 ⟨0x20, 9, 0x3F0000, [0, 2]⟩ []; let r : MbxReq := (⟨0x20, 9, 0x3F0000, [0, 2]⟩); let f : Sfdp := (⟨0x1000000, true, true, none, none, 0⟩); let d := s.dev; let m := d.mbx; let asks (op : Nat) := m.req = some r ∧ m.result = none ∧ r.opcode = op; let o := r.offset; let has (b : Nat) := d.boot.sfdp = some f ∧ b ≤ f.size; let mode := d.fget R.BOOT_STAT_MODE; let free := if d.fget R.BOOT_STAT_BANK = 0 then 0x400000 else 0; let may (lo hi : Nat) := mode = 3 ∨ d.boot.noImage = true ∨ 0xD00000 ≤ lo ∨ (mode = 2 ∧ hi ≤ 0x800000) ∨ (mode < 2 ∧ free ≤ lo ∧ hi ≤ free + 0x400000); let parts := ofBe r.data; let stop := o + 65536 * parts; (asks 0x20) ∧ (parts ≠ 0) ∧ (o % 65536 = 0) ∧ (has stop) ∧ (¬ may o stop)) ∧
    (let s : State := asks 0 ⟨0x20, 9, 0x400001, [0, 2]⟩ []; let r : MbxReq := (⟨0x20, 9, 0x400001, [0, 2]⟩); let f : Sfdp := (⟨0x1000000, true, true, none, none, 0⟩); let d := s.dev; let m := d.mbx; let asks (op : Nat) := m.req = some r ∧ m.result = none ∧ r.opcode = op; let o := r.offset; let beyond (b : Nat) := d.boot.sfdp = none ∨ (d.boot.sfdp = some f ∧ f.size < b); let parts := ofBe r.data; let stop := o + 65536 * parts; (asks 0x20) ∧ (parts = 0 ∨ o % 65536 ≠ 0 ∨ beyond stop)) ∧
    (let s : State := asks 0 ⟨0x20, 9, 0x400000, [0, 2]⟩ [(0x3FFFFF, 1), (0x400000, 1), (0x41FFFF, 2), (0x420000, 3)]; let r : MbxReq := (⟨0x20, 9, 0x400000, [0, 2]⟩); let k : Nat := 1; let f : Sfdp := (⟨0x1000000, true, true, none, none, 0⟩); let d := s.dev; let m := d.mbx; let asks (op : Nat) := m.req = some r ∧ m.result = none ∧ r.opcode = op; let o := r.offset; let has (b : Nat) := d.boot.sfdp = some f ∧ b ≤ f.size; let mode := d.fget R.BOOT_STAT_MODE; let free := if d.fget R.BOOT_STAT_BANK = 0 then 0x400000 else 0; let may (lo hi : Nat) := mode = 3 ∨ d.boot.noImage = true ∨ 0xD00000 ≤ lo ∨ (mode = 2 ∧ hi ≤ 0x800000) ∨ (mode < 2 ∧ free ≤ lo ∧ hi ≤ free + 0x400000); let parts := ofBe r.data; let stop := o + 65536 * parts; let part := if f.erase64k then 65536 else 4096; (asks 0x20) ∧ (parts ≠ 0) ∧ (o % 65536 = 0) ∧ (has stop) ∧ (may o stop) ∧ (part * k < 65536 * parts)) ∧
    (let s : State := asks 0 ⟨0x21, 9, 0x4000FC, [1, 2, 3, 4, 0xF5]⟩ [(0x3FFFFF, 1), (0x400100, 0x5F)]; let r : MbxReq := (⟨0x21, 9, 0x4000FC, [1, 2, 3, 4, 0xF5]⟩); let f : Sfdp := (⟨0x1000000, true, true, none, none, 0⟩); let fail : Option Nat := (some 2); let d := s.dev; let m := d.mbx; let asks (op : Nat) := m.req = some r ∧ m.result = none ∧ r.opcode = op; let n := r.data.length; let o := r.offset; let has (b : Nat) := d.boot.sfdp = some f ∧ b ≤ f.size; let mode := d.fget R.BOOT_STAT_MODE; let free := if d.fget R.BOOT_STAT_BANK = 0 then 0x400000 else 0; let may (lo hi : Nat) := mode = 3 ∨ d.boot.noImage = true ∨ 0xD00000 ≤ lo ∨ (mode = 2 ∧ hi ≤ 0x800000) ∨ (mode < 2 ∧ free ≤ lo ∧ hi ≤ free + 0x400000); let unfailed (whole : Nat) (before : Nat → Nat) := fail.all (fun x => decide (whole ≤ before x)) = true; (asks 0x21) ∧ (o % 4 = 0) ∧ (0 < n) ∧ (has (o + n)) ∧ (may o (o + n)) ∧ (unfailed n (pagesBefore o))) ∧
    (let s : State := asks 0 ⟨0x21, 9, 0x0000FC, [1, 2, 3, 4, 0xF5]⟩ [(0x3FFFFF, 1), (0x400100, 0x5F)]; let r : MbxReq := (⟨0x21, 9, 0x0000FC, [1, 2, 3, 4, 0xF5]⟩); let f : Sfdp := (⟨0x1000000, true, true, none, none, 0⟩); let d := s.dev; let m := d.mbx; let asks (op : Nat) := m.req = some r ∧ m.result = none ∧ r.opcode = op; let n := r.data.length; let o := r.offset; let has (b : Nat) := d.boot.sfdp = some f ∧ b ≤ f.size; let mode := d.fget R.BOOT_STAT_MODE; let free := if d.fget R.BOOT_STAT_BANK = 0 then 0x400000 else 0; let may (lo hi : Nat) := mode = 3 ∨ d.boot.noImage = true ∨ 0xD00000 ≤ lo ∨ (mode = 2 ∧ hi ≤ 0x800000) ∨ (mode < 2 ∧ free ≤ lo ∧ hi ≤ free + 0x400000); (asks 0x21) ∧ (o % 4 = 0) ∧ (0 < n) ∧ (has (o + n)) ∧ (¬ may o (o + n))) ∧
    (let s : State := asks 0 ⟨0x21, 9, 0x0000FD, [1, 2, 3, 4, 0xF5]⟩ [(0x3FFFFF, 1), (0x400100, 0x5F)]; let r : MbxReq := (⟨0x21, 9, 0x0000FD, [1, 2, 3, 4, 0xF5]⟩); let f : Sfdp := (⟨0x1000000, true, true, none, none, 0⟩); let d := s.dev; let m := d.mbx; let asks (op : Nat) := m.req = some r ∧ m.result = none ∧ r.opcode = op; let n := r.data.length; let o := r.offset; let beyond (b : Nat) := d.boot.sfdp = none ∨ (d.boot.sfdp = some f ∧ f.size < b); (asks 0x21) ∧ (o % 4 ≠ 0 ∨ beyond (o + n))) ∧
    (let s : State := asks 0 ⟨0x21, 9, 0x0000FC, []⟩ []; let r : MbxReq := (⟨0x21, 9, 0x0000FC, []⟩); let f : Sfdp := (⟨0x1000000, true, true, none, none, 0⟩); let d := s.dev; let m := d.mbx; let asks (op : Nat) := m.req = some r ∧ m.result = none ∧ r.opcode = op; let n := r.data.length; let o := r.offset; let has (b : Nat) := d.boot.sfdp = some f ∧ b ≤ f.size; (asks 0x21) ∧ (o % 4 = 0) ∧ (n = 0) ∧ (has o)) ∧
    (let s : State := asks 0 ⟨0x21, 9, 0x4000FC, [1, 2, 3, 4, 0xF5]⟩ [(0x3FFFFF, 1), (0x400100, 0x5F)]; let r : MbxReq := (⟨0x21, 9, 0x4000FC, [1, 2, 3, 4, 0xF5]⟩); let k : Nat := 1; let f : Sfdp := (⟨0x1000000, true, true, none, none, 0⟩); let d := s.dev; let m := d.mbx; let asks (op : Nat) := m.req = some r ∧ m.result = none ∧ r.opcode = op; let n := r.data.length; let o := r.offset; let has (b : Nat) := d.boot.sfdp = some f ∧ b ≤ f.size; let mode := d.fget R.BOOT_STAT_MODE; let free := if d.fget R.BOOT_STAT_BANK = 0 then 0x400000 else 0; let may (lo hi : Nat) := mode = 3 ∨ d.boot.noImage = true ∨ 0xD00000 ≤ lo ∨ (mode = 2 ∧ hi ≤ 0x800000) ∨ (mode < 2 ∧ free ≤ lo ∧ hi ≤ free + 0x400000); (asks 0x21) ∧ (o % 4 = 0) ∧ (has (o + n)) ∧ (may o (o + n)) ∧ (pagesBefore o k < n)) ∧
    (let s : State := asks 0 ⟨0x22, 9, 0x0000FD, [248]⟩ [(0x100, 1)]; let r : MbxReq := (⟨0x22, 9, 0x0000FD, [248]⟩); let f : Sfdp := (⟨0x1000000, true, true, none, none, 0⟩); let j : Nat := 248; let d := s.dev; let m := d.mbx; let asks (op : Nat) := m.req = some r ∧ m.result = none ∧ r.opcode = op; let o := r.offset; let has (b : Nat) := d.boot.sfdp = some f ∧ b ≤ f.size; (asks 0x22) ∧ (j = r.data.headD 0) ∧ (1 ≤ j) ∧ (j ≤ 248) ∧ (has (o + j))) ∧
    (let s : State := asks 0 ⟨0x22, 9, 0x0000FD, [0]⟩ [(0x100, 1)]; let r : MbxReq := (⟨0x22, 9, 0x0000FD, [0]⟩); let f : Sfdp := (⟨0x1000000, true, true, none, none, 0⟩); let d := s.dev; let m := d.mbx; let asks (op : Nat) := m.req = some r ∧ m.result = none ∧ r.opcode = op; let o := r.offset; let beyond (b : Nat) := d.boot.sfdp = none ∨ (d.boot.sfdp = some f ∧ f.size < b); (asks 0x22) ∧ (r.data.headD 0 = 0 ∨ beyond (o + r.data.headD 0))) ∧
    (let s : State := asks 0 ⟨0x23, 9, 0x0000FD, [0, 0, 0, 5]⟩ [(0x100, 1)]; let r : MbxReq := (⟨0x23, 9, 0x0000FD, [0, 0, 0, 5]⟩); let f : Sfdp := (⟨0x1000000, true, true, none, none, 0⟩); let d := s.dev; let m := d.mbx; let asks (op : Nat) := m.req = some r ∧ m.result = none ∧ r.opcode = op; let o := r.offset; let has (b : Nat) := d.boot.sfdp = some f ∧ b ≤ f.size; let parts := ofBe r.data; (asks 0x23) ∧ (has (o + parts))) ∧
    (let s : State := on (asks 0 ⟨0x23, 9, 0x0000FD, [0, 0, 0, 5]⟩ [(0x100, 1)]) (fun d => { d with boot := { d.boot with sfdp := none } }); let r : MbxReq := (⟨0x23, 9, 0x0000FD, [0, 0, 0, 5]⟩); let f : Sfdp := (⟨0x1000000, true, true, none, none, 0⟩); let d := s.dev; let m := d.mbx; let asks (op : Nat) := m.req = some r ∧ m.result = none ∧ r.opcode = op; let o := r.offset; let beyond (b : Nat) := d.boot.sfdp = none ∨ (d.boot.sfdp = some f ∧ f.size < b); let parts := ofBe r.data; (asks 0x23) ∧ (beyond (o + parts))) ∧
    (let s : State := st []; let d := s.dev; let m := d.mbx; (m.req = none)) ∧
    (let s : State := st []; let d := s.dev; let m := d.mbx; (m.req = none)) ∧
    (let s : State := st []; let d := s.dev; let m := d.mbx; (m.req = none)) ∧
    (let s : State := st []; let d := s.dev; let m := d.mbx; (m.req = none)) ∧
    (let s : State := st []; let d := s.dev; let m := d.mbx; (m.req = none)) ∧
    (let s : State := st []; let d := s.dev; let m := d.mbx; (m.req = none)) := by
  decide +kernel

theorem witness_MailboxLoadAndFlash_6 :
    let s : State := loads; let r : MbxReq := (⟨0x11, 9, 0xC00, []⟩); let d := s.dev; let m := d.mbx; let asks (op : Nat) := m.req = some r ∧ m.result = none ∧ r.opcode = op; let o := r.offset; let host := d.fget R.BOOT_STAT_MODE = 2 ∧ d.boot.hostLoaded = false; let img := hostImage s.lily; let ready := d.enginesUp = true ∧ d.fget R.PWR_DOM = 0xAAA ∧ d.fget R.PWR_DOM_STAT_STATE = 0xAAA ∧ d.pwr.doms = [] ∧ d.fbit R.SYS_EPOCH_STAT_APPLYING = false; (asks 0x11) ∧ (host) ∧ (o % 256 = 0) ∧ (o ≤ 4194304) ∧ (ready) ∧ (imageCheck img (some o) = 0) ∧ (compatFail img = 0) ∧ (imgRecords img = []) ∧ (imgScripts img = none) :=
  ⟨by decide +kernel, by decide +kernel, by decide +kernel, by decide +kernel, by decide +kernel, loaded_valid, loaded_runs.1, loaded_runs.2.1, loaded_runs.2.2⟩

theorem witness_HostTransactions :
    (let s : State := hif [] id; let hi : Byte := 0x01; let lo : Byte := 0x40; let d := s.dev; let b := d.bus; let up := d.inReset = false; let heard := up ∧ d.chainHeld = false; let idle := b.active = false ∧ b.inb = .idle; let pecOn := d.fbit R.HIF_CFG_PEC_EN = true; let v := hi.toNat * 256 + lo.toNat; (heard) ∧ (idle) ∧ (¬ pecOn) ∧ (v ≠ 0xF011)) ∧
    (let s : State := hif [] (fun b => { b with inb := .asked }); let hi : Byte := 0x01; let lo : Byte := 0x40; let d := s.dev; let b := d.bus; let up := d.inReset = false; let heard := up ∧ d.chainHeld = false; let pecOn := d.fbit R.HIF_CFG_PEC_EN = true; let v := hi.toNat * 256 + lo.toNat; (heard) ∧ (b.active = false) ∧ (b.inb ≠ .idle) ∧ (¬ pecOn) ∧ (v ≠ 0xF011)) ∧
    (let s : State := hif [] (writing 0x141 false); let again : Bool := true; let hi : Byte := 0x01; let lo : Byte := 0x40; let d := s.dev; let b := d.bus; let up := d.inReset = false; let heard := up ∧ d.chainHeld = false; let v := hi.toNat * 256 + lo.toNat; (heard) ∧ (b.active = true) ∧ (b.dead = false) ∧ (bitAt b.cfg 15 = false) ∧ (again = true) ∧ (v ≠ 0xF011)) ∧
    (let s : State := hif [(R.HIF_CFG_PEC_EN, 0, 1)] id; let hi : Byte := 0x01; let lo : Byte := 0x40; let pec : Byte := 147; let d := s.dev; let b := d.bus; let up := d.inReset = false; let heard := up ∧ d.chainHeld = false; let addr := d.fget R.HIF_STAT_ADDRESS * 2; let idle := b.active = false ∧ b.inb = .idle; let pecOn := d.fbit R.HIF_CFG_PEC_EN = true; let v := hi.toNat * 256 + lo.toNat; let start := crc8From 0 [addr, hi.toNat, lo.toNat]; (heard) ∧ (idle) ∧ (pecOn) ∧ (v ≠ 0xF011) ∧ (pec.toNat = start)) ∧
    (let s : State := hif [(R.HIF_CFG_PEC_EN, 0, 1)] id; let hi : Byte := 0x01; let lo : Byte := 0x40; let pec : Byte := 146; let d := s.dev; let b := d.bus; let up := d.inReset = false; let heard := up ∧ d.chainHeld = false; let addr := d.fget R.HIF_STAT_ADDRESS * 2; let idle := b.active = false ∧ b.inb = .idle; let pecOn := d.fbit R.HIF_CFG_PEC_EN = true; let start := crc8From 0 [addr, hi.toNat, lo.toNat]; (heard) ∧ (idle) ∧ (pecOn) ∧ (pec.toNat ≠ start)) ∧
    (let s : State := hif [] (writing 0x141 false); let p : Nat := 0x141; let d := s.dev; let b := d.bus; let up := d.inReset = false; let heard := up ∧ d.chainHeld = false; let wr (ph : Bool) := b.active = true ∧ b.reading = false ∧ b.dead = false ∧ b.phase = .hi ∧ bitAt b.cfg 15 = ph ∧ b.pointer = p; (heard) ∧ (wr false) ∧ (isStaged p = true)) ∧
    (let s : State := hif [] (writing 0x101 false); let p : Nat := 0x101; let d := s.dev; let b := d.bus; let up := d.inReset = false; let heard := up ∧ d.chainHeld = false; let wr (ph : Bool) := b.active = true ∧ b.reading = false ∧ b.dead = false ∧ b.phase = .hi ∧ bitAt b.cfg 15 = ph ∧ b.pointer = p; (heard) ∧ (wr false) ∧ (p = R.HIF_INB.at 0)) ∧
    (let s : State := hif [(R.HIF_EVT, 0, 0xF)] (writing 0x120 false); let p : Nat := 0x120; let d := s.dev; let b := d.bus; let up := d.inReset = false; let heard := up ∧ d.chainHeld = false; let wr (ph : Bool) := b.active = true ∧ b.reading = false ∧ b.dead = false ∧ b.phase = .hi ∧ bitAt b.cfg 15 = ph ∧ b.pointer = p; (heard) ∧ (wr false) ∧ (p = R.HIF_EVT.at 0)) ∧
    (let s : State := hif [] (writing 0x105 false); let p : Nat := 0x105; let d := s.dev; let b := d.bus; let up := d.inReset = false; let heard := up ∧ d.chainHeld = false; let wr (ph : Bool) := b.active = true ∧ b.reading = false ∧ b.dead = false ∧ b.phase = .hi ∧ bitAt b.cfg 15 = ph ∧ b.pointer = p; (heard) ∧ (wr false) ∧ (findRow p = none) ∧ (p < 0xF000)) ∧
    (let s : State := hif [] (writing 0x141 true); let hi : Byte := 0x01; let lo : Byte := 0x40; let pec : Byte := 9; let p : Nat := 0x141; let d := s.dev; let b := d.bus; let up := d.inReset = false; let heard := up ∧ d.chainHeld = false; let wr (ph : Bool) := b.active = true ∧ b.reading = false ∧ b.dead = false ∧ b.phase = .hi ∧ bitAt b.cfg 15 = ph ∧ b.pointer = p; (heard) ∧ (wr true) ∧ (p < 0xF000) ∧ (pec.toNat ≠ crc8From b.crc [hi.toNat, lo.toNat])) ∧
    (let s : State := hif [] (writing 0x141 false); let p : Nat := 0x141; let d := s.dev; let b := d.bus; let up := d.inReset = false; let heard := up ∧ d.chainHeld = false; let wr (ph : Bool) := b.active = true ∧ b.reading = false ∧ b.dead = false ∧ b.phase = .hi ∧ bitAt b.cfg 15 = ph ∧ b.pointer = p; (heard) ∧ (wr false)) ∧
    (let s : State := hif [] (fun b => { writing 0x141 true b with dead := true }); let d := s.dev; let b := d.bus; let up := d.inReset = false; let heard := up ∧ d.chainHeld = false; (heard) ∧ (b.active = false ∨ b.reading = true ∨ b.dead = true)) ∧
    (let s : State := on (hif [] (writing 0x141 false)) (fun d => { d with pin := { d.pin with ir := 7 } }); let d := s.dev; let up := d.inReset = false; let heard := up ∧ d.chainHeld = false; (¬ heard)) ∧
    (let s : State := on (hif [] (writing 0x141 false)) (fun d => { d with pin := { d.pin with ir := 7 } }); let d := s.dev; let up := d.inReset = false; let heard := up ∧ d.chainHeld = false; (¬ heard)) ∧
    (let s : State := on (hif [] (writing 0x141 false)) (fun d => { d with pin := { d.pin with ir := 7 } }); let d := s.dev; let up := d.inReset = false; let heard := up ∧ d.chainHeld = false; (¬ heard)) ∧
    (let s : State := on (hif [] (writing 0x141 false)) (fun d => { d with pin := { d.pin with ir := 7 } }); let d := s.dev; let up := d.inReset = false; let heard := up ∧ d.chainHeld = false; (¬ heard)) ∧
    (let s : State := on (hif [] (writing 0x141 false)) (fun d => { d with pin := { d.pin with ir := 7 } }); let d := s.dev; let up := d.inReset = false; let heard := up ∧ d.chainHeld = false; (¬ heard)) ∧
    (let s : State := on (hif [] (writing 0x141 true)) (fun d => { d with rtc := { d.rtc with shadow := some [1] }, time := { d.time with frozen := some (1, 2, 3, 4) } }); let d := s.dev; let b := d.bus; let up := d.inReset = false; let heard := up ∧ d.chainHeld = false; (heard) ∧ (b.active = true)) ∧
    (let s : State := hif [] (writing 0x188 false); let p : Nat := 0x188; let d := s.dev; let b := d.bus; let up := d.inReset = false; let heard := up ∧ d.chainHeld = false; let reads := b.active = true ∧ b.dead = false ∧ bitAt b.cfg 15 = false ∧ b.pointer = p; let ordinary := 0x0180 ≤ p ∧ p < 0x01C0; (heard) ∧ (reads) ∧ (ordinary)) ∧
    (let s : State := hif [] (fun b => { writing 0x19F false b with edgeClk := 5 }); let d := s.dev; let b := d.bus; let up := d.inReset = false; let low := b.timedOut = false ∧ b.edgeClk + Config.sysPerSecond / 40 < d.time.clk; (up) ∧ (low) ∧ (bitAt b.cfg 12 = true)) ∧
    (let s : State := hif [] (fun b => { writing 0x141 true b with cfg := 0 }); let d := s.dev; let b := d.bus; let low := b.timedOut = false ∧ b.edgeClk + Config.sysPerSecond / 40 < d.time.clk; (bitAt b.cfg 12 = false ∨ ¬ low)) ∧
    (let s : State := hif [] id; let code : Byte := 0x55; let d := s.dev; let b := d.bus; let up := d.inReset = false; let heard := up ∧ d.chainHeld = false; let idle := b.active = false ∧ b.inb = .idle; let pecOn := d.fbit R.HIF_CFG_PEC_EN = true; (heard) ∧ (idle) ∧ (¬ pecOn) ∧ (listedCode code.toNat = false)) ∧
    (let s : State := hif [(R.HIF_EVT, 0, 0x1), (R.HIF_EVM_EN, 0, 3), (R.SYS_EVM_EN, 0, 0xFFFF)] id; let other : Option Byte := none; let d := s.dev; let b := d.bus; let up := d.inReset = false; let heard := up ∧ d.chainHeld = false; let addr := d.fget R.HIF_STAT_ADDRESS * 2; let wins := other.all (fun o => decide (addr ≤ o.toNat)) = true; let pecOn := d.fbit R.HIF_CFG_PEC_EN = true; let alerts := d.fbit R.HIF_CFG_ARA_EN = true ∧ d.halert = true; (heard) ∧ (b.active = false) ∧ (alerts) ∧ (¬ pecOn) ∧ (wins)) ∧
    (let s : State := hif [(R.HIF_EVT, 0, 0x1), (R.HIF_EVM_EN, 0, 3), (R.SYS_EVM_EN, 0, 0xFFFF)] (fun b => { b with out := [7] }); let other : Option Byte := (some 0xB3); let d := s.dev; let b := d.bus; let up := d.inReset = false; let heard := up ∧ d.chainHeld = false; let addr := d.fget R.HIF_STAT_ADDRESS * 2; let wins := other.all (fun o => decide (addr ≤ o.toNat)) = true; let alerts := d.fbit R.HIF_CFG_ARA_EN = true ∧ d.halert = true; (heard) ∧ (b.active = false) ∧ (alerts) ∧ (¬ wins)) ∧
    (let s : State := hif [] (fun b => { b with out := [7], inb := .asked }); let d := s.dev; let b := d.bus; let up := d.inReset = false; let heard := up ∧ d.chainHeld = false; let alerts := d.fbit R.HIF_CFG_ARA_EN = true ∧ d.halert = true; (heard) ∧ (b.active = false) ∧ (¬ alerts)) ∧
    (let s : State := hif [(R.HIF_EVT, 0, 0x1), (R.HIF_EVM_EN, 0, 3), (R.SYS_EVM_EN, 0, 0xFFFF), (R.HIF_CFG_INBAND, 0, 1)] (fun b => { b with cfg := 0x7000 }); let d := s.dev; let b := d.bus; let idle := b.active = false ∧ b.inb = .idle; let mayAsk := d.inbOn = true ∧ d.halert = true ∧ idle ∧ b.idleClk + usCycles 50 ≤ d.time.clk ∧ b.inbNotBefore ≤ d.time.clk; (mayAsk)) ∧
    (let s : State := hif [(R.HIF_EVT, 0, 0x1), (R.HIF_EVM_EN, 0, 3), (R.SYS_EVM_EN, 0, 0xFFFF), (R.HIF_CFG_INBAND, 0, 1)] (fun b => { b with cfg := 0x7000, idleClk := 9999000 }); let d := s.dev; let b := d.bus; let idle := b.active = false ∧ b.inb = .idle; let mayAsk := d.inbOn = true ∧ d.halert = true ∧ idle ∧ b.idleClk + usCycles 50 ≤ d.time.clk ∧ b.inbNotBefore ≤ d.time.clk; (¬ mayAsk)) ∧
    (let s : State := hif [(R.HIF_EVT, 0, 0x1), (R.HIF_EVM_EN, 0, 3), (R.SYS_EVM_EN, 0, 0xFFFF)] (fun b => { b with inb := .hold }); let d := s.dev; let b := d.bus; (b.inb = .hold)) ∧
    (let s : State := hif [] (fun b => { b with inb := .asked }); let d := s.dev; let b := d.bus; (b.inb ≠ .hold)) ∧
    (let s : State := hif [(R.HIF_EVT, 0, 0x1), (R.HIF_EVM_EN, 0, 3), (R.SYS_EVM_EN, 0, 0xFFFF), (R.HIF_INB_HOLD, 0, 2)] (fun b => { b with inb := .hold, inbClk := 5 }); let d := s.dev; let b := d.bus; let waited := d.fget R.HIF_INB_HOLD * (Config.sysPerMs / 10) < d.since b.inbClk; (b.inb = .hold) ∧ (waited) ∧ (d.halert = true)) ∧
    (let s : State := hif [(R.HIF_EVT, 0, 0x1), (R.HIF_EVM_EN, 0, 3), (R.SYS_EVM_EN, 0, 0xFFFF), (R.HIF_INB_HOLD, 0, 20)] (fun b => { b with inb := .hold, inbClk := 9999990 }); let d := s.dev; let b := d.bus; let waited := d.fget R.HIF_INB_HOLD * (Config.sysPerMs / 10) < d.since b.inbClk; (b.inb ≠ .hold ∨ ¬ waited)) ∧
    (let s : State := on (hif [] id) (fun d => { d with mbx := { d.mbx with req := some ⟨0x23, 9, 0, []⟩, result := some (5, [9, 8]) } }); let k : Nat := 5; let out : List Nat := ([9, 8]); let q : MbxReq := ⟨0x23, 9, 0, []⟩; let d := s.dev; (d.mbx.req = some q) ∧ (d.mbx.result = some (k, out))) ∧
    (let s : State := hif [(R.HIF_CFG_PEC_EN, 0, 1)] id; let hi : Byte := 0x01; let lo : Byte := 0x40; let p : Nat := 0x141; let bytes : List Byte := ([1, 2, 3]); let other : Option Byte := (some 38); let d := s.dev; let up := d.inReset = false; let heard := up ∧ d.chainHeld = false; let addr := d.fget R.HIF_STAT_ADDRESS * 2; let whole : List Byte := [16, lo, 0, 0, 0, hi] ++ bytes; let closes (p : Nat) (l : List Nat) := other = (if d.fbit R.HIF_CFG_PEC_EN then some (BitVec.ofNat 8 (crc8From 0 ([addr] ++ beWord p ++ [crc8From 0 ([addr] ++ beWord p), l.length] ++ l))) else none); (heard) ∧ (closes 0xF001 (whole.map (·.toNat))) ∧ (bytes.length ≤ 248) ∧ (d.mbx.req = none) ∧ (d.mbx.resp = none)) ∧
    (let s : State := on (hif [(R.HIF_CFG_PEC_EN, 0, 1)] id) (fun d => { d with mbx := { d.mbx with resp := some [9, 8], busyAnswer := true } }); let out : List Nat := ([9, 8]); let d := s.dev; let up := d.inReset = false; let heard := up ∧ d.chainHeld = false; (heard) ∧ (d.mbx.resp = some out)) ∧
    (let s : State := hif [] id; let hi : Byte := 0x01; let lo : Byte := 0x0F; let p : Nat := 0x141; let other : Option Byte := none; let d := s.dev; let up := d.inReset = false; let heard := up ∧ d.chainHeld = false; let addr := d.fget R.HIF_STAT_ADDRESS * 2; let closes (p : Nat) (l : List Nat) := other = (if d.fbit R.HIF_CFG_PEC_EN then some (BitVec.ofNat 8 (crc8From 0 ([addr] ++ beWord p ++ [crc8From 0 ([addr] ++ beWord p), l.length] ++ l))) else none); (heard) ∧ (hi.toNat ≤ 127) ∧ (lo.toNat ≤ 15) ∧ (closes 0xF030 [hi.toNat, lo.toNat])) ∧
    (let s : State := hif [(R.HIF_CFG_PEC_EN, 0, 1)] (fun b => { b with bulkPos := 1921 }); let d := s.dev; let b := d.bus; let up := d.inReset = false; let heard := up ∧ d.chainHeld = false; (heard) ∧ (b.bulkPos ≤ 2048 - 127)) := by
  decide +kernel

theorem witness_CapturesAndBlockTransfers :
    (let s : State := calm [(R.CLK_STAT_SPL, 0, 2)] (fun d => { d with time := { d.time with sec := 0x12345678, cyc := 99999 } }); let d := s.dev; let b := d.bus; let rest := d.inReset = false ∧ d.chainHeld = false ∧ b.active = false ∧ b.dead = false; (rest)) ∧
    (let s : State := calm [] (fun d => { d with time := { d.time with frozen := some (3, 3, 3, 3) } }); let d := s.dev; let b := d.bus; let rest := d.inReset = false ∧ d.chainHeld = false ∧ b.active = false ∧ b.dead = false; (rest)) ∧
    (let s : State := calm [(R.RDS_PS1, 7, 0x4142), (R.RDS_PS0, 7, 0x4344)] id; let d := s.dev; let b := d.bus; let rest := d.inReset = false ∧ d.chainHeld = false ∧ b.active = false ∧ b.dead = false; (rest)) ∧
    (let s : State := calm [] (fun d => d.updRds 7 (fun r => { r with psFrozen := some (3, 3, 3) })); let d := s.dev; let b := d.bus; let rest := d.inReset = false ∧ d.chainHeld = false ∧ b.active = false ∧ b.dead = false; (rest)) ∧
    (let s : State := calm [(R.RTC_YEAR_YEAR, 0, 2033)] id; let d := s.dev; let b := d.bus; let rest := d.inReset = false ∧ d.chainHeld = false ∧ b.active = false ∧ b.dead = false; let settled := ∀ w ∈ d.rtc.transit, d.time.clk < w.due; (rest) ∧ (settled) ∧ (d.rtc.shadow = none)) ∧
    (let s : State := calm [(R.HIF_CFG_PEC_EN, 0, 1)] (fun d => { d with rtc := { d.rtc with shadow := some [3, 3, 3, 3, 3] } }); let m : Nat := 3; let d := s.dev; let b := d.bus; let rest := d.inReset = false ∧ d.chainHeld = false ∧ b.active = false ∧ b.dead = false; let settled := ∀ w ∈ d.rtc.transit, d.time.clk < w.due; (rest) ∧ (settled) ∧ (d.rtc.shadow = some [m, m, m, m, m])) ∧
    (let s : State := calm [(R.RTC_YEAR_YEAR, 0, 2033)] (fun d => { d with rtc := { d.rtc with shadow := some [0, 0, 0, 0, 3] } }); let d := s.dev; let b := d.bus; let rest := d.inReset = false ∧ d.chainHeld = false ∧ b.active = false ∧ b.dead = false; let settled := ∀ w ∈ d.rtc.transit, d.time.clk < w.due; (rest) ∧ (settled)) ∧
    (let s : State := calm [(R.CLK_PHASE_HI, 0, 0xFFFF)] (fun d => { d with clk := { d.clk with e := -70000, theta := 5 } }); let theta : Bool := false; let d := s.dev; let b := d.bus; let rest := d.inReset = false ∧ d.chainHeld = false ∧ b.active = false ∧ b.dead = false; (rest) ∧ (theta = false)) ∧
    (let s : State := calm [(R.CLK_PHASE_HI, 0, 0xFFFF)] (fun d => { d with clk := { d.clk with e := -70000, theta := 5 } }); let theta : Bool := true; let d := s.dev; let b := d.bus; let rest := d.inReset = false ∧ d.chainHeld = false ∧ b.active = false ∧ b.dead = false; (rest) ∧ (theta = true)) ∧
    (let s : State := calm [] (fun d => { d with fsp := { d.fsp with sent := 0x123456 } }); let d := s.dev; let b := d.bus; let rest := d.inReset = false ∧ d.chainHeld = false ∧ b.active = false ∧ b.dead = false; (rest)) ∧
    (let s : State := calm [(R.MON_SEQ_HI, 0, 0x12)] (fun d => { d with mon := { d.mon with seq := 0x123456 } }); let d := s.dev; let b := d.bus; let rest := d.inReset = false ∧ d.chainHeld = false ∧ b.active = false ∧ b.dead = false; (rest)) ∧
    (let s : State := calm [] id; let ds : Byte := 5; let dt : Byte := 9; let op : Byte := 0x10; let tg : Byte := 0x77; let px : Option Byte := none; let body : List Byte := ([1, 2]); let d := s.dev; let b := d.bus; let rest := d.inReset = false ∧ d.chainHeld = false ∧ b.active = false ∧ b.dead = false; let pec := d.fbit R.HIF_CFG_PEC_EN; let aw := d.fget R.HIF_STAT_ADDRESS * 2; let closes (p : Nat) (l : List Nat) := px = (if pec then some (BitVec.ofNat 8 (crc8From 0 ([aw] ++ beWord p ++ [crc8From 0 ([aw] ++ beWord p), l.length] ++ l))) else none); let pin := d.mbx.req = none ∧ d.mbx.resp = none; let whole := [op, tg, 0x12, 0x34, ds, dt] ++ body; let request := closes 0xF001 (whole.map (·.toNat)) ∧ body.length ≤ 248; (rest) ∧ (pin) ∧ (request) ∧ (op = 0x10)) ∧
    (let s : State := calm [(R.BOOT_STAT_MODE, 0, 2)] id; let ds : Byte := 5; let dt : Byte := 9; let op : Byte := 0x40; let tg : Byte := 0x77; let px : Option Byte := none; let body : List Byte := ([]); let d := s.dev; let b := d.bus; let rest := d.inReset = false ∧ d.chainHeld = false ∧ b.active = false ∧ b.dead = false; let pec := d.fbit R.HIF_CFG_PEC_EN; let aw := d.fget R.HIF_STAT_ADDRESS * 2; let closes (p : Nat) (l : List Nat) := px = (if pec then some (BitVec.ofNat 8 (crc8From 0 ([aw] ++ beWord p ++ [crc8From 0 ([aw] ++ beWord p), l.length] ++ l))) else none); let pin := d.mbx.req = none ∧ d.mbx.resp = none; let whole := [op, tg, 0x12, 0x34, ds, dt] ++ body; let request := closes 0xF001 (whole.map (·.toNat)) ∧ body.length ≤ 248; (rest) ∧ (pin) ∧ (request) ∧ (op = 0x40) ∧ (body = [])) ∧
    (let s : State := calm [] id; let ds : Byte := 5; let dt : Byte := 9; let op : Byte := 0x12; let tg : Byte := 0x77; let px : Option Byte := none; let body : List Byte := ([1, 2]); let d := s.dev; let b := d.bus; let rest := d.inReset = false ∧ d.chainHeld = false ∧ b.active = false ∧ b.dead = false; let pec := d.fbit R.HIF_CFG_PEC_EN; let aw := d.fget R.HIF_STAT_ADDRESS * 2; let closes (p : Nat) (l : List Nat) := px = (if pec then some (BitVec.ofNat 8 (crc8From 0 ([aw] ++ beWord p ++ [crc8From 0 ([aw] ++ beWord p), l.length] ++ l))) else none); let pin := d.mbx.req = none ∧ d.mbx.resp = none; let whole := [op, tg, 0x12, 0x34, ds, dt] ++ body; let request := closes 0xF001 (whole.map (·.toNat)) ∧ body.length ≤ 248; (rest) ∧ (pin) ∧ (request) ∧ (mbxFurther op.toNat = none) ∧ (op.toNat < 0x20)) ∧
    (let s : State := calm [] (fun d => { d with mbx := { d.mbx with req := some ⟨0x10, 3, 0, []⟩ } }); let ds : Byte := 5; let dt : Byte := 9; let op : Byte := 0x12; let tg : Byte := 0x77; let px : Option Byte := none; let body : List Byte := ([1, 2]); let d := s.dev; let b := d.bus; let rest := d.inReset = false ∧ d.chainHeld = false ∧ b.active = false ∧ b.dead = false; let pec := d.fbit R.HIF_CFG_PEC_EN; let aw := d.fget R.HIF_STAT_ADDRESS * 2; let closes (p : Nat) (l : List Nat) := px = (if pec then some (BitVec.ofNat 8 (crc8From 0 ([aw] ++ beWord p ++ [crc8From 0 ([aw] ++ beWord p), l.length] ++ l))) else none); let whole := [op, tg, 0x12, 0x34, ds, dt] ++ body; let request := closes 0xF001 (whole.map (·.toNat)) ∧ body.length ≤ 248; (rest) ∧ (d.mbx.req ≠ none) ∧ (d.mbx.resp = none) ∧ (request)) ∧
    (let s : State := calm [] (fun d => { d with mbx := { d.mbx with resp := some [1] } }); let ds : Byte := 5; let dt : Byte := 9; let op : Byte := 16; let tg : Byte := 119; let px : Option Byte := none; let body : List Byte := ([1, 2]); let d := s.dev; let b := d.bus; let rest := d.inReset = false ∧ d.chainHeld = false ∧ b.active = false ∧ b.dead = false; let pec := d.fbit R.HIF_CFG_PEC_EN; let aw := d.fget R.HIF_STAT_ADDRESS * 2; let closes (p : Nat) (l : List Nat) := px = (if pec then some (BitVec.ofNat 8 (crc8From 0 ([aw] ++ beWord p ++ [crc8From 0 ([aw] ++ beWord p), l.length] ++ l))) else none); let whole := [op, tg, 0x12, 0x34, ds, dt] ++ body; let request := closes 0xF001 (whole.map (·.toNat)) ∧ body.length ≤ 248; (rest) ∧ (d.mbx.resp ≠ none) ∧ (request)) ∧
    (let s : State := calm [] id; let ds : Byte := 5; let dt : Byte := 9; let op : Byte := 9; let tg : Byte := 0x77; let body : List Byte := ([1, 2]); let d := s.dev; let b := d.bus; let rest := d.inReset = false ∧ d.chainHeld = false ∧ b.active = false ∧ b.dead = false; let whole := [op, tg, 0x12, 0x34, ds, dt] ++ body; (rest) ∧ (whole.length < op.toNat)) ∧
    (let s : State := calm [] (fun d => { d with mbx := { d.mbx with resp := some [0x90, 7, 0, 4], busyAnswer := true } }); let resp : List Nat := ([0x90, 7, 0, 4]); let d := s.dev; let b := d.bus; let rest := d.inReset = false ∧ d.chainHeld = false ∧ b.active = false ∧ b.dead = false; (rest) ∧ (d.mbx.resp = some resp)) ∧
    (let s : State := calm [] (fun d => { d with mbx := { d.mbx with resp := some [0x90, 7, 0, 4], busyAnswer := true } }); let resp : List Nat := ([0x90, 7, 0, 4]); let m : Nat := 3; let d := s.dev; let b := d.bus; let rest := d.inReset = false ∧ d.chainHeld = false ∧ b.active = false ∧ b.dead = false; (rest) ∧ (d.mbx.resp = some resp) ∧ (m < resp.length)) ∧
    (let s : State := calm [] id; let d := s.dev; let b := d.bus; let rest := d.inReset = false ∧ d.chainHeld = false ∧ b.active = false ∧ b.dead = false; (rest) ∧ (d.mbx.resp = none)) ∧
    (let s : State := calm [] id; let ds : Byte := 5; let dt : Byte := 9; let px : Option Byte := none; let d := s.dev; let b := d.bus; let rest := d.inReset = false ∧ d.chainHeld = false ∧ b.active = false ∧ b.dead = false; let pec := d.fbit R.HIF_CFG_PEC_EN; let aw := d.fget R.HIF_STAT_ADDRESS * 2; let closes (p : Nat) (l : List Nat) := px = (if pec then some (BitVec.ofNat 8 (crc8From 0 ([aw] ++ beWord p ++ [crc8From 0 ([aw] ++ beWord p), l.length] ++ l))) else none); let inTable := ds.toNat ≤ 127 ∧ dt.toNat ≤ 15; (rest) ∧ (inTable) ∧ (closes 0xF030 [ds.toNat, dt.toNat])) ∧
    (let s : State := calm [] id; let ds : Byte := 5; let dt : Byte := 9; let op : Byte := 0x10; let tg : Byte := 0x77; let px : Option Byte := none; let d := s.dev; let b := d.bus; let rest := d.inReset = false ∧ d.chainHeld = false ∧ b.active = false ∧ b.dead = false; let pec := d.fbit R.HIF_CFG_PEC_EN; let aw := d.fget R.HIF_STAT_ADDRESS * 2; let closes (p : Nat) (l : List Nat) := px = (if pec then some (BitVec.ofNat 8 (crc8From 0 ([aw] ++ beWord p ++ [crc8From 0 ([aw] ++ beWord p), l.length] ++ l))) else none); let pair := [ds, dt, op, tg]; let inTable := ds.toNat ≤ 127 ∧ dt.toNat ≤ 15; (rest) ∧ (inTable) ∧ (closes 0xF030 (pair.map (·.toNat)))) ∧
    (let s : State := calm [] id; let ds : Byte := 5; let dt : Byte := 16; let op : Byte := 0x10; let tg : Byte := 0x77; let px : Option Byte := none; let d := s.dev; let b := d.bus; let rest := d.inReset = false ∧ d.chainHeld = false ∧ b.active = false ∧ b.dead = false; let pec := d.fbit R.HIF_CFG_PEC_EN; let aw := d.fget R.HIF_STAT_ADDRESS * 2; let closes (p : Nat) (l : List Nat) := px = (if pec then some (BitVec.ofNat 8 (crc8From 0 ([aw] ++ beWord p ++ [crc8From 0 ([aw] ++ beWord p), l.length] ++ l))) else none); let pair := [ds, dt, op, tg]; let inTable := ds.toNat ≤ 127 ∧ dt.toNat ≤ 15; (rest) ∧ (¬ inTable) ∧ (closes 0xF030 (pair.map (·.toNat)))) ∧
    (let s : State := on (calm [] (fun d => d.setStaged 0x2011 0x1234)) (fun d => { d with bus := { d.bus with bulkPos := 0x10 } }); let m : Nat := 2; let d := s.dev; let b := d.bus; let rest := d.inReset = false ∧ d.chainHeld = false ∧ b.active = false ∧ b.dead = false; (rest) ∧ (b.bulkPos ≤ 2048 - 127) ∧ (m ≤ 127)) ∧
    (let s : State := { calm [] id with flash := ring4 }; let q : RingRec := (⟨0, rec4⟩); let d := s.dev; let b := d.bus; let rest := d.inReset = false ∧ d.chainHeld = false ∧ b.active = false ∧ b.dead = false; (rest) ∧ (d.rdRecord s.flash = some q)) ∧
    (let s : State := calm [] id; let d := s.dev; let b := d.bus; let rest := d.inReset = false ∧ d.chainHeld = false ∧ b.active = false ∧ b.dead = false; (rest) ∧ (d.rdRecord s.flash = none)) := by
  decide +kernel

theorem witness_NewerBankIsPreferred :
    (let s : State := boots .headers (header 0 [0, 0, 0, 4] [45, 68, 231, 87] ++ header 1 [0, 0, 0, 5] [83, 245, 236, 26]) []; let a := bankImage s.flash 0; let b := bankImage s.flash 1; let diff := (imgSeq b + 2 ^ 32 - imgSeq a) % 2 ^ 32; let both := s.dev.boot.phase = .headers ∧ headerCheck a none = 0 ∧ headerCheck b none = 0; (both) ∧ (1 ≤ diff) ∧ (diff ≤ 2 ^ 31 - 1)) ∧
    (let s : State := boots .headers (header 0 [0, 0, 0, 7] [174, 151, 250, 128] ++ header 1 [0, 0, 0, 7] [174, 151, 250, 128]) []; let a := bankImage s.flash 0; let b := bankImage s.flash 1; let diff := (imgSeq b + 2 ^ 32 - imgSeq a) % 2 ^ 32; let both := s.dev.boot.phase = .headers ∧ headerCheck a none = 0 ∧ headerCheck b none = 0; (both) ∧ (diff = 0 ∨ diff = 2 ^ 31)) ∧
    (let s : State := boots .headers (header 0 [0, 0, 0, 5] [83, 245, 236, 26] ++ header 1 [0, 0, 0, 4] [45, 68, 231, 87]) []; let a := bankImage s.flash 0; let b := bankImage s.flash 1; let diff := (imgSeq b + 2 ^ 32 - imgSeq a) % 2 ^ 32; let both := s.dev.boot.phase = .headers ∧ headerCheck a none = 0 ∧ headerCheck b none = 0; (both) ∧ (2 ^ 31 < diff)) := by
  decide +kernel

theorem witness_BothBitsAbandonOnly :
    (let s : State := ctrl false [(R.SYS_EPOCH_STAT_HELD, 0, 1), (R.SYS_EPOCH_STAT_APPLYING, 0, 1)]; let lo : Byte := 0x03; let d := s.dev; let b := d.bus; let at4 := d.inReset = false ∧ d.chainHeld = false ∧ b.active = true ∧ b.reading = false ∧ b.dead = false ∧ b.phase = .hi ∧ b.pointer = 4; let two := bitAt lo.toNat 0 = true ∧ bitAt lo.toNat 1 = true; let pecOn := bitAt b.cfg 15 = true; (at4) ∧ (two) ∧ (¬ pecOn)) ∧
    (let s : State := ctrl false [(R.SYS_EPOCH_STAT_HELD, 0, 1), (R.SYS_EPOCH_STAT_APPLYING, 0, 1)]; let lo : Byte := 0x03; let d := s.dev; let b := d.bus; let at4 := d.inReset = false ∧ d.chainHeld = false ∧ b.active = true ∧ b.reading = false ∧ b.dead = false ∧ b.phase = .hi ∧ b.pointer = 4; let two := bitAt lo.toNat 0 = true ∧ bitAt lo.toNat 1 = true; let pecOn := bitAt b.cfg 15 = true; (at4) ∧ (two) ∧ (¬ pecOn)) ∧
    (let s : State := ctrl false [(R.SYS_EPOCH_STAT_HELD, 0, 1), (R.SYS_EPOCH_STAT_APPLYING, 0, 1)]; let lo : Byte := 0x03; let d := s.dev; let b := d.bus; let at4 := d.inReset = false ∧ d.chainHeld = false ∧ b.active = true ∧ b.reading = false ∧ b.dead = false ∧ b.phase = .hi ∧ b.pointer = 4; let two := bitAt lo.toNat 0 = true ∧ bitAt lo.toNat 1 = true; let pecOn := bitAt b.cfg 15 = true; (at4) ∧ (two) ∧ (¬ pecOn)) ∧
    (let s : State := ctrl true [(R.SYS_EPOCH_STAT_HELD, 0, 1), (R.SYS_EPOCH_STAT_APPLYING, 0, 1)]; let lo : Byte := 0x03; let pec : Byte := 80; let d := s.dev; let b := d.bus; let at4 := d.inReset = false ∧ d.chainHeld = false ∧ b.active = true ∧ b.reading = false ∧ b.dead = false ∧ b.phase = .hi ∧ b.pointer = 4; let two := bitAt lo.toNat 0 = true ∧ bitAt lo.toNat 1 = true; let pecOn := bitAt b.cfg 15 = true; let right := pec.toNat = crc8From b.crc [0xA5, lo.toNat]; (at4) ∧ (two) ∧ (pecOn) ∧ (right)) ∧
    (let s : State := ctrl true [(R.SYS_EPOCH_STAT_HELD, 0, 1), (R.SYS_EPOCH_STAT_APPLYING, 0, 1)]; let lo : Byte := 0x03; let pec : Byte := 80; let d := s.dev; let b := d.bus; let at4 := d.inReset = false ∧ d.chainHeld = false ∧ b.active = true ∧ b.reading = false ∧ b.dead = false ∧ b.phase = .hi ∧ b.pointer = 4; let two := bitAt lo.toNat 0 = true ∧ bitAt lo.toNat 1 = true; let pecOn := bitAt b.cfg 15 = true; let right := pec.toNat = crc8From b.crc [0xA5, lo.toNat]; (at4) ∧ (two) ∧ (pecOn) ∧ (right)) ∧
    (let s : State := ctrl true [(R.SYS_EPOCH_STAT_HELD, 0, 1), (R.SYS_EPOCH_STAT_APPLYING, 0, 1)]; let lo : Byte := 0x03; let pec : Byte := 80; let d := s.dev; let b := d.bus; let at4 := d.inReset = false ∧ d.chainHeld = false ∧ b.active = true ∧ b.reading = false ∧ b.dead = false ∧ b.phase = .hi ∧ b.pointer = 4; let two := bitAt lo.toNat 0 = true ∧ bitAt lo.toNat 1 = true; let pecOn := bitAt b.cfg 15 = true; let right := pec.toNat = crc8From b.crc [0xA5, lo.toNat]; (at4) ∧ (two) ∧ (pecOn) ∧ (right)) := by
  decide +kernel

/-- A state and an address that meet the hypotheses of the statement about every step. -/
theorem witness_StepsCompleteAndKeepTheMemories :
    State.reset.memWf = true ∧
    (let s : State := st [(R.BOOT_STAT_BANK, 0, 0)]; s.dev.fget R.BOOT_STAT_MODE < 2 ∧ s.dev.boot.noImage = false ∧ s.dev.fget R.BOOT_STAT_BANK = 0) ∧
    (let s : State := st [(R.BOOT_STAT_BANK, 0, 1)]; s.dev.fget R.BOOT_STAT_MODE < 2 ∧ s.dev.boot.noImage = false ∧ s.dev.fget R.BOOT_STAT_BANK = 1) := by
  decide +kernel

/-- The empty queue of the statement about a step. -/
theorem witness_StepRunsTheCommand : State.reset.pending = [] := by decide +kernel

end
end

/-!
SUPPORT. What a command leaves unchanged, stated about the block alone, and what a register reads after the shared operations.
-/
namespace Sys2Proof.Machine

/-- The word of the immediate register at index `i`. -/
def Dev.reg (d : Dev) (i : Nat) : Word := smGet resetWord d.regs.imm i

theorem State.reg_eq (s : State) (i : Nat) : s.reg i = s.dev.reg i := rfl

section
variable {d e g : Dev} {f h : Fld} {n m v i : Nat} {l l' : List Nat}

@[simp] theorem Dev.reg_fput :
    (d.fput f n v).reg i = if i = f.at n then putBits (d.reg (f.at n)) f.hi f.lo v else d.reg i := by
  unfold Dev.reg Fld.at Dev.fput Dev.setImm
  exact smGet_smSet

@[simp] theorem Dev.reg_event :
    (d.event f n).reg i = if i = f.at n then d.reg (f.at n) ||| BitVec.ofNat 16 (2 ^ f.lo) else d.reg i := by
  simp [Dev.reg, Dev.event, Fld.at]

/-- A change that keeps the registers keeps what each one reads. -/
theorem Dev.reg_of_regs (hr : e.regs = d.regs) : e.reg i = d.reg i := by simp [Dev.reg, hr]

/-- A field of an immediate register, from its register. -/
theorem Dev.fget_imm (hf : f.staged = false) : d.fget f n = bitsOf (d.reg (f.at n)) f.hi f.lo := by
  simp [Dev.fget, Dev.word, hf, Dev.reg, Fld.at]

/-- A field apart from the one written keeps its value: in another register, or in other bits of the same one. -/
theorem Dev.fget_fput_apart (d : Dev) {f h : Fld} {n m : Nat} (v : Nat) (hf : f.lo ≤ f.hi ∧ f.hi < 16)
    (hapart : h.at m ≠ f.at n ∨ h.hi < f.lo ∨ f.hi < h.lo) : (d.fput f n v).fget h m = d.fget h m := by
  obtain hat | hbits := hapart
  · exact Dev.fget_fput_other d f h n m v hat
  · exact Dev.fget_fput_field d f h n m v hf.1 hf.2 hbits

/-- From `d` to `e` no register outside `l` changes, in any layer. -/
structure Dev.Within (l : List Nat) (d e : Dev) : Prop where
  staged : e.regs.staged = d.regs.staged
  committed : e.regs.committed = d.regs.committed
  applied : e.regs.applied = d.regs.applied
  reg : ∀ i, i ∉ l → e.reg i = d.reg i

theorem Dev.Within.of_regs (hr : e.regs = d.regs) : Dev.Within l d e :=
  ⟨by rw [hr], by rw [hr], by rw [hr], fun _ _ => Dev.reg_of_regs hr⟩

theorem Dev.Within.refl : Dev.Within l d d := .of_regs rfl

theorem Dev.Within.trans (h₁ : Dev.Within l d e) (h₂ : Dev.Within l e g) : Dev.Within l d g :=
  ⟨h₂.staged.trans h₁.staged, h₂.committed.trans h₁.committed, h₂.applied.trans h₁.applied,
    fun i hi => (h₂.reg i hi).trans (h₁.reg i hi)⟩

theorem Dev.Within.mono (hw : Dev.Within l d e) (hl : ∀ i ∈ l, i ∈ l') : Dev.Within l' d e :=
  ⟨hw.staged, hw.committed, hw.applied, fun i hi => hw.reg i (fun hm => hi (hl i hm))⟩

/-- A field outside the frame keeps its value: a staged one always, since the applied layer stands. -/
theorem Dev.Within.fget (hw : Dev.Within l d e) (hf : f.staged = true ∨ f.at n ∉ l) : e.fget f n = d.fget f n := by
  cases hs : f.staged
  · rw [Dev.fget_imm hs, Dev.fget_imm hs, hw.reg _ (by simpa [hs] using hf)]
  · simp [Dev.fget, Dev.word, hs, hw.applied]

theorem Dev.Within.fbit (hw : Dev.Within l d e) (hf : f.staged = true ∨ f.at n ∉ l) : e.fbit f n = d.fbit f n := by
  simp [Dev.fbit, hw.fget hf]

theorem Dev.within_fput (hf : f.at n ∈ l) : Dev.Within l d (d.fput f n v) :=
  ⟨by simp, by simp, by simp, fun i hi => by simp [show i ≠ f.at n from fun h => hi (h ▸ hf)]⟩

theorem Dev.within_event (hf : f.at n ∈ l) : Dev.Within l d (d.event f n) :=
  ⟨by simp [Dev.event], by simp [Dev.event], by simp [Dev.event],
    fun i hi => by simp [show i ≠ f.at n from fun h => hi (h ▸ hf)]⟩

theorem Dev.Within.fput (hw : Dev.Within l d e) (hf : f.at n ∈ l) : Dev.Within l d (e.fput f n v) := hw.trans (Dev.within_fput hf)

theorem Dev.Within.event (hw : Dev.Within l d e) (hf : f.at n ∈ l) : Dev.Within l d (e.event f n) := hw.trans (Dev.within_event hf)

theorem Dev.Within.bump (hw : Dev.Within l d e) (hf : f.at n ∈ l) : Dev.Within l d (e.bump f n) := hw.fput hf

theorem Dev.Within.bumpEvt (hw : Dev.Within l d e) (hf : f.at n ∈ l) (hh : h.at n ∈ l) : Dev.Within l d (e.bumpEvt f h n) :=
  (hw.bump hf).event hh

/-- A change beside the registers keeps the frame. -/
theorem Dev.Within.beside (hw : Dev.Within l d e) (hr : g.regs = e.regs) : Dev.Within l d g := hw.trans (.of_regs hr)

/-- A field outside the frame that is written next. -/
theorem Dev.Within.reg_fput (hw : Dev.Within l d e) (hf : f.at n ∉ l) :
    (e.fput f n v).reg (f.at n) = putBits (d.reg (f.at n)) f.hi f.lo v := by
  rw [Dev.reg_fput, if_pos rfl, hw.reg _ hf]

/-- An event outside the frame that is raised next. -/
theorem Dev.Within.reg_event (hw : Dev.Within l d e) (hf : f.at n ∉ l) :
    (e.event f n).reg (f.at n) = d.reg (f.at n) ||| BitVec.ofNat 16 (2 ^ f.lo) := by
  rw [Dev.reg_event, if_pos rfl, hw.reg _ hf]

/-- The frame of a statement, from the frame of the block. -/
theorem Dev.Within.only {s : State} (hw : Dev.Within l s.dev e) : Only l s { s with dev := e } :=
  ⟨rfl, rfl, rfl, hw.staged, hw.committed, hw.applied, hw.reg⟩

@[simp] theorem Dev.event_parts (d : Dev) (f : Fld) (n : Nat) :
    (d.event f n).time = d.time ∧ (d.event f n).bic = d.bic ∧ (d.event f n).jnl = d.jnl ∧ (d.event f n).clk = d.clk ∧ (d.event f n).rtc = d.rtc := by
  simp [Dev.event]

end

/-- A command whose outcome is known completes exactly in the states of which that outcome is one. -/
theorem runs_iff_of_exec {c : Instr} {s t : State} {p : State → Prop} (h : exec c s = .next t) : Runs c s p ↔ p t := by
  simp [Runs, h]

/-- A command that leaves the state as it is. -/
theorem runs_self_of_exec {c : Instr} {s : State} (h : exec c s = .next s) : Runs c s (fun t => t = s) := ⟨s, h, rfl⟩

end Sys2Proof.Machine

/-!
SUPPORT. The commit of a correction set, its timeout and the commands on it (R120, R126, R127, R130).
-/
namespace Sys2Proof.Machine

section
variable {s : State} {x : Fin 2} {p : BicPend} {n : Nat}

/-- The set of a commit is in force from lane group `n` on (R126). -/
def Dev.bicInForce (d : Dev) (x : Nat) (p : BicPend) (n : Nat) : Dev :=
  d.updBic x (fun b => { b with
    corr := p.set, prev := b.corr, prevSrc := d.fget R.BICX_STAT_SRC x, pend := none, img := p.img, verify := p.kind == 0,
    commitAt := some n, time := d.time.stamp })

/-- A commit is counted, flagged and stamped (R126). -/
def Dev.bicStamped (d : Dev) (x : Nat) : Dev :=
  let e := (d.bump R.BICX_COMMITS_COUNT x).event (ofInput x R.BIC_EVT_COMMIT_A R.BIC_EVT_COMMIT_B)
  (e.fput R.BICX_LAST_S_HI_SEC x (e.time.sec / 65536)).fput R.BICX_LAST_S_LO_SEC x (e.time.sec % 65536)

/-- The state that a commit of kind `kind` goes to: off, VERIFY or a new pair (R130). -/
def Dev.bicAfter (d : Dev) (x kind : Nat) : Nat :=
  if !d.bicEn x || !d.fbit R.AFE_STAT_SAMPLING x then 0 else if kind = 0 then 4 else 1

/-- The journal has a set to hand over. -/
def Dev.jnlDirty (d : Dev) : Dev := { d with jnl := { d.jnl with dirty := true } }

/-- BIC_COMMIT once it acts: the set in force, its marks, its source and the state that follows, a new window, the journal. -/
def Dev.bicCommitted (d : Dev) (x : Nat) (p : BicPend) (n : Nat) : Dev :=
  let e := (d.bicInForce x p n).bicStamped x
  ((((e.fput R.BICX_STAT_SRC x p.src).lifeBy 0x80 4 1).bicTo x (e.bicAfter x p.kind)).bicWindow x).jnlDirty

theorem fbit_not_eq_decide (d : Dev) (f : Fld) (k : Nat) (hf : f.hi = f.lo) : (!d.fbit f k) = decide (d.fget f k = 0) := by
  have h := bitsOf_lt (d.word f.staged (f.base + f.stride * k)) f.hi f.lo
  have : d.fget f k < 2 := by simpa [Dev.fget, hf] using h
  unfold Dev.fbit
  interval_cases d.fget f k <;> rfl

theorem exec_bicCommit_come (hruns : s.dev.splStopped = false) (hwaits : (s.dev.bicOf x).pend = some p) (ht : p.target = some n)
    (hn : n ≤ s.dev.lg) : exec (.bicCommit x) s = .next { s with dev := s.dev.bicCommitted x p n } := by
  show execBicCommit x s = _
  have hn' : ¬ s.dev.lg < n := by omega
  simp only [execBicCommit, nextDev, hwaits, ht, hruns, hn', decide_false, Bool.or_self, Bool.false_eq_true, if_false]
  rfl

theorem exec_bicCommit_wait (hwaits : (s.dev.bicOf x).pend = some p)
    (hno : p.target = none ∨ p.target = some n ∧ s.dev.lg < n ∨ s.dev.splStopped = true) : exec (.bicCommit x) s = .next s := by
  show execBicCommit x s = _
  obtain ht | ⟨ht, hn⟩ | hspl := hno
  · simp [execBicCommit, nextDev, hwaits, ht]
  · simp [execBicCommit, nextDev, hwaits, ht, hn]
  · cases ht : p.target <;> simp [execBicCommit, nextDev, hwaits, ht, hspl]

end

section
variable {d e : Dev} {l : List Nat}

@[simp] theorem Dev.reg_updBic (x i : Nat) (f : BicSt → BicSt) : (d.updBic x f).reg i = d.reg i := rfl
@[simp] theorem Dev.fget_updBic (x k : Nat) (f : BicSt → BicSt) (h : Fld) : (d.updBic x f).fget h k = d.fget h k := rfl
@[simp] theorem Dev.reg_lifeBy (a b k i : Nat) : (d.lifeBy a b k).reg i = d.reg i := rfl
@[simp] theorem Dev.reg_jnlDirty (i : Nat) : d.jnlDirty.reg i = d.reg i := rfl
@[simp] theorem Dev.bicOf_fput (f : Fld) (n v x : Nat) : (d.fput f n v).bicOf x = d.bicOf x := rfl
@[simp] theorem Dev.bicOf_lifeBy (a b k x : Nat) : (d.lifeBy a b k).bicOf x = d.bicOf x := rfl
@[simp] theorem Dev.bicOf_jnlDirty (x : Nat) : d.jnlDirty.bicOf x = d.bicOf x := rfl
@[simp] theorem Dev.bicOf_event (f : Fld) (n x : Nat) : (d.event f n).bicOf x = d.bicOf x := by simp [Dev.bicOf]

theorem Dev.Within.bicAfter (hw : Dev.Within l d e) (x k : Nat) (hs : R.AFE_STAT_SAMPLING.at x ∉ l) : e.bicAfter x k = d.bicAfter x k := by
  have hen : e.bicEn x = d.bicEn x := hw.fbit (.inl (by unfold ofInput; split <;> rfl))
  simp [Dev.bicAfter, hen, hw.fbit (.inr hs)]

theorem Dev.Within.event_ofInput {a b : Fld} (hw : Dev.Within l d e) (x : Nat) (ha : a.at 0 ∈ l) (hb : b.at 0 ∈ l) :
    Dev.Within l d (e.event (ofInput x a b)) := hw.event (by unfold ofInput; split <;> assumption)

theorem Dev.bicOf_bicCommitted (x : Nat) (p : BicPend) (n : Nat) :
    ((d.bicCommitted x p n).bicOf x).corr = p.set ∧ ((d.bicCommitted x p n).bicOf x).prev = (d.bicOf x).corr ∧
      ((d.bicCommitted x p n).bicOf x).pend = none ∧ ((d.bicCommitted x p n).bicOf x).commitAt = some n := by
  simp [Dev.bicCommitted, Dev.bicWindow, Dev.bicTo, Dev.bicStamped, Dev.bicInForce, Dev.bump, Dev.bumpBy]

/-- The registers of a commit before its state is shown: its count, its event and its stamp. -/
theorem Dev.within_bicStamped (x : Nat) (p : BicPend) (n : Nat) :
    Dev.Within [R.BICX_COMMITS.at x, R.BIC_EVT.at 0, R.BICX_LAST_S_HI.at x, R.BICX_LAST_S_LO.at x] d ((d.bicInForce x p n).bicStamped x) := by
  unfold Dev.bicStamped
  refine .fput (.fput (.event_ofInput (.bump (.of_regs (d := d) (e := d.bicInForce x p n) rfl) ?_) x ?_ ?_) ?_) ?_
  all_goals simp [Fld.at, R.BICX_COMMITS, R.BICX_COMMITS_COUNT, R.BIC_EVT, R.BIC_EVT_COMMIT_A, R.BIC_EVT_COMMIT_B, R.BICX_LAST_S_HI,
    R.BICX_LAST_S_HI_SEC, R.BICX_LAST_S_LO, R.BICX_LAST_S_LO_SEC]

theorem Dev.within_bicCommitted (x : Nat) (p : BicPend) (n : Nat) :
    Dev.Within [R.BICX_COMMITS.at x, R.BIC_EVT.at 0, R.BICX_LAST_S_HI.at x, R.BICX_LAST_S_LO.at x, R.BICX_STAT.at x] d (d.bicCommitted x p n) := by
  have hstamped := (Dev.within_bicStamped (d := d) x p n).mono (l' := [R.BICX_COMMITS.at x, R.BIC_EVT.at 0, R.BICX_LAST_S_HI.at x,
    R.BICX_LAST_S_LO.at x, R.BICX_STAT.at x]) (by simp +contextual)
  have hsrc := hstamped.fput (f := R.BICX_STAT_SRC) (n := x) (v := p.src) (by simp [Fld.at, R.BICX_STAT, R.BICX_STAT_SRC])
  exact ((hsrc.beside (g := (_ : Dev).lifeBy 0x80 4 1) rfl).fput (by simp [Fld.at, R.BICX_STAT, R.BICX_STAT_STATE])).beside rfl

/-- The registers of a commit (R126, R130). -/
theorem Dev.reg_bicCommitted (x : Fin 2) (p : BicPend) (n : Nat) :
    (d.bicCommitted x p n).reg (R.BICX_COMMITS.at x) =
        putBits (d.reg (R.BICX_COMMITS.at x)) 15 0 (min (d.fget R.BICX_COMMITS_COUNT x + 1) 65535) ∧
      (d.bicCommitted x p n).reg (R.BIC_EVT.at 0) = d.reg (R.BIC_EVT.at 0) ||| (if x = 0 then 1 else 2) ∧
      (d.bicCommitted x p n).reg (R.BICX_LAST_S_HI.at x) = putBits (d.reg (R.BICX_LAST_S_HI.at x)) 15 0 (d.time.sec / 65536) ∧
      (d.bicCommitted x p n).reg (R.BICX_LAST_S_LO.at x) = putBits (d.reg (R.BICX_LAST_S_LO.at x)) 15 0 (d.time.sec % 65536) ∧
      (d.bicCommitted x p n).reg (R.BICX_STAT.at x) = putBits (putBits (d.reg (R.BICX_STAT.at x)) 5 4 p.src) 2 0 (d.bicAfter x p.kind) := by
  have hafter := (Dev.within_bicStamped (d := d) x p n).bicAfter x p.kind (by
    simp [Fld.at, R.AFE_STAT_SAMPLING, R.BICX_COMMITS, R.BIC_EVT, R.BICX_LAST_S_HI, R.BICX_LAST_S_LO]; omega)
  unfold Dev.bicCommitted
  simp only [hafter]
  fin_cases x <;> simp [Dev.bicWindow, Dev.bicTo, Dev.bicStamped, Dev.bicInForce, Dev.bump, Dev.bumpBy, ofInput, Fld.at,
    R.BICX_COMMITS, R.BICX_COMMITS_COUNT, R.BIC_EVT, R.BIC_EVT_COMMIT_A, R.BIC_EVT_COMMIT_B, R.BICX_LAST_S_HI,
    R.BICX_LAST_S_HI_SEC, R.BICX_LAST_S_LO, R.BICX_LAST_S_LO_SEC, R.BICX_STAT, R.BICX_STAT_SRC, R.BICX_STAT_STATE]
end

section
variable {s : State} {x : Fin 2} {p : BicPend} {n : Nat}

/-- BIC_COMMIT once its target has come (R126 to R130). -/
theorem runs_bicCommit_come (hruns : s.dev.splStopped = false) (hwaits : (s.dev.bicOf x).pend = some p) (ht : p.target = some n) (hn : n ≤ s.dev.lg) :
    Runs (.bicCommit x) s (fun t =>
      (t.dev.bicOf x).corr = p.set ∧ (t.dev.bicOf x).prev = (s.dev.bicOf x).corr ∧ (t.dev.bicOf x).pend = none ∧ (t.dev.bicOf x).commitAt = some n ∧
      Counted s t R.BICX_COMMITS_COUNT x ∧ t.reg (R.BIC_EVT.at 0) = s.reg (R.BIC_EVT.at 0) ||| (if x = 0 then 1 else 2) ∧
      Wrote s t R.BICX_LAST_S_HI_SEC x (s.dev.time.sec / 65536) ∧ Wrote s t R.BICX_LAST_S_LO_SEC x (s.dev.time.sec % 65536) ∧
      t.reg (R.BICX_STAT.at x) = putBits (putBits (s.reg (R.BICX_STAT.at x)) 5 4 p.src) 2 0
        (if s.dev.bicEn x = false ∨ s.dev.fget R.AFE_STAT_SAMPLING x = 0 then 0 else if p.kind = 0 then 4 else 1) ∧
      t.dev.jnl.dirty = true ∧
      Only [R.BICX_COMMITS.at x, R.BIC_EVT.at 0, R.BICX_LAST_S_HI.at x, R.BICX_LAST_S_LO.at x, R.BICX_STAT.at x] s t) := by
  obtain ⟨hcorr, hprev, hpend, hat⟩ := Dev.bicOf_bicCommitted (d := s.dev) x p n
  obtain ⟨hcount, hevt, hhi, hlo, hstat⟩ := Dev.reg_bicCommitted (d := s.dev) x p n
  have hafter : s.dev.bicAfter x p.kind =
      if s.dev.bicEn x = false ∨ s.dev.fget R.AFE_STAT_SAMPLING x = 0 then 0 else if p.kind = 0 then 4 else 1 := by
    simp [Dev.bicAfter, fbit_not_eq_decide _ R.AFE_STAT_SAMPLING x rfl]
  exact ⟨_, exec_bicCommit_come hruns hwaits ht hn, hcorr, hprev, hpend, hat, hcount, hevt, hhi, hlo, hafter ▸ hstat, rfl,
    (Dev.within_bicCommitted x p n).only⟩

/-- The commit that no null symbol has met takes the IMMEDIATE target; it is counted and flagged (R127). -/
def Dev.bicTimedOut (d : Dev) (x : Nat) (p : BicPend) : Dev :=
  ((d.updBic x (fun b => { b with pend := some { p with null := false, target := some (d.lg + 256) } })).bump R.BICX_TMO_COUNT x).event
    (ofInput x R.BIC_EVT_TMO_A R.BIC_EVT_TMO_B)

theorem exec_bicCommitTimeout_due (hruns : s.dev.splStopped = false) (hwaits : (s.dev.bicOf x).pend = some p) (hnull : p.null = true)
    (helapsed : p.clk + p.tmo ≤ s.dev.time.clk) (hmiss : p.target = none ∨ p.target = some n ∧ ¬ s.dev.lgClk n ≤ p.clk + p.tmo) :
    exec (.bicCommitTimeout x) s = .next { s with dev := s.dev.bicTimedOut x p } := by
  show execBicCommitTimeout x s = _
  obtain ht | ⟨ht, hn⟩ := hmiss
  · simp [execBicCommitTimeout, nextDev, hwaits, ht, hnull, hruns, Dev.reached, helapsed, Dev.bicTimedOut]
  · simp [execBicCommitTimeout, nextDev, hwaits, ht, hnull, hruns, Dev.reached, helapsed, hn, Dev.bicTimedOut]

theorem exec_bicCommitTimeout_stay (hwaits : (s.dev.bicOf x).pend = some p)
    (hstay : p.target = some n ∧ s.dev.lgClk n ≤ p.clk + p.tmo ∨ ¬ p.clk + p.tmo ≤ s.dev.time.clk ∨ s.dev.splStopped = true) :
    exec (.bicCommitTimeout x) s = .next s := by
  show execBicCommitTimeout x s = _
  obtain ⟨ht, hn⟩ | hearly | hspl := hstay
  · simp [execBicCommitTimeout, nextDev, hwaits, ht, hn]
  · simp [execBicCommitTimeout, nextDev, hwaits, Dev.reached, hearly]
  · simp [execBicCommitTimeout, nextDev, hwaits, hspl]

theorem runs_bicCommitTimeout_due (hruns : s.dev.splStopped = false) (hwaits : (s.dev.bicOf x).pend = some p) (hnull : p.null = true)
    (helapsed : p.clk + p.tmo ≤ s.dev.time.clk) (hmiss : p.target = none ∨ p.target = some n ∧ ¬ s.dev.lgClk n ≤ p.clk + p.tmo) :
    Runs (.bicCommitTimeout x) s (fun t =>
      (t.dev.bicOf x).pend = some { p with null := false, target := some (s.dev.lg + 256) } ∧ Counted s t R.BICX_TMO_COUNT x ∧
      t.reg (R.BIC_EVT.at 0) = s.reg (R.BIC_EVT.at 0) ||| (if x = 0 then 0x40 else 0x80) ∧ Only [R.BICX_TMO.at x, R.BIC_EVT.at 0] s t) := by
  refine ⟨_, exec_bicCommitTimeout_due hruns hwaits hnull helapsed hmiss, ?_, ?_, ?_, Dev.Within.only ?_⟩
  · simp [Dev.bicTimedOut, Dev.bump, Dev.bumpBy]
  · fin_cases x <;> simp [Counted, Wrote, State.reg_eq, Dev.bicTimedOut, Dev.bump, Dev.bumpBy, ofInput, Fld.at, R.BICX_TMO_COUNT, R.BIC_EVT_TMO_A, R.BIC_EVT_TMO_B]
  · fin_cases x <;> simp [State.reg_eq, Dev.bicTimedOut, Dev.bump, Dev.bumpBy, ofInput, Fld.at, R.BICX_TMO_COUNT, R.BIC_EVT, R.BIC_EVT_TMO_A, R.BIC_EVT_TMO_B]
  · unfold Dev.bicTimedOut
    refine .event_ofInput (.bump (.of_regs (d := s.dev) (e := s.dev.updBic x _) rfl) ?_) x ?_ ?_
    all_goals simp [Fld.at, R.BICX_TMO, R.BICX_TMO_COUNT, R.BIC_EVT, R.BIC_EVT_TMO_A, R.BIC_EVT_TMO_B]

/-- BIC_FACTORY outside OBSERVE: the factory correction waits as an accepted commit (R130). -/
theorem runs_bicFactory (hmode : s.dev.fget R.BIC_CFG_COMMIT ≠ 2) :
    Runs (.bicFactory x) s (fun t => Wrote s t R.BICX_STAT_STATE x 3 ∧
      ((t.dev.bicOf x).pend.any (fun q => decide (q.set = none ∧ q.kind = 2 ∧ q.src = 0 ∧ q.ref = s.dev.fget R.BIC_REF_BLOCK ∧
        q.null = (s.dev.fget R.BIC_CFG_COMMIT == 0) ∧ (s.dev.fget R.BIC_CFG_COMMIT ≠ 0 → q.target = some (s.dev.lg + 256))))) = true ∧
      Only [R.BICX_STAT.at x] s t) := by
  refine runs_nextDev (f := fun d => d.bicFactory x) rfl ?_
  simp only [Dev.bicFactory, Dev.bicSchedule, hmode, if_false]
  refine ⟨?_, ?_, (Dev.Within.fput (.of_regs (d := s.dev) (e := s.dev.updBic x _) rfl) ?_).only⟩
  · simp [Wrote, State.reg_eq, Dev.bicTo]
  · by_cases hnull : s.dev.fget R.BIC_CFG_COMMIT = 0 <;> simp [Dev.bicTo, hnull]
  · simp [Fld.at, R.BICX_STAT, R.BICX_STAT_STATE]

/-- BIC_RESTART with a pair in progress or a verify window due (R120, R130). -/
theorem runs_bicRestart (hstate : s.dev.bicState x = 1 ∨ s.dev.bicState x = 2 ∨ s.dev.bicState x = 4) :
    Runs (.bicRestart x) s (fun t =>
      Wrote s t R.BICX_STAT_STATE x (if (s.dev.bicOf x).verify = true then 4 else 1) ∧ (t.dev.bicOf x).start = s.dev.lg ∧ Only [R.BICX_STAT.at x] s t) := by
  refine runs_nextDev (f := fun d => d.bicDiscard x) rfl ?_
  have hstate' : ¬(s.dev.bicState x = 0 ∨ s.dev.bicState x = 3) := by omega
  simp only [Dev.bicDiscard, hstate', if_false]
  refine ⟨?_, ?_, ((Dev.within_fput ?_).beside rfl).only⟩
  · simp [Wrote, State.reg_eq, Dev.bicTo, Dev.bicWindow]
  · simp [Dev.bicTo, Dev.bicWindow]; rfl
  · simp [Fld.at, R.BICX_STAT, R.BICX_STAT_STATE]

end

/-- Settles O5: each command by its own cases; a commit that acts is `Dev.bicCommitted`, of which the registers and the set are stated once. -/
theorem bicCommitAndControl : Obligations.BicCommitAndControl := by
  intro s x p n
  refine ⟨runs_bicCommit_come, fun hwaits hno => runs_self_of_exec (exec_bicCommit_wait hwaits hno), runs_bicCommitTimeout_due,
    fun hwaits _ hstay => runs_self_of_exec (exec_bicCommitTimeout_stay hwaits hstay), runs_bicFactory, fun hmode => ?_, runs_bicRestart, fun hstate => ?_⟩
  · exact ⟨_, rfl, by simp [Dev.bicFactory, hmode]⟩
  · exact ⟨_, rfl, by simp [Dev.bicDiscard, hstate]⟩

end Sys2Proof.Machine

/-!
SUPPORT. What the discipline loop shows (R448 to R453), and the loss of a reference (R446, R447).
-/
namespace Sys2Proof.Machine

section
variable {d e g : Dev} {l : List Nat}

/-- The registers by which the loop shows its state, its phase and its events. -/
def loopRegs : List Nat := [R.CLK_STAT.at 0, R.CLK_DISC_PPM.at 0, R.CLK_PHASE_HI.at 0, R.CLK_THETA_HI.at 0, R.CLK_EVT.at 0]

/-- Bit `k` of an event register that is set stays set while others are raised. -/
theorem bitAt_or {w v : Word} {k : Nat} (h : bitAt w.toNat k = true) : bitAt (w ||| v).toNat k = true := by
  simp only [bitAt, beq_iff_eq] at h ⊢
  have := Nat.testBit_eq_decide_div_mod_eq (x := w.toNat) (i := k)
  have hw : w.toNat.testBit k = true := by simp [this, h]
  have hor : (w ||| v).toNat.testBit k = true := by simp [hw]
  simpa [Nat.testBit_eq_decide_div_mod_eq] using hor

theorem bitAt_or_pow {w : Word} {k : Nat} (hk : k < 16) : bitAt (w ||| BitVec.ofNat 16 (2 ^ k)).toNat k = true := by
  have hpow : 2 ^ k % 65536 = 2 ^ k := Nat.mod_eq_of_lt (Nat.pow_lt_pow_right (by norm_num) hk)
  have hor : (w ||| BitVec.ofNat 16 (2 ^ k)).toNat.testBit k = true := by simp [hpow]
  simpa [bitAt, Nat.testBit_eq_decide_div_mod_eq] using hor

/-- What the loop shows of itself changes from `d` to `e`: its registers alone, of `CLK_STAT` nothing but the loop's own fields, and no event
is cleared. -/
structure Dev.LoopShown (d e : Dev) : Prop where
  within : Dev.Within loopRegs d e
  refOk : e.fget R.CLK_STAT_REF_OK = d.fget R.CLK_STAT_REF_OK
  ppsOk : e.fget R.CLK_STAT_PPS_OK = d.fget R.CLK_STAT_PPS_OK
  evt : ∀ k, bitAt (d.reg (R.CLK_EVT.at 0)).toNat k = true → bitAt (e.reg (R.CLK_EVT.at 0)).toNat k = true

theorem Dev.LoopShown.of_regs (hr : e.regs = d.regs) : Dev.LoopShown d e :=
  ⟨.of_regs hr, by simp [Dev.fget, Dev.word, hr], by simp [Dev.fget, Dev.word, hr], fun k h => by rwa [Dev.reg_of_regs hr]⟩

theorem Dev.LoopShown.trans (h₁ : Dev.LoopShown d e) (h₂ : Dev.LoopShown e g) : Dev.LoopShown d g :=
  ⟨h₁.within.trans h₂.within, h₂.refOk.trans h₁.refOk, h₂.ppsOk.trans h₁.ppsOk, fun k h => h₂.evt k (h₁.evt k h)⟩

/-- A field that the loop writes: of `CLK_STAT` below bit 10, or of the registers of d and of the phases. -/
def Fld.ofLoop (f : Fld) : Bool :=
  decide (f.lo ≤ f.hi ∧ f.hi < 16 ∧
    (f.at 0 = R.CLK_STAT.at 0 ∧ f.hi < 10 ∨ f.at 0 = R.CLK_DISC_PPM.at 0 ∨ f.at 0 = R.CLK_PHASE_HI.at 0 ∨ f.at 0 = R.CLK_THETA_HI.at 0))

theorem Dev.loopShown_fput {f : Fld} (v : Nat) (hf : f.ofLoop = true) : Dev.LoopShown d (d.fput f 0 v) := by
  simp only [Fld.ofLoop, decide_eq_true_eq] at hf
  obtain ⟨hle, hlt, hplace⟩ := hf
  have hwithin : f.at 0 ∈ loopRegs := by simp only [loopRegs, List.mem_cons]; omega
  have hevt : R.CLK_EVT.at 0 ≠ f.at 0 := by
    simp [Fld.at, R.CLK_EVT, R.CLK_STAT, R.CLK_DISC_PPM, R.CLK_PHASE_HI, R.CLK_THETA_HI] at hplace ⊢; omega
  have happart (h : Fld) (hat : h.at 0 = R.CLK_STAT.at 0) (hlo : 10 ≤ h.lo) : h.at 0 ≠ f.at 0 ∨ h.hi < f.lo ∨ f.hi < h.lo := by
    simp [R.CLK_STAT, R.CLK_DISC_PPM, R.CLK_PHASE_HI, R.CLK_THETA_HI, Fld.at] at hplace hat ⊢; omega
  exact ⟨Dev.within_fput hwithin, Dev.fget_fput_apart d v ⟨hle, hlt⟩ (happart R.CLK_STAT_REF_OK rfl (by decide)),
    Dev.fget_fput_apart d v ⟨hle, hlt⟩ (happart R.CLK_STAT_PPS_OK rfl (by decide)), fun k h => by rwa [Dev.reg_fput, if_neg hevt]⟩

theorem Dev.loopShown_event {f : Fld} (hf : f.at 0 = R.CLK_EVT.at 0) : Dev.LoopShown d (d.event f) := by
  have hwithin : Dev.Within [R.CLK_EVT.at 0] d (d.event f) := Dev.within_event (by simp [hf])
  refine ⟨Dev.within_event (by rw [hf]; decide), hwithin.fget (.inr (by decide)), hwithin.fget (.inr (by decide)), fun k h => ?_⟩
  rw [Dev.reg_event, if_pos hf.symm, hf]
  exact bitAt_or h

/-! ### The outputs of the loop -/

/-- The state of the clocks after a change of it. -/
def Dev.updClk (d : Dev) (f : ClkSt → ClkSt) : Dev := { d with clk := f d.clk }

@[simp] theorem Dev.regs_updClk (f : ClkSt → ClkSt) : (d.updClk f).regs = d.regs := rfl
@[simp] theorem Dev.reg_updClk (f : ClkSt → ClkSt) (i : Nat) : (d.updClk f).reg i = d.reg i := rfl
@[simp] theorem Dev.clk_updClk (f : ClkSt → ClkSt) : (d.updClk f).clk = f d.clk := rfl

theorem Dev.updAligned_shown : Dev.LoopShown d d.updAligned ∧ d.updAligned.clk = d.clk := by
  unfold Dev.updAligned
  simp only []
  split
  · exact ⟨.of_regs rfl, rfl⟩
  · exact ⟨(Dev.loopShown_fput _ (by decide)).trans (Dev.loopShown_event rfl), by simp [Dev.fputB]⟩

theorem Dev.discShow_shown : Dev.LoopShown d d.discShow ∧ d.discShow.clk = d.clk := by
  unfold Dev.discShow
  obtain ⟨hshown, hclk⟩ := Dev.updAligned_shown (d := ((d.putHi R.CLK_PHASE_HI_NS d.clk.e).putHi R.CLK_THETA_HI_NS d.clk.theta).fputB R.CLK_STAT_SLEWING 0 (d.clk.slew != 0))
  have hput := (((Dev.loopShown_fput (d := d) (f := R.CLK_PHASE_HI_NS) _ (by decide)).trans (Dev.loopShown_fput (f := R.CLK_THETA_HI_NS) _ (by decide))).trans
    (Dev.loopShown_fput (f := R.CLK_STAT_SLEWING) _ (by decide))).trans hshown
  simp only []
  split
  · exact ⟨hput, hclk⟩
  · exact ⟨hput.trans (.of_regs rfl), hclk⟩

/-- `ALIGNED` and its event are all that R453 shows. -/
theorem Dev.within_updAligned : Dev.Within [R.CLK_STAT.at 0, R.CLK_EVT.at 0] d d.updAligned := by
  unfold Dev.updAligned
  simp only []
  split
  · exact .refl
  · exact .event (.fput .refl (by decide)) (by decide)

/-- The loop shows the high half of e (R451). -/
theorem Dev.discShow_phaseHi : d.discShow.fget R.CLK_PHASE_HI_NS = unsgn 32 d.clk.e / 65536 := by
  have hlt : unsgn 32 d.clk.e / 65536 < 65536 := by unfold unsgn; omega
  have hshown : Dev.Within [R.CLK_THETA_HI.at 0, R.CLK_STAT.at 0, R.CLK_EVT.at 0] (d.putHi R.CLK_PHASE_HI_NS d.clk.e) d.discShow := by
    have hset := Dev.Within.fput (f := R.CLK_STAT_SLEWING) (n := 0) (v := b2n (d.clk.slew != 0))
      (Dev.within_fput (d := d.putHi R.CLK_PHASE_HI_NS d.clk.e) (f := R.CLK_THETA_HI_NS) (n := 0) (v := unsgn 32 d.clk.theta / 65536)
        (l := [R.CLK_THETA_HI.at 0, R.CLK_STAT.at 0, R.CLK_EVT.at 0]) (by decide)) (by decide)
    have hall := hset.trans (Dev.within_updAligned.mono (by decide))
    unfold Dev.discShow
    simp only []
    split
    · exact hall
    · exact hall.beside rfl
  rw [hshown.fget (.inr (by decide)), Dev.putHi, Dev.fget_fput _ _ _ _ (by decide) (by decide) rfl]
  exact Nat.mod_eq_of_lt hlt

theorem Dev.enterCoast_shown :
    Dev.LoopShown d d.enterCoast ∧ d.enterCoast.clk.refGood = d.clk.refGood ∧ d.enterCoast.clk.ppsSeen = d.clk.ppsSeen := by
  unfold Dev.enterCoast
  refine ⟨?_, by simp, by simp⟩
  refine .trans (.trans ?_ (Dev.loopShown_fput _ ?_)) (Dev.loopShown_event ?_)
  · exact .of_regs rfl
  · decide
  · rfl

/-- What the loop does when a reference is gone shows in its own registers alone, and leaves what is known of the references (R450). -/
theorem Dev.coastCheck_shown :
    Dev.LoopShown d d.coastCheck ∧ d.coastCheck.clk.refGood = d.clk.refGood ∧ d.coastCheck.clk.ppsSeen = d.clk.ppsSeen := by
  unfold Dev.coastCheck
  simp only []
  split
  · obtain ⟨hcoast, hgood, hseen⟩ := Dev.enterCoast_shown (d := d)
    obtain ⟨hshow, hclk⟩ := Dev.discShow_shown (d := d.enterCoast)
    exact ⟨hcoast.trans hshow, by rw [hclk, hgood], by rw [hclk, hseen]⟩
  · exact ⟨.of_regs rfl, rfl, rfl⟩

/-- A phase jump is counted and flagged, and θ takes e (R451). -/
theorem Dev.phaseJump_shown : Dev.Within (loopRegs ++ [R.CLK_JUMPS.at 0]) d d.phaseJump ∧ d.phaseJump.clk = { d.clk with theta := d.clk.e } := by
  unfold Dev.phaseJump Dev.bumpEvt
  exact ⟨(Dev.Within.event (.bump .refl (by decide)) (by decide)).beside rfl, by simp⟩

/-! ### A reference that is lost -/

/-- From `d` to `g` the reference of flag `ok` is lost: it reads 0, the loss is counted in `cnt` and flagged by `ev`, and beside that the loop may show
a change of its own. -/
structure Dev.Lost (ok cnt ev : Fld) (d g : Dev) : Prop where
  ok : g.fget ok = 0
  counted : g.reg (cnt.at 0) = putBits (d.reg (cnt.at 0)) 15 0 (min (d.fget cnt + 1) 65535)
  raised : bitAt (g.reg (R.CLK_EVT.at 0)).toNat ev.lo = true
  within : Dev.Within (loopRegs ++ [cnt.at 0]) d g

theorem Dev.LoopShown.lost {ok cnt ev : Fld} (h : Dev.LoopShown ((d.fputB ok 0 false).bumpEvt cnt ev) g)
    (hok : ok = R.CLK_STAT_REF_OK ∨ ok = R.CLK_STAT_PPS_OK) (hcnt : cnt.hi = 15 ∧ cnt.lo = 0 ∧ cnt.staged = false) (hplace : cnt.at 0 ∉ loopRegs)
    (hev : ev.at 0 = R.CLK_EVT.at 0 ∧ ev.lo < 16) : Dev.Lost ok cnt ev d g := by
  obtain ⟨hhi, hlo, himm⟩ := hcnt
  obtain ⟨hat, hlt⟩ := hev
  obtain ⟨hstat, hle, hlt', himm'⟩ : ok.at 0 = R.CLK_STAT.at 0 ∧ ok.lo ≤ ok.hi ∧ ok.hi < 16 ∧ ok.staged = false := by
    rcases hok with rfl | rfl <;> decide
  have hcstat : cnt.at 0 ≠ R.CLK_STAT.at 0 := fun h => hplace (by simp [loopRegs, h])
  have hcevt : cnt.at 0 ≠ R.CLK_EVT.at 0 := fun h => hplace (by simp [loopRegs, h])
  have hapart : R.CLK_STAT.at 0 ≠ R.CLK_EVT.at 0 := by decide
  have hwithin : Dev.Within (loopRegs ++ [cnt.at 0]) d ((d.fputB ok 0 false).bumpEvt cnt ev) :=
    .bumpEvt (.fput .refl (by simp [hstat, loopRegs])) (by simp) (by simp [hat, loopRegs])
  have hkept : g.fget ok = ((d.fputB ok 0 false).bumpEvt cnt ev).fget ok := by rcases hok with rfl | rfl; exacts [h.refOk, h.ppsOk]
  refine ⟨?_, ?_, h.evt _ ?_, hwithin.trans (h.within.mono (by simp +contextual))⟩
  · rw [hkept, Dev.fget_imm himm']
    simp [Dev.bumpEvt, Dev.bump, Dev.bumpBy, Dev.fputB, hat, hstat, hcstat.symm, hapart, bitsOf_putBits_same _ hle hlt', b2n]
  · rw [h.within.reg _ hplace]
    simp [Dev.bumpEvt, Dev.bump, Dev.bumpBy, Dev.fputB, hat, hstat, hcstat, hcevt, hhi, hlo, Dev.fget_imm himm]
  · rw [Dev.bumpEvt, Dev.reg_event, if_pos hat.symm]
    exact bitAt_or_pow hlt

/-- A loss seen from another block of the same registers. -/
theorem Dev.Lost.of_regs {ok cnt ev : Fld} (h : Dev.Lost ok cnt ev e g) (hr : e.regs = d.regs) : Dev.Lost ok cnt ev d g :=
  ⟨h.ok, by rw [h.counted, Dev.reg_of_regs hr, Dev.fget, Dev.fget, Dev.word, Dev.word, hr], h.raised, (Dev.Within.of_regs hr).trans h.within⟩

/-- The good windows of REFIN count anew (R446). -/
def Dev.refAnew (d : Dev) : Dev := d.updClk (fun c => { c with refGood := 0 })

theorem Dev.refLost_eq : d.refLost =
    if d.fbit R.CLK_STAT_REF_OK then
      (((d.refAnew.fputB R.CLK_STAT_REF_OK 0 false).bumpEvt R.CLK_REF_LOSSES_COUNT R.CLK_EVT_REF_LOSS).lifeBy 0x74 4 1).coastCheck
    else d.refAnew := rfl

theorem Dev.refLost_of_not_ok (hok : d.fbit R.CLK_STAT_REF_OK = false) : d.refLost = d.refAnew := by simp [Dev.refLost_eq, hok]

theorem Dev.refLost_of_ok (hok : d.fbit R.CLK_STAT_REF_OK = true) :
    Dev.Lost R.CLK_STAT_REF_OK R.CLK_REF_LOSSES_COUNT R.CLK_EVT_REF_LOSS d d.refLost ∧ d.refLost.clk.refGood = 0 := by
  rw [Dev.refLost_eq, if_pos hok]
  generalize he : (d.refAnew.fputB R.CLK_STAT_REF_OK 0 false).bumpEvt R.CLK_REF_LOSSES_COUNT R.CLK_EVT_REF_LOSS = e
  obtain ⟨hshown, hgood, -⟩ := Dev.coastCheck_shown (d := e.lifeBy 0x74 4 1)
  have hcount : Dev.LoopShown e (e.lifeBy 0x74 4 1) := .of_regs rfl
  have hlost : Dev.Lost R.CLK_STAT_REF_OK R.CLK_REF_LOSSES_COUNT R.CLK_EVT_REF_LOSS d.refAnew (e.lifeBy 0x74 4 1).coastCheck :=
    Dev.LoopShown.lost (by rw [he]; exact hcount.trans hshown) (.inl rfl) (by decide) (by decide) (by decide)
  refine ⟨hlost.of_regs rfl, ?_⟩
  rw [hgood, ← he]
  simp [Dev.bumpEvt, Dev.fputB, Dev.bump, Dev.bumpBy, Dev.refAnew, Dev.updClk]

end
end Sys2Proof.Machine

/-!
SUPPORT. REFIN and PPS_IN: a window, a missing edge, an edge and a missed one (R25, R446, R447, R451).
-/
namespace Sys2Proof.Machine

/-- A 16-bit number held to the range of its field comes back from it. -/
theorem Dev.fgetI_fputI (d : Dev) {f : Fld} {n : Nat} {v : Int} (hf : f.hi = 15 ∧ f.lo = 0 ∧ f.staged = false) (hv : -32768 ≤ v ∧ v ≤ 32767) :
    (d.fputI f n v).fgetI f n = v := by
  obtain ⟨hhi, hlo, himm⟩ := hf
  have hclamp : clampInt (-32768) 32767 v = v := by unfold clampInt; split_ifs <;> omega
  have hput : (d.fputI f n v).fget f n = unsgn 16 v % 65536 := by
    simp only [Dev.fputI]
    rw [Dev.fget_fput _ _ _ _ (by omega) (by omega) himm, hhi, hlo]
    norm_num [hclamp]
  rw [Dev.fgetI, hput, hhi, hlo]
  unfold sgn unsgn
  split_ifs <;> norm_num at * <;> omega

theorem clampInt_bounds {lo hi : Int} (h : lo ≤ hi) (x : Int) : lo ≤ clampInt lo hi x ∧ clampInt lo hi x ≤ hi := by
  unfold clampInt; split_ifs <;> omega

section
variable {d : Dev} {s : State}

/-! ### REFIN -/

/-- REFIN has a window of which `off` is the offset, in 0.01 ppm (R446). -/
def Dev.refMeasured (d : Dev) (off : Int) : Dev :=
  (d.updClk (fun c => { c with refClk := d.time.clk + 1 })).fputI R.CLK_REF_MEAS_PPM 0 (clampInt (-32767) 32767 (divNearInt off 10))

/-- A good window counts, to ten (R446). -/
def Dev.refCounted (d : Dev) : Dev := d.updClk (fun c => { c with refGood := min (c.refGood + 1) 10 })

/-- A window is due: it is the first, or the last one ended 100 ms ago. -/
def Dev.refDue (d : Dev) : Prop := d.clk.refClk = 0 ∨ d.clk.refClk - 1 + msCycles 100 ≤ d.time.clk

theorem exec_refinWindow_early {raw : Int} (h : ¬ s.dev.refDue) : exec (.refinWindow raw) s = .next s := by
  simp only [Dev.refDue, not_or] at h
  show execRefinWindow raw s = _
  simp [execRefinWindow, nextDev, Dev.reached, h.1, h.2]

theorem Dev.within_refMeasured (off : Int) : Dev.Within [R.CLK_REF_MEAS.at 0] d (d.refMeasured off) := by
  unfold Dev.refMeasured Dev.fputI
  exact .fput (.of_regs rfl) (by decide)

/-- A window is measured and judged: it counts, the tenth good one qualifies REFIN, and one beyond TOL loses it (R446). -/
def Dev.refJudged (d : Dev) (off : Int) : Dev :=
  let e := d.refMeasured off
  if off.natAbs ≤ d.fget R.CLK_REF_CFG_TOL * 100 then
    if 10 ≤ d.clk.refGood + 1 && !d.fbit R.CLK_STAT_REF_OK then (e.refCounted.fputB R.CLK_STAT_REF_OK 0 true).event R.CLK_EVT_REF_UP
    else e.refCounted
  else e.refLost

theorem exec_refinWindow_due {raw : Int} (h : s.dev.refDue) :
    exec (.refinWindow raw) s = .next { s with dev := s.dev.refJudged (raw - s.dev.fgetI R.CLK_SPL_TRIM_TRIM) } := by
  generalize hoff : raw - s.dev.fgetI R.CLK_SPL_TRIM_TRIM = off
  have htol : (s.dev.refMeasured off).fget R.CLK_REF_CFG_TOL = s.dev.fget R.CLK_REF_CFG_TOL := (Dev.within_refMeasured off).fget (.inl rfl)
  have hok : (s.dev.refMeasured off).fbit R.CLK_STAT_REF_OK = s.dev.fbit R.CLK_STAT_REF_OK := (Dev.within_refMeasured off).fbit (.inr (by decide))
  have hwait : ¬ (s.dev.clk.refClk != 0 && !s.dev.reached (s.dev.clk.refClk - 1 + msCycles 100)) = true := by
    simpa [Dev.reached, Dev.refDue, or_iff_not_imp_left] using h
  show execRefinWindow raw s = _
  rw [Dev.refJudged, ← htol, ← hok, ← hoff]
  exact congrArg (fun d => Host.Outcome.next { s with dev := d }) (if_neg hwait)

theorem runs_refinWindow_good {raw : Int} (hdue : s.dev.refDue)
    (htol : (raw - s.dev.fgetI R.CLK_SPL_TRIM_TRIM).natAbs ≤ s.dev.fget R.CLK_REF_CFG_TOL * 100) (hfew : s.dev.clk.refGood < 9) :
    Runs (.refinWindow raw) s (fun t =>
      t.dev.clk = { s.dev.clk with refGood := s.dev.clk.refGood + 1, refClk := s.dev.time.clk + 1 } ∧
      t.dev.fgetI R.CLK_REF_MEAS_PPM = clampInt (-32767) 32767 (divNearInt (raw - s.dev.fgetI R.CLK_SPL_TRIM_TRIM) 10) ∧
      Only [R.CLK_REF_MEAS.at 0] s t) := by
  refine ⟨_, exec_refinWindow_due hdue, ?_⟩
  generalize raw - s.dev.fgetI R.CLK_SPL_TRIM_TRIM = off at htol ⊢
  have hjudged : s.dev.refJudged off = (s.dev.refMeasured off).refCounted := by
    have hten : ¬ 10 ≤ s.dev.clk.refGood + 1 := by omega
    simp [Dev.refJudged, htol, hten]
  have hbounds := clampInt_bounds (lo := -32767) (hi := 32767) (by norm_num) (divNearInt off 10)
  rw [hjudged]
  refine ⟨?_, Dev.fgetI_fputI _ (by decide) (by omega), ((Dev.within_refMeasured off).beside rfl).only⟩
  have hmin : min (s.dev.clk.refGood + 1) 10 = s.dev.clk.refGood + 1 := by omega
  simp [Dev.refCounted, Dev.refMeasured, Dev.fputI, Dev.updClk, hmin]

theorem runs_refinWindow_tenth {raw : Int} (hdue : s.dev.refDue)
    (htol : (raw - s.dev.fgetI R.CLK_SPL_TRIM_TRIM).natAbs ≤ s.dev.fget R.CLK_REF_CFG_TOL * 100) (hnine : 9 ≤ s.dev.clk.refGood)
    (hok : s.dev.fbit R.CLK_STAT_REF_OK = false) :
    Runs (.refinWindow raw) s (fun t => Wrote s t R.CLK_STAT_REF_OK 0 1 ∧ Raised s t R.CLK_EVT_REF_UP ∧
      Only [R.CLK_REF_MEAS.at 0, R.CLK_STAT.at 0, R.CLK_EVT.at 0] s t) := by
  refine ⟨_, exec_refinWindow_due hdue, ?_⟩
  generalize raw - s.dev.fgetI R.CLK_SPL_TRIM_TRIM = off at htol ⊢
  have hjudged : s.dev.refJudged off = ((s.dev.refMeasured off).refCounted.fputB R.CLK_STAT_REF_OK 0 true).event R.CLK_EVT_REF_UP := by
    simp [Dev.refJudged, htol, hok, hnine]
  have hmeasured : Dev.Within [R.CLK_REF_MEAS.at 0] s.dev (s.dev.refMeasured off).refCounted := (Dev.within_refMeasured off).beside rfl
  rw [hjudged]
  have hflag : Dev.Within [R.CLK_REF_MEAS.at 0, R.CLK_STAT.at 0] s.dev ((s.dev.refMeasured off).refCounted.fputB R.CLK_STAT_REF_OK 0 true) :=
    .fput (hmeasured.mono (by decide)) (by decide)
  have hevent := Dev.within_event (d := (s.dev.refMeasured off).refCounted.fputB R.CLK_STAT_REF_OK 0 true) (f := R.CLK_EVT_REF_UP) (n := 0)
    (l := [R.CLK_EVT.at 0]) (by decide)
  exact ⟨(hevent.reg _ (by decide)).trans (hmeasured.reg_fput (by decide)), hflag.reg_event (by decide),
    ((hflag.mono (by decide)).trans (hevent.mono (by decide))).only⟩

theorem runs_refinWindow_bad {raw : Int} (hdue : s.dev.refDue)
    (htol : s.dev.fget R.CLK_REF_CFG_TOL * 100 < (raw - s.dev.fgetI R.CLK_SPL_TRIM_TRIM).natAbs) (hok : s.dev.fbit R.CLK_STAT_REF_OK = true) :
    Runs (.refinWindow raw) s (fun t => t.dev.fget R.CLK_STAT_REF_OK = 0 ∧ t.dev.clk.refGood = 0 ∧
      Counted s t R.CLK_REF_LOSSES_COUNT ∧ bitAt (t.reg (R.CLK_EVT.at 0)).toNat 7 = true ∧
      Only (loopRegs ++ [R.CLK_REF_MEAS.at 0, R.CLK_REF_LOSSES.at 0]) s t) := by
  refine ⟨_, exec_refinWindow_due hdue, ?_⟩
  generalize raw - s.dev.fgetI R.CLK_SPL_TRIM_TRIM = off at htol ⊢
  have hmeasured := Dev.within_refMeasured (d := s.dev) off
  obtain ⟨hlost, hgood⟩ := Dev.refLost_of_ok (d := s.dev.refMeasured off) (by rw [hmeasured.fbit (.inr (by decide)), hok])
  have hjudged : s.dev.refJudged off = (s.dev.refMeasured off).refLost := by
    have hbeyond : ¬ off.natAbs ≤ s.dev.fget R.CLK_REF_CFG_TOL * 100 := by omega
    simp [Dev.refJudged, hbeyond]
  have hcount := hlost.counted
  rw [hmeasured.reg _ (by decide), hmeasured.fget (.inr (by decide))] at hcount
  rw [hjudged]
  exact ⟨hlost.ok, hgood, hcount, hlost.raised, ((hmeasured.mono (by decide)).trans (hlost.within.mono (by decide))).only⟩

/-! ### A missing edge of REFIN -/

/-- REFIN has no edge for more than 1 µs after its last window. -/
def Dev.refStill (d : Dev) : Prop := d.clk.refClk = 0 ∨ d.clk.refClk + usCycles 1 ≤ d.time.clk

/-- REFIN is lost, its measurement reads 0x8000, and the next window begins with the next edge (R446). -/
def Dev.refGone (d : Dev) : Dev := (d.refLost.fput R.CLK_REF_MEAS_PPM 0 0x8000).updClk (fun _ => { d.refLost.clk with refClk := 0 })

theorem Dev.within_refGone : Dev.Within [R.CLK_REF_MEAS.at 0] d.refLost d.refGone :=
  .beside (Dev.within_fput (f := R.CLK_REF_MEAS_PPM) (n := 0) (v := 0x8000) (by decide)) (Dev.regs_updClk _)

theorem Dev.reg_refGone : d.refGone.reg (R.CLK_REF_MEAS_PPM.at 0) = putBits (d.refLost.reg (R.CLK_REF_MEAS_PPM.at 0)) 15 0 0x8000 := by
  rw [Dev.refGone, Dev.reg_updClk, Dev.reg_fput, if_pos rfl]
  rfl

theorem exec_refinEdgeLoss_early (h : ¬ s.dev.refStill) : exec .refinEdgeLoss s = .next s := by
  simp only [Dev.refStill, not_or] at h
  show execRefinEdgeLoss s = _
  simp [execRefinEdgeLoss, nextDev, Dev.reached, h.1, h.2]

theorem exec_refinEdgeLoss_still (h : s.dev.refStill) : exec .refinEdgeLoss s = .next { s with dev := s.dev.refGone } := by
  have hwait : ¬ (s.dev.clk.refClk != 0 && !s.dev.reached (s.dev.clk.refClk + usCycles 1)) = true := by
    simpa [Dev.reached, Dev.refStill, or_iff_not_imp_left] using h
  show execRefinEdgeLoss s = _
  exact congrArg (fun d => Host.Outcome.next { s with dev := d }) (if_neg hwait)

theorem runs_refinEdgeLoss_ok (hstill : s.dev.refStill) (hok : s.dev.fbit R.CLK_STAT_REF_OK = true) :
    Runs .refinEdgeLoss s (fun t => t.dev.fget R.CLK_STAT_REF_OK = 0 ∧ t.dev.fget R.CLK_REF_MEAS_PPM = 0x8000 ∧
      Counted s t R.CLK_REF_LOSSES_COUNT ∧ Only (loopRegs ++ [R.CLK_REF_MEAS.at 0, R.CLK_REF_LOSSES.at 0]) s t) := by
  obtain ⟨hlost, -⟩ := Dev.refLost_of_ok hok
  have hmeas := Dev.within_refGone (d := s.dev)
  refine ⟨_, exec_refinEdgeLoss_still hstill, ?_, ?_, ?_, ((hlost.within.mono (by decide)).trans (hmeas.mono (by decide))).only⟩
  · exact (hmeas.fget (.inr (by decide))).trans hlost.ok
  · rw [Dev.fget_imm rfl, Dev.reg_refGone]
    exact bitsOf_putBits_same _ (by decide) (by decide) _
  · exact (hmeas.reg _ (by decide)).trans hlost.counted

theorem runs_refinEdgeLoss_not_ok (hstill : s.dev.refStill) (hok : s.dev.fbit R.CLK_STAT_REF_OK = false) :
    Runs .refinEdgeLoss s (fun t => Wrote s t R.CLK_REF_MEAS_PPM 0 0x8000 ∧ t.dev.clk.refGood = 0 ∧ Only [R.CLK_REF_MEAS.at 0] s t) := by
  have hlost := Dev.refLost_of_not_ok hok
  have hanew : Dev.Within [R.CLK_REF_MEAS.at 0] s.dev s.dev.refLost := .of_regs (by rw [hlost, Dev.refAnew, Dev.regs_updClk])
  refine ⟨_, exec_refinEdgeLoss_still hstill, ?_, ?_, (hanew.trans Dev.within_refGone).only⟩
  · exact Dev.reg_refGone.trans (by rw [hlost]; rfl)
  · simp [Dev.refGone, hlost, Dev.refAnew]

/-! ### PPS_IN -/

/-- The distance of an edge in cycle `sub` ns from where the next valid one is expected (R447). -/
def Dev.ppsGap (d : Dev) (sub : Nat) : Int := (d.edgeNs sub : Int) - d.clk.ppsNs - 1000000000 * (d.clk.ppsMiss + 1 : Nat)

/-- An edge is valid: it is the first one, or lies within WIN of where it is expected. -/
def Dev.ppsValid (d : Dev) (sub : Nat) : Prop := d.clk.ppsSeen = false ∨ (d.ppsGap sub).natAbs ≤ d.fget R.CLK_PPS_CFG_WIN * 10000

/-- A valid edge counts, to three (R447). -/
def Dev.ppsCounted (d : Dev) (sub : Nat) : Dev :=
  d.updClk (fun c => { c with
    ppsSeen := true, ppsMiss := 0, ppsValid := min (d.clk.ppsValid + 1) 3, ppsNs := d.edgeNs sub
    ppsOff := if d.clk.ppsSeen then -(divNearInt (d.ppsGap sub) (10 * (d.clk.ppsMiss + 1 : Nat))) else 0 })

/-- The third valid edge qualifies PPS_IN. -/
def Dev.ppsQualified (d : Dev) (n : Nat) : Dev :=
  if 3 ≤ n && !d.fbit R.CLK_STAT_PPS_OK then (d.fputB R.CLK_STAT_PPS_OK 0 true).event R.CLK_EVT_PPS_UP else d

/-- The distance of an edge from the device-time second (R25). -/
def Dev.ppsPhase (d : Dev) (sub : Nat) : Int := wrapHalf (d.time.cyc * 15625 / 4608 + sub : Nat)

/-- A phase that is set is judged: in LOCKED the loop jumps to one that is too far (R451). -/
def Dev.ppsJudged (d : Dev) : Dev := if d.fget R.CLK_STAT_DISC == 2 && d.ppsUsable && d.isJump d.phaseDiff then d.phaseJump else d

/-- An edge sets e, where PPS_IN is selected (R451). -/
def Dev.ppsShown (d : Dev) (e : Int) : Dev := (d.updClk (fun c => { c with e := e })).ppsJudged.discShow

/-- A valid edge: it counts, and where PPS_IN is selected it sets e (R447, R451). -/
def Dev.ppsTaken (d : Dev) (sub : Nat) : Dev :=
  let e := (d.ppsCounted sub).ppsQualified (d.clk.ppsValid + 1)
  if bitAt (e.fget R.CLK_DISC_SRC) 1 then e.ppsShown (e.ppsPhase sub) else e

theorem exec_ppsEdge_inactive {rising : Bool} {sub : Fin 4} (h : ¬ rising ≠ s.dev.fbit R.CLK_PPS_CFG_POL) : exec (.ppsEdge rising sub) s = .next s := by
  show execPpsEdge rising sub s = _
  simp [execPpsEdge, nextDev, not_not.1 h]

theorem exec_ppsEdge_invalid {rising : Bool} {sub : Fin 4} (hactive : rising ≠ s.dev.fbit R.CLK_PPS_CFG_POL) (h : ¬ s.dev.ppsValid sub) :
    exec (.ppsEdge rising sub) s = .next { s with dev := s.dev.updClk (fun c => { c with ppsValid := 0 }) } := by
  have hinvalid : ¬ (!s.dev.clk.ppsSeen || decide ((s.dev.ppsGap sub).natAbs ≤ s.dev.fget R.CLK_PPS_CFG_WIN * 10000)) = true := by
    simpa [Dev.ppsValid] using h
  have hedge : ¬ (rising == s.dev.fbit R.CLK_PPS_CFG_POL) = true := by simpa using hactive
  show execPpsEdge rising sub s = _
  refine congrArg (fun d => Host.Outcome.next { s with dev := d }) ((if_neg hedge).trans ((if_neg hinvalid).trans ?_))
  rfl

theorem exec_ppsEdge_valid {rising : Bool} {sub : Fin 4} (hactive : rising ≠ s.dev.fbit R.CLK_PPS_CFG_POL) (h : s.dev.ppsValid sub) :
    exec (.ppsEdge rising sub) s = .next { s with dev := s.dev.ppsTaken sub } := by
  have hvalid : (!s.dev.clk.ppsSeen || decide ((s.dev.ppsGap sub).natAbs ≤ s.dev.fget R.CLK_PPS_CFG_WIN * 10000)) = true := by
    simpa [Dev.ppsValid] using h
  have hedge : ¬ (rising == s.dev.fbit R.CLK_PPS_CFG_POL) = true := by simpa using hactive
  show execPpsEdge rising sub s = _
  refine congrArg (fun d => Host.Outcome.next { s with dev := d }) ((if_neg hedge).trans ((if_pos hvalid).trans ?_))
  rfl

end
end Sys2Proof.Machine

/-!
SUPPORT. The clauses of PPS_IN (R447, R451) and of the clock outputs (R457, R458, R460).
-/
namespace Sys2Proof.Machine

section
variable {d : Dev} {s : State}

/-! ### An edge of PPS_IN -/

theorem Dev.within_ppsQualified (n : Nat) : Dev.Within [R.CLK_STAT.at 0, R.CLK_EVT.at 0] d (d.ppsQualified n) := by
  unfold Dev.ppsQualified
  split
  · exact .event (.fput .refl (by decide)) (by decide)
  · exact .refl

theorem Dev.clk_ppsQualified (n : Nat) : (d.ppsQualified n).clk = d.clk := by
  unfold Dev.ppsQualified
  split <;> simp [Dev.fputB]

theorem Dev.time_ppsQualified (n : Nat) : (d.ppsQualified n).time = d.time := by
  unfold Dev.ppsQualified
  split <;> simp [Dev.fputB]

/-- What counting a valid edge changes, apart from e. -/
theorem Dev.ppsQualified_ppsCounted (sub n : Nat) :
    Dev.Within [R.CLK_STAT.at 0, R.CLK_EVT.at 0] d ((d.ppsCounted sub).ppsQualified n) ∧
    ((d.ppsCounted sub).ppsQualified n).clk = (d.ppsCounted sub).clk ∧ ((d.ppsCounted sub).ppsQualified n).time = d.time := by
  have hcounted : Dev.Within [R.CLK_STAT.at 0, R.CLK_EVT.at 0] d (d.ppsCounted sub) := .of_regs (Dev.regs_updClk _)
  exact ⟨hcounted.trans (Dev.within_ppsQualified n), Dev.clk_ppsQualified n, Dev.time_ppsQualified n⟩

theorem Dev.ppsJudged_shown : Dev.Within (loopRegs ++ [R.CLK_JUMPS.at 0]) d d.ppsJudged ∧ d.ppsJudged.clk.e = d.clk.e ∧
    d.ppsJudged.clk.ppsSeen = d.clk.ppsSeen := by
  unfold Dev.ppsJudged
  split
  · obtain ⟨hwithin, hclk⟩ := Dev.phaseJump_shown (d := d)
    exact ⟨hwithin, by rw [hclk], by rw [hclk]⟩
  · exact ⟨.refl, rfl, rfl⟩

/-- An edge that sets e shows it; what is known of the edges stands (R451). -/
theorem Dev.ppsShown_shown (e : Int) :
    Dev.Within (loopRegs ++ [R.CLK_JUMPS.at 0]) d (d.ppsShown e) ∧ (d.ppsShown e).clk.e = e ∧ (d.ppsShown e).clk.ppsSeen = d.clk.ppsSeen ∧
    (d.ppsShown e).fget R.CLK_PHASE_HI_NS = unsgn 32 e / 65536 := by
  obtain ⟨hjudged, he, hseen⟩ := Dev.ppsJudged_shown (d := d.updClk (fun c => { c with e := e }))
  obtain ⟨hshown, hclk⟩ := Dev.discShow_shown (d := (d.updClk (fun c => { c with e := e })).ppsJudged)
  rw [Dev.clk_updClk] at he hseen
  refine ⟨?_, ?_, ?_, ?_⟩
  · exact ((Dev.Within.of_regs (Dev.regs_updClk _)).trans hjudged).trans (hshown.within.mono (by simp +contextual))
  · rw [Dev.ppsShown, hclk, he]
  · rw [Dev.ppsShown, hclk, hseen]
  · rw [Dev.ppsShown, Dev.discShow_phaseHi, he]

theorem runs_ppsEdge_third {rising : Bool} {sub : Fin 4} (hactive : rising ≠ s.dev.fbit R.CLK_PPS_CFG_POL) (hvalid : s.dev.ppsValid sub)
    (htwo : s.dev.clk.ppsValid = 2) (hok : s.dev.fbit R.CLK_STAT_PPS_OK = false) (hsrc : bitAt (s.dev.fget R.CLK_DISC_SRC) 1 = false) :
    Runs (.ppsEdge rising sub) s (fun t => Wrote s t R.CLK_STAT_PPS_OK 0 1 ∧ Raised s t R.CLK_EVT_PPS_UP ∧ t.dev.clk.ppsMiss = 0 ∧
      t.dev.clk.ppsNs = s.dev.edgeNs sub ∧ Only [R.CLK_STAT.at 0, R.CLK_EVT.at 0] s t) := by
  refine ⟨_, exec_ppsEdge_valid hactive hvalid, ?_⟩
  obtain ⟨hwithin, hclk, -⟩ := Dev.ppsQualified_ppsCounted (d := s.dev) sub 3
  have hcounted : Dev.Within [] s.dev (s.dev.ppsCounted sub) := .of_regs (Dev.regs_updClk _)
  have hqual : (s.dev.ppsCounted sub).ppsQualified 3 = ((s.dev.ppsCounted sub).fputB R.CLK_STAT_PPS_OK 0 true).event R.CLK_EVT_PPS_UP := by
    rw [Dev.ppsQualified, if_pos (by rw [hcounted.fbit (.inr (by decide)), hok]; decide)]
  have htaken : s.dev.ppsTaken sub = (s.dev.ppsCounted sub).ppsQualified 3 := by
    rw [Dev.ppsTaken, htwo]
    exact if_neg (by rw [hwithin.fget (.inr (by decide)), hsrc]; decide)
  rw [htaken]
  refine ⟨?_, ?_, ?_, ?_, hwithin.only⟩
  · show ((s.dev.ppsCounted sub).ppsQualified 3).reg (R.CLK_STAT_PPS_OK.at 0) = _
    rw [hqual, (Dev.within_event (l := [R.CLK_EVT.at 0]) (by decide)).reg _ (by decide)]
    exact hcounted.reg_fput (by decide)
  · show ((s.dev.ppsCounted sub).ppsQualified 3).reg (R.CLK_EVT_PPS_UP.at 0) = _
    rw [hqual]
    exact (Dev.within_fput (d := s.dev.ppsCounted sub) (l := [R.CLK_STAT.at 0]) (by decide)).reg_event (by decide)
  · show ((s.dev.ppsCounted sub).ppsQualified 3).clk.ppsMiss = 0
    rw [hclk, Dev.ppsCounted, Dev.clk_updClk]
  · show ((s.dev.ppsCounted sub).ppsQualified 3).clk.ppsNs = _
    rw [hclk, Dev.ppsCounted, Dev.clk_updClk]

theorem runs_ppsEdge_selected {rising : Bool} {sub : Fin 4} (hactive : rising ≠ s.dev.fbit R.CLK_PPS_CFG_POL) (hvalid : s.dev.ppsValid sub)
    (hsrc : bitAt (s.dev.fget R.CLK_DISC_SRC) 1 = true) :
    Runs (.ppsEdge rising sub) s (fun t => t.dev.clk.e = s.dev.ppsPhase sub ∧ t.dev.clk.ppsSeen = true ∧
      t.dev.fget R.CLK_PHASE_HI_NS = unsgn 32 (s.dev.ppsPhase sub) / 65536 ∧ Only (loopRegs ++ [R.CLK_JUMPS.at 0]) s t) := by
  refine ⟨_, exec_ppsEdge_valid hactive hvalid, ?_⟩
  obtain ⟨hwithin, hclk, htime⟩ := Dev.ppsQualified_ppsCounted (d := s.dev) sub (s.dev.clk.ppsValid + 1)
  have htaken : s.dev.ppsTaken sub = ((s.dev.ppsCounted sub).ppsQualified (s.dev.clk.ppsValid + 1)).ppsShown (s.dev.ppsPhase sub) := by
    rw [Dev.ppsTaken, ← show ((s.dev.ppsCounted sub).ppsQualified (s.dev.clk.ppsValid + 1)).ppsPhase sub = s.dev.ppsPhase sub by
      rw [Dev.ppsPhase, htime, Dev.ppsPhase]]
    exact if_pos (by rw [hwithin.fget (.inr (by decide)), hsrc])
  rw [htaken]
  obtain ⟨hshown, he, hseen, hphase⟩ := Dev.ppsShown_shown (d := (s.dev.ppsCounted sub).ppsQualified (s.dev.clk.ppsValid + 1)) (s.dev.ppsPhase sub)
  exact ⟨he, by rw [hseen, hclk, Dev.ppsCounted, Dev.clk_updClk], hphase, ((hwithin.mono (by decide)).trans hshown).only⟩

theorem runs_ppsEdge_invalid {rising : Bool} {sub : Fin 4} (hactive : rising ≠ s.dev.fbit R.CLK_PPS_CFG_POL) (hvalid : ¬ s.dev.ppsValid sub) :
    Runs (.ppsEdge rising sub) s (fun t => t.dev.clk = { s.dev.clk with ppsValid := 0 } ∧ Only [] s t) :=
  ⟨_, exec_ppsEdge_invalid hactive hvalid, Dev.clk_updClk _, (Dev.Within.of_regs (Dev.regs_updClk _)).only⟩

/-! ### A missed edge -/

/-- The edge that is expected has not arrived by the end of its window (R447). -/
def Dev.ppsGone (d : Dev) : Prop :=
  d.clk.ppsSeen = true ∧ (d.clk.ppsMiss + 1) * 1000000000 + d.fget R.CLK_PPS_CFG_WIN * 10000 < d.edgeNs 0 - d.clk.ppsNs

/-- PPS_IN counts anew from the next edge. -/
def Dev.ppsAnew (d : Dev) : Dev := d.updClk (fun c => { c with ppsMiss := 0, ppsValid := 0, ppsSeen := false })

/-- One edge more is missed; MISS of them lose PPS_IN (R447). -/
def Dev.ppsMissing (d : Dev) : Dev :=
  if d.fget R.CLK_PPS_CFG_MISS ≤ d.clk.ppsMiss + 1 then
    if d.fbit R.CLK_STAT_PPS_OK then
      ((d.ppsAnew.fputB R.CLK_STAT_PPS_OK 0 false).bumpEvt R.CLK_PPS_LOSSES_COUNT R.CLK_EVT_PPS_LOSS).coastCheck
    else d.ppsAnew
  else d.updClk (fun c => { c with ppsMiss := c.ppsMiss + 1, ppsValid := 0 })

theorem exec_ppsMissed_not_gone (h : ¬ s.dev.ppsGone) : exec .ppsMissed s = .next s := by
  have hwait : (!s.dev.clk.ppsSeen ||
      decide (s.dev.edgeNs 0 - s.dev.clk.ppsNs ≤ (s.dev.clk.ppsMiss + 1) * 1000000000 + s.dev.fget R.CLK_PPS_CFG_WIN * 10000)) = true := by
    simp only [Dev.ppsGone, not_and, not_lt] at h
    cases hseen : s.dev.clk.ppsSeen <;> simp_all
  show execPpsMissed s = _
  exact congrArg (fun d => Host.Outcome.next { s with dev := d }) (if_pos hwait)

theorem exec_ppsMissed_gone (h : s.dev.ppsGone) : exec .ppsMissed s = .next { s with dev := s.dev.ppsMissing } := by
  have hwait : ¬ (!s.dev.clk.ppsSeen ||
      decide (s.dev.edgeNs 0 - s.dev.clk.ppsNs ≤ (s.dev.clk.ppsMiss + 1) * 1000000000 + s.dev.fget R.CLK_PPS_CFG_WIN * 10000)) = true := by
    obtain ⟨hseen, hlate⟩ := h
    simp only [hseen, Bool.not_true, Bool.false_or, decide_eq_true_eq]
    omega
  show execPpsMissed s = _
  exact congrArg (fun d => Host.Outcome.next { s with dev := d }) (if_neg hwait)

theorem runs_ppsMissed_few (hgone : s.dev.ppsGone) (hfew : s.dev.clk.ppsMiss + 1 < s.dev.fget R.CLK_PPS_CFG_MISS) :
    Runs .ppsMissed s (fun t => t.dev.clk = { s.dev.clk with ppsMiss := s.dev.clk.ppsMiss + 1, ppsValid := 0 } ∧ Only [] s t) := by
  have hmissing : s.dev.ppsMissing = s.dev.updClk (fun c => { c with ppsMiss := c.ppsMiss + 1, ppsValid := 0 }) := by
    rw [Dev.ppsMissing, if_neg (by omega)]
  refine ⟨_, exec_ppsMissed_gone hgone, ?_⟩
  rw [hmissing]
  exact ⟨Dev.clk_updClk _, (Dev.Within.of_regs (Dev.regs_updClk _)).only⟩

theorem runs_ppsMissed_lost (hgone : s.dev.ppsGone) (hmany : s.dev.fget R.CLK_PPS_CFG_MISS ≤ s.dev.clk.ppsMiss + 1)
    (hok : s.dev.fbit R.CLK_STAT_PPS_OK = true) :
    Runs .ppsMissed s (fun t => t.dev.fget R.CLK_STAT_PPS_OK = 0 ∧ t.dev.clk.ppsSeen = false ∧ Counted s t R.CLK_PPS_LOSSES_COUNT ∧
      bitAt (t.reg (R.CLK_EVT.at 0)).toNat 9 = true ∧ Only (loopRegs ++ [R.CLK_PPS_LOSSES.at 0]) s t) := by
  refine ⟨_, exec_ppsMissed_gone hgone, ?_⟩
  rw [Dev.ppsMissing, if_pos hmany, if_pos hok]
  generalize he : (s.dev.ppsAnew.fputB R.CLK_STAT_PPS_OK 0 false).bumpEvt R.CLK_PPS_LOSSES_COUNT R.CLK_EVT_PPS_LOSS = e
  obtain ⟨hshown, -, hseen⟩ := Dev.coastCheck_shown (d := e)
  have hlost : Dev.Lost R.CLK_STAT_PPS_OK R.CLK_PPS_LOSSES_COUNT R.CLK_EVT_PPS_LOSS s.dev e.coastCheck :=
    (Dev.LoopShown.lost (d := s.dev.ppsAnew) (by rw [he]; exact hshown) (.inr rfl) (by decide) (by decide) (by decide)).of_regs (Dev.regs_updClk _)
  refine ⟨hlost.ok, ?_, hlost.counted, hlost.raised, hlost.within.only⟩
  show e.coastCheck.clk.ppsSeen = false
  rw [hseen, ← he]
  simp [Dev.bumpEvt, Dev.fputB, Dev.bump, Dev.bumpBy, Dev.ppsAnew]

/-! ### Clock outputs -/

@[simp] theorem Dev.clkOut_setClkOut (k : Nat) (v : ClkOutSt) : (d.setClkOut k v).clkOut k = v := by
  simp [Dev.clkOut, Dev.setClkOut, smGet_smSet]

theorem Dev.within_setClkOut {l : List Nat} (k : Nat) (v : ClkOutSt) : Dev.Within l d (d.setClkOut k v) := .of_regs rfl

/-- Output `k` with the applied divider and delay, from the present cycle (R458). -/
def Dev.outTaken (d : Dev) (k : Nat) : Dev :=
  d.setClkOut k { d.clkOut k with div := d.fget R.CLKOUT_DIV_DIV k, coarse := d.fget R.CLKOUT_CFG_COARSE k, fineClk := d.time.clk }

/-- The PLL that output `k` divides. -/
def Dev.outPll (d : Dev) (k : Nat) : Pll := if d.fbit R.CLKOUT_CFG_SRC k then .apl else .spl

/-- Output `k` runs, with the divider and the delay taken. -/
def Dev.outStarted (d : Dev) (k : Nat) : Dev := ((d.outTaken k).fput R.CLKOUT_STAT_STATE k 1).fputB R.CLKOUT_STAT_SEC_OK k ((d.outTaken k).secOk k)

/-- An enabled output whose PLL is locked starts at its first grid edge (R458). -/
def Dev.outTried (d : Dev) (k : Nat) : Dev :=
  if d.fbit R.CLKOUT_CFG_EN k && d.fget R.CLKOUT_STAT_STATE k == 0 && d.fget (pllField (d.outPll k)) == 2 &&
    decide ((d.outTaken k).firstEdge k ≤ (d.outTaken k).gridPos k d.time.clk) then d.outStarted k else d

theorem exec_clkoutStart (k : Fin 4) : exec (.clkoutStart k) s = .next { s with dev := s.dev.outTried k } := rfl

theorem Dev.clkOut_outStarted (k : Nat) : (d.outStarted k).clkOut k = (d.outTaken k).clkOut k := by
  simp [Dev.outStarted, Dev.clkOut, Dev.fputB]

theorem runs_clkoutStart_starts {k : Fin 4} (hen : s.dev.fbit R.CLKOUT_CFG_EN k = true) (hlow : s.dev.fget R.CLKOUT_STAT_STATE k = 0)
    (hlocked : s.dev.fget (pllField (s.dev.outPll k)) = 2) (hedge : (s.dev.outTaken k).firstEdge k ≤ (s.dev.outTaken k).gridPos k s.dev.time.clk) :
    Runs (.clkoutStart k) s (fun t => t.dev.fget R.CLKOUT_STAT_STATE k = 1 ∧ (t.dev.clkOut k).div = s.dev.fget R.CLKOUT_DIV_DIV k ∧
      (t.dev.clkOut k).coarse = s.dev.fget R.CLKOUT_CFG_COARSE k ∧ t.dev.fbit R.CLKOUT_STAT_SEC_OK k = (s.dev.outTaken k).secOk k ∧
      Only [R.CLKOUT_STAT.at k] s t) := by
  refine ⟨_, exec_clkoutStart k, ?_⟩
  rw [Dev.outTried, if_pos (by simp [hen, hlow, hlocked, hedge])]
  have hwithin : Dev.Within [R.CLKOUT_STAT.at k] s.dev (s.dev.outStarted k) :=
    .fput (.fput (Dev.within_setClkOut _ _) (by simp [Fld.at, R.CLKOUT_STAT, R.CLKOUT_STAT_STATE])) (by simp [Fld.at, R.CLKOUT_STAT, R.CLKOUT_STAT_SEC_OK])
  refine ⟨?_, ?_, ?_, ?_, hwithin.only⟩
  · show (s.dev.outStarted k).fget R.CLKOUT_STAT_STATE k = 1
    rw [Dev.outStarted, Dev.fputB, Dev.fget_fput_apart _ _ (by decide) (.inr (by decide)), Dev.fget_fput _ _ _ _ (by decide) (by decide) rfl]
    decide
  · show ((s.dev.outStarted k).clkOut k).div = _
    rw [Dev.clkOut_outStarted, Dev.outTaken, Dev.clkOut_setClkOut]
  · show ((s.dev.outStarted k).clkOut k).coarse = _
    rw [Dev.clkOut_outStarted, Dev.outTaken, Dev.clkOut_setClkOut]
  · show (s.dev.outStarted k).fbit R.CLKOUT_STAT_SEC_OK k = _
    rw [Dev.outStarted, Dev.fbit, Dev.fputB, Dev.fget_fput _ _ _ _ (by decide) (by decide) rfl]
    cases (s.dev.outTaken k).secOk k <;> decide

theorem exec_clkoutStart_waits {k : Fin 4}
    (h : s.dev.fget (pllField (s.dev.outPll k)) ≠ 2 ∨ (s.dev.outTaken k).gridPos k s.dev.time.clk < (s.dev.outTaken k).firstEdge k) :
    exec (.clkoutStart k) s = .next s := by
  rw [exec_clkoutStart, Dev.outTried, if_neg]
  simp only [Bool.and_eq_true, beq_iff_eq, decide_eq_true_eq, not_and]
  omega

/-- Fine steps that count anew begin from the phase in force (R460). -/
theorem Dev.fineNow_fineRestart (k target : Nat) :
    ((d.fineRestart k).fput R.CLKOUT_FINE_FINE k target).fineNow k = d.fineNow k := by
  have hout : ((d.fineRestart k).fput R.CLKOUT_FINE_FINE k target).clkOut k = { d.clkOut k with fineFrom := d.fineNow k, fineClk := d.time.clk } := by
    rw [← Dev.clkOut_setClkOut (d := d) k { d.clkOut k with fineFrom := d.fineNow k, fineClk := d.time.clk }]
    simp [Dev.clkOut, Dev.fineRestart]
  have hsince : ((d.fineRestart k).fput R.CLKOUT_FINE_FINE k target).since d.time.clk = 0 := by
    simp [Dev.since, Dev.fineRestart, Dev.setClkOut]
  have hzero : ((d.fineRestart k).fput R.CLKOUT_FINE_FINE k target).vcoPeriods k 0 = 0 := by simp [Dev.vcoPeriods]
  rw [Dev.fineNow, hout]
  simp only [hsince, hzero, Nat.zero_div, ite_self]
  split <;> omega

theorem runs_clkoutFineWrite (k : Fin 4) (fine : Fin 64) :
    Runs (.clkoutFineWrite k fine) s (fun t => t.dev.fget R.CLKOUT_FINE_FINE k = fine ∧ t.dev.fineNow k = s.dev.fineNow k ∧ Only [R.CLKOUT_FINE.at k] s t) := by
  refine ⟨{ s with dev := (s.dev.fineRestart k).fput R.CLKOUT_FINE_FINE k fine }, rfl, ?_, Dev.fineNow_fineRestart _ _,
    (Dev.Within.fput (Dev.within_setClkOut _ _) (by simp [Fld.at, R.CLKOUT_FINE, R.CLKOUT_FINE_FINE])).only⟩
  have hfine := fine.isLt
  show ((s.dev.fineRestart k).fput R.CLKOUT_FINE_FINE k fine).fget R.CLKOUT_FINE_FINE k = fine
  rw [Dev.fget_fput _ _ _ _ (by decide) (by decide) rfl]
  exact Nat.mod_eq_of_lt hfine

end
end Sys2Proof.Machine

/-!
SUPPORT. A register that the host reads (R451, R520, R522), and the references and clock outputs as a whole.
-/
namespace Sys2Proof.Machine

section
variable {d e g : Dev} {s : State}

/-! ### A register whose read has a side effect -/

/-- From `d` to `e` the bus alone has moved: beside an in-band request that was deferred no register changes, nor do the clocks. -/
structure Dev.BusMoved (d e : Dev) : Prop where
  within : Dev.Within [R.HIF_INB_DEFER.at 0] d e
  clk : e.clk = d.clk
  alive : d.bus.dead = false → e.bus.dead = false

theorem Dev.BusMoved.trans (h₁ : Dev.BusMoved d e) (h₂ : Dev.BusMoved e g) : Dev.BusMoved d g :=
  ⟨h₁.within.trans h₂.within, h₂.clk.trans h₁.clk, fun h => h₂.alive (h₁.alive h)⟩

theorem Dev.BusMoved.refl : Dev.BusMoved d d := ⟨.refl, rfl, id⟩

@[simp] theorem Dev.regs_updBus (f : BusSt → BusSt) : (d.updBus f).regs = d.regs := rfl

theorem Dev.updBus_moved {f : BusSt → BusSt} (hf : d.bus.dead = false → (f d.bus).dead = false) : Dev.BusMoved d (d.updBus f) := ⟨.of_regs rfl, rfl, hf⟩

theorem Dev.busFeed_moved (bs : List Nat) : Dev.BusMoved d (d.busFeed bs) := Dev.updBus_moved id

theorem Dev.inbDefer_moved : Dev.BusMoved d d.inbDefer := by
  unfold Dev.inbDefer
  split
  · exact .refl
  · exact ⟨.bump (.of_regs rfl) (by decide), by simp [Dev.bump, Dev.bumpBy, Dev.updBus], fun h => by simpa [Dev.bump, Dev.bumpBy, Dev.updBus] using h⟩

theorem Dev.busStart_moved (rd : Bool) : Dev.BusMoved d (d.busStart rd) :=
  (Dev.inbDefer_moved.trans (Dev.updBus_moved fun _ => rfl)).trans (Dev.busFeed_moved _)

theorem Dev.busAgain_moved (rd : Bool) : Dev.BusMoved d (d.busAgain rd) :=
  Dev.BusMoved.trans (Dev.updBus_moved id) (Dev.busFeed_moved _)

/-- The state of the bus once the two pointer bytes have passed. -/
def Dev.pointed (d : Dev) (p : Nat) : Dev :=
  (d.busFeed [p / 256 % 256, p % 256]).updBus (fun b => { b with pointer := p, phase := if d.pecOn then .ptrPec d.bus.pointer else .hi })

theorem Dev.busPointer_eq_pointed {p : Nat} (hp : p ≠ 0xF011) (hdead : d.bus.dead = false) : d.busPointer p = d.pointed p := by
  simp [Dev.busPointer, Dev.pointed, hp, hdead]

theorem Dev.pointed_moved (p : Nat) : Dev.BusMoved d (d.pointed p) := by
  rw [Dev.pointed]
  refine (Dev.busFeed_moved [p / 256 % 256, p % 256]).trans ?_
  generalize d.busFeed [p / 256 % 256, p % 256] = e
  exact Dev.updBus_moved id

/-- The pointer is taken, unless no byte is acknowledged any more (R520, R532). -/
theorem Dev.busPointer_moved {p : Nat} (hp : p ≠ 0xF011) (hdead : d.bus.dead = false) :
    Dev.BusMoved d (d.busPointer p) ∧ (d.busPointer p).bus.pointer = p := by
  rw [Dev.busPointer_eq_pointed hp hdead]
  exact ⟨Dev.pointed_moved p, rfl⟩

theorem Dev.busOpen_again_moved {p : Nat} (hp : p ≠ 0xF011) (hdead : d.bus.dead = false) :
    Dev.BusMoved d (d.busOpen true p) ∧ (d.busOpen true p).bus.pointer = p := by
  unfold Dev.busOpen
  split
  · have hagain := Dev.busAgain_moved (d := d) false
    obtain ⟨hmoved, hpointer⟩ := Dev.busPointer_moved hp (hagain.alive hdead)
    exact ⟨hagain.trans hmoved, hpointer⟩
  · rename_i hidle
    rw [if_neg (by simpa using hidle)]
    have hstart := Dev.busStart_moved (d := d) false
    obtain ⟨hmoved, hpointer⟩ := Dev.busPointer_moved hp (hstart.alive hdead)
    exact ⟨hstart.trans hmoved, hpointer⟩

theorem Dev.busTurn_moved : Dev.BusMoved d d.busTurn ∧ d.busTurn.bus.pointer = d.bus.pointer := by
  unfold Dev.busTurn
  split
  · exact ⟨(Dev.busAgain_moved true).trans (Dev.updBus_moved id), rfl⟩
  · refine ⟨(Dev.busStart_moved true).trans (Dev.updBus_moved id), ?_⟩
    show d.inbDefer.bus.pointer = _
    unfold Dev.inbDefer
    split <;> simp [Dev.bump, Dev.bumpBy, Dev.updBus]

theorem Dev.regs_busSend (bs : List Nat) : (d.busSend bs).regs = d.regs := by simp [Dev.busSend, Dev.busFeed]

theorem Dev.regs_busSendPec : d.busSendPec.regs = d.regs := by
  unfold Dev.busSendPec
  split
  · exact Dev.regs_busSend _
  · rfl

/-- A register that releases nothing is read whole: what its read captures stands (R522). -/
theorem Dev.regs_readOne (hafter : ∀ g : Dev, g.readAfter d.bus.pointer = g) : d.readOne.regs = (d.readBefore d.bus.pointer).regs := by
  simp only [Dev.readOne, hafter, Dev.regs_updBus, Dev.regs_busSendPec, Dev.regs_busSend]

/-- A host read of a register that releases nothing: the bus moves, and then the register's capture is taken. -/
theorem Dev.readRow_captures {p : Nat} (hp : p ≠ 0xF011) (hdead : d.bus.dead = false) (hafter : ∀ g : Dev, g.readAfter p = g) :
    ∃ e : Dev, Dev.BusMoved d e ∧ (d.readRow p).regs = (e.readBefore p).regs := by
  rw [Dev.readRow, if_neg (by simp [hdead])]
  simp only []
  have hopen : Dev.BusMoved d (if d.bus.active && d.bus.pointer == p then d else d.busOpen true p) ∧
      (if d.bus.active && d.bus.pointer == p then d else d.busOpen true p).bus.pointer = p := by
    split
    · rename_i hthere
      obtain ⟨-, hpointer⟩ := Bool.and_eq_true_iff.1 hthere
      exact ⟨.refl, beq_iff_eq.1 hpointer⟩
    · exact Dev.busOpen_again_moved hp hdead
  generalize (if d.bus.active && d.bus.pointer == p then d else d.busOpen true p) = o at hopen ⊢
  obtain ⟨hmoved, hpointer⟩ := hopen
  obtain ⟨hturn, hturned⟩ := Dev.busTurn_moved (d := o)
  split
  · exact ⟨o, hmoved, by rw [Dev.regs_readOne (by rw [hpointer]; exact hafter), hpointer]⟩
  · exact ⟨o.busTurn, hmoved.trans hturn, by rw [Dev.regs_readOne (by rw [hturned, hpointer]; exact hafter), hturned, hpointer]⟩

/-- The LO register that a read of `CLK_PHASE_HI`, or of `CLK_THETA_HI`, captures (R451). -/
def capturedFld (theta : Bool) : Fld := if theta then R.CLK_THETA_LO_NS else R.CLK_PHASE_LO_NS

/-- The phase of which it takes the low half. -/
def Dev.capturedPhase (d : Dev) (theta : Bool) : Int := if theta then d.clk.theta else d.clk.e

/-- The register whose read captures. -/
def capturingIdx (theta : Bool) : Nat := if theta then R.CLK_THETA_HI.base else R.CLK_PHASE_HI.base

theorem Dev.readBefore_capturing (theta : Bool) :
    e.readBefore (capturingIdx theta) = e.fput (capturedFld theta) 0 (unsgn 32 (e.capturedPhase theta) % 65536) := by
  cases theta <;> rfl

theorem Dev.readAfter_capturing (theta : Bool) : e.readAfter (capturingIdx theta) = e := by
  cases theta <;> rfl

theorem runs_clkPhaseCapture {theta : Bool} (hrest : s.dev.inReset = false ∧ s.dev.chainHeld = false ∧ s.dev.bus.dead = false) :
    Runs (.clkPhaseCapture theta) s (fun t => Wrote s t (capturedFld theta) 0 (unsgn 32 (s.dev.capturedPhase theta) % 65536) ∧
      Only [(capturedFld theta).at 0, R.HIF_INB_DEFER.at 0] s t) := by
  obtain ⟨hreset, hchain, hdead⟩ := hrest
  have hexec : exec (.clkPhaseCapture theta) s = .next { s with dev := s.dev.busEdge.readRow (capturingIdx theta) } := by
    show execClkPhaseCapture theta s = _
    rw [execClkPhaseCapture, nextDev, Dev.onBus, if_neg (by simp [hreset, hchain]), capturingIdx]
  have hedge : Dev.BusMoved s.dev s.dev.busEdge := Dev.updBus_moved id
  obtain ⟨e, hmoved, hregs⟩ := Dev.readRow_captures (p := capturingIdx theta) (by cases theta <;> decide) (hedge.alive hdead)
    (fun _ => Dev.readAfter_capturing theta)
  have hbus := hedge.trans hmoved
  have hphase : e.capturedPhase theta = s.dev.capturedPhase theta := by simp only [Dev.capturedPhase, hbus.clk]
  rw [Dev.readBefore_capturing, hphase] at hregs
  have happart : (capturedFld theta).at 0 ∉ [R.HIF_INB_DEFER.at 0] := by cases theta <;> decide
  refine ⟨_, hexec, ?_, ?_⟩
  · exact (Dev.reg_of_regs hregs).trans (hbus.within.reg_fput happart)
  · exact (((hbus.within.mono (by simp)).trans (Dev.within_fput (by simp))).beside hregs).only

end

/-- Settles O40: each command of the references and the clock outputs by its own case, in the order of the statement. A loss of a reference turns on
`Dev.Lost`: what the loop shows when it coasts leaves the flag, the count and the event of the loss as they are. -/
theorem referencesAndClockOutputs : Obligations.ReferencesAndClockOutputs := by
  unfold Obligations.ReferencesAndClockOutputs
  intro s raw rising sub k fine
  refine ⟨runs_refinWindow_good, runs_refinWindow_tenth, runs_refinWindow_bad, fun h => runs_self_of_exec (exec_refinWindow_early h),
    runs_refinEdgeLoss_ok, runs_refinEdgeLoss_not_ok, fun h => runs_self_of_exec (exec_refinEdgeLoss_early h),
    runs_ppsEdge_third, runs_ppsEdge_selected, runs_ppsEdge_invalid, fun h => runs_self_of_exec (exec_ppsEdge_inactive h),
    runs_ppsMissed_few, runs_ppsMissed_lost, fun h => runs_self_of_exec (exec_ppsMissed_not_gone h),
    runs_clkoutStart_starts, fun h => runs_self_of_exec (exec_clkoutStart_waits h), runs_clkoutFineWrite k fine,
    runs_clkPhaseCapture (theta := false), runs_clkPhaseCapture (theta := true)⟩

end Sys2Proof.Machine

/-!
SUPPORT. Counterexamples to three statements of the family: a port that loses its clock while its group waits (R416, R429, R430), a lock of the
IEC 60958 receiver while the leader has drifted (R429, R432), and a register byte for a command code (R526, R529).
-/
namespace Sys2Proof.Machine

/-- The block with field `f` of entry `n` in force at `v`: in the applied layer where the field is staged. -/
def Dev.inForce (d : Dev) (f : Fld) (n v : Nat) : Dev :=
  if f.staged then
    { d with regs := { d.regs with applied := smSet resetWord d.regs.applied (f.at n) (putBits (smGet resetWord d.regs.applied (f.at n)) f.hi f.lo v) } }
  else d.fput f n v

/-! ### A port that loses its clock while its group waits -/

/-- Port 1 runs as a slave at 48 kHz and leads, its loop locked. An epoch has just given the fabric the other family of rates, so that the ports
are stopping for the re-lock of the APL; port 0 waits for a frame start of the group. It is a second since port 1 has had an edge. -/
def leaderAtFamilyChange : State :=
  { dev := { ((((((({} : Dev).inForce R.P_CFG_RATE 1 2).inForce R.P_STAT_STATE 1 3).inForce R.CLK_APL_CFG_FAM 0 1).inForce R.PRT_LEAD_SRC 0 2).inForce
        R.PRT_LEAD_STAT_STATE 0 2).updPort 0 (fun p => { p with wait := true })) with
      prt := { leader := 2, held := true }, time := { clk := Config.sysPerSecond } } }

/-- Port 1 was the last of its group to run, so port 0 starts; the start checks the leader, which is none at the new fabric rate: its loop reads
OFF and not COAST. -/
theorem leaderAtFamilyChange_loss :
    Runs (.portClockLoss 1 true) leaderAtFamilyChange (fun t => t.dev.fget R.PRT_LEAD_STAT_STATE = 0) :=
  ⟨_, rfl, by decide +kernel⟩

/-- Refutes O30: the loop of a locked leader that loses its clock does not always coast. Where the loss lets a waiting port of the group start, that
start checks the leader anew (R429) and stops the loop of one that is not at the fabric rate: `leaderAtFamilyChange`. -/
theorem not_portStatesAndLeader : ¬ Obligations.PortStatesAndLeader := by
  intro h
  obtain ⟨hloss, -⟩ := h leaderAtFamilyChange 1 0 true 0 0
  obtain ⟨t, ht, -, -, -, -, -, hcoast, -⟩ := hloss (by decide +kernel) (by decide +kernel) (by decide +kernel)
  obtain ⟨hcoasts, -⟩ := hcoast (by decide +kernel) (by decide +kernel) (by decide +kernel)
  have hoff := (runs_iff_of_exec ht).1 leaderAtFamilyChange_loss
  omega

/-! ### A receiver that locks while the leader has drifted -/

/-- `SPD_RX` is enabled and has no lock. Port 0 runs as a slave at 48 kHz and leads; since it was named, the rate it measures has drifted to 49.0 kHz,
beyond the 500 ppm of R429. -/
def leaderDrifted : State :=
  { dev := (((((((({} : Dev).inForce R.PWR_DOM_STAT_STATE 0 0xAAA).inForce R.CLK_STAT_APL 0 2).inForce R.SPD_RX_CFG_EN 0 1).inForce R.P_CFG_RATE 0 2).inForce
      R.P_STAT_STATE 0 3).inForce R.PRT_LEAD_SRC 0 1).inForce R.P_STAT_LEADER 0 1).inForce R.P_FS_MEAS_VALUE 0 4900 }

/-- The lock checks the leader, and `P0_STAT` no longer shows port 0 as the leader. -/
theorem leaderDrifted_lock :
    Runs (.spdRxLock 4800) leaderDrifted (fun t => t.reg (R.P_STAT.at 0) ≠ leaderDrifted.reg (R.P_STAT.at 0)) :=
  ⟨_, rfl, by decide +kernel⟩

/-- Refutes O31: SPD_RX_LOCK changes more than the registers of the receiver and of the leader. It checks the leader (R429), which writes `LEADER` in the
`Pn_STAT` of a port: `leaderDrifted`. -/
theorem not_spdifReceiver : ¬ Obligations.SpdifReceiver := by
  intro h
  obtain ⟨hlock, -⟩ := h leaderDrifted 4800 [] [] false ({}, {}) [] 0
  obtain ⟨t, ht, -, -, -, -, honly⟩ := hlock (by decide +kernel) (by decide +kernel) (by decide +kernel)
  obtain ⟨-, -, -, -, -, -, hframe⟩ := honly
  exact (runs_iff_of_exec ht).1 leaderDrifted_lock (hframe (R.P_STAT.at 0) (by decide +kernel))

/-! ### A register byte for a command code -/

/-- A write pointed at a command code but 0xF010 takes no register byte (R526, R529). -/
theorem Dev.busByte_at_code {d : Dev} (flash : SMap Byte) (x : Nat) (hcode : isCode d.bus.pointer = true) (hkeys : d.bus.pointer ≠ 0xF010)
    (hphase : d.bus.phase = .hi) : Dev.busByte flash d x = d := by
  unfold Dev.busByte
  split
  · rfl
  · simp [hphase, hcode, hkeys]

/-- REGISTER_WRITE of a high byte alone, where the pointer is a command code but 0xF010: `HSCL` had an edge, and nothing else changes. -/
theorem runs_registerWrite_high_at_code {s : State} (hi : Byte) (hreset : s.dev.inReset = false) (hchain : s.dev.chainHeld = false)
    (hcode : isCode s.dev.bus.pointer = true) (hkeys : s.dev.bus.pointer ≠ 0xF010) (hphase : s.dev.bus.phase = .hi) :
    Runs (.registerWrite hi none none) s (fun t => t.dev = s.dev.busEdge) := by
  refine runs_nextDev (f := fun d => d.onBus (fun d => Dev.busBytes s.flash d [hi.toNat])) rfl ?_
  simp only [Dev.onBus, hreset, hchain, Bool.or_self, Bool.false_eq_true, if_false]
  exact Dev.busByte_at_code (d := s.dev.busEdge) s.flash hi.toNat hcode hkeys hphase

/-- A host write in progress, pointed at the unlisted command code 0xF055, with packet error checking off. -/
def pointedAtUnlisted : State := { dev := { boot := { phase := .released }, bus := { pointer := 0xF055, active := true } } }

/-- Refutes O55: the first byte of a write is not always held as the high byte of a register. The clause of the high byte alone leaves the pointer free,
and an unlisted command code ignores every data byte (R529): `pointedAtUnlisted`. -/
theorem not_hostTransactions : ¬ Obligations.HostTransactions := by
  intro h
  obtain ⟨-, -, -, -, -, -, -, -, -, -, hhigh, -⟩ := h pointedAtUnlisted false 0 0 0 0 0xF055 0 [] none [] ⟨0, 0, 0, []⟩
  obtain ⟨t, ht, -, hlo, -⟩ := hhigh (by decide +kernel) (by decide +kernel)
  have hedge := (runs_iff_of_exec ht).1 (runs_registerWrite_high_at_code 0 (s := pointedAtUnlisted) rfl rfl rfl (by decide) rfl)
  rw [hedge] at hlo
  exact absurd hlo (by decide)

end Sys2Proof.Machine

/-!
SUPPORT. Counterexamples to three statements of the family: the last cycle of a device-time second (R23, log entry 4), classes beyond those of the
programme table in the shedding order (R155, R157), and a staged value of a domain that goes OFF (R39).
-/
namespace Sys2Proof.Machine

/-! ### The last cycle of a second -/

/-- The block in operation in the last cycle of a device-time second, with nothing in the queue: the counts stand until DTIME_SECOND. -/
def lastCycleOfSecond : State := { dev := { boot := { phase := .released }, time := { cyc := Config.sysPerSecond - 1 } } }

theorem lastCycleOfSecond_stands : step lastCycleOfSecond = .next lastCycleOfSecond := rfl

/-- Refutes O59: a step on an empty queue does not always count a SYS cycle. In the last cycle of a second both counts stand until DTIME_SECOND:
`lastCycleOfSecond`. -/
theorem not_stepRunsTheCommand : ¬ Obligations.StepRunsTheCommand := by
  intro h
  obtain ⟨-, hidle, -⟩ := h .shedStep lastCycleOfSecond [] 0
  obtain ⟨t, ht, hclk, -⟩ := hidle rfl
  have hsame : lastCycleOfSecond = t := Host.Outcome.next.inj (lastCycleOfSecond_stands.symm.trans ht)
  rw [← hsame] at hclk
  omega

/-! ### Classes beyond those of the programme table -/

/-- Contexts 0 and 1 of the FM pool are managed, of the classes 300 and 400, and shed; the block has been cool for all of RESUME. -/
def shedBeyondClasses : State :=
  { dev := { (((({} : Dev).inForce (ctxFld 0 2 15 13 false) 0 4).inForce (ctxFld 0 2 15 13 false) 1 4).inForce R.TMP_MAX_TEMP 0 0).updCtx 0 0
        (fun c => { c with managed := true, prio := 300 }) |>.updCtx 0 1 (fun c => { c with managed := true, prio := 400 }) with
      shed := { coolClk := 1 }, time := { clk := msCycles 1000000 } } }

/-- The shed contexts that wait for their resumption. -/
theorem shedBeyondClasses_shed :
    ctxAll (fun pool n => shedBeyondClasses.dev.ctxState pool n == 4 && !(shedBeyondClasses.dev.ctxOf pool n).resume) = [(0, 0), (0, 1)] := by
  decide +kernel

/-- Context 1 comes last in the shedding order, and RESUME_STEP leaves it shed: the model counts down from 2^20, which both keys exceed. -/
theorem shedBeyondClasses_resumes : Runs .resumeStep shedBeyondClasses (fun t => (t.dev.ctxOf 0 1).resume = false) :=
  ⟨_, rfl, by decide +kernel⟩

/-- Refutes O7: RESUME_STEP does not always resume the shed context that comes last in the order. Of two managed contexts whose classes lie beyond
those of the programme table (R151) it resumes the one that comes first: `shedBeyondClasses`. -/
theorem not_thermalShedding : ¬ Obligations.ThermalShedding := by
  intro h
  obtain ⟨-, -, -, -, hresume⟩ := h shedBeyondClasses 0 0
  rw [shedBeyondClasses_shed] at hresume
  obtain ⟨t, ht, ⟨p, hp, hlast, hp_resumed⟩, -⟩ := hresume (by decide +kernel) (by decide)
  have hkept := (runs_iff_of_exec ht).1 shedBeyondClasses_resumes
  obtain rfl | rfl : p = (0, 0) ∨ p = (0, 1) := by simpa using hp
  · exact absurd (hlast (0, 1) (by simp)) (by decide +kernel)
  · simp [hkept] at hp_resumed

/-! ### A staged value of a domain that goes OFF -/

/-- The block in operation with PD5 OFF and PD2 at the end of its transition from ON to OFF; a staged value of `AFE0_PH_TIME` waits for a commit. -/
def stagedInDomainOff : State :=
  let d := (((({} : Dev).inForce R.PWR_DOM_PD2 0 0).inForce R.PWR_DOM_PD5 0 0).inForce R.PWR_DOM_STAT_STATE 0 0xA2B).updDom 2
    (fun m => { m with goal := some 0, old := 2 })
  { dev := { d with
      regs := { d.regs with staged := smSet resetWord d.regs.staged (R.AFE_PH_TIME.at 0) 1 }
      boot := { phase := .released }, time := { clk := Config.sysPerMs } } }

/-- The domain goes OFF, and the staged value is the committed one again (R39). -/
theorem stagedInDomainOff_done :
    Runs (.domainTransitionDone 2) stagedInDomainOff (fun t => t.dev.regs.staged ≠ stagedInDomainOff.dev.regs.staged) :=
  ⟨_, rfl, by decide +kernel⟩

/-- Refutes O47: the end of a transition of PD2 changes more than `PWR_DOM_STAT` and `PWR_EVT`. A domain that goes OFF loses its staged values that no
commit has captured (R39): `stagedInDomainOff`. -/
theorem not_domainTransitionsAndTemperature : ¬ Obligations.DomainTransitionsAndTemperature := by
  intro h
  obtain ⟨hdone, -⟩ := h stagedInDomainOff 2 0 0 0 0 []
  obtain ⟨t, ht, -, -, -, -, -, -, -, hstaged, -⟩ := hdone (by decide +kernel) (by decide +kernel) (by decide +kernel) (by decide)
    (by decide +kernel)
  exact (runs_iff_of_exec ht).1 stagedInDomainOff_done hstaged

end Sys2Proof.Machine

/-!
SUPPORT. The GPIO balls and the JTAG test access port (R596, R603 to R609).
-/
namespace Sys2Proof.Machine

theorem bitAt_eq_testBit (v k : Nat) : bitAt v k = v.testBit k := by
  rw [bitAt, Nat.testBit_eq_decide_div_mod_eq]
  rfl

/-- A bit of the low part of a number. -/
theorem bitAt_mod_two_pow {v k n : Nat} (hk : k < n) : bitAt (v % 2 ^ n) k = bitAt v k := by
  simp [bitAt_eq_testBit, Nat.testBit_mod_two_pow, hk]

theorem bitsOf_one (w : Word) (n : Nat) : bitsOf w n n = b2n (bitAt w.toNat n) := by
  simp only [bitsOf, bitAt, b2n, Nat.add_sub_cancel_left, pow_one, beq_iff_eq]
  split <;> omega

/-- Bit `n` of a number replaced by `b`; the other bits stay. -/
theorem bitAt_replace {w n m : Nat} (b : Bool) (hw : w < 2 ^ 16) (hn : n < 16) (hm : m < 16) :
    bitAt (w - b2n (bitAt w n) * 2 ^ n + b2n b * 2 ^ n) m = if m = n then b else bitAt w m := by
  have hword : (BitVec.ofNat 16 w).toNat = w := by rw [BitVec.toNat_ofNat, Nat.mod_eq_of_lt hw]
  have hput : (w - b2n (bitAt w n) * 2 ^ n + b2n b * 2 ^ n) % 2 ^ 16 = (putBits (BitVec.ofNat 16 w) n n (b2n b)).toNat := by
    rw [putBits, BitVec.toNat_ofNat, bitsOf_one, hword]
    cases b <;> simp [b2n]
  have hbit : (b2n b).testBit 0 = b := by cases b <;> rfl
  rw [← bitAt_mod_two_pow hm, hput, bitAt_eq_testBit, testBit_putBits _ le_rfl hn, hword]
  split
  · rename_i heq
    rw [if_pos (by omega), show m - n = 0 by omega, hbit]
  · rename_i hne
    rw [if_neg (by omega), bitAt_eq_testBit]

section
variable {s : State} {n m : Fin 12} {drive : Option Bool} {level : Bool} {tenths : Nat}

/-- The level at a ball, as the statement writes it: the drive from outside, else the block's, else the pull. -/
theorem Dev.gpioLevel_eq (d : Dev) (n : Nat) (drive : Option Bool) :
    d.gpioLevel n drive = (match drive, d.gpioDrives n with
      | some b, _ => some b
      | none, some b => some b
      | none, none => if d.fget R.GPIO_CFG_PULL n = 0 then none else some (decide (2 ≤ d.fget R.GPIO_CFG_PULL n))) := by
  unfold Dev.gpioLevel
  generalize d.fget R.GPIO_CFG_PULL n = pull
  cases drive <;> cases d.gpioDrives n <;> try rfl
  obtain _ | _ | pull := pull <;> simp

/-- GPIO_IN with the new level of ball `n`. -/
def Dev.gpioShown (d : Dev) (n : Nat) (level : Bool) : Dev :=
  let e := { d with freeIdx := d.freeIdx + 1 }
  e.fput R.GPIO_IN_IN 0 (d.fget R.GPIO_IN_IN - b2n (bitAt (d.fget R.GPIO_IN_IN) n) * 2 ^ n + b2n level * 2 ^ n)

/-- A new level seen: the edge that EDGE selects sets its event bit (R604). -/
def Dev.gpioSeen (d : Dev) (n : Nat) (level : Bool) : Dev :=
  if bitAt (d.fget R.GPIO_CFG_EDGE n) (if level then 0 else 1) = true then (d.gpioShown n level).setEvtBits 0x02D2 (2 ^ n) else d.gpioShown n level

theorem Dev.bitAt_gpioShown (d : Dev) (n m : Fin 12) (level : Bool) :
    bitAt ((d.gpioShown n level).fget R.GPIO_IN_IN) m = if m = n then level else bitAt (d.fget R.GPIO_IN_IN) m := by
  have hw : d.fget R.GPIO_IN_IN < 2 ^ 12 := bitsOf_lt _ _ _
  rw [Dev.gpioShown, Dev.fget_fput _ _ _ _ (by decide) (by decide) rfl]
  have h := bitAt_replace (w := d.fget R.GPIO_IN_IN) (n := n) (m := m) level (by omega) (by omega) (by omega)
  rw [show R.GPIO_IN_IN.hi + 1 - R.GPIO_IN_IN.lo = 12 from rfl, bitAt_mod_two_pow m.isLt, h]
  simp [Fin.ext_iff]

/-- A ball that floats, keeps its level or has a new one for too short a time. -/
theorem exec_gpioEdge_still
    (h : tenths < 203 ∨ s.dev.gpioLevel n drive = none ∨ s.dev.gpioLevel n drive = some (bitAt (s.dev.fget R.GPIO_IN_IN) n)) :
    exec (.gpioEdge n drive tenths) s = .next { s with dev := { s.dev with freeIdx := s.dev.freeIdx + 1 } } := by
  have hexec : exec (.gpioEdge n drive tenths) s = execGpioEdge n drive tenths s := rfl
  have hlevel : ({ s.dev with freeIdx := s.dev.freeIdx + 1 } : Dev).gpioLevel n drive = s.dev.gpioLevel n drive := rfl
  have hin : ({ s.dev with freeIdx := s.dev.freeIdx + 1 } : Dev).fget R.GPIO_IN_IN = s.dev.fget R.GPIO_IN_IN := rfl
  rw [hexec, execGpioEdge, nextDev]
  simp only [hlevel, hin]
  obtain hshort | hfloats | hstands := h
  · have h1 : ¬ 611 ≤ tenths := by omega
    have h2 : ¬ 203 ≤ tenths := by omega
    cases s.dev.gpioLevel n drive <;> simp [h1, h2]
  · simp [hfloats]
  · simp [hstands]

/-- A new level that has held for 61.1 ns (R604). -/
theorem exec_gpioEdge_new (hlong : 611 ≤ tenths) (hlevel : s.dev.gpioLevel n drive = some level)
    (hnew : bitAt (s.dev.fget R.GPIO_IN_IN) n ≠ level) :
    exec (.gpioEdge n drive tenths) s = .next { s with dev := s.dev.gpioSeen n level } := by
  have hexec : exec (.gpioEdge n drive tenths) s = execGpioEdge n drive tenths s := rfl
  have hlevel' : ({ s.dev with freeIdx := s.dev.freeIdx + 1 } : Dev).gpioLevel n drive = some level := hlevel
  have hedge : (s.dev.gpioShown n level).fget R.GPIO_CFG_EDGE n = s.dev.fget R.GPIO_CFG_EDGE n :=
    Dev.Within.fget (l := [R.GPIO_IN.at 0]) (.fput (.of_regs rfl) (by decide)) (.inl rfl)
  have hin : ({ s.dev with freeIdx := s.dev.freeIdx + 1 } : Dev).fget R.GPIO_IN_IN = s.dev.fget R.GPIO_IN_IN := rfl
  rw [hexec, execGpioEdge, nextDev, Dev.gpioSeen, ← hedge]
  simp only [hlevel', hlong, hin, decide_true, Bool.true_or, Bool.not_true, Bool.false_or]
  rw [if_neg (by simpa using hnew)]
  rfl

theorem Dev.within_gpioShown (d : Dev) (n : Nat) (level : Bool) : Dev.Within [R.GPIO_IN.at 0] d (d.gpioShown n level) :=
  .fput (.of_regs rfl) (by decide)

/-- GPIO_EVT with the bit of ball `n`: an event bit as any other. -/
theorem Dev.within_setEvtBits {d : Dev} {l : List Nat} {i b : Nat} (hi : i ∈ l) : Dev.Within l d (d.setEvtBits i b) :=
  ⟨by simp, by simp, by simp, fun j hj => by simp [Dev.reg, show j ≠ i from fun h => hj (h ▸ hi)]⟩

theorem Dev.fget_setEvtBits_other {d : Dev} {f : Fld} {k i b : Nat} (hi : f.staged = true ∨ f.at k ≠ i) :
    (d.setEvtBits i b).fget f k = d.fget f k :=
  Dev.Within.fget (l := [i]) (Dev.within_setEvtBits (by simp)) (by simpa using hi)

/-- GPIO_OUT drives a push-pull ball in the output function (R607). -/
theorem Dev.gpioDrives_out {d : Dev} (n : Fin 12) (v : Nat)
    (hout : d.fget R.GPIO_CFG_FUNC n = 1 ∧ d.fbit R.GPIO_CFG_OD n = false ∧ d.chainHeld = false ∧ d.boot.phase = .released) :
    (d.fput R.GPIO_OUT_OUT 0 v).gpioDrives n = some (bitAt v n != d.fbit R.GPIO_CFG_INV n) := by
  obtain ⟨hfunc, hod, hchain, hphase⟩ := hout
  have hw : Dev.Within [R.GPIO_OUT.at 0] d (d.fput R.GPIO_OUT_OUT 0 v) := Dev.within_fput (by decide)
  have hlevel : (d.fput R.GPIO_OUT_OUT 0 v).fget R.GPIO_OUT_OUT = v % 2 ^ 12 := Dev.fget_fput _ _ _ _ (by decide) (by decide) rfl
  have hfunc' : (d.fput R.GPIO_OUT_OUT 0 v).fget R.GPIO_CFG_FUNC n = 1 := (hw.fget (.inl rfl)).trans hfunc
  have hod' : (d.fput R.GPIO_OUT_OUT 0 v).fbit R.GPIO_CFG_OD n = false := (hw.fbit (.inl rfl)).trans hod
  have hinv : (d.fput R.GPIO_OUT_OUT 0 v).fbit R.GPIO_CFG_INV n = d.fbit R.GPIO_CFG_INV n := hw.fbit (.inl rfl)
  have hchain' : (d.fput R.GPIO_OUT_OUT 0 v).chainHeld = false := hchain
  have hphase' : (d.fput R.GPIO_OUT_OUT 0 v).boot.phase = .released := hphase
  have hbit : bitAt ((d.fput R.GPIO_OUT_OUT 0 v).fget R.GPIO_OUT_OUT) n = bitAt v n := by rw [hlevel, bitAt_mod_two_pow n.isLt]
  rw [Dev.gpioDrives]
  simp only [hfunc', hod', hinv, hchain', hphase', hbit]
  simp

theorem putBits_mod (w : Word) (hi lo v : Nat) : putBits w hi lo (v % 2 ^ (hi + 1 - lo)) = putBits w hi lo v := by simp [putBits]

theorem runs_gpioOutWrite (v : BitVec 16) :
    Runs (.gpioOutWrite v) s (fun t => Wrote s t R.GPIO_OUT_OUT 0 (v.toNat % 4096) ∧ t.dev.pin = s.dev.pin ∧ Only [R.GPIO_OUT.at 0] s t ∧
      (s.dev.fget R.GPIO_CFG_FUNC n = 1 ∧ s.dev.fbit R.GPIO_CFG_OD n = false ∧ s.dev.chainHeld = false ∧ s.dev.boot.phase = .released →
        t.dev.gpioDrives n = some (bitAt v.toNat n != s.dev.fbit R.GPIO_CFG_INV n))) := by
  refine runs_nextDev (f := fun d => d.fput R.GPIO_OUT_OUT 0 v.toNat) rfl
    ⟨?_, rfl, (Dev.within_fput (by decide)).only, fun h => Dev.gpioDrives_out n _ h⟩
  have h := wrote_fput (s := s) (f := R.GPIO_OUT_OUT) (n := 0) (v := v.toNat)
  rw [Wrote] at h ⊢
  exact h.trans (putBits_mod _ 11 0 _).symm

/-- An instruction that takes the balls from the functional logic (R609). -/
theorem Dev.gpioDrives_held {d : Dev} (n : Nat) (h : d.chainHeld = true) : d.gpioDrives n = none := by
  simp [Dev.gpioDrives, h]

/-- What a seen level shows: its own bit of GPIO_IN alone. -/
theorem Dev.bitAt_gpioSeen (d : Dev) (n m : Fin 12) (level : Bool) :
    bitAt ((d.gpioSeen n level).fget R.GPIO_IN_IN) m = if m = n then level else bitAt (d.fget R.GPIO_IN_IN) m := by
  unfold Dev.gpioSeen
  generalize bitAt (d.fget R.GPIO_CFG_EDGE n) (if level then 0 else 1) = edge
  cases edge
  · exact Dev.bitAt_gpioShown d n m level
  · rw [if_pos rfl, Dev.fget_setEvtBits_other (.inr (by decide)), Dev.bitAt_gpioShown]

theorem shows_gpioSeen :
    bitAt ((s.dev.gpioSeen n level).fget R.GPIO_IN_IN) n = level ∧
      (m ≠ n → bitAt ((s.dev.gpioSeen n level).fget R.GPIO_IN_IN) m = bitAt (s.dev.fget R.GPIO_IN_IN) m) :=
  ⟨by rw [Dev.bitAt_gpioSeen, if_pos rfl], fun h => by rw [Dev.bitAt_gpioSeen, if_neg h]⟩

theorem runs_gpioEdge_selected (hlong : 611 ≤ tenths) (hlevel : s.dev.gpioLevel n drive = some level)
    (hnew : bitAt (s.dev.fget R.GPIO_IN_IN) n ≠ level) (hedge : bitAt (s.dev.fget R.GPIO_CFG_EDGE n) (if level then 0 else 1) = true) :
    Runs (.gpioEdge n drive tenths) s (fun t =>
      (bitAt (t.dev.fget R.GPIO_IN_IN) n = level ∧ (m ≠ n → bitAt (t.dev.fget R.GPIO_IN_IN) m = bitAt (s.dev.fget R.GPIO_IN_IN) m)) ∧
      t.reg (R.GPIO_EVT.at 0) = s.reg (R.GPIO_EVT.at 0) ||| BitVec.ofNat 16 (2 ^ (n : Nat)) ∧ Only [R.GPIO_IN.at 0, R.GPIO_EVT.at 0] s t) := by
  refine ⟨_, exec_gpioEdge_new hlong hlevel hnew, shows_gpioSeen, ?_⟩
  rw [Dev.gpioSeen, if_pos hedge]
  have hshown := Dev.within_gpioShown s.dev n level
  have hevt : (s.dev.gpioShown n level).reg (R.GPIO_EVT.at 0) = s.dev.reg (R.GPIO_EVT.at 0) := hshown.reg _ (by decide)
  refine ⟨?_, ((hshown.mono (by simp)).trans (Dev.within_setEvtBits (by decide))).only⟩
  rw [State.reg_eq, State.reg_eq, ← hevt]
  simp [Dev.reg, Fld.at, R.GPIO_EVT]

theorem runs_gpioEdge_not_selected (hlong : 611 ≤ tenths) (hlevel : s.dev.gpioLevel n drive = some level)
    (hnew : bitAt (s.dev.fget R.GPIO_IN_IN) n ≠ level) (hedge : bitAt (s.dev.fget R.GPIO_CFG_EDGE n) (if level then 0 else 1) = false) :
    Runs (.gpioEdge n drive tenths) s (fun t =>
      (bitAt (t.dev.fget R.GPIO_IN_IN) n = level ∧ (m ≠ n → bitAt (t.dev.fget R.GPIO_IN_IN) m = bitAt (s.dev.fget R.GPIO_IN_IN) m)) ∧
      Only [R.GPIO_IN.at 0] s t) := by
  refine ⟨_, exec_gpioEdge_new hlong hlevel hnew, shows_gpioSeen, ?_⟩
  rw [Dev.gpioSeen, if_neg (by simp [hedge])]
  exact (Dev.within_gpioShown s.dev n level).only

theorem runs_gpioEdge_still
    (h : tenths < 203 ∨ s.dev.gpioLevel n drive = none ∨ s.dev.gpioLevel n drive = some (bitAt (s.dev.fget R.GPIO_IN_IN) n)) :
    Runs (.gpioEdge n drive tenths) s (fun t => t.dev = { s.dev with freeIdx := s.dev.freeIdx + 1 } ∧ Only [] s t) :=
  ⟨_, exec_gpioEdge_still h, rfl, (Dev.Within.of_regs rfl).only⟩

theorem runs_ppsOutEnd (h : msCycles 100 ≤ s.dev.time.cyc) :
    Runs .ppsOutEnd s (fun t => t.dev.pin = { s.dev.pin with pps := false } ∧ Only [] s t) := by
  refine runs_nextDev (f := fun d => if d.time.cyc < msCycles 100 then d else { d with pin := { d.pin with pps := false } }) rfl ?_
  rw [if_neg (by omega)]
  exact ⟨rfl, (Dev.Within.of_regs rfl).only⟩

theorem exec_ppsOutEnd_early (h : s.dev.time.cyc < msCycles 100) : exec .ppsOutEnd s = .next s := by
  show execPpsOutEnd s = _
  simp [execPpsOutEnd, nextDev, h]

theorem runs_jtagReset {trst : Bool} {tms : Nat} (h : trst = true ∨ 5 ≤ tms) :
    Runs (.jtagReset trst tms) s (fun t => t.dev.pin = { s.dev.pin with ir := 1, shift := (List.range 32).map (bitAt idCode) } ∧
      t.dev.chainHeld = false ∧ Only [] s t) := by
  refine runs_nextDev (f := fun d => if trst || 5 ≤ tms then { d with pin := { d.pin with ir := 1, shift := d.drCapture 1 } } else d) rfl ?_
  rw [if_pos (by simpa using h)]
  exact ⟨rfl, rfl, (Dev.Within.of_regs rfl).only⟩

theorem exec_jtagReset_few {trst : Bool} {tms : Nat} (htrst : trst = false) (htms : tms < 5) : exec (.jtagReset trst tms) s = .next s := by
  show execJtagReset trst tms s = _
  simp [execJtagReset, nextDev, htrst, Nat.not_le.2 htms]

theorem runs_jtagInstruction (code : Byte) :
    Runs (.jtagInstruction code) s (fun t => t.dev.pin = { s.dev.pin with
        ir := code.toNat
        shift := if code = 0 ∨ code = 2 then s.dev.pin.boundary else if code = 1 then (List.range 32).map (bitAt idCode) else [false] } ∧
      Only [] s t ∧ (code = 0 ∨ code = 7 ∨ code = 8 → t.dev.gpioDrives n = none)) := by
  refine runs_nextDev (f := fun d => { d with pin := { d.pin with ir := code.toNat, shift := d.drCapture code.toNat } }) rfl
    ⟨?_, (Dev.Within.of_regs rfl).only, fun h => Dev.gpioDrives_held _ ?_⟩
  · have hcode (k : Byte) : code = k ↔ code.toNat = k.toNat := BitVec.toNat_inj.symm
    simp [Dev.drCapture, hcode]
  · obtain rfl | rfl | rfl := h <;> rfl

theorem runs_boundaryRegisterUpdate {cells : List Bool} (hir : s.dev.pin.ir = 0 ∨ s.dev.pin.ir = 2) (hlen : cells.length = 198) :
    Runs (.boundaryRegisterUpdate cells) s (fun t => t.dev.pin = { s.dev.pin with boundary := cells } ∧ Only [] s t) := by
  refine ⟨{ s with dev := { s.dev with pin := { s.dev.pin with boundary := cells } } }, ?_, rfl, (Dev.Within.of_regs rfl).only⟩
  show execBoundaryRegisterUpdate cells s = _
  simp [execBoundaryRegisterUpdate, nextDev, hir, ← hlen]

theorem exec_boundaryRegisterUpdate_other {cells : List Bool} (hir : ¬ (s.dev.pin.ir = 0 ∨ s.dev.pin.ir = 2)) :
    exec (.boundaryRegisterUpdate cells) s = .next s := by
  show execBoundaryRegisterUpdate cells s = _
  simp [execBoundaryRegisterUpdate, nextDev, hir]

end

/-- Settles O48: each command of the pins by its own case. A GPIO edge turns on `Dev.gpioLevel`, the level at the ball, and on the replaced bit of
`GPIO_IN` (`bitAt_replace`). -/
theorem pinsAndTestPort : Obligations.PinsAndTestPort := by
  unfold Obligations.PinsAndTestPort
  intro s n m drive level trst tenths tms v code cells
  have hlevel := Dev.gpioLevel_eq s.dev n drive
  refine ⟨fun hlong hat => runs_gpioEdge_selected hlong (hlevel.trans hat), fun hlong hat => runs_gpioEdge_not_selected hlong (hlevel.trans hat),
    fun h => runs_gpioEdge_still (by rw [hlevel]; exact h), runs_gpioOutWrite v, runs_ppsOutEnd, fun h => runs_self_of_exec (exec_ppsOutEnd_early h),
    runs_jtagReset, fun h h' => runs_self_of_exec (exec_jtagReset_few h h'), runs_jtagInstruction code, runs_boundaryRegisterUpdate,
    fun h => runs_self_of_exec (exec_boundaryRegisterUpdate_other h)⟩

end Sys2Proof.Machine

/-!
SUPPORT. A counterexample to the statement of the block boundaries: a blanking window that has ended within the block that begins (R49, R142).
-/
namespace Sys2Proof.Machine

/-- A block boundary is 10 cycles old and PD4 is not ON; a coexistence blanking window ended 5 cycles after the boundary, within the block that begins. -/
def blankedAfterBoundary : State :=
  { dev := { ({} : Dev).inForce R.CLK_STAT_SPL 0 2 with
      boot := { phase := .released }, time := { clk := 110 }, grid := { due := 100 }, cx := { spans := [(50, 105)] } } }

theorem blankedAfterBoundary_begins :
    Runs (.contextBlockBoundary [] [] [] []) blankedAfterBoundary (fun t => t.dev.blockBlank = true ∧ blankedAfterBoundary.dev.blanking = false) :=
  ⟨_, rfl, by decide +kernel⟩

/-- Refutes O49: the mark of a block that has met blanking is not the blanking as it stands at CONTEXT_BLOCK_BOUNDARY. A window that ended after the
boundary lies in the block that begins all the same, and marks it: `blankedAfterBoundary`. -/
theorem not_boundariesAndSeconds : ¬ Obligations.BoundariesAndSeconds := by
  intro h
  obtain ⟨-, -, -, -, hdark, -⟩ := h blankedAfterBoundary [] [] [] [] 0 0 0 0 0 0
  obtain ⟨t, ht, ⟨hblank, -⟩, -⟩ := hdark (by decide +kernel) (by decide +kernel) (by decide +kernel) (by decide +kernel)
  obtain ⟨hmarked, hended⟩ := (runs_iff_of_exec ht).1 blankedAfterBoundary_begins
  rw [hmarked, hended] at hblank
  exact absurd hblank (by decide)

end Sys2Proof.Machine

/-!
SUPPORT. Changes of what the block shows: registers of a frame, packets for the Ferson port and lifetime counts, and nothing else. Event bits and fields
through them.
-/
namespace Sys2Proof.Machine

section
variable {d e g : Dev} {f h : Fld} {n m v i : Nat} {l l' : List Nat} {α : Type}

/-! ### Fields of one bit, and events -/

/-- A field of one bit is that bit of its register. -/
theorem Dev.fbit_imm (hs : f.staged = false) (hone : f.hi = f.lo) : d.fbit f n = bitAt (d.reg (f.at n)).toNat f.lo := by
  rw [Dev.fbit, Dev.fget_imm hs, hone, bitsOf_one]
  cases bitAt (d.reg (f.at n)).toNat f.lo <;> rfl

/-- A raised event reads 1. -/
theorem Dev.fbit_event (d : Dev) {f : Fld} (n : Nat) (hs : f.staged = false) (hone : f.hi = f.lo) (hlt : f.lo < 16) :
    (d.event f n).fbit f n = true := by
  rw [Dev.fbit_imm hs hone, Dev.reg_event, if_pos rfl]
  exact bitAt_or_pow hlt

/-- An event that reads 1 goes on to do so as others are raised. -/
theorem Dev.fbit_event_mono (hs : f.staged = false) (hone : f.hi = f.lo) (h1 : d.fbit f n = true) : (d.event h m).fbit f n = true := by
  rw [Dev.fbit_imm hs hone] at h1 ⊢
  rw [Dev.reg_event]
  split
  · rename_i hat
    rw [← hat]
    exact bitAt_or h1
  · exact h1

/-- A written field of one bit. -/
theorem Dev.fbit_fputB (d : Dev) {f : Fld} (n : Nat) (b : Bool) (hs : f.staged = false) (hone : f.hi = f.lo) (hlt : f.hi < 16) :
    (d.fputB f n b).fbit f n = b := by
  rw [Dev.fbit, Dev.fputB, Dev.fget_fput _ _ _ _ (by omega) hlt hs, hone]
  cases b <;> simp [b2n]

/-- A frame from a state with the same registers. -/
theorem Dev.Within.of_same_regs (hw : Dev.Within l g e) (hr : g.regs = d.regs) : Dev.Within l d e := (Dev.Within.of_regs hr).trans hw

/-- A counter outside the frame that counts next. -/
theorem Dev.Within.reg_bump (hw : Dev.Within l d e) (hf : f.at n ∉ l) :
    (e.bump f n).reg (f.at n) = putBits (d.reg (f.at n)) f.hi f.lo (min (d.fget f n + 1) (2 ^ (f.hi + 1 - f.lo) - 1)) := by
  rw [Dev.bump, Dev.bumpBy, hw.fget (.inr hf), hw.reg_fput hf]

/-! ### Changes of what the block shows -/

/-- From `d` to `e` registers of `l` change, what the Ferson port has to send, lifetime counts and the place in the free values; nothing else. -/
structure Dev.Shows (l : List Nat) (d e : Dev) : Prop where
  within : Dev.Within l d e
  same : e = { d with regs := e.regs, fsp := e.fsp, life := e.life, freeIdx := e.freeIdx }

theorem Dev.Shows.refl : Dev.Shows l d d := ⟨.refl, rfl⟩

/-- What does not look at those parts keeps its value. -/
theorem Dev.Shows.keeps (hs : Dev.Shows l d e) (p : Dev → α)
    (hp : ∀ (d : Dev) r fs li k, p { d with regs := r, fsp := fs, life := li, freeIdx := k } = p d) : p e = p d := by
  rw [hs.same, hp]

theorem Dev.Shows.trans (h₁ : Dev.Shows l d e) (h₂ : Dev.Shows l e g) : Dev.Shows l d g :=
  ⟨h₁.within.trans h₂.within, by rw [h₂.same, h₁.same]⟩

theorem Dev.Shows.mono (hs : Dev.Shows l d e) (hl : ∀ i ∈ l, i ∈ l') : Dev.Shows l' d e := ⟨hs.within.mono hl, hs.same⟩

theorem Dev.Shows.fput (hs : Dev.Shows l d e) (hf : f.at n ∈ l) : Dev.Shows l d (e.fput f n v) :=
  hs.trans ⟨Dev.within_fput hf, rfl⟩

theorem Dev.Shows.setEvtBits (hs : Dev.Shows l d e) (hi : i ∈ l) : Dev.Shows l d (e.setEvtBits i v) :=
  hs.trans ⟨Dev.within_setEvtBits hi, by rw [Dev.setEvtBits_eq]; rfl⟩

theorem Dev.Shows.event (hs : Dev.Shows l d e) (hf : f.at n ∈ l) : Dev.Shows l d (e.event f n) := hs.setEvtBits hf

theorem Dev.Shows.bump (hs : Dev.Shows l d e) (hf : f.at n ∈ l) : Dev.Shows l d (e.bump f n) := hs.fput hf

theorem Dev.Shows.bumpEvt (hs : Dev.Shows l d e) (hf : f.at n ∈ l) (hh : h.at n ∈ l) : Dev.Shows l d (e.bumpEvt f h n) := (hs.bump hf).event hh

theorem Dev.Shows.formPacket (hs : Dev.Shows l d e) (p : PktReq) : Dev.Shows l d (e.formPacket p) :=
  hs.trans ⟨.of_regs (by simp), by rw [Dev.formPacket_eq]⟩

theorem Dev.Shows.lifeBy (hs : Dev.Shows l d e) (a b k : Nat) : Dev.Shows l d (e.lifeBy a b k) := hs.trans ⟨.of_regs rfl, rfl⟩

theorem Dev.Shows.only {s : State} (hs : Dev.Shows l s.dev e) : Only l s { s with dev := e } := hs.within.only

end

end Sys2Proof.Machine

/-!
SUPPORT. Monitor: memory errors, watchdogs, stalls and recoveries, and the records they form (R30, R31, R91, R569 to R575, R583, R585, R590).
-/
namespace Sys2Proof.Machine

section
variable {d e : Dev} {l : List Nat} {s : State}

/-! ### What a recovery may cost, through changes of other registers -/

/-- A field of a register at 0x1000 or above lies outside a frame of lower ones. -/
theorem Fld.at_not_mem {f : Fld} {n : Nat} (hl : ∀ i ∈ l, i < 0x1000) (hf : 0x1000 ≤ f.base) : f.at n ∉ l := by
  intro hmem
  have := hl _ hmem
  unfold Fld.at at this
  omega

theorem Dev.Shows.slotOf (hs : Dev.Shows l d e) (p i : Nat) : e.slotOf p i = d.slotOf p i := by
  simp [Dev.slotOf, hs.within.fget (f := R.PGT_SRC_KIND) (.inl rfl), hs.within.fget (f := R.PGT_SRC_ARG) (.inl rfl)]

theorem Dev.Shows.srcRef (hs : Dev.Shows l d e) (p i : Nat) : e.srcRef p i = d.srcRef p i := by
  have hcand : e.candOf p i = d.candOf p i := hs.keeps (·.candOf p i) (fun _ _ _ _ _ => rfl)
  simp [Dev.srcRef, hs.slotOf, hcand, hs.within.fget (f := R.PGT_SID_ID) (.inl rfl)]

theorem Dev.Shows.srcDsc (hs : Dev.Shows l d e) (hl : ∀ i ∈ l, i < 0x1000) (b sid : Nat) : e.srcDsc b sid = d.srcDsc b sid := by
  have hsub : e.audioSub b sid = d.audioSub b sid := hs.keeps (·.audioSub b sid) (fun _ _ _ _ _ => rfl)
  have hstate (n : Nat) : e.dscState n = d.dscState n := hs.within.fget (.inr (Fld.at_not_mem hl (by decide)))
  have hman (n : Nat) : e.ctxManaged 4 n = d.ctxManaged 4 n := hs.keeps (·.ctxManaged 4 n) (fun _ _ _ _ _ => rfl)
  have hctx (n : Nat) : e.ctxOf 4 n = d.ctxOf 4 n := hs.keeps (·.ctxOf 4 n) (fun _ _ _ _ _ => rfl)
  have htarget (n : Nat) : e.dscTarget n = d.dscTarget n := by
    simp [Dev.dscTarget, hman, hctx, hs.within.fget (f := R.DSC_SEL_DBE) (.inl rfl), hs.within.fget (f := R.DSC_SEL_SUBCH) (.inl rfl)]
  have haudio (n : Nat) : e.fbit R.DSC_CTL_AUDIO n = d.fbit R.DSC_CTL_AUDIO n := hs.within.fbit (.inl rfl)
  have hserving (sc : Nat) : e.dscServing b sc = d.dscServing b sc := by simp [Dev.dscServing, hstate, hman, htarget, haudio]
  simp [Dev.srcDsc, hsub, hserving]

/-- The programmes that a recovery may cost are the same after a change of registers below 0x1000. -/
theorem Dev.Shows.lossWatch (hs : Dev.Shows l d e) (hl : ∀ i ∈ l, i < 0x1000) (domain item index : Nat) :
    e.lossWatch domain item index = d.lossWatch domain item index := by
  have hlive : e.prgLive = d.prgLive := hs.keeps (·.prgLive) (fun _ _ _ _ _ => rfl)
  have hprg (p : Nat) : e.prgOf p = d.prgOf p := hs.keeps (·.prgOf p) (fun _ _ _ _ _ => rfl)
  have href (p : Nat) : e.srcRef p = d.srcRef p := funext (hs.srcRef p)
  have hloss : e.lossOf domain item index = d.lossOf domain item index := by
    funext ref
    simp only [Dev.lossOf, hs.srcDsc hl]
  simp [Dev.lossWatch, hlive, hprg, href, hloss]

/-! ### Records -/

/-- Records formed wait for the flash. -/
def Dev.logs (d : Dev) : Prop := d.fbit R.MON_CFG_LOG_EN = true ∧ d.fbit R.MON_STAT_LOG_STOP = false

/-- The record joins the queue of the flash, with the next sequence number. -/
def Dev.recordQueued (d : Dev) (type : Nat) (body : List Nat) (flush : Bool) : Dev :=
  { d with
    mon := { d.mon with
      seq := (d.mon.seq + 1) % 2 ^ 32, queue := d.mon.queue ++ [⟨type, (d.mon.seq + 1) % 2 ^ 32, d.time.stamp, body, flush⟩] }
    anole := d.anole ++ [false] }

/-- Forming a record shows its sequence number, and the record goes to the Ferson port. -/
theorem Dev.formRecord_shows (hlogs : d.logs) (type : Nat) (body : List Nat) (flush : Bool) :
    Dev.Shows [R.MON_SEQ_HI.at 0] (d.recordQueued type body flush) (d.formRecord type body flush) := by
  obtain ⟨hen, hstop⟩ := hlogs
  have hseq : Dev.Shows [R.MON_SEQ_HI.at 0] (d.recordQueued type body flush)
      ((d.recordQueued type body flush).fput R.MON_SEQ_HI_SEQ 0 ((d.mon.seq + 1) % 2 ^ 32 / 65536)) := .fput .refl (by decide)
  simp only [Dev.formRecord, hen, hstop, Bool.not_false, Bool.and_self, if_true]
  split
  · exact hseq.formPacket _
  · exact hseq

theorem Dev.formRecord_mon (hlogs : d.logs) (type : Nat) (body : List Nat) (flush : Bool) :
    (d.formRecord type body flush).mon = (d.recordQueued type body flush).mon :=
  (Dev.formRecord_shows hlogs type body flush).keeps (·.mon) (fun _ _ _ _ _ => rfl)

theorem Dev.formRecord_anole (hlogs : d.logs) (type : Nat) (body : List Nat) (flush : Bool) :
    (d.formRecord type body flush).anole = d.anole ++ [false] :=
  (Dev.formRecord_shows hlogs type body flush).keeps (·.anole) (fun _ _ _ _ _ => rfl)

theorem Dev.within_formRecord (hlogs : d.logs) (type : Nat) (body : List Nat) (flush : Bool) :
    Dev.Within [R.MON_SEQ_HI.at 0] d (d.formRecord type body flush) :=
  .of_same_regs (Dev.formRecord_shows hlogs type body flush).within rfl

theorem Dev.Within.logs (hw : Dev.Within l d e) (hl : R.MON_STAT.at 0 ∉ l) (hlogs : d.logs) : e.logs :=
  ⟨(hw.fbit (.inl rfl)).trans hlogs.1, (hw.fbit (f := R.MON_STAT_LOG_STOP) (.inr hl)).trans hlogs.2⟩

/-! ### The scrub -/

/-- The word of the pass at which the scrub stands after its clean words. -/
def Dev.scrubWord (d : Dev) (clean : Nat) : Nat := min ((if passWords ≤ d.mon.scrub then 0 else d.mon.scrub) + clean) (passWords - 1)

/-- The scrub has read up to and with word `w` of its pass, which begins now where the pass before has ended. -/
def Dev.scrubbed (d : Dev) (w : Nat) : Dev :=
  { d with mon := { d.mon with scrub := w + 1, scrubClk := if passWords ≤ d.mon.scrub then d.time.clk else d.mon.scrubClk } }

/-- What the word read does: nothing, a corrected error, or an uncorrectable one. -/
def Dev.scrubFound (d : Dev) (ecc : Fin 3) (written : Bool) (w item index : Nat) : Dev :=
  if written then d else if (ecc : Nat) = 1 then d.eccCorrected (scrubAt w regionWords).1
  else if (ecc : Nat) = 2 then d.uncorrectable (scrubAt w regionWords).1 (scrubAt w regionWords).2 item index else d

/-- The last word of a pass completes it (R30). -/
def Dev.passEnded (d : Dev) (w : Nat) : Dev := if w + 1 = passWords then d.fput R.MON_SCRUB_COUNT 0 ((d.fget R.MON_SCRUB_COUNT + 1) % 65536) else d

variable {clean item index : Nat} {ecc : Fin 3} {written : Bool}

theorem exec_scrubRead_ready (hup : s.dev.inReset = false)
    (hdue : s.dev.mon.scrub < passWords ∨ s.dev.mon.scrubClk + 10 * Config.sysPerSecond ≤ s.dev.time.clk) :
    exec (.scrubRead clean ecc written item index) s = .next { s with dev :=
      ((s.dev.scrubbed (s.dev.scrubWord clean)).scrubFound ecc written (s.dev.scrubWord clean) item index).passEnded (s.dev.scrubWord clean) } := by
  show execScrubRead clean ecc written item index s = _
  unfold execScrubRead nextDev Dev.passEnded Dev.scrubFound Dev.scrubbed Dev.scrubWord
  by_cases hended : passWords ≤ s.dev.mon.scrub
  · have hreached : s.dev.reached (s.dev.mon.scrubClk + 10 * Config.sysPerSecond) = true := by simp [Dev.reached]; omega
    simp only [hup, hended, hreached, decide_true, Bool.not_true, Bool.and_false, Bool.or_self, if_true, Bool.false_eq_true, if_false]
  · simp only [hup, hended, decide_false, Bool.false_and, Bool.or_self, Bool.false_eq_true, if_false]

theorem exec_scrubRead_not_ready
    (h : ¬ (s.dev.inReset = false ∧ (s.dev.mon.scrub < passWords ∨ s.dev.mon.scrubClk + 10 * Config.sysPerSecond ≤ s.dev.time.clk))) :
    exec (.scrubRead clean ecc written item index) s = .next s := by
  show execScrubRead clean ecc written item index s = _
  have hstands : (s.dev.inReset || (decide (passWords ≤ s.dev.mon.scrub) && !s.dev.reached (s.dev.mon.scrubClk + 10 * Config.sysPerSecond))) = true := by
    cases hup : s.dev.inReset
    · obtain ⟨hended, hearly⟩ := not_or.1 (fun hdue => h ⟨hup, hdue⟩)
      simpa [Dev.reached] using ⟨by omega, by omega⟩
    · rfl
  unfold execScrubRead nextDev
  simp only [hstands, if_true]

theorem Dev.passEnded_within {w : Nat} (hw : w + 1 < passWords) : d.passEnded w = d := by
  rw [Dev.passEnded, if_neg (by omega)]

theorem Dev.scrubbed_shows (w : Nat) : Dev.Within l d (d.scrubbed w) := .of_regs rfl

theorem runs_scrubRead_corrected {w : Nat} (hw : s.dev.scrubWord clean = w) (hup : s.dev.inReset = false)
    (hdue : s.dev.mon.scrub < passWords ∨ s.dev.mon.scrubClk + 10 * Config.sysPerSecond ≤ s.dev.time.clk) (hwithin : w + 1 < passWords)
    (hecc : ecc = 1) :
    Runs (.scrubRead clean ecc false item index) s (fun t => Counted s t R.MON_ECC_CORR_COUNT (scrubAt w regionWords).1 ∧
      (t.dev.mon.scrub = w + 1 ∧ t.dev.mon.scrubClk = if passWords ≤ s.dev.mon.scrub then s.dev.time.clk else s.dev.mon.scrubClk) ∧
      Only [R.MON_ECC_CORR.at (scrubAt w regionWords).1] s t) := by
  refine ⟨_, exec_scrubRead_ready hup hdue, ?_⟩
  rw [hw, Dev.passEnded_within hwithin, hecc]
  refine ⟨counted_bump _ _ _, ⟨rfl, rfl⟩, ?_⟩
  exact ((Dev.scrubbed_shows w).bump (f := R.MON_ECC_CORR_COUNT) (by simp [R.MON_ECC_CORR, R.MON_ECC_CORR_COUNT, Fld.at])).only

theorem runs_scrubRead_last {w : Nat} (hw : s.dev.scrubWord clean = w) (hup : s.dev.inReset = false)
    (hdue : s.dev.mon.scrub < passWords ∨ s.dev.mon.scrubClk + 10 * Config.sysPerSecond ≤ s.dev.time.clk) (hlast : w + 1 = passWords)
    (hclean : written = true ∨ ecc = 0) :
    Runs (.scrubRead clean ecc written item index) s (fun t =>
      (t.dev.mon.scrub = w + 1 ∧ t.dev.mon.scrubClk = if passWords ≤ s.dev.mon.scrub then s.dev.time.clk else s.dev.mon.scrubClk) ∧
      Wrote s t R.MON_SCRUB_COUNT 0 ((s.dev.fget R.MON_SCRUB_COUNT + 1) % 65536) ∧ Only [R.MON_SCRUB.at 0] s t) := by
  refine ⟨_, exec_scrubRead_ready hup hdue, ?_⟩
  have hfound : (s.dev.scrubbed w).scrubFound ecc written w item index = s.dev.scrubbed w := by
    obtain h | h := hclean <;> simp [Dev.scrubFound, h]
  rw [hw, hfound, Dev.passEnded, if_pos hlast]
  exact ⟨⟨rfl, rfl⟩, wrote_fput _ _ _ _, ((Dev.scrubbed_shows w).fput (by decide)).only⟩

theorem runs_scrubRead_written {w : Nat} (hw : s.dev.scrubWord clean = w) (hup : s.dev.inReset = false)
    (hdue : s.dev.mon.scrub < passWords ∨ s.dev.mon.scrubClk + 10 * Config.sysPerSecond ≤ s.dev.time.clk) (hwithin : w + 1 < passWords) :
    Runs (.scrubRead clean ecc true item index) s (fun t =>
      (t.dev.mon.scrub = w + 1 ∧ t.dev.mon.scrubClk = if passWords ≤ s.dev.mon.scrub then s.dev.time.clk else s.dev.mon.scrubClk) ∧ Only [] s t) := by
  refine ⟨_, exec_scrubRead_ready hup hdue, ?_⟩
  rw [hw, Dev.passEnded_within hwithin, Dev.scrubFound, if_pos rfl]
  exact ⟨⟨rfl, rfl⟩, (Dev.scrubbed_shows w).only⟩

/-- The cycle of an ERROR record of the region is noted (R570). -/
def Dev.errorNoted (d : Dev) (region : Nat) : Dev :=
  { d with mon := { d.mon with errAt := smSet (fun _ => 0) d.mon.errAt region (d.time.clk + 1) } }

theorem Dev.eccUncorrectable_shows (r : Nat) : Dev.Shows [R.MON_ECC_UNC.at r, R.MON_EVT.at 0] d (d.eccUncorrectable r) :=
  .lifeBy (.event (.bump .refl (by simp [Fld.at, R.MON_ECC_UNC, R.MON_ECC_UNC_COUNT])) (by simp [Fld.at, R.MON_EVT, R.MON_EVT_UNCORR])) _ _ _

/-- An uncorrectable error of the region with erasures, the first within a second: counted, flagged, and an ERROR record. -/
theorem Dev.uncorrectable_two (hfirst : smGet (fun _ => 0) d.mon.errAt 2 = 0) (word item index : Nat) :
    d.uncorrectable 2 word item index = ((d.eccUncorrectable 2).errorNoted 2).formRecord 4 ([2, 3] ++ beWord 1 ++ be32 word) false := by
  have hmon : (d.eccUncorrectable 2).mon = d.mon := (Dev.eccUncorrectable_shows 2).keeps (·.mon) (fun _ _ _ _ _ => rfl)
  simp [Dev.uncorrectable, Dev.errorRecord, Dev.errorNoted, hmon, hfirst]

theorem Dev.scrubFound_uncorrectable {w : Nat} (hregion : (scrubAt w regionWords).1 = 2) (hfirst : smGet (fun _ => 0) d.mon.errAt 2 = 0) :
    d.scrubFound 2 false w item index =
      ((d.eccUncorrectable 2).errorNoted 2).formRecord 4 ([2, 3] ++ beWord 1 ++ be32 (scrubAt w regionWords).2) false := by
  rw [← Dev.uncorrectable_two hfirst (scrubAt w regionWords).2 item index]
  simp [Dev.scrubFound, hregion]

theorem runs_scrubRead_uncorrectable {w : Nat} (hw : s.dev.scrubWord clean = w) (hup : s.dev.inReset = false)
    (hdue : s.dev.mon.scrub < passWords ∨ s.dev.mon.scrubClk + 10 * Config.sysPerSecond ≤ s.dev.time.clk) (hwithin : w + 1 < passWords)
    (hecc : ecc = 2) (hregion : (scrubAt w regionWords).1 = 2) (hlogs : s.dev.logs) (hfirst : smGet (fun _ => 0) s.dev.mon.errAt 2 = 0) :
    Runs (.scrubRead clean ecc false item index) s (fun t => Counted s t R.MON_ECC_UNC_COUNT 2 ∧
      (t.dev.mon.scrub = w + 1 ∧ t.dev.mon.scrubClk = if passWords ≤ s.dev.mon.scrub then s.dev.time.clk else s.dev.mon.scrubClk) ∧
      t.dev.fbit R.MON_EVT_UNCORR = true ∧
      (t.dev.mon.queue = s.dev.mon.queue ++ [⟨4, (s.dev.mon.seq + 1) % 2 ^ 32, s.dev.time.stamp,
          [2, 3] ++ beWord 1 ++ be32 (scrubAt w regionWords).2, false⟩] ∧
        t.dev.mon.seq = (s.dev.mon.seq + 1) % 2 ^ 32 ∧ t.dev.anole = s.dev.anole ++ [false]) ∧
      Only [R.MON_ECC_UNC.at 2, R.MON_EVT.at 0, R.MON_SEQ_HI.at 0] s t) := by
  refine ⟨_, exec_scrubRead_ready hup hdue, ?_⟩
  rw [hw, Dev.passEnded_within hwithin, hecc, Dev.scrubFound_uncorrectable (d := s.dev.scrubbed w) hregion hfirst]
  have hcounted := Dev.eccUncorrectable_shows (d := s.dev.scrubbed w) 2
  have hreg : ((s.dev.scrubbed w).eccUncorrectable 2).reg (R.MON_ECC_UNC.at 2) = _ :=
    (Dev.reg_event (d := (s.dev.scrubbed w).bump R.MON_ECC_UNC_COUNT 2) (f := R.MON_EVT_UNCORR) (n := 0)).trans
      ((if_neg (by decide)).trans (counted_bump s R.MON_ECC_UNC_COUNT 2))
  have hevt : ((s.dev.scrubbed w).eccUncorrectable 2).fbit R.MON_EVT_UNCORR = true :=
    Dev.fbit_event ((s.dev.scrubbed w).bump R.MON_ECC_UNC_COUNT 2) 0 rfl rfl (by decide)
  have hmon : ((s.dev.scrubbed w).eccUncorrectable 2).mon = (s.dev.scrubbed w).mon := hcounted.keeps (·.mon) (fun _ _ _ _ _ => rfl)
  have htime : ((s.dev.scrubbed w).eccUncorrectable 2).time = s.dev.time := hcounted.keeps (·.time) (fun _ _ _ _ _ => rfl)
  have hanole : ((s.dev.scrubbed w).eccUncorrectable 2).anole = s.dev.anole := hcounted.keeps (·.anole) (fun _ _ _ _ _ => rfl)
  generalize (s.dev.scrubbed w).eccUncorrectable 2 = u at hcounted hreg hevt hmon htime hanole ⊢
  have hlogs' : (u.errorNoted 2).logs := (hcounted.within.beside rfl).logs (d := s.dev.scrubbed w) (by decide) hlogs
  have hseq := Dev.within_formRecord hlogs' 4 ([2, 3] ++ beWord 1 ++ be32 (scrubAt w regionWords).2) false
  have hrecord := Dev.formRecord_mon hlogs' 4 ([2, 3] ++ beWord 1 ++ be32 (scrubAt w regionWords).2) false
  refine ⟨(hseq.reg _ (by decide)).trans hreg, ?_, (hseq.fbit (.inr (by decide))).trans hevt, ?_, ?_⟩
  · rw [hrecord]
    simp only [Dev.recordQueued, Dev.errorNoted, hmon]
    exact ⟨rfl, rfl⟩
  · rw [hrecord, Dev.formRecord_anole hlogs']
    simp only [Dev.recordQueued, Dev.errorNoted, hmon, htime, hanole]
    exact ⟨rfl, rfl, trivial⟩
  · refine Dev.Within.only (((Dev.scrubbed_shows w).trans (hcounted.within.mono ?_)).trans (.of_same_regs (hseq.mono ?_) rfl)) <;> simp

/-! ### Parity errors -/

/-- The applied value at `k` has turned into `v`, and stands as bad till its block's boundary (R571). -/
def Dev.turned (d : Dev) (k : Nat) (v : Word) : Dev :=
  { d with
    regs := { d.regs with applied := smSet resetWord d.regs.applied k v }
    epoch := { d.epoch with bad := if d.epoch.bad.contains k then d.epoch.bad else d.epoch.bad ++ [k] } }

theorem exec_registerParityError_applied {i v : BitVec 16} (hup : s.dev.inReset = false) (hstaged : isStaged i.toNat = true) :
    exec (.registerParityError i v false) s =
      .next { s with dev := ((s.dev.turned i.toNat v).bump R.MON_PARITY_COUNT).lifeBy 0x56 2 1 } := by
  show execRegisterParityError i v false s = _
  simp [execRegisterParityError, nextDev, hup, hstaged, Dev.turned]

theorem runs_registerParityError_applied {i j v : BitVec 16} (hup : s.dev.inReset = false) (hstaged : isStaged i.toNat = true) :
    Runs (.registerParityError i v false) s (fun t => Counted s t R.MON_PARITY_COUNT 0 ∧
      (t.pending = s.pending ∧ t.flash = s.flash ∧ t.lily = s.lily ∧ t.dev.regs.committed = s.dev.regs.committed) ∧
      smGet resetWord t.dev.regs.applied i.toNat = v ∧ i.toNat ∈ t.dev.epoch.bad ∧ t.dev.regs.staged = s.dev.regs.staged ∧
      (j ≠ i → smGet resetWord t.dev.regs.applied j.toNat = smGet resetWord s.dev.regs.applied j.toNat) ∧
      (j.toNat ≠ R.MON_PARITY.at 0 → t.reg j.toNat = s.reg j.toNat)) := by
  refine ⟨_, exec_registerParityError_applied hup hstaged, counted_bump s R.MON_PARITY_COUNT 0, ⟨rfl, rfl, rfl, rfl⟩, ?_, ?_, rfl, ?_, ?_⟩
  · show smGet resetWord (smSet resetWord s.dev.regs.applied i.toNat v) i.toNat = v
    rw [smGet_smSet, if_pos rfl]
  · show i.toNat ∈ if s.dev.epoch.bad.contains i.toNat then s.dev.epoch.bad else s.dev.epoch.bad ++ [i.toNat]
    split
    · rename_i hbad
      simpa using hbad
    · simp
  · intro hj
    show smGet resetWord (smSet resetWord s.dev.regs.applied i.toNat v) j.toNat = _
    rw [smGet_smSet, if_neg (fun h => hj (BitVec.eq_of_toNat_eq h))]
  · intro hj
    obtain ⟨-, -, -, -, -, -, hframe⟩ := only_bump s R.MON_PARITY_COUNT 0
    exact hframe _ (fun h => hj (List.mem_singleton.1 h))

theorem exec_registerParityError_staged {i v : BitVec 16} (hup : s.dev.inReset = false) (hstaged : isStaged i.toNat = true) :
    exec (.registerParityError i v true) s =
      .next { s with dev := (s.dev.setStaged i.toNat (smGet resetWord s.dev.regs.applied i.toNat)).event R.MON_EVT_STAGE_LOST } := by
  show execRegisterParityError i v true s = _
  simp [execRegisterParityError, nextDev, hup, hstaged]

theorem runs_registerParityError_staged {i j v : BitVec 16} (hup : s.dev.inReset = false) (hstaged : isStaged i.toNat = true) :
    Runs (.registerParityError i v true) s (fun t =>
      smGet resetWord t.dev.regs.staged i.toNat = smGet resetWord s.dev.regs.applied i.toNat ∧
      (j ≠ i → smGet resetWord t.dev.regs.staged j.toNat = smGet resetWord s.dev.regs.staged j.toNat) ∧ t.dev.fbit R.MON_EVT_STAGE_LOST = true ∧
      (t.pending = s.pending ∧ t.flash = s.flash ∧ t.lily = s.lily ∧ t.dev.regs.committed = s.dev.regs.committed) ∧
      t.dev.regs.applied = s.dev.regs.applied ∧ (j.toNat ≠ R.MON_EVT.at 0 → t.reg j.toNat = s.reg j.toNat)) := by
  have hevt := Dev.within_event (d := s.dev.setStaged i.toNat (smGet resetWord s.dev.regs.applied i.toNat)) (f := R.MON_EVT_STAGE_LOST) (n := 0)
    (l := [R.MON_EVT.at 0]) (by decide)
  refine ⟨_, exec_registerParityError_staged hup hstaged, ?_, ?_, Dev.fbit_event _ _ rfl rfl (by decide),
    ⟨rfl, rfl, rfl, hevt.committed⟩, hevt.applied, fun hj => hevt.reg _ (by simpa using hj)⟩
  · simp [hevt.staged]
  · intro hj
    simp [hevt.staged, show j.toNat ≠ i.toNat from fun h => hj (BitVec.eq_of_toNat_eq h)]

theorem exec_registerParityError_immediate {i v : BitVec 16} (hstaged : isStaged i.toNat = false) : exec (.registerParityError i v true) s = .next s := by
  show execRegisterParityError i v true s = _
  simp [execRegisterParityError, nextDev, hstaged]

/-! ### Restarts that are called for -/

/-- The recovery that begins in `d` for a fault. -/
def Dev.recovery (d : Dev) (domain cause item index : Nat) (acted : Bool) : RecovSt :=
  { domain := domain, cause := cause, item := item, index := index, detect := d.time.stamp, clk := d.time.clk
    acted := acted, done := false, duration := 0, epoch := 0, watch := d.lossWatch domain item index }

/-- With no recovery in progress, the restart that is noted begins the only one. -/
theorem Dev.recovBegin_first (hnone : d.mon.recov = []) (domain cause item index domain' item' index' : Nat) :
    (d.noteRestart domain' item' index').recovBegin domain cause item index =
      { d with mon := { d.mon with
          last := smSet (fun _ => 0) d.mon.last (recovKey domain' item' index') (d.time.clk + 1)
          recov := [d.recovery domain cause item index (decide (domain ≤ 5))] } } := by
  simp [Dev.recovBegin, Dev.noteRestart, Dev.recovery, hnone]
  rfl

/-- A recovery is the same seen from a state that shows other registers below 0x1000. -/
theorem Dev.Shows.recovery (hs : Dev.Shows l d e) (hl : ∀ i ∈ l, i < 0x1000) (domain cause item index : Nat) (acted : Bool) :
    e.recovery domain cause item index acted = d.recovery domain cause item index acted := by
  have htime : e.time = d.time := hs.keeps (·.time) (fun _ _ _ _ _ => rfl)
  simp [Dev.recovery, htime, hs.lossWatch hl]

/-- Change the state of Monitor. -/
def Dev.setMon (d : Dev) (m : MonSt) : Dev := { d with mon := m }

/-- What Monitor remembers once the first restart is called for: when, and the recovery that begins. -/
def Dev.monAfter (d : Dev) (domain cause item index : Nat) (acted : Bool) (warm : Option Nat) : MonSt :=
  { d.mon with
    last := smSet (fun _ => 0) d.mon.last (recovKey domain item index) (d.time.clk + 1)
    recov := [d.recovery domain cause item index acted], warm := warm }

/-- A full warm restart that is called for, the first in 600 s (R573). -/
theorem Dev.faultWarm_first (hnone : d.mon.recov = []) (hlast : d.restarted 7 0 0 600 = false) (cause : Nat) :
    d.faultWarm cause = d.setMon (d.monAfter 7 cause 0 0 false (some cause)) := by
  simp only [Dev.faultWarm, hnone, hlast, List.any_nil, Bool.false_eq_true, if_false, Dev.recovBegin_first hnone]
  rfl

/-- The reload of an engine that is called for, the first within the window (R572). -/
theorem Dev.faultEngine_first (hnone : d.mon.recov = []) {e : Nat} (hlast : d.restarted 6 1 e (d.fget R.MON_CFG_WIN) = false) (cause : Nat) :
    d.faultEngine e cause = d.setMon (d.monAfter 6 cause 1 e false d.mon.warm) := by
  simp only [Dev.faultEngine, hnone, hlast, List.any_nil, Bool.false_eq_true, if_false, Dev.recovBegin_first hnone]
  rfl

theorem Dev.Shows.restarted (hs : Dev.Shows l d e) (domain item index sec : Nat) : e.restarted domain item index sec = d.restarted domain item index sec :=
  hs.keeps (·.restarted domain item index sec) (fun _ _ _ _ _ => rfl)

/-- A watchdog that is not serviced is counted (R572). -/
def Dev.watchdogCounted (d : Dev) (e : Nat) : Dev := (d.bump R.MON_WDG_COUNT e).lifeBy (0x58 + 2 * e) 2 1

theorem Dev.watchdogCounted_shows (e : Nat) : Dev.Shows [R.MON_WDG.at e] d (d.watchdogCounted e) :=
  .lifeBy (.bump .refl (by simp [Fld.at, R.MON_WDG, R.MON_WDG_COUNT])) _ _ _

/-- A watchdog trip of engine `e`: its reload, or for Anole a full warm restart. -/
def Dev.watchdogActed (d : Dev) (e : Nat) : Dev :=
  if e = 0 then (d.watchdogCounted e).faultWarm 2 else (d.watchdogCounted e).faultEngine e 2

theorem exec_watchdogTrip_runs {e : Fin 12} (hruns : s.dev.engineRuns e = true) :
    exec (.watchdogTrip e) s = .next { s with dev := s.dev.watchdogActed e } := by
  show execWatchdogTrip e s = _
  simp only [execWatchdogTrip, nextDev, hruns, Bool.not_true, Bool.false_eq_true, if_false]
  rfl

theorem runs_watchdogTrip_engine {e : Fin 12} (he : e ≠ 0) (hruns : s.dev.engineRuns e = true) (hnone : s.dev.mon.recov = [])
    (hlast : s.dev.restarted 6 1 e (s.dev.fget R.MON_CFG_WIN) = false) :
    Runs (.watchdogTrip e) s (fun t => Counted s t R.MON_WDG_COUNT e ∧ t.dev.mon.recov = [s.dev.recovery 6 2 1 e false] ∧ Only [R.MON_WDG.at e] s t) := by
  have hcounted := Dev.watchdogCounted_shows (d := s.dev) e
  have hwin : (s.dev.watchdogCounted e).fget R.MON_CFG_WIN = s.dev.fget R.MON_CFG_WIN := hcounted.within.fget (.inl rfl)
  have hfault := Dev.faultEngine_first (d := s.dev.watchdogCounted e) hnone (by rw [hwin, hcounted.restarted]; exact hlast) 2
  refine ⟨_, exec_watchdogTrip_runs hruns, ?_⟩
  rw [Dev.watchdogActed, if_neg (show (e : Nat) ≠ 0 from fun h => he (Fin.ext h)), hfault]
  refine ⟨counted_bump s R.MON_WDG_COUNT e, ?_, (hcounted.within.beside rfl).only⟩
  exact congrArg (fun r => [r]) (hcounted.recovery (by simp [Fld.at, R.MON_WDG]; omega) 6 2 1 e false)

theorem runs_watchdogTrip_anole (hruns : s.dev.engineRuns 0 = true) (hnone : s.dev.mon.recov = []) (hlast : s.dev.restarted 7 0 0 600 = false) :
    Runs (.watchdogTrip 0) s (fun t => Counted s t R.MON_WDG_COUNT 0 ∧ t.dev.mon.recov = [s.dev.recovery 7 2 0 0 false] ∧ t.dev.mon.warm = some 2 ∧
      Only [R.MON_WDG.at 0] s t) := by
  have hcounted := Dev.watchdogCounted_shows (d := s.dev) 0
  have hfault := Dev.faultWarm_first (d := s.dev.watchdogCounted 0) hnone (by rw [hcounted.restarted]; exact hlast) 2
  refine ⟨{ s with dev := s.dev.watchdogActed 0 }, exec_watchdogTrip_runs (e := 0) hruns, ?_⟩
  rw [Dev.watchdogActed, if_pos rfl, hfault]
  refine ⟨counted_bump s R.MON_WDG_COUNT 0, ?_, rfl, (hcounted.within.beside rfl).only⟩
  exact congrArg (fun r => [r]) (hcounted.recovery (by simp [Fld.at, R.MON_WDG]) 7 2 0 0 false)

theorem exec_watchdogTrip_stopped {e : Fin 12} (hstopped : s.dev.engineRuns e = false) : exec (.watchdogTrip e) s = .next s := by
  show execWatchdogTrip e s = _
  simp [execWatchdogTrip, nextDev, hstopped]

/-! ### Stalls -/

/-- A context of the FM pool in RUN that has made no progress for more than 3 ms (R574). -/
def Dev.stalledFm (d : Dev) (k : Nat) : Prop :=
  d.itemUp 2 k = true ∧ d.ctxState (itemPool 2) k = 3 ∧ msCycles 3 < d.time.clk + 1 - smGet (fun _ => 0) d.mon.prog (4096 + 2 * 256 + k)

theorem Dev.mayStall_fm (k : Nat) : d.mayStall 0 2 k = true ↔ d.stalledFm k := by
  simp [Dev.mayStall, Dev.stalledFm, Dev.stuck, and_assoc]

theorem exec_stallDetected_fm {k : Fin 256} (hup : s.dev.inReset = false) (hstalled : s.dev.stalledFm k) :
    exec (.stallDetected 0 2 k) s = .next { s with dev := s.dev.faultDomain 0 4 2 k } := by
  show execStallDetected 0 2 k s = _
  have hmay : s.dev.mayStall ((0 : Fin 8) : Nat) ((2 : Fin 8) : Nat) k = true := (Dev.mayStall_fm _).2 hstalled
  simp only [execStallDetected, nextDev, hup, hmay, Bool.not_true, Bool.or_self, Bool.false_eq_true, if_false]
  rfl

theorem exec_stallDetected_fm_not {k : Fin 256} (hstalled : ¬ s.dev.stalledFm k) : exec (.stallDetected 0 2 k) s = .next s := by
  show execStallDetected 0 2 k s = _
  have hmay : s.dev.mayStall ((0 : Fin 8) : Nat) ((2 : Fin 8) : Nat) k = false := by
    rw [← Bool.not_eq_true]
    exact fun h => hstalled ((Dev.mayStall_fm _).1 h)
  simp only [execStallDetected, nextDev, hmay, Bool.not_false, Bool.or_true, if_true]

/-- The restart of an FM context that is called for, the first within the window: the epoch in flight is taken, and the context restarts (R574, R91). -/
theorem Dev.faultDomain_fm_first (hnone : d.mon.recov = []) {k : Nat} (hlast : d.restarted 0 2 k (d.fget R.MON_CFG_WIN) = false) :
    d.faultDomain 0 4 2 k = ((d.setMon (d.monAfter 0 4 2 k true d.mon.warm)).epochInto 0 2 k).itemRestart 2 k := by
  simp only [Dev.faultDomain, hnone, hlast, List.any_nil, Bool.false_eq_true, if_false, if_true, Dev.recovBegin_first hnone]
  rfl

theorem Dev.epochInto_none (hnone : d.epoch.waiting = []) (c item index : Nat) : d.epochInto c item index = d := by
  simp [Dev.epochInto, hnone, Dev.each]

theorem runs_stallDetected_first {k : Fin 256} (hup : s.dev.inReset = false) (hstalled : s.dev.stalledFm k) (hnone : s.dev.mon.recov = [])
    (hlast : s.dev.restarted 0 2 k (s.dev.fget R.MON_CFG_WIN) = false) (hwaiting : s.dev.epoch.waiting = []) :
    Runs (.stallDetected 0 2 k) s (fun t => t.dev.mon.recov = [s.dev.recovery 0 4 2 k true] ∧ t.dev.mon.warm = s.dev.mon.warm ∧
      (t.dev.ctxOf 0 k).restart = true ∧ Only [] s t) := by
  refine ⟨_, exec_stallDetected_fm hup hstalled, ?_⟩
  have hitem : (s.dev.setMon (s.dev.monAfter 0 4 2 k true s.dev.mon.warm)).itemRestart 2 k =
      (s.dev.setMon (s.dev.monAfter 0 4 2 k true s.dev.mon.warm)).updCtx 0 k (fun c => { c with restart := true }) := by
    have hup' : (s.dev.setMon (s.dev.monAfter 0 4 2 k true s.dev.mon.warm)).itemUp 2 k = true := hstalled.1
    simp only [Dev.itemRestart, hup', Bool.not_true, Bool.false_eq_true, if_false, show (2 : Nat) ≠ 7 by decide, show (2 : Nat) ≠ 6 by decide,
      show (2 : Nat) ≠ 4 by decide, itemPool]
  rw [Dev.faultDomain_fm_first hnone hlast, Dev.epochInto_none (d := s.dev.setMon (s.dev.monAfter 0 4 2 k true s.dev.mon.warm)) hwaiting, hitem]
  refine ⟨rfl, rfl, ?_, (Dev.Within.of_regs rfl).only⟩
  simp [Dev.ctxOf, Dev.updCtx]

theorem runs_stallDetected_again {k : Fin 256} (hup : s.dev.inReset = false) (hstalled : s.dev.stalledFm k) (hnone : s.dev.mon.recov = [])
    (hlast : s.dev.restarted 0 2 k (s.dev.fget R.MON_CFG_WIN) = true) (hwarm : s.dev.restarted 7 0 0 600 = false) :
    Runs (.stallDetected 0 2 k) s (fun t => t.dev.mon.recov = [s.dev.recovery 7 3 0 0 false] ∧ t.dev.mon.warm = some 3 ∧
      t.dev.fbit R.MON_EVT_ESCALATE = true ∧ Only [R.MON_EVT.at 0] s t) := by
  have hevt : Dev.Shows [R.MON_EVT.at 0] s.dev (s.dev.event R.MON_EVT_ESCALATE) := .event .refl (by decide)
  have hfault : s.dev.faultDomain 0 4 2 k = (s.dev.event R.MON_EVT_ESCALATE).faultWarm 3 := by
    simp only [Dev.faultDomain, hnone, hlast, List.any_nil, Bool.false_eq_true, if_false, if_true]
  have hmon : (s.dev.event R.MON_EVT_ESCALATE).mon = s.dev.mon := hevt.keeps (·.mon) (fun _ _ _ _ _ => rfl)
  refine ⟨_, exec_stallDetected_fm hup hstalled, ?_⟩
  rw [hfault, Dev.faultWarm_first (by rw [hmon, hnone]) (by rw [hevt.restarted]; exact hwarm)]
  refine ⟨?_, rfl, Dev.fbit_event s.dev 0 rfl rfl (by decide), (hevt.within.beside rfl).only⟩
  exact congrArg (fun r => [r]) (hevt.recovery (by simp [Fld.at, R.MON_EVT]) 7 3 0 0 false)

/-- A block takes its part of the last committed epoch, whatever its settings then do (R84). -/
theorem Dev.unitTake_applied (u : EpochUnit) (f : Dev → Dev → Dev) (j : Nat) :
    smGet resetWord (d.unitTake u f).regs.applied j = smGet resetWord (if unitOf j = u then d.regs.committed else d.regs.applied) j := by
  simp only [Dev.unitTake, smGet_smTake, beq_iff_eq]
  split <;> rfl

theorem Dev.unitTake_waiting (u : EpochUnit) (f : Dev → Dev → Dev) : (d.unitTake u f).epoch.waiting = d.epoch.waiting.filter (· != u) := rfl

/-- An FM context that restarts takes the epoch in flight of its block (R91). -/
theorem Dev.epochInto_rf (hwaiting : d.epoch.waiting = [.rf]) (k : Nat) :
    d.epochInto 0 2 k = d.unitTake .rf (fun old d => Dev.blockApplied old d .rf) := by
  simp only [Dev.epochInto, hwaiting]
  rfl

theorem Dev.itemRestart_two (k : Nat) : (d.itemRestart 2 k).regs = d.regs ∧ (d.itemRestart 2 k).epoch = d.epoch := by
  unfold Dev.itemRestart
  split
  · exact ⟨rfl, rfl⟩
  · exact ⟨rfl, rfl⟩

theorem runs_stallDetected_epoch {k : Fin 256} {j : BitVec 16} (hup : s.dev.inReset = false) (hstalled : s.dev.stalledFm k)
    (hnone : s.dev.mon.recov = []) (hlast : s.dev.restarted 0 2 k (s.dev.fget R.MON_CFG_WIN) = false) (hwaiting : s.dev.epoch.waiting = [.rf]) :
    Runs (.stallDetected 0 2 k) s (fun t => t.dev.epoch.waiting = [] ∧
      smGet resetWord t.dev.regs.applied j.toNat = smGet resetWord (if unitOf j.toNat = .rf then s.dev.regs.committed else s.dev.regs.applied) j.toNat) := by
  refine ⟨_, exec_stallDetected_fm hup hstalled, ?_⟩
  rw [Dev.faultDomain_fm_first hnone hlast]
  have hwaiting' : (s.dev.setMon (s.dev.monAfter 0 4 2 k true s.dev.mon.warm)).epoch.waiting = [.rf] := hwaiting
  have happlied := Dev.unitTake_applied (d := s.dev.setMon (s.dev.monAfter 0 4 2 k true s.dev.mon.warm)) .rf (fun old d => Dev.blockApplied old d .rf)
    j.toNat
  rw [← Dev.epochInto_rf hwaiting' k] at happlied
  obtain ⟨hregs, hepoch⟩ := Dev.itemRestart_two (d := (s.dev.setMon (s.dev.monAfter 0 4 2 k true s.dev.mon.warm)).epochInto 0 2 k) k
  refine ⟨?_, (congrArg (fun r : RegFile => smGet resetWord r.applied j.toNat) hregs).trans happlied⟩
  refine (congrArg EpochSt.waiting hepoch).trans ?_
  rw [Dev.epochInto_rf hwaiting' k, Dev.unitTake_waiting, hwaiting']
  rfl

/-! ### Reloads of engines -/

/-- The reload of engine `e` has begun, and no other recovery is in progress. -/
def Dev.reloads (d : Dev) (e : Nat) (r : RecovSt) : Prop :=
  d.mon.recov = [r] ∧ r.domain = 6 ∧ r.index = e ∧ r.acted = false ∧ r.done = false

/-- The reload that had begun is carried out. -/
def Dev.reloaded (d : Dev) (r : RecovSt) : Dev := d.setMon { d.mon with recov := [{ r with acted := true }] }

theorem exec_engineReload {e : Fin 12} {r : RecovSt} {cntOk : Bool} (hmine : s.dev.reloads e r) (herase : s.dev.eraseBusy = false)
    (hwaiting : s.dev.epoch.waiting = []) (hkeeps : e ≠ 1 ∧ e ≠ 2 ∧ e ≠ 3) :
    exec (.engineReload e cntOk) s = .next { s with dev :=
      (if (e : Nat) = 11 then (if cntOk then s.dev.reloaded r else (s.dev.reloaded r).countsLost s.flash).pairAgain else s.dev.reloaded r) } := by
  obtain ⟨hrecov, hdomain, hindex, hacted, hdone⟩ := hmine
  have hsame : s.dev.engineReload e = s.dev := by
    have hne : (e : Nat) ≠ 1 ∧ (e : Nat) ≠ 2 ∧ (e : Nat) ≠ 3 := by
      simpa [Fin.ext_iff] using hkeeps
    simp [Dev.engineReload, hne]
  show execEngineReload e cntOk s = _
  simp [execEngineReload, nextDev, hrecov, hdomain, hindex, hacted, hdone, herase, Dev.epochInto_none hwaiting, hsame, Dev.reloaded, Dev.setMon]

theorem exec_engineReload_stays {e : Fin 12} (h : s.dev.mon.recov = [] ∨ s.dev.eraseBusy = true) : exec (.engineReload e true) s = .next s := by
  show execEngineReload e true s = _
  obtain h | h := h <;> simp [execEngineReload, nextDev, h]

theorem runs_engineReload {e : Fin 12} {r : RecovSt} (hmine : s.dev.reloads e r) (herase : s.dev.eraseBusy = false)
    (he : e = 0 ∨ (4 ≤ e ∧ e ≠ 11)) (hwaiting : s.dev.epoch.waiting = []) :
    Runs (.engineReload e true) s (fun t => t.dev.mon.recov = [{ r with acted := true }] ∧ Only [] s t) := by
  have hkeeps : e ≠ 1 ∧ e ≠ 2 ∧ e ≠ 3 ∧ (e : Nat) ≠ 11 := by omega
  refine ⟨_, exec_engineReload hmine herase hwaiting ⟨hkeeps.1, hkeeps.2.1, hkeeps.2.2.1⟩, ?_⟩
  rw [if_neg hkeeps.2.2.2]
  exact ⟨rfl, (Dev.Within.of_regs rfl).only⟩

/-- The records of the pair that wait are formed again; with class 6 off none of them goes to the Ferson port. -/
theorem Dev.pairAgain_silent (hsrc : d.fbit R.FSP_SRC_MOULT = false) : d.pairAgain = d.setMon { d.mon with queue := d.mon.queue.map d.recordAgain } := by
  have hquiet : ∀ (l : List MonRec) (e : Dev), e.fbit R.FSP_SRC_MOULT = false →
      e.each l (fun d r => if d.fbit R.FSP_SRC_MOULT then d.formPacket ⟨d.time.clk, 6, 0, r.time, false, recUnits r.type - 1, .bytes r.bytes⟩ else d) = e := by
    intro l e he
    induction l with
    | nil => rfl
    | cons r l ih =>
      rw [Dev.each, List.foldl_cons, if_neg (by simp [he])]
      exact ih
  exact hquiet _ (d.setMon { d.mon with queue := d.mon.queue.map d.recordAgain }) hsrc

theorem runs_engineReload_monitor {r : RecovSt} (hmine : s.dev.reloads (11 : Fin 12) r) (herase : s.dev.eraseBusy = false)
    (hwaiting : s.dev.epoch.waiting = []) (hsrc : s.dev.fbit R.FSP_SRC_MOULT = false) :
    Runs (.engineReload 11 true) s (fun t => t.dev.mon.recov = [{ r with acted := true }] ∧
      t.dev.mon.queue = s.dev.mon.queue.map (fun x => if x.type = 1 then { x with time := s.dev.time.stamp, body := s.dev.countersBody (x.body.getD 156 1) }
        else if x.type = 2 then { x with time := s.dev.time.stamp, body := s.dev.histBody } else x) ∧ t.dev.mon.seq = s.dev.mon.seq ∧ Only [] s t) := by
  refine ⟨_, exec_engineReload hmine herase hwaiting (by decide), ?_⟩
  rw [if_pos (by decide), if_pos rfl, Dev.pairAgain_silent (d := s.dev.reloaded r) hsrc]
  exact ⟨rfl, rfl, rfl, (Dev.Within.of_regs rfl).only⟩

/-- The lifetime counts are restored from the ring, which shows whether there was any of this die (R590). -/
theorem Dev.countsLost_shows (flash : SMap Byte) : Dev.Shows [R.MON_EVT.at 0, R.MON_STAT.at 0] d (d.countsLost flash) := by
  unfold Dev.countsLost
  refine .event ?_ (by decide)
  unfold Dev.lifeLoad
  exact .fput (.fput ⟨.of_regs rfl, rfl⟩ (by decide)) (by decide)

theorem runs_engineReload_counts_lost {r : RecovSt} (hmine : s.dev.reloads (11 : Fin 12) r) (herase : s.dev.eraseBusy = false)
    (hwaiting : s.dev.epoch.waiting = []) (hsrc : s.dev.fbit R.FSP_SRC_MOULT = false) :
    Runs (.engineReload 11 false) s (fun t => t.dev.mon.recov = [{ r with acted := true }] ∧ t.dev.fbit R.MON_EVT_CNT_LOST = true ∧
      t.dev.mon.seq = s.dev.mon.seq ∧ Only [R.MON_EVT.at 0, R.MON_STAT.at 0] s t) := by
  have hlost := Dev.countsLost_shows (d := s.dev.reloaded r) s.flash
  have hmon : ((s.dev.reloaded r).countsLost s.flash).mon = (s.dev.reloaded r).mon := hlost.keeps (·.mon) (fun _ _ _ _ _ => rfl)
  have hsrc' : ((s.dev.reloaded r).countsLost s.flash).fbit R.FSP_SRC_MOULT = false := (hlost.within.fbit (.inl rfl)).trans hsrc
  have hevt : ((s.dev.reloaded r).countsLost s.flash).fbit R.MON_EVT_CNT_LOST = true :=
    Dev.fbit_event ((s.dev.reloaded r).lifeLoad (ringAll s.flash)) 0 rfl rfl (by decide)
  have hseq : ((s.dev.reloaded r).countsLost s.flash).mon.seq = s.dev.mon.seq := by rw [hmon]; rfl
  have hframe : Dev.Within [R.MON_EVT.at 0, R.MON_STAT.at 0] s.dev ((s.dev.reloaded r).countsLost s.flash) := hlost.within.of_same_regs rfl
  refine ⟨_, exec_engineReload hmine herase hwaiting (by decide), ?_⟩
  rw [if_pos (by decide), if_neg (by decide), Dev.pairAgain_silent hsrc']
  exact ⟨congrArg MonSt.recov hmon, hevt, hseq, (hframe.beside rfl).only⟩

/-! ### The end of a recovery -/

variable {c : Fin 8} {r : RecovSt}

/-- The recovery `r` with its end. -/
def Dev.recovDone (d : Dev) (r : RecovSt) : RecovSt :=
  { r with done := true, doneClk := d.time.clk, duration := usOf (d.time.clk - r.clk), epoch := d.fget R.SYS_EPOCH_NUM }

/-- The end of a recovery is flagged and counted (R580). -/
def Dev.recovered (d : Dev) (r : RecovSt) (c : Nat) : Dev :=
  ((((d.setMon { d.mon with recov := [d.recovDone r] }).event R.SYS_OWN_EVT_RECOVERED).event R.MON_EVT_RECOVERY).bump R.MON_RECOV_COUNT c).lifeBy
    (0x98 + 2 * c) 2 1

theorem exec_recoveryComplete (hrecov : s.dev.mon.recov = [r]) (hdomain : r.domain = c) (hacted : r.acted = true) (hdone : r.done = false)
    (hwaiting : s.dev.epoch.waiting = []) (hphase : s.dev.boot.phase = .released) (hc : c ≠ 0) :
    exec (.recoveryComplete c) s = .next { s with dev := s.dev.recovered r c } := by
  have hne : (c : Nat) ≠ 0 := fun h => hc (Fin.ext h)
  show execRecoveryComplete c s = _
  simp [execRecoveryComplete, nextDev, hrecov, Dev.recovEnds, hdomain, hacted, hdone, hwaiting, hphase, Dev.recovShed, hne, recovUpdate, Dev.recovered,
    Dev.recovDone, Dev.setMon, Dev.since]

theorem runs_recoveryComplete (hrecov : s.dev.mon.recov = [r]) (hdomain : r.domain = c) (hacted : r.acted = true) (hdone : r.done = false)
    (hwaiting : s.dev.epoch.waiting = []) (hphase : s.dev.boot.phase = .released) (hc : c ≠ 0) :
    Runs (.recoveryComplete c) s (fun t => t.dev.mon.recov = [s.dev.recovDone r] ∧ t.dev.fbit R.SYS_OWN_EVT_RECOVERED = true ∧
      t.dev.fbit R.MON_EVT_RECOVERY = true ∧ Counted s t R.MON_RECOV_COUNT c ∧
      Only [R.SYS_OWN_EVT.at 0, R.MON_EVT.at 0, R.MON_RECOV.at c] s t) := by
  refine ⟨_, exec_recoveryComplete hrecov hdomain hacted hdone hwaiting hphase hc, ?_⟩
  have hcount : R.MON_RECOV_COUNT.at c ∉ [R.SYS_OWN_EVT.at 0, R.MON_EVT.at 0] := by
    simp [Fld.at, R.MON_RECOV_COUNT, R.SYS_OWN_EVT, R.MON_EVT]
    omega
  have hevts : Dev.Shows [R.SYS_OWN_EVT.at 0, R.MON_EVT.at 0] (s.dev.setMon { s.dev.mon with recov := [s.dev.recovDone r] })
      (((s.dev.setMon { s.dev.mon with recov := [s.dev.recovDone r] }).event R.SYS_OWN_EVT_RECOVERED).event R.MON_EVT_RECOVERY) :=
    .event (.event .refl (by decide)) (by decide)
  have hown := Dev.fbit_event_mono (h := R.MON_EVT_RECOVERY) (m := 0) (n := 0) rfl rfl
    (Dev.fbit_event (s.dev.setMon { s.dev.mon with recov := [s.dev.recovDone r] }) (f := R.SYS_OWN_EVT_RECOVERED) 0 rfl rfl (by decide))
  have hmonEvt := Dev.fbit_event ((s.dev.setMon { s.dev.mon with recov := [s.dev.recovDone r] }).event R.SYS_OWN_EVT_RECOVERED)
    (f := R.MON_EVT_RECOVERY) 0 rfl rfl (by decide)
  unfold Dev.recovered
  generalize ((s.dev.setMon { s.dev.mon with recov := [s.dev.recovDone r] }).event R.SYS_OWN_EVT_RECOVERED).event R.MON_EVT_RECOVERY = u
    at hevts hown hmonEvt ⊢
  have hmon : u.mon = { s.dev.mon with recov := [s.dev.recovDone r] } := hevts.keeps (·.mon) (fun _ _ _ _ _ => rfl)
  have hframe : Dev.Within [R.SYS_OWN_EVT.at 0, R.MON_EVT.at 0] s.dev u := hevts.within.of_same_regs rfl
  have hbump : Dev.Within [R.MON_RECOV_COUNT.at c] u (u.bump R.MON_RECOV_COUNT c) := Dev.within_fput (by simp)
  refine ⟨congrArg MonSt.recov hmon, (hbump.fbit (.inr ?_)).trans hown, (hbump.fbit (.inr ?_)).trans hmonEvt, hframe.reg_bump hcount, ?_⟩
  · simp [Fld.at, R.MON_RECOV_COUNT, R.SYS_OWN_EVT_RECOVERED]
    omega
  · simp [Fld.at, R.MON_RECOV_COUNT, R.MON_EVT_RECOVERY]
    omega
  · exact (((hframe.mono (by simp)).trans (hbump.mono (by simp [Fld.at, R.MON_RECOV, R.MON_RECOV_COUNT]))).beside rfl).only

theorem exec_recoveryComplete_none (hrecov : s.dev.mon.recov = []) : exec (.recoveryComplete c) s = .next s := by
  show execRecoveryComplete c s = _
  simp [execRecoveryComplete, nextDev, hrecov]

/-- The body of a RECOVERY record (R585). -/
def RecovSt.body (r : RecovSt) : List Nat :=
  [r.domain, r.cause, r.item, 0] ++ beWord r.index ++ beWord r.epoch ++ be32 (min r.duration (2 ^ 32 - 1)) ++
    be32 (min r.lost (2 ^ 32 - 1)) ++ beWord (r.prog.getD 0xFFFF) ++ be64 r.detect

/-- The lost output of a recovery is counted (R583). -/
def Dev.lossCounted (d : Dev) (lost : Nat) : Dev := ((d.setMon { d.mon with recov := [] }).bumpBy R.MON_LOST_MS_MS 0 lost).lifeBy 0xA8 4 lost

theorem exec_recoveryRecord_known (hrecov : s.dev.mon.recov = [r]) (hdone : r.done = true)
    (hknown : r.watch = [] ∨ r.doneClk + 10 * Config.sysPerSecond ≤ s.dev.time.clk) :
    exec .recoveryRecord s = .next { s with dev := (s.dev.lossCounted r.lost).formRecord 3 r.body false } := by
  show execRecoveryRecord s = _
  have hloss : s.dev.lossKnown r = true := by simpa [Dev.lossKnown, hdone, Dev.reached] using hknown
  simp only [execRecoveryRecord, nextDev, hrecov, List.find?_cons, hloss, List.erase_cons_head]
  rfl

theorem exec_recoveryRecord_unknown
    (h : s.dev.mon.recov = [] ∨ (s.dev.mon.recov = [r] ∧ ¬ (r.done = true ∧ (r.watch = [] ∨ r.doneClk + 10 * Config.sysPerSecond ≤ s.dev.time.clk)))) :
    exec .recoveryRecord s = .next s := by
  show execRecoveryRecord s = _
  obtain h | ⟨h, hunknown⟩ := h
  · simp [execRecoveryRecord, nextDev, h]
  · have hloss : s.dev.lossKnown r = false := by
      rw [← Bool.not_eq_true]
      exact fun hknown => hunknown (by simpa [Dev.lossKnown, Dev.reached] using hknown)
    simp [execRecoveryRecord, nextDev, h, hloss]

theorem runs_recoveryRecord (hrecov : s.dev.mon.recov = [r])
    (hknown : r.done = true ∧ (r.watch = [] ∨ r.doneClk + 10 * Config.sysPerSecond ≤ s.dev.time.clk)) (hlogs : s.dev.logs) :
    Runs .recoveryRecord s (fun t => t.dev.mon.recov = [] ∧
      (t.dev.mon.queue = s.dev.mon.queue ++ [⟨3, (s.dev.mon.seq + 1) % 2 ^ 32, s.dev.time.stamp, r.body, false⟩] ∧
        t.dev.mon.seq = (s.dev.mon.seq + 1) % 2 ^ 32 ∧ t.dev.anole = s.dev.anole ++ [false]) ∧
      Wrote s t R.MON_LOST_MS_MS 0 (min (s.dev.fget R.MON_LOST_MS_MS + r.lost) 65535) ∧ Only [R.MON_LOST_MS.at 0, R.MON_SEQ_HI.at 0] s t) := by
  have hcounted : Dev.Within [R.MON_LOST_MS.at 0] s.dev (s.dev.lossCounted r.lost) := .beside (Dev.within_fput (n := 0) (by decide)) rfl
  have hlogs' := hcounted.logs (by decide) hlogs
  have hseq := Dev.within_formRecord hlogs' 3 r.body false
  refine ⟨_, exec_recoveryRecord_known hrecov hknown.1 hknown.2, ?_⟩
  have hrecord := Dev.formRecord_mon hlogs' 3 r.body false
  refine ⟨congrArg MonSt.recov hrecord, ⟨congrArg MonSt.queue hrecord, congrArg MonSt.seq hrecord, Dev.formRecord_anole hlogs' _ _ _⟩, ?_,
    ((hcounted.mono (by simp)).trans (hseq.mono (by simp))).only⟩
  exact (hseq.reg _ (by decide)).trans (wrote_fput s R.MON_LOST_MS_MS 0 _)

end

/-- Settles O50: each command of Monitor by its own cases. A record that is formed is `Dev.recordQueued` with its sequence number shown; a restart that
is called for, the first within its window, is `Dev.monAfter`. -/
theorem monitorErrorsAndRecoveries : Obligations.MonitorErrorsAndRecoveries := by
  unfold Obligations.MonitorErrorsAndRecoveries
  intro s clean item index ecc written i j v e k c r
  refine ⟨?_, ?_, ?_, ?_, fun h => runs_self_of_exec (exec_scrubRead_not_ready h), runs_registerParityError_applied, runs_registerParityError_staged,
    fun h => runs_self_of_exec (exec_registerParityError_immediate h), runs_watchdogTrip_engine, runs_watchdogTrip_anole,
    fun h => runs_self_of_exec (exec_watchdogTrip_stopped h), runs_stallDetected_first, runs_stallDetected_again, runs_stallDetected_epoch,
    fun h => runs_self_of_exec (exec_stallDetected_fm_not h), runs_engineReload, ?_, ?_, fun h => runs_self_of_exec (exec_engineReload_stays h), ?_,
    fun h => runs_self_of_exec (exec_recoveryComplete_none h), runs_recoveryRecord, fun h => runs_self_of_exec (exec_recoveryRecord_unknown h)⟩
  · rintro ⟨⟨hup, hdue⟩, hwithin⟩ rfl hecc
    exact runs_scrubRead_corrected rfl hup hdue hwithin hecc
  · rintro ⟨hup, hdue⟩ hlast hclean
    exact runs_scrubRead_last rfl hup hdue hlast hclean
  · rintro ⟨⟨hup, hdue⟩, hwithin⟩ rfl hecc hregion hlogs hfirst
    exact runs_scrubRead_uncorrectable rfl hup hdue hwithin hecc hregion hlogs hfirst
  · rintro ⟨⟨hup, hdue⟩, hwithin⟩ rfl
    exact runs_scrubRead_written rfl hup hdue hwithin
  · intro hmine herase he hwaiting hsrc
    subst he
    exact runs_engineReload_monitor hmine herase hwaiting hsrc
  · intro hmine herase he hwaiting hsrc
    subst he
    exact runs_engineReload_counts_lost hmine herase hwaiting hsrc
  · rintro ⟨hrecov, hdomain, hacted, hdone, hwaiting, hphase, hc⟩
    exact runs_recoveryComplete hrecov hdomain hacted hdone hwaiting hphase hc

end Sys2Proof.Machine

/-!
SUPPORT. A counterexample to one statement of the family: a block of the command 0xF030 that writes a read-only register of the programme table, the
bits of which that belong to no field were not 0 (R5, R11, R530).
-/
namespace Sys2Proof.Machine

/-- The block in operation with an idle bus and PEC off; in `PGT[0].SCORE` the six bits above the field, which read 0 by R11, are set. -/
def strayBitsInScore : State :=
  { dev := { (({} : Dev).inForce R.HIF_CFG_PEC_EN 0 0).setImm 0x200F 0xFC00 with boot := { phase := .released } } }

/-- The block 0x00 0x0F 0x00 0x00 writes 0 to `PGT[0].SCORE`: its field stands, and the bits of no field read 0 (R11). -/
theorem strayBitsInScore_cleared :
    Runs (.pgtBulkWrite 4 [0x00, 0x0F, 0x00, 0x00] none) strayBitsInScore (fun t => t.reg 0x200F ≠ strayBitsInScore.reg 0x200F) :=
  ⟨_, rfl, by decide +kernel⟩

/-- Refutes O56: a block of the command 0xF030 does not always leave the immediate registers as they are. Written to a read-only register of the
programme table, it clears the bits of no field: `strayBitsInScore`. -/
theorem not_capturesAndBlockTransfers : ¬ Obligations.CapturesAndBlockTransfers := by
  intro h
  obtain ⟨-, -, -, -, -, -, -, -, -, -, -, -, -, -, -, -, -, -, -, -, -, hpairs, -⟩ :=
    h strayBitsInScore 0 0 false 0x00 0x0F 0x00 0x00 none [] [] 0 0x200F ⟨0, []⟩
  obtain ⟨t, ht, ⟨-, -, hkept, -⟩, -⟩ := hpairs (by decide +kernel) (by decide) (by decide +kernel)
  exact (runs_iff_of_exec ht).1 strayBitsInScore_cleared (hkept (by decide))

end Sys2Proof.Machine

/-!
SUPPORT. The ring of the Moult log: what stands in the flash after an erase and a write, and what a pair, a flush and a move of the read position
leave (R586 to R593); the host's read of it (R528).
-/
namespace Sys2Proof.Machine

section
variable {d e g : Dev} {s : State} {l : List Nat} {m : SMap Byte} {n u v sec a j : Nat} {r : MonRec} {rest : List MonRec} {q : RingRec}

/-! ### The flash -/

/-- A byte at which nothing is listed reads erased. -/
theorem smGet_erased_of_not_listed (h : ∀ x ∈ m, x.1 ≠ a) : smGet erased m a = 0xFF := by
  induction m with
  | nil => rfl
  | cons x t ih =>
    rw [smGet, if_neg (h x (by simp))]
    exact ih (fun y hy => h y (by simp [hy]))

theorem smGet_of_ringErased (h : ringErased m u v = true) (ha : ringAddr u ≤ a ∧ a < ringAddr v) : smGet erased m a = 0xFF := by
  refine smGet_erased_of_not_listed (fun x hx hxa => ?_)
  have hnone := List.any_eq_false.1 (by rwa [ringErased, Bool.not_eq_true'] at h) x hx
  rw [← hxa] at ha
  exact hnone (by simp [ha])

theorem smGet_ringErase : smGet erased (ringErase m u n) a = if ringAddr u ≤ a ∧ a < ringAddr (u + n) then 0xFF else smGet erased m a := by
  simp [ringErase, smGet_smDrop, erased]

/-- A programmed byte is the old byte with the given bits cleared (log entry 30). -/
theorem smGet_flashProg (bs : List Nat) : ∀ {m : SMap Byte} (a : Nat) {j : Nat}, j < bs.length →
    smGet erased (flashProg m a bs) (a + j) = smGet erased m (a + j) &&& BitVec.ofNat 8 (bs.getD j 0) := by
  induction bs with
  | nil =>
    intro m a j hj
    simp at hj
  | cons b t ih =>
    intro m a j hj
    rw [flashProg]
    cases j with
    | zero => rw [smGet_flashProg_other t (a + 1) _ (.inl (by omega)), Nat.add_zero, smGet_smSet, if_pos rfl, List.getD_cons_zero]
    | succ j =>
      rw [show a + (j + 1) = a + 1 + j by omega, ih (a + 1) (by simpa using hj), smGet_smSet, if_neg (by omega), List.getD_cons_succ]

theorem length_be32 (w : Nat) : (be32 w).length = 4 := rfl

/-- A record fills the units of its type (R584). -/
theorem MonRec.length_bytes (r : MonRec) : r.bytes.length = 64 * recUnits r.type := by
  have hunits : 1 ≤ recUnits r.type := by
    unfold recUnits
    split <;> omega
  simp only [MonRec.bytes, List.length_append, List.length_take, List.length_replicate, length_be32]
  omega

theorem length_freeBytes (k n : Nat) : (freeBytes k n).length = n := by simp [freeBytes]

/-! ### Pairs -/

theorem Dev.formPair_within (hlogs : d.logs) (why : Nat) (flush : Bool) : Dev.Within [R.MON_SEQ_HI.at 0] d (d.formPair why flush) :=
  have hfirst := Dev.within_formRecord hlogs 1 (d.countersBody why) flush
  (hfirst.trans (Dev.within_formRecord (hfirst.logs (by decide) hlogs) 2 d.histBody flush)).beside rfl

/-- A pair is a COUNTERS and a HISTOGRAMS record of the next two sequence numbers (R586, R587). -/
theorem Dev.formPair_mon (hlogs : d.logs) (why : Nat) (flush : Bool) :
    (d.formPair why flush).mon = { d.mon with
      seq := (d.mon.seq + 2) % 2 ^ 32, pairSec := 0
      queue := d.mon.queue ++ [⟨1, (d.mon.seq + 1) % 2 ^ 32, d.time.stamp, d.countersBody why, flush⟩,
        ⟨2, (d.mon.seq + 2) % 2 ^ 32, d.time.stamp, d.histBody, flush⟩] } := by
  have hsecond := (Dev.within_formRecord hlogs 1 (d.countersBody why) flush).logs (by decide) hlogs
  have htime : (d.formRecord 1 (d.countersBody why) flush).time = d.time :=
    (Dev.formRecord_shows hlogs _ _ _).keeps (·.time) (fun _ _ _ _ _ => rfl)
  have hseq : ((d.mon.seq + 1) % 2 ^ 32 + 1) % 2 ^ 32 = (d.mon.seq + 2) % 2 ^ 32 := by omega
  simp only [Dev.formPair, Dev.formRecord_mon hsecond, Dev.recordQueued, Dev.formRecord_mon hlogs, htime, hseq, List.append_assoc,
    List.cons_append, List.nil_append]

theorem Dev.formPair_anole (hlogs : d.logs) (why : Nat) (flush : Bool) : (d.formPair why flush).anole = d.anole ++ [false, false] := by
  have hsecond := (Dev.within_formRecord hlogs 1 (d.countersBody why) flush).logs (by decide) hlogs
  simp only [Dev.formPair, Dev.formRecord_anole hsecond, Dev.formRecord_anole hlogs, List.append_assoc, List.cons_append, List.nil_append]

/-- The block after the pair of the boot has been taken up. -/
def Dev.bootPaired (d : Dev) : Dev := d.setMon { d.mon with bootPair := false }

/-- What a pair adds to the records that wait (R587). -/
def Dev.Paired (d : Dev) (why : Nat) (flush : Bool) (e : Dev) : Prop :=
  e.mon.queue = d.mon.queue ++ [⟨1, (d.mon.seq + 1) % 2 ^ 32, d.time.stamp, d.countersBody why, flush⟩,
      ⟨2, (d.mon.seq + 2) % 2 ^ 32, d.time.stamp, d.histBody, flush⟩] ∧
    e.anole = d.anole ++ [false, false] ∧ e.mon.seq = (d.mon.seq + 2) % 2 ^ 32 ∧ e.mon.pairSec = 0

theorem Dev.formPair_paired (hlogs : d.logs) (why : Nat) (flush : Bool) : d.Paired why flush (d.formPair why flush) := by
  rw [Dev.Paired, Dev.formPair_mon hlogs, Dev.formPair_anole hlogs]
  exact ⟨rfl, rfl, rfl, rfl⟩

theorem runs_countersPair_boot (hup : s.dev.inReset = false) (hlogs : s.dev.logs) (hboot : s.dev.mon.bootPair = true) :
    Runs .countersPair s (fun t => s.dev.Paired 1 false t.dev ∧ t.dev.mon.bootPair = false ∧ Only [R.MON_SEQ_HI.at 0] s t) := by
  have hexec : exec .countersPair s = .next { s with dev := s.dev.bootPaired.formPair 1 false } := by
    show execCountersPair s = _
    simp only [execCountersPair, nextDev, hup, hboot, Bool.false_eq_true, if_false, if_true]
    rfl
  have hlogs' : s.dev.bootPaired.logs := hlogs
  refine ⟨_, hexec, Dev.formPair_paired hlogs' 1 false, ?_, (Dev.Within.of_same_regs (d := s.dev) (Dev.formPair_within hlogs' 1 false) rfl).only⟩
  show (s.dev.bootPaired.formPair 1 false).mon.bootPair = false
  rw [Dev.formPair_mon hlogs']
  rfl

theorem runs_countersPair_hour (hup : s.dev.inReset = false) (hlogs : s.dev.logs) (hboot : s.dev.mon.bootPair = false)
    (hhour : 3600 ≤ s.dev.mon.pairSec) : Runs .countersPair s (fun t => s.dev.Paired 2 false t.dev ∧ Only [R.MON_SEQ_HI.at 0] s t) := by
  have hexec : exec .countersPair s = .next { s with dev := s.dev.formPair 2 false } := by
    show execCountersPair s = _
    simp only [execCountersPair, nextDev, hup, hboot, hhour, Bool.false_eq_true, if_false, if_true]
  exact ⟨_, hexec, Dev.formPair_paired hlogs 2 false, (Dev.formPair_within hlogs 2 false).only⟩

theorem exec_countersPair_early (hboot : s.dev.mon.bootPair = false) (hhour : s.dev.mon.pairSec < 3600) : exec .countersPair s = .next s := by
  show execCountersPair s = _
  simp only [execCountersPair, nextDev, hboot, Bool.false_eq_true, if_false, if_neg (Nat.not_le.2 hhour), ite_self]

/-- A pair is about the counts and the time alone. -/
theorem Dev.paired_of_same (hm : g.mon = d.mon) (ht : g.time = d.time) (hl : g.life = d.life) (ha : g.anole = d.anole) (why : Nat) (flush : Bool)
    (h : g.Paired why flush e) : d.Paired why flush e := by
  simpa only [Dev.Paired, Dev.countersBody, Dev.lifeAt, Dev.histBody, hm, ht, hl, ha] using h

/-- Records of the flush wait: it goes on (R591). -/
theorem Dev.flushCheck_waits (h : d.mon.queue.any (fun r => r.flush) = true) : d.flushCheck = d := by
  rw [Dev.flushCheck, h, Bool.not_true, Bool.and_false, if_neg (by decide)]

theorem Dev.flushCheck_shows : Dev.Shows [R.MON_STAT.at 0, R.MON_EVT.at 0] d d.flushCheck := by
  unfold Dev.flushCheck
  split
  · exact (Dev.Shows.refl.fput (by decide)).event (by decide)
  · exact .refl

theorem runs_moultFlush (hup : s.dev.inReset = false) (hlogs : s.dev.logs) (hnot : s.dev.fbit R.MON_STAT_FLUSHING = false) :
    Runs .moultFlush s (fun t => s.dev.Paired 3 true t.dev ∧ t.dev.fbit R.MON_STAT_FLUSHING = true ∧
      Only [R.MON_SEQ_HI.at 0, R.MON_STAT.at 0] s t) := by
  have hflushing : Dev.Within [R.MON_STAT.at 0] s.dev (s.dev.fputB R.MON_STAT_FLUSHING 0 true) := .fput .refl (by decide)
  have hlogs' : (s.dev.fputB R.MON_STAT_FLUSHING 0 true).logs := by
    refine ⟨(hflushing.fbit (.inl rfl)).trans hlogs.1, Eq.trans ?_ hlogs.2⟩
    rw [Dev.fbit, Dev.fputB, Dev.fget_fput_apart _ _ (by decide) (.inr (by decide)), Dev.fbit]
  have hpaired := Dev.formPair_paired hlogs' 3 true
  have hpair := Dev.formPair_within hlogs' 3 true
  have hsame : s.dev.Paired 3 true ((s.dev.fputB R.MON_STAT_FLUSHING 0 true).formPair 3 true) :=
    Dev.paired_of_same (g := s.dev.fputB R.MON_STAT_FLUSHING 0 true) (d := s.dev) (by simp [Dev.fputB]) (by simp [Dev.fputB]) (by simp [Dev.fputB]) (by simp [Dev.fputB])
      3 true hpaired
  have hexec : exec .moultFlush s = .next { s with dev := (s.dev.fputB R.MON_STAT_FLUSHING 0 true).formPair 3 true } := by
    show execMoultFlush s = _
    simp only [execMoultFlush, nextDev, Dev.monFlush, hup, hnot, Bool.false_eq_true, if_false]
    rw [Dev.flushCheck_waits (by rw [hpaired.1]; simp)]
  refine ⟨_, hexec, hsame, ?_, ((hflushing.mono (by simp)).trans (hpair.mono (by simp))).only⟩
  exact (hpair.fbit (.inr (by decide))).trans (Dev.fbit_fputB _ 0 true rfl rfl (by decide))

theorem exec_moultFlush_flushing (hup : s.dev.inReset = false) (h : s.dev.fbit R.MON_STAT_FLUSHING = true) : exec .moultFlush s = .next s := by
  show execMoultFlush s = _
  simp only [execMoultFlush, nextDev, Dev.monFlush, hup, h, Bool.false_eq_true, if_false, if_true]

/-! ### A record reaches the ring -/

/-- The unit at which the record `r` is written (R586, R588). -/
def State.placeOf (s : State) (r : MonRec) : Nat := ringPlace s.flash s.dev.mon.unit (recUnits r.type) s.dev.ringSector

/-- The sectors that are erased first. -/
def State.needsOf (s : State) (r : MonRec) : List Nat := ringNeeds s.flash (s.placeOf r) s.dev.ringSector

/-- The oldest record `r` is next for the flash (R28, R80). -/
def State.logTurn (s : State) (r : MonRec) (rest : List MonRec) : Prop :=
  s.dev.logs ∧ s.dev.mon.queue = r :: rest ∧ s.dev.anole.head? = some false ∧ s.dev.flashBusy = false

/-- The block once the record `r` has been written up to unit `v`. -/
def Dev.recordWritten (d : Dev) (rest : List MonRec) (v : Nat) : Dev :=
  (({ d with mon := { d.mon with queue := rest, unit := v }, anole := d.anole.tail }).fput R.MON_LOG_POS_UNIT 0 v).flushCheck

/-- The block once the write of a record of `n` units has failed: the records `queue` wait, and writing goes on at unit `v`. -/
def Dev.recordMissed (d : Dev) (queue : List MonRec) (n v : Nat) : Dev :=
  ({ d with mon := { d.mon with queue := queue, unit := v }, freeIdx := d.freeIdx + 64 * n }).fput R.MON_LOG_POS_UNIT 0 v

/-- The block in which writing stops at an erase that failed, and its records no longer wait (R589). -/
def Dev.logStopped (d : Dev) : Dev := ({ d with freeIdx := d.freeIdx + 64 * d.ringSector }.fputB R.MON_STAT_LOG_STOP 0 true).event R.MON_EVT_LOG_ERR

/-- The flash after the sectors needed have been erased. -/
def State.ringCleared (s : State) (r : MonRec) : SMap Byte := (s.needsOf r).foldl (fun f v => ringErase f v s.dev.ringSector) s.flash

theorem exec_logWrite_written (h : s.logTurn r rest) :
    exec (.logWrite true true) s = .next { s with
      dev := s.dev.recordWritten rest ((s.placeOf r + recUnits r.type) % 4096)
      flash := flashProg (s.ringCleared r) (ringAddr (s.placeOf r)) r.bytes } := by
  obtain ⟨⟨hen, hstop⟩, hqueue, hhead, hbusy⟩ := h
  show execLogWrite true true s = _
  simp only [execLogWrite, hqueue, hen, hstop, Dev.anoleFree, hhead, hbusy, Bool.not_true, Bool.or_self, Bool.and_false, beq_self_eq_true,
    Bool.not_false, Bool.and_self, Bool.false_eq_true, if_false, if_true]
  rfl

theorem exec_logWrite_missed (h : s.logTurn r rest) :
    exec (.logWrite true false) s = .next { s with
      dev := s.dev.recordMissed (r :: rest) (recUnits r.type) ((s.placeOf r / s.dev.ringSector + 1) * s.dev.ringSector % 4096)
      flash := flashProg (s.ringCleared r) (ringAddr (s.placeOf r)) (freeBytes s.dev.freeIdx (64 * recUnits r.type)) } := by
  obtain ⟨⟨hen, hstop⟩, hqueue, hhead, hbusy⟩ := h
  show execLogWrite true false s = _
  simp only [execLogWrite, hqueue, hen, hstop, Dev.anoleFree, hhead, hbusy, Bool.not_true, Bool.or_self, Bool.and_false, beq_self_eq_true,
    Bool.not_false, Bool.and_self, Bool.false_eq_true, if_false]
  rfl

theorem exec_logWrite_failed (h : s.logTurn r rest) (hneeds : s.needsOf r ≠ []) :
    exec (.logWrite false true) s = .next { s with
      dev := s.dev.logStopped.logDrop
      flash := smSetList erased s.flash (ringAddr ((s.needsOf r).headD 0))
        ((freeBytes s.dev.freeIdx (64 * s.dev.ringSector)).map (BitVec.ofNat 8)) } := by
  obtain ⟨⟨hen, hstop⟩, hqueue, hhead, hbusy⟩ := h
  have hsome : (ringNeeds s.flash (ringPlace s.flash s.dev.mon.unit (recUnits r.type) s.dev.ringSector) s.dev.ringSector).isEmpty = false := by
    simpa [State.needsOf, State.placeOf] using hneeds
  show execLogWrite false true s = _
  simp only [execLogWrite, hqueue, hen, hstop, Dev.anoleFree, hhead, hbusy, hsome, Bool.not_true, Bool.or_self, beq_self_eq_true,
    Bool.not_false, Bool.and_self, Bool.false_eq_true, if_false, if_true]
  rfl

theorem exec_logWrite_waits (h : s.dev.mon.queue = [] ∨ s.dev.logs ∧ ¬ (s.dev.anole.head? = some false ∧ s.dev.flashBusy = false)) :
    exec (.logWrite true true) s = .next s := by
  show execLogWrite true true s = _
  cases hqueue : s.dev.mon.queue with
  | nil => simp only [execLogWrite, hqueue]
  | cons r rest =>
    obtain ⟨⟨hen, hstop⟩, hturn⟩ := h.resolve_left (by simp [hqueue])
    have hfree : s.dev.anoleFree false = false := by simpa [Dev.anoleFree] using hturn
    simp only [execLogWrite, hqueue, hen, hstop, hfree, Bool.not_true, Bool.or_self, Bool.not_false, Bool.false_eq_true, if_false, if_true]

theorem Dev.recordWritten_shows (rest : List MonRec) (v : Nat) :
    Dev.Shows [R.MON_LOG_POS.at 0, R.MON_STAT.at 0, R.MON_EVT.at 0]
      { d with mon := { d.mon with queue := rest, unit := v }, anole := d.anole.tail } (d.recordWritten rest v) :=
  (Dev.Shows.refl.fput (by decide)).trans (Dev.flushCheck_shows.mono (by simp))

theorem Dev.logStopped_within : Dev.Within [R.MON_STAT.at 0, R.MON_EVT.at 0] d d.logStopped :=
  .event (.fput (.of_regs rfl) (by decide)) (by decide)

/-- The block without the records that wait for the flash. -/
def Dev.logDropped (d : Dev) : Dev := { d with mon := { d.mon with queue := [] }, anole := d.anole.filter id }

theorem Dev.logDrop_shows : Dev.Shows [R.MON_STAT.at 0, R.MON_EVT.at 0] d.logDropped d.logDrop := Dev.flushCheck_shows

theorem Dev.logDrop_queue : d.logDrop.mon.queue = [] := d.logDrop_shows.keeps (·.mon.queue) (fun _ _ _ _ _ => rfl)

theorem Dev.logDrop_anole : d.logDrop.anole = d.anole.filter id := d.logDrop_shows.keeps (·.anole) (fun _ _ _ _ _ => rfl)

theorem Dev.logDrop_within : Dev.Within [R.MON_STAT.at 0, R.MON_EVT.at 0] d d.logDrop := .of_same_regs d.logDrop_shows.within rfl

/-- The end of a flush leaves the flags of the log, and raises no less. -/
theorem Dev.logDrop_flags (hstop : d.fbit R.MON_STAT_LOG_STOP = true) (herr : d.fbit R.MON_EVT_LOG_ERR = true) :
    d.logDrop.fbit R.MON_STAT_LOG_STOP = true ∧ d.logDrop.fbit R.MON_EVT_LOG_ERR = true := by
  have hstop' : d.logDropped.fbit R.MON_STAT_LOG_STOP = true := hstop
  have herr' : d.logDropped.fbit R.MON_EVT_LOG_ERR = true := herr
  show d.logDropped.flushCheck.fbit _ = true ∧ d.logDropped.flushCheck.fbit _ = true
  unfold Dev.flushCheck
  split
  · have hput := Dev.within_fput (d := d.logDropped) (f := R.MON_STAT_FLUSHING) (n := 0) (v := b2n false) (l := [R.MON_STAT.at 0]) (by decide)
    refine ⟨Dev.fbit_event_mono rfl rfl (Eq.trans ?_ hstop'), Dev.fbit_event_mono rfl rfl ((hput.fbit (.inr (by decide))).trans herr')⟩
    rw [Dev.fbit, Dev.fputB, Dev.fget_fput_apart _ _ (by decide) (.inr (by decide)), Dev.fbit]
  · exact ⟨hstop', herr'⟩

theorem Dev.logStopped_flags : d.logStopped.fbit R.MON_STAT_LOG_STOP = true ∧ d.logStopped.fbit R.MON_EVT_LOG_ERR = true :=
  ⟨Dev.fbit_event_mono rfl rfl (Dev.fbit_fputB _ 0 true rfl rfl (by decide)), Dev.fbit_event _ 0 rfl rfl (by decide)⟩

/-- The frame of a write to the ring. -/
theorem onlyRegs_logWrite {flash : SMap Byte} (hw : Dev.Within [R.MON_LOG_POS.at 0, R.MON_STAT.at 0, R.MON_EVT.at 0] s.dev e) :
    OnlyRegs [R.MON_LOG_POS.at 0, R.MON_STAT.at 0, R.MON_EVT.at 0] s { s with dev := e, flash := flash } :=
  ⟨rfl, hw.staged, hw.committed, hw.applied, hw.reg⟩

theorem Dev.recordWritten_within (rest : List MonRec) (v : Nat) :
    Dev.Within [R.MON_LOG_POS.at 0, R.MON_STAT.at 0, R.MON_EVT.at 0] d (d.recordWritten rest v) :=
  .of_same_regs (Dev.recordWritten_shows rest v).within rfl

/-- The bytes outside the record stand (log entry 30). -/
theorem smGet_record_outside {bs : List Nat} (hlen : bs.length = 64 * n) (ha : ¬ (ringAddr u ≤ a ∧ a < ringAddr (u + n))) :
    smGet erased (flashProg m (ringAddr u) bs) a = smGet erased m a := by
  refine smGet_flashProg_other bs (ringAddr u) a ?_
  simp only [ringAddr] at ha ⊢
  omega

theorem runs_logWrite_written (h : s.logTurn r rest) (hneeds : s.needsOf r = [])
    (herased : ringErased s.flash (s.placeOf r) (s.placeOf r + recUnits r.type) = true) (hj : j < 64 * recUnits r.type) :
    Runs (.logWrite true true) s (fun t =>
      t.dev.mon.queue = rest ∧ t.dev.anole = s.dev.anole.tail ∧ t.dev.mon.unit = (s.placeOf r + recUnits r.type) % 4096 ∧
      t.dev.fget R.MON_LOG_POS_UNIT = (s.placeOf r + recUnits r.type) % 4096 ∧
      smGet erased t.flash (ringAddr (s.placeOf r) + j) = BitVec.ofNat 8 (r.bytes.getD j 0) ∧
      (¬ (ringAddr (s.placeOf r) ≤ a ∧ a < ringAddr (s.placeOf r + recUnits r.type)) → smGet erased t.flash a = smGet erased s.flash a) ∧
      OnlyRegs [R.MON_LOG_POS.at 0, R.MON_STAT.at 0, R.MON_EVT.at 0] s t ∧ t.lily = s.lily) := by
  have hclear : s.ringCleared r = s.flash := by rw [State.ringCleared, hneeds]; rfl
  have hshows := Dev.recordWritten_shows (d := s.dev) rest ((s.placeOf r + recUnits r.type) % 4096)
  refine ⟨_, exec_logWrite_written h, hshows.keeps (·.mon.queue) (fun _ _ _ _ _ => rfl), hshows.keeps (·.anole) (fun _ _ _ _ _ => rfl),
    hshows.keeps (·.mon.unit) (fun _ _ _ _ _ => rfl), ?_, ?_, fun ha => ?_, onlyRegs_logWrite (Dev.recordWritten_within _ _), rfl⟩
  · rw [Dev.recordWritten, (Dev.flushCheck_shows.within.fget (.inr (by decide))), Dev.fget_fput _ _ _ _ (by decide) (by decide) rfl]
    exact Nat.mod_mod _ _
  · have hfree : smGet erased s.flash (ringAddr (s.placeOf r) + j) = 0xFF := by
      refine smGet_of_ringErased herased ?_
      simp only [ringAddr]
      omega
    rw [hclear, smGet_flashProg _ _ (by rwa [MonRec.length_bytes]), hfree, BitVec.and_comm]
    exact BitVec.and_allOnes
  · rw [smGet_record_outside (MonRec.length_bytes r) ha, hclear]

theorem runs_logWrite_missed (h : s.logTurn r rest) (hneeds : s.needsOf r = []) :
    Runs (.logWrite true false) s (fun t => t.dev.mon.queue = s.dev.mon.queue ∧ t.dev.anole = s.dev.anole ∧
      t.dev.mon.unit = (s.placeOf r / s.dev.ringSector + 1) * s.dev.ringSector % 4096 ∧
      (¬ (ringAddr (s.placeOf r) ≤ a ∧ a < ringAddr (s.placeOf r + recUnits r.type)) → smGet erased t.flash a = smGet erased s.flash a) ∧
      OnlyRegs [R.MON_LOG_POS.at 0, R.MON_STAT.at 0, R.MON_EVT.at 0] s t ∧ t.lily = s.lily) := by
  have hclear : s.ringCleared r = s.flash := by rw [State.ringCleared, hneeds]; rfl
  refine ⟨_, exec_logWrite_missed h, h.2.1.symm, rfl, rfl, fun ha => ?_, onlyRegs_logWrite (.fput (.of_regs rfl) (by decide)), rfl⟩
  rw [smGet_record_outside (length_freeBytes _ _) ha, hclear]

theorem runs_logWrite_erased (h : s.logTurn r rest) (hneeds : s.needsOf r = [v]) :
    Runs (.logWrite true true) s (fun t => t.dev.mon.queue = rest ∧
      (ringAddr v ≤ a ∧ a < ringAddr (v + s.dev.ringSector) →
        ¬ (ringAddr (s.placeOf r) ≤ a ∧ a < ringAddr (s.placeOf r + recUnits r.type)) → smGet erased t.flash a = 0xFF) ∧
      (¬ (ringAddr v ≤ a ∧ a < ringAddr (v + s.dev.ringSector)) →
        ¬ (ringAddr (s.placeOf r) ≤ a ∧ a < ringAddr (s.placeOf r + recUnits r.type)) → smGet erased t.flash a = smGet erased s.flash a) ∧
      OnlyRegs [R.MON_LOG_POS.at 0, R.MON_STAT.at 0, R.MON_EVT.at 0] s t ∧ t.lily = s.lily) := by
  have hclear : s.ringCleared r = ringErase s.flash v s.dev.ringSector := by rw [State.ringCleared, hneeds]; rfl
  have hshows := Dev.recordWritten_shows (d := s.dev) rest ((s.placeOf r + recUnits r.type) % 4096)
  refine ⟨_, exec_logWrite_written h, hshows.keeps (·.mon.queue) (fun _ _ _ _ _ => rfl), fun hv ha => ?_, fun hv ha => ?_,
    onlyRegs_logWrite (Dev.recordWritten_within _ _), rfl⟩
  · rw [smGet_record_outside (MonRec.length_bytes r) ha, hclear, smGet_ringErase, if_pos hv]
  · rw [smGet_record_outside (MonRec.length_bytes r) ha, hclear, smGet_ringErase, if_neg hv]

theorem runs_logWrite_failed (h : s.logTurn r rest) (hneeds : s.needsOf r ≠ []) :
    Runs (.logWrite false true) s (fun t =>
      (¬ (ringAddr ((s.needsOf r).headD 0) ≤ a ∧ a < ringAddr ((s.needsOf r).headD 0) + 64 * s.dev.ringSector) →
        smGet erased t.flash a = smGet erased s.flash a) ∧
      t.dev.mon.queue = [] ∧ t.dev.anole = s.dev.anole.filter id ∧
      t.dev.fbit R.MON_STAT_LOG_STOP = true ∧ t.dev.fbit R.MON_EVT_LOG_ERR = true ∧
      OnlyRegs [R.MON_LOG_POS.at 0, R.MON_STAT.at 0, R.MON_EVT.at 0] s t ∧ t.lily = s.lily) := by
  have hflags := Dev.logDrop_flags (Dev.logStopped_flags (d := s.dev)).1 (Dev.logStopped_flags (d := s.dev)).2
  have hanole : s.dev.logStopped.anole = s.dev.anole := by simp [Dev.logStopped, Dev.fputB, Dev.event]
  refine ⟨_, exec_logWrite_failed h hneeds, fun ha => ?_, Dev.logDrop_queue, Dev.logDrop_anole.trans (by rw [hanole]), hflags.1, hflags.2,
    onlyRegs_logWrite ((Dev.logStopped_within.trans Dev.logDrop_within).mono (by simp)), rfl⟩
  rw [smGet_smSetList, dif_neg]
  rw [List.length_map, length_freeBytes]
  omega

/-! ### The read position -/

theorem Dev.setRd_within (p : Option Nat) : Dev.Within [R.MON_STAT.at 0] d (d.setRd p) :=
  Dev.Within.of_same_regs (g := d.setMon { d.mon with rd := p }) (.fput .refl (by decide)) rfl

theorem Dev.setRd_reads (p : Option Nat) : (d.setRd p).mon.rd = p ∧ (d.setRd p).fbit R.MON_STAT_RD_END = false :=
  ⟨by simp [Dev.setRd, Dev.fputB], Dev.fbit_fputB _ 0 false rfl rfl (by decide)⟩

theorem runs_rdOldest (hup : s.dev.inReset = false) :
    Runs .rdOldest s (fun t => (t.dev.mon.rd = none ∧ t.dev.fbit R.MON_STAT_RD_END = false) ∧ Only [R.MON_STAT.at 0] s t) := by
  have hexec : exec .rdOldest s = .next { s with dev := s.dev.setRd none } := by
    show execRdOldest s = _
    rw [execRdOldest, nextDev, if_neg (by simp [hup])]
    rfl
  exact ⟨_, hexec, Dev.setRd_reads _, (Dev.setRd_within _).only⟩

/-- The newest COUNTERS record of the ring (R593). -/
def newestCounters (flash : SMap Byte) : Option RingRec := ringNewest ((ringAll flash).filter (fun x => x.type == 1))

theorem Dev.monNewest_some {flash : SMap Byte} (h : newestCounters flash = some q) (hsfdp : d.boot.sfdp.isSome = true) :
    d.monNewest flash = d.setRd (some q.seq) := by
  rw [newestCounters] at h
  unfold Dev.monNewest
  generalize ringNewest ((ringAll flash).filter (fun x => x.type == 1)) = newest at h ⊢
  subst h
  exact if_neg (by simpa using Option.isSome_iff_ne_none.1 hsfdp)

theorem Dev.monNewest_none {flash : SMap Byte} (h : newestCounters flash = none) : d.monNewest flash = d := by
  rw [newestCounters] at h
  unfold Dev.monNewest
  generalize ringNewest ((ringAll flash).filter (fun x => x.type == 1)) = newest at h ⊢
  subst h
  rfl

theorem exec_rdNewest : exec .rdNewest s = .next { s with dev := if s.dev.inReset then s.dev else s.dev.monNewest s.flash } := rfl

theorem runs_rdNewest (hup : s.dev.inReset = false) (hsfdp : s.dev.boot.sfdp.isSome = true) (hnewest : newestCounters s.flash = some q) :
    Runs .rdNewest s (fun t => (t.dev.mon.rd = some q.seq ∧ t.dev.fbit R.MON_STAT_RD_END = false) ∧ Only [R.MON_STAT.at 0] s t) := by
  have hexec : exec .rdNewest s = .next { s with dev := s.dev.setRd (some q.seq) } := by
    rw [exec_rdNewest, hup, Dev.monNewest_some hnewest hsfdp, if_neg (by decide)]
  exact ⟨_, hexec, Dev.setRd_reads _, (Dev.setRd_within _).only⟩

theorem exec_rdNewest_none (hnewest : newestCounters s.flash = none) : exec .rdNewest s = .next s := by
  rw [exec_rdNewest, Dev.monNewest_none hnewest, ite_self]

theorem runs_rdSeqWrite (w : BitVec 16) (hup : s.dev.inReset = false) :
    Runs (.rdSeqWrite w) s (fun t =>
      (t.dev.mon.rd = some (s.dev.fget R.MON_RD_SEQ_HI_SEQ * 65536 + w.toNat) ∧ t.dev.fbit R.MON_STAT_RD_END = false) ∧
      t.dev.fget R.MON_RD_SEQ_LO_SEQ = w.toNat ∧ Only [R.MON_STAT.at 0, R.MON_RD_SEQ_LO.at 0] s t) := by
  have hexec : exec (.rdSeqWrite w) s = .next { s with dev := s.dev.monSeqWrite w.toNat } := by
    show execRdSeqWrite w s = _
    rw [execRdSeqWrite, nextDev, if_neg (by simp [hup])]
  have hfirst : Dev.Within [R.MON_STAT.at 0, R.MON_RD_SEQ_LO.at 0] s.dev (s.dev.fput R.MON_RD_SEQ_LO_SEQ 0 w.toNat) := .fput .refl (by decide)
  have hread : Dev.Within [R.MON_STAT.at 0] (s.dev.fput R.MON_RD_SEQ_LO_SEQ 0 w.toNat) (s.dev.monSeqWrite w.toNat) := Dev.setRd_within _
  refine ⟨_, hexec, Dev.setRd_reads _, ?_, (hfirst.trans (hread.mono (by simp))).only⟩
  exact (hread.fget (.inr (by decide))).trans ((Dev.fget_fput _ _ _ _ (by decide) (by decide) rfl).trans (Nat.mod_eq_of_lt w.isLt))

end
end Sys2Proof.Machine

/-!
SUPPORT. A transaction of the host that reads the log (R522, R528, R593): what the bus leaves alone as the pointer passes and the transaction turns.
-/
namespace Sys2Proof.Machine

section
variable {d e g : Dev} {s : State} {p : Nat} {q : RingRec}

/-- From `d` to `e` the bus moves and frozen sets may be released: of the registers only the count of deferred in-band requests changes, and the
log and the boot stand. -/
structure Dev.BusKeeps (d e : Dev) : Prop where
  within : Dev.Within [R.HIF_INB_DEFER.at 0] d e
  mon : e.mon = d.mon
  boot : e.boot = d.boot

theorem Dev.BusKeeps.trans (h₁ : Dev.BusKeeps d e) (h₂ : Dev.BusKeeps e g) : Dev.BusKeeps d g :=
  ⟨h₁.within.trans h₂.within, h₂.mon.trans h₁.mon, h₂.boot.trans h₁.boot⟩

theorem Dev.BusKeeps.refl : Dev.BusKeeps d d := ⟨.refl, rfl, rfl⟩

theorem Dev.updBus_keeps (f : BusSt → BusSt) : Dev.BusKeeps d (d.updBus f) := ⟨.of_regs rfl, rfl, rfl⟩

theorem Dev.inbDefer_keeps : Dev.BusKeeps d d.inbDefer := by
  unfold Dev.inbDefer
  split
  · exact .refl
  · exact ⟨.bump (.of_regs rfl) (by decide), rfl, rfl⟩

theorem Dev.busFeed_keeps (bs : List Nat) : Dev.BusKeeps d (d.busFeed bs) := Dev.updBus_keeps _

theorem Dev.busStart_keeps (rd : Bool) : Dev.BusKeeps d (d.busStart rd) :=
  (Dev.inbDefer_keeps.trans (Dev.updBus_keeps _)).trans (Dev.busFeed_keeps _)

theorem Dev.busAgain_keeps (rd : Bool) : Dev.BusKeeps d (d.busAgain rd) := Dev.BusKeeps.trans (Dev.updBus_keeps _) (Dev.busFeed_keeps _)

theorem Dev.busStop_keeps : Dev.BusKeeps d d.busStop := ⟨.of_regs rfl, rfl, rfl⟩

theorem Dev.busPointer_keeps (hp : p ≠ 0xF011) : Dev.BusKeeps d (d.busPointer p) := by
  unfold Dev.busPointer
  split
  · exact .refl
  · rw [if_neg (by simp [hp])]
    exact (Dev.busFeed_keeps _).trans (Dev.updBus_keeps _)

theorem Dev.busOpen_keeps (again : Bool) (hp : p ≠ 0xF011) : Dev.BusKeeps d (d.busOpen again p) := by
  unfold Dev.busOpen
  split
  · exact (Dev.busAgain_keeps false).trans (Dev.busPointer_keeps hp)
  · split
    · exact (Dev.busStop_keeps.trans (Dev.busStart_keeps false)).trans (Dev.busPointer_keeps hp)
    · exact (Dev.busStart_keeps false).trans (Dev.busPointer_keeps hp)

theorem Dev.busTurn_keeps : Dev.BusKeeps d d.busTurn := by
  unfold Dev.busTurn
  split
  · exact (Dev.busAgain_keeps true).trans (Dev.updBus_keeps _)
  · exact (Dev.busStart_keeps true).trans (Dev.updBus_keeps _)

/-- A host read of one register: the bus moves to its pointer, and then the register is read whole (R522). -/
theorem Dev.readRow_reads (hp : p ≠ 0xF011) (hdead : d.bus.dead = false) :
    ∃ e : Dev, Dev.BusKeeps d e ∧ e.bus.pointer = p ∧ d.readRow p = e.readOne := by
  rw [Dev.readRow, if_neg (by simp [hdead])]
  simp only []
  have hopen : Dev.BusKeeps d (if d.bus.active && d.bus.pointer == p then d else d.busOpen true p) ∧
      (if d.bus.active && d.bus.pointer == p then d else d.busOpen true p).bus.pointer = p := by
    split
    · rename_i hthere
      exact ⟨.refl, beq_iff_eq.1 (Bool.and_eq_true_iff.1 hthere).2⟩
    · exact ⟨Dev.busOpen_keeps true hp, (Dev.busOpen_again_moved hp hdead).2⟩
  generalize (if d.bus.active && d.bus.pointer == p then d else d.busOpen true p) = o at hopen ⊢
  obtain ⟨hkeeps, hpointer⟩ := hopen
  split
  · exact ⟨o, hkeeps, hpointer, rfl⟩
  · exact ⟨o.busTurn, hkeeps.trans Dev.busTurn_keeps, Dev.busTurn_moved.2.trans hpointer, rfl⟩

theorem runs_monSeqCapture (hrest : s.dev.inReset = false ∧ s.dev.chainHeld = false ∧ s.dev.bus.dead = false) :
    Runs .monSeqCapture s (fun t => Wrote s t R.MON_SEQ_LO_SEQ 0 (s.dev.mon.seq % 65536) ∧ Only [R.MON_SEQ_LO.at 0, R.HIF_INB_DEFER.at 0] s t) := by
  obtain ⟨hreset, hchain, hdead⟩ := hrest
  have hexec : exec .monSeqCapture s = .next { s with dev := s.dev.busEdge.readRow 0x01C6 } := by
    show execMonSeqCapture s = _
    rw [execMonSeqCapture, nextDev, Dev.onBus, if_neg (by simp [hreset, hchain])]
  have hedge : Dev.BusKeeps s.dev s.dev.busEdge := Dev.updBus_keeps _
  obtain ⟨e, hkeeps, hpointer, hread⟩ := Dev.readRow_reads (d := s.dev.busEdge) (p := 0x01C6) (by decide) hdead
  have hbus := hedge.trans hkeeps
  have hregs : (s.dev.busEdge.readRow 0x01C6).regs = (e.fput R.MON_SEQ_LO_SEQ 0 (s.dev.mon.seq % 65536)).regs := by
    rw [hread, Dev.regs_readOne (by rw [hpointer]; exact fun _ => rfl), hpointer, ← hbus.mon]
    rfl
  refine ⟨_, hexec, ?_, ?_⟩
  · exact (Dev.reg_of_regs hregs).trans (hbus.within.reg_fput (by decide))
  · exact (((hbus.within.mono (by simp)).trans (Dev.within_fput (by decide))).beside hregs).only

/-- A block whose last byte is the last clocked out is sent whole (R528). -/
theorem Dev.sendBlock_whole (hout : d.bus.out = []) {block : List Nat} {clocked : Nat} (hlen : block.length = clocked + 1) :
    (d.sendBlock block clocked).bus.out = block := by
  have hsent : ∃ tail, (d.busSend block).busSendPec.bus.out = block ++ tail := by
    have hfirst : (d.busSend block).bus.out = block := by
      show d.bus.out ++ block = block
      rw [hout, List.nil_append]
    unfold Dev.busSendPec
    split
    · refine ⟨[(d.busSend block).bus.crc], ?_⟩
      show (d.busSend block).bus.out ++ _ = _
      rw [hfirst]
    · exact ⟨[], by rw [hfirst, List.append_nil]⟩
  obtain ⟨tail, htail⟩ := hsent
  show ((d.busSend block).busSendPec.bus.out ++ _).take (clocked + 1) = block
  rw [htail, List.append_assoc, ← hlen, List.take_left]

theorem Dev.busSend_keeps (bs : List Nat) : Dev.BusKeeps d (d.busSend bs) := (Dev.busFeed_keeps bs).trans (Dev.updBus_keeps _)

theorem Dev.sendBlock_keeps (block : List Nat) (clocked : Nat) : Dev.BusKeeps d (d.sendBlock block clocked) := by
  have hpec (e : Dev) : Dev.BusKeeps e e.busSendPec := by
    unfold Dev.busSendPec
    split
    · exact Dev.busSend_keeps _
    · exact .refl
  unfold Dev.sendBlock
  exact ((Dev.busSend_keeps block).trans (hpec _)).trans (Dev.updBus_keeps _)

theorem Dev.rdRecord_of_keeps (h : Dev.BusKeeps d e) (flash : SMap Byte) : e.rdRecord flash = d.rdRecord flash := by
  unfold Dev.rdRecord
  rw [h.mon, h.boot]

/-- A log read that finds a record and clocks it out whole answers it, and moves on (R593). -/
theorem Dev.logRead_whole {flash : SMap Byte} (h : d.rdRecord flash = some q) :
    d.logRead flash q.bytes.length = (q.bytes.length :: q.bytes, d.setRd (some ((q.seq + 1) % 2 ^ 32))) := by
  unfold Dev.logRead
  generalize d.rdRecord flash = found at h ⊢
  subst h
  exact congrArg (Prod.mk _) (if_pos (Nat.le_refl _))

theorem runs_logRead (hup : s.dev.inReset = false) (hchain : s.dev.chainHeld = false) (hrec : s.dev.rdRecord s.flash = some q) :
    Runs (.logRead q.bytes.length) s (fun t => t.dev.bus.out = q.bytes.length :: q.bytes ∧
      (t.dev.mon.rd = some ((q.seq + 1) % 2 ^ 32) ∧ t.dev.fbit R.MON_STAT_RD_END = false) ∧ Only [R.MON_STAT.at 0, R.HIF_INB_DEFER.at 0] s t) := by
  let e := (s.dev.busEdge.busOpen false 0xF020).busTurn
  have hexec : exec (.logRead q.bytes.length) s = .next { s with dev := e.logSend s.flash q.bytes.length } := by
    show execLogRead q.bytes.length s = _
    rw [execLogRead, nextDev, Dev.onBus, if_neg (by simp [hup, hchain])]
  have hbus : Dev.BusKeeps s.dev e := ((Dev.updBus_keeps _).trans (Dev.busOpen_keeps false (by decide))).trans Dev.busTurn_keeps
  have hout : e.bus.out = [] := rfl
  have hsend : e.logSend s.flash q.bytes.length =
      (e.setRd (some ((q.seq + 1) % 2 ^ 32))).sendBlock (q.bytes.length :: q.bytes) q.bytes.length := by
    rw [Dev.logSend, Dev.logRead_whole ((Dev.rdRecord_of_keeps hbus s.flash).trans hrec)]
  generalize e = e at *
  have hkeeps := (Dev.setRd_within (d := e) (some ((q.seq + 1) % 2 ^ 32)))
  obtain ⟨hrd, hend⟩ := Dev.setRd_reads (d := e) (some ((q.seq + 1) % 2 ^ 32))
  have hblock := Dev.sendBlock_keeps (d := e.setRd (some ((q.seq + 1) % 2 ^ 32))) (q.bytes.length :: q.bytes) q.bytes.length
  refine ⟨_, hexec, ?_, ?_, ?_⟩
  · rw [hsend]
    exact Dev.sendBlock_whole (d := e.setRd _) hout (List.length_cons ..)
  · rw [hsend]
    exact ⟨by rw [hblock.mon, hrd], (hblock.within.fbit (.inr (by decide))).trans hend⟩
  · rw [hsend]
    exact (((hbus.within.mono (by simp)).trans (hkeeps.mono (by simp))).trans (hblock.within.mono (by simp))).only

end

/-- Settles O51: each command of the log by its own cases, in the order of the statement. A write of the ring turns on what stands in the flash: the
bytes outside the record, and outside the sectors erased for it, are those of before. -/
theorem moultRecordsAndRing : Obligations.MoultRecordsAndRing := by
  unfold Obligations.MoultRecordsAndRing
  intro s r rest a j v w q
  refine ⟨fun hup hlogs => runs_countersPair_boot hup hlogs, fun hup hlogs => runs_countersPair_hour hup hlogs,
    fun hboot hhour => runs_self_of_exec (exec_countersPair_early hboot hhour),
    fun hup hlogs => runs_moultFlush hup hlogs, fun hup h => runs_self_of_exec (exec_moultFlush_flushing hup h),
    fun hlogs hfirst => runs_logWrite_written ⟨hlogs, hfirst⟩, fun hlogs hfirst => runs_logWrite_missed ⟨hlogs, hfirst⟩,
    fun hlogs hfirst hneeds _ => runs_logWrite_erased ⟨hlogs, hfirst⟩ hneeds, fun hlogs hfirst => runs_logWrite_failed ⟨hlogs, hfirst⟩,
    fun h => runs_self_of_exec (exec_logWrite_waits h), runs_rdOldest, runs_rdNewest, fun h => runs_self_of_exec (exec_rdNewest_none h),
    runs_rdSeqWrite w, runs_monSeqCapture, runs_logRead⟩

end Sys2Proof.Machine

/-!
SUPPORT. The calibration journal (R134 to R140): the handover of a record, its 128 bytes in the flash, and the erase of the other slot.
-/
namespace Sys2Proof.Machine

section
variable {d e g : Dev} {s : State} {m : SMap Byte} {a seq slot pos : Nat} {r : JnlRec} {rest : List JnlRec} {bs : List Nat}

/-! ### Handover -/

/-- The record of both inputs' sets in force. -/
def Dev.jnlRecord (d : Dev) : JnlRec := ⟨max (d.bicOf 0).time (d.bicOf 1).time, (d.bicOf 0).corr, (d.bicOf 1).corr⟩

/-- The spacing of two records (R135). -/
def Dev.jnlSpacing (d : Dev) : Nat := d.fget R.BIC_JNL_MIN_INT * 60 * Config.sysPerSecond

theorem runs_journalHandover (hdirty : s.dev.jnl.dirty = true) (hgoes : s.dev.fget R.BIC_JNL_STAT_STOPPED ≠ 1)
    (hpast : s.dev.jnl.last.all (fun c => decide (s.dev.jnlSpacing ≤ s.dev.since c)) = true) :
    Runs .journalHandover s (fun t => t.dev.jnl.dirty = false ∧ t.dev.jnl.last = some s.dev.time.clk ∧
      t.dev.jnl.queue = s.dev.jnl.queue ++ [s.dev.jnlRecord] ∧ t.dev.anole = s.dev.anole ++ [true] ∧ Only [] s t) := by
  have hstop : s.dev.fbit R.BIC_JNL_STAT_STOPPED = false := by simpa [Dev.fbit] using hgoes
  have hexec : exec .journalHandover s = .next { s with dev := { s.dev with
      anole := s.dev.anole ++ [true]
      jnl := { s.dev.jnl with dirty := false, last := some s.dev.time.clk, queue := s.dev.jnl.queue ++ [s.dev.jnlRecord] } } } := by
    show execJournalHandover s = _
    cases hlast : s.dev.jnl.last with
    | none => simp only [execJournalHandover, nextDev, hlast, hdirty, hstop, Bool.not_false, Bool.and_self, if_true, Dev.jnlRecord]
    | some c =>
      rw [hlast, Option.all_some, decide_eq_true_eq, Dev.jnlSpacing] at hpast
      simp only [execJournalHandover, nextDev, hlast, decide_eq_true hpast, hdirty, hstop, Bool.not_false, Bool.and_self, if_true, Dev.jnlRecord]
  exact ⟨_, hexec, rfl, rfl, rfl, rfl, (Dev.Within.of_regs rfl).only⟩

theorem exec_journalHandover_early (h : s.dev.jnl.last.any (fun c => decide (s.dev.since c < s.dev.jnlSpacing)) = true) :
    exec .journalHandover s = .next s := by
  obtain ⟨c, hlast, hearly⟩ := (Option.any_eq_true _ _).1 h
  have hdue : decide (s.dev.fget R.BIC_JNL_MIN_INT * 60 * Config.sysPerSecond ≤ s.dev.since c) = false :=
    decide_eq_false (Nat.not_le.2 (of_decide_eq_true hearly))
  show execJournalHandover s = _
  simp only [execJournalHandover, nextDev, hlast, hdue, Bool.and_false, Bool.false_and, Bool.false_eq_true, if_false]

/-! ### The flash -/

theorem length_corrBytes (x : Nat) (c : Option (List LaneCorr)) : (corrBytes x c).length = 48 := by
  simp [corrBytes, beWord, List.range, List.range.loop]

/-- A journal record is 128 bytes long. -/
theorem length_jnlBytes (seq : Nat) (r : JnlRec) : (jnlBytes seq r).length = 128 := by
  simp [jnlBytes, length_corrBytes, length_be32, be64, beWord]

/-- A list of bytes written from `k` on. -/
theorem smGet_smSetList_bytes {k : Nat} : smGet erased (smSetList erased m k (bs.map (BitVec.ofNat 8))) a =
    if k ≤ a ∧ a < k + bs.length then BitVec.ofNat 8 (bs.getD (a - k) 0) else smGet erased m a := by
  rw [smGet_smSetList]
  by_cases hin : k ≤ a ∧ a < k + bs.length
  · have hlt : a - k < bs.length := by omega
    rw [if_pos hin, dif_pos (by simpa using ⟨hin.1, hlt⟩), List.getElem_map, List.getD_eq_getElem _ _ hlt]
  · rw [if_neg hin, dif_neg (by rw [List.length_map]; omega)]

theorem jnlAddr_end (slot : Nat) : jnlAddr slot 512 = jnlAddr slot 0 + 65536 := by
  unfold jnlAddr
  omega

/-! ### A record is written -/

/-- The oldest record `r` is next for the flash (R28, R80). -/
def Dev.jnlTurn (d : Dev) (r : JnlRec) (rest : List JnlRec) : Prop :=
  d.fget R.BIC_JNL_STAT_STOPPED ≠ 1 ∧ d.jnl.queue = r :: rest ∧ d.anole.head? = some true ∧ d.flashBusy = false

/-- The bytes of the record that is written next. -/
def Dev.jnlNextBytes (d : Dev) (r : JnlRec) : List Nat := jnlBytes ((d.jnl.seq + 1) % 2 ^ 32) r

/-- The block once the oldest record stands before position `pos` of `slot`. -/
def Dev.jnlAfter (d : Dev) (rest : List JnlRec) (slot pos : Nat) : Dev :=
  { d with jnl := { d.jnl with queue := rest, slot := slot, pos := pos, seq := d.jnl.seq + 1 }, anole := d.anole.tail }

/-- The other slot is erased (R136). -/
def jnlErase (m : SMap Byte) (slot : Nat) : SMap Byte := smDrop (fun a => decide (jnlAddr slot 0 ≤ a) && decide (a < jnlAddr slot 512)) m

/-- The block once writing has stopped at an erase that failed (R139). -/
def Dev.jnlStopped (d : Dev) : Dev :=
  (({ d with
    jnl := { d.jnl with queue := [], dirty := false }, anole := d.anole.filter (fun b => !b), freeIdx := d.freeIdx + 65536 }).fputB
    R.BIC_JNL_STAT_STOPPED 0 true).event R.BIC_EVT_JNL_ERR

theorem exec_journalWrite_waits (h : s.dev.anole.head? = some false ∨ s.dev.flashBusy = true) : exec (.journalWrite true true) s = .next s := by
  have hfree : s.dev.anoleFree true = false := by
    obtain hhead | hbusy := h
    · simp [Dev.anoleFree, hhead]
    · simp [Dev.anoleFree, hbusy]
  show execJournalWrite true true s = _
  simp only [execJournalWrite, hfree, Bool.not_false, Bool.or_true, if_true]
  split <;> rfl

theorem Dev.jnlTurn.free (h : s.dev.jnlTurn r rest) : (s.dev.fbit R.BIC_JNL_STAT_STOPPED || !s.dev.anoleFree true) = false := by
  obtain ⟨hgoes, -, hhead, hbusy⟩ := h
  simpa [Dev.fbit, Dev.anoleFree, hhead, hbusy] using hgoes

theorem exec_journalWrite_free (h : s.dev.jnlTurn r rest) (hpos : s.dev.jnl.pos < 512) :
    exec (.journalWrite true true) s = .next { s with
      dev := (s.dev.jnlAfter rest s.dev.jnl.slot (s.dev.jnl.pos + 1)).jnlShow
      flash := smSetList erased s.flash (jnlAddr s.dev.jnl.slot s.dev.jnl.pos) ((s.dev.jnlNextBytes r).map (BitVec.ofNat 8)) } := by
  have hfull : ¬ s.dev.jnl.pos = 512 := by omega
  show execJournalWrite true true s = _
  simp only [execJournalWrite, h.2.1, h.free, hfull, Bool.false_eq_true, decide_false, Bool.false_and, if_false, if_true]
  rfl

theorem exec_journalWrite_full (h : s.dev.jnlTurn r rest) (hpos : s.dev.jnl.pos = 512) :
    exec (.journalWrite true true) s = .next { s with
      dev := (s.dev.jnlAfter rest (1 - s.dev.jnl.slot) 1).jnlShow
      flash := smSetList erased (jnlErase s.flash (1 - s.dev.jnl.slot)) (jnlAddr (1 - s.dev.jnl.slot) 0)
        ((s.dev.jnlNextBytes r).map (BitVec.ofNat 8)) } := by
  have hfull : (s.dev.jnl.pos = 512) = True := eq_true hpos
  show execJournalWrite true true s = _
  simp only [execJournalWrite, h.2.1, h.free, hfull, Bool.false_eq_true, Bool.not_true, Bool.and_false, if_false, if_true]
  rfl

theorem exec_journalWrite_stops (h : s.dev.jnlTurn r rest) (hpos : s.dev.jnl.pos = 512) :
    exec (.journalWrite false true) s = .next { s with
      dev := s.dev.jnlStopped
      flash := smSetList erased s.flash (jnlAddr (1 - s.dev.jnl.slot) 0) ((freeBytes s.dev.freeIdx 65536).map (BitVec.ofNat 8)) } := by
  have hfull : (s.dev.jnl.pos = 512) = True := eq_true hpos
  show execJournalWrite false true s = _
  simp only [execJournalWrite, h.2.1, h.free, hfull, Bool.false_eq_true, Bool.not_false, decide_true, Bool.and_self, if_false, if_true]
  rfl

theorem Dev.jnlShow_shows : Dev.Shows [R.BIC_JNL_STAT.at 0] d d.jnlShow := (Dev.Shows.refl.fput (by decide)).fput (by decide)

theorem onlyRegs_of_within {l : List Nat} {flash : SMap Byte} (hw : Dev.Within l s.dev e) : OnlyRegs l s { s with dev := e, flash := flash } :=
  ⟨rfl, hw.staged, hw.committed, hw.applied, hw.reg⟩

theorem Dev.jnlAfter_jnl (rest : List JnlRec) (slot pos : Nat) :
    (d.jnlAfter rest slot pos).jnlShow.jnl = { d.jnl with queue := rest, slot := slot, pos := pos, seq := d.jnl.seq + 1 } :=
  Dev.jnlShow_shows.keeps (·.jnl) (fun _ _ _ _ _ => rfl)

theorem Dev.jnlAfter_within (rest : List JnlRec) (slot pos : Nat) : Dev.Within [R.BIC_JNL_STAT.at 0] d (d.jnlAfter rest slot pos).jnlShow :=
  .of_same_regs Dev.jnlShow_shows.within rfl

theorem runs_journalWrite_free (h : s.dev.jnlTurn r rest) (hpos : s.dev.jnl.pos < 512) :
    Runs (.journalWrite true true) s (fun t =>
      smGet erased t.flash a = (if jnlAddr s.dev.jnl.slot s.dev.jnl.pos ≤ a ∧ a < jnlAddr s.dev.jnl.slot s.dev.jnl.pos + 128 then
        BitVec.ofNat 8 ((s.dev.jnlNextBytes r).getD (a - jnlAddr s.dev.jnl.slot s.dev.jnl.pos) 0) else smGet erased s.flash a) ∧
      t.lily = s.lily ∧ t.dev.jnl.queue = rest ∧ t.dev.jnl.pos = s.dev.jnl.pos + 1 ∧ t.dev.jnl.slot = s.dev.jnl.slot ∧
      t.dev.jnl.seq = s.dev.jnl.seq + 1 ∧ OnlyRegs [R.BIC_JNL_STAT.at 0] s t) := by
  have hjnl := Dev.jnlAfter_jnl (d := s.dev) rest s.dev.jnl.slot (s.dev.jnl.pos + 1)
  refine ⟨_, exec_journalWrite_free h hpos, ?_, rfl, ?_, ?_, ?_, ?_, onlyRegs_of_within (Dev.jnlAfter_within ..)⟩
  · rw [smGet_smSetList_bytes, Dev.jnlNextBytes, length_jnlBytes]
  all_goals simp only [hjnl]

theorem runs_journalWrite_full (h : s.dev.jnlTurn r rest) (hpos : s.dev.jnl.pos = 512) :
    Runs (.journalWrite true true) s (fun t =>
      smGet erased t.flash a = (if jnlAddr (1 - s.dev.jnl.slot) 0 ≤ a ∧ a < jnlAddr (1 - s.dev.jnl.slot) 0 + 128 then
        BitVec.ofNat 8 ((s.dev.jnlNextBytes r).getD (a - jnlAddr (1 - s.dev.jnl.slot) 0) 0)
        else if jnlAddr (1 - s.dev.jnl.slot) 0 ≤ a ∧ a < jnlAddr (1 - s.dev.jnl.slot) 512 then 0xFF else smGet erased s.flash a) ∧
      t.lily = s.lily ∧ t.dev.jnl.pos = 1 ∧ t.dev.jnl.slot = 1 - s.dev.jnl.slot ∧ OnlyRegs [R.BIC_JNL_STAT.at 0] s t) := by
  have hjnl := Dev.jnlAfter_jnl (d := s.dev) rest (1 - s.dev.jnl.slot) 1
  have herase : smGet erased (jnlErase s.flash (1 - s.dev.jnl.slot)) a =
      if jnlAddr (1 - s.dev.jnl.slot) 0 ≤ a ∧ a < jnlAddr (1 - s.dev.jnl.slot) 512 then 0xFF else smGet erased s.flash a := by
    simp [jnlErase, smGet_smDrop, erased]
  refine ⟨_, exec_journalWrite_full h hpos, ?_, rfl, ?_, ?_, onlyRegs_of_within (Dev.jnlAfter_within ..)⟩
  · rw [smGet_smSetList_bytes, Dev.jnlNextBytes, length_jnlBytes, herase]
  all_goals simp only [hjnl]

theorem runs_journalWrite_stops (h : s.dev.jnlTurn r rest) (hpos : s.dev.jnl.pos = 512) :
    Runs (.journalWrite false true) s (fun t => t.dev.jnl.queue = [] ∧ Wrote s t R.BIC_JNL_STAT_STOPPED 0 1 ∧ Raised s t R.BIC_EVT_JNL_ERR ∧
      (a < jnlAddr (1 - s.dev.jnl.slot) 0 ∨ jnlAddr (1 - s.dev.jnl.slot) 512 ≤ a → smGet erased t.flash a = smGet erased s.flash a) ∧ t.lily = s.lily ∧
      OnlyRegs [R.BIC_JNL_STAT.at 0, R.BIC_EVT.at 0] s t) := by
  have hput : Dev.Within [R.BIC_JNL_STAT.at 0] s.dev (({ s.dev with
      jnl := { s.dev.jnl with queue := [], dirty := false }, anole := s.dev.anole.filter (fun b => !b), freeIdx := s.dev.freeIdx + 65536 }).fputB
      R.BIC_JNL_STAT_STOPPED 0 true) := .fput (.of_regs rfl) (by decide)
  refine ⟨_, exec_journalWrite_stops h hpos, ?_, ?_, hput.reg_event (by decide), fun ha => ?_, rfl,
    onlyRegs_of_within ((hput.mono (by simp)).event (by decide))⟩
  · simp [Dev.jnlStopped, Dev.fputB, Dev.event]
  · rw [Wrote, State.reg_eq, Dev.jnlStopped, Dev.reg_event, if_neg (by decide), Dev.fputB, Dev.reg_fput, if_pos rfl]
    rfl
  · rw [jnlAddr_end] at ha
    rw [smGet_smSetList_bytes, length_freeBytes, if_neg (by omega)]

end

/-- Settles O6: the handover and the write of a record by their own cases, in the order of the statement. -/
theorem bicJournal : Obligations.BicJournal := by
  unfold Obligations.BicJournal
  intro s r rest a
  exact ⟨runs_journalHandover, fun h => runs_self_of_exec (exec_journalWrite_waits h), fun h => runs_self_of_exec (exec_journalHandover_early h),
    fun h => runs_journalWrite_free h, fun h => runs_journalWrite_full h, fun h => runs_journalWrite_stops h⟩

end Sys2Proof.Machine

/-!
SUPPORT. Managed requests (R148 to R152): where a target is received, where a new context is placed, and what a request leaves; the ends of the linger
and the release of all.
-/
namespace Sys2Proof.Machine

section
variable {d e : Dev} {s : State} {pool freq src n p : Nat} {l : List Nat} {t : MgdTarget}

/-- The run-time state of an entry after a change of it. -/
theorem Dev.ctxOf_updCtx (f : CtxSt → CtxSt) : (d.updCtx pool n f).ctxOf pool n = f (d.ctxOf pool n) := by
  simp [Dev.ctxOf, Dev.updCtx]

theorem Dev.ctxOf_of_ctx (h : e.ctx = d.ctx) (pool n : Nat) : e.ctxOf pool n = d.ctxOf pool n := by rw [Dev.ctxOf, h, Dev.ctxOf]

theorem Dev.ctx_fput (d : Dev) (f : Fld) (n v : Nat) : (d.fput f n v).ctx = d.ctx := by simp

theorem Dev.fget_of_regs (h : e.regs = d.regs) (f : Fld) (n : Nat) : e.fget f n = d.fget f n := by rw [Dev.fget, Dev.word, h, Dev.fget, Dev.word]

/-! ### What the placing looks at -/

/-- From `d` to `e` the request has been counted: the contexts, and what is known of them, stand. -/
structure Dev.Asked (d e : Dev) : Prop where
  within : Dev.Within [R.PRG_REQUESTS.at 0] d e
  ctx : e.ctx = d.ctx

theorem Dev.bump_asked : Dev.Asked d (d.bump R.PRG_REQUESTS_COUNT) := ⟨.bump .refl (by decide), by simp [Dev.bump, Dev.bumpBy]⟩

/-- No status register of an entry is `PRG_REQUESTS`. -/
theorem ctxFld_at_ne (hpool : pool ≤ 4) (hn : n < poolSize pool) (hi lo : Nat) : (ctxFld pool 2 hi lo false).at n ≠ R.PRG_REQUESTS.at 0 := by
  have hreq : R.PRG_REQUESTS.at 0 = 0x051D := rfl
  rw [hreq]
  obtain rfl | rfl | rfl | rfl | rfl : pool = 0 ∨ pool = 1 ∨ pool = 2 ∨ pool = 3 ∨ pool = 4 := by omega
  all_goals
    simp only [ctxFld, poolBase, Fld.at, poolSize] at hn ⊢
    omega

theorem Dev.Asked.ctxState (h : Dev.Asked d e) (hpool : pool ≤ 4) (hn : n < poolSize pool) : e.ctxState pool n = d.ctxState pool n :=
  h.within.fget (.inr (by simpa using ctxFld_at_ne hpool hn 15 13))

theorem Dev.Asked.ctxOf (h : Dev.Asked d e) (pool n : Nat) : e.ctxOf pool n = d.ctxOf pool n := Dev.ctxOf_of_ctx h.ctx pool n

theorem Dev.Asked.ctxManaged (h : Dev.Asked d e) (pool n : Nat) : e.ctxManaged pool n = d.ctxManaged pool n := by
  rw [Dev.ctxManaged, h.ctxOf, Dev.ctxManaged]

/-- Two selections of contexts that agree on every entry are one. -/
theorem ctxAll_congr {f g : Nat → Nat → Bool} (h : ∀ pool n, pool ≤ 4 → n < poolSize pool → f pool n = g pool n) : ctxAll f = ctxAll g := by
  have hpool (pool : Nat) (hp : pool ≤ 4) : (List.range (poolSize pool)).filter (f pool) = (List.range (poolSize pool)).filter (g pool) :=
    List.filter_congr (fun n hn => h pool n hp (List.mem_range.1 hn))
  simp only [ctxAll, List.flatMap_cons, List.flatMap_nil, hpool 0 (by decide), hpool 1 (by decide), hpool 2 (by decide), hpool 3 (by decide)]

theorem Dev.Asked.anyShed (h : Dev.Asked d e) : e.anyShed = d.anyShed := by
  simp only [Dev.anyShed]
  rw [ctxAll_congr (fun pool n hp hn => by rw [h.ctxState hp hn, h.ctxOf])]

theorem Dev.Asked.managedCount (h : Dev.Asked d e) (pool : Nat) : e.managedCount pool = d.managedCount pool := by
  simp only [Dev.managedCount, funext (h.ctxManaged pool)]

theorem Dev.Asked.managedLimit (h : Dev.Asked d e) (pool : Nat) : e.managedLimit pool = d.managedLimit pool := by
  unfold Dev.managedLimit
  split <;> exact h.within.fget (.inl rfl)

theorem Dev.Asked.mgdFree (h : Dev.Asked d e) (hpool : pool ≤ 4) {block : Option Nat} (hblock : ∀ b ∈ block, b < poolSize pool) :
    e.mgdFree pool block = d.mgdFree pool block := by
  have hfree (n : Nat) (hn : n < poolSize pool) : (e.ctxState pool n == 0 && !e.ctxEn pool n && !e.ctxManaged pool n) =
      (d.ctxState pool n == 0 && !d.ctxEn pool n && !d.ctxManaged pool n) := by
    rw [h.ctxState hpool hn, h.ctxManaged, Dev.ctxEn, h.within.fbit (.inl rfl), Dev.ctxEn]
  unfold Dev.mgdFree
  cases block with
  | none => exact congrArg List.head? (List.filter_congr (fun n hn => hfree n (by simpa using hn)))
  | some b => simp only [hfree b (hblock b rfl)]

theorem Dev.Asked.receiving (h : Dev.Asked d e) (hpool : pool ≤ 4) (freq : Nat) : e.receiving pool freq = d.receiving pool freq :=
  congrArg List.head? (List.filter_congr (fun n hn => by rw [h.ctxState hpool (List.mem_range.1 hn), h.ctxOf]))

theorem Dev.Asked.dscNaming (h : Dev.Asked d e) (block subch : Nat) : e.dscNaming block subch = d.dscNaming block subch :=
  congrArg List.head? (List.filter_congr (fun n hn => by
    rw [h.ctxState (by decide) (List.mem_range.1 hn), h.ctxManaged, h.ctxOf, h.within.fget (.inl rfl), h.within.fget (.inl rfl)]))

/-! ### A request by its target -/

/-- The block entry that a target fixes (R148). -/
def targetBlock : MgdTarget → Option Nat
  | .dbe b => some b
  | _ => none

/-- The entry that receives a target already (R149, R263). -/
def Dev.foundOf (d : Dev) : MgdTarget → Option Nat
  | .fm f => d.receiving 0 f
  | .am f => d.receiving 1 f
  | .dbe b => d.receiving 2 b
  | .dsc b sc => d.dscNaming b sc

/-- The input setting of a context placed for a target. -/
def Dev.srcFor (d : Dev) : MgdTarget → Nat
  | .fm _ => 2
  | .dbe _ => if d.serves 2 0 then 0 else 1
  | _ => 0

theorem Dev.mgdRequest_found (h : d.foundOf t = some n) : d.mgdRequest p t = (d.mgdServed (targetKey t) p).hold (targetKey t).1 n p := by
  cases t <;> simp only [Dev.foundOf] at h <;> simp only [Dev.mgdRequest, h, targetKey]

theorem Dev.mgdRequest_none (h : d.foundOf t = none) :
    d.mgdRequest p t = d.mgdPlace (targetKey t).1 (targetKey t).2 (d.srcFor t) p (targetBlock t) := by
  cases t <;> simp only [Dev.foundOf] at h <;> simp only [Dev.mgdRequest, h, targetKey, Dev.srcFor, targetBlock]

theorem targetKey_pool (t : MgdTarget) : (targetKey t).1 ≤ 4 := by cases t <;> simp [targetKey]

theorem targetBlock_lt (t : MgdTarget) : ∀ b ∈ targetBlock t, b < poolSize (targetKey t).1 := by
  intro b hb
  cases t with
  | dbe block => exact Option.some.inj hb ▸ block.isLt
  | _ => exact absurd hb (by simp [targetBlock])

theorem Dev.Asked.foundOf (h : Dev.Asked d e) (t : MgdTarget) : e.foundOf t = d.foundOf t := by
  cases t with
  | dsc b sc => exact h.dscNaming b sc
  | _ => exact h.receiving (by decide) _

/-- No context can be placed (R48, R150). -/
def Dev.barred (d : Dev) (t : MgdTarget) : Prop :=
  d.anyShed = true ∨ d.managedLimit (targetKey t).1 ≤ d.managedCount (targetKey t).1 ∨ d.mgdFree (targetKey t).1 (targetBlock t) = none

theorem Dev.Asked.barred (h : Dev.Asked d e) (t : MgdTarget) : e.barred t ↔ d.barred t := by
  rw [Dev.barred, h.anyShed, h.managedLimit, h.managedCount, h.mgdFree (targetKey_pool t) (targetBlock_lt t), Dev.barred]

theorem Dev.mgdPlace_barred (h : d.barred t) (freq src p : Nat) :
    d.mgdPlace (targetKey t).1 freq src p (targetBlock t) = d.mgdRefuse ((targetKey t).1, freq) [p] := by
  unfold Dev.mgdPlace
  split
  · rfl
  · rename_i hopen
    obtain hshed | hlimit | hfree := h
    · simp [hshed] at hopen
    · simp [hlimit] at hopen
    · rw [hfree]

/-- The block once entry `n` is a managed context of `freq` held by programme `p`. -/
def Dev.placed (d : Dev) (pool freq src p n : Nat) : Dev :=
  ((d.mgdServed (pool, freq) p).updCtx pool n (fun c => { c with
    managed := true, granted := false, freeClk := 0, freq := freq, src := src, holders := [p], prio := d.progPrio p, release := false,
    releaseCmd := false })).fputB (ctxFld pool 2 12 12 false) n true

theorem Dev.mgdPlace_free (h : ¬ d.barred t) (hfree : d.mgdFree (targetKey t).1 (targetBlock t) = some n) (freq src p : Nat) :
    d.mgdPlace (targetKey t).1 freq src p (targetBlock t) = d.placed (targetKey t).1 freq src p n := by
  have hopen : (d.anyShed || decide (d.managedLimit (targetKey t).1 ≤ d.managedCount (targetKey t).1)) = false := by
    simp only [Dev.barred, not_or, Bool.not_eq_true] at h
    rw [h.1, decide_eq_false h.2.1, Bool.or_self]
  rw [Dev.mgdPlace, hopen, if_neg (by decide), hfree]
  rfl

theorem Dev.mgdServed_regs (key : Nat × Nat) (p : Nat) : (d.mgdServed key p).regs = d.regs ∧ (d.mgdServed key p).ctx = d.ctx := by
  unfold Dev.mgdServed
  simp only []
  split <;> exact ⟨rfl, rfl⟩

/-! ### Requests -/

theorem exec_managedRequest (p : Fin 128) (t : MgdTarget) :
    exec (.managedRequest p t) s = .next { s with dev := (s.dev.bump R.PRG_REQUESTS_COUNT).mgdRequest p t } := rfl

theorem runs_managedRequest_found {p : Fin 128} {n : Fin 256} (h : s.dev.foundOf t = some n.val) :
    Runs (.managedRequest p t) s (fun u => Counted s u R.PRG_REQUESTS_COUNT 0 ∧ p.val ∈ (u.dev.ctxOf (targetKey t).1 n).holders ∧
      Only [R.PRG_REQUESTS.at 0] s u) := by
  have hasked := Dev.bump_asked (d := s.dev)
  have hregs : (((s.dev.bump R.PRG_REQUESTS_COUNT).mgdServed (targetKey t) p).hold (targetKey t).1 n p).regs =
      (s.dev.bump R.PRG_REQUESTS_COUNT).regs := (Dev.mgdServed_regs ..).1
  refine ⟨_, exec_managedRequest p t, ?_, ?_, ?_⟩ <;> rw [Dev.mgdRequest_found ((hasked.foundOf t).trans h)]
  · exact (Dev.reg_of_regs hregs).trans (counted_bump s R.PRG_REQUESTS_COUNT 0)
  · rw [Dev.hold, Dev.ctxOf_updCtx]
    simp only []
    split
    · rename_i hheld
      simpa using hheld
    · simp
  · exact (hasked.within.beside hregs).only

/-- What is counted and raised beside a frame. -/
theorem Dev.Within.counted_raised {f h : Fld} (hw : Dev.Within l s.dev e) (hf : f.at n ∉ l) (hh : h.at n ∉ l) (hne : f.at n ≠ h.at n) :
    Counted s { s with dev := e.bumpEvt f h n } f n ∧ Raised s { s with dev := e.bumpEvt f h n } h n := by
  constructor
  · exact ((Dev.reg_event ..).trans (if_neg hne)).trans (hw.reg_bump hf)
  · refine ((Dev.reg_event ..).trans (if_pos rfl)).trans ?_
    rw [Dev.bump, Dev.bumpBy, Dev.reg_fput, if_neg hne.symm, hw.reg _ hh]
    rfl

/-- A count stands beside what else changes. -/
theorem Dev.Within.counted {f : Fld} (hw : Dev.Within l (s.dev.bump f n) e) (hf : f.at n ∉ l) : Counted s { s with dev := e } f n :=
  (hw.reg _ hf).trans (counted_bump s f n)

/-- The block once programme `p` has noted that a request was refused. -/
def Dev.noted (d : Dev) (key : Nat × Nat) (p : Nat) : Dev :=
  let g := smGet (fun _ => {}) d.prg p
  { d with prg := smSet (fun _ => {}) d.prg p { g with refused := (key, d.time.clk) :: g.refused.filter (fun r => r.1 != key) } }

theorem Dev.mgdRefuse_one (key : Nat × Nat) (p : Nat) :
    d.mgdRefuse key [p] = (d.noted key p).bumpEvt R.CHN_MGD_REFUSED_COUNT R.CHN_EVT_MGD_REFUSED := rfl

theorem runs_managedRequest_barred {p : Fin 128} (h : s.dev.foundOf t = none) (hbarred : s.dev.barred t) :
    Runs (.managedRequest p t) s (fun u => Counted s u R.PRG_REQUESTS_COUNT 0 ∧ Counted s u R.CHN_MGD_REFUSED_COUNT 0 ∧
      Raised s u R.CHN_EVT_MGD_REFUSED ∧ Only [R.PRG_REQUESTS.at 0, R.CHN_MGD_REFUSED.at 0, R.CHN_EVT.at 0] s u) := by
  have hasked := Dev.bump_asked (d := s.dev)
  have hrefused : (s.dev.bump R.PRG_REQUESTS_COUNT).mgdRequest p t =
      ((s.dev.bump R.PRG_REQUESTS_COUNT).noted (targetKey t) p).bumpEvt R.CHN_MGD_REFUSED_COUNT R.CHN_EVT_MGD_REFUSED := by
    rw [Dev.mgdRequest_none ((hasked.foundOf t).trans h), Dev.mgdPlace_barred ((hasked.barred t).2 hbarred)]
    exact Dev.mgdRefuse_one ..
  have hnoted : Dev.Within [R.PRG_REQUESTS.at 0] s.dev ((s.dev.bump R.PRG_REQUESTS_COUNT).noted (targetKey t) p) := hasked.within.beside rfl
  have hrest : Dev.Within [R.CHN_MGD_REFUSED.at 0, R.CHN_EVT.at 0] (s.dev.bump R.PRG_REQUESTS_COUNT)
      (((s.dev.bump R.PRG_REQUESTS_COUNT).noted (targetKey t) p).bumpEvt R.CHN_MGD_REFUSED_COUNT R.CHN_EVT_MGD_REFUSED) :=
    .bumpEvt (.of_regs rfl) (by decide) (by decide)
  obtain ⟨hcount, hraise⟩ := hnoted.counted_raised (n := 0) (f := R.CHN_MGD_REFUSED_COUNT) (h := R.CHN_EVT_MGD_REFUSED) (by decide) (by decide)
    (by decide)
  refine ⟨_, exec_managedRequest p t, ?_⟩
  rw [hrefused]
  exact ⟨hrest.counted (by decide), hcount, hraise, ((hasked.within.mono (by simp)).trans (hrest.mono (by simp))).only⟩

theorem runs_managedRequest_placed {p : Fin 128} {n : Fin 256} (h : s.dev.foundOf t = none) (hopen : ¬ s.dev.barred t)
    (hfree : s.dev.mgdFree (targetKey t).1 (targetBlock t) = some n.val) (hn : n.val < poolSize (targetKey t).1) :
    Runs (.managedRequest p t) s (fun u => Counted s u R.PRG_REQUESTS_COUNT 0 ∧
      (u.dev.ctxOf (targetKey t).1 n).granted = false ∧ (u.dev.ctxOf (targetKey t).1 n).managed = true ∧
      (u.dev.ctxOf (targetKey t).1 n).freq = (targetKey t).2 ∧ (u.dev.ctxOf (targetKey t).1 n).holders = [p.val] ∧
      Wrote s u (ctxFld (targetKey t).1 2 12 12 false) n 1 ∧
      Only [R.PRG_REQUESTS.at 0, (ctxFld (targetKey t).1 2 12 12 false).at n] s u) := by
  have hasked := Dev.bump_asked (d := s.dev)
  have hplaced : (s.dev.bump R.PRG_REQUESTS_COUNT).mgdRequest p t =
      (s.dev.bump R.PRG_REQUESTS_COUNT).placed (targetKey t).1 (targetKey t).2 ((s.dev.bump R.PRG_REQUESTS_COUNT).srcFor t) p n := by
    rw [Dev.mgdRequest_none ((hasked.foundOf t).trans h), Dev.mgdPlace_free (fun hb => hopen ((hasked.barred t).1 hb))
      ((hasked.mgdFree (targetKey_pool t) (targetBlock_lt t)).trans hfree)]
  have hne := ctxFld_at_ne (targetKey_pool t) hn 12 12
  have hwrote (d : Dev) (src : Nat) : Dev.Within [(ctxFld (targetKey t).1 2 12 12 false).at n] d (d.placed (targetKey t).1 (targetKey t).2 src p n) :=
    .fput (.of_regs (Dev.mgdServed_regs ..).1) (by simp)
  have hctx (d : Dev) (src : Nat) : (d.placed (targetKey t).1 (targetKey t).2 src p n).ctxOf (targetKey t).1 n =
      { d.ctxOf (targetKey t).1 n with
        managed := true, granted := false, freeClk := 0, freq := (targetKey t).2, src := src, holders := [p.val], prio := d.progPrio p,
        release := false, releaseCmd := false } := by
    rw [Dev.placed, Dev.fputB, Dev.ctxOf_of_ctx (Dev.ctx_fput ..), Dev.ctxOf_updCtx, Dev.ctxOf_of_ctx (Dev.mgdServed_regs ..).2]
  refine ⟨_, exec_managedRequest p t, ?_⟩
  rw [hplaced]
  refine ⟨(hwrote _ _).counted (fun hm => hne (List.mem_singleton.1 hm).symm), ?_, ?_, ?_, ?_, ?_, ?_⟩
  · rw [hctx]
  · rw [hctx]
  · rw [hctx]
  · rw [hctx]
  · have hreg : (s.dev.bump R.PRG_REQUESTS_COUNT).reg ((ctxFld (targetKey t).1 2 12 12 false).at n) = s.reg ((ctxFld (targetKey t).1 2 12 12 false).at n) :=
      hasked.within.reg _ (by simpa using hne)
    rw [Wrote, ← hreg]
    refine (Dev.reg_fput ..).trans ((if_pos rfl).trans ?_)
    exact congrArg (fun w => putBits w 12 12 1) (Dev.reg_of_regs (Dev.mgdServed_regs ..).1)
  · exact ((hasked.within.mono (by simp)).trans ((hwrote _ _).mono (by simp))).only

/-- A free entry is one of its pool. -/
theorem Dev.mgdFree_lt (h : d.mgdFree (targetKey t).1 (targetBlock t) = some n) : n < poolSize (targetKey t).1 := by
  unfold Dev.mgdFree at h
  cases hblock : targetBlock t with
  | none =>
    rw [hblock] at h
    have hmem := List.mem_of_head? h
    simpa using (List.mem_filter.1 hmem).1
  | some b =>
    rw [hblock] at h
    simp only [] at h
    split at h
    · exact Option.some.inj h ▸ targetBlock_lt t b hblock
    · exact absurd h (by simp)

/-! ### Expiry and release -/

/-- When the linger of a context that is held no longer ends (R152). -/
def Dev.lingerEnd (d : Dev) (pool n : Nat) : Nat := (d.ctxOf pool n).freeClk - 1 + msCycles (1000 * d.fget R.CHN_MGD_TIME_LINGER)

theorem runs_managedLingerExpiry {pool : Fin 5} {n : Fin 256} (hmanaged : s.dev.ctxManaged pool n = true)
    (hnone : (s.dev.ctxOf pool n).holders = []) (hclk : (s.dev.ctxOf pool n).freeClk ≠ 0) (hpast : s.dev.lingerEnd pool n ≤ s.dev.time.clk) :
    Runs (.managedLingerExpiry pool n) s (fun t => t.dev.ctxOf pool n = { s.dev.ctxOf pool n with release := true } ∧ Only [] s t) := by
  have hexec : exec (.managedLingerExpiry pool n) s = .next { s with dev := s.dev.updCtx pool n (fun c => { c with release := true }) } := by
    show execManagedLingerExpiry pool n s = _
    rw [execManagedLingerExpiry, nextDev]
    refine congrArg (fun d => Host.Outcome.next { s with dev := d }) (if_pos ?_)
    rw [show (s.dev.ctxOf pool n).managed = true from hmanaged, hnone, bne_iff_ne.2 hclk]
    exact decide_eq_true hpast
  exact ⟨_, hexec, Dev.ctxOf_updCtx _, (Dev.Within.of_regs rfl).only⟩

theorem exec_managedLingerExpiry_held {pool : Fin 5} {n : Fin 256}
    (h : (s.dev.ctxOf pool n).holders ≠ [] ∨ s.dev.time.clk < s.dev.lingerEnd pool n) : exec (.managedLingerExpiry pool n) s = .next s := by
  show execManagedLingerExpiry pool n s = _
  rw [execManagedLingerExpiry, nextDev]
  refine congrArg (fun d => Host.Outcome.next { s with dev := d }) (if_neg ?_)
  obtain hheld | hearly := h
  · have hsome : (s.dev.ctxOf pool n).holders.isEmpty = false := by simpa using hheld
    simp only [hsome, Bool.and_false, Bool.false_and, Bool.false_eq_true, not_false_eq_true]
  · have hnot : s.dev.reached (s.dev.lingerEnd pool n) = false := decide_eq_false (Nat.not_le.2 hearly)
    rw [Dev.lingerEnd] at hnot
    simp only [hnot, Bool.and_false, Bool.false_eq_true, not_false_eq_true]

/-- A change of every entry of a map that leaves the default as it is. -/
theorem smGet_map {α : Type} {dflt : Nat → α} (f : α → α) (m : SMap α) (k : Nat) (hf : f (dflt k) = dflt k) :
    smGet dflt (m.map (fun e => (e.1, f e.2))) k = f (smGet dflt m k) := by
  induction m with
  | nil => exact hf.symm
  | cons e m ih =>
    simp only [List.map_cons, smGet]
    split
    · rfl
    · exact ih

theorem Dev.ctxOf_releaseMgd (pool n : Nat) :
    d.releaseMgd.ctxOf pool n = if d.ctxManaged pool n then { d.ctxOf pool n with releaseCmd := true } else d.ctxOf pool n :=
  smGet_map (fun c : CtxSt => if c.managed then { c with releaseCmd := true } else c) d.ctx (ctxKey pool n) rfl

theorem exec_releaseMgd : exec .releaseMgd s = .next { s with dev := s.dev.releaseMgd } := rfl

end

/-- Settles O8: a request by what its target meets (received already, barred, placed), the linger and the release by their own cases. -/
theorem managedContexts : Obligations.ManagedContexts := by
  unfold Obligations.ManagedContexts
  intro s p g n pool'
  have hfound := runs_managedRequest_found (s := s) (t := g) (p := p) (n := n)
  have hbarred := runs_managedRequest_barred (s := s) (t := g) (p := p)
  have hplaced := runs_managedRequest_placed (s := s) (t := g) (p := p) (n := n)
  have hlt := Dev.mgdFree_lt (d := s.dev) (t := g) (n := n)
  have hrequest := And.intro hfound (And.intro hbarred fun h hopen hfree => hplaced h hopen hfree (hlt hfree))
  refine ⟨?_, ?_, ?_, runs_managedLingerExpiry, fun h => ⟨_, exec_releaseMgd, ?_, (Dev.Within.of_regs rfl).only⟩,
    fun _ h => runs_self_of_exec (exec_managedLingerExpiry_held h), fun h => ⟨_, exec_releaseMgd, ?_, (Dev.Within.of_regs rfl).only⟩⟩
  · cases g <;> exact hrequest.1
  · cases g <;> exact hrequest.2.1
  · cases g <;> exact hrequest.2.2
  · rw [Dev.ctxOf_releaseMgd, if_pos h]
  · rw [Dev.ctxOf_releaseMgd, if_neg (by simp [h])]

end Sys2Proof.Machine

/-!
SUPPORT. Gain control of an antenna input (R52, R101 to R107, R112 to R115): the step that takes effect, the raise and the lowering of a peak window,
and the overload window.
-/
namespace Sys2Proof.Machine

section
variable {d e g : Dev} {s : State} {x v n : Nat} {l : List Nat}

@[simp] theorem Dev.fget_updAfe (x k : Nat) (f : AfeSt → AfeSt) (h : Fld) : (d.updAfe x f).fget h k = d.fget h k := rfl

/-! ### Orders and what the mode demands -/

/-- Without a change that waits an order is for the next lane group (log entry 50). -/
theorem Dev.attOrder_none (hruns : d.splStopped = false) (hnone : (d.afeOf x).attTarget = none) (v : Nat) :
    d.attOrder x v = d.updAfe x (fun a => { a with attTarget := some (v, d.lg + 1) }) := by
  simp only [Dev.attOrder, Dev.updAfe, hnone, Dev.lgNext, hruns, Bool.false_eq_true, if_false]

theorem Dev.attHold_target (hruns : d.splStopped = false) (hnone : (d.afeOf x).attTarget = none) :
    ((d.attHold x).afeOf x).attTarget = if d.attWant x ≠ d.fget R.AFE_STAT_ATT x then some (d.attWant x, d.lg + 1) else none := by
  unfold Dev.attHold
  split
  · rename_i hsame
    rw [if_neg (not_not.2 hsame), hnone]
  · rename_i hother
    rw [Dev.attOrder_none hruns hnone, Dev.afeOf_updAfe, if_pos rfl]

theorem Dev.attHold_keeps : (d.attHold x).regs = d.regs ∧ ((d.attHold x).afeOf x).lnaNow = (d.afeOf x).lnaNow ∧
    ((d.attHold x).afeOf x).lnaTarget = (d.afeOf x).lnaTarget := by
  unfold Dev.attHold
  split
  · exact ⟨rfl, rfl, rfl⟩
  · exact ⟨rfl, by rw [Dev.attOrder, Dev.afeOf_updAfe, if_pos rfl], by rw [Dev.attOrder, Dev.afeOf_updAfe, if_pos rfl]⟩

/-- The begin of a measurement changes nothing of the changes that wait. -/
theorem Dev.acqBegin_keeps : (d.acqBegin x).regs = d.regs ∧ ((d.acqBegin x).afeOf x).attTarget = (d.afeOf x).attTarget ∧
    ((d.acqBegin x).afeOf x).lnaNow = (d.afeOf x).lnaNow ∧ ((d.acqBegin x).afeOf x).lnaTarget = (d.afeOf x).lnaTarget := by
  unfold Dev.acqBegin
  split
  · refine ⟨rfl, ?_, ?_, ?_⟩ <;> rw [Dev.afeOf_updAfe, if_pos rfl]
  · exact ⟨rfl, rfl, rfl, rfl⟩

/-- Without a commit on it a change takes effect on its own lane group. -/
theorem Dev.stepOn_free (hpend : (d.bicOf x).pend = none) (hcommit : (d.bicOf x).commitAt ≠ some n) : d.stepOn x n = n := by
  have hfree : d.commitOn x n = false := by simp [Dev.commitOn, hpend, hcommit]
  rw [Dev.stepOn, hfree, if_neg (by decide)]

theorem Dev.stepOn_commit (hcommit : (d.bicOf x).commitAt = some n) : d.stepOn x n = n + 1 := by
  have hon : d.commitOn x n = true := by simp [Dev.commitOn, hcommit]
  rw [Dev.stepOn, hon, if_pos rfl]

/-! ### The step -/

/-- The input while no change of its attenuation waits. -/
def Dev.attFree (d : Dev) (x : Nat) : Dev := d.updAfe x (fun a => { a with attTarget := none })

/-- The attenuation `v` is in force. -/
def Dev.stepped (d : Dev) (x v : Nat) : Dev := (d.attFree x).attSet x v

/-- The attenuation `v` is written and the step counted. -/
def Dev.attCounted (d : Dev) (x v : Nat) : Dev := (d.fput R.AFE_STAT_ATT x v).bump R.AFE_ATT_STEPS_COUNT x

/-- INTERVAL and HOLD start anew (R103, R104). -/
def AfeSt.stepAt (a : AfeSt) (clk : Nat) : AfeSt := { a with stepClk := some clk, lowClk := clk }

theorem Dev.stepped_of_eq (h : d.fget R.AFE_STAT_ATT x = v) : d.stepped x v = d.attFree x := if_pos h

theorem Dev.stepped_of_ne (h : d.fget R.AFE_STAT_ATT x ≠ v) :
    d.stepped x v = (((d.attFree x).attCounted x v).updAfe x (·.stepAt d.time.clk)).updBic x (fun b => { b with moved := true }) := if_neg h

theorem Dev.attCounted_within (x v : Nat) : Dev.Within [R.AFE_STAT.at x, R.AFE_ATT_STEPS.at x] d (d.attCounted x v) :=
  (Dev.Within.refl.fput (by simp [Fld.at, R.AFE_STAT_ATT, R.AFE_STAT])).bump (by simp [Fld.at, R.AFE_ATT_STEPS_COUNT, R.AFE_ATT_STEPS])

theorem Dev.stepped_regs (h : d.fget R.AFE_STAT_ATT x ≠ v) : (d.stepped x v).regs = (d.attCounted x v).regs := by
  rw [Dev.stepped_of_ne h]
  rfl

theorem Dev.stepped_within (x v : Nat) : Dev.Within [R.AFE_STAT.at x, R.AFE_ATT_STEPS.at x] d (d.stepped x v) := by
  by_cases h : d.fget R.AFE_STAT_ATT x = v
  · rw [Dev.stepped_of_eq h]
    exact .of_regs rfl
  · exact (Dev.attCounted_within x v).beside (Dev.stepped_regs h)

/-- `AFE_STAT` and `AFE_ATT_STEPS` are two registers of the input. -/
theorem attSteps_ne_stat (x : Nat) : R.AFE_ATT_STEPS.at x ≠ R.AFE_STAT.at x := by
  simp only [Fld.at, R.AFE_ATT_STEPS, R.AFE_STAT]
  omega

theorem Dev.stepped_reg (x v : Nat) : (d.stepped x v).reg (R.AFE_STAT.at x) = putBits (d.reg (R.AFE_STAT.at x)) 4 0 v := by
  by_cases h : d.fget R.AFE_STAT_ATT x = v
  · rw [Dev.stepped_of_eq h, ← h]
    exact (putBits_bitsOf _ (by decide) (by decide)).symm
  · have hne : R.AFE_STAT.at x ≠ R.AFE_ATT_STEPS_COUNT.at x := (attSteps_ne_stat x).symm
    rw [Dev.reg_of_regs (Dev.stepped_regs h), Dev.attCounted, Dev.bump, Dev.bumpBy, Dev.reg_fput, if_neg hne, Dev.reg_fput]
    exact if_pos rfl

/-- Another field of `AFE_STAT` stands. -/
theorem Dev.stepped_fget {f : Fld} (hf : f.base = 0x0310 ∧ f.stride = 64 ∧ f.staged = false ∧ 4 < f.lo) :
    (d.stepped x v).fget f x = d.fget f x := by
  obtain ⟨hbase, hstride, hstaged, hlo⟩ := hf
  have hat : f.at x = R.AFE_STAT.at x := by rw [Fld.at, hbase, hstride]; rfl
  rw [Dev.fget_imm hstaged, Dev.fget_imm hstaged, hat, Dev.stepped_reg, bitsOf_putBits_other _ (by decide) (by decide) (.inr hlo)]

theorem Dev.stepped_att (hv : v < 32) : (d.stepped x v).fget R.AFE_STAT_ATT x = v := by
  have hreg := Dev.stepped_reg (d := d) x v
  rw [Dev.fget_imm rfl]
  refine (congrArg (fun w => bitsOf w 4 0) hreg).trans ?_
  rw [bitsOf_putBits_same _ (by decide) (by decide)]
  exact Nat.mod_eq_of_lt hv

theorem Dev.stepped_afe (x v : Nat) : ((d.stepped x v).afeOf x).attTarget = none ∧ ((d.stepped x v).afeOf x).lnaNow = (d.afeOf x).lnaNow ∧
    ((d.stepped x v).afeOf x).lnaTarget = (d.afeOf x).lnaTarget := by
  have hfree : (d.attFree x).afeOf x = { d.afeOf x with attTarget := none } := by rw [Dev.attFree, Dev.afeOf_updAfe, if_pos rfl]
  by_cases h : d.fget R.AFE_STAT_ATT x = v
  · rw [Dev.stepped_of_eq h, hfree]
    exact ⟨rfl, rfl, rfl⟩
  · have hput : ((d.attFree x).attCounted x v).afe = (d.attFree x).afe := by simp [Dev.attCounted, Dev.bump, Dev.bumpBy]
    have hafe : (d.stepped x v).afeOf x = ((d.attFree x).afeOf x).stepAt d.time.clk := by
      rw [Dev.stepped_of_ne h]
      show (((d.attFree x).attCounted x v).updAfe x (·.stepAt d.time.clk)).afeOf x = _
      rw [Dev.afeOf_updAfe, if_pos rfl, Dev.afeOf, hput, Dev.afeOf]
    rw [hafe, hfree]
    exact ⟨rfl, rfl, rfl⟩

theorem Dev.stepped_lg (x v : Nat) : (d.stepped x v).lg = d.lg := by
  have htime : (d.stepped x v).time = d.time := by
    by_cases h : d.fget R.AFE_STAT_ATT x = v
    · rw [Dev.stepped_of_eq h]
      rfl
    · rw [Dev.stepped_of_ne h]
      simp [Dev.attCounted, Dev.bump, Dev.bumpBy, Dev.attFree]
  rw [Dev.lg, htime, Dev.lg]

/-- What the mode and the limits demand in place of `v`. -/
def Dev.attWants (d : Dev) (x v : Nat) : Nat :=
  if d.wgcMode x = 0 then clampNat (d.fget R.AFE_ATT_LIM_MIN x) (d.fget R.AFE_ATT_LIM_MAX x) v
  else if d.wgcMode x = 1 then d.fget R.AFE_ATT_MAN_ATT x else clampNat (d.attFloor x) (d.fget R.AFE_ATT_LIM_MAX x) v

theorem Dev.attWant_eq : d.attWant x = d.attWants x (d.fget R.AFE_STAT_ATT x) := by
  unfold Dev.attWant Dev.attWants
  split
  · rename_i hauto
    rw [if_pos hauto]
  · rename_i hmanual
    rw [hmanual, if_neg (by decide), if_pos rfl, Dev.attFloor, hmanual, if_neg (by decide)]
  · rename_i hauto hmanual
    rw [if_neg hauto, if_neg hmanual]

theorem Dev.Within.wgcMode (hw : Dev.Within l d e) (x : Nat) : e.wgcMode x = d.wgcMode x := hw.fget (.inl rfl)

theorem Dev.Within.attFloor (hw : Dev.Within l d e) (x : Nat) : e.attFloor x = d.attFloor x := by
  rw [Dev.attFloor, hw.wgcMode, hw.fget (f := R.AFE_ATT_LIM_MAX) (.inl rfl), hw.fget (f := R.AFE_ATT_MAN_ATT) (.inl rfl), Dev.attFloor]

theorem Dev.Within.attWants (hw : Dev.Within l d e) (x v : Nat) : e.attWants x v = d.attWants x v := by
  rw [Dev.attWants, hw.wgcMode, hw.attFloor, hw.fget (f := R.AFE_ATT_LIM_MIN) (.inl rfl), hw.fget (f := R.AFE_ATT_LIM_MAX) (.inl rfl),
    hw.fget (f := R.AFE_ATT_MAN_ATT) (.inl rfl), Dev.attWants]

/-- The input after the step: where it takes lane groups it moves on to what mode and limits demand. -/
def Dev.attDone (d : Dev) (x v : Nat) : Dev := if (d.stepped x v).inputRuns x then (d.stepped x v).attHold x else d.stepped x v

theorem exec_attenuatorStep_att {x : Fin 2} (hruns : s.dev.splStopped = false) (ht : (s.dev.afeOf x).attTarget = some (v, n))
    (hcome : s.dev.stepOn x n ≤ s.dev.lg) (hlna : (s.dev.afeOf x).lnaTarget = none) :
    exec (.attenuatorStep x) s = .next { s with dev := (s.dev.attDone x v).acqBegin x } := by
  have hlna' : ((s.dev.attDone x v).afeOf x).lnaTarget = none := by
    unfold Dev.attDone
    split
    · rw [Dev.attHold_keeps.2.2, (Dev.stepped_afe x v).2.2, hlna]
    · rw [(Dev.stepped_afe x v).2.2, hlna]
  rw [Dev.attDone, Dev.stepped, Dev.attFree] at hlna'
  show execAttenuatorStep x s = _
  simp only [execAttenuatorStep, nextDev, hruns, ht, hcome, if_true, Bool.false_eq_true, if_false, hlna']
  rfl

theorem exec_attenuatorStep_waits {x : Fin 2} (hruns : s.dev.splStopped = false) (ht : (s.dev.afeOf x).attTarget = some (v, n))
    (hwaits : ¬ s.dev.stepOn x n ≤ s.dev.lg) (hlna : (s.dev.afeOf x).lnaTarget = none) :
    exec (.attenuatorStep x) s = .next { s with dev := s.dev.acqBegin x } := by
  show execAttenuatorStep x s = _
  simp only [execAttenuatorStep, nextDev, hruns, ht, hwaits, Bool.false_eq_true, if_false, hlna]

/-- The LNA mode `m` is in force (R98). -/
def AfeSt.lnaIn (a : AfeSt) (m : Nat) : AfeSt := { a with lnaNow := m, lnaTarget := none }

/-- The applied LNA mode is in force. -/
def Dev.lnaTaken (d : Dev) (x : Nat) : Dev :=
  (d.updAfe x (·.lnaIn (d.fget R.AFE_CFG_LNA_MODE x))).updBic x (fun b => { b with moved := true })

theorem Dev.afeOf_updBic (x k : Nat) (f : BicSt → BicSt) : (d.updBic x f).afeOf k = d.afeOf k := rfl

theorem exec_attenuatorStep_lna {x : Fin 2} (hruns : s.dev.splStopped = false) (ht : (s.dev.afeOf x).attTarget = none)
    (hlna : (s.dev.afeOf x).lnaTarget = some n) (hcome : s.dev.stepOn x n ≤ s.dev.lg) :
    exec (.attenuatorStep x) s = .next { s with dev := (s.dev.lnaTaken x).acqBegin x } := by
  show execAttenuatorStep x s = _
  simp only [execAttenuatorStep, nextDev, hruns, ht, hlna, hcome, if_true, Bool.false_eq_true, if_false]
  rfl

theorem Dev.splStopped_within (hw : Dev.Within l d e) (hl : R.CLK_STAT_SPL.at 0 ∉ l) : e.splStopped = d.splStopped := by
  rw [Dev.splStopped, hw.fget (.inr hl), Dev.splStopped]

theorem runs_attenuatorStep_att {x : Fin 2} (hruns : s.dev.splStopped = false) (ht : (s.dev.afeOf x).attTarget = some (v, n))
    (hpend : (s.dev.bicOf x).pend = none) (hcommit : (s.dev.bicOf x).commitAt ≠ some n) (hcome : n ≤ s.dev.lg) (hv : v < 32)
    (hlna : (s.dev.afeOf x).lnaTarget = none) :
    Runs (.attenuatorStep x) s (fun t =>
      Wrote s t R.AFE_STAT_ATT x v ∧ (t.dev.afeOf x).lnaNow = (s.dev.afeOf x).lnaNow ∧
      (t.dev.afeOf x).attTarget = (if (s.dev.fget R.AFE_STAT_SAMPLING x = 1 ∨ s.dev.fget R.AFE_STAT_ACQ x = 1) ∧ s.dev.attWants x v ≠ v then
        some (s.dev.attWants x v, s.dev.lg + 1) else none) ∧
      (s.dev.fget R.AFE_STAT_ATT x ≠ v → Counted s t R.AFE_ATT_STEPS_COUNT x) ∧
      (s.dev.fget R.AFE_STAT_ATT x = v → t.reg (R.AFE_ATT_STEPS.at x) = s.reg (R.AFE_ATT_STEPS.at x)) ∧
      Only [R.AFE_STAT.at x, R.AFE_ATT_STEPS.at x] s t) := by
  have hstep := Dev.stepOn_free hpend hcommit
  have hw := Dev.stepped_within (d := s.dev) x v
  have hruns' : (s.dev.stepped x v).splStopped = false := by
    rw [Dev.splStopped_within hw (by simp [Fld.at, R.CLK_STAT_SPL, R.AFE_STAT, R.AFE_ATT_STEPS]; omega), hruns]
  obtain ⟨htarget, hnow, -⟩ := Dev.stepped_afe (d := s.dev) x v
  have hlive : (s.dev.stepped x v).inputRuns x = true ↔ (s.dev.fget R.AFE_STAT_SAMPLING x = 1 ∨ s.dev.fget R.AFE_STAT_ACQ x = 1) := by
    rw [Dev.inputRuns, Dev.fbit, Dev.fbit, Dev.stepped_fget (by decide), Dev.stepped_fget (by decide)]
    simp
  have hwants : (s.dev.stepped x v).attWant x = s.dev.attWants x v := by rw [Dev.attWant_eq, Dev.stepped_att hv, hw.attWants]
  have hregs : ((s.dev.attDone x v).acqBegin x).regs = (s.dev.stepped x v).regs := by
    rw [Dev.acqBegin_keeps.1, Dev.attDone]
    split
    · exact Dev.attHold_keeps.1
    · rfl
  refine ⟨_, exec_attenuatorStep_att hruns ht (hstep.symm ▸ hcome) hlna, ?_, ?_, ?_, fun hne => ?_, fun heq => ?_, (hw.beside hregs).only⟩
  · exact (Dev.reg_of_regs hregs).trans (Dev.stepped_reg x v)
  · rw [Dev.acqBegin_keeps.2.2.1, Dev.attDone]
    split
    · rw [Dev.attHold_keeps.2.1, hnow]
    · exact hnow
  · rw [Dev.acqBegin_keeps.2.1, Dev.attDone]
    by_cases hin : (s.dev.stepped x v).inputRuns x = true
    · rw [if_pos hin, Dev.attHold_target hruns' htarget, hwants, Dev.stepped_att hv, Dev.stepped_lg]
      simp only [hlive.1 hin, true_and]
    · rw [if_neg hin, htarget, if_neg (fun h => hin (hlive.2 h.1))]
  · refine (Dev.reg_of_regs (hregs.trans (Dev.stepped_regs hne))).trans ?_
    have hput : Dev.Within [R.AFE_STAT.at x] s.dev (s.dev.fput R.AFE_STAT_ATT x v) := .fput .refl (List.mem_singleton.2 rfl)
    exact hput.reg_bump (fun hm => attSteps_ne_stat x (List.mem_singleton.1 hm))
  · refine (Dev.reg_of_regs hregs).trans ?_
    rw [Dev.stepped_of_eq heq]
    rfl

theorem runs_attenuatorStep_waits {x : Fin 2} (hruns : s.dev.splStopped = false) (ht : (s.dev.afeOf x).attTarget = some (v, n))
    (hcommit : (s.dev.bicOf x).commitAt = some n) (hnow : n = s.dev.lg) (hlna : (s.dev.afeOf x).lnaTarget = none) :
    Runs (.attenuatorStep x) s (fun t => (t.dev.afeOf x).attTarget = some (v, n) ∧ Only [] s t) := by
  have hlate : ¬ s.dev.stepOn x n ≤ s.dev.lg := by
    rw [Dev.stepOn_commit hcommit]
    omega
  exact ⟨_, exec_attenuatorStep_waits hruns ht hlate hlna, Dev.acqBegin_keeps.2.1.trans ht, (Dev.Within.of_regs Dev.acqBegin_keeps.1).only⟩

theorem runs_attenuatorStep_lna {x : Fin 2} (hruns : s.dev.splStopped = false) (ht : (s.dev.afeOf x).attTarget = none)
    (hpend : (s.dev.bicOf x).pend = none) (hcommit : (s.dev.bicOf x).commitAt ≠ some n) (hlna : (s.dev.afeOf x).lnaTarget = some n)
    (hcome : n ≤ s.dev.lg) :
    Runs (.attenuatorStep x) s (fun t => (t.dev.afeOf x).lnaNow = s.dev.fget R.AFE_CFG_LNA_MODE x ∧ (t.dev.afeOf x).lnaTarget = none ∧
      Only [] s t) := by
  have hafe : (s.dev.lnaTaken x).afeOf x = (s.dev.afeOf x).lnaIn (s.dev.fget R.AFE_CFG_LNA_MODE x) := by
    rw [Dev.lnaTaken, Dev.afeOf_updBic, Dev.afeOf_updAfe, if_pos rfl]
  have hregs : ((s.dev.lnaTaken x).acqBegin x).regs = s.dev.regs := by
    rw [Dev.acqBegin_keeps.1]
    rfl
  refine ⟨_, exec_attenuatorStep_lna hruns ht hlna ((Dev.stepOn_free hpend hcommit).symm ▸ hcome), ?_, ?_,
    (Dev.Within.of_regs hregs).only⟩
  · rw [Dev.acqBegin_keeps.2.2.1, hafe, AfeSt.lnaIn]
  · rw [Dev.acqBegin_keeps.2.2.2, hafe, AfeSt.lnaIn]

/-- While the SPL re-locks gain control stands (R112). -/
theorem exec_gainControl_stopped {x : Fin 2} (h : s.dev.splStopped = true) :
    exec (.attenuatorStep x) s = .next s ∧ exec (.peakWindow x) s = .next s ∧ exec (.overloadWindow x) s = .next s := by
  refine ⟨?_, ?_, ?_⟩
  · show execAttenuatorStep x s = _
    simp only [execAttenuatorStep, nextDev, h, if_true]
  · show execPeakWindow x s = _
    simp only [execPeakWindow, nextDev, h, Bool.true_or, if_true]
  · show execOverloadWindow x s = _
    simp only [execOverloadWindow, nextDev, h, Bool.true_or, if_true]

/-! ### The peak window -/

/-- A peak window of an input that samples has passed, and a slow step is allowed (R103, R107, R112). -/
structure Dev.PeakDue (d : Dev) (x : Nat) : Prop where
  runs : d.splStopped = false
  passed : (d.afeOf x).peakAt + 1024 ≤ d.lg
  spaced : (d.afeOf x).stepClk.all (fun k => decide (k + msCycles (d.fget R.AFE_WGC_TIME_INTERVAL x) ≤ d.time.clk)) = true
  free : (d.afeOf x).attTarget = none
  clear : (d.afeOf x).blanked = false
  open' : d.blanking = false
  done : d.fget R.AFE_STAT_ACQ x = 0
  samples : d.fget R.AFE_STAT_SAMPLING x = 1

/-- The cycle since which the peaks have stayed low, after a window without blanking (R104). -/
def Dev.lowSince (d : Dev) (x : Nat) (low : Bool) : Nat :=
  if low then (d.afeOf x).lowClk else max (d.afeOf x).lowClk (d.lgClk ((d.afeOf x).peakAt + 1024))

/-- The next peak window begins, outside blanking. -/
def AfeSt.peakBegun (a : AfeSt) (lowClk : Nat) : AfeSt :=
  { a with peak := 0, peakAt := a.peakAt + 1024, blanked := false, attacked := false, lowClk := lowClk }

/-- The next peak window of the input has begun. -/
def Dev.peakNext (d : Dev) (x lowClk : Nat) : Dev := d.updAfe x (·.peakBegun lowClk)

/-- A change of the attenuation ordered as a peak window ends. -/
theorem Dev.peakNext_order (h : d.PeakDue x) (lowClk v : Nat) :
    (((d.peakNext x lowClk).attOrder x v).afeOf x).attTarget = some (v, d.lg + 1) ∧ (((d.peakNext x lowClk).attOrder x v).afeOf x).peak = 0 ∧
      ((d.peakNext x lowClk).attOrder x v).regs = d.regs := by
  have hafe : ((d.peakNext x lowClk).afeOf x).attTarget = none ∧ ((d.peakNext x lowClk).afeOf x).peak = 0 := by
    rw [Dev.peakNext, Dev.afeOf_updAfe, if_pos rfl]
    exact ⟨h.free, rfl⟩
  have hruns : (d.peakNext x lowClk).splStopped = false := h.runs
  rw [Dev.attOrder_none hruns hafe.1, Dev.afeOf_updAfe, if_pos rfl]
  exact ⟨rfl, hafe.2, rfl⟩

/-- The peak stays below −DN dBFS (R104). -/
def Dev.peakLow (d : Dev) (x : Nat) : Bool :=
  !aboveDbfs (d.afeOf x).peak (d.fget R.AFE_WGC_TH_DN x) && decide (10 ^ d.fget R.AFE_WGC_TH_DN x * (d.afeOf x).peak ^ 20 ≠ 8192 ^ 20)

/-- The lowest attenuation that the mode allows. -/
def Dev.attLow (d : Dev) (x : Nat) : Nat := if d.wgcMode x = 0 then d.fget R.AFE_ATT_LIM_MIN x else d.attFloor x

/-- The input after a peak window that allows a slow step (R103, R104, R106). -/
def Dev.peakStepped (d : Dev) (x : Nat) : Dev :=
  let e := d.peakNext x (d.lowSince x (d.peakLow x))
  if d.wgcMode x == 0 && aboveDbfs (d.afeOf x).peak (d.fget R.AFE_WGC_TH_UP x) &&
      decide (d.fget R.AFE_STAT_ATT x < d.fget R.AFE_ATT_LIM_MAX x) then e.attOrder x (d.fget R.AFE_STAT_ATT x + 1)
  else if d.wgcMode x != 1 && d.reached (d.lowSince x (d.peakLow x) + msCycles (10 * d.fget R.AFE_WGC_TIME_HOLD x)) && d.peakLow x &&
      !(d.afeOf x).attacked && decide (d.attLow x < d.fget R.AFE_STAT_ATT x) then e.attOrder x (d.fget R.AFE_STAT_ATT x - 1)
  else e

theorem exec_peakWindow_due {x : Fin 2} (h : s.dev.PeakDue x) : exec (.peakWindow x) s = .next { s with dev := s.dev.peakStepped x } := by
  obtain ⟨hruns, hpassed, hspaced, hfree, hclear, hopen, hdone, hsamples⟩ := h
  have hlive : s.dev.inputRuns x = true := by simp [Dev.inputRuns, Dev.fbit, hsamples]
  have hacq : s.dev.fbit R.AFE_STAT_ACQ x = false := by simp [Dev.fbit, hdone]
  have hsmp : s.dev.fbit R.AFE_STAT_SAMPLING x = true := by simp [Dev.fbit, hsamples]
  have hgo : (s.dev.splStopped || !s.dev.inputRuns x || decide (s.dev.lg < (s.dev.afeOf x).peakAt + 1024)) = false := by
    rw [hruns, hlive, decide_eq_false (Nat.not_lt.2 hpassed)]
    rfl
  show execPeakWindow x s = _
  cases hstep : (s.dev.afeOf x).stepClk with
  | none =>
    simp only [execPeakWindow, nextDev, hgo, Bool.false_eq_true, if_false, hstep, hfree, hclear, hopen, hacq, hsmp, Option.isNone_none,
      Bool.or_self, Bool.not_false, Bool.and_self, Bool.true_and, Bool.false_or]
    rfl
  | some k =>
    have hk : s.dev.reached (k + msCycles (s.dev.fget R.AFE_WGC_TIME_INTERVAL x)) = true := by
      rwa [hstep, Option.all_some] at hspaced
    simp only [execPeakWindow, nextDev, hgo, Bool.false_eq_true, if_false, hstep, hk, hfree, hclear, hopen, hacq, hsmp, Option.isNone_none,
      Bool.or_self, Bool.not_false, Bool.and_self, Bool.true_and, Bool.false_or]
    rfl

theorem runs_peakWindow_up {x : Fin 2} (h : s.dev.PeakDue x) (hauto : s.dev.wgcMode x = 0)
    (hup : aboveDbfs (s.dev.afeOf x).peak (s.dev.fget R.AFE_WGC_TH_UP x) = true)
    (hbelow : s.dev.fget R.AFE_STAT_ATT x < s.dev.fget R.AFE_ATT_LIM_MAX x) :
    Runs (.peakWindow x) s (fun t => (t.dev.afeOf x).attTarget = some (s.dev.fget R.AFE_STAT_ATT x + 1, s.dev.lg + 1) ∧
      (t.dev.afeOf x).peak = 0 ∧ Only [] s t) := by
  obtain ⟨htarget, hpeak, hregs⟩ := Dev.peakNext_order h (s.dev.lowSince x (s.dev.peakLow x)) (s.dev.fget R.AFE_STAT_ATT x + 1)
  have hstep : s.dev.peakStepped x =
      (s.dev.peakNext x (s.dev.lowSince x (s.dev.peakLow x))).attOrder x (s.dev.fget R.AFE_STAT_ATT x + 1) := by
    simp only [Dev.peakStepped, hauto, hup, hbelow, beq_self_eq_true, decide_true, Bool.and_self, if_true]
  refine ⟨_, exec_peakWindow_due h, ?_⟩
  rw [hstep]
  exact ⟨htarget, hpeak, (Dev.Within.of_regs hregs).only⟩

theorem runs_peakWindow_down {x : Fin 2} (h : s.dev.PeakDue x) (hmode : s.dev.wgcMode x ≠ 1)
    (hup : aboveDbfs (s.dev.afeOf x).peak (s.dev.fget R.AFE_WGC_TH_UP x) = false)
    (hdn : aboveDbfs (s.dev.afeOf x).peak (s.dev.fget R.AFE_WGC_TH_DN x) = false)
    (hnot : 10 ^ s.dev.fget R.AFE_WGC_TH_DN x * (s.dev.afeOf x).peak ^ 20 ≠ 8192 ^ 20)
    (hhold : (s.dev.afeOf x).lowClk + msCycles (10 * s.dev.fget R.AFE_WGC_TIME_HOLD x) ≤ s.dev.time.clk)
    (hquiet : (s.dev.afeOf x).attacked = false) (habove : s.dev.attLow x < s.dev.fget R.AFE_STAT_ATT x) :
    Runs (.peakWindow x) s (fun t => (t.dev.afeOf x).attTarget = some (s.dev.fget R.AFE_STAT_ATT x - 1, s.dev.lg + 1) ∧
      (t.dev.afeOf x).peak = 0 ∧ Only [] s t) := by
  have hlow : s.dev.peakLow x = true := by
    rw [Dev.peakLow, hdn, decide_eq_true hnot]
    rfl
  have hsince : s.dev.lowSince x true = (s.dev.afeOf x).lowClk := if_pos rfl
  have hheld : s.dev.reached ((s.dev.afeOf x).lowClk + msCycles (10 * s.dev.fget R.AFE_WGC_TIME_HOLD x)) = true := decide_eq_true hhold
  obtain ⟨htarget, hpeak, hregs⟩ := Dev.peakNext_order h (s.dev.afeOf x).lowClk (s.dev.fget R.AFE_STAT_ATT x - 1)
  have hstep : s.dev.peakStepped x = (s.dev.peakNext x (s.dev.afeOf x).lowClk).attOrder x (s.dev.fget R.AFE_STAT_ATT x - 1) := by
    simp only [Dev.peakStepped, hlow, hsince, hup, hheld, hquiet, bne_iff_ne.2 hmode, habove, Bool.and_false, Bool.false_and, Bool.false_eq_true, if_false,
      Bool.not_false, decide_true, Bool.and_self, if_true]
  refine ⟨_, exec_peakWindow_due h, ?_⟩
  rw [hstep]
  exact ⟨htarget, hpeak, (Dev.Within.of_regs hregs).only⟩

/-! ### The overload window -/

/-- The next overload window begins. -/
def AfeSt.ovlBegun (a : AfeSt) (blanked : Bool) : AfeSt := { a with clips := 0, ovlAt := a.ovlAt + 64, ovlBlanked := blanked }

/-- An overloaded window outside blanking has fallen in the second (R114). -/
def AfeSt.inSecond (a : AfeSt) : AfeSt := { a with ovlSecond := true }

/-- The lane groups of an overloaded window are flagged (R115). -/
def AfeSt.flag (a : AfeSt) (inBlock : Bool) (span : Nat × Nat) : AfeSt := { a with blockOvl := a.blockOvl || inBlock, flagged := a.flagged ++ [span] }

/-- The next overload window of the input has begun. -/
def Dev.ovlNext (d : Dev) (x : Nat) : Dev := d.updAfe x (·.ovlBegun d.blanking)

/-- The events of an overloaded window (R113, R114). -/
def Dev.ovlEvents (d : Dev) (x : Nat) (sat : Bool) : Dev := onlyIf sat (fun d => d.event R.AFE_EVT_SATURATED x) (d.event R.AFE_EVT_OVERLOAD x)

/-- An overloaded window counts in its second, or as one within blanking (R114). -/
def Dev.ovlCounted (d : Dev) (x : Nat) (out : Bool) : Dev := if out then d.bump R.AFE_OVL_BLANK_COUNT x else d.updAfe x AfeSt.inSecond

/-- The lane groups from `k` on that the input delivered are flagged (R115). -/
def Dev.ovlFlagged (d : Dev) (x k : Nat) : Dev :=
  onlyIf (d.fbit R.AFE_STAT_SAMPLING x)
    (fun d => (d.updAfe x (·.flag (d.inBlock k) (d.lgSpan k))).updScn x (fun c => { c with ovls := c.ovls ++ [k] })) d

/-- The attack of an overloaded window (R105). -/
def Dev.ovlAttack (d : Dev) (x att top : Nat) (manual : Bool) : Dev :=
  if !manual && !d.fbit R.AFE_STAT_ACQ x && decide (att < top) then
    (d.attOrder x (min (att + d.fget R.AFE_OVL_CFG_STEP x) top)).updAfe x (fun a => { a with attacked := true })
  else d

/-- The attenuation can go no higher (R113). -/
def Dev.saturated (d : Dev) (x : Nat) : Bool := d.wgcMode x == 1 || d.fget R.AFE_STAT_ATT x == d.fget R.AFE_ATT_LIM_MAX x

/-- The window touches blanking (R114). -/
def Dev.ovlOut (d : Dev) (x : Nat) : Bool := (d.afeOf x).ovlBlanked || d.blanking

/-- The input once its overloaded window has shown and counted. -/
def Dev.ovlShown (d : Dev) (x : Nat) : Dev :=
  (((d.ovlNext x).ovlEvents x (d.saturated x)).ovlCounted x (d.ovlOut x)).updBic x (fun b => { b with ovl := b.ovl + 1 })

/-- The input after an overloaded window. -/
def Dev.overloaded (d : Dev) (x : Nat) : Dev :=
  ((d.ovlShown x).ovlFlagged x (d.afeOf x).ovlAt).ovlAttack x (d.fget R.AFE_STAT_ATT x) (d.fget R.AFE_ATT_LIM_MAX x) (d.wgcMode x == 1)

/-- An overload window of an input that takes lane groups has passed (R112, R113). -/
def Dev.ovlDue (d : Dev) (x : Nat) : Prop :=
  d.splStopped = false ∧ (d.fget R.AFE_STAT_SAMPLING x = 1 ∨ d.fget R.AFE_STAT_ACQ x = 1) ∧ (d.afeOf x).ovlAt + 64 ≤ d.lg

theorem Dev.ovlDue.goes (h : d.ovlDue x) : (d.splStopped || !d.inputRuns x || decide (d.lg < (d.afeOf x).ovlAt + 64)) = false := by
  obtain ⟨hruns, hlive, hpassed⟩ := h
  have hlive' : d.inputRuns x = true := by simpa [Dev.inputRuns, Dev.fbit] using hlive
  rw [hruns, hlive', decide_eq_false (Nat.not_lt.2 hpassed)]
  rfl

theorem exec_overloadWindow_over {x : Fin 2} (h : s.dev.ovlDue x) (hover : s.dev.fget R.AFE_OVL_CFG_CNT x ≤ (s.dev.afeOf x).clips) :
    exec (.overloadWindow x) s = .next { s with dev := s.dev.overloaded x } := by
  show execOverloadWindow x s = _
  simp only [execOverloadWindow, nextDev, h.goes, Bool.false_eq_true, if_false]
  exact congrArg (fun d => Host.Outcome.next { s with dev := d }) (if_pos hover)

theorem exec_overloadWindow_few {x : Fin 2} (h : s.dev.ovlDue x) (hfew : (s.dev.afeOf x).clips < s.dev.fget R.AFE_OVL_CFG_CNT x) :
    exec (.overloadWindow x) s = .next { s with dev := s.dev.ovlNext x } := by
  show execOverloadWindow x s = _
  simp only [execOverloadWindow, nextDev, h.goes, Bool.false_eq_true, if_false]
  exact congrArg (fun d => Host.Outcome.next { s with dev := d }) (if_neg (Nat.not_le.2 hfew))

/-- The window's counts are two registers of the input. -/
theorem ovlBlank_ne_evt (x : Nat) : R.AFE_OVL_BLANK.at x ≠ R.AFE_EVT.at x := by
  simp only [Fld.at, R.AFE_OVL_BLANK, R.AFE_EVT]
  omega

theorem Dev.afeOf_event (f : Fld) (n k : Nat) : (d.event f n).afeOf k = d.afeOf k := by simp [Dev.afeOf, Dev.event]

theorem Dev.afeOf_bump (f : Fld) (n k : Nat) : (d.bump f n).afeOf k = d.afeOf k := by simp [Dev.afeOf, Dev.bump, Dev.bumpBy]

theorem Dev.ovlNext_afe : (d.ovlNext x).afeOf x = (d.afeOf x).ovlBegun d.blanking := by rw [Dev.ovlNext, Dev.afeOf_updAfe, if_pos rfl]

theorem Dev.ovlEvents_afe (sat : Bool) : (d.ovlEvents x sat).afeOf x = d.afeOf x := by
  cases sat
  · exact Dev.afeOf_event ..
  · exact (Dev.afeOf_event ..).trans (Dev.afeOf_event ..)

theorem Dev.ovlEvents_shows (sat : Bool) : Dev.Shows [R.AFE_EVT.at x] d (d.ovlEvents x sat) := by
  have hfirst : Dev.Shows [R.AFE_EVT.at x] d (d.event R.AFE_EVT_OVERLOAD x) := Dev.Shows.refl.event (List.mem_singleton.2 rfl)
  cases sat
  · exact hfirst
  · exact hfirst.event (List.mem_singleton.2 rfl)

theorem Dev.ovlEvents_reg (sat : Bool) : (d.ovlEvents x sat).reg (R.AFE_EVT.at x) = d.reg (R.AFE_EVT.at x) ||| 1 ||| (if sat then 2 else 0) := by
  have hfirst : (d.event R.AFE_EVT_OVERLOAD x).reg (R.AFE_EVT.at x) = d.reg (R.AFE_EVT.at x) ||| 1 := (Dev.reg_event ..).trans (if_pos rfl)
  cases sat
  · exact hfirst.trans (BitVec.or_zero).symm
  · refine ((Dev.reg_event ..).trans (if_pos rfl)).trans ?_
    exact congrArg (· ||| 2#16) hfirst

theorem Dev.ovlCounted_within (out : Bool) : Dev.Within [R.AFE_OVL_BLANK.at x] d (d.ovlCounted x out) := by
  cases out
  · exact .of_regs rfl
  · exact Dev.Within.refl.bump (List.mem_singleton.2 rfl)

theorem Dev.ovlCounted_afe (out : Bool) : (d.ovlCounted x out).afeOf x = if out then d.afeOf x else (d.afeOf x).inSecond := by
  cases out
  · exact (Dev.afeOf_updAfe ..).trans (if_pos rfl)
  · exact Dev.afeOf_bump ..

/-- What the window has shown: the state of the input, but for the changes that wait. -/
theorem Dev.ovlShown_afe : (d.ovlShown x).afeOf x =
    if d.ovlOut x then (d.afeOf x).ovlBegun d.blanking else ((d.afeOf x).ovlBegun d.blanking).inSecond := by
  rw [Dev.ovlShown, Dev.afeOf_updBic, Dev.ovlCounted_afe, Dev.ovlEvents_afe, Dev.ovlNext_afe]

theorem Dev.ovlShown_within : Dev.Within [R.AFE_EVT.at x, R.AFE_OVL_BLANK.at x] d (d.ovlShown x) := by
  have hevents : Dev.Within [R.AFE_EVT.at x] d ((d.ovlNext x).ovlEvents x (d.saturated x)) := .of_same_regs (Dev.ovlEvents_shows _).within rfl
  have hcounted := Dev.ovlCounted_within (d := (d.ovlNext x).ovlEvents x (d.saturated x)) (x := x) (d.ovlOut x)
  exact ((hevents.mono (by simp)).trans (hcounted.mono (by simp))).beside rfl

theorem Dev.ovlShown_evt : (d.ovlShown x).reg (R.AFE_EVT.at x) = d.reg (R.AFE_EVT.at x) ||| 1 ||| (if d.saturated x then 2 else 0) :=
  ((Dev.ovlCounted_within _).reg _ (fun h => ovlBlank_ne_evt x (List.mem_singleton.1 h).symm)).trans (Dev.ovlEvents_reg _)

theorem Dev.ovlShown_blank (hout : d.ovlOut x = false) : (d.ovlShown x).reg (R.AFE_OVL_BLANK.at x) = d.reg (R.AFE_OVL_BLANK.at x) := by
  rw [Dev.ovlShown, hout]
  exact (Dev.ovlEvents_shows (d := d.ovlNext x) (d.saturated x)).within.reg _ (fun h => ovlBlank_ne_evt x (List.mem_singleton.1 h))

theorem Dev.ovlShown_counted (hout : d.ovlOut x = true) : (d.ovlShown x).reg (R.AFE_OVL_BLANK.at x) =
    putBits (d.reg (R.AFE_OVL_BLANK.at x)) 15 0 (min (d.fget R.AFE_OVL_BLANK_COUNT x + 1) (2 ^ 16 - 1)) := by
  rw [Dev.ovlShown, hout]
  exact (Dev.ovlEvents_shows (d := d.ovlNext x) (d.saturated x)).within.reg_bump (f := R.AFE_OVL_BLANK_COUNT) (fun h => ovlBlank_ne_evt x (List.mem_singleton.1 h))

theorem Dev.ovlShown_time : (d.ovlShown x).time = d.time ∧ (d.ovlShown x).grid = d.grid := by
  have hevents := Dev.ovlEvents_shows (d := d.ovlNext x) (x := x) (d.saturated x)
  have htime : ((d.ovlNext x).ovlEvents x (d.saturated x)).time = d.time := hevents.keeps (·.time) (fun _ _ _ _ _ => rfl)
  have hgrid : ((d.ovlNext x).ovlEvents x (d.saturated x)).grid = d.grid := hevents.keeps (·.grid) (fun _ _ _ _ _ => rfl)
  rw [Dev.ovlShown]
  cases d.ovlOut x
  · exact ⟨htime, hgrid⟩
  · simp [Dev.ovlCounted, Dev.bump, Dev.bumpBy, htime, hgrid]

/-! ### Flags and attack -/

theorem Dev.ovlFlagged_afe (k : Nat) : (d.ovlFlagged x k).afeOf x =
    if d.fbit R.AFE_STAT_SAMPLING x then (d.afeOf x).flag (d.inBlock k) (d.lgSpan k) else d.afeOf x := by
  have hflag : (d.updAfe x (·.flag (d.inBlock k) (d.lgSpan k))).afeOf x = (d.afeOf x).flag (d.inBlock k) (d.lgSpan k) := by
    rw [Dev.afeOf_updAfe, if_pos rfl]
  rw [Dev.ovlFlagged, onlyIf]
  split
  · exact hflag
  · rfl

theorem Dev.ovlFlagged_same (k : Nat) : (d.ovlFlagged x k).regs = d.regs ∧ (d.ovlFlagged x k).time = d.time := by
  rw [Dev.ovlFlagged, onlyIf]
  split <;> exact ⟨rfl, rfl⟩

theorem Dev.ovlAttack_keeps (att top : Nat) (manual : Bool) : (d.ovlAttack x att top manual).regs = d.regs ∧
    ((d.ovlAttack x att top manual).afeOf x).clips = (d.afeOf x).clips ∧
    ((d.ovlAttack x att top manual).afeOf x).ovlSecond = (d.afeOf x).ovlSecond ∧
    ((d.ovlAttack x att top manual).afeOf x).blockOvl = (d.afeOf x).blockOvl ∧
    ((d.ovlAttack x att top manual).afeOf x).flagged = (d.afeOf x).flagged := by
  unfold Dev.ovlAttack
  split
  · have hafe (v : Nat) : (d.attOrder x v).afeOf x = { d.afeOf x with
        attTarget := some (match (d.afeOf x).attTarget with | some w => (max v w.1, w.2) | none => (v, d.lgNext)) } :=
      (Dev.afeOf_updAfe ..).trans (if_pos rfl)
    refine ⟨rfl, ?_, ?_, ?_, ?_⟩ <;> rw [Dev.afeOf_updAfe, if_pos rfl, hafe]
  · exact ⟨rfl, rfl, rfl, rfl, rfl⟩

theorem Dev.ovlAttack_target (hruns : d.splStopped = false) (hnone : (d.afeOf x).attTarget = none) (hacq : d.fbit R.AFE_STAT_ACQ x = false)
    {att top : Nat} (hbelow : att < top) :
    ((d.ovlAttack x att top false).afeOf x).attTarget = some (min (att + d.fget R.AFE_OVL_CFG_STEP x) top, d.lg + 1) := by
  have hgo : (!false && !d.fbit R.AFE_STAT_ACQ x && decide (att < top)) = true := by
    rw [hacq, decide_eq_true hbelow]
    rfl
  rw [Dev.ovlAttack, if_pos hgo, Dev.attOrder_none hruns hnone, Dev.afeOf_updAfe, if_pos rfl, Dev.afeOf_updAfe, if_pos rfl]

theorem runs_overloadWindow_few {x : Fin 2} (h : s.dev.ovlDue x) (hfew : (s.dev.afeOf x).clips < s.dev.fget R.AFE_OVL_CFG_CNT x) :
    Runs (.overloadWindow x) s (fun t => (t.dev.afeOf x).clips = 0 ∧ Only [] s t) := by
  refine ⟨_, exec_overloadWindow_few h hfew, ?_, (Dev.Within.of_regs rfl).only⟩
  rw [Dev.ovlNext_afe]
  rfl

theorem Dev.saturated_iff : d.saturated x = true ↔ d.wgcMode x = 1 ∨ d.fget R.AFE_STAT_ATT x = d.fget R.AFE_ATT_LIM_MAX x := by
  simp [Dev.saturated]

theorem Dev.ovlOut_iff : d.ovlOut x = true ↔ (d.afeOf x).ovlBlanked = true ∨ d.blanking = true := by simp [Dev.ovlOut]

/-- An overloaded window: the registers are those of `ovlShown`. -/
theorem Dev.overloaded_regs : (d.overloaded x).regs = (d.ovlShown x).regs := by
  rw [Dev.overloaded, (Dev.ovlAttack_keeps ..).1, (Dev.ovlFlagged_same ..).1]

/-- The state of the input before the attack. -/
theorem Dev.ovlShown_afe_keeps : ((d.ovlShown x).afeOf x).clips = 0 ∧ ((d.ovlShown x).afeOf x).attTarget = (d.afeOf x).attTarget ∧
    ((d.ovlShown x).afeOf x).blockOvl = (d.afeOf x).blockOvl ∧ ((d.ovlShown x).afeOf x).flagged = (d.afeOf x).flagged := by
  rw [Dev.ovlShown_afe]
  split <;> exact ⟨rfl, rfl, rfl, rfl⟩

theorem Dev.ovlFlagged_afe_keeps (k : Nat) : ((d.ovlFlagged x k).afeOf x).clips = (d.afeOf x).clips ∧
    ((d.ovlFlagged x k).afeOf x).attTarget = (d.afeOf x).attTarget ∧ ((d.ovlFlagged x k).afeOf x).ovlSecond = (d.afeOf x).ovlSecond := by
  rw [Dev.ovlFlagged_afe]
  split <;> exact ⟨rfl, rfl, rfl⟩

/-- The status of the input is no register of its overload windows. -/
theorem afeStat_not_ovl (x : Nat) : R.AFE_STAT.at x ∉ [R.AFE_EVT.at x, R.AFE_OVL_BLANK.at x] := by
  simp [Fld.at, R.AFE_STAT, R.AFE_EVT, R.AFE_OVL_BLANK]

theorem clkStat_not_ovl (x : Nat) : R.CLK_STAT.at 0 ∉ [R.AFE_EVT.at x, R.AFE_OVL_BLANK.at x] := by
  simp only [Fld.at, R.CLK_STAT, R.AFE_EVT, R.AFE_OVL_BLANK, List.mem_cons, List.not_mem_nil, or_false]
  omega

theorem runs_overloadWindow_over {x : Fin 2} (h : s.dev.ovlDue x) (hover : s.dev.fget R.AFE_OVL_CFG_CNT x ≤ (s.dev.afeOf x).clips) :
    Runs (.overloadWindow x) s (fun t =>
      t.reg (R.AFE_EVT.at x) = s.reg (R.AFE_EVT.at x) ||| 1 ||| (if s.dev.saturated x then 2 else 0) ∧
      (s.dev.ovlOut x = true → Counted s t R.AFE_OVL_BLANK_COUNT x) ∧
      (s.dev.ovlOut x = false → (t.dev.afeOf x).ovlSecond = true ∧ t.reg (R.AFE_OVL_BLANK.at x) = s.reg (R.AFE_OVL_BLANK.at x)) ∧
      (s.dev.saturated x = false → s.dev.fget R.AFE_STAT_ACQ x = 0 → (s.dev.afeOf x).attTarget = none →
        s.dev.fget R.AFE_STAT_ATT x < s.dev.fget R.AFE_ATT_LIM_MAX x →
        (t.dev.afeOf x).attTarget =
          some (min (s.dev.fget R.AFE_STAT_ATT x + s.dev.fget R.AFE_OVL_CFG_STEP x) (s.dev.fget R.AFE_ATT_LIM_MAX x), s.dev.lg + 1)) ∧
      (s.dev.fget R.AFE_STAT_SAMPLING x = 1 →
        (t.dev.afeOf x).blockOvl = ((s.dev.afeOf x).blockOvl || s.dev.inBlock (s.dev.afeOf x).ovlAt) ∧
        (t.dev.afeOf x).flagged = (s.dev.afeOf x).flagged ++ [(s.dev.lgClk (s.dev.afeOf x).ovlAt, s.dev.lgClk ((s.dev.afeOf x).ovlAt + 64))]) ∧
      (t.dev.afeOf x).clips = 0 ∧ Only [R.AFE_EVT.at x, R.AFE_OVL_BLANK.at x] s t) := by
  have hw := Dev.ovlShown_within (d := s.dev) (x := x)
  obtain ⟨htime, hgrid⟩ := Dev.ovlShown_time (d := s.dev) (x := x)
  obtain ⟨hclips, htarget, hblock, hflagged⟩ := Dev.ovlShown_afe_keeps (d := s.dev) (x := x)
  obtain ⟨hclips', htarget', hsecond'⟩ := Dev.ovlFlagged_afe_keeps (d := s.dev.ovlShown x) (x := x) (s.dev.afeOf x).ovlAt
  obtain ⟨hregs', htime'⟩ := Dev.ovlFlagged_same (d := s.dev.ovlShown x) (x := x) (s.dev.afeOf x).ovlAt
  obtain ⟨-, hclips'', hsecond'', hblock'', hflagged''⟩ := Dev.ovlAttack_keeps (d := (s.dev.ovlShown x).ovlFlagged x (s.dev.afeOf x).ovlAt) (x := x)
    (s.dev.fget R.AFE_STAT_ATT x) (s.dev.fget R.AFE_ATT_LIM_MAX x) (s.dev.wgcMode x == 1)
  refine ⟨_, exec_overloadWindow_over h hover, (Dev.reg_of_regs Dev.overloaded_regs).trans Dev.ovlShown_evt,
    fun hout => (Dev.reg_of_regs Dev.overloaded_regs).trans (Dev.ovlShown_counted hout), fun hout => ⟨?_, ?_⟩,
    fun hsat hacq hnone hbelow => ?_, fun hsampling => ?_, ?_, (hw.beside Dev.overloaded_regs).only⟩
  · rw [Dev.overloaded, hsecond'', hsecond', Dev.ovlShown_afe, hout]
    rfl
  · exact (Dev.reg_of_regs Dev.overloaded_regs).trans (Dev.ovlShown_blank hout)
  · have hmanual : (s.dev.wgcMode x == 1) = false := (Bool.or_eq_false_iff.1 hsat).1
    have hwf : Dev.Within [R.AFE_EVT.at x, R.AFE_OVL_BLANK.at x] s.dev ((s.dev.ovlShown x).ovlFlagged x (s.dev.afeOf x).ovlAt) := hw.beside hregs'
    have hruns : ((s.dev.ovlShown x).ovlFlagged x (s.dev.afeOf x).ovlAt).splStopped = false := by
      rw [Dev.splStopped_within hwf (clkStat_not_ovl x), h.1]
    have hacq' : ((s.dev.ovlShown x).ovlFlagged x (s.dev.afeOf x).ovlAt).fbit R.AFE_STAT_ACQ x = false := by
      rw [hwf.fbit (f := R.AFE_STAT_ACQ) (.inr (afeStat_not_ovl x)), Dev.fbit, hacq]
      rfl
    rw [Dev.overloaded, hmanual, Dev.ovlAttack_target hruns (htarget'.trans (htarget.trans hnone)) hacq' hbelow, hwf.fget (.inl rfl), Dev.lg, htime', htime,
      Dev.lg]
  · have hsmp : (s.dev.ovlShown x).fbit R.AFE_STAT_SAMPLING x = true := by
      rw [hw.fbit (f := R.AFE_STAT_SAMPLING) (.inr (afeStat_not_ovl x)), Dev.fbit, hsampling]
      rfl
    have hlg (k : Nat) : (s.dev.ovlShown x).lgClk k = s.dev.lgClk k := by rw [Dev.lgClk, htime, Dev.lgClk]
    have hin (k : Nat) : (s.dev.ovlShown x).inBlock k = s.dev.inBlock k := by rw [Dev.inBlock, hgrid, hlg, Dev.inBlock]
    rw [Dev.overloaded, hblock'', hflagged'', Dev.ovlFlagged_afe, if_pos hsmp, AfeSt.flag]
    exact ⟨by rw [hblock, hin], by rw [hflagged, Dev.lgSpan, hlg, hlg]⟩
  · rw [Dev.overloaded, hclips'', hclips', hclips]

end

/-- Settles O2: each change of gain control by its own cases, in the order of the statement. An order turns on `attOrder_none`: without a change that
waits it is for the next lane group. -/
theorem afeGainControl : Obligations.AfeGainControl := by
  unfold Obligations.AfeGainControl
  intro s x v n
  refine ⟨runs_attenuatorStep_att, fun hruns ht _ => runs_attenuatorStep_waits hruns ht, runs_attenuatorStep_lna, fun h => ?_, fun h => ?_, fun h => ?_,
    fun hruns hlive hpassed hover => ?_, fun hruns hlive hpassed => runs_overloadWindow_few ⟨hruns, hlive, hpassed⟩⟩
  · obtain ⟨hstep, hpeak, hovl⟩ := exec_gainControl_stopped (x := x) h
    exact ⟨runs_self_of_exec hstep, runs_self_of_exec hpeak, runs_self_of_exec hovl⟩
  · obtain ⟨hruns, hpassed, hspaced, hfree, hclear, hopen, hdone, hsamples⟩ := h
    exact runs_peakWindow_up ⟨hruns, hpassed, hspaced, hfree, hclear, hopen, hdone, hsamples⟩
  · obtain ⟨hruns, hpassed, hspaced, hfree, hclear, hopen, hdone, hsamples⟩ := h
    exact runs_peakWindow_down ⟨hruns, hpassed, hspaced, hfree, hclear, hopen, hdone, hsamples⟩
  · obtain ⟨t, ht, hevt, hout, hin, hattack, hflags, hclips, honly⟩ := runs_overloadWindow_over ⟨hruns, hlive, hpassed⟩ hover
    refine ⟨t, ht, ?_, fun h => hout (Dev.ovlOut_iff.2 h), fun h => hin ?_, fun h => hattack ?_, hflags, hclips, honly⟩
    · simpa only [Dev.saturated_iff] using hevt
    · exact Bool.eq_false_iff.2 (fun ho => h (Dev.ovlOut_iff.1 ho))
    · exact Bool.eq_false_iff.2 (fun ho => h (Dev.saturated_iff.1 ho))

end Sys2Proof.Machine

/-!
SUPPORT. Coexistence and the site link: what opens and closes a blanking window, and how a transmission that waits for its grant goes on, ends or backs off
(R49, R51, R480, R484, R485, R494).
-/
namespace Sys2Proof.Machine

section
variable {d e g : Dev} {s : State} {x : SlkTx} {c : SlkCur} {n m k : Nat}

/-! ### The blanking window -/

theorem Dev.afeBlank_keeps (d : Dev) (n : Nat) : (d.afeBlank n).regs = d.regs ∧ (d.afeBlank n).cx = d.cx := by simp [Dev.afeBlank]

/-- A window that opens changes no register, and stands open. -/
theorem Dev.blankOpen_keeps (d : Dev) : d.blankOpen.regs = d.regs ∧ d.blankOpen.cx.blank = true := by
  unfold Dev.blankOpen
  split
  · exact ⟨rfl, ‹_›⟩
  · simp [Dev.each, Dev.afeBlank_keeps, Dev.dabBlank]

theorem exec_cxActChange_rise (h : s.dev.fbit R.CX_STAT_ACT = false) :
    exec (.cxActChange true) s = .next { s with dev := ((s.dev.fputB R.CX_STAT_ACT 0 true).event R.CX_EVT_ACT_RISE).blankOpen } := by
  show execCxActChange true s = _
  rw [execCxActChange, nextDev]
  simp only [h, Bool.not_false, Bool.and_true, if_true]

theorem exec_cxActChange_fall (h : s.dev.fbit R.CX_STAT_ACT = true) :
    exec (.cxActChange false) s = .next { s with dev := { s.dev.fputB R.CX_STAT_ACT 0 false with
      cx := { s.dev.cx with rel := s.dev.time.clk } } } := by
  show execCxActChange false s = _
  rw [execCxActChange, nextDev]
  simp only [h, Bool.false_and, Bool.not_false, Bool.and_true, Bool.false_eq_true, if_false, if_true]
  rfl

theorem runs_cxActChange_rise (h : s.dev.fbit R.CX_STAT_ACT = false) :
    Runs (.cxActChange true) s (fun t => Wrote s t R.CX_STAT_ACT 0 1 ∧ Raised s t R.CX_EVT_ACT_RISE ∧ t.dev.cx.blank = true ∧
      Only [R.CX_STAT.at 0, R.CX_EVT.at 0] s t) := by
  obtain ⟨hregs, hblank⟩ := Dev.blankOpen_keeps ((s.dev.fputB R.CX_STAT_ACT 0 true).event R.CX_EVT_ACT_RISE)
  refine ⟨_, exec_cxActChange_rise h, ?_, ?_, hblank, ?_⟩
  · show Dev.reg _ _ = _
    rw [Dev.reg_of_regs hregs, Dev.reg_event, if_neg (by decide), Dev.fputB, Dev.reg_fput, if_pos rfl]
    rfl
  · show Dev.reg _ _ = _
    rw [Dev.reg_of_regs hregs, Dev.reg_event, if_pos rfl, Dev.fputB, Dev.reg_fput, if_neg (by decide)]
    rfl
  · have hw : Dev.Within [R.CX_STAT.at 0, R.CX_EVT.at 0] s.dev ((s.dev.fputB R.CX_STAT_ACT 0 true).event R.CX_EVT_ACT_RISE) :=
      (Dev.within_fput (by decide)).event (by decide)
    exact (hw.beside hregs).only

theorem runs_cxActChange_fall (h : s.dev.fbit R.CX_STAT_ACT = true) :
    Runs (.cxActChange false) s (fun t => Wrote s t R.CX_STAT_ACT 0 0 ∧ t.dev.cx.rel = s.dev.time.clk ∧
      t.dev.cx.blank = s.dev.cx.blank ∧ Only [R.CX_STAT.at 0] s t) := by
  have hw : Dev.Within [R.CX_STAT.at 0] s.dev (s.dev.fputB R.CX_STAT_ACT 0 false) := Dev.within_fput (by decide)
  exact ⟨_, exec_cxActChange_fall h, wrote_fput s R.CX_STAT_ACT 0 0, rfl, rfl, (hw.beside rfl).only⟩

/-! ### The alias flags -/

/-- The alias flag of one ensemble context. -/
def Dev.cxFlag (d : Dev) (n : Nat) : Dev :=
  let hit := match d.cx.image with
    | some a => decide ((a - 2 * dbeCentre n).natAbs ≤ 1536)
    | none => false
  if hit = d.fbit R.DBE_STAT_CXA n then d else d.dbeCxa n hit

theorem Dev.cxFlags_eq (d : Dev) : d.cxFlags = d.each (List.range 41) Dev.cxFlag := rfl

/-- Without a transmission the flag is cleared. -/
theorem Dev.cxFlag_none (h : d.cx.image = none) :
    d.cxFlag n = if d.fbit R.DBE_STAT_CXA n = true then d.fputB R.DBE_STAT_CXA n false else d := by
  unfold Dev.cxFlag
  rw [h]
  cases d.fbit R.DBE_STAT_CXA n <;> simp [Dev.dbeCxa]

theorem Dev.cxFlag_none_keeps (h : d.cx.image = none) :
    (d.cxFlag n).cx = d.cx ∧ Dev.Within [R.DBE_STAT.at n] d (d.cxFlag n) ∧
    ∀ m, (d.cxFlag n).fbit R.DBE_STAT_CXA m = true → m ≠ n ∧ d.fbit R.DBE_STAT_CXA m = true := by
  rw [Dev.cxFlag_none h]
  split
  · refine ⟨rfl, Dev.within_fput (List.mem_singleton.2 rfl), fun m hm => ?_⟩
    by_cases hmn : m = n
    · subst hmn
      rw [Dev.fbit_fputB _ _ _ rfl rfl (by decide)] at hm
      cases hm
    · rw [Dev.fbit, Dev.fputB, Dev.fget_fput_other _ _ _ _ _ _ (by simp [R.DBE_STAT_CXA]; omega)] at hm
      exact ⟨hmn, hm⟩
  · rename_i hclear
    exact ⟨rfl, .refl, fun m hm => ⟨fun hmn => hclear (hmn ▸ hm), hm⟩⟩

/-- Without a transmission the flags of a list of contexts are cleared, the others stay. -/
theorem Dev.cxFlags_none_list (l : List Nat) : ∀ d : Dev, d.cx.image = none →
    (d.each l Dev.cxFlag).cx = d.cx ∧ Dev.Within (l.map (fun n => R.DBE_STAT.at n)) d (d.each l Dev.cxFlag) ∧
    ∀ m, (d.each l Dev.cxFlag).fbit R.DBE_STAT_CXA m = true → m ∉ l ∧ d.fbit R.DBE_STAT_CXA m = true := by
  induction l with
  | nil => exact fun d _ => ⟨rfl, .refl, fun m hm => ⟨List.not_mem_nil, hm⟩⟩
  | cons n l ih =>
    intro d h
    obtain ⟨hcx, hw, hflag⟩ := Dev.cxFlag_none_keeps (n := n) h
    obtain ⟨hcx', hw', hflag'⟩ := ih (d.cxFlag n) (by rw [hcx, h])
    refine ⟨hcx'.trans hcx, (hw.mono (by simp)).trans (hw'.mono (fun i hi => List.mem_cons_of_mem _ hi)), fun m hm => ?_⟩
    obtain ⟨hml, hm'⟩ := hflag' m hm
    obtain ⟨hmn, hm''⟩ := hflag m hm'
    exact ⟨List.not_mem_cons_of_ne_of_not_mem hmn hml, hm''⟩

/-- Coexistence with its blanking window closed in cycle `clk`. -/
def CxSt.shut (x : CxSt) (clk : Nat) : CxSt := { x with blank := false, image := none, endClk := clk + 1, spans := x.spans ++ [(x.since, clk)] }

/-- The block with its blanking window closed. -/
def Dev.blankShut (d : Dev) : Dev := ({ d with cx := d.cx.shut d.time.clk }.afeUnblank 0).afeUnblank 1

theorem Dev.blankShut_keeps (d : Dev) : d.blankShut.regs = d.regs ∧ d.blankShut.cx = d.cx.shut d.time.clk := by simp [Dev.blankShut, Dev.afeUnblank]

theorem exec_blankingEnd_due (hopen : s.dev.cx.blank = true) (htx : s.dev.cx.tx = false) (hact : s.dev.fbit R.CX_STAT_ACT = false)
    (hpast : usCycles 200 ≤ s.dev.since s.dev.cx.rel) : exec .blankingEnd s = .next { s with dev := s.dev.blankShut.cxFlags } := by
  show execBlankingEnd s = _
  rw [execBlankingEnd, nextDev]
  refine congrArg (fun d => Host.Outcome.next { s with dev := d }) (if_pos ?_)
  rw [hopen, htx, hact, decide_eq_true hpast]
  rfl

theorem runs_blankingEnd_due (hopen : s.dev.cx.blank = true) (htx : s.dev.cx.tx = false) (hact : s.dev.fbit R.CX_STAT_ACT = false)
    (hpast : usCycles 200 ≤ s.dev.since s.dev.cx.rel) :
    Runs .blankingEnd s (fun t => t.dev.cx.blank = false ∧ t.dev.cx.image = none ∧ (∀ n : Fin 41, t.dev.fbit R.DBE_STAT_CXA n = false) ∧
      Only ((List.range 41).map (fun n => R.DBE_STAT.at n)) s t) := by
  obtain ⟨hregs, hshut⟩ := s.dev.blankShut_keeps
  obtain ⟨hcx, hw, hflag⟩ := Dev.cxFlags_none_list (List.range 41) s.dev.blankShut (congrArg CxSt.image hshut)
  rw [← Dev.cxFlags_eq] at hcx hw hflag
  have hblank : s.dev.blankShut.cxFlags.cx.blank = false := by rw [hcx, hshut, CxSt.shut]
  have himage : s.dev.blankShut.cxFlags.cx.image = none := by rw [hcx, hshut, CxSt.shut]
  have hexec := exec_blankingEnd_due hopen htx hact hpast
  generalize s.dev.blankShut.cxFlags = e at *
  refine ⟨_, hexec, hblank, himage, fun n => ?_, ?_⟩
  · exact Bool.eq_false_iff.2 (fun hn => (hflag n hn).1 (List.mem_range.2 n.isLt))
  · exact (Dev.Within.of_same_regs (d := s.dev) hw hregs).only

theorem exec_blankingEnd_not (h : s.dev.cx.tx = true ∨ s.dev.fbit R.CX_STAT_ACT = true ∨ s.dev.since s.dev.cx.rel < usCycles 200) :
    exec .blankingEnd s = .next s := by
  show execBlankingEnd s = _
  rw [execBlankingEnd, nextDev]
  refine congrArg (fun d => Host.Outcome.next { s with dev := d }) (if_neg ?_)
  obtain htx | hact | hearly := h
  · simp [htx]
  · simp [hact]
  · simp [decide_eq_false (Nat.not_le.2 hearly)]

/-! ### The radio between transmissions -/

/-- What a hop keeps, and the register in which it shows. -/
theorem Dev.slkHop_keeps (d : Dev) (h : Nat) : Dev.Within [R.SLK_STAT.at 0] d (d.slkHop h) ∧ (d.slkHop h).slk.tx = d.slk.tx ∧
    (d.slkHop h).slk.cur = d.slk.cur ∧ (d.slkHop h).slk.reports = d.slk.reports ∧ (d.slkHop h).time = d.time := by
  have hw : Dev.Within [R.SLK_STAT.at 0] d
      (((d.fput R.SLK_STAT_HOP 0 h).fputB R.SLK_STAT_LOCKED 0 false).fput R.SLK_STAT_STATE 0 (if !d.fbit R.SLK_HOP_CAL_VALID h then 7 else 1)) :=
    ((Dev.within_fput (by decide)).fput (by decide)).fput (by decide)
  exact ⟨hw.beside rfl, rfl, rfl, rfl, rfl⟩

theorem Dev.slkIdle_keeps (d : Dev) : Dev.Within [R.SLK_STAT.at 0] d d.slkIdle ∧ d.slkIdle.slk.tx = d.slk.tx ∧
    d.slkIdle.slk.cur = d.slk.cur ∧ d.slkIdle.slk.reports = d.slk.reports ∧ d.slkIdle.time = d.time := by
  have hput (v : Nat) : Dev.Within [R.SLK_STAT.at 0] d (d.fput R.SLK_STAT_STATE 0 v) ∧ (d.fput R.SLK_STAT_STATE 0 v).slk.tx = d.slk.tx ∧
      (d.fput R.SLK_STAT_STATE 0 v).slk.cur = d.slk.cur ∧ (d.fput R.SLK_STAT_STATE 0 v).slk.reports = d.slk.reports ∧
      (d.fput R.SLK_STAT_STATE 0 v).time = d.time := ⟨Dev.within_fput (by decide), rfl, rfl, rfl, rfl⟩
  have hstay : Dev.Within [R.SLK_STAT.at 0] d d ∧ d.slk.tx = d.slk.tx ∧ d.slk.cur = d.slk.cur ∧ d.slk.reports = d.slk.reports ∧ d.time = d.time :=
    ⟨.refl, rfl, rfl, rfl, rfl⟩
  unfold Dev.slkIdle
  repeat' split
  · exact hput 0
  · exact hstay
  · exact hput 3
  · exact hput 6
  · exact hput 2
  · exact d.slkHop_keeps _
  · exact hput 2
  · exact hstay
  · exact d.slkHop_keeps _

theorem Dev.cxDrop_keeps (d : Dev) : Dev.Within [R.CX_STAT.at 0] d d.cxDrop ∧ d.cxDrop.slk = d.slk ∧ d.cxDrop.time = d.time ∧
    d.cxDrop.fget R.CX_STAT_REQ = 0 := by
  refine ⟨(Dev.within_fput (by decide)).fput (by decide), rfl, rfl, ?_⟩
  rw [Dev.cxDrop, Dev.fputB, Dev.fget_fput_apart _ _ (by decide) (.inr (by decide)), Dev.fputB, Dev.fget_fput _ _ _ _ (by decide) (by decide) rfl]
  rfl

/-- The request falls, and the radio goes on: the registers in which that shows, and what stays. -/
theorem Dev.cxDrop_slkIdle (d : Dev) : Dev.Within [R.SLK_STAT.at 0, R.CX_STAT.at 0] d d.cxDrop.slkIdle ∧ d.cxDrop.slkIdle.slk.tx = d.slk.tx ∧
    d.cxDrop.slkIdle.slk.cur = d.slk.cur ∧ d.cxDrop.slkIdle.slk.reports = d.slk.reports ∧ d.cxDrop.slkIdle.fget R.CX_STAT_REQ = 0 := by
  obtain ⟨hdrop, hslk, -, hreq⟩ := d.cxDrop_keeps
  obtain ⟨hidle, htx, hcur, hreports, -⟩ := d.cxDrop.slkIdle_keeps
  exact ⟨(hdrop.mono (by simp)).trans (hidle.mono (by simp)), by rw [htx, hslk], by rw [hcur, hslk], by rw [hreports, hslk],
    (hidle.fget (f := R.CX_STAT_REQ) (.inr (by decide))).trans hreq⟩

/-! ### The end of a request -/

theorem Dev.slkReport_keeps (d : Dev) (bs : List Nat) : Dev.Within [R.SLK_EVT.at 0, R.SLK_RXQ_OVF.at 0] d (d.slkReport bs) ∧
    (d.slkReport bs).slk = { d.slk with reports := (d.slkReport bs).slk.reports } ∧ (d.slkReport bs).slk.reports.getLast? = some bs := by
  unfold Dev.slkReport
  split
  · have hw : Dev.Within [R.SLK_EVT.at 0, R.SLK_RXQ_OVF.at 0] d ((d.bump R.SLK_RXQ_OVF_COUNT).event R.SLK_EVT_RXQ_OVF) :=
      (Dev.within_fput (by decide)).event (by decide)
    exact ⟨hw.beside rfl, by simp [Dev.updSlk, Dev.bump, Dev.bumpBy, Dev.event], by simp⟩
  · exact ⟨.of_regs rfl, rfl, by simp⟩

theorem Dev.slkLog_shows (d : Dev) (kind : Nat) (l : SlkLog) : Dev.Shows [] d (d.slkLog kind l) := by
  unfold Dev.slkLog
  split
  · exact Dev.Shows.refl.formPacket _
  · exact .refl

/-- A request that ends otherwise than delivered: its report is the newest, TX_FAIL is set. -/
theorem Dev.slkOutcome_fails (d : Dev) (q : SlkReq) (retries air time : Nat) {outcome : Nat} (level : Int) (h : outcome ≠ 0) :
    Dev.Within [R.SLK_EVT.at 0, R.SLK_RXQ_OVF.at 0] d (d.slkOutcome q outcome retries level air time) ∧
    (d.slkOutcome q outcome retries level air time).slk.tx = d.slk.tx ∧ (d.slkOutcome q outcome retries level air time).slk.cur = d.slk.cur ∧
    (d.slkOutcome q outcome retries level air time).slk.reports.getLast? = some ([2, q.seq, outcome, retries] ++ beWord q.dst ++ [dbmByte level]) ∧
    (d.slkOutcome q outcome retries level air time).fbit R.SLK_EVT_TX_FAIL = true := by
  obtain ⟨hw, hslk, hlast⟩ := d.slkReport_keeps ([2, q.seq, outcome, retries] ++ beWord q.dst ++ [dbmByte level])
  rw [Dev.slkOutcome]
  simp only [if_neg h]
  generalize d.slkReport ([2, q.seq, outcome, retries] ++ beWord q.dst ++ [dbmByte level]) = e at hw hslk hlast ⊢
  generalize hl : (SlkLog.mk ..) = l
  have hlog := Dev.slkLog_shows ((e.event R.SLK_EVT_TX_DONE).event R.SLK_EVT_TX_FAIL) 4 l
  have hkeep : (((e.event R.SLK_EVT_TX_DONE).event R.SLK_EVT_TX_FAIL).slkLog 4 l).slk = e.slk := by
    rw [hlog.keeps (fun d => d.slk) (fun _ _ _ _ _ => rfl)]
    simp [Dev.event]
  have hw' : Dev.Within [R.SLK_EVT.at 0, R.SLK_RXQ_OVF.at 0] d ((e.event R.SLK_EVT_TX_DONE).event R.SLK_EVT_TX_FAIL) :=
    (hw.event (by decide)).event (by decide)
  refine ⟨hw'.trans (hlog.within.mono (by simp)), by rw [hkeep, hslk], by rw [hkeep, hslk], by rw [hkeep, hlast], ?_⟩
  rw [hlog.within.fbit (.inr List.not_mem_nil)]
  exact Dev.fbit_event _ 0 rfl rfl (by decide)

/-- The registers in which the end of a transmission shows. -/
def slkShown : List Nat := [R.SLK_STAT.at 0, R.SLK_EVT.at 0, R.SLK_RXQ_OVF.at 0, R.CX_STAT.at 0]

/-- An acknowledgement that is given up leaves the request in service. -/
theorem Dev.txFail_ack (d : Dev) (o : Nat) (h : x.isAck = true) : Dev.Within slkShown d (d.txFail x o) ∧ (d.txFail x o).slk.tx = none ∧
    (d.txFail x o).slk.cur = d.slk.cur ∧ (d.txFail x o).fget R.CX_STAT_REQ = 0 := by
  rw [Dev.txFail]
  simp only [if_pos h]
  obtain ⟨hw, htx, hcur, -, hreq⟩ :=
    ((d.updSlk (fun k => { k with tx := none, paEn := false, tr := false, noiseClk := d.time.clk })).progress 21).cxDrop_slkIdle
  exact ⟨(Dev.Within.of_same_regs (d := d) hw rfl).mono (by decide), htx, hcur, hreq⟩

/-- A request whose transmission fails ends with the outcome. -/
theorem Dev.txFail_request (d : Dev) {o : Nat} (h : x.isAck = false) (hcur : d.slk.cur = some c) (ho : o ≠ 0) :
    Dev.Within slkShown d (d.txFail x o) ∧ (d.txFail x o).slk.tx = none ∧ (d.txFail x o).slk.cur = none ∧
    (d.txFail x o).slk.reports.getLast? = some ([2, c.req.seq, o, c.retries] ++ beWord c.req.dst ++ [0]) ∧
    (d.txFail x o).fbit R.SLK_EVT_TX_FAIL = true := by
  have hend : (d.txFail x o) = (((((d.updSlk (fun k => { k with tx := none, paEn := false, tr := false, noiseClk := d.time.clk })).progress 21).updSlk
      (fun k => { k with cur := none })).slkOutcome c.req o c.retries 0 c.air (if c.air = 0 || false then d.time.stamp else c.time)).cxDrop).slkIdle := by
    rw [Dev.txFail]
    simp only [h, Bool.false_eq_true, if_false, Dev.slkEnd, Dev.updSlk, Dev.progress, hcur]
    rfl
  rw [hend]
  generalize hg : ((d.updSlk (fun k => { k with tx := none, paEn := false, tr := false, noiseClk := d.time.clk })).progress 21).updSlk
      (fun k => { k with cur := none }) = g
  have hregs : g.regs = d.regs := by rw [← hg]; rfl
  have htx : g.slk.tx = none := by rw [← hg]; rfl
  have hnone : g.slk.cur = none := by rw [← hg]; rfl
  obtain ⟨hw, htx', hcur', hlast, hfail⟩ := g.slkOutcome_fails c.req c.retries c.air (if c.air = 0 || false then d.time.stamp else c.time) 0 ho
  obtain ⟨hw', htx'', hcur'', hreports, -⟩ :=
    (g.slkOutcome c.req o c.retries 0 c.air (if c.air = 0 || false then d.time.stamp else c.time)).cxDrop_slkIdle
  refine ⟨?_, by rw [htx'', htx', htx], by rw [hcur'', hcur', hnone], by rw [hreports, hlast]; rfl, ?_⟩
  · exact Dev.Within.of_same_regs (d := d) ((hw.mono (by decide)).trans (hw'.mono (by decide))) hregs
  · exact (hw'.fbit (f := R.SLK_EVT_TX_FAIL) (.inr (by decide))).trans hfail

/-- A random number below a bound that is not 0. -/
theorem Dev.random_lt (d : Dev) (h : 0 < n) : d.random n < n := by
  rw [Dev.random, Nat.max_eq_left h]
  exact Nat.mod_lt _ h

/-- A request that backs off waits a random number of slots within the bound of this back-off. -/
theorem Dev.txRetry_keeps (d : Dev) (k : Nat) (hcur : d.slk.cur = some c) : Dev.Within slkShown d (d.txRetry k) ∧ (d.txRetry k).slk.tx = none ∧
    ∃ w ≤ d.fget R.SLK_RETRY_SLOT * (2 ^ min k (d.fget R.SLK_RETRY_BE_MAX) - 1),
      (d.txRetry k).slk.cur = some { c with phase := 2, clk := d.time.clk, wait := w } := by
  rw [Dev.txRetry]
  obtain ⟨hw, htx, hcur', -, -⟩ :=
    (((d.updSlk (fun k => { k with tx := none, noiseClk := d.time.clk })).progress 21).slkBackoff k).cxDrop_slkIdle
  refine ⟨(Dev.Within.of_same_regs (d := d) hw rfl).mono (by decide), htx,
    d.fget R.SLK_RETRY_SLOT * d.random (2 ^ min k (d.fget R.SLK_RETRY_BE_MAX)), Nat.mul_le_mul_left _ ?_, ?_⟩
  · exact Nat.le_sub_one_of_lt (d.random_lt (Nat.two_pow_pos _))
  · rw [hcur']
    show Option.map _ d.slk.cur = _
    rw [hcur]
    rfl

/-! ### The grant -/

theorem exec_cxGrant_none (h : s.dev.slk.tx = none) : exec .cxGrant s = .next { s with dev := s.dev.fputB R.CX_STAT_GNT 0 true } := by
  show execCxGrant s = _
  have h' : (s.dev.fputB R.CX_STAT_GNT 0 true).slk.tx = none := h
  rw [execCxGrant, nextDev]
  simp only [h']

/-- The block in which a transmission begins to listen, for `w` half milliseconds. -/
def Dev.listening (d : Dev) (t : SlkTx) (w : Nat) : Dev :=
  { (d.fput R.SLK_STAT_STATE 0 4).progress 21 with
    freeIdx := d.freeIdx + 1, slk := { d.slk with tx := some { t with phase := 3, clk := d.time.clk, wait := w } } }

theorem exec_cxGrant_listens (htx : s.dev.slk.tx = some x) (hphase : x.phase = 2) (hack : x.isAck = false)
    (hlbt : s.dev.fbit R.SLK_HOP_CFG_LBT x.hop = true) :
    exec .cxGrant s = .next { s with dev := (s.dev.fputB R.CX_STAT_GNT 0 true).listening x (10 + (s.dev.fputB R.CX_STAT_GNT 0 true).random 11) } := by
  show execCxGrant s = _
  have htx' : (s.dev.fputB R.CX_STAT_GNT 0 true).slk.tx = some x := htx
  have hlbt' : (s.dev.fputB R.CX_STAT_GNT 0 true).fbit R.SLK_HOP_CFG_LBT x.hop = true := by
    rw [Dev.fbit, Dev.fputB, Dev.fget_fput_staged _ _ _ _ _ _ rfl]
    exact hlbt
  rw [execCxGrant, nextDev]
  simp only [htx', if_pos hphase]
  rw [Dev.txListen, if_pos (by rw [hlbt', hack]; rfl)]
  rfl

theorem runs_cxGrant_listens (htx : s.dev.slk.tx = some x) (hphase : x.phase = 2) (hack : x.isAck = false)
    (hlbt : s.dev.fbit R.SLK_HOP_CFG_LBT x.hop = true) :
    Runs .cxGrant s (fun t => t.dev.slk.tx.map (fun y => { y with wait := 0 }) = some { x with phase := 3, clk := s.dev.time.clk, wait := 0 } ∧
      10 ≤ (t.dev.slk.tx.map (·.wait)).getD 0 ∧ (t.dev.slk.tx.map (·.wait)).getD 0 ≤ 20 ∧ t.dev.fget R.SLK_STAT_STATE = 4 ∧
      t.dev.fget R.CX_STAT_GNT = 1 ∧ Only [R.CX_STAT.at 0, R.SLK_STAT.at 0] s t) := by
  have hlt := (s.dev.fputB R.CX_STAT_GNT 0 true).random_lt (n := 11) (by decide)
  have hregs : ((s.dev.fputB R.CX_STAT_GNT 0 true).listening x (10 + (s.dev.fputB R.CX_STAT_GNT 0 true).random 11)).regs =
      ((s.dev.fputB R.CX_STAT_GNT 0 true).fput R.SLK_STAT_STATE 0 4).regs := rfl
  have hw : Dev.Within [R.CX_STAT.at 0, R.SLK_STAT.at 0] s.dev ((s.dev.fputB R.CX_STAT_GNT 0 true).fput R.SLK_STAT_STATE 0 4) :=
    (Dev.within_fput (by decide)).fput (by decide)
  refine ⟨_, exec_cxGrant_listens htx hphase hack hlbt, rfl, Nat.le_add_right _ _, ?_, ?_, ?_, (hw.beside hregs).only⟩
  · exact Nat.add_le_add_left (Nat.le_of_lt_succ hlt) 10
  · rw [Dev.fget_of_regs hregs, Dev.fget_fput _ _ _ _ (by decide) (by decide) rfl]
    rfl
  · rw [Dev.fget_of_regs hregs, Dev.fget_fput_other _ _ _ _ _ _ (by decide), Dev.fputB, Dev.fget_fput _ _ _ _ (by decide) (by decide) rfl]
    rfl

/-! ### No grant in time -/

/-- A transmission has waited for its grant beyond GNT_TMO (R484). -/
def Dev.ungranted (d : Dev) (x : SlkTx) : Prop :=
  d.slk.tx = some x ∧ x.phase = 2 ∧ usCycles (100 * d.fget R.CX_CFG_GNT_TMO) < d.since x.clk

/-- The denial is counted and flagged. -/
def Dev.deniedShown (d : Dev) : Dev := (d.bump R.CX_DENIED_COUNT).event R.CX_EVT_DENIED

theorem Dev.deniedShown_within (d : Dev) : Dev.Within [R.CX_DENIED.at 0, R.CX_EVT.at 0] d d.deniedShown :=
  (Dev.within_fput (by decide)).event (by decide)

theorem Dev.deniedShown_beside (d : Dev) : d.deniedShown.slk = d.slk ∧ d.deniedShown.time = d.time := by simp [Dev.deniedShown, Dev.bump, Dev.bumpBy, Dev.event]

/-- What follows a denial touches neither its counter nor its event. -/
theorem deniedShown_counted (hregs : g.regs = s.dev.deniedShown.regs) (hw : Dev.Within slkShown g e) :
    Counted s { s with dev := e } R.CX_DENIED_COUNT ∧ Raised s { s with dev := e } R.CX_EVT_DENIED ∧
    Only (slkShown ++ [R.CX_DENIED.at 0, R.CX_EVT.at 0]) s { s with dev := e } := by
  have hall := Dev.Within.of_same_regs (d := s.dev.deniedShown) hw hregs
  refine ⟨?_, ?_, ((s.dev.deniedShown_within.mono (by decide)).trans (hall.mono (by decide))).only⟩
  · show e.reg _ = _
    rw [hall.reg _ (by decide), Dev.deniedShown, Dev.reg_event, if_neg (by decide)]
    exact counted_bump s R.CX_DENIED_COUNT 0
  · show e.reg _ = _
    rw [hall.reg _ (by decide), Dev.deniedShown, Dev.reg_event, if_pos rfl, Dev.bump, Dev.bumpBy, Dev.reg_fput, if_neg (by decide)]
    rfl

/-- The block with the denials of the request in service counted. -/
def Dev.denials (d : Dev) (n : Nat) : Dev := d.deniedShown.updSlk (fun k => { k with cur := k.cur.map (fun c => { c with denied := n }) })

theorem exec_cxGrantTimeout_ack (h : s.dev.ungranted x) (hack : x.isAck = true) :
    exec .cxGrantTimeout s = .next { s with dev := s.dev.deniedShown.txFail x 4 } := by
  obtain ⟨htx, hphase, hlate⟩ := h
  show execCxGrantTimeout s = _
  rw [execCxGrantTimeout, nextDev]
  simp only [htx, hphase, decide_eq_true hlate, decide_true, Bool.and_true, if_true, hack]
  rfl

/-- A request whose denials are counted ends, or backs off. -/
def Dev.deniedNext (d : Dev) (x : SlkTx) (n : Nat) : Dev :=
  if d.fget R.SLK_RETRY_MAX < n then (d.denials n).txFail x 4 else (d.denials n).txRetry n

theorem exec_cxGrantTimeout_request (h : s.dev.ungranted x) (hack : x.isAck = false) (hcur : s.dev.slk.cur = some c) :
    exec .cxGrantTimeout s = .next { s with dev := s.dev.deniedNext x (c.denied + 1) } := by
  obtain ⟨htx, hphase, hlate⟩ := h
  have hcur' : ((s.dev.bump R.CX_DENIED_COUNT).event R.CX_EVT_DENIED).slk.cur = some c := by
    rw [← Dev.deniedShown, s.dev.deniedShown_beside.1, hcur]
  have hmax : (s.dev.denials (c.denied + 1)).fget R.SLK_RETRY_MAX = s.dev.fget R.SLK_RETRY_MAX := by
    have hregs : (s.dev.denials (c.denied + 1)).regs = s.dev.deniedShown.regs := rfl
    rw [Dev.fget_of_regs hregs, s.dev.deniedShown_within.fget (.inl rfl)]
  show execCxGrantTimeout s = _
  rw [execCxGrantTimeout, nextDev]
  simp only [htx, hphase, decide_eq_true hlate, decide_true, Bool.and_true, if_true, hack, Bool.false_eq_true, if_false, hcur']
  rw [Dev.deniedNext, ← hmax]
  rfl

theorem Dev.denials_cur (hcur : d.slk.cur = some c) : (d.denials n).slk.cur = some { c with denied := n } := by
  show Option.map _ d.deniedShown.slk.cur = _
  rw [d.deniedShown_beside.1, hcur]
  rfl

theorem runs_cxGrantTimeout_ack (h : s.dev.ungranted x) (hack : x.isAck = true) :
    Runs .cxGrantTimeout s (fun t => t.dev.slk.tx = none ∧ t.dev.slk.cur = s.dev.slk.cur ∧ Counted s t R.CX_DENIED_COUNT ∧ Raised s t R.CX_EVT_DENIED ∧
      t.dev.fget R.CX_STAT_REQ = 0 ∧ Only (slkShown ++ [R.CX_DENIED.at 0, R.CX_EVT.at 0]) s t) := by
  obtain ⟨hw, htx, hcur, hreq⟩ := s.dev.deniedShown.txFail_ack 4 hack
  obtain ⟨hcount, hraise, honly⟩ := deniedShown_counted (s := s) rfl hw
  exact ⟨_, exec_cxGrantTimeout_ack h hack, htx, by rw [hcur, s.dev.deniedShown_beside.1], hcount, hraise, hreq, honly⟩

theorem runs_cxGrantTimeout_backs (h : s.dev.ungranted x) (hack : x.isAck = false) (hcur : s.dev.slk.cur = some c)
    (hfew : c.denied + 1 ≤ s.dev.fget R.SLK_RETRY_MAX) :
    Runs .cxGrantTimeout s (fun t => t.dev.slk.tx = none ∧
      (∃ w ≤ s.dev.fget R.SLK_RETRY_SLOT * (2 ^ min (c.denied + 1) (s.dev.fget R.SLK_RETRY_BE_MAX) - 1),
        t.dev.slk.cur = some { c with denied := c.denied + 1, phase := 2, clk := s.dev.time.clk, wait := w }) ∧
      Counted s t R.CX_DENIED_COUNT ∧ Only (slkShown ++ [R.CX_DENIED.at 0, R.CX_EVT.at 0]) s t) := by
  obtain ⟨hw, htx, w, hle, hcur'⟩ := (s.dev.denials (c.denied + 1)).txRetry_keeps (c.denied + 1) (Dev.denials_cur hcur)
  obtain ⟨hcount, -, honly⟩ := deniedShown_counted (s := s) (g := s.dev.denials (c.denied + 1)) rfl hw
  have hregs : (s.dev.denials (c.denied + 1)).regs = s.dev.deniedShown.regs := rfl
  have htime : (s.dev.denials (c.denied + 1)).time = s.dev.time := s.dev.deniedShown_beside.2
  rw [Dev.fget_of_regs hregs, Dev.fget_of_regs hregs, s.dev.deniedShown_within.fget (.inl rfl), s.dev.deniedShown_within.fget (.inl rfl)] at hle
  have hexec := exec_cxGrantTimeout_request h hack hcur
  rw [Dev.deniedNext, if_neg (Nat.not_lt.2 hfew)] at hexec
  exact ⟨_, hexec, htx, ⟨w, hle, by rw [hcur', htime]⟩, hcount, honly⟩

theorem runs_cxGrantTimeout_ends (h : s.dev.ungranted x) (hack : x.isAck = false) (hcur : s.dev.slk.cur = some c)
    (hmany : s.dev.fget R.SLK_RETRY_MAX < c.denied + 1) :
    Runs .cxGrantTimeout s (fun t => t.dev.slk.tx = none ∧ t.dev.slk.cur = none ∧
      t.dev.slk.reports.getLast? = some ([2, c.req.seq, 4, c.retries] ++ beWord c.req.dst ++ [0]) ∧
      bitAt (t.reg (R.SLK_EVT.at 0)).toNat 3 = true ∧ Only (slkShown ++ [R.CX_DENIED.at 0, R.CX_EVT.at 0]) s t) := by
  obtain ⟨hw, htx, hcur', hlast, hfail⟩ := (s.dev.denials (c.denied + 1)).txFail_request hack (Dev.denials_cur hcur) (o := 4) (by decide)
  obtain ⟨-, -, honly⟩ := deniedShown_counted (s := s) (g := s.dev.denials (c.denied + 1)) rfl hw
  have hexec := exec_cxGrantTimeout_request h hack hcur
  rw [Dev.deniedNext, if_pos hmany] at hexec
  refine ⟨_, hexec, htx, hcur', hlast, ?_, honly⟩
  rw [Dev.fbit_imm rfl rfl] at hfail
  exact hfail

/-! ### The grant withdrawn -/

theorem exec_cxGrantWithdrawn_none (h : s.dev.slk.tx = none) :
    exec .cxGrantWithdrawn s = .next { s with dev := s.dev.fputB R.CX_STAT_GNT 0 false } := by
  show execCxGrantWithdrawn s = _
  have h' : (s.dev.fputB R.CX_STAT_GNT 0 false).slk.tx = none := h
  rw [execCxGrantWithdrawn, nextDev]
  simp only [h']

/-- The withdrawal and the transmission it cuts, as they show. -/
def Dev.withdrawn (d : Dev) : Dev := ((d.fputB R.CX_STAT_GNT 0 false).bump R.CX_ABORTS_COUNT).event R.CX_EVT_ABORT

theorem Dev.withdrawn_keeps (d : Dev) : Dev.Within [R.CX_STAT.at 0, R.CX_ABORTS.at 0, R.CX_EVT.at 0] d d.withdrawn ∧ d.withdrawn.slk = d.slk ∧
    d.withdrawn.time = d.time ∧ d.withdrawn.fget R.CX_STAT_GNT = 0 := by
  refine ⟨((Dev.within_fput (by decide)).bump (by decide)).event (by decide), ?_, ?_, ?_⟩
  · simp [Dev.withdrawn, Dev.bump, Dev.bumpBy, Dev.event, Dev.fputB]
  · simp [Dev.withdrawn, Dev.bump, Dev.bumpBy, Dev.event, Dev.fputB]
  · rw [Dev.withdrawn, Dev.event, Dev.fget_setEvtBits_other (.inr (by decide)), Dev.bump, Dev.bumpBy, Dev.fget_fput_other _ _ _ _ _ _ (by decide),
      Dev.fputB, Dev.fget_fput _ _ _ _ (by decide) (by decide) rfl]
    rfl

/-- The site link with transmission `x` cut to end in cycle `stop`. -/
def SlkSt.cutBy (k : SlkSt) (x : SlkTx) (stop : Nat) : SlkSt := { k with tx := some { x with stop := stop, cut := some 6 } }

/-- The block in which the grant of transmission `x` is withdrawn while it is on air. -/
def Dev.aborted (d : Dev) (x : SlkTx) : Dev := d.withdrawn.updSlk (·.cutBy x (d.time.clk + usCycles (4 * d.fget R.SLK_RAMP_VALUE)))

theorem exec_cxGrantWithdrawn_cuts (htx : s.dev.slk.tx = some x) (hphase : x.phase = 5)
    (hlong : s.dev.time.clk + usCycles (4 * s.dev.fget R.SLK_RAMP_VALUE) < x.stop) (hen : s.dev.fbit R.CX_CFG_EN = true)
    (habort : s.dev.fbit R.CX_CFG_GNT_ABORT = true) :
    exec .cxGrantWithdrawn s = .next { s with dev := s.dev.aborted x } := by
  obtain ⟨hw, -, htime, -⟩ := s.dev.withdrawn_keeps
  have hput : Dev.Within [R.CX_STAT.at 0] s.dev (s.dev.fputB R.CX_STAT_GNT 0 false) := Dev.within_fput (by decide)
  have htx' : (s.dev.fputB R.CX_STAT_GNT 0 false).slk.tx = some x := htx
  have htime' : (s.dev.fputB R.CX_STAT_GNT 0 false).time = s.dev.time := rfl
  have hgo : ((x.phase == 3 || x.phase == 4 || (x.phase == 5 && decide ((s.dev.fputB R.CX_STAT_GNT 0 false).time.clk +
      usCycles (4 * (s.dev.fputB R.CX_STAT_GNT 0 false).fget R.SLK_RAMP_VALUE) < x.stop))) &&
      (s.dev.fputB R.CX_STAT_GNT 0 false).fbit R.CX_CFG_EN && (s.dev.fputB R.CX_STAT_GNT 0 false).fbit R.CX_CFG_GNT_ABORT) = true := by
    rw [hput.fget (.inl rfl), hput.fbit (.inl rfl), hput.fbit (.inl rfl), htime', hen, habort, decide_eq_true hlong, hphase]
    rfl
  show execCxGrantWithdrawn s = _
  rw [execCxGrantWithdrawn, nextDev]
  simp only [htx']
  rw [if_pos hgo, ← Dev.withdrawn, Dev.txCut, if_pos hphase, htime, hw.fget (.inl rfl)]
  rfl

theorem runs_cxGrantWithdrawn_cuts (htx : s.dev.slk.tx = some x) (hphase : x.phase = 5)
    (hlong : s.dev.time.clk + usCycles (4 * s.dev.fget R.SLK_RAMP_VALUE) < x.stop) (hen : s.dev.fbit R.CX_CFG_EN = true)
    (habort : s.dev.fbit R.CX_CFG_GNT_ABORT = true) :
    Runs .cxGrantWithdrawn s (fun t =>
      t.dev.slk.tx = some { x with stop := s.dev.time.clk + usCycles (4 * s.dev.fget R.SLK_RAMP_VALUE), cut := some 6 } ∧
      Counted s t R.CX_ABORTS_COUNT ∧ Raised s t R.CX_EVT_ABORT ∧ t.dev.fget R.CX_STAT_GNT = 0 ∧
      Only [R.CX_STAT.at 0, R.CX_ABORTS.at 0, R.CX_EVT.at 0] s t) := by
  obtain ⟨hw, -, -, hgnt⟩ := s.dev.withdrawn_keeps
  have hput : Dev.Within [R.CX_STAT.at 0] s.dev (s.dev.fputB R.CX_STAT_GNT 0 false) := Dev.within_fput (by decide)
  have hbump : Dev.Within [R.CX_STAT.at 0, R.CX_ABORTS.at 0] s.dev ((s.dev.fputB R.CX_STAT_GNT 0 false).bump R.CX_ABORTS_COUNT) :=
    (hput.mono (by decide)).bump (by decide)
  refine ⟨_, exec_cxGrantWithdrawn_cuts htx hphase hlong hen habort, rfl, ?_, ?_, ?_, (hw.beside rfl).only⟩
  · show Dev.reg s.dev.withdrawn _ = _
    rw [Dev.withdrawn, Dev.reg_event, if_neg (by decide), hput.reg_bump (by decide)]
    rfl
  · show Dev.reg s.dev.withdrawn _ = _
    rw [Dev.withdrawn, hbump.reg_event (by decide)]
    rfl
  · exact hgnt

end

/-- Settles O32: each signal by its own cases, in the order of the statement. A denial turns on whether the transmission that waits is an
acknowledgement, and else on the denials of the request in service. -/
theorem coexistenceSignals : Obligations.CoexistenceSignals := by
  unfold Obligations.CoexistenceSignals
  intro s x c
  refine ⟨runs_cxActChange_rise, runs_cxActChange_fall, runs_blankingEnd_due, fun h => runs_self_of_exec (exec_blankingEnd_not h), fun hnone => ?_,
    runs_cxGrant_listens, fun htx hphase hlate hack => runs_cxGrantTimeout_ack ⟨htx, hphase, hlate⟩ hack,
    fun htx hphase hlate hack hcur hfew => ?_,
    fun htx hphase hlate hack hcur hmany => runs_cxGrantTimeout_ends ⟨htx, hphase, hlate⟩ hack hcur hmany,
    runs_cxGrantWithdrawn_cuts, fun hnone => ?_⟩
  · exact ⟨_, exec_cxGrant_none hnone, wrote_fput s R.CX_STAT_GNT 0 1, rfl, only_fput s R.CX_STAT_GNT 0 1⟩
  · obtain ⟨t, ht, htx', ⟨w, hle, hcur'⟩, hcount, honly⟩ := runs_cxGrantTimeout_backs ⟨htx, hphase, hlate⟩ hack hcur hfew
    refine ⟨t, ht, htx', ⟨by rw [hcur']; rfl, ?_⟩, hcount, honly⟩
    rw [hcur']
    exact hle
  · exact ⟨_, exec_cxGrantWithdrawn_none hnone, wrote_fput s R.CX_STAT_GNT 0 0, rfl, only_fput s R.CX_STAT_GNT 0 0⟩

end Sys2Proof.Machine

/-!
SUPPORT. A counterexample to the statement of the scoring interval: a source whose context index lies beyond its pool, where the status of a programme that
is scored before it stands (R46, R50).
-/
namespace Sys2Proof.Machine

/-- Two programmes run, and the interval has met coexistence blanking. Programme 0 has not begun and has a candidate that scored 100; programme 1 has one
source, which scored 7: the AM context 515, whose STATE would lie in bits [15:13] of the status of programme 0. -/
def aliasedShedding : State :=
  { dev := { ((((({} : Dev).inForce R.CLK_STAT_SPL 0 2).inForce R.PWR_DOM_STAT_STATE 0 32).inForce R.PGT_SRC_KIND 16 2).inForce R.PGT_SRC_ARG 16 515) with
      boot := { phase := .released }, grid := { score := true }, scoreBlank := true,
      prg := [(0, { on := true, cands := [(8, some ⟨2, 0, 0, 0, 0, 0, 0⟩)], srcs := [(8, { score := 100 })] }),
        (1, { on := true, srcs := [(0, { score := 7 })] })] } }

/-- Programme 0 takes its candidate, source 8, and its status then reads as the state of a shed context. -/
theorem aliasedShedding_scores :
    Runs .scoringInterval aliasedShedding (fun t => (t.dev.srcOf 1 0).score = 0 ∧
      (if aliasedShedding.dev.srcShed 1 0 then 0 else (aliasedShedding.dev.srcOf 1 0).score) = 7) :=
  ⟨_, rfl, by decide +kernel⟩

/-- Refutes O20: within blanking a source off the air does not always keep its score of before. In `aliasedShedding` the index of its context lies
beyond the pool, so that a programme that is scored before it writes what is read as the state of that context: it counts as shed, and scores 0. -/
theorem not_prgScoresAndSwitches : ¬ Obligations.PrgScoresAndSwitches := by
  intro h
  obtain ⟨-, -, hblank, -⟩ := h aliasedShedding 1 0 0 0 ⟨none, 0, 0, 0, false, false, 0, 0, 0, none⟩ 0
  obtain ⟨t, ht, hkept, -⟩ := hblank (by decide +kernel) (by decide +kernel) (by decide) (by decide +kernel) (by decide +kernel) (by decide +kernel)
  obtain ⟨hscore, hbefore⟩ := (runs_iff_of_exec ht).1 aliasedShedding_scores
  rw [hscore, hbefore] at hkept
  exact absurd hkept (by simp)

end Sys2Proof.Machine

/-!
SUPPORT. Programmes: what a change of alignment, of pages and of the timeline leaves as it was, and how a crossfade ends (R301 to R312).
-/
namespace Sys2Proof.Machine

section
variable {d e g : Dev} {s : State} {n i p : Nat} {x : XfSt} {α : Type}

/-! ### Changes of alignment and of pages -/

/-- Event bits are set in their register alone. -/
theorem Dev.reg_setEvtBits {j b : Nat} : (d.setEvtBits i b).reg j = if j = i then d.reg i ||| BitVec.ofNat 16 b else d.reg j := by
  rw [Dev.setEvtBits_eq]
  exact smGet_smSet

theorem Dev.prgOf_fputB (d : Dev) (f : Fld) (k : Nat) (b : Bool) : (d.fputB f k b).prgOf p = d.prgOf p := rfl

/-- The registers in which the alignment of programme `n` shows. -/
def alignRegs (n : Nat) : List Nat := [R.PGT_STAT.at n, R.PRG_EVT.at 0, R.PRG_N_ALIGNED.at 0, R.PRG_PAGES_FREE.at 0]

/-- The status of a programme lies beyond the registers that the programmes share. -/
theorem pgtStat_apart {k : Nat} (hk : k < 0x2000) : R.PGT_STAT.at n ≠ k := by
  simp only [Fld.at, R.PGT_STAT]
  omega

/-- From `d` to `e` the sources of programme `n` change, and its flags; of its status no bit but ALIGNED. -/
structure Dev.Aligning (n : Nat) (d e : Dev) : Prop where
  within : Dev.Within (alignRegs n) d e
  time : e.time = d.time
  prg : e.prgOf n = { d.prgOf n with srcs := (e.prgOf n).srcs, flags := (e.prgOf n).flags }
  stat : ∀ f : Fld, f.at n = R.PGT_STAT.at n → f.hi < 10 ∨ 10 < f.lo → e.fget f n = d.fget f n
  evt : ∀ k, bitAt (d.reg (R.PRG_EVT.at 0)).toNat k = true → bitAt (e.reg (R.PRG_EVT.at 0)).toNat k = true

theorem Dev.Aligning.refl : Dev.Aligning n d d := ⟨.refl, rfl, rfl, fun _ _ _ => rfl, fun _ h => h⟩

theorem Dev.Aligning.trans (h₁ : Dev.Aligning n d e) (h₂ : Dev.Aligning n e g) : Dev.Aligning n d g :=
  ⟨h₁.within.trans h₂.within, h₂.time.trans h₁.time, by rw [h₂.prg, h₁.prg], fun f hat hbit => (h₂.stat f hat hbit).trans (h₁.stat f hat hbit),
    fun k hk => h₂.evt k (h₁.evt k hk)⟩

theorem Dev.Aligning.each {f : Dev → α → Dev} (hf : ∀ d a, Dev.Aligning n d (f d a)) (l : List α) (d : Dev) : Dev.Aligning n d (d.each l f) := by
  induction l generalizing d with
  | nil => exact .refl
  | cons a l ih => exact (hf d a).trans (ih (f d a))

theorem Dev.Aligning.updSrc (d : Dev) (n i : Nat) (f : SrcSt → SrcSt) : Dev.Aligning n d (d.updSrc n i f) :=
  ⟨.of_regs rfl, rfl, by simp [Dev.updSrc], fun _ _ _ => rfl, fun _ h => h⟩

theorem Dev.Aligning.prgFlag (d : Dev) (n k : Nat) : Dev.Aligning n d (d.prgFlag n k) where
  within := Dev.Within.of_same_regs (g := d.updPrg n (fun g => { g with flags := g.flags ||| 2 ^ k }))
    (Dev.within_setEvtBits (by simp [alignRegs, Fld.at])) rfl
  time := by simp [Dev.prgFlag]
  prg := by
    have hprg : (d.prgFlag n k).prg = (d.updPrg n (fun g => { g with flags := g.flags ||| 2 ^ k })).prg := by simp only [Dev.prgFlag, Dev.setEvtBits_parts]
    simp [Dev.prgOf, hprg]
  stat f hat _ := Dev.fget_setEvtBits_other (.inr (by rw [hat]; exact pgtStat_apart (by decide)))
  evt j hj := by
    rw [Dev.prgFlag, Dev.reg_setEvtBits]
    exact (if_pos rfl).symm ▸ bitAt_or hj

theorem Dev.Aligning.pagesBack (d : Dev) (n i k : Nat) : Dev.Aligning n d (d.pagesBack n i k) where
  within := Dev.Within.of_same_regs (g := d.updSrc n i (fun s => { s with pages := s.pages - k }))
    (Dev.within_fput (by simp [alignRegs, Fld.at, R.PRG_PAGES_FREE_COUNT, R.PRG_PAGES_FREE])) rfl
  time := rfl
  prg := (Dev.Aligning.updSrc d n i (fun s => { s with pages := s.pages - k })).prg
  stat f hat _ := Dev.fget_fput_apart _ _ (by decide) (.inl (by rw [hat]; exact pgtStat_apart (by decide)))
  evt j hj := by
    rw [Dev.pagesBack, Dev.reg_fput, if_neg (by decide)]
    exact hj

theorem Dev.Aligning.alignShow (d : Dev) (n : Nat) : Dev.Aligning n d (d.alignShow n) where
  within := (Dev.within_fput (by simp [alignRegs, Fld.at, R.PGT_STAT_ALIGNED, R.PGT_STAT])).fput
    (by simp [alignRegs, Fld.at, R.PRG_N_ALIGNED_COUNT, R.PRG_N_ALIGNED])
  time := rfl
  prg := rfl
  stat f hat hbit := (Dev.fget_fput_apart _ _ (by decide) (.inl (by rw [hat]; exact pgtStat_apart (by decide)))).trans
    (Dev.fget_fput_apart _ _ (by decide) (.inr hbit))
  evt j hj := by
    have hne : R.PRG_EVT.at 0 ≠ R.PGT_STAT_ALIGNED.at n := Ne.symm (pgtStat_apart (by decide))
    rw [Dev.alignShow, Dev.reg_fput, if_neg (by decide), Dev.fputB, Dev.reg_fput, if_neg hne]
    exact hj

theorem Dev.Aligning.onlyIf {b : Bool} {f : Dev → Dev} (hf : Dev.Aligning n d (f d)) : Dev.Aligning n d (onlyIf b f d) := by
  cases b
  · exact .refl
  · exact hf

theorem Dev.Aligning.setAlign (d : Dev) (n i k : Nat) : Dev.Aligning n d (d.setAlign n i k) :=
  ((Dev.Aligning.updSrc d n i _).trans (.onlyIf (.prgFlag _ n 1))).trans (.alignShow _ n)

theorem Dev.Aligning.toRange (d : Dev) (n i : Nat) : Dev.Aligning n d (d.toRange n i) :=
  (Dev.Aligning.pagesBack d n i _).trans (.setAlign _ n i 5)

theorem Dev.Aligning.fillTry (d : Dev) (n i : Nat) : Dev.Aligning n d (d.fillTry n i) := by
  rw [Dev.fillTry]
  split
  · exact .setAlign d n i 3
  · exact .refl

/-! ### Changes of the timeline -/

/-- From `d` to `e` the timeline of programme `n` changes: its sources, its flags and K_p; a crossfade of the active source into itself may begin. -/
structure Dev.Retimed (n : Nat) (d e : Dev) : Prop where
  within : Dev.Within (alignRegs n) d e
  time : e.time = d.time
  prg : e.prgOf n = { d.prgOf n with
    srcs := (e.prgOf n).srcs, flags := (e.prgOf n).flags, kp := (e.prgOf n).kp, kpTo := (e.prgOf n).kpTo, kpClk := (e.prgOf n).kpClk, xf := (e.prgOf n).xf }
  stat : ∀ f : Fld, f.at n = R.PGT_STAT.at n → f.hi < 9 ∨ 11 < f.lo → e.fget f n = d.fget f n
  fade : (e.prgOf n).xf = (d.prgOf n).xf ∧ e.fget R.PGT_STAT_XFADE n = d.fget R.PGT_STAT_XFADE n ∨
    (d.prgOf n).xf = none ∧ d.fbit R.PRG_ALIGN_GROW = false ∧ ∃ a, (d.prgOf n).active = some a ∧ (e.prgOf n).xf.map (fun y => (y.old, y.target)) = some (some a, a)
  evt : ∀ k, bitAt (d.reg (R.PRG_EVT.at 0)).toNat k = true → bitAt (e.reg (R.PRG_EVT.at 0)).toNat k = true

theorem Dev.Aligning.retimed (h : Dev.Aligning n d e) : Dev.Retimed n d e where
  within := h.within
  time := h.time
  prg := by
    have hprg := h.prg
    generalize e.prgOf n = a at hprg ⊢
    rw [hprg]
  stat f hat hbit := h.stat f hat (by omega)
  fade := .inl ⟨by rw [h.prg], h.stat _ rfl (by decide)⟩
  evt := h.evt

theorem Dev.Retimed.keeps (h : Dev.Retimed n d e) : (e.prgOf n).active = (d.prgOf n).active ∧ (e.prgOf n).since = (d.prgOf n).since ∧
    (e.prgOf n).switches = (d.prgOf n).switches ∧ (e.prgOf n).unaligned = (d.prgOf n).unaligned ∧ (e.prgOf n).trim = (d.prgOf n).trim ∧
    (e.prgOf n).trimClk = (d.prgOf n).trimClk := by
  rw [h.prg]
  exact ⟨rfl, rfl, rfl, rfl, rfl, rfl⟩

theorem Dev.Retimed.trans (h₁ : Dev.Retimed n d e) (h₂ : Dev.Retimed n e g) : Dev.Retimed n d g where
  within := h₁.within.trans h₂.within
  time := h₂.time.trans h₁.time
  prg := by
    have hprg := h₂.prg
    rw [h₁.prg] at hprg
    generalize g.prgOf n = a at hprg ⊢
    rw [hprg]
  stat f hat hbit := (h₂.stat f hat hbit).trans (h₁.stat f hat hbit)
  fade := by
    obtain ⟨hxf₁, hshown₁⟩ | ⟨hnone₁, hgrow₁, a₁, hactive₁, hxf₁⟩ := h₁.fade
    · obtain ⟨hxf₂, hshown₂⟩ | ⟨hnone₂, hgrow₂, a₂, hactive₂, hxf₂⟩ := h₂.fade
      · exact .inl ⟨hxf₂.trans hxf₁, hshown₂.trans hshown₁⟩
      · exact .inr ⟨hxf₁ ▸ hnone₂, by rw [← h₁.within.fbit (.inl rfl), hgrow₂], a₂, by rw [← h₁.keeps.1, hactive₂], hxf₂⟩
    · obtain ⟨hxf₂, -⟩ | ⟨hnone₂, -⟩ := h₂.fade
      · exact .inr ⟨hnone₁, hgrow₁, a₁, hactive₁, by rw [hxf₂, hxf₁]⟩
      · rw [hnone₂] at hxf₁
        cases hxf₁
  evt k hk := h₂.evt k (h₁.evt k hk)

/-- A change of K_p alone. -/
theorem Dev.Retimed.setKp (d : Dev) (n : Nat) (kp kpTo : Int) (clk : Nat) :
    Dev.Retimed n d (d.updPrg n (fun g => { g with kp := kp, kpTo := kpTo, kpClk := clk })) :=
  ⟨.of_regs rfl, rfl, by simp, fun _ _ _ => rfl, .inl ⟨by simp, rfl⟩, fun _ h => h⟩

/-- A change of SLEW or XFADE in the status. -/
theorem Dev.fputB_stat (d : Dev) {h : Fld} (b : Bool) (hat : ∀ m, h.at m = R.PGT_STAT.at m) (hbits : 9 ≤ h.lo ∧ h.lo ≤ h.hi ∧ h.hi ≤ 11) :
    Dev.Within (alignRegs n) d (d.fputB h n b) ∧
    (∀ f : Fld, f.at n = R.PGT_STAT.at n → f.hi < 9 ∨ 11 < f.lo → (d.fputB h n b).fget f n = d.fget f n) ∧
    ∀ k, bitAt (d.reg (R.PRG_EVT.at 0)).toNat k = true → bitAt ((d.fputB h n b).reg (R.PRG_EVT.at 0)).toNat k = true := by
  refine ⟨Dev.within_fput (by rw [hat]; simp [alignRegs]), fun f _ hbit => ?_, fun k hk => ?_⟩
  · exact Dev.fget_fput_apart _ _ (by omega) (.inr (by omega))
  · have hne : R.PRG_EVT.at 0 ≠ h.at n := by
      rw [hat]
      exact Ne.symm (pgtStat_apart (by decide))
    rw [Dev.fputB, Dev.reg_fput, if_neg hne]
    exact hk

theorem Dev.Retimed.slew (d : Dev) (n : Nat) (b : Bool) : Dev.Retimed n d (d.fputB R.PGT_STAT_SLEW n b) := by
  obtain ⟨hw, hstat, hevt⟩ := d.fputB_stat (n := n) (h := R.PGT_STAT_SLEW) b (fun _ => rfl) (by decide)
  exact ⟨hw, rfl, rfl, hstat, .inl ⟨rfl, Dev.fget_fput_apart _ _ (by decide) (.inr (by decide))⟩, hevt⟩

/-- The crossfade of the active source `a` of a programme into itself that begins in cycle `clk` (R309). -/
def PrgSt.fadeSelf (g : PrgSt) (a clk dur : Nat) (now : Int) : PrgSt :=
  { g with xf := some { old := some a, target := a, start := clk, dur := dur, aligned := false, fresh := a, trimOld := g.trim, trimOldClk := g.trimClk,
                        kpOld := some now } }

theorem Dev.Retimed.fadeSelf (d : Dev) (n : Nat) {a : Nat} (dur : Nat) (now : Int) (hnone : (d.prgOf n).xf = none) (hgrow : d.fbit R.PRG_ALIGN_GROW = false)
    (hactive : (d.prgOf n).active = some a) :
    Dev.Retimed n d ((d.updPrg n (fun g => g.fadeSelf a d.time.clk dur now)).fputB R.PGT_STAT_XFADE n true) := by
  obtain ⟨hw, hstat, hevt⟩ := (d.updPrg n (fun g => g.fadeSelf a d.time.clk dur now)).fputB_stat (n := n) (h := R.PGT_STAT_XFADE) true (fun _ => rfl) (by decide)
  have hprg : ((d.updPrg n (fun g => g.fadeSelf a d.time.clk dur now)).fputB R.PGT_STAT_XFADE n true).prgOf n = (d.prgOf n).fadeSelf a d.time.clk dur now := by
    rw [Dev.prgOf_fputB, Dev.prgOf_updPrg, if_pos rfl]
  exact ⟨Dev.Within.of_same_regs (d := d) hw rfl, by simp [Dev.fputB], by rw [hprg]; rfl, hstat, .inr ⟨hnone, hgrow, a, hactive, by rw [hprg]; rfl⟩, hevt⟩

/-- K_p goes to the value of R301. -/
theorem Dev.Retimed.kpAim (d : Dev) (n : Nat) : Dev.Retimed n d (d.kpAim n) := by
  unfold Dev.kpAim
  dsimp only
  split
  · exact Dev.Aligning.refl.retimed
  · rename_i hgoes
    have hnone : (d.prgOf n).xf = none := by
      rw [Bool.or_eq_true, not_or] at hgoes
      exact Option.not_isSome_iff_eq_none.1 hgoes.2
    split
    · exact (Dev.Retimed.setKp d n _ _ _).trans (.slew _ n true)
    · rename_i hjump
      have hset : Dev.Retimed n d ((d.updPrg n (fun g => { g with kp := d.kpWant n, kpTo := d.kpWant n })).fputB R.PGT_STAT_SLEW n false) := by
        have hone : Dev.Retimed n d (d.updPrg n (fun g => { g with kp := d.kpWant n, kpTo := d.kpWant n })) :=
          ⟨.of_regs rfl, rfl, by simp, fun _ _ _ => rfl, .inl ⟨by simp, rfl⟩, fun _ h => h⟩
        exact hone.trans (.slew _ n false)
      split
      · rename_i a hactive
        split
        · exact hset
        · rename_i hmoves
          have hgrow : d.fbit R.PRG_ALIGN_GROW = false := by
            simpa [hmoves] using hjump
          refine hset.trans (.fadeSelf _ n _ _ ?_ ?_ ?_)
          · rw [Dev.prgOf_fputB, Dev.prgOf_updPrg, if_pos rfl]
            exact hnone
          · rw [hset.within.fbit (.inl rfl), hgrow]
          · rw [hset.keeps.1, hactive]
      · exact hset

theorem Dev.Retimed.timeline (d : Dev) (n : Nat) : Dev.Retimed n d (d.timeline n) := by
  refine (Dev.Aligning.each (fun d i => ?_) _ d).retimed.trans (.kpAim _ n)
  split
  · exact .toRange d n i
  · exact .refl

end
end Sys2Proof.Machine

/-!
SUPPORT. The end of a crossfade, the release of the trim and the end of a slew (R296, R309, R310, R312).
-/
namespace Sys2Proof.Machine

section
variable {d e g : Dev} {s : State} {n i p t : Nat} {x : XfSt}

/-! ### A new anchor -/

theorem Dev.prgOf_fput (d : Dev) (f : Fld) (k v : Nat) : (d.fput f k v).prgOf p = d.prgOf p := rfl

/-- What a change of a programme makes of it. -/
theorem Dev.prgOf_updPrg_same (d : Dev) (n : Nat) (f : PrgSt → PrgSt) : (d.updPrg n f).prgOf n = f (d.prgOf n) := by rw [Dev.prgOf_updPrg, if_pos rfl]

/-- From `d` to `e` the timeline of programme `n` changes, and no crossfade begins. -/
structure Dev.Steady (n : Nat) (d e : Dev) : Prop extends Dev.Retimed n d e where
  xf : (e.prgOf n).xf = (d.prgOf n).xf
  shown : e.fget R.PGT_STAT_XFADE n = d.fget R.PGT_STAT_XFADE n

theorem Dev.Aligning.steady (h : Dev.Aligning n d e) : Dev.Steady n d e :=
  { h.retimed with xf := by rw [h.prg], shown := h.stat _ rfl (by decide) }

theorem Dev.Steady.trans (h₁ : Dev.Steady n d e) (h₂ : Dev.Steady n e g) : Dev.Steady n d g :=
  { h₁.toRetimed.trans h₂.toRetimed with xf := h₂.xf.trans h₁.xf, shown := h₂.shown.trans h₁.shown }

/-- The block with K_p moved to an anchor whose lag was `own`. -/
def Dev.kpMoved (d : Dev) (n t : Nat) (own : Option Int) (aligned : Bool) : Dev :=
  d.updPrg n (fun g => { g with
    kp := if aligned then d.kpNow n - own.getD 0 else d.pMin n t, kpTo := if aligned then g.kpTo - own.getD 0 else d.pMin n t, kpClk := d.time.clk })

theorem Dev.Steady.kpMoved (d : Dev) (n t : Nat) (own : Option Int) (aligned : Bool) : Dev.Steady n d (d.kpMoved n t own aligned) :=
  { within := .of_regs rfl, time := rfl, prg := by simp [Dev.kpMoved], stat := fun _ _ _ => rfl, fade := .inl ⟨by simp [Dev.kpMoved], rfl⟩,
    evt := fun _ h => h, xf := by simp [Dev.kpMoved], shown := rfl }

/-- The block in which source `t` of programme `n` has become its anchor. -/
def Dev.anchored (d : Dev) (n t : Nat) : Dev := (d.updPrg n (fun g => { g with active := some t })).fput R.PGT_STAT_ACTIVE n t

/-- The lag of source `i` against an anchor that lags by `own`, where both are known; else the source is to be estimated again. -/
def Dev.lagMoved (n : Nat) (own : Option Int) (lagOf : Nat → Option Int) (d : Dev) (i : Nat) : Dev :=
  match own, lagOf i with
  | some o, some l => d.updSrc n i (fun s => { s with lag := some (l - o) })
  | _, _ =>
    (onlyIf ((d.srcOf n i).align == 2 || (d.srcOf n i).align == 3 || (d.srcOf n i).align == 4) (fun d => d.setAlign n i 1) d).updSrc n i
      (fun s => { s with lag := none })

/-- The block with the lags of programme `n` against source `t`, as they stand in `d₀`. -/
def Dev.lagsMoved (d₀ : Dev) (n t : Nat) : Dev :=
  d₀.each (d₀.srcIdx n) (Dev.lagMoved n (d₀.srcOf n t).lag (fun i => if (d₀.prgOf n).active = some i then some 0 else (d₀.srcOf n i).lag))

/-- The block in which source `t` follows an anchor that was `active`. -/
def Dev.anchorLeft (d : Dev) (n t : Nat) (active : Option Nat) (aligned : Bool) : Dev :=
  match active with
  | some a => if a = t then d else
      d.setAlign n a (if !d.aligns n then 0 else if aligned then 3 else if (d.srcOf n a).lag.isSome && (d.srcOf n a).pages != 0 then 3 else 1)
  | none => d

/-- The block in which source `t` stands at the lag of an anchor, and every running estimate begins again. -/
def Dev.anchorTaken (d : Dev) (n t : Nat) : Dev :=
  let d := (d.setAlign n t (if d.aligns n then 6 else 0)).updSrc n t (fun s => { s with lag := some 0 })
  d.each (d.srcIdx n) (fun d i => d.updSrc n i (fun s => { s with est := if s.est = 0 then 0 else d.time.clk + 1, prev := none }))

theorem Dev.Aligning.lagMoved (n : Nat) (own : Option Int) (lagOf : Nat → Option Int) (d : Dev) (i : Nat) :
    Dev.Aligning n d (Dev.lagMoved n own lagOf d i) := by
  unfold Dev.lagMoved
  split
  · exact .updSrc d n i _
  · exact (Dev.Aligning.onlyIf (.setAlign d n i 1)).trans (.updSrc _ n i _)

theorem Dev.Aligning.anchorLeft (d : Dev) (n t : Nat) (active : Option Nat) (aligned : Bool) : Dev.Aligning n d (d.anchorLeft n t active aligned) := by
  unfold Dev.anchorLeft
  split
  · split
    · exact .refl
    · exact .setAlign d n _ _
  · exact .refl

theorem Dev.Aligning.anchorTaken (d : Dev) (n t : Nat) : Dev.Aligning n d (d.anchorTaken n t) :=
  ((Dev.Aligning.setAlign d n t _).trans (.updSrc _ n t _)).trans (.each (fun d i => .updSrc d n i _) _ _)

/-- A rebase changes the timeline, and then names the anchor. -/
theorem Dev.rebase_eq (d : Dev) (n t : Nat) (aligned : Bool) : ∃ e, Dev.Steady n d e ∧ d.rebase n t aligned = e.anchored n t := by
  refine ⟨(((d.lagsMoved n t).kpMoved n t (d.srcOf n t).lag aligned).anchorLeft n t (d.prgOf n).active aligned).anchorTaken n t, ?_, rfl⟩
  have hlags : Dev.Aligning n d (d.lagsMoved n t) := .each (Dev.Aligning.lagMoved n _ _) _ d
  exact (hlags.steady.trans (.kpMoved _ n t _ aligned)).trans ((Dev.Aligning.anchorLeft _ n t _ aligned).trans (.anchorTaken _ n t)).steady

/-- What the anchor is after a rebase, and what a rebase leaves as it was. -/
theorem Dev.rebase_keeps (d : Dev) (n t : Nat) (aligned : Bool) :
    Dev.Within (alignRegs n) d (d.rebase n t aligned) ∧ (d.rebase n t aligned).time = d.time ∧
    ((d.rebase n t aligned).prgOf n).active = some t ∧ ((d.rebase n t aligned).prgOf n).xf = (d.prgOf n).xf ∧
    ((d.rebase n t aligned).prgOf n).since = (d.prgOf n).since ∧ ((d.rebase n t aligned).prgOf n).switches = (d.prgOf n).switches ∧
    ((d.rebase n t aligned).prgOf n).unaligned = (d.prgOf n).unaligned ∧
    (d.rebase n t aligned).fget R.PGT_STAT_ACTIVE n = t % 16 ∧ (d.rebase n t aligned).fget R.PGT_STAT_XFADE n = d.fget R.PGT_STAT_XFADE n := by
  obtain ⟨e, h, heq⟩ := d.rebase_eq n t aligned
  obtain ⟨-, hsince, hswitches, hunaligned, -⟩ := h.keeps
  rw [heq]
  have hprg : (e.anchored n t).prgOf n = { e.prgOf n with active := some t } := by
    rw [Dev.anchored, Dev.prgOf_fput, Dev.prgOf_updPrg_same]
  rw [hprg]
  refine ⟨h.within.trans (Dev.Within.of_same_regs (Dev.within_fput (by simp [alignRegs, Fld.at, R.PGT_STAT_ACTIVE, R.PGT_STAT])) rfl), h.time, rfl,
    h.xf, hsince, hswitches, hunaligned, ?_, ?_⟩
  · exact Dev.fget_fput _ _ _ _ (by decide) (by decide) rfl
  · exact (Dev.fget_fput_apart _ _ (by decide) (.inr (by decide))).trans h.shown

/-! ### The end of a crossfade -/

theorem Dev.geckoRuns_iff : d.geckoRuns = true ↔ d.domOn 4 = true ∧ d.inReset = false := by simp [Dev.geckoRuns]

theorem exec_crossfadeEnd_due {n : Fin 128} (hruns : s.dev.geckoRuns = true) (hxf : (s.dev.prgOf n).xf = some x) (hpast : x.dur ≤ s.dev.since x.start) :
    exec (.crossfadeEnd n) s = .next { s with dev := s.dev.xfEnd n x } := by
  show execCrossfadeEnd n s = _
  rw [execCrossfadeEnd, nextDev]
  simp only [hruns, Bool.not_true, Bool.false_eq_true, if_false, hxf, if_pos hpast]

theorem exec_crossfadeEnd_not {n : Fin 128} (h : s.dev.geckoRuns = false ∨ (s.dev.prgOf n).xf = none ∨ ∃ x, (s.dev.prgOf n).xf = some x ∧
    s.dev.since x.start < x.dur) : exec (.crossfadeEnd n) s = .next s := by
  show execCrossfadeEnd n s = _
  rw [execCrossfadeEnd, nextDev]
  refine congrArg (fun d => Host.Outcome.next { s with dev := d }) ?_
  cases hruns : s.dev.geckoRuns
  · rfl
  · obtain hruns' | hnone | ⟨x, hxf, hearly⟩ := h
    · rw [hruns] at hruns'
      cases hruns'
    · simp only [hnone, Bool.not_true, Bool.false_eq_true, if_false]
    · simp only [hxf, Bool.not_true, Bool.false_eq_true, if_false, if_neg (Nat.not_le.2 hearly)]

/-- Programme `n` without the crossfade that ends. -/
def Dev.unfaded (d : Dev) (n : Nat) (still : Bool) : Dev :=
  (d.updPrg n (fun g => { g with xf := none, since := if still then g.since else 0, begun := true })).fputB R.PGT_STAT_XFADE n false

theorem Dev.unfaded_keeps (d : Dev) (n : Nat) (still : Bool) :
    Dev.Within (alignRegs n) d (d.unfaded n still) ∧ (d.unfaded n still).time = d.time ∧
    (d.unfaded n still).prgOf n = { d.prgOf n with xf := none, since := if still then (d.prgOf n).since else 0, begun := true } ∧
    (d.unfaded n still).fget R.PGT_STAT_XFADE n = 0 :=
  ⟨Dev.Within.of_same_regs (Dev.within_fput (by simp [alignRegs, Fld.at, R.PGT_STAT_XFADE, R.PGT_STAT])) rfl, rfl,
    by rw [Dev.unfaded, Dev.prgOf_fputB, Dev.prgOf_updPrg_same], Dev.fget_fput _ _ _ _ (by decide) (by decide) rfl⟩

/-- No crossfade runs, or one of the active source `a` into itself has begun. -/
def Dev.fadesInto (d e : Dev) (n : Nat) (a : Option Nat) : Prop :=
  (e.prgOf n).xf = none ∧ e.fget R.PGT_STAT_XFADE n = 0 ∨
    d.fbit R.PRG_ALIGN_GROW = false ∧ (e.prgOf n).xf.map (fun y => (y.old, some y.target)) = some (a, a)

theorem Dev.Retimed.into (h : Dev.Retimed n g e) (hnone : (g.prgOf n).xf = none) (hshown : g.fget R.PGT_STAT_XFADE n = 0)
    (hgrow : g.fbit R.PRG_ALIGN_GROW = d.fbit R.PRG_ALIGN_GROW) : d.fadesInto e n (g.prgOf n).active := by
  obtain ⟨hxf, hstat⟩ | ⟨-, hjumps, a, hactive, hxf⟩ := h.fade
  · exact .inl ⟨hxf.trans hnone, hstat.trans hshown⟩
  · refine .inr ⟨hgrow.symm.trans hjumps, ?_⟩
    rw [hactive]
    obtain ⟨y, hy, hpair⟩ := Option.map_eq_some_iff.1 hxf
    obtain ⟨hold, htarget⟩ := Prod.mk.inj hpair
    rw [hy, Option.map_some, hold, htarget]

/-- The block in which a crossfade that is no switch has ended, before its timeline is judged. -/
def Dev.fadeUndone (d : Dev) (n : Nat) (x : XfSt) : Dev :=
  (d.unfaded n true).updPrg n (fun g => { g with trim := x.trimOld, trimClk := x.trimOldClk })

/-- The switch counted in programme `n`, and in the registers. -/
def Dev.switchCounted (d : Dev) (n : Nat) (aligned : Bool) : Dev :=
  onlyIf (!aligned) (fun d => d.bump R.PRG_UNALIGNED_COUNT) ((d.bump R.PRG_SWITCHES_COUNT).updPrg n
    (fun g => { g with switches := g.switches + 1, unaligned := g.unaligned + b2n (!aligned), trimClk := d.time.clk }))

/-- The switch to the target of `x`, with its counters, before its timeline is judged. -/
def Dev.switched (d : Dev) (n : Nat) (x : XfSt) : Dev :=
  (((d.unfaded n false).rebase n x.target x.aligned).switchCounted n x.aligned).prgFlag n 0

theorem Dev.xfEnd_still (h : x.reversed = true ∨ x.kpOld ≠ none) : d.xfEnd n x = (d.fadeUndone n x).timeline n := by
  have hstill : (x.reversed || x.kpOld.isSome) = true := by
    obtain h | h := h
    · simp [h]
    · simp [Option.isSome_iff_ne_none.2 h]
  rw [Dev.xfEnd]
  simp only [hstill, if_true]
  rfl

theorem Dev.xfEnd_switch (hforth : x.reversed = false) (hnone : x.kpOld = none) : d.xfEnd n x = (d.switched n x).timeline n := by
  rw [Dev.xfEnd]
  simp only [hforth, hnone, Option.isSome_none, Bool.or_self, Bool.false_eq_true, if_false]
  rfl

theorem runs_crossfadeEnd_still {n : Fin 128} (hruns : s.dev.geckoRuns = true) (hxf : (s.dev.prgOf n).xf = some x) (hpast : x.dur ≤ s.dev.since x.start)
    (hstill : x.reversed = true ∨ x.kpOld ≠ none) :
    Runs (.crossfadeEnd n) s (fun t => s.dev.fadesInto t.dev n (s.dev.prgOf n).active ∧ (t.dev.prgOf n).active = (s.dev.prgOf n).active ∧
      (t.dev.prgOf n).switches = (s.dev.prgOf n).switches ∧ (t.dev.prgOf n).since = (s.dev.prgOf n).since ∧ (t.dev.prgOf n).trim = x.trimOld ∧
      (t.dev.prgOf n).trimClk = x.trimOldClk ∧ Only (alignRegs n) s t) := by
  obtain ⟨hw, -, hprg, hshown⟩ := s.dev.unfaded_keeps n true
  have hundone : (s.dev.fadeUndone n x).prgOf n = { s.dev.prgOf n with xf := none, begun := true, trim := x.trimOld, trimClk := x.trimOldClk } := by
    rw [Dev.fadeUndone, Dev.prgOf_updPrg_same, hprg]
    rfl
  have hw' : Dev.Within (alignRegs n) s.dev (s.dev.fadeUndone n x) := hw.beside rfl
  have hline := Dev.Retimed.timeline (s.dev.fadeUndone n x) n
  obtain ⟨hactive, hsince, hswitches, -, htrim, htrimClk⟩ := hline.keeps
  have hinto := hline.into (d := s.dev) (by rw [hundone]) hshown (hw'.fbit (.inl rfl))
  have hexec := exec_crossfadeEnd_due hruns hxf hpast
  rw [Dev.xfEnd_still hstill] at hexec
  rw [hundone] at hactive hsince hswitches htrim htrimClk hinto
  exact ⟨_, hexec, hinto, hactive, hswitches, hsince, htrim, htrimClk, (hw'.trans hline.within).only⟩

theorem Dev.switchCounted_keeps (d : Dev) (n : Nat) (aligned : Bool) :
    Dev.Within [R.PRG_SWITCHES.at 0, R.PRG_UNALIGNED.at 0] d (d.switchCounted n aligned) ∧
    (d.switchCounted n aligned).prgOf n =
      { d.prgOf n with switches := (d.prgOf n).switches + 1, unaligned := (d.prgOf n).unaligned + b2n (!aligned), trimClk := d.time.clk } ∧
    (d.switchCounted n aligned).reg (R.PRG_SWITCHES.at 0) = putBits (d.reg (R.PRG_SWITCHES.at 0)) 15 0 (min (d.fget R.PRG_SWITCHES_COUNT + 1) 65535) ∧
    (aligned = false → (d.switchCounted n aligned).reg (R.PRG_UNALIGNED.at 0) =
      putBits (d.reg (R.PRG_UNALIGNED.at 0)) 15 0 (min (d.fget R.PRG_UNALIGNED_COUNT + 1) 65535)) := by
  have hone : Dev.Within [R.PRG_SWITCHES.at 0] d (d.bump R.PRG_SWITCHES_COUNT) := Dev.within_fput (by decide)
  have hreg : (d.bump R.PRG_SWITCHES_COUNT).reg (R.PRG_SWITCHES.at 0) =
      putBits (d.reg (R.PRG_SWITCHES.at 0)) 15 0 (min (d.fget R.PRG_SWITCHES_COUNT + 1) 65535) := by
    rw [Dev.bump, Dev.bumpBy, Dev.reg_fput]
    exact if_pos rfl
  have hprg (e : Dev) (he : e.prgOf n = d.prgOf n) : (e.updPrg n (fun g => { g with
      switches := g.switches + 1, unaligned := g.unaligned + b2n (!aligned), trimClk := d.time.clk })).prgOf n =
      { d.prgOf n with switches := (d.prgOf n).switches + 1, unaligned := (d.prgOf n).unaligned + b2n (!aligned), trimClk := d.time.clk } := by
    rw [Dev.prgOf_updPrg_same, he]
  have hbeside : Dev.Within [R.PRG_SWITCHES.at 0] d ((d.bump R.PRG_SWITCHES_COUNT).updPrg n (fun g => { g with
      switches := g.switches + 1, unaligned := g.unaligned + b2n (!aligned), trimClk := d.time.clk })) := hone.beside rfl
  unfold Dev.switchCounted
  cases aligned
  · refine ⟨(hbeside.mono (by decide)).bump (by decide), hprg _ rfl, ?_, fun _ => hbeside.reg_bump (by decide)⟩
    rw [onlyIf, Bool.not_false, if_pos rfl, Dev.bump, Dev.bumpBy, Dev.reg_fput, if_neg (by decide)]
    exact hreg
  · exact ⟨hbeside.mono (by decide), hprg _ rfl, hreg, fun h => Bool.noConfusion h⟩

/-- The switch: its counters, its flag and the new active source. -/
theorem Dev.switched_keeps (d : Dev) (n : Nat) (x : XfSt) :
    Dev.Within (alignRegs n ++ [R.PRG_SWITCHES.at 0, R.PRG_UNALIGNED.at 0]) d (d.switched n x) ∧
    (((d.switched n x).prgOf n).active = some x.target ∧ ((d.switched n x).prgOf n).xf = none ∧ ((d.switched n x).prgOf n).since = 0 ∧
      ((d.switched n x).prgOf n).switches = (d.prgOf n).switches + 1 ∧
      ((d.switched n x).prgOf n).unaligned = (d.prgOf n).unaligned + b2n (!x.aligned)) ∧
    (d.switched n x).fget R.PGT_STAT_ACTIVE n = x.target % 16 ∧ (d.switched n x).fget R.PGT_STAT_XFADE n = 0 ∧
    (d.switched n x).reg (R.PRG_SWITCHES.at 0) = putBits (d.reg (R.PRG_SWITCHES.at 0)) 15 0 (min (d.fget R.PRG_SWITCHES_COUNT + 1) 65535) ∧
    (x.aligned = false →
      (d.switched n x).reg (R.PRG_UNALIGNED.at 0) = putBits (d.reg (R.PRG_UNALIGNED.at 0)) 15 0 (min (d.fget R.PRG_UNALIGNED_COUNT + 1) 65535)) ∧
    bitAt ((d.switched n x).reg (R.PRG_EVT.at 0)).toNat 0 = true := by
  obtain ⟨hwu, -, hprgu, hshownu⟩ := d.unfaded_keeps n false
  obtain ⟨hwr, -, hactive, hxf, hsince, hswitches, hunaligned, hshown, hfade⟩ := (d.unfaded n false).rebase_keeps n x.target x.aligned
  rw [Dev.switched]
  generalize (d.unfaded n false).rebase n x.target x.aligned = e at *
  obtain ⟨hwc, hprgc, hregs, hregu⟩ := e.switchCounted_keeps n x.aligned
  have hflag := Dev.Aligning.prgFlag (e.switchCounted n x.aligned) n 0
  have hwe : Dev.Within (alignRegs n) d e := hwu.trans hwr
  have hstat : R.PGT_STAT.at n ∉ [R.PRG_SWITCHES.at 0, R.PRG_UNALIGNED.at 0] := by
    simp only [List.mem_cons, List.not_mem_nil, or_false, not_or]
    exact ⟨pgtStat_apart (by decide), pgtStat_apart (by decide)⟩
  have hsw : R.PRG_SWITCHES.at 0 ∉ alignRegs n := by
    simp only [alignRegs, List.mem_cons, List.not_mem_nil, or_false, not_or]
    exact ⟨Ne.symm (pgtStat_apart (by decide)), by decide, by decide, by decide⟩
  have hun : R.PRG_UNALIGNED.at 0 ∉ alignRegs n := by
    simp only [alignRegs, List.mem_cons, List.not_mem_nil, or_false, not_or]
    exact ⟨Ne.symm (pgtStat_apart (by decide)), by decide, by decide, by decide⟩
  refine ⟨((hwe.mono (fun _ => List.mem_append_left _)).trans (hwc.mono (fun _ => List.mem_append_right _))).trans
    (hflag.within.mono (fun _ => List.mem_append_left _)), ?_, ?_, ?_, ?_, fun hu => ?_, ?_⟩
  · rw [hprgu] at hxf hsince hswitches hunaligned
    rw [hflag.prg, hprgc]
    exact ⟨hactive, hxf, hsince, congrArg (· + 1) hswitches, congrArg (· + b2n (!x.aligned)) hunaligned⟩
  · rw [hflag.stat R.PGT_STAT_ACTIVE rfl (by decide), hwc.fget (f := R.PGT_STAT_ACTIVE) (.inr hstat), hshown]
  · rw [hflag.stat R.PGT_STAT_XFADE rfl (by decide), hwc.fget (f := R.PGT_STAT_XFADE) (.inr hstat), hfade, hshownu]
  · rw [hflag.within.reg _ hsw, hregs, hwe.reg _ hsw, hwe.fget (f := R.PRG_SWITCHES_COUNT) (.inr hsw)]
  · rw [hflag.within.reg _ hun, hregu hu, hwe.reg _ hun, hwe.fget (f := R.PRG_UNALIGNED_COUNT) (.inr hun)]
  · rw [Dev.prgFlag, Dev.reg_setEvtBits]
    exact (if_pos rfl).symm ▸ bitAt_or_pow (by decide)

theorem runs_crossfadeEnd_switch {n : Fin 128} (hruns : s.dev.geckoRuns = true) (hxf : (s.dev.prgOf n).xf = some x) (hpast : x.dur ≤ s.dev.since x.start)
    (hforth : x.reversed = false) (hnone : x.kpOld = none) :
    Runs (.crossfadeEnd n) s (fun t => (t.dev.prgOf n).active = some x.target ∧ s.dev.fadesInto t.dev n (some x.target) ∧ (t.dev.prgOf n).since = 0 ∧
      (t.dev.prgOf n).switches = (s.dev.prgOf n).switches + 1 ∧ (t.dev.prgOf n).unaligned = (s.dev.prgOf n).unaligned + b2n (!x.aligned) ∧
      t.dev.fget R.PGT_STAT_ACTIVE n = x.target % 16 ∧ Counted s t R.PRG_SWITCHES_COUNT ∧ (x.aligned = false → Counted s t R.PRG_UNALIGNED_COUNT) ∧
      bitAt (t.reg (R.PRG_EVT.at 0)).toNat 0 = true ∧ Only (alignRegs n ++ [R.PRG_SWITCHES.at 0, R.PRG_UNALIGNED.at 0]) s t) := by
  obtain ⟨hw, ⟨hactive, hfaded, hsince, hswitches, hunaligned⟩, hshown, hfade, hregs, hregu, hevt⟩ := s.dev.switched_keeps n x
  have hline := Dev.Retimed.timeline (s.dev.switched n x) n
  obtain ⟨hactive', hsince', hswitches', hunaligned', -, -⟩ := hline.keeps
  have hsw : R.PRG_SWITCHES.at 0 ∉ alignRegs n := by
    simp only [alignRegs, List.mem_cons, List.not_mem_nil, or_false, not_or]
    exact ⟨Ne.symm (pgtStat_apart (by decide)), by decide, by decide, by decide⟩
  have hun : R.PRG_UNALIGNED.at 0 ∉ alignRegs n := by
    simp only [alignRegs, List.mem_cons, List.not_mem_nil, or_false, not_or]
    exact ⟨Ne.symm (pgtStat_apart (by decide)), by decide, by decide, by decide⟩
  have hinto := hline.into (d := s.dev) hfaded hfade (hw.fbit (.inl rfl))
  rw [hactive] at hinto
  have hexec := exec_crossfadeEnd_due hruns hxf hpast
  rw [Dev.xfEnd_switch hforth hnone] at hexec
  refine ⟨_, hexec, hactive'.trans hactive, hinto, hsince'.trans hsince, hswitches'.trans hswitches, hunaligned'.trans hunaligned, ?_, ?_, fun hu => ?_,
    hline.evt 0 hevt, (hw.trans (hline.within.mono (fun _ => List.mem_append_left _))).only⟩
  · exact (hline.stat R.PGT_STAT_ACTIVE rfl (by decide)).trans hshown
  · exact (hline.within.reg _ hsw).trans hregs
  · exact (hline.within.reg _ hun).trans (hregu hu)

/-! ### The release of the trim -/

theorem exec_trimReleaseEnd_not {n : Fin 128}
    (h : s.dev.geckoRuns = false ∨ s.dev.since (s.dev.prgOf n).trimClk < s.dev.fget R.PRG_XF_TRIM_REL * Config.sysPerSecond) :
    exec (.trimReleaseEnd n) s = .next s := by
  show execTrimReleaseEnd n s = _
  rw [execTrimReleaseEnd, nextDev]
  refine congrArg (fun d => Host.Outcome.next { s with dev := d }) ?_
  obtain hstill | hearly := h
  · simp only [hstill, Bool.not_false, if_true]
  · simp only [decide_eq_false (Nat.not_le.2 hearly), Bool.and_false, Bool.false_eq_true, if_false, ite_self]

theorem exec_trimReleaseEnd_due {n : Fin 128} (hruns : s.dev.geckoRuns = true) (hrel : s.dev.fget R.PRG_XF_TRIM_REL ≠ 0)
    (hstill : (s.dev.prgOf n).switching = false) (hpast : s.dev.fget R.PRG_XF_TRIM_REL * Config.sysPerSecond ≤ s.dev.since (s.dev.prgOf n).trimClk) :
    exec (.trimReleaseEnd n) s = .next { s with dev := s.dev.updPrg n (fun g => { g with trim := 0 }) } := by
  show execTrimReleaseEnd n s = _
  rw [execTrimReleaseEnd, nextDev]
  simp only [hruns, hrel, hstill, decide_eq_true hpast, ne_eq, not_false_eq_true, decide_true, Bool.not_true, Bool.not_false, Bool.and_true,
    Bool.false_eq_true, if_false, if_true]

/-- No trim is none at any time. -/
theorem Dev.trimAt_zero (d : Dev) (clk : Nat) : d.trimAt 0 clk = 0 := by
  rw [Dev.trimAt]
  split
  · rfl
  · rw [zero_mul, divNearInt, Int.zero_emod, Int.zero_ediv, mul_zero, if_pos (Int.natCast_nonneg _)]

theorem runs_trimReleaseEnd_due {n : Fin 128} (hruns : s.dev.geckoRuns = true) (hrel : s.dev.fget R.PRG_XF_TRIM_REL ≠ 0)
    (hstill : (s.dev.prgOf n).switching = false) (hpast : s.dev.fget R.PRG_XF_TRIM_REL * Config.sysPerSecond ≤ s.dev.since (s.dev.prgOf n).trimClk) :
    Runs (.trimReleaseEnd n) s (fun t => (t.dev.prgOf n).trim = 0 ∧ t.dev.trimNow n = 0 ∧ Only [] s t) := by
  have hprg : (s.dev.updPrg n (fun g => { g with trim := 0 })).prgOf n = { s.dev.prgOf n with trim := 0 } := Dev.prgOf_updPrg_same ..
  refine ⟨_, exec_trimReleaseEnd_due hruns hrel hstill hpast, by rw [hprg], ?_, (Dev.Within.of_regs rfl).only⟩
  rw [Dev.trimNow, hprg]
  exact (if_neg (by rw [show PrgSt.switching { s.dev.prgOf n with trim := 0 } = (s.dev.prgOf n).switching from rfl, hstill]; decide)).trans
    (Dev.trimAt_zero ..)

/-! ### The end of a slew -/

theorem exec_slewComplete_not {n : Fin 128} (h : s.dev.geckoRuns = false ∨ s.dev.fbit R.PGT_STAT_SLEW n = false) :
    exec (.slewComplete n) s = .next s := by
  show execSlewComplete n s = _
  rw [execSlewComplete, nextDev]
  refine congrArg (fun d => Host.Outcome.next { s with dev := d }) ?_
  obtain hstill | hnot := h
  · simp only [hstill, Bool.not_false, if_true]
  · simp only [hnot, Bool.false_and, Bool.false_eq_true, if_false, ite_self]

/-- The block in which K_p of programme `n` has reached its new value. -/
def Dev.slewed (d : Dev) (n : Nat) : Dev := (d.updPrg n (fun g => { g with kp := g.kpTo })).fputB R.PGT_STAT_SLEW n false

/-- The sources that waited for K_p are ALIGNED, and the pages that are held beyond need go back. -/
def Dev.slewSettled (d : Dev) (n : Nat) : Dev :=
  let d := d.each (d.srcIdx n) (fun d i => d.fillTry n i)
  d.each (d.srcIdx n) (fun d i => let s := d.srcOf n i; d.pagesBack n i (s.pages - needPages (d.excess n i)))

theorem Dev.Aligning.slewSettled (d : Dev) (n : Nat) : Dev.Aligning n d (d.slewSettled n) :=
  (Dev.Aligning.each (fun d i => .fillTry d n i) _ d).trans (.each (fun d i => .pagesBack d n i _) _ _)

theorem runs_slewComplete {n : Fin 128} (hruns : s.dev.geckoRuns = true) (hslew : s.dev.fbit R.PGT_STAT_SLEW n = true)
    (hend : s.dev.kpNow n = (s.dev.prgOf n).kpTo) :
    Runs (.slewComplete n) s (fun t => t.dev.fget R.PGT_STAT_SLEW n = 0 ∧ (t.dev.prgOf n).kp = (s.dev.prgOf n).kpTo ∧ Only (alignRegs n) s t) := by
  have hexec : exec (.slewComplete n) s = .next { s with dev := (s.dev.slewed n).slewSettled n } := by
    show execSlewComplete n s = _
    rw [execSlewComplete, nextDev]
    simp only [hruns, hslew, hend, Bool.not_true, Bool.false_eq_true, if_false, beq_self_eq_true, Bool.and_self, if_true]
    rfl
  have hw : Dev.Within (alignRegs n) s.dev (s.dev.slewed n) :=
    Dev.Within.of_same_regs (Dev.within_fput (by simp [alignRegs, Fld.at, R.PGT_STAT_SLEW, R.PGT_STAT])) rfl
  have hslewed : (s.dev.slewed n).fget R.PGT_STAT_SLEW n = 0 := Dev.fget_fput _ _ _ _ (by decide) (by decide) rfl
  have hprg : (s.dev.slewed n).prgOf n = { s.dev.prgOf n with kp := (s.dev.prgOf n).kpTo } := by
    rw [Dev.slewed, Dev.prgOf_fputB, Dev.prgOf_updPrg_same]
  have hset := Dev.Aligning.slewSettled (s.dev.slewed n) n
  exact ⟨_, hexec, (hset.stat R.PGT_STAT_SLEW rfl (by decide)).trans hslewed, by rw [hset.prg, hprg], (hw.trans hset.within).only⟩

end

/-- Settles O21: each command by its own cases. What a crossfade ends in is the block before the timeline is judged again, and `Retimed` says what that
judgement leaves. -/
theorem prgCrossfadeAndTrim : Obligations.PrgCrossfadeAndTrim := by
  unfold Obligations.PrgCrossfadeAndTrim
  intro s n x
  refine ⟨fun hnot => ?_, fun hxf hearly => ?_, fun hnone => ?_, fun hruns hxf hpast hforth hnone => ?_, fun hruns hxf hpast hstill => ?_,
    fun hruns hrel hstill hpast => ?_, fun hearly => ?_, fun hruns hslew hend => ?_, fun hnot => ?_⟩
  · have hstill : s.dev.geckoRuns = false := Bool.eq_false_iff.2 (fun h => hnot (Dev.geckoRuns_iff.1 h))
    exact ⟨runs_self_of_exec (exec_crossfadeEnd_not (.inl hstill)), runs_self_of_exec (exec_trimReleaseEnd_not (.inl hstill)),
      runs_self_of_exec (exec_slewComplete_not (.inl hstill))⟩
  · exact runs_self_of_exec (exec_crossfadeEnd_not (.inr (.inr ⟨x, hxf, hearly⟩)))
  · exact runs_self_of_exec (exec_crossfadeEnd_not (.inr (.inl hnone)))
  · exact runs_crossfadeEnd_switch (Dev.geckoRuns_iff.2 hruns) hxf hpast hforth hnone
  · exact runs_crossfadeEnd_still (Dev.geckoRuns_iff.2 hruns) hxf hpast hstill
  · exact runs_trimReleaseEnd_due (Dev.geckoRuns_iff.2 hruns) hrel hstill hpast
  · exact runs_self_of_exec (exec_trimReleaseEnd_not (.inr hearly))
  · exact runs_slewComplete (Dev.geckoRuns_iff.2 hruns) hslew hend
  · exact runs_self_of_exec (exec_slewComplete_not (.inr hnot))

end Sys2Proof.Machine

/-!
SUPPORT. TDM ports: what the steps of a frame start leave as it was (R410 to R422, R428 to R430).
-/
namespace Sys2Proof.Machine

section
variable {d e g : Dev} {s : State} {n m : Nat} {α : Type}

/-- The registers in which a frame start shows. -/
def portRegs : List Nat :=
  (List.range 3).flatMap (fun k => [R.P_STAT.at k, R.P_EVT.at k, R.P_FS_MEAS.at k, R.P_BPF_MEAS.at k, R.P_UNDERRUN.at k, R.P_OVERRUN.at k, R.P_SLIPS.at k]) ++
    [R.PRT_LEAD_STAT.at 0, R.PRT_LEAD_PPM.at 0, R.CLK_APL_PPM.at 0, R.SPD_EVT.at 0]

theorem mem_portRegs {i : Nat} (hm : m < 3)
    (hi : i ∈ [R.P_STAT.at m, R.P_EVT.at m, R.P_FS_MEAS.at m, R.P_BPF_MEAS.at m, R.P_UNDERRUN.at m, R.P_OVERRUN.at m, R.P_SLIPS.at m]) : i ∈ portRegs :=
  List.mem_append_left _ (List.mem_flatMap.2 ⟨m, List.mem_range.2 hm, hi⟩)

theorem pStat_mem (hm : m < 3) : R.P_STAT.at m ∈ portRegs := mem_portRegs hm (by simp)

theorem pEvt_mem (hm : m < 3) : R.P_EVT.at m ∈ portRegs := mem_portRegs hm (by simp)

/-- A change of a port that leaves its masks and its last frame start. -/
def PortSt.Masked (f : PortSt → PortSt) : Prop := ∀ p, (f p).txMask = p.txMask ∧ (f p).rxMask = p.rxMask ∧ (f p).edge = p.edge

/-- From `d` to `e` registers of the ports change, and of port `n` neither the masks in force nor the cycle of its last frame start. -/
structure Dev.PortStep (n : Nat) (d e : Dev) : Prop where
  within : Dev.Within portRegs d e
  txMask : (e.portOf n).txMask = (d.portOf n).txMask
  rxMask : (e.portOf n).rxMask = (d.portOf n).rxMask
  edge : (e.portOf n).edge = (d.portOf n).edge

theorem Dev.PortStep.refl : Dev.PortStep n d d := ⟨.refl, rfl, rfl, rfl⟩

theorem Dev.PortStep.trans (h₁ : Dev.PortStep n d e) (h₂ : Dev.PortStep n e g) : Dev.PortStep n d g :=
  ⟨h₁.within.trans h₂.within, h₂.txMask.trans h₁.txMask, h₂.rxMask.trans h₁.rxMask, h₂.edge.trans h₁.edge⟩

theorem Dev.PortStep.each {f : Dev → α → Dev} {l : List α} (hf : ∀ a ∈ l, ∀ d, Dev.PortStep n d (f d a)) (d : Dev) : Dev.PortStep n d (d.each l f) := by
  induction l generalizing d with
  | nil => exact .refl
  | cons a l ih => exact (hf a List.mem_cons_self d).trans (ih (fun b hb => hf b (List.mem_cons_of_mem _ hb)) (f d a))

/-- Registers of the ports change, and no port. -/
theorem Dev.PortStep.of_within (hw : Dev.Within portRegs d e) (hp : e.ports = d.ports) : Dev.PortStep n d e := by
  have hport : e.portOf n = d.portOf n := by rw [Dev.portOf, hp, Dev.portOf]
  exact ⟨hw, by rw [hport], by rw [hport], by rw [hport]⟩

theorem Dev.PortStep.fput {f : Fld} {k v : Nat} (hf : f.at k ∈ portRegs) : Dev.PortStep n d (d.fput f k v) := .of_within (Dev.within_fput hf) rfl

theorem Dev.PortStep.event {f : Fld} {k : Nat} (hf : f.at k ∈ portRegs) : Dev.PortStep n d (d.event f k) :=
  .of_within (Dev.within_event hf) (by simp [Dev.event])

theorem Dev.PortStep.updPort {f : PortSt → PortSt} (hf : PortSt.Masked f) : Dev.PortStep n d (d.updPort m f) := by
  by_cases hm : n = m
  · subst hm
    obtain ⟨htx, hrx, hedge⟩ := hf (d.portOf n)
    have hport : (d.updPort n f).portOf n = f (d.portOf n) := by rw [Dev.portOf_updPort, if_pos rfl]
    exact ⟨.of_regs rfl, by rw [hport, htx], by rw [hport, hrx], by rw [hport, hedge]⟩
  · have hport : (d.updPort m f).portOf n = d.portOf n := by rw [Dev.portOf_updPort, if_neg hm]
    exact ⟨.of_regs rfl, by rw [hport], by rw [hport], by rw [hport]⟩

theorem Dev.PortStep.updPrt (f : PrtSt → PrtSt) : Dev.PortStep n d (d.updPrt f) := .of_within (.of_regs rfl) rfl

theorem Dev.PortStep.ite {c : Prop} [Decidable c] {e₁ e₂ : Dev} (h₁ : Dev.PortStep n d e₁) (h₂ : Dev.PortStep n d e₂) :
    Dev.PortStep n d (if c then e₁ else e₂) := by
  split
  · exact h₁
  · exact h₂

/-! ### Measurement and ratio -/

theorem Dev.PortStep.portMeasure (hm : m < 3) (rate bpf : Nat) : Dev.PortStep n d (d.portMeasure m rate bpf) := by
  have hmeas (e : Dev) : Dev.PortStep n e ((e.fput R.P_FS_MEAS_VALUE m (min rate 65535)).fput R.P_BPF_MEAS_VALUE m (min bpf 65535)) :=
    (Dev.PortStep.fput (mem_portRegs hm (by simp [Fld.at, R.P_FS_MEAS_VALUE, R.P_FS_MEAS]))).trans
      (.fput (mem_portRegs hm (by simp [Fld.at, R.P_BPF_MEAS_VALUE, R.P_BPF_MEAS])))
  have hfit (e : Dev) (b : Bool) : Dev.PortStep n e (e.fputB R.P_STAT_FIT m b) := .fput (pStat_mem hm)
  unfold Dev.portMeasure
  dsimp only
  split
  · exact .refl
  · split
    · exact ((hmeas d).trans (hfit _ _)).trans (.event (pEvt_mem hm))
    · exact (hmeas d).trans (hfit _ _)

theorem Dev.PortStep.ratioFrame (hm : m < 3) : Dev.PortStep n d (d.ratioFrame m) := by
  have hrange (k : Nat) : Dev.PortStep n d (d.updPort m (fun p => { p with inRange := k })) := .updPort (fun _ => ⟨rfl, rfl, rfl⟩)
  have herr (e : Dev) (b : Bool) : Dev.PortStep n e (e.fputB R.P_STAT_RATIO_ERR m b) := .fput (pStat_mem hm)
  unfold Dev.ratioFrame
  dsimp only
  refine .ite (herr d false) (.ite (.ite ?_ ?_) (.ite ?_ ?_))
  · exact (hrange _).trans (herr _ false)
  · exact hrange _
  · exact (hrange 0).trans (herr _ true)
  · exact ((hrange 0).trans (herr _ true)).trans (.event (pEvt_mem hm))

/-! ### The leader and the start of a port -/

theorem Dev.PortStep.leadReset : Dev.PortStep n d d.leadReset := by
  unfold Dev.leadReset
  dsimp only
  split
  · exact .updPrt _
  · exact .updPort (fun _ => ⟨rfl, rfl, rfl⟩)

theorem leadStat_mem : R.PRT_LEAD_STAT.at 0 ∈ portRegs := by decide

theorem Dev.PortStep.leadAcq : Dev.PortStep n d d.leadAcq := by
  have hstate (e : Dev) : Dev.PortStep n e (e.fput R.PRT_LEAD_STAT_STATE 0 1) := .fput leadStat_mem
  have hfill (e : Dev) : Dev.PortStep n e (e.fput R.PRT_LEAD_STAT_FILL 0 64) := .fput leadStat_mem
  exact ((Dev.PortStep.leadReset.trans (hstate _)).trans (hfill _)).trans (.updPrt _)

theorem Dev.PortStep.leadStart : Dev.PortStep n d d.leadStart := by
  unfold Dev.leadStart
  exact .ite .leadAcq .refl

theorem Dev.PortStep.leadCheck : Dev.PortStep n d d.leadCheck := by
  have herr (b : Bool) : Dev.PortStep n d (d.fputB R.PRT_LEAD_STAT_ERR 0 b) := .fput leadStat_mem
  have hled (e : Dev) {k : Nat} (hk : k < 3) (b : Bool) : Dev.PortStep n e (e.fputB R.P_STAT_LEADER k b) := .fput (pStat_mem hk)
  have hshow (e : Dev) (src : Nat) : Dev.PortStep n e (e.each (List.range 3) (fun d k => d.fputB R.P_STAT_LEADER k (d.leadOk && src == k + 1))) :=
    .each (fun _ hk e' => hled e' (List.mem_range.1 hk) _) e
  have hoff (e : Dev) : Dev.PortStep n e (e.fput R.PRT_LEAD_STAT_STATE 0 0) := .fput leadStat_mem
  have hname (e : Dev) (src : Nat) : Dev.PortStep n e ((e.fput R.PRT_LEAD_STAT_STATE 0 0).updPrt (fun p => { p with leader := src })) :=
    (hoff e).trans (.updPrt _)
  have hevent (e : Dev) : Dev.PortStep n e (e.event R.SPD_EVT_LEAD_ERR) := .event (by decide)
  unfold Dev.leadCheck
  dsimp only
  refine Dev.PortStep.trans (.ite ?_ ?_) .leadStart
  · exact (Dev.PortStep.ite ((herr _).trans (hevent _)) (herr _)).trans (hshow _ _)
  · exact ((Dev.PortStep.ite ((herr _).trans (hevent _)) (herr _)).trans (hshow _ _)).trans (hname _ _)

/-- The port with everything that a start empties. -/
theorem Dev.PortStep.portStart (hm : m < 3) : Dev.PortStep n d (d.portStart m) := by
  have hstate (e : Dev) : Dev.PortStep n e (e.fput R.P_STAT_STATE m 2) := .fput (pStat_mem hm)
  have hslip (e : Dev) : Dev.PortStep n e (e.fputB R.P_STAT_SLIPPED m false) := .fput (pStat_mem hm)
  have href (e : Dev) : Dev.PortStep n e (e.fputB R.P_STAT_REF m false) := .fput (pStat_mem hm)
  unfold Dev.portStart
  dsimp only
  refine ((((hstate d).trans (hslip _)).trans (href _)).trans (.updPort ?_)).trans .leadCheck
  exact fun _ => ⟨rfl, rfl, rfl⟩

/-! ### The group -/

theorem Dev.PortStep.grpUpdate : Dev.PortStep n d d.grpUpdate := by
  refine .each (fun k hk e => ?_) d
  have href (b : Bool) : Dev.PortStep n e (e.fputB R.P_STAT_REF k b) := .fput (pStat_mem (List.mem_range.1 hk))
  have herr (e' : Dev) (b : Bool) : Dev.PortStep n e' (e'.fputB R.P_STAT_GRP_ERR k b) := .fput (pStat_mem (List.mem_range.1 hk))
  exact (href _).trans (herr _ _)

theorem Dev.PortStep.grpBegin : Dev.PortStep n d (d.grpBegin m) := by
  unfold Dev.grpBegin
  exact .ite (.each (fun k hk _ => .ite (.portStart (List.mem_range.1 hk)) .refl) d) .refl

/-! ### Frames -/

theorem Dev.PortStep.portOverrun (hm : m < 3) : Dev.PortStep n d (d.portOverrun m) := by
  have hcount (e : Dev) : Dev.PortStep n e (e.bump R.P_OVERRUN_COUNT m) :=
    .fput (mem_portRegs hm (by simp [Fld.at, R.P_OVERRUN_COUNT, R.P_OVERRUN]))
  have hevent (e : Dev) : Dev.PortStep n e (e.event R.P_EVT_OVERRUN m) := .event (pEvt_mem hm)
  exact ((hcount d).trans (hevent _)).trans (.updPort (fun _ => ⟨rfl, rfl, rfl⟩))

theorem Dev.PortStep.portReceive (hm : m < 3) (f : PortFrame) : Dev.PortStep n d (d.portReceive m f) := by
  unfold Dev.portReceive
  dsimp only
  refine .ite .refl (.ite ?_ (.ite ?_ (.ite ?_ (.ite (.portOverrun hm) ?_)))) <;> exact .updPort (fun _ => ⟨rfl, rfl, rfl⟩)

theorem Dev.PortStep.portPut (frame before : List Int) : Dev.PortStep n d (d.portPut m frame before) := .updPort (fun _ => ⟨rfl, rfl, rfl⟩)

theorem Dev.PortStep.portFrameOut (frame : List Int) : Dev.PortStep n d (d.portFrameOut m frame) :=
  (Dev.PortStep.portPut _ _).trans (.updPort (fun _ => ⟨rfl, rfl, rfl⟩))

theorem Dev.PortStep.portUnderrun (hm : m < 3) (f : PortFrame) : Dev.PortStep n d (d.portUnderrun m f) := by
  have hcount (e : Dev) : Dev.PortStep n e (e.bumpEvt R.P_UNDERRUN_COUNT R.P_EVT_UNDERRUN m) :=
    (Dev.PortStep.fput (mem_portRegs hm (by simp [Fld.at, R.P_UNDERRUN_COUNT, R.P_UNDERRUN]))).trans (.event (pEvt_mem hm))
  have hmark (e : Dev) : Dev.PortStep n e (e.fputB R.P_STAT_SLIPPED m true) := .fput (pStat_mem hm)
  have hslips (e : Dev) : Dev.PortStep n e (e.bump R.P_SLIPS_COUNT m) := .fput (mem_portRegs hm (by simp [Fld.at, R.P_SLIPS_COUNT, R.P_SLIPS]))
  have hslip (e : Dev) : Dev.PortStep n e (((e.fputB R.P_STAT_SLIPPED m true).bump R.P_SLIPS_COUNT m).event R.P_EVT_SLIP m) :=
    ((hmark e).trans (hslips _)).trans (.event (pEvt_mem hm))
  unfold Dev.portUnderrun
  dsimp only
  refine .ite (.ite ?_ ?_) ?_
  · refine ((hcount d).trans (.portFrameOut _)).trans (.updPort ?_)
    exact fun _ => ⟨rfl, rfl, rfl⟩
  · refine ((((hcount d).trans (.portFrameOut _)).trans (.updPort ?_)).trans (.updPort ?_)).trans (hslip _)
    · exact fun _ => ⟨rfl, rfl, rfl⟩
    · exact fun _ => ⟨rfl, rfl, rfl⟩
  · refine ((hcount d).trans (.portFrameOut _)).trans (.updPort ?_)
    exact fun _ => ⟨rfl, rfl, rfl⟩

theorem Dev.PortStep.portSend (hm : m < 3) (f : PortFrame) : Dev.PortStep n d (d.portSend m f) := by
  unfold Dev.portSend
  dsimp only
  refine .ite (.portPut _ _) (.ite (.portPut _ _) (.ite (.portPut _ _) (.ite (.ite (.portFrameOut _) (.portFrameOut _)) (.ite (.portFrameOut _)
    (.ite (.portUnderrun hm f) ?_)))))
  exact (Dev.PortStep.portFrameOut _).trans (.updPort (fun _ => ⟨rfl, rfl, rfl⟩))

theorem Dev.PortStep.leadSteer (v : Int) : Dev.PortStep n d (d.leadSteer v) := by
  have hppm (e : Dev) (w : Int) : Dev.PortStep n e (e.fputI R.PRT_LEAD_PPM 0 w) := .fput (by decide)
  have hapl (e : Dev) (w : Int) : Dev.PortStep n e (e.fputI R.CLK_APL_PPM 0 w) := .fput (by decide)
  have hlim (e : Dev) (b : Bool) : Dev.PortStep n e (e.fputB R.PRT_LEAD_STAT_LIMIT 0 b) := .fput (by decide)
  have hevent (e : Dev) : Dev.PortStep n e (e.event R.SPD_EVT_LEAD_LIMIT) := .event (by decide)
  unfold Dev.leadSteer
  dsimp only
  refine .ite ?_ ?_
  · exact (((hppm d _).trans (hapl _ _)).trans (hlim _ _)).trans (hevent _)
  · exact ((hppm d _).trans (hapl _ _)).trans (hlim _ _)

theorem Dev.PortStep.leadFrame (src : Nat) : Dev.PortStep n d (d.leadFrame src) := by
  have hfill (v : Nat) : Dev.PortStep n d (d.fput R.PRT_LEAD_STAT_FILL 0 v) := .fput leadStat_mem
  unfold Dev.leadFrame
  dsimp only
  refine .ite .refl (Dev.PortStep.trans (.ite (hfill _) ?_) (.leadSteer _))
  exact (hfill _).trans (.updPrt _)

theorem Dev.PortStep.portRampCheck : Dev.PortStep n d (d.portRampCheck m) := by
  unfold Dev.portRampCheck
  dsimp only
  exact .ite (.updPort (fun _ => ⟨rfl, rfl, rfl⟩)) .refl

end
end Sys2Proof.Machine

/-!
SUPPORT. A frame start of a master port that is in no group and leads no loop: what it receives and what it sends (R411, R414, R416, R420 to R422).
-/
namespace Sys2Proof.Machine

section
variable {d e g : Dev} {s : State} {n m : Nat} {l l' : List Nat}

/-! ### What a step of a port leaves to the next -/

/-- From `d` to `e` registers of `l` change, of the port states none; nor what the ports share, the fabric or the time. -/
structure Dev.PortCalm (l : List Nat) (d e : Dev) : Prop where
  within : Dev.Within l d e
  state : ∀ k, e.portState k = d.portState k
  prt : e.prt = d.prt
  fab : e.fab = d.fab
  time : e.time = d.time

theorem Dev.PortCalm.refl : Dev.PortCalm l d d := ⟨.refl, fun _ => rfl, rfl, rfl, rfl⟩

theorem Dev.PortCalm.trans (h₁ : Dev.PortCalm l d e) (h₂ : Dev.PortCalm l e g) : Dev.PortCalm l d g :=
  ⟨h₁.within.trans h₂.within, fun k => (h₂.state k).trans (h₁.state k), h₂.prt.trans h₁.prt, h₂.fab.trans h₁.fab, h₂.time.trans h₁.time⟩

theorem Dev.PortCalm.mono (h : Dev.PortCalm l d e) (hl : ∀ i ∈ l, i ∈ l') : Dev.PortCalm l' d e := ⟨h.within.mono hl, h.state, h.prt, h.fab, h.time⟩

theorem Dev.PortCalm.updPort (f : PortSt → PortSt) : Dev.PortCalm l d (d.updPort m f) := ⟨.of_regs rfl, fun _ => rfl, rfl, rfl, rfl⟩

/-- A field of a register that is no status of a port, or of its status beside STATE. -/
theorem Dev.PortCalm.fput {f : Fld} {k v : Nat} (hf : f.at k ∈ l) (hbits : f.lo ≤ f.hi ∧ f.hi < 16)
    (hapart : (∀ j, R.P_STAT_STATE.at j ≠ f.at k) ∨ f.hi < 13) : Dev.PortCalm l d (d.fput f k v) := by
  refine ⟨Dev.within_fput hf, fun j => ?_, rfl, rfl, rfl⟩
  obtain hat | hlow := hapart
  · exact Dev.fget_fput_apart _ _ hbits (.inl (hat j))
  · exact Dev.fget_fput_apart _ _ hbits (.inr (.inr hlow))

theorem Dev.PortCalm.event {f : Fld} {k : Nat} (hf : f.at k ∈ l) (hapart : ∀ j, R.P_STAT_STATE.at j ≠ f.at k) : Dev.PortCalm l d (d.event f k) := by
  refine ⟨Dev.within_event hf, fun j => Dev.fget_setEvtBits_other (.inr (hapart j)), ?_, ?_, ?_⟩ <;> simp [Dev.event]

theorem pStat_apart {k : Nat} (hk : k % 64 ≠ 16) (j : Nat) : R.P_STAT_STATE.at j ≠ k := by
  simp only [Fld.at, R.P_STAT_STATE]
  omega

/-- The register `off` places into the registers of a port is no status. -/
theorem pStat_apart_port {f : Fld} {k : Nat} (hbase : f.base % 64 ≠ 16) (hstride : f.stride = 64) (j : Nat) : R.P_STAT_STATE.at j ≠ f.at k := by
  simp only [Fld.at, R.P_STAT_STATE, hstride]
  omega

/-! ### Before the frame is received -/

/-- The registers of the checks at a frame start. -/
def portCheckRegs : List Nat := (List.range 3).flatMap (fun k => [R.P_STAT.at k, R.P_EVT.at k])

theorem pStat_mem_check (hm : m < 3) : R.P_STAT.at m ∈ portCheckRegs := List.mem_flatMap.2 ⟨m, List.mem_range.2 hm, by simp⟩

theorem pEvt_mem_check (hm : m < 3) : R.P_EVT.at m ∈ portCheckRegs := List.mem_flatMap.2 ⟨m, List.mem_range.2 hm, by simp⟩

/-- From `d` to `e` the checks of a frame start change status and events, and of port `n` its count of frames in range. -/
structure Dev.Checked (n : Nat) (d e : Dev) : Prop where
  calm : Dev.PortCalm portCheckRegs d e
  port : e.portOf n = { d.portOf n with inRange := (e.portOf n).inRange }
  others : ∀ j, j ≠ n → e.portOf j = d.portOf j

theorem Dev.Checked.refl : Dev.Checked n d d := ⟨.refl, rfl, fun _ _ => rfl⟩

theorem Dev.Checked.trans (h₁ : Dev.Checked n d e) (h₂ : Dev.Checked n e g) : Dev.Checked n d g :=
  ⟨h₁.calm.trans h₂.calm, by rw [h₂.port, h₁.port], fun j hj => (h₂.others j hj).trans (h₁.others j hj)⟩

theorem Dev.Checked.ite {c : Prop} [Decidable c] {e₁ e₂ : Dev} (h₁ : Dev.Checked n d e₁) (h₂ : Dev.Checked n d e₂) :
    Dev.Checked n d (if c then e₁ else e₂) := by
  split
  · exact h₁
  · exact h₂

theorem Dev.Checked.of_calm (h : Dev.PortCalm portCheckRegs d e) (hp : e.ports = d.ports) : Dev.Checked n d e := by
  have hport (j : Nat) : e.portOf j = d.portOf j := by rw [Dev.portOf, hp, Dev.portOf]
  exact ⟨h, by rw [hport], fun j _ => hport j⟩

theorem Dev.Checked.ratioFrame (hn : n < 3) : Dev.Checked n d (d.ratioFrame n) := by
  have herr (e : Dev) (b : Bool) : Dev.Checked n e (e.fputB R.P_STAT_RATIO_ERR n b) :=
    .of_calm (.fput (pStat_mem_check hn) (by decide) (.inr (by decide))) rfl
  have hevent (e : Dev) : Dev.Checked n e (e.event R.P_EVT_ASRC_ERR n) :=
    .of_calm (.event (pEvt_mem_check hn) (pStat_apart_port (by decide) rfl)) (by simp [Dev.event])
  have hrange (k : Nat) : Dev.Checked n d (d.updPort n (fun p => { p with inRange := k })) :=
    ⟨.updPort _, by rw [Dev.portOf_updPort, if_pos rfl], fun j hj => by rw [Dev.portOf_updPort, if_neg hj]⟩
  unfold Dev.ratioFrame
  dsimp only
  refine .ite (herr d false) (.ite (.ite ?_ ?_) (.ite ?_ ?_))
  · exact (hrange _).trans (herr _ false)
  · exact hrange _
  · exact (hrange 0).trans (herr _ true)
  · exact ((hrange 0).trans (herr _ true)).trans (hevent _)

theorem Dev.Checked.each {f : Dev → Nat → Dev} {l : List Nat} (hf : ∀ a ∈ l, ∀ d, Dev.Checked n d (f d a)) (d : Dev) : Dev.Checked n d (d.each l f) := by
  induction l generalizing d with
  | nil => exact .refl
  | cons a l ih => exact (hf a List.mem_cons_self d).trans (ih (fun b hb => hf b (List.mem_cons_of_mem _ hb)) (f d a))

theorem Dev.Checked.grpUpdate : Dev.Checked n d d.grpUpdate := by
  refine .each (fun k hk e => ?_) d
  have href (b : Bool) : Dev.Checked n e (e.fputB R.P_STAT_REF k b) :=
    .of_calm (.fput (pStat_mem_check (List.mem_range.1 hk)) (by decide) (.inr (by decide))) rfl
  have herr (e' : Dev) (b : Bool) : Dev.Checked n e' (e'.fputB R.P_STAT_GRP_ERR k b) :=
    .of_calm (.fput (pStat_mem_check (List.mem_range.1 hk)) (by decide) (.inr (by decide))) rfl
  exact (href _).trans (herr _ _)

/-- Nothing begins in a group of which no member waits. -/
theorem Dev.grpBegin_none (hwait : ∀ k < 3, (d.portOf k).wait = false) : d.grpBegin m = d := by
  have hstep (e : Dev) (k : Nat) (hk : (e.portOf k).wait = false) : (if (e.portOf k).wait then e.portStart k else e) = e := if_neg (by rw [hk]; decide)
  have hall : ∀ l : List Nat, (∀ k ∈ l, k < 3) → d.each l (fun d k => if (d.portOf k).wait then d.portStart k else d) = d := by
    intro l
    induction l with
    | nil => exact fun _ => rfl
    | cons k l ih =>
      intro hl
      have hfirst := hstep d k (hwait k (hl k List.mem_cons_self))
      show Dev.each (if (d.portOf k).wait then d.portStart k else d) l _ = d
      rw [hfirst]
      exact ih (fun j hj => hl j (List.mem_cons_of_mem _ hj))
  unfold Dev.grpBegin
  split
  · exact hall _ (fun k hk => List.mem_range.1 hk)
  · rfl

/-! ### Masks -/

/-- Port `n` with the masks as applied. -/
def Dev.maskedBy (d : Dev) (n tx rx : Nat) : Dev := d.updPort n (fun p => { p with txMask := tx, rxMask := rx })

/-- The masks of port `n` that have arrived take effect: none came in this cycle of its bit clock (R415). -/
def Dev.maskRipe (d : Dev) (n : Nat) : Prop := (d.portOf n).maskAt = 0 ∨ d.bclkCycles n ≤ d.time.clk + 1 - (d.portOf n).maskAt

theorem Dev.masksTake_ripe (h : d.maskRipe n) :
    d.masksTake n = d.updPort n (fun p => { p with txMask := (d.maskOf n).1, rxMask := (d.maskOf n).2, maskAt := 0 }) := by
  refine if_neg ?_
  obtain hnone | hlong := h
  · simp [hnone]
  · simp [Nat.not_lt.2 hlong]

theorem Dev.Within.maskOf (hw : Dev.Within l d e) : e.maskOf n = d.maskOf n := by
  rw [Dev.maskOf, Dev.maskOf, hw.fget (.inl rfl), hw.fget (.inl rfl), hw.fget (.inl rfl), hw.fget (.inl rfl)]

/-- Port `n` at its frame start in cycle `clk`, with new masks. -/
def PortSt.framed (p : PortSt) (clk tx rx k : Nat) : PortSt := { p with edge := clk + 1, txMask := tx, rxMask := rx, maskAt := 0, inRange := k }

/-- The block before the frame is received. -/
def Dev.frameBegun (d : Dev) (n : Nat) (f : PortFrame) : Dev :=
  ((((d.portMeasure n f.rate f.bpf).ratioFrame n).updPort n (fun p => { p with edge := d.time.clk + 1 })).masksTake n).grpUpdate.grpBegin n

/-- The block with its frame received and sent. -/
def Dev.framePassed (d : Dev) (n : Nat) (f : PortFrame) : Dev :=
  ((((d.frameBegun n f).portReceive n f).portSend n f).leadFrame (n + 1)).portRampCheck n

/-- The measurement leaves the time and the ports. -/
theorem Dev.portMeasure_time (rate bpf : Nat) : (d.portMeasure n rate bpf).time = d.time ∧ (d.portMeasure n rate bpf).ports = d.ports := by
  unfold Dev.portMeasure
  dsimp only
  split
  · exact ⟨rfl, rfl⟩
  · split
    · simp [Dev.event, Dev.fputB]
    · exact ⟨rfl, rfl⟩

/-- The masks that take effect are judged by the time and the port as they were before the frame start. -/
theorem Dev.maskRipe_measured {n : Fin 3} {f : PortFrame} (h : (d.portOf n).maskAt = 0 ∨
    ((d.portMeasure n f.rate f.bpf).ratioFrame n).bclkCycles n ≤ d.time.clk + 1 - (d.portOf n).maskAt) :
    ((d.portMeasure n f.rate f.bpf).ratioFrame n).maskRipe n := by
  obtain ⟨htime, hports⟩ := Dev.portMeasure_time (d := d) (n := n) f.rate f.bpf
  have hchecked := Dev.Checked.ratioFrame (d := d.portMeasure n f.rate f.bpf) n.isLt
  have hmask : (((d.portMeasure n f.rate f.bpf).ratioFrame n).portOf n).maskAt = (d.portOf n).maskAt := by
    have hport : (d.portMeasure n f.rate f.bpf).portOf n = d.portOf n := by rw [Dev.portOf, hports, Dev.portOf]
    rw [hchecked.port, hport]
  rw [Dev.maskRipe, hmask, hchecked.calm.time, htime]
  exact h

theorem exec_portFrameStart {n : Fin 3} {f : PortFrame} (hclock : s.dev.audClocked = true) (hstate : s.dev.portState n = 2 ∨ s.dev.portState n = 3) :
    exec (.portFrameStart n f) s = .next { s with dev := s.dev.framePassed n f } := by
  have hup : (s.dev.portState n ≠ 2 && s.dev.portState n ≠ 3) = false := by
    obtain h | h := hstate <;> simp [h]
  show execPortFrameStart n f s = _
  rw [execPortFrameStart, nextDev]
  simp only [hclock, hup, Bool.not_true, Bool.false_eq_true, if_false]
  rfl

/-- The masks come into force at a frame start, in every group and for every leader. -/
theorem runs_portFrameStart_masks {n : Fin 3} {f : PortFrame} (hripe : ((s.dev.portMeasure n f.rate f.bpf).ratioFrame n).maskRipe n)
    (hclock : s.dev.audClocked = true) (hstate : s.dev.portState n = 2 ∨ s.dev.portState n = 3) :
    Runs (.portFrameStart n f) s (fun t => (t.dev.portOf n).txMask = (s.dev.maskOf n).1 ∧ (t.dev.portOf n).rxMask = (s.dev.maskOf n).2 ∧
      (t.dev.portOf n).edge = s.dev.time.clk + 1 ∧ Only portRegs s t) := by
  have hmeasured : Dev.PortStep n s.dev ((s.dev.portMeasure n f.rate f.bpf).ratioFrame n) := (Dev.PortStep.portMeasure n.isLt _ _).trans (.ratioFrame n.isLt)
  have hexec := exec_portFrameStart (f := f) hclock hstate
  rw [Dev.framePassed, Dev.frameBegun] at hexec
  generalize (s.dev.portMeasure n f.rate f.bpf).ratioFrame n = e at *
  have hripe' : (e.updPort n (fun p => { p with edge := s.dev.time.clk + 1 })).maskRipe n := by
    rw [Dev.maskRipe, Dev.portOf_updPort, if_pos rfl]
    exact hripe
  rw [Dev.masksTake_ripe hripe'] at hexec
  have hmask : (e.updPort n (fun p => { p with edge := s.dev.time.clk + 1 })).maskOf n = s.dev.maskOf n := hmeasured.within.maskOf
  rw [hmask] at hexec
  generalize hg : (e.updPort n (fun p => { p with edge := s.dev.time.clk + 1 })).updPort n
    (fun p => { p with txMask := (s.dev.maskOf n).1, rxMask := (s.dev.maskOf n).2, maskAt := 0 }) = g at hexec
  have hport : g.portOf n = { e.portOf n with edge := s.dev.time.clk + 1, txMask := (s.dev.maskOf n).1, rxMask := (s.dev.maskOf n).2, maskAt := 0 } := by
    rw [← hg, Dev.portOf_updPort, if_pos rfl, Dev.portOf_updPort, if_pos rfl]
  have hrest := ((((Dev.PortStep.grpUpdate (n := n) (d := g)).trans (.grpBegin (m := n))).trans (.portReceive n.isLt f)).trans
    (.portSend n.isLt f)).trans ((Dev.PortStep.leadFrame (n + 1)).trans (.portRampCheck (m := n)))
  have hregs : g.regs = e.regs := by rw [← hg]; rfl
  exact ⟨_, hexec, by rw [hrest.txMask, hport], by rw [hrest.rxMask, hport], by rw [hrest.edge, hport],
    ((hmeasured.within.beside hregs).trans hrest.within).only⟩

/-! ### A master port of its own -/

/-- Port `n` is a master in no group that leads no loop; its new masks are `tx` and `rx`, nothing holds the ports, and it needs no ASRC to send. -/
structure Dev.PlainPort (d : Dev) (n tx : Nat) : Prop where
  clocked : d.audClocked = true
  held : d.prt.held = false
  fall : (d.portOf n).fall = 0
  master : d.fbit R.P_CFG_MASTER n = true
  alone : d.fbit R.P_CFG_GRP n = false
  follows : d.fget R.PRT_LEAD_SRC ≠ n + 1
  mask : tx ≠ 0
  needs : d.asrcNeeds (2 * n + 2) = false
  wait : ∀ k < 3, (d.portOf k).wait = false

theorem Dev.portMeasure_master (h : d.fbit R.P_CFG_MASTER n = true) (rate bpf : Nat) : d.portMeasure n rate bpf = d := if_pos h

/-- The port as its frame is received: with the new masks, and otherwise as it was. -/
theorem Dev.PlainPort.begun {n : Fin 3} {f : PortFrame} (h : d.PlainPort n (d.maskOf n).1) (hripe : ((d.portMeasure n f.rate f.bpf).ratioFrame n).maskRipe n) :
    Dev.PortCalm portCheckRegs d (d.frameBegun n f) ∧
    ∃ k, (d.frameBegun n f).portOf n = (d.portOf n).framed d.time.clk (d.maskOf n).1 (d.maskOf n).2 k := by
  rw [Dev.frameBegun]
  rw [Dev.portMeasure_master h.master] at hripe ⊢
  have hchecked := Dev.Checked.ratioFrame (d := d) n.isLt
  generalize d.ratioFrame n = e at *
  have hripe' : (e.updPort n (fun p => { p with edge := d.time.clk + 1 })).maskRipe n := by
    rw [Dev.maskRipe, Dev.portOf_updPort, if_pos rfl]
    exact hripe
  have hmask : (e.updPort n (fun p => { p with edge := d.time.clk + 1 })).maskOf n = d.maskOf n := hchecked.calm.within.maskOf
  rw [Dev.masksTake_ripe hripe', hmask]
  generalize hg : (e.updPort n (fun p => { p with edge := d.time.clk + 1 })).updPort n
    (fun p => { p with txMask := (d.maskOf n).1, rxMask := (d.maskOf n).2, maskAt := 0 }) = g
  have hport : g.portOf n = (d.portOf n).framed d.time.clk (d.maskOf n).1 (d.maskOf n).2 (e.portOf n).inRange := by
    rw [← hg, Dev.portOf_updPort, if_pos rfl, Dev.portOf_updPort, if_pos rfl, hchecked.port]
    rfl
  have hothers (k : Nat) (hk : k ≠ n) : g.portOf k = d.portOf k := by
    rw [← hg, Dev.portOf_updPort, if_neg hk, Dev.portOf_updPort, if_neg hk, hchecked.others k hk]
  have hcalm : Dev.PortCalm portCheckRegs d g := by
    rw [← hg]
    exact (hchecked.calm.trans (.updPort _)).trans (.updPort _)
  have hgroup := Dev.Checked.grpUpdate (n := n) (d := g)
  have hwait : ∀ k < 3, (g.grpUpdate.portOf k).wait = false := by
    intro k hk
    by_cases hkn : k = n
    · rw [hkn, hgroup.port, hport]
      exact h.wait n n.isLt
    · rw [hgroup.others k hkn, hothers k hkn]
      exact h.wait k hk
  rw [Dev.grpBegin_none hwait]
  exact ⟨hcalm.trans hgroup.calm, (g.grpUpdate.portOf n).inRange, by rw [hgroup.port, hport]; rfl⟩

/-! ### What the next steps read -/

theorem Dev.Within.leadOk (hw : Dev.Within l d e) (hfs : ∀ k, R.P_FS_MEAS.at k ∉ l) (hspd : R.SPD_RX_FS.at 0 ∉ l) : e.leadOk = d.leadOk := by
  have hrate (k : Nat) : e.rateOf k = d.rateOf k := by rw [Dev.rateOf, Dev.rateOf, hw.fget (.inl rfl)]
  have hfab : e.fabricRate = d.fabricRate := by rw [Dev.fabricRate, Dev.fabricRate, hw.fbit (.inl rfl)]
  simp only [Dev.leadOk, hrate, hfab, hw.fget (f := R.PRT_LEAD_SRC) (n := 0) (.inl rfl), hw.fget (f := R.SPD_RX_FS_FS) (n := 0) (.inr hspd),
    fun k => hw.fget (f := R.P_FS_MEAS_VALUE) (n := k) (.inr (hfs k)), fun k => hw.fbit (f := R.P_CFG_MASTER) (n := k) (.inl rfl)]

theorem Dev.Within.asrcNeeds (hw : Dev.Within l d e) (hfs : ∀ k, R.P_FS_MEAS.at k ∉ l) (hspd : R.SPD_RX_FS.at 0 ∉ l) (u : Nat) :
    e.asrcNeeds u = d.asrcNeeds u := by
  have hrate (k : Nat) : e.rateOf k = d.rateOf k := by rw [Dev.rateOf, Dev.rateOf, hw.fget (.inl rfl)]
  have hfab : e.fabricRate = d.fabricRate := by rw [Dev.fabricRate, Dev.fabricRate, hw.fbit (.inl rfl)]
  have hstaged {f : Fld} (k : Nat) (hf : f.staged = true) : e.fget f k = d.fget f k := hw.fget (.inl hf)
  have hbit {f : Fld} (k : Nat) (hf : f.staged = true) : e.fbit f k = d.fbit f k := hw.fbit (.inl hf)
  simp only [Dev.asrcNeeds, Dev.maskUsed, hw.leadOk hfs hspd, hrate, hfab, hstaged (f := R.PRT_LEAD_SRC) _ rfl, hstaged (f := R.P_RXMASK_HI) _ rfl,
    hstaged (f := R.P_RXMASK_LO) _ rfl, hstaged (f := R.P_TXMASK_HI) _ rfl, hstaged (f := R.P_TXMASK_LO) _ rfl, hbit (f := R.SPD_RX_CFG_EN) _ rfl,
    hbit (f := R.P_CFG_GRP) _ rfl, hbit (f := R.P_CFG_EN) _ rfl, hbit (f := R.P_CFG_MASTER) _ rfl]

end
end Sys2Proof.Machine

/-!
SUPPORT. What a master port of its own receives and sends at a frame start (R411, R414, R416, R420 to R422).
-/
namespace Sys2Proof.Machine

section
variable {d e g : Dev} {s : State} {m : Nat} {n : Fin 3} {l : List Nat} {f : PortFrame} {tx rx : Nat}

/-! ### The port when its frame is sent -/

/-- Port `p` when it sends the frame that starts in cycle `clk`: `q` gives what the reception may have changed. -/
def PortSt.received (p : PortSt) (clk tx rx : Nat) (q : PortSt) : PortSt :=
  { p with edge := clk + 1, txMask := tx, rxMask := rx, maskAt := 0, inRange := q.inRange, rxQueue := q.rxQueue, rxHist := q.rxHist, gap := q.gap }

/-- From `d` to `e` port `n` has come to send: registers of `l` have changed, and of the port what the frame start and the reception change. -/
structure Dev.Ready (l : List Nat) (n : Fin 3) (tx rx : Nat) (d e : Dev) : Prop where
  calm : Dev.PortCalm l d e
  port : e.portOf n = (d.portOf n).received d.time.clk tx rx (e.portOf n)

/-- Port `n` with the masks that come into force, `d1` of the statement. -/
def Dev.masked (d : Dev) (n tx rx : Nat) : Dev := d.updPort n (fun p => { p with txMask := tx, rxMask := rx })

/-- The contents of the word at position `j` of the sent slots, from samples by slot. -/
def Dev.slotWord (d : Dev) (n tx rx : Nat) (x : List Int) (j : Nat) : Nat :=
  slotOut (d.slotWidth n) (d.fbit R.P_CFG_JUST n) (x.getD (((d.masked n tx rx).sentSlots n).getD j 0) 0)

/-- The frame of the samples `x` behind one of the samples `y`. -/
def Dev.slotWords (d : Dev) (n tx rx : Nat) (x y : List Int) : List (Option Nat) :=
  (d.masked n tx rx).dataOut n (d.slotWord n tx rx x) (d.slotWord n tx rx y)

theorem Dev.masked_port : (d.masked n tx rx).portOf n = { d.portOf n with txMask := tx, rxMask := rx } := by
  rw [Dev.masked, Dev.portOf_updPort, if_pos rfl]

section
variable (h : Dev.Ready l n tx rx d e)
include h

theorem Dev.Ready.txMask : (e.portOf n).txMask = tx := by rw [h.port]; rfl
theorem Dev.Ready.shift : (e.portOf n).shift = (d.portOf n).shift := by rw [h.port]; rfl
theorem Dev.Ready.sent : (e.portOf n).sent = (d.portOf n).sent := by rw [h.port]; rfl
theorem Dev.Ready.ramp : (e.portOf n).ramp = (d.portOf n).ramp := by rw [h.port]; rfl
theorem Dev.Ready.fall : (e.portOf n).fall = (d.portOf n).fall := by rw [h.port]; rfl
theorem Dev.Ready.txFill : (e.portOf n).txFill = (d.portOf n).txFill := by rw [h.port]; rfl
theorem Dev.Ready.txHist : (e.portOf n).txHist = (d.portOf n).txHist := by rw [h.port]; rfl
theorem Dev.Ready.txPrime : (e.portOf n).txPrime = (d.portOf n).txPrime := by rw [h.port]; rfl
theorem Dev.Ready.realign : (e.portOf n).realign = (d.portOf n).realign := by rw [h.port]; rfl

theorem Dev.Ready.staged {u : Fld} (k : Nat) (hu : u.staged = true) : e.fget u k = d.fget u k := h.calm.within.fget (.inl hu)

theorem Dev.Ready.bit {u : Fld} (k : Nat) (hu : u.staged = true) : e.fbit u k = d.fbit u k := h.calm.within.fbit (.inl hu)

theorem Dev.Ready.slotCount : e.slotCount n = d.slotCount n := by rw [Dev.slotCount, h.staged _ rfl, Dev.slotCount]

theorem Dev.Ready.slotWidth : e.slotWidth n = d.slotWidth n := by rw [Dev.slotWidth, h.staged _ rfl, Dev.slotWidth]

/-- Every slot of a master fits. -/
theorem Dev.Ready.sentSlots (hmaster : d.fbit R.P_CFG_MASTER n = true) : e.sentSlots n = (d.masked n tx rx).sentSlots n := by
  have hmaster' : (d.masked n tx rx).fbit R.P_CFG_MASTER n = true := hmaster
  have hcount : (d.masked n tx rx).slotCount n = d.slotCount n := rfl
  simp only [Dev.sentSlots, h.slotCount, Dev.slotFits, h.bit (u := R.P_CFG_MASTER) _ rfl, hmaster, hmaster', hcount, h.txMask, Dev.masked_port, Bool.true_or]

theorem Dev.Ready.dataOut (hmaster : d.fbit R.P_CFG_MASTER n = true) (val before : Nat → Nat) :
    e.dataOut n val before = (d.masked n tx rx).dataOut n val before := by
  have hcount : (d.masked n tx rx).slotCount n = d.slotCount n := rfl
  simp only [Dev.dataOut, h.sentSlots hmaster, h.slotCount, hcount, h.shift, Dev.masked_port]

/-- In RUN, with nothing that holds or stops the port, samples are sent as they are. -/
theorem Dev.Ready.portLevel_run (hstate : d.portState n = 3) (hheld : d.prt.held = false) (hfall : (d.portOf n).fall = 0) (x : Int) : e.portLevel n x = x := by
  simp [Dev.portLevel, h.calm.state n, hstate, h.calm.prt, hheld, h.fall, hfall]

theorem Dev.Ready.wordOf_run (hmaster : d.fbit R.P_CFG_MASTER n = true) (hstate : d.portState n = 3) (hheld : d.prt.held = false)
    (hfall : (d.portOf n).fall = 0) (x : List Int) : e.wordOf n x = d.slotWord n tx rx x := by
  funext j
  rw [Dev.wordOf, h.portLevel_run hstate hheld hfall, h.sentSlots hmaster, h.slotWidth, h.bit _ rfl, Dev.slotWord]

theorem Dev.Ready.bumpEvt {u v : Fld} (hu : u.at n ∈ l ∧ u.base % 64 ≠ 16 ∧ u.stride = 64 ∧ u.lo ≤ u.hi ∧ u.hi < 16)
    (hv : v.at n ∈ l ∧ v.base % 64 ≠ 16 ∧ v.stride = 64) : Dev.Ready l n tx rx d (e.bumpEvt u v n) := by
  obtain ⟨humem, hubase, hustride, hubits⟩ := hu
  obtain ⟨hvmem, hvbase, hvstride⟩ := hv
  have hbump : Dev.PortCalm l e (e.bump u n) := .fput humem hubits (.inl (pStat_apart_port hubase hustride))
  have hport : (e.bumpEvt u v n).portOf n = e.portOf n := by simp [Dev.portOf, Dev.bumpEvt, Dev.bump, Dev.bumpBy, Dev.event]
  refine ⟨(h.calm.trans hbump).trans (.event hvmem (pStat_apart_port hvbase hvstride)), ?_⟩
  rw [hport]
  exact h.port

end

/-! ### Words on the wire -/

theorem Dev.portPut_port (x y : List Int) : (d.portPut m x y).portOf m = { d.portOf m with dout := d.dataOut m (d.wordOf m x) (d.wordOf m y) } := by
  rw [Dev.portPut, Dev.portOf_updPort, if_pos rfl]

theorem Dev.portFrameOut_port (x : List Int) :
    (d.portFrameOut m x).portOf m = { d.portOf m with dout := d.dataOut m (d.wordOf m x) (d.wordOf m (d.portOf m).sent), sent := x } := by
  rw [Dev.portFrameOut, Dev.portOf_updPort, if_pos rfl, Dev.portPut_port]

/-- A level of zero falls to zero, and rises to zero. -/
theorem fallen_zero (a b : Nat) : fallen a b 0 = 0 := by simp [fallen, divNearInt]

theorem Dev.portLevel_zero : d.portLevel m 0 = 0 := by simp [Dev.portLevel, fallen_zero]

/-- Without a shift the frame before does not show. -/
theorem Dev.dataOut_unshifted (hshift : (d.portOf m).shift = 0) (val before before' : Nat → Nat) : d.dataOut m val before = d.dataOut m val before' := by
  simp [Dev.dataOut, hshift]

theorem Dev.Ready.wordOf_empty (h : Dev.Ready l n tx rx d e) : e.wordOf n [] = d.slotWord n tx rx [] := by
  funext j
  simp [Dev.wordOf, Dev.slotWord, Dev.portLevel_zero, h.slotWidth, h.bit (u := R.P_CFG_JUST) _ rfl]

/-! ### What sending and the check of the ramp leave -/

/-- The registers that sending changes. -/
def portSendRegs (n : Nat) : List Nat := [R.P_STAT.at n, R.P_EVT.at n, R.P_UNDERRUN.at n, R.P_SLIPS.at n]

/-- From `d` to `e` port `m` has sent: its receive queue and its mark stand. -/
structure Dev.Sending (m : Nat) (d e : Dev) : Prop where
  within : Dev.Within (portSendRegs m) d e
  rxQueue : (e.portOf m).rxQueue = (d.portOf m).rxQueue
  gap : (e.portOf m).gap = (d.portOf m).gap

theorem Dev.Sending.trans (h₁ : Dev.Sending m d e) (h₂ : Dev.Sending m e g) : Dev.Sending m d g :=
  ⟨h₁.within.trans h₂.within, h₂.rxQueue.trans h₁.rxQueue, h₂.gap.trans h₁.gap⟩

theorem Dev.Sending.ite {c : Prop} [Decidable c] {e₁ e₂ : Dev} (h₁ : Dev.Sending m d e₁) (h₂ : Dev.Sending m d e₂) : Dev.Sending m d (if c then e₁ else e₂) := by
  split
  · exact h₁
  · exact h₂

theorem Dev.Sending.updPort {u : PortSt → PortSt} (hu : ∀ p, (u p).rxQueue = p.rxQueue ∧ (u p).gap = p.gap) : Dev.Sending m d (d.updPort m u) := by
  obtain ⟨hqueue, hgap⟩ := hu (d.portOf m)
  have hport : (d.updPort m u).portOf m = u (d.portOf m) := by rw [Dev.portOf_updPort, if_pos rfl]
  exact ⟨.of_regs rfl, by rw [hport, hqueue], by rw [hport, hgap]⟩

theorem Dev.Sending.fput {u : Fld} {v : Nat} (hu : u.at m ∈ portSendRegs m) : Dev.Sending m d (d.fput u m v) := ⟨Dev.within_fput hu, rfl, rfl⟩

theorem Dev.Sending.event {u : Fld} (hu : u.at m ∈ portSendRegs m) : Dev.Sending m d (d.event u m) :=
  ⟨Dev.within_event hu, by simp [Dev.portOf, Dev.event], by simp [Dev.portOf, Dev.event]⟩

theorem Dev.Sending.portPut (x y : List Int) : Dev.Sending m d (d.portPut m x y) := .updPort (fun _ => ⟨rfl, rfl⟩)

theorem Dev.Sending.portFrameOut (x : List Int) : Dev.Sending m d (d.portFrameOut m x) := (Dev.Sending.portPut _ _).trans (.updPort (fun _ => ⟨rfl, rfl⟩))

theorem Dev.Sending.counted : Dev.Sending m d (d.bumpEvt R.P_UNDERRUN_COUNT R.P_EVT_UNDERRUN m) := by
  have hcount : Dev.Sending m d (d.bump R.P_UNDERRUN_COUNT m) := .fput (by simp [portSendRegs, Fld.at, R.P_UNDERRUN_COUNT, R.P_UNDERRUN])
  exact hcount.trans (.event (by simp [portSendRegs, Fld.at, R.P_EVT_UNDERRUN, R.P_EVT]))

/-- A legacy slip is marked, counted and flagged. -/
theorem Dev.Sending.slipped : Dev.Sending m d (((d.fputB R.P_STAT_SLIPPED m true).bump R.P_SLIPS_COUNT m).event R.P_EVT_SLIP m) := by
  have hmark : Dev.Sending m d (d.fputB R.P_STAT_SLIPPED m true) := .fput (by simp [portSendRegs, Fld.at, R.P_STAT_SLIPPED, R.P_STAT])
  have hcount (e : Dev) : Dev.Sending m e (e.bump R.P_SLIPS_COUNT m) := .fput (by simp [portSendRegs, Fld.at, R.P_SLIPS_COUNT, R.P_SLIPS])
  exact (hmark.trans (hcount _)).trans (.event (by simp [portSendRegs, Fld.at, R.P_EVT_SLIP, R.P_EVT]))

theorem Dev.Sending.portUnderrun : Dev.Sending m d (d.portUnderrun m f) := by
  unfold Dev.portUnderrun
  dsimp only
  refine .ite (.ite ?_ ?_) ?_
  · refine (Dev.Sending.counted.trans (.portFrameOut _)).trans (.updPort ?_)
    exact fun _ => ⟨rfl, rfl⟩
  · refine (((Dev.Sending.counted.trans (.portFrameOut _)).trans (.updPort ?_)).trans (.updPort ?_)).trans .slipped
    · exact fun _ => ⟨rfl, rfl⟩
    · exact fun _ => ⟨rfl, rfl⟩
  · refine (Dev.Sending.counted.trans (.portFrameOut _)).trans (.updPort ?_)
    exact fun _ => ⟨rfl, rfl⟩

theorem Dev.Sending.portSend : Dev.Sending m d (d.portSend m f) := by
  unfold Dev.portSend
  dsimp only
  refine .ite (.portPut _ _) (.ite (.portPut _ _) (.ite (.portPut _ _) (.ite (.ite (.portFrameOut _) (.portFrameOut _)) (.ite (.portFrameOut _)
    (.ite .portUnderrun ?_)))))
  refine (Dev.Sending.portFrameOut _).trans (.updPort ?_)
  exact fun _ => ⟨rfl, rfl⟩

/-- The check of the ramp begins one at most. -/
theorem Dev.portRampCheck_eq : (d.portRampCheck m).regs = d.regs ∧ (d.portRampCheck m).portOf m = { d.portOf m with ramp := ((d.portRampCheck m).portOf m).ramp } := by
  unfold Dev.portRampCheck
  dsimp only
  split
  · exact ⟨rfl, by rw [Dev.portOf_updPort, if_pos rfl]⟩
  · exact ⟨rfl, rfl⟩

theorem Dev.leadFrame_other (hsrc : d.fget R.PRT_LEAD_SRC ≠ m) : d.leadFrame m = d := by simp [Dev.leadFrame, hsrc]

end
end Sys2Proof.Machine

/-!
SUPPORT. The frame starts of a master port of its own, case by case (R37, R414, R416, R420 to R422).
-/
namespace Sys2Proof.Machine

section
variable {d e g : Dev} {s : State} {n : Fin 3} {f : PortFrame} {tx rx : Nat}

/-! ### The frame received -/

/-- The registers that change before port `n` sends. -/
def portTakeRegs (n : Nat) : List Nat := portCheckRegs ++ [R.P_OVERRUN.at n]

theorem portTakeRegs_apart (n : Fin 3) : (∀ k, R.P_FS_MEAS.at k ∉ portTakeRegs n) ∧ R.SPD_RX_FS.at 0 ∉ portTakeRegs n ∧ R.CLK_STAT_SPL.at 0 ∉ portTakeRegs n ∧
    R.P_UNDERRUN_COUNT.at n ∉ portTakeRegs n := by
  refine ⟨fun k => ?_, by revert n; decide, by revert n; decide, by revert n; decide⟩
  have hsmall : ∀ i ∈ portTakeRegs n, i % 64 ≠ 17 := by revert n; decide
  exact fun hk => hsmall _ hk (by simp only [Fld.at, R.P_FS_MEAS]; omega)

theorem portCheckRegs_subset {i : Nat} (hi : i ∈ portCheckRegs) : i ∈ portTakeRegs n := List.mem_append_left _ hi

theorem pEvt_mem_take : R.P_EVT.at n ∈ portTakeRegs n := portCheckRegs_subset (pEvt_mem_check n.isLt)

/-- A received frame is discarded, counted and marked, or changes the queue of the port alone. -/
theorem Dev.PortCalm.portOverrun : Dev.PortCalm (portTakeRegs n) d (d.portOverrun n) := by
  have hcount (e : Dev) : Dev.PortCalm (portTakeRegs n) e (e.bump R.P_OVERRUN_COUNT n) :=
    .fput (List.mem_append_right _ (by simp [Fld.at, R.P_OVERRUN_COUNT, R.P_OVERRUN])) (by decide) (.inl (pStat_apart_port (by decide) rfl))
  have hevent (e : Dev) : Dev.PortCalm (portTakeRegs n) e (e.event R.P_EVT_OVERRUN n) := .event pEvt_mem_take (pStat_apart_port (by decide) rfl)
  exact ((hcount d).trans (hevent _)).trans (.updPort _)

theorem Dev.portOverrun_port : (d.portOverrun n).portOf n = { d.portOf n with gap := true } := by
  have hport : (d.bumpEvt R.P_OVERRUN_COUNT R.P_EVT_OVERRUN n).portOf n = d.portOf n := by
    simp [Dev.portOf, Dev.bumpEvt, Dev.bump, Dev.bumpBy, Dev.event]
  rw [Dev.portOverrun, Dev.portOf_updPort, if_pos rfl, hport]

/-- What the reception does to port `n`. -/
theorem Dev.portReceive_calm : Dev.PortCalm (portTakeRegs n) d (d.portReceive n f) ∧ (d.portReceive n f).portOf n = { d.portOf n with
    rxQueue := ((d.portReceive n f).portOf n).rxQueue, rxHist := ((d.portReceive n f).portOf n).rxHist, gap := ((d.portReceive n f).portOf n).gap } := by
  have hupd (u : PortSt → PortSt) (hu : ∀ p, u p = { p with rxQueue := (u p).rxQueue, rxHist := (u p).rxHist, gap := (u p).gap }) :
      Dev.PortCalm (portTakeRegs n) d (d.updPort n u) ∧ (d.updPort n u).portOf n = { d.portOf n with
        rxQueue := ((d.updPort n u).portOf n).rxQueue, rxHist := ((d.updPort n u).portOf n).rxHist, gap := ((d.updPort n u).portOf n).gap } := by
    rw [Dev.portOf_updPort, if_pos rfl]
    exact ⟨.updPort _, hu _⟩
  unfold Dev.portReceive
  dsimp only
  split
  · exact ⟨.refl, rfl⟩
  · split
    · exact hupd _ (fun _ => rfl)
    · split
      · exact hupd _ (fun _ => rfl)
      · split
        · exact hupd _ (fun _ => rfl)
        · split
          · rw [Dev.portOverrun_port]
            exact ⟨.portOverrun, rfl⟩
          · exact hupd _ (fun _ => rfl)

/-! ### A frame start up to the sending -/

/-- Port `n` is a plain master port whose new masks come into force. -/
structure Dev.PlainStart (d : Dev) (n : Fin 3) (f : PortFrame) (tx rx : Nat) : Prop where
  port : d.PlainPort n tx
  txMask : (d.maskOf n).1 = tx
  rxMask : (d.maskOf n).2 = rx
  ripe : ((d.portMeasure n f.rate f.bpf).ratioFrame n).maskRipe n

theorem Dev.PlainStart.begun (h : d.PlainStart n f tx rx) : Dev.Ready portCheckRegs n tx rx d (d.frameBegun n f) := by
  obtain ⟨hport, htx, hrx, hripe⟩ := h
  subst htx hrx
  obtain ⟨hcalm, k, hk⟩ := hport.begun hripe
  refine ⟨hcalm, ?_⟩
  rw [hk]
  rfl

/-- The block of a plain port when its frame is sent. -/
theorem Dev.PlainStart.ready (h : d.PlainStart n f tx rx) : Dev.Ready (portTakeRegs n) n tx rx d ((d.frameBegun n f).portReceive n f) := by
  have hbegun := h.begun
  obtain ⟨hcalm, hport⟩ := Dev.portReceive_calm (d := d.frameBegun n f) (n := n) (f := f)
  refine ⟨(hbegun.calm.mono (fun _ => portCheckRegs_subset)).trans hcalm, ?_⟩
  rw [hport, hbegun.port]
  rfl

/-- The block behind a frame start of a plain port: no loop follows it. -/
theorem Dev.PlainStart.passed (h : d.PlainStart n f tx rx) :
    d.framePassed n f = (((d.frameBegun n f).portReceive n f).portSend n f).portRampCheck n := by
  have hlead : (((d.frameBegun n f).portReceive n f).portSend n f).fget R.PRT_LEAD_SRC = d.fget R.PRT_LEAD_SRC :=
    (Dev.Sending.portSend.within.fget (.inl rfl)).trans (h.ready.staged _ rfl)
  rw [Dev.framePassed, Dev.leadFrame_other (hlead ▸ h.port.follows)]

/-- What holds of the sending port and of the registers holds behind the frame start. -/
theorem Dev.PlainStart.runs {p : State → Prop} (h : s.dev.PlainStart n f tx rx) (hstate : s.dev.portState n = 2 ∨ s.dev.portState n = 3)
    (hp : ∀ e, Dev.Ready (portTakeRegs n) n tx rx s.dev e → e = (s.dev.frameBegun n f).portReceive n f →
      ∀ t, t.dev.regs = (e.portSend n f).regs → (∃ r, t.dev.portOf n = { (e.portSend n f).portOf n with ramp := r }) → p t) :
    Runs (.portFrameStart n f) s p := by
  refine ⟨_, exec_portFrameStart h.port.clocked hstate, hp _ h.ready rfl _ ?_ ?_⟩
  · rw [h.passed]
    exact Dev.portRampCheck_eq.1
  · rw [h.passed]
    exact ⟨_, Dev.portRampCheck_eq.2⟩

/-! ### What the port sends -/

section
variable (h : Dev.Ready (portTakeRegs n) n tx rx d e)
include h

theorem Dev.Ready.splStopped : e.splStopped = d.splStopped := by
  rw [Dev.splStopped, h.calm.within.fget (.inr (portTakeRegs_apart n).2.2.1), Dev.splStopped]

theorem Dev.Ready.asrcNeeds (u : Nat) : e.asrcNeeds u = d.asrcNeeds u :=
  h.calm.within.asrcNeeds (portTakeRegs_apart n).1 (portTakeRegs_apart n).2.1 u

theorem Dev.Ready.stoppedFrames : e.stoppedFrames = d.stoppedFrames := by
  simp only [Dev.stoppedFrames, Dev.since, Dev.fabricRate, h.calm.fab, h.calm.time, h.bit (u := R.CLK_APL_CFG_FAM) _ rfl]

/-- In START before the ramp a plain port sends zeros. -/
theorem Dev.Ready.portSend_start (htx : tx ≠ 0) (hrun : d.splStopped = false) (hstate : d.portState n = 2) (hramp : (d.portOf n).ramp = 0) :
    e.portSend n f = e.portPut n [] (d.portOf n).sent := by
  have htx' : (e.portOf n).txMask ≠ 0 := h.txMask ▸ htx
  unfold Dev.portSend
  dsimp only
  rw [if_neg htx', h.splStopped, hrun, if_neg (by decide), h.calm.state, hstate, h.ramp, hramp, if_pos (by decide), h.sent]

/-- While SYS stands still the last frame falls. -/
theorem Dev.Ready.portSend_stopped (htx : tx ≠ 0) (hstop : d.splStopped = true) :
    e.portSend n f = e.portPut n ((d.portOf n).sent.map (fun x => fallen 48 (d.stoppedFrames + 1) x))
      ((d.portOf n).sent.map (fun x => fallen 48 d.stoppedFrames x)) := by
  have htx' : (e.portOf n).txMask ≠ 0 := h.txMask ▸ htx
  unfold Dev.portSend
  dsimp only
  rw [if_neg htx', h.splStopped, hstop, if_pos rfl, h.sent, h.stoppedFrames]

/-- A port in no group follows none. -/
theorem Dev.Ready.grpFollows (halone : d.fbit R.P_CFG_GRP n = false) : e.grpFollows n = false := by
  rw [Dev.grpFollows, h.bit _ rfl, halone, Bool.false_and]

theorem Dev.Ready.realignFill (halone : d.fbit R.P_CFG_GRP n = false) : e.realignFill n = 4 := by
  unfold Dev.realignFill
  split
  · exact if_neg (by rw [h.grpFollows halone]; decide)
  · rfl

/-- In RUN a plain port sends from its transmit queue. -/
theorem Dev.Ready.portSend_run (htx : tx ≠ 0) (hrun : d.splStopped = false) (hstate : d.portState n = 3) (hneeds : d.asrcNeeds (2 * n + 2) = false)
    (hprime : (d.portOf n).txPrime = false) (halone : d.fbit R.P_CFG_GRP n = false) :
    e.portSend n f = if (d.portOf n).txFill = 0 then e.portUnderrun n f
      else (e.portFrameOut n ((d.portOf n).txHist.getD (if (d.portOf n).realign then 4 else (d.portOf n).txFill - 1) (0, [])).2).updPort n (fun p =>
        { p with txFill := if (d.portOf n).realign then 4 else (d.portOf n).txFill - 1, realign := false, txPrime := false }) := by
  have htx' : (e.portOf n).txMask ≠ 0 := h.txMask ▸ htx
  unfold Dev.portSend
  dsimp only
  rw [if_neg htx', h.splStopped, hrun, if_neg (by decide), h.calm.state, hstate, h.asrcNeeds, hneeds, h.txPrime, hprime, h.grpFollows halone,
    h.realignFill halone, h.txFill, h.txHist, h.realign]
  simp

end

end
end Sys2Proof.Machine

/-!
SUPPORT. TDM port frames: the obligation, from what a plain port receives and sends (R411 to R422).
-/
namespace Sys2Proof.Machine

section
variable {d e g : Dev} {s t : State} {n : Fin 3} {l : List Nat} {f : PortFrame} {tx rx : Nat}

/-- A plain port in RUN that sends its queue. -/
structure Dev.PlainRun (d : Dev) (n : Fin 3) (f : PortFrame) (tx rx : Nat) : Prop where
  start : d.PlainStart n f tx rx
  state : d.portState n = 3
  running : d.splStopped = false
  prime : (d.portOf n).txPrime = false

theorem Dev.Ready.portSend_plain (h : Dev.Ready (portTakeRegs n) n tx rx d e) (hd : d.PlainRun n f tx rx) :
    e.portSend n f = if (d.portOf n).txFill = 0 then e.portUnderrun n f
      else (e.portFrameOut n ((d.portOf n).txHist.getD (if (d.portOf n).realign then 4 else (d.portOf n).txFill - 1) (0, [])).2).updPort n (fun p =>
        { p with txFill := if (d.portOf n).realign then 4 else (d.portOf n).txFill - 1, realign := false, txPrime := false }) :=
  h.portSend_run hd.start.port.mask hd.running hd.state hd.start.port.needs hd.prime hd.start.port.alone

/-- The words of a frame of a plain port in RUN. -/
theorem Dev.Ready.words_run (h : Dev.Ready l n tx rx d e) (hport : d.PlainPort n tx) (hstate : d.portState n = 3) (x y : List Int) :
    e.dataOut n (e.wordOf n x) (e.wordOf n y) = d.slotWords n tx rx x y := by
  rw [h.wordOf_run hport.master hstate hport.held hport.fall, h.wordOf_run hport.master hstate hport.held hport.fall, h.dataOut hport.master, Dev.slotWords]

/-! ### Sending -/

/-- In START before the ramp, zeros on the wire. -/
theorem Dev.PlainStart.runs_start (h : s.dev.PlainStart n f tx rx) (hstate : s.dev.portState n = 2) (hramp : (s.dev.portOf n).ramp = 0)
    (hshift : (s.dev.portOf n).shift = 0) (hrun : s.dev.splStopped = false) :
    Runs (.portFrameStart n f) s (fun t => (t.dev.portOf n).dout = s.dev.slotWords n tx rx [] []) := by
  refine h.runs (.inl hstate) (fun e he _ t _ ⟨r, hr⟩ => ?_)
  rw [hr, he.portSend_start h.port.mask hrun hstate hramp, Dev.portPut_port]
  have hunshifted : ((s.dev.masked n tx rx).portOf n).shift = 0 := by rw [Dev.masked_port]; exact hshift
  calc e.dataOut n (e.wordOf n []) (e.wordOf n (s.dev.portOf n).sent)
      = (s.dev.masked n tx rx).dataOut n (e.wordOf n []) (e.wordOf n (s.dev.portOf n).sent) := he.dataOut h.port.master _ _
    _ = (s.dev.masked n tx rx).dataOut n (e.wordOf n []) (s.dev.slotWord n tx rx []) := Dev.dataOut_unshifted hunshifted _ _ _
    _ = s.dev.slotWords n tx rx [] [] := by rw [he.wordOf_empty, Dev.slotWords]

/-- While SYS stands still what arrives is discarded. -/
theorem Dev.portReceive_stopped (hstop : d.splStopped = true) : ((d.portReceive n f).portOf n).rxQueue = (d.portOf n).rxQueue := by
  unfold Dev.portReceive
  dsimp only
  split
  · rfl
  · rw [Dev.portOf_updPort, if_pos rfl]

theorem Dev.PlainStart.begun_stopped (h : d.PlainStart n f tx rx) : (d.frameBegun n f).splStopped = d.splStopped := by
  have hspl : R.CLK_STAT_SPL.at 0 ∉ portCheckRegs := by decide
  rw [Dev.splStopped, h.begun.calm.within.fget (.inr hspl), Dev.splStopped]

/-- The receive queue of a plain port as its frame begins. -/
theorem Dev.PlainStart.begun_rxQueue (h : d.PlainStart n f tx rx) : ((d.frameBegun n f).portOf n).rxQueue = (d.portOf n).rxQueue := by
  obtain ⟨hport, htx, hrx, hripe⟩ := h
  subst htx hrx
  obtain ⟨-, k, hk⟩ := hport.begun hripe
  rw [hk]
  rfl

/-- While SYS stands still the last frame falls, and the queues stand. -/
theorem Dev.PlainStart.runs_stopped (h : s.dev.PlainStart n f tx rx) (hstate : s.dev.portState n = 3) (hstop : s.dev.splStopped = true) :
    Runs (.portFrameStart n f) s (fun t => (t.dev.portOf n).dout = s.dev.slotWords n tx rx
        ((s.dev.portOf n).sent.map (fun x => fallen 48 (s.dev.stoppedFrames + 1) x)) ((s.dev.portOf n).sent.map (fun x => fallen 48 s.dev.stoppedFrames x)) ∧
      (t.dev.portOf n).txFill = (s.dev.portOf n).txFill ∧ (t.dev.portOf n).rxQueue = (s.dev.portOf n).rxQueue) := by
  refine h.runs (.inr hstate) (fun e he heq t _ ⟨r, hr⟩ => ?_)
  rw [hr, he.portSend_stopped h.port.mask hstop, Dev.portPut_port]
  refine ⟨he.words_run h.port hstate _ _, he.txFill, ?_⟩
  rw [heq]
  exact (Dev.portReceive_stopped (h.begun_stopped.trans hstop)).trans h.begun_rxQueue

/-- A frame from the queue, or the one that a realignment names. -/
theorem Dev.PlainRun.runs_send (h : s.dev.PlainRun n f tx rx) (hfill : (s.dev.portOf n).txFill ≠ 0) {k : Nat}
    (hk : (if (s.dev.portOf n).realign then 4 else (s.dev.portOf n).txFill - 1) = k) :
    Runs (.portFrameStart n f) s (fun t => (t.dev.portOf n).txFill = k ∧ (t.dev.portOf n).realign = false ∧
      (t.dev.portOf n).dout = s.dev.slotWords n tx rx ((s.dev.portOf n).txHist.getD k (0, [])).2 (s.dev.portOf n).sent) := by
  refine h.start.runs (.inr h.state) (fun e he _ t _ ⟨r, hr⟩ => ?_)
  rw [hr, he.portSend_plain h, if_neg hfill, hk, Dev.portOf_updPort, if_pos rfl, Dev.portFrameOut_port]
  refine ⟨rfl, rfl, ?_⟩
  show e.dataOut n (e.wordOf n _) (e.wordOf n (e.portOf n).sent) = _
  rw [he.words_run h.start.port h.state, he.sent]

/-! ### Underrun -/

/-- The registers that change up to the count of an underrun. -/
def portEmptyRegs (n : Nat) : List Nat := portTakeRegs n ++ [R.P_UNDERRUN.at n]

/-- The block once the underrun of port `n` is counted and flagged. -/
def Dev.emptied (d : Dev) (n : Nat) : Dev := d.bumpEvt R.P_UNDERRUN_COUNT R.P_EVT_UNDERRUN n

theorem Dev.Ready.emptied (h : Dev.Ready (portTakeRegs n) n tx rx d e) : Dev.Ready (portEmptyRegs n) n tx rx d (e.emptied n) := by
  have hwide : Dev.Ready (portEmptyRegs n) n tx rx d e := ⟨h.calm.mono (fun _ hi => List.mem_append_left _ hi), h.port⟩
  refine hwide.bumpEvt ⟨List.mem_append_right _ ?_, by decide, rfl, by decide⟩ ⟨List.mem_append_left _ pEvt_mem_take, by decide, rfl⟩
  simp [Fld.at, R.P_UNDERRUN_COUNT, R.P_UNDERRUN]

/-- A count on the way, next to its event. -/
theorem Dev.Within.reg_bumpEvt {c v : Fld} {k : Nat} (hw : Dev.Within l d e) (hc : c.at k ∉ l) (hne : c.at k ≠ v.at k) :
    (e.bumpEvt c v k).reg (c.at k) = putBits (d.reg (c.at k)) c.hi c.lo (min (d.fget c k + 1) (2 ^ (c.hi + 1 - c.lo) - 1)) := by
  rw [Dev.bumpEvt, Dev.reg_event, if_neg hne, hw.reg_bump hc]

/-- The registers from `d` to `e` stand but for those of `l`, and count one in `c` with the event `v`. -/
theorem Dev.Within.counted_bumpEvt {c v : Fld} {k : Nat} (hw : Dev.Within l s.dev e) (hc : c.at k ∉ l) (hne : c.at k ≠ v.at k)
    (ht : t.dev.reg (c.at k) = (e.bumpEvt c v k).reg (c.at k)) : Counted s t c k :=
  ht.trans (hw.reg_bumpEvt hc hne)

theorem underrun_apart (n : Fin 3) : R.P_UNDERRUN_COUNT.at n ≠ R.P_EVT_UNDERRUN.at n ∧ R.P_UNDERRUN_COUNT.at n ∉ [R.P_STAT.at n, R.P_SLIPS.at n, R.P_EVT.at n] := by
  revert n
  decide

/-- Outside legacy mode an underrun sends zeros and asks for the fill to be restored. -/
theorem Dev.portUnderrun_plain (hlegacy : e.fbit R.P_CFG_LEGACY n = false) :
    e.portUnderrun n f = ((e.emptied n).portFrameOut n []).updPort n (fun p => { p with realign := true }) := by
  have hlegacy' : (e.bumpEvt R.P_UNDERRUN_COUNT R.P_EVT_UNDERRUN n).fbit R.P_CFG_LEGACY n = false := by
    rw [← hlegacy]
    exact Dev.Sending.counted.within.fbit (.inl rfl)
  unfold Dev.portUnderrun
  dsimp only
  rw [hlegacy', if_neg (by decide), Dev.emptied]

theorem Dev.updPort_regs (u : PortSt → PortSt) (k : Nat) : (d.updPort k u).regs = d.regs := rfl

/-- Sending zeros and asking for the fill changes no register. -/
theorem Dev.aligned_regs : ((d.portFrameOut n []).updPort n (fun p => { p with realign := true })).regs = d.regs := by
  rw [Dev.updPort_regs, Dev.portFrameOut, Dev.updPort_regs, Dev.portPut, Dev.updPort_regs]

theorem Dev.PlainRun.runs_underrun (h : s.dev.PlainRun n f tx rx) (hlegacy : s.dev.fbit R.P_CFG_LEGACY n = false) (hfill : (s.dev.portOf n).txFill = 0) :
    Runs (.portFrameStart n f) s (fun t => Counted s t R.P_UNDERRUN_COUNT n ∧ (t.dev.portOf n).realign = true ∧
      (t.dev.portOf n).dout = s.dev.slotWords n tx rx [] (s.dev.portOf n).sent ∧ bitAt (t.reg (R.P_EVT.at n)).toNat 2 = true) := by
  refine h.start.runs (.inr h.state) (fun e he _ t hregs ⟨r, hr⟩ => ?_)
  have hsend : e.portSend n f = ((e.emptied n).portFrameOut n []).updPort n (fun p => { p with realign := true }) := by
    rw [he.portSend_plain h, if_pos hfill, Dev.portUnderrun_plain ((he.bit _ rfl).trans hlegacy)]
  have hreg (i : Nat) : t.reg i = (e.emptied n).reg i := Dev.reg_of_regs (hregs.trans (by rw [hsend, Dev.aligned_regs]))
  rw [hr, hsend, Dev.portOf_updPort, if_pos rfl, Dev.portFrameOut_port]
  refine ⟨he.calm.within.counted_bumpEvt (c := R.P_UNDERRUN_COUNT) (v := R.P_EVT_UNDERRUN) (portTakeRegs_apart n).2.2.2 (underrun_apart n).1
    (hreg (R.P_UNDERRUN_COUNT.at n)), rfl, ?_, ?_⟩
  · show (e.emptied n).dataOut n ((e.emptied n).wordOf n []) ((e.emptied n).wordOf n ((e.emptied n).portOf n).sent) = _
    rw [he.emptied.words_run h.start.port h.state, he.emptied.sent]
  · have hevent : (e.emptied n).reg (R.P_EVT_UNDERRUN.at n) = (e.bump R.P_UNDERRUN_COUNT n).reg (R.P_EVT_UNDERRUN.at n) ||| BitVec.ofNat 16 (2 ^ 2) :=
      (Dev.reg_event ..).trans (if_pos rfl)
    rw [show R.P_EVT.at n = R.P_EVT_UNDERRUN.at n from rfl, hreg, hevent]
    exact bitAt_or_pow (by decide)

/-! ### The legacy slip -/

/-- The words that the host did not write in time are sent as zeros. -/
def slipped (sent : List Nat) (left : Nat) (dout : List (Option Nat)) : List (Option Nat) :=
  dout.zipIdx.map (fun w => if sent.length ≤ (sent.idxOf? w.2).getD 0 + left then w.1.map (fun _ => 0) else w.1)

/-- The block before a legacy slip of `left` words is marked: its port shifted by them. -/
def Dev.shifted (d : Dev) (n : Nat) (late : List Int) (sent : List Nat) (left : Nat) : Dev :=
  ((d.portFrameOut n late).updPort n (fun p => { p with dout := slipped sent left p.dout })).updPort n (fun p =>
    { p with shift := (p.shift + left) % max 1 sent.length })

theorem Dev.shifted_regs (late : List Int) (sent : List Nat) (left : Nat) : (d.shifted n late sent left).regs = d.regs := by
  rw [Dev.shifted, Dev.updPort_regs, Dev.updPort_regs, Dev.portFrameOut, Dev.updPort_regs, Dev.portPut, Dev.updPort_regs]

theorem Dev.shifted_port (late : List Int) (sent : List Nat) (left k : Nat) : (d.shifted k late sent left).portOf k = { d.portOf k with
    dout := slipped sent left (d.dataOut k (d.wordOf k late) (d.wordOf k (d.portOf k).sent)), sent := late, shift := ((d.portOf k).shift + left) % max 1 sent.length } := by
  rw [Dev.shifted, Dev.portOf_updPort, if_pos rfl, Dev.portOf_updPort, if_pos rfl, Dev.portFrameOut_port]

/-- In legacy mode the words left unsent shift those that follow. -/
theorem Dev.portUnderrun_legacy {sent : List Nat} (hlegacy : e.fbit R.P_CFG_LEGACY n = true) (hsent : (e.emptied n).sentSlots n = sent)
    (hleft : f.unsent ≠ 0) (hshort : f.unsent < sent.length) :
    e.portUnderrun n f = ((((e.emptied n).shifted n f.late sent f.unsent).fputB R.P_STAT_SLIPPED n true).bump R.P_SLIPS_COUNT n).event R.P_EVT_SLIP n := by
  have hlegacy' : (e.bumpEvt R.P_UNDERRUN_COUNT R.P_EVT_UNDERRUN n).fbit R.P_CFG_LEGACY n = true := by
    rw [← hlegacy]
    exact Dev.Sending.counted.within.fbit (.inl rfl)
  rw [Dev.emptied] at hsent
  unfold Dev.portUnderrun
  dsimp only
  rw [hlegacy', if_pos rfl, hsent, Nat.min_eq_left hshort.le, if_neg hleft, Dev.shifted, Dev.emptied]
  simp only [decide_eq_true_eq]
  rfl

theorem slips_apart (n : Fin 3) : R.P_SLIPS_COUNT.at n ≠ R.P_EVT_SLIP.at n ∧ R.P_SLIPS_COUNT.at n ∉ R.P_STAT.at n :: portEmptyRegs n ∧
    R.P_STAT_SLIPPED.at n ≠ R.P_EVT_SLIP.at n ∧ R.P_STAT_SLIPPED.at n ≠ R.P_SLIPS_COUNT.at n := by
  revert n
  decide

/-- The registers behind a slip: the mark, its count and its event, whatever has changed among `portEmptyRegs` before. -/
theorem Dev.Within.slip (hw : Dev.Within (portEmptyRegs n) d e) :
    let t := ((e.fputB R.P_STAT_SLIPPED n true).bump R.P_SLIPS_COUNT n).event R.P_EVT_SLIP n
    t.fget R.P_STAT_SLIPPED n = 1 ∧ bitAt (t.reg (R.P_EVT.at n)).toNat 4 = true ∧
    t.reg (R.P_SLIPS_COUNT.at n) = putBits (d.reg (R.P_SLIPS_COUNT.at n)) R.P_SLIPS_COUNT.hi R.P_SLIPS_COUNT.lo
      (min (d.fget R.P_SLIPS_COUNT n + 1) (2 ^ (R.P_SLIPS_COUNT.hi + 1 - R.P_SLIPS_COUNT.lo) - 1)) := by
  obtain ⟨hcount, hbefore, hevt, hslips⟩ := slips_apart n
  refine ⟨?_, ?_, ?_⟩
  · rw [Dev.fget_imm rfl, Dev.reg_event, if_neg hevt, Dev.bump, Dev.bumpBy, Dev.reg_fput, if_neg hslips, ← Dev.fget_imm rfl]
    exact Dev.fget_fput _ _ _ _ (by decide) (by decide) rfl
  · rw [show R.P_EVT.at n = R.P_EVT_SLIP.at n from rfl, Dev.reg_event, if_pos rfl]
    exact bitAt_or_pow (by decide)
  · have hmarked : Dev.Within (R.P_STAT.at n :: portEmptyRegs n) d (e.fputB R.P_STAT_SLIPPED n true) :=
      (hw.mono (fun _ hi => List.mem_cons_of_mem _ hi)).fput List.mem_cons_self
    exact hmarked.reg_bumpEvt hbefore hcount

theorem Dev.PlainRun.runs_slip (h : s.dev.PlainRun n f tx rx) {sent : List Nat} (hsent : (s.dev.masked n tx rx).sentSlots n = sent)
    (hlegacy : s.dev.fbit R.P_CFG_LEGACY n = true) (hfill : (s.dev.portOf n).txFill = 0) (hleft : f.unsent ≠ 0) (hshort : f.unsent < sent.length) :
    Runs (.portFrameStart n f) s (fun t => (t.dev.portOf n).shift = ((s.dev.portOf n).shift + f.unsent) % max 1 sent.length ∧
      t.dev.fget R.P_STAT_SLIPPED n = 1 ∧ (t.dev.portOf n).dout = slipped sent f.unsent (s.dev.slotWords n tx rx f.late (s.dev.portOf n).sent) ∧
      Counted s t R.P_SLIPS_COUNT n ∧ Counted s t R.P_UNDERRUN_COUNT n ∧ bitAt (t.reg (R.P_EVT.at n)).toNat 4 = true) := by
  refine h.start.runs (.inr h.state) (fun e he _ t hregs ⟨r, hr⟩ => ?_)
  have hempty := he.emptied
  have hsend : e.portSend n f =
      ((((e.emptied n).shifted n f.late sent f.unsent).fputB R.P_STAT_SLIPPED n true).bump R.P_SLIPS_COUNT n).event R.P_EVT_SLIP n := by
    rw [he.portSend_plain h, if_pos hfill]
    exact Dev.portUnderrun_legacy ((he.bit _ rfl).trans hlegacy) ((hempty.sentSlots h.start.port.master).trans hsent) hleft hshort
  have hport : t.dev.portOf n = { ((e.emptied n).shifted n f.late sent f.unsent).portOf n with ramp := r } := by
    rw [hr, hsend]
    simp [Dev.portOf, Dev.event, Dev.bump, Dev.bumpBy, Dev.fputB]
  rw [hsend] at hregs
  have hreg (i : Nat) : t.reg i = _ := Dev.reg_of_regs (i := i) hregs
  have hfget (u : Fld) : t.dev.fget u n = _ := Dev.fget_of_regs (f := u) (n := n) hregs
  obtain ⟨hmark, hevent, hcount⟩ := (hempty.calm.within.beside (Dev.shifted_regs (n := n) f.late sent f.unsent)).slip
  rw [hport, Dev.shifted_port, hreg, hfget]
  refine ⟨by rw [hempty.shift], hmark, ?_, (hreg (R.P_SLIPS_COUNT.at n)).trans hcount, ?_, hevent⟩
  · show slipped _ _ _ = slipped _ _ _
    rw [hempty.words_run h.start.port h.state, hempty.sent]
  · have hslip : Dev.Within [R.P_STAT.at n, R.P_SLIPS.at n, R.P_EVT.at n] (e.emptied n)
        (((((e.emptied n).shifted n f.late sent f.unsent).fputB R.P_STAT_SLIPPED n true).bump R.P_SLIPS_COUNT n).event R.P_EVT_SLIP n) :=
      (((Dev.Within.of_regs (Dev.shifted_regs f.late sent f.unsent)).fput (by simp [Fld.at, R.P_STAT_SLIPPED, R.P_STAT])).bump (by simp [Fld.at, R.P_SLIPS_COUNT, R.P_SLIPS])).event
        (by simp [Fld.at, R.P_EVT_SLIP, R.P_EVT])
    have hcounted : t.dev.reg (R.P_UNDERRUN_COUNT.at n) = (e.emptied n).reg (R.P_UNDERRUN_COUNT.at n) :=
      (hreg (R.P_UNDERRUN_COUNT.at n)).trans (hslip.reg _ (underrun_apart n).2)
    exact he.calm.within.counted_bumpEvt (c := R.P_UNDERRUN_COUNT) (v := R.P_EVT_UNDERRUN) (portTakeRegs_apart n).2.2.2 (underrun_apart n).1 hcounted

/-! ### Reception -/

/-- What the reception of a plain port in RUN that needs no ASRC does. -/
theorem Dev.PlainRun.portReceive (h : d.PlainRun n f tx rx) (hrx : rx ≠ 0) (hneeds : d.asrcNeeds (2 * n + 1) = false) :
    (d.frameBegun n f).portReceive n f = if 8 ≤ (d.portOf n).rxQueue.length then (d.frameBegun n f).portOverrun n
      else (d.frameBegun n f).updPort n (fun p => { p with rxQueue := p.rxQueue ++ [(d.masked n tx rx).frameIn n f.din] }) := by
  have hready := h.start.begun
  have hqueue := h.start.begun_rxQueue
  have hstopped := h.start.begun_stopped
  generalize d.frameBegun n f = e at *
  have hmask : (e.portOf n).rxMask = rx := by rw [hready.port]; rfl
  have hneeds' : e.asrcNeeds (2 * n + 1) = false := by
    refine (hready.calm.within.asrcNeeds (fun k hk => ?_) (by decide) _).trans hneeds
    exact (portTakeRegs_apart n).1 k (portCheckRegs_subset hk)
  have hmaster := h.start.port.master
  have hserved : (d.masked n tx rx).asrcServed (2 * n + 1) = true := by
    rw [Dev.asrcServed, show (d.masked n tx rx).asrcNeeds (2 * n + 1) = false from hneeds]
    rfl
  have hfits : ∀ j, (d.masked n tx rx).slotFits n j = true := fun j => by
    rw [Dev.slotFits, show (d.masked n tx rx).fbit R.P_CFG_MASTER n = true from hmaster, Bool.true_or]
  have hframe : e.frameIn n f.din = (d.masked n tx rx).frameIn n f.din := by
    simp only [Dev.frameIn, hready.slotCount, hready.slotWidth, hmask, Dev.slotFits, Dev.asrcServed, hneeds', hready.bit (u := R.P_CFG_MASTER) _ rfl, hmaster,
      hready.bit (u := R.P_CFG_JUST) _ rfl, Bool.true_or, Bool.not_false]
    simp only [Dev.masked_port, show (d.masked n tx rx).slotCount n = d.slotCount n from rfl, show (d.masked n tx rx).slotWidth n = d.slotWidth n from rfl,
      show (d.masked n tx rx).fbit R.P_CFG_JUST n = d.fbit R.P_CFG_JUST n from rfl, show (d.masked n tx rx).fbit R.P_CFG_MASTER n = true from hmaster,
      show (d.masked n tx rx).asrcNeeds (2 * n + 1) = false from hneeds, Bool.true_or, Bool.not_false]
  have hfollows : e.grpFollows n = false := by rw [Dev.grpFollows, hready.bit _ rfl, h.start.port.alone, Bool.false_and]
  have haligned (q : List (List Int)) : e.rxAligned n q = q := by
    unfold Dev.rxAligned
    split
    · rw [hfollows]
      rfl
    · rfl
  unfold Dev.portReceive
  dsimp only
  rw [if_neg (hmask ▸ hrx), hstopped, h.running, if_neg (by decide), hneeds', if_neg (by decide), hready.calm.state, h.state, if_neg (by decide), hqueue, hframe]
  simp only [haligned]

theorem Dev.PlainRun.runs_received (h : s.dev.PlainRun n f tx rx) (hrx : rx ≠ 0) (hneeds : s.dev.asrcNeeds (2 * n + 1) = false)
    (hspace : (s.dev.portOf n).rxQueue.length < 8) :
    Runs (.portFrameStart n f) s (fun t => (t.dev.portOf n).rxQueue = (s.dev.portOf n).rxQueue ++ [(s.dev.masked n tx rx).frameIn n f.din]) := by
  refine h.start.runs (.inr h.state) (fun e _ heq t _ ⟨r, hr⟩ => ?_)
  rw [hr]
  show ((e.portSend n f).portOf n).rxQueue = _
  rw [Dev.Sending.portSend.rxQueue, heq, h.portReceive hrx hneeds, if_neg (Nat.not_le.2 hspace), Dev.portOf_updPort, if_pos rfl]
  show ((s.dev.frameBegun n f).portOf n).rxQueue ++ _ = _
  rw [h.start.begun_rxQueue]

theorem overrun_apart (n : Fin 3) : R.P_OVERRUN_COUNT.at n ≠ R.P_EVT_OVERRUN.at n ∧ R.P_OVERRUN_COUNT.at n ∉ portCheckRegs ∧
    R.P_OVERRUN.at n ∉ portSendRegs n := by
  revert n
  decide

theorem Dev.PlainRun.runs_overrun (h : s.dev.PlainRun n f tx rx) (hrx : rx ≠ 0) (hneeds : s.dev.asrcNeeds (2 * n + 1) = false)
    (hfull : 8 ≤ (s.dev.portOf n).rxQueue.length) :
    Runs (.portFrameStart n f) s (fun t => (t.dev.portOf n).rxQueue = (s.dev.portOf n).rxQueue ∧ (t.dev.portOf n).gap = true ∧
      Counted s t R.P_OVERRUN_COUNT n) := by
  refine h.start.runs (.inr h.state) (fun e _ heq t hregs ⟨r, hr⟩ => ?_)
  rw [h.portReceive hrx hneeds, if_pos hfull] at heq
  have hsent := Dev.Sending.portSend (d := e) (m := n) (f := f)
  have hcount : t.reg (R.P_OVERRUN_COUNT.at n) = e.reg (R.P_OVERRUN_COUNT.at n) := (Dev.reg_of_regs hregs).trans (hsent.within.reg _ (overrun_apart n).2.2)
  rw [hr]
  refine ⟨hsent.rxQueue.trans ?_, hsent.gap.trans ?_, hcount.trans ?_⟩
  · rw [heq, Dev.portOverrun_port]
    exact h.start.begun_rxQueue
  · rw [heq, Dev.portOverrun_port]
  · rw [heq]
    exact h.start.begun.calm.within.reg_bumpEvt (overrun_apart n).2.1 (overrun_apart n).1

/-! ### Frame starts of ports that neither start nor run, and overruns -/

theorem exec_portFrameStart_unclocked (hclock : s.dev.audClocked = false) : exec (.portFrameStart n f) s = .next s := by
  show execPortFrameStart n f s = _
  simp only [execPortFrameStart, nextDev, hclock, Bool.not_false, if_true]

/-- A port that neither starts nor runs: what it sent last falls, and then it drives nothing. -/
def Dev.frameQuiet (d : Dev) (n : Nat) : Dev :=
  if (d.portOf n).fall ≠ 0 ∧ d.since ((d.portOf n).fall - 1) < msCycles 1 then d.portPut n (d.portOf n).sent (d.portOf n).sent
  else d.updPort n (fun p => { p with dout := [], sent := [], fall := 0 })

/-- The block behind PORT_OVERRUN. -/
def Dev.overrunAt (d : Dev) (n : Nat) : Dev := if d.portState n = 3 ∧ 8 ≤ (d.portOf n).rxQueue.length then d.portOverrun n else d

theorem exec_portFrameStart_quiet (hclock : s.dev.audClocked = true) (h2 : s.dev.portState n ≠ 2) (h3 : s.dev.portState n ≠ 3) :
    exec (.portFrameStart n f) s = .next { s with dev := s.dev.frameQuiet n } := by
  show execPortFrameStart n f s = _
  simp [execPortFrameStart, nextDev, hclock, h2, h3, Dev.frameQuiet]

theorem exec_portOverrun : exec (.portOverrun n) s = .next { s with dev := s.dev.overrunAt n } := by
  show execPortOverrun n s = _
  simp [execPortOverrun, nextDev, Dev.overrunAt]

end

/-- Settles O29: a frame start of a plain master port from the masks that come into force, the frame received and the frame sent; of every other port from the frame of its step. -/
theorem portFrames : Obligations.PortFrames := by
  unfold Obligations.PortFrames
  intro s n f p st mask rx d1 m ripe plain alone word words own
  have hstart (h : plain) : s.dev.PlainStart n f mask rx := by
    obtain ⟨hripe, hclock, hheld, hfall, hmaster, halone, hfollows, hmask, hneeds, hwait⟩ := h
    exact ⟨⟨hclock, hheld, hfall, hmaster, halone, hfollows, hmask, hneeds, fun k hk => hwait ⟨k, hk⟩⟩, rfl, rfl, Dev.maskRipe_measured hripe⟩
  have hrun (h : alone) : s.dev.PlainRun n f mask rx := by
    obtain ⟨hplain, hstate, hspl, hprime⟩ := h
    exact ⟨hstart hplain, hstate, hspl, hprime⟩
  refine ⟨fun hclock => runs_self_of_exec (exec_portFrameStart_unclocked hclock), fun hclock h2 h3 hdone => ?_, fun hclock h2 h3 hfall hshort => ?_,
    fun hripe hclock hstate => runs_portFrameStart_masks (Dev.maskRipe_measured hripe) hclock hstate,
    fun h h2 hramp hshift hspl => (hstart h).runs_start h2 hramp hshift hspl, fun h h3 hspl => (hstart h).runs_stopped h3 hspl,
    fun h hlegacy hfill => (hrun h).runs_underrun hlegacy hfill, fun h hlegacy hfill hleft hshort => (hrun h).runs_slip rfl hlegacy hfill hleft hshort,
    fun h hfill hrealign => ?_, fun h hfill hrealign => ?_, fun h hrx hneeds hspace => (hrun h).runs_received hrx hneeds hspace,
    fun h hrx hneeds hfull => (hrun h).runs_overrun hrx hneeds hfull, fun hstate hfull => ?_, fun hspace => ?_⟩
  · rw [runs_iff_of_exec (exec_portFrameStart_quiet hclock h2 h3)]
    dsimp only
    have hlong : ¬((s.dev.portOf n).fall ≠ 0 ∧ s.dev.since ((s.dev.portOf n).fall - 1) < msCycles 1) := by
      rintro ⟨hfall, hshort⟩
      obtain hnone | hlong := hdone
      · exact hfall hnone
      · exact absurd hshort (Nat.not_lt.2 hlong)
    rw [Dev.frameQuiet, if_neg hlong, Dev.portOf_updPort, if_pos rfl]
    exact ⟨rfl, (Dev.Within.of_regs rfl).only⟩
  · rw [runs_iff_of_exec (exec_portFrameStart_quiet hclock h2 h3)]
    dsimp only
    rw [Dev.frameQuiet, if_pos ⟨hfall, hshort⟩, Dev.portPut_port]
    exact ⟨rfl, rfl, (Dev.Within.of_regs rfl).only⟩
  · have hsend := (hrun h).runs_send (k := p.txFill - 1) (Nat.pos_iff_ne_zero.1 hfill) (if_neg (by rw [hrealign]; decide))
    obtain ⟨t, hexec, hfill', -, hdout⟩ := hsend
    exact ⟨t, hexec, hfill', hdout⟩
  · exact (hrun h).runs_send (Nat.pos_iff_ne_zero.1 hfill) (if_pos hrealign)
  · rw [runs_iff_of_exec exec_portOverrun]
    dsimp only
    rw [Dev.overrunAt, if_pos ⟨hstate, hfull⟩, Dev.portOverrun_port]
    have hwithin : Dev.Within [R.P_OVERRUN.at n, R.P_EVT.at n] s.dev (s.dev.portOverrun n) :=
      (Dev.Within.refl.bumpEvt (by simp [Fld.at, R.P_OVERRUN_COUNT, R.P_OVERRUN]) (by simp [Fld.at, R.P_EVT_OVERRUN, R.P_EVT])).beside rfl
    obtain ⟨hcounted, hraised⟩ := (Dev.Within.refl (l := []) (d := s.dev)).counted_raised (f := R.P_OVERRUN_COUNT) (h := R.P_EVT_OVERRUN) (n := n)
      List.not_mem_nil List.not_mem_nil (overrun_apart n).1
    exact ⟨hcounted, hraised, rfl, rfl, hwithin.only⟩
  · refine runs_self_of_exec (exec_portOverrun.trans ?_)
    rw [Dev.overrunAt, if_neg (by rintro ⟨-, hfull⟩; exact absurd hfull (Nat.not_le.2 hspace))]

end Sys2Proof.Machine

/-!
SUPPORT. Programme blocks: what the delivery of one programme leaves as it was (R20, R278, R280, R286, R319 to R322).
-/
namespace Sys2Proof.Machine

section
variable {d e g : Dev} {s : State} {n p q i j t : Nat} {α : Type}

/-! ### Everything but the programme -/

/-- The registers in which a block of programme `p` shows. -/
def blockRegs (p : Nat) : List Nat := [R.PGT_STAT.at p, R.PRG_EVT.at 0, R.BOOT_T_AUDIO.at 0]

/-- From `d` to `e` registers of programme `p` change; not the other programmes, the contexts, the grid, the compared ones or the baseline. -/
structure Dev.Beside (p : Nat) (d e : Dev) : Prop where
  within : Dev.Within (blockRegs p) d e
  other : ∀ q, q ≠ p → e.prgOf q = d.prgOf q
  ctx : e.ctx = d.ctx
  grid : e.grid = d.grid
  tadpole : e.boot.tadpole = d.boot.tadpole

theorem Dev.Beside.refl : Dev.Beside p d d := ⟨.refl, fun _ _ => rfl, rfl, rfl, rfl⟩

theorem Dev.Beside.trans (h₁ : Dev.Beside p d e) (h₂ : Dev.Beside p e g) : Dev.Beside p d g :=
  ⟨h₁.within.trans h₂.within, fun q hq => (h₂.other q hq).trans (h₁.other q hq), h₂.ctx.trans h₁.ctx, h₂.grid.trans h₁.grid, h₂.tadpole.trans h₁.tadpole⟩

/-- A change that keeps the registers, every programme, the contexts, the grid and the boot. -/
theorem Dev.Beside.of_parts (hregs : e.regs = d.regs) (hprg : e.prg = d.prg) (hctx : e.ctx = d.ctx) (hgrid : e.grid = d.grid)
    (htadpole : e.boot.tadpole = d.boot.tadpole) : Dev.Beside p d e :=
  ⟨.of_regs hregs, fun q _ => by rw [Dev.prgOf, hprg, Dev.prgOf], hctx, hgrid, htadpole⟩

theorem Dev.Beside.updPrg (f : PrgSt → PrgSt) : Dev.Beside p d (d.updPrg p f) :=
  ⟨.of_regs rfl, fun q hq => by rw [Dev.prgOf_updPrg, if_neg hq], rfl, rfl, rfl⟩

theorem Dev.Beside.fput {f : Fld} {k v : Nat} (hf : f.at k ∈ blockRegs p) : Dev.Beside p d (d.fput f k v) := ⟨Dev.within_fput hf, fun _ _ => rfl, rfl, rfl, rfl⟩

theorem Dev.Beside.prgFlag (k : Nat) : Dev.Beside p d (d.prgFlag p k) := by
  have hset (e : Dev) : Dev.Beside p e (e.setEvtBits R.PRG_EVT.base (2 ^ k)) :=
    ⟨Dev.within_setEvtBits (by simp [blockRegs, Fld.at]), fun q _ => by simp [Dev.prgOf], by simp, by simp, by simp⟩
  exact (Dev.Beside.updPrg _).trans (hset _)

/-! ### Filters -/

/-- The filters change their memories alone. -/
theorem Dev.filter2_eq (d : Dev) (key stage param k : Nat) (z : List (Int × Int)) :
    (d.filter2 key stage param k z).2 = { d with filt := (d.filter2 key stage param k z).2.filt } := rfl

/-- From `d` to `e` the memories of filters change alone. -/
def Dev.Filters (d e : Dev) : Prop := e = { d with filt := e.filt }

theorem Dev.Filters.refl : Dev.Filters d d := rfl

theorem Dev.Filters.trans (h₁ : Dev.Filters d e) (h₂ : Dev.Filters e g) : Dev.Filters d g := by
  rw [Dev.Filters] at *
  rw [h₂, h₁]

theorem Dev.Filters.filter2 (key stage param k : Nat) (z : List (Int × Int)) : Dev.Filters d (d.filter2 key stage param k z).2 := Dev.filter2_eq d key stage param k z

/-- What does not look at the filters keeps its value. -/
theorem Dev.Filters.keeps (h : Dev.Filters d e) (f : Dev → α) (hf : ∀ (d : Dev) m, f { d with filt := m } = f d) : f e = f d := by
  rw [h, hf]

theorem Dev.Filters.regs (h : Dev.Filters d e) : e.regs = d.regs := h.keeps (·.regs) (fun _ _ => rfl)
theorem Dev.Filters.prg (h : Dev.Filters d e) : e.prg = d.prg := h.keeps (·.prg) (fun _ _ => rfl)
theorem Dev.Filters.ctx (h : Dev.Filters d e) : e.ctx = d.ctx := h.keeps (·.ctx) (fun _ _ => rfl)
theorem Dev.Filters.grid (h : Dev.Filters d e) : e.grid = d.grid := h.keeps (·.grid) (fun _ _ => rfl)
theorem Dev.Filters.boot (h : Dev.Filters d e) : e.boot = d.boot := h.keeps (·.boot) (fun _ _ => rfl)

theorem Dev.Filters.prgOf (h : Dev.Filters d e) (q : Nat) : e.prgOf q = d.prgOf q := by rw [Dev.prgOf, h.prg, Dev.prgOf]

theorem Dev.Filters.beside (h : Dev.Filters d e) : Dev.Beside p d e := .of_parts h.regs h.prg h.ctx h.grid (by rw [h.boot])

/-- What a programme plays comes from its sources, through filters. -/
theorem Dev.Filters.prgPlay : Dev.Filters d (d.prgPlay p t).2 := by
  unfold Dev.prgPlay
  dsimp only
  split
  · split
    · exact .refl
    · split
      · exact .refl
      · split
        · exact .filter2 (k := 48) ..
        · exact .refl
  · exact .refl

theorem Dev.Filters.retBlock (k : Nat) : Dev.Filters d (d.retBlock t k).2 := by
  unfold Dev.retBlock
  dsimp only
  split
  · exact .filter2 ..
  · exact .refl

theorem Dev.Filters.retBlocks : ∀ (l : List Nat) (d : Dev), Dev.Filters d (Dev.retBlocks t l d).2
  | [], _ => .refl
  | k :: l, d => (Dev.Filters.retBlock (d := d) (t := t) k).trans (Dev.Filters.retBlocks l (d.retBlock t k).2)

/-! ### Sources -/

/-- From `d` to `e` sources of programme `p` change, and no register. -/
structure Dev.Intake (p : Nat) (d e : Dev) : Prop where
  regs : e.regs = d.regs
  beside : Dev.Beside p d e
  prg : e.prgOf p = { d.prgOf p with srcs := (e.prgOf p).srcs }

theorem Dev.Intake.refl : Dev.Intake p d d := ⟨rfl, .refl, rfl⟩

theorem Dev.Intake.trans (h₁ : Dev.Intake p d e) (h₂ : Dev.Intake p e g) : Dev.Intake p d g :=
  ⟨h₂.regs.trans h₁.regs, h₁.beside.trans h₂.beside, by rw [h₂.prg, h₁.prg]⟩

theorem Dev.Filters.intake (h : Dev.Filters d e) : Dev.Intake p d e := ⟨h.regs, h.beside, by rw [h.prgOf]⟩

/-- From `d` to `e` source `i` of programme `p` changes alone. -/
structure Dev.SrcStep (p i : Nat) (d e : Dev) : Prop extends Dev.Intake p d e where
  rest : ∀ j, j ≠ i → e.srcOf p j = d.srcOf p j

theorem Dev.SrcStep.refl : Dev.SrcStep p i d d := ⟨.refl, fun _ _ => rfl⟩

theorem Dev.SrcStep.trans (h₁ : Dev.SrcStep p i d e) (h₂ : Dev.SrcStep p i e g) : Dev.SrcStep p i d g :=
  ⟨h₁.toIntake.trans h₂.toIntake, fun j hj => (h₂.rest j hj).trans (h₁.rest j hj)⟩

theorem Dev.srcOf_updSrc (f : SrcSt → SrcSt) : (d.updSrc p i f).srcOf p j = if j = i then f (d.srcOf p i) else d.srcOf p j := by
  rw [Dev.srcOf, Dev.updSrc, Dev.prgOf_updPrg, if_pos rfl]
  exact smGet_smSet

theorem Dev.SrcStep.updSrc (f : SrcSt → SrcSt) : Dev.SrcStep p i d (d.updSrc p i f) :=
  ⟨⟨rfl, .updPrg _, by rw [Dev.updSrc, Dev.prgOf_updPrg, if_pos rfl]⟩, fun j hj => by rw [Dev.srcOf_updSrc, if_neg hj]⟩

theorem Dev.Filters.srcOf (h : Dev.Filters d e) : e.srcOf p i = d.srcOf p i := by rw [Dev.srcOf, h.prgOf, Dev.srcOf]

theorem Dev.Filters.srcStep (h : Dev.Filters d e) : Dev.SrcStep p i d e := ⟨h.intake, fun _ _ => h.srcOf⟩

theorem Dev.SrcStep.each {f : Dev → α → Dev} (hf : ∀ d a, Dev.SrcStep p i d (f d a)) (l : List α) (d : Dev) : Dev.SrcStep p i d (d.each l f) := by
  induction l generalizing d with
  | nil => exact .refl
  | cons a l ih => exact (hf d a).trans (ih (f d a))

theorem Dev.SrcStep.srcTake (b : Blk) : Dev.SrcStep p i d (d.srcTake p i b) := by
  unfold Dev.srcTake
  dsimp only
  refine Dev.SrcStep.trans ?_ (.updSrc _)
  split
  · exact .refl
  · exact (Dev.Filters.filter2 ..).srcStep

theorem Dev.SrcStep.srcFill : ∀ (k : Nat) (d : Dev), Dev.SrcStep p i d (Dev.srcFill p i t k d)
  | 0, _ => .refl
  | k + 1, d => by
    rw [Dev.srcFill]
    split
    · split
      · exact (Dev.SrcStep.srcTake _).trans (.srcFill k _)
      · exact .refl
    · exact .refl

theorem Dev.SrcStep.srcIntake (rets : List (Nat × Blk)) : Dev.SrcStep p i d (d.srcIntake p i t rets) := by
  unfold Dev.srcIntake
  exact ((Dev.SrcStep.each (fun _ _ => .srcTake _) _ d).trans (.srcFill 8 _)).trans (.updSrc _)

/-- Sources that are taken one after the other. -/
theorem Dev.Intake.sources (rets : List (Nat × Blk)) (l : List Nat) (d : Dev) : Dev.Intake p d (d.each l (fun d i => d.srcIntake p i t rets)) := by
  induction l generalizing d with
  | nil => exact .refl
  | cons a l ih => exact (Dev.SrcStep.srcIntake rets).toIntake.trans (ih _)

/-! ### The meters, and what follows them -/

/-- The block after the meters of programme `p` have taken samples through the filters `kw` and `os`. -/
def Dev.metered (d : Dev) (p : Nat) (pcm kw os : List (Int × Int)) : Dev :=
  d.updPrg p (fun g => { g with
    sil := g.sil.step (d.fget R.PRG_SIL_TH) (d.fget R.PRG_SIL_TIME) (peakOfBlock pcm), meter := g.meter.add kw, tp := max g.tp (peakOfBlock os) })

/-- SILENT follows the silence detector. -/
def Dev.silentShown (d : Dev) (p : Nat) (was : Bool) : Dev :=
  if was = (d.prgOf p).sil.silent then d else (d.fputB R.PGT_STAT_SILENT p (d.prgOf p).sil.silent).prgFlag p 3

/-- The meters of programme `p` take a block. -/
theorem Dev.prgMeters_eq (miss : Bool) (pcm : List (Int × Int)) : ∃ e os kw, Dev.Filters d e ∧ (miss = true → kw = []) ∧
    d.prgMeters p miss pcm = (e.metered p pcm kw os).silentShown p (d.prgOf p).sil.silent := by
  cases miss
  · have hf := (Dev.Filters.filter2 (d := d) (prgKey p 0) 30 0 48 pcm).trans (.filter2 (prgKey p 18) 31 0 192 pcm)
    refine ⟨_, ((d.filter2 (prgKey p 0) 30 0 48 pcm).2.filter2 (prgKey p 18) 31 0 192 pcm).1, (d.filter2 (prgKey p 0) 30 0 48 pcm).1, hf,
      fun h => by simp at h, ?_⟩
    rw [← hf.prgOf p]
    rfl
  · have hf := Dev.Filters.filter2 (d := d) (prgKey p 18) 31 0 192 pcm
    refine ⟨_, (d.filter2 (prgKey p 18) 31 0 192 pcm).1, [], hf, fun _ => rfl, ?_⟩
    rw [← hf.prgOf p]
    rfl

/-- From `d` to `e` a block of programme `p` is noted: what has been put out and metered stands, and SILENT. -/
structure Dev.Noted (p : Nat) (d e : Dev) : Prop where
  beside : Dev.Beside p d e
  prg : e.prgOf p = { d.prgOf p with flags := (e.prgOf p).flags, envO := (e.prgOf p).envO, envR := (e.prgOf p).envR, refLost := (e.prgOf p).refLost }
  silent : e.fbit R.PGT_STAT_SILENT p = d.fbit R.PGT_STAT_SILENT p

theorem Dev.Noted.refl : Dev.Noted p d d := ⟨.refl, rfl, rfl⟩

theorem Dev.Noted.trans (h₁ : Dev.Noted p d e) (h₂ : Dev.Noted p e g) : Dev.Noted p d g :=
  ⟨h₁.beside.trans h₂.beside, by rw [h₂.prg, h₁.prg], h₂.silent.trans h₁.silent⟩

theorem Dev.Noted.ite {c : Prop} [Decidable c] {e₁ e₂ : Dev} (h₁ : Dev.Noted p d e₁) (h₂ : Dev.Noted p d e₂) : Dev.Noted p d (if c then e₁ else e₂) := by
  split
  · exact h₁
  · exact h₂

/-- A change beside the registers, the programmes, the contexts, the grid and the boot. -/
theorem Dev.Noted.of_parts (hregs : e.regs = d.regs) (hprg : e.prg = d.prg) (hctx : e.ctx = d.ctx) (hgrid : e.grid = d.grid)
    (htadpole : e.boot.tadpole = d.boot.tadpole) : Dev.Noted p d e := by
  refine ⟨.of_parts hregs hprg hctx hgrid htadpole, ?_, ?_⟩
  · rw [Dev.prgOf, hprg, Dev.prgOf]
  · rw [Dev.fbit, Dev.fget_of_regs hregs, Dev.fbit]

theorem Dev.Noted.prgFlag (k : Nat) : Dev.Noted p d (d.prgFlag p k) where
  beside := .prgFlag k
  prg := by
    have hprg : (d.prgFlag p k).prg = (d.updPrg p (fun g => { g with flags := g.flags ||| 2 ^ k })).prg := by simp only [Dev.prgFlag, Dev.setEvtBits_parts]
    simp [Dev.prgOf, hprg]
  silent := by
    have hset : (d.prgFlag p k).fget R.PGT_STAT_SILENT p = d.fget R.PGT_STAT_SILENT p := Dev.fget_setEvtBits_other (.inr (pgtStat_apart (by decide)))
    rw [Dev.fbit, hset, Dev.fbit]

theorem Dev.Noted.lossNote (miss : Bool) : Dev.Noted p d (d.lossNote p miss) := by
  unfold Dev.lossNote
  exact .ite .refl (.of_parts rfl rfl rfl rfl rfl)

theorem Dev.Noted.stereo (b : Bool) : Dev.Noted p d (d.fputB R.PGT_STAT_STEREO p b) where
  beside := .fput (by simp [blockRegs, Fld.at, R.PGT_STAT_STEREO, R.PGT_STAT])
  prg := rfl
  silent := by
    have hset : (d.fputB R.PGT_STAT_STEREO p b).fget R.PGT_STAT_SILENT p = d.fget R.PGT_STAT_SILENT p := Dev.fget_fput_apart _ _ (by decide) (.inr (by decide))
    rw [Dev.fbit, hset, Dev.fbit]

theorem Dev.Noted.prgStereo : Dev.Noted p d (d.prgStereo p) := by
  unfold Dev.prgStereo
  dsimp only
  exact .ite .refl ((Dev.Noted.stereo _).trans (.prgFlag 6))

theorem Dev.Noted.prgEnv (pcm : List (Int × Int)) : Dev.Noted p d (d.prgEnv p pcm) := by
  unfold Dev.prgEnv
  exact ⟨.updPrg _, by rw [Dev.prgOf_updPrg_same], rfl⟩

theorem Dev.Noted.pcmFlush (k : Nat) : Dev.Noted p d (d.pcmFlush k) := by
  unfold Dev.pcmFlush
  dsimp only
  refine .ite .refl ?_
  rw [Dev.formPacket_eq]
  exact .of_parts rfl rfl rfl rfl rfl

theorem Dev.Noted.pcmBlock (k : Nat) (b : Blk) (info : List Nat) : Dev.Noted p d (d.pcmBlock k b info) := by
  unfold Dev.pcmBlock
  dsimp only
  refine .ite .refl (.ite ?_ (.of_parts rfl rfl rfl rfl rfl))
  refine Dev.Noted.trans ?_ (.pcmFlush k)
  exact .of_parts rfl rfl rfl rfl rfl

/-- The first audio since the release is timed. -/
def Dev.audioNoted (d : Dev) (first : Bool) : Dev :=
  if first then ({ d with boot := { d.boot with audioSeen := true } }).fput R.BOOT_T_AUDIO_MS 0 (min 65535 (divNear (d.since d.boot.releaseClk) Config.sysPerMs)) else d

theorem Dev.Noted.audioNoted (first : Bool) : Dev.Noted p d (d.audioNoted first) := by
  have hfput (e : Dev) (v : Nat) : Dev.Noted p e (e.fput R.BOOT_T_AUDIO_MS 0 v) := by
    refine ⟨.fput (by simp [blockRegs, Fld.at, R.BOOT_T_AUDIO_MS, R.BOOT_T_AUDIO]), rfl, ?_⟩
    have hset : (e.fput R.BOOT_T_AUDIO_MS 0 v).fget R.PGT_STAT_SILENT p = e.fget R.PGT_STAT_SILENT p :=
      Dev.fget_fput_apart _ _ (by decide) (.inl (pgtStat_apart (by decide)))
    rw [Dev.fbit, hset, Dev.fbit]
  unfold Dev.audioNoted
  refine .ite (Dev.Noted.trans ?_ (hfput _ _)) .refl
  exact .of_parts rfl rfl rfl rfl rfl

/-- The block once programme `p` has put out `pcm` of mark `mark` and metered it. -/
def Dev.blockNoted (d : Dev) (p t mark : Nat) (pcm : List (Int × Int)) : Dev :=
  let d := (d.lossNote p (mark == 2)).prgStereo p
  let d := if d.refs.contains p then d.prgEnv p pcm else d
  let d := d.audioNoted (!d.boot.audioSeen && mark != 2 && (((d.prgOf p).active.bind (d.srcRef p)).map (·.1)) == some 1)
  if d.mapSel 0 p then d.pcmBlock p ⟨d.stampAt (t - (max 0 (d.kpNow p)).toNat * 6144), mark, pcm, t⟩ (d.prgInfo p) else d.pcmFlush p

theorem Dev.Noted.blockNoted (t mark : Nat) (pcm : List (Int × Int)) : Dev.Noted p d (d.blockNoted p t mark pcm) := by
  unfold Dev.blockNoted
  dsimp only
  have henv (e : Dev) : Dev.Noted p e (if e.refs.contains p then e.prgEnv p pcm else e) := .ite (.prgEnv _) .refl
  exact (((Dev.Noted.lossNote _).trans .prgStereo).trans ((henv _).trans (.audioNoted _))).trans (.ite (.pcmBlock ..) (.pcmFlush _))

end
end Sys2Proof.Machine

/-!
SUPPORT. Programme blocks: what the delivery of one programme puts out, and the delivery of all of them (R20, R278, R280, R319, R321).
-/
namespace Sys2Proof.Machine

section
variable {d e g : Dev} {s : State} {n p q i j t : Nat} {l l' : List Nat} {α : Type}

/-! ### The block of one programme -/

/-- The block once programme `p` has taken the blocks of its sources. -/
def Dev.intaken (d : Dev) (p t : Nat) (rets : List (Nat × Blk)) : Dev := d.each (d.srcIdx p) (fun d i => d.srcIntake p i t rets)

/-- The samples that a programme in state `g` puts out of what it plays; nothing played is a missing block. -/
def PrgSt.outOf (g : PrgSt) (played : Option (List (Int × Int) × Nat)) : List (Int × Int) :=
  delivered g.last g.gap played.isNone (((played.map (·.1)).getD []).map (both sat24))

/-- The mark of what is played. -/
def markOf (played : Option (List (Int × Int) × Nat)) : Nat := match played with | some x => x.2 | none => 2

/-- The block once programme `p` has put out `pcm`. -/
def Dev.blockOut (d : Dev) (p t : Nat) (pcm : List (Int × Int)) (gap : Bool) : Dev :=
  d.updPrg p (fun g => { g with out := ((t, pcm) :: g.out).take 3, last := lastSample pcm, gap := gap })

/-- The block once programme `p` has put out and noted what is played. -/
def Dev.blockGiven (d : Dev) (p t : Nat) (played : Option (List (Int × Int) × Nat)) : Dev :=
  let pcm := (d.prgOf p).outOf played
  ((d.blockOut p t pcm played.isNone).prgMeters p (markOf played == 2) pcm).blockNoted p t (markOf played) pcm

theorem Dev.prgBlock_eq (rets : List (Nat × Blk)) (lost : Bool) :
    d.prgBlock p t rets lost = ((d.intaken p t rets).prgPlay p t).2.blockGiven p t (if lost then none else ((d.intaken p t rets).prgPlay p t).1) := rfl

theorem LoudSt.add_nil (m : LoudSt) : m.add [] = m := rfl

/-- From `d` to `e` programme `p`, with its sources, has delivered what is played in the block that begins at cycle `t`. -/
structure Dev.Delivered (p t : Nat) (played : Option (List (Int × Int) × Nat)) (srcs : SMap SrcSt) (d e : Dev) : Prop where
  beside : Dev.Beside p d e
  out : (e.prgOf p).out = ((t, (d.prgOf p).outOf played) :: (d.prgOf p).out).take 3
  gap : (e.prgOf p).gap = played.isNone
  sil : (e.prgOf p).sil = (d.prgOf p).sil.step (d.fget R.PRG_SIL_TH) (d.fget R.PRG_SIL_TIME) (peakOfBlock ((d.prgOf p).outOf played))
  meter : markOf played = 2 → (e.prgOf p).meter = (d.prgOf p).meter
  kept : (e.prgOf p).loud = (d.prgOf p).loud ∧ (e.prgOf p).peaks = (d.prgOf p).peaks ∧ (e.prgOf p).active = (d.prgOf p).active
  srcs : (e.prgOf p).srcs = srcs
  silent : (d.prgOf p).sil.silent = d.fbit R.PGT_STAT_SILENT p → e.fbit R.PGT_STAT_SILENT p = (e.prgOf p).sil.silent

/-- SILENT shows the silence detector where it has shown it before. -/
theorem Dev.silentShown_keeps (was : Bool) : Dev.Beside p d (d.silentShown p was) ∧ (d.silentShown p was).prgOf p =
      { d.prgOf p with flags := ((d.silentShown p was).prgOf p).flags } ∧
    (was = d.fbit R.PGT_STAT_SILENT p → (d.silentShown p was).fbit R.PGT_STAT_SILENT p = (d.prgOf p).sil.silent) := by
  have hput (b : Bool) : Dev.Beside p d (d.fputB R.PGT_STAT_SILENT p b) := .fput (by simp [blockRegs, Fld.at, R.PGT_STAT_SILENT, R.PGT_STAT])
  unfold Dev.silentShown
  split
  · rename_i hsame
    exact ⟨.refl, rfl, fun hwas => by rw [← hwas, hsame]⟩
  · have hprg : ((d.fputB R.PGT_STAT_SILENT p (d.prgOf p).sil.silent).prgFlag p 3).prg =
        ((d.fputB R.PGT_STAT_SILENT p (d.prgOf p).sil.silent).updPrg p (fun g => { g with flags := g.flags ||| 2 ^ 3 })).prg := by
      simp only [Dev.prgFlag, Dev.setEvtBits_parts]
    refine ⟨(hput _).trans (.prgFlag 3), ?_, fun _ => ?_⟩
    · rw [Dev.prgOf, hprg, ← Dev.prgOf, Dev.prgOf_updPrg_same, Dev.prgOf_fputB]
    · have hflag (e : Dev) : (e.prgFlag p 3).fget R.PGT_STAT_SILENT p = e.fget R.PGT_STAT_SILENT p := Dev.fget_setEvtBits_other (.inr (pgtStat_apart (by decide)))
      rw [Dev.fbit, hflag, ← Dev.fbit]
      exact Dev.fbit_fputB _ _ _ rfl rfl (by decide)

theorem Dev.blockGiven_delivered (played : Option (List (Int × Int) × Nat)) : Dev.Delivered p t played (d.prgOf p).srcs d (d.blockGiven p t played) := by
  unfold Dev.blockGiven
  dsimp only
  generalize hpcm : (d.prgOf p).outOf played = pcm
  have hout : (d.blockOut p t pcm played.isNone).prgOf p =
      { d.prgOf p with out := ((t, pcm) :: (d.prgOf p).out).take 3, last := lastSample pcm, gap := played.isNone } := Dev.prgOf_updPrg_same ..
  have hbeside : Dev.Beside p d (d.blockOut p t pcm played.isNone) := .updPrg _
  have hbit : (d.blockOut p t pcm played.isNone).fbit R.PGT_STAT_SILENT p = d.fbit R.PGT_STAT_SILENT p := rfl
  generalize d.blockOut p t pcm played.isNone = b at *
  obtain ⟨f, os, kw, hfilt, hkw, hmeters⟩ := Dev.prgMeters_eq (d := b) (p := p) (markOf played == 2) pcm
  have hmet : (f.metered p pcm kw os).prgOf p = { b.prgOf p with
      sil := (b.prgOf p).sil.step (f.fget R.PRG_SIL_TH) (f.fget R.PRG_SIL_TIME) (peakOfBlock pcm), meter := (b.prgOf p).meter.add kw,
      tp := max (b.prgOf p).tp (peakOfBlock os) } := by
    rw [Dev.metered, Dev.prgOf_updPrg_same, hfilt.prgOf]
  have hmetBeside : Dev.Beside p b (f.metered p pcm kw os) := hfilt.beside.trans (.updPrg _)
  have hstaged {u : Fld} (hu : u.staged = true) : f.fget u = d.fget u := by
    rw [Dev.fget_of_regs hfilt.regs, hbeside.within.fget (.inl hu)]
  have hmetBit : (f.metered p pcm kw os).fbit R.PGT_STAT_SILENT p = b.fbit R.PGT_STAT_SILENT p := by
    rw [Dev.fbit, Dev.fget_of_regs (d := b) (e := f.metered p pcm kw os) hfilt.regs, Dev.fbit]
  obtain ⟨hshownBeside, hshown, hsilent⟩ := Dev.silentShown_keeps (d := f.metered p pcm kw os) (p := p) (b.prgOf p).sil.silent
  rw [hmeters]
  generalize (f.metered p pcm kw os).silentShown p (b.prgOf p).sil.silent = m at *
  have hnoted := Dev.Noted.blockNoted (d := m) (p := p) t (markOf played) pcm
  generalize m.blockNoted p t (markOf played) pcm = e at *
  refine ⟨hbeside.trans (hmetBeside.trans (hshownBeside.trans hnoted.beside)), ?_, ?_, ?_, ?_, ?_, ?_, ?_⟩
  · rw [hnoted.prg, hshown, hmet, hout, hpcm]
  · rw [hnoted.prg, hshown, hmet, hout]
  · rw [hnoted.prg, hshown, hmet, hout, hstaged rfl, hstaged rfl, hpcm]
  · intro hmark
    rw [hnoted.prg, hshown, hmet, hout, hkw (by rw [hmark]; rfl), LoudSt.add_nil]
  · rw [hnoted.prg, hshown, hmet, hout]
    exact ⟨rfl, rfl, rfl⟩
  · rw [hnoted.prg, hshown, hmet, hout]
  · intro hwas
    rw [hnoted.silent, hsilent, hnoted.prg, hshown]
    rw [hmetBit, hbit, hout]
    exact hwas

/-- The delivery of one programme, from the block before its sources have been taken. -/
theorem Dev.prgBlock_delivered (rets : List (Nat × Blk)) (lost : Bool) :
    Dev.Delivered p t (if lost then none else ((d.intaken p t rets).prgPlay p t).1) ((d.intaken p t rets).prgOf p).srcs d (d.prgBlock p t rets lost) := by
  have hin : Dev.Intake p d (d.intaken p t rets) := .sources rets _ d
  have hplay : Dev.Filters (d.intaken p t rets) ((d.intaken p t rets).prgPlay p t).2 := .prgPlay
  rw [Dev.prgBlock_eq]
  generalize (if lost then none else ((d.intaken p t rets).prgPlay p t).1) = played
  have hgiven := Dev.blockGiven_delivered (d := ((d.intaken p t rets).prgPlay p t).2) (p := p) (t := t) played
  generalize ((d.intaken p t rets).prgPlay p t).2 = b at *
  have hprg : b.prgOf p = { d.prgOf p with srcs := ((d.intaken p t rets).prgOf p).srcs } := by rw [hplay.prgOf, hin.prg]
  have hregs : b.regs = d.regs := hplay.regs.trans hin.regs
  obtain ⟨hbeside, hout, hgap, hsil, hmeter, hkept, hsrcs, hsilent⟩ := hgiven
  rw [Dev.fget_of_regs hregs, Dev.fget_of_regs hregs] at hsil
  rw [Dev.fbit, Dev.fget_of_regs hregs, ← Dev.fbit] at hsilent
  rw [hprg] at hout hsil hmeter hkept hsrcs hsilent
  exact ⟨(hin.beside.trans hplay.beside).trans hbeside, hout, hgap, hsil, hmeter, hkept, hsrcs, hsilent⟩

theorem Dev.prgBlock_beside (rets : List (Nat × Blk)) (lost : Bool) : Dev.Beside p d (d.prgBlock p t rets lost) := (Dev.prgBlock_delivered rets lost).beside

/-! ### All programmes -/

/-- The registers in which programme blocks show. -/
def blocksRegs : List Nat := (List.range 128).map (fun q => R.PGT_STAT.at q) ++ [R.PRG_EVT.at 0, R.BOOT_T_AUDIO.at 0]

theorem blockRegs_subset (hp : p < 128) : ∀ k ∈ blockRegs p, k ∈ blocksRegs := by
  intro k hk
  rw [blockRegs, List.mem_cons] at hk
  obtain rfl | hk := hk
  · exact List.mem_append_left _ (List.mem_map.2 ⟨p, List.mem_range.2 hp, rfl⟩)
  · exact List.mem_append_right _ hk

/-- From `d` to `e` other programmes than `n` have delivered, in registers of `l`. -/
structure Dev.Apart (l : List Nat) (n : Nat) (d e : Dev) : Prop where
  within : Dev.Within l d e
  prg : e.prgOf n = d.prgOf n
  stat : e.reg (R.PGT_STAT.at n) = d.reg (R.PGT_STAT.at n)
  ctx : e.ctx = d.ctx
  grid : e.grid = d.grid
  tadpole : e.boot.tadpole = d.boot.tadpole

theorem Dev.Apart.refl : Dev.Apart l n d d := ⟨.refl, rfl, rfl, rfl, rfl, rfl⟩

theorem Dev.Apart.trans (h₁ : Dev.Apart l n d e) (h₂ : Dev.Apart l n e g) : Dev.Apart l n d g :=
  ⟨h₁.within.trans h₂.within, h₂.prg.trans h₁.prg, h₂.stat.trans h₁.stat, h₂.ctx.trans h₁.ctx, h₂.grid.trans h₁.grid, h₂.tadpole.trans h₁.tadpole⟩

theorem Dev.Apart.mono (h : Dev.Apart l n d e) (hl : ∀ i ∈ l, i ∈ l') : Dev.Apart l' n d e := ⟨h.within.mono hl, h.prg, h.stat, h.ctx, h.grid, h.tadpole⟩

theorem Dev.Beside.apart (h : Dev.Beside p d e) (hp : p < 128) (hne : p ≠ n) : Dev.Apart blocksRegs n d e := by
  refine ⟨h.within.mono (blockRegs_subset hp), h.other n (Ne.symm hne), h.within.reg _ ?_, h.ctx, h.grid, h.tadpole⟩
  have hstat : R.PGT_STAT.at n ≠ R.PGT_STAT.at p := by simpa [Fld.at, R.PGT_STAT] using Ne.symm hne
  simp only [blockRegs, List.mem_cons, List.not_mem_nil, or_false, not_or]
  exact ⟨hstat, pgtStat_apart (by decide), pgtStat_apart (by decide)⟩

theorem Dev.Apart.each {f : Dev → Nat → Dev} (hf : ∀ d p, Dev.Beside p d (f d p)) {l : List Nat} (hl : ∀ p ∈ l, p < 128) (hn : n ∉ l) (d : Dev) :
    Dev.Apart blocksRegs n d (d.each l f) := by
  induction l generalizing d with
  | nil => exact .refl
  | cons a l ih =>
    have ha : a ≠ n := fun h => hn (h ▸ List.mem_cons_self)
    exact ((hf d a).apart (hl a List.mem_cons_self) ha).trans (ih (fun p hp => hl p (List.mem_cons_of_mem _ hp)) (fun h => hn (List.mem_cons_of_mem _ h)) (f d a))

/-- Of programmes that deliver one after the other, programme `n` among them once. -/
theorem Dev.each_once {f : Dev → Nat → Dev} (hf : ∀ d p, Dev.Beside p d (f d p)) {l : List Nat} (hl : ∀ p ∈ l, p < 128) (hnodup : l.Nodup) (hn : n ∈ l)
    (d : Dev) : ∃ e, Dev.Apart blocksRegs n d e ∧ Dev.Apart blocksRegs n (f e n) (d.each l f) := by
  obtain ⟨a, b, rfl⟩ := List.append_of_mem hn
  rw [List.nodup_append] at hnodup
  obtain ⟨-, hb, hdisj⟩ := hnodup
  have hna : n ∉ a := fun h => hdisj n h n List.mem_cons_self rfl
  have hnb : n ∉ b := (List.nodup_cons.1 hb).1
  refine ⟨d.each a f, .each hf (fun p hp => hl p (List.mem_append_left _ hp)) hna d, ?_⟩
  rw [show d.each (a ++ n :: b) f = (f (d.each a f) n).each b f by simp [Dev.each]]
  exact .each hf (fun p hp => hl p (List.mem_append_right _ (List.mem_cons_of_mem _ hp))) hnb _

/-- Every programme that delivers delivers in the registers of the blocks. -/
theorem Dev.each_within {f : Dev → Nat → Dev} (hf : ∀ d p, Dev.Beside p d (f d p)) {l : List Nat} (hl : ∀ p ∈ l, p < 128) (d : Dev) :
    Dev.Within blocksRegs d (d.each l f) ∧ (d.each l f).grid = d.grid ∧ (d.each l f).ctx = d.ctx := by
  induction l generalizing d with
  | nil => exact ⟨.refl, rfl, rfl⟩
  | cons a l ih =>
    obtain ⟨hw, hgrid, hctx⟩ := ih (fun p hp => hl p (List.mem_cons_of_mem _ hp)) (f d a)
    have ha := hf d a
    exact ⟨(ha.within.mono (blockRegs_subset (hl a List.mem_cons_self))).trans hw, hgrid.trans ha.grid, hctx.trans ha.ctx⟩

theorem Dev.mem_prgLive : p ∈ d.prgLive ↔ p < 128 ∧ (d.prgOf p).on = true := by simp [Dev.prgLive]

theorem Dev.prgLive_nodup : d.prgLive.Nodup := List.nodup_range.filter _

end
end Sys2Proof.Machine

/-!
SUPPORT. PROGRAMME_BLOCK: its parts, what it leaves as it was, and the block of one programme and of one source (R19, R20, R280, R286, R569).
-/
namespace Sys2Proof.Machine

section
variable {d e g : Dev} {s : State} {n p q i j t : Nat} {α : Type}

/-! ### Memory errors -/

/-- The block once the memory error of a programme block is counted. -/
def Dev.eccMet (d : Dev) (ecc : Option (Nat × Bool × Nat)) : Dev :=
  match ecc with
  | some (_, false, _) => d.eccCorrected 1
  | some (_, true, w) => (d.eccUncorrectable 1).errorRecord 1 1 w
  | none => d

/-- The registers in which a memory error of a programme block shows. -/
def blockEccRegs (ecc : Option (Nat × Bool × Nat)) : List Nat :=
  match ecc with
  | some (_, false, _) => [R.MON_ECC_CORR.at 1]
  | some (_, true, _) => [R.MON_ECC_UNC.at 1, R.MON_EVT.at 0, R.MON_SEQ_HI.at 0]
  | none => []

/-- From `d` to `e` registers of `l` change, and none of programmes, contexts, grid, gaps and baseline. -/
structure Dev.BlockCalm (l : List Nat) (d e : Dev) : Prop where
  within : Dev.Within l d e
  prg : e.prg = d.prg
  ctx : e.ctx = d.ctx
  grid : e.grid = d.grid
  boot : e.boot = d.boot
  clk : e.clk = d.clk

theorem Dev.BlockCalm.trans {l : List Nat} (h₁ : Dev.BlockCalm l d e) (h₂ : Dev.BlockCalm l e g) : Dev.BlockCalm l d g :=
  ⟨h₁.within.trans h₂.within, h₂.prg.trans h₁.prg, h₂.ctx.trans h₁.ctx, h₂.grid.trans h₁.grid, h₂.boot.trans h₁.boot, h₂.clk.trans h₁.clk⟩

theorem Dev.BlockCalm.mono {l l' : List Nat} (h : Dev.BlockCalm l d e) (hl : ∀ i ∈ l, i ∈ l') : Dev.BlockCalm l' d e :=
  ⟨h.within.mono hl, h.prg, h.ctx, h.grid, h.boot, h.clk⟩

theorem Dev.BlockCalm.ite {l : List Nat} {c : Prop} [Decidable c] {e₁ e₂ : Dev} (h₁ : Dev.BlockCalm l d e₁) (h₂ : Dev.BlockCalm l d e₂) :
    Dev.BlockCalm l d (if c then e₁ else e₂) := by
  split
  · exact h₁
  · exact h₂

theorem Dev.Shows.blockCalm {l : List Nat} (h : Dev.Shows l d e) : Dev.BlockCalm l d e :=
  ⟨h.within, h.keeps (·.prg) (fun _ _ _ _ _ => rfl), h.keeps (·.ctx) (fun _ _ _ _ _ => rfl), h.keeps (·.grid) (fun _ _ _ _ _ => rfl),
    h.keeps (·.boot) (fun _ _ _ _ _ => rfl), h.keeps (·.clk) (fun _ _ _ _ _ => rfl)⟩

theorem Dev.BlockCalm.setMon (l : List Nat) (d : Dev) (m : MonSt) (a : List Bool) : Dev.BlockCalm l d { d with mon := m, anole := a } :=
  ⟨.of_regs rfl, rfl, rfl, rfl, rfl, rfl⟩

theorem Dev.BlockCalm.formRecord (type : Nat) (body : List Nat) (flush : Bool) : Dev.BlockCalm [R.MON_SEQ_HI.at 0] d (d.formRecord type body flush) := by
  have hput (e : Dev) (v : Nat) : Dev.BlockCalm [R.MON_SEQ_HI.at 0] e (e.fput R.MON_SEQ_HI_SEQ 0 v) := ⟨Dev.within_fput (by decide), rfl, rfl, rfl, rfl, rfl⟩
  have hform (e : Dev) (p : PktReq) : Dev.BlockCalm [R.MON_SEQ_HI.at 0] e (e.formPacket p) := (Dev.Shows.formPacket .refl p).blockCalm
  unfold Dev.formRecord
  dsimp only
  exact .ite (((Dev.BlockCalm.setMon _ d _ _).trans (hput _ _)).trans (hform _ _)) ((Dev.BlockCalm.setMon _ d _ _).trans (hput _ _))

theorem Dev.BlockCalm.errorRecord (region effect word : Nat) : Dev.BlockCalm [R.MON_SEQ_HI.at 0] d (d.errorRecord region effect word) := by
  unfold Dev.errorRecord
  dsimp only
  exact .ite (.setMon _ d _ _) ((Dev.BlockCalm.setMon _ d _ d.anole).trans (.formRecord ..))

theorem Dev.BlockCalm.eccMet (ecc : Option (Nat × Bool × Nat)) : Dev.BlockCalm (blockEccRegs ecc) d (d.eccMet ecc) := by
  match ecc with
  | none => exact ⟨.refl, rfl, rfl, rfl, rfl, rfl⟩
  | some (_, false, _) =>
    have hcorr : Dev.Shows [R.MON_ECC_CORR.at 1] d (d.eccCorrected 1) := (Dev.Shows.refl.bump (by decide)).lifeBy _ _ _
    exact hcorr.blockCalm
  | some (_, true, w) =>
    have hunc : Dev.Shows (blockEccRegs (some (0, true, w))) d (d.eccUncorrectable 1) := (Dev.eccUncorrectable_shows 1).mono (by simp [blockEccRegs])
    exact hunc.blockCalm.trans ((Dev.BlockCalm.errorRecord 1 1 w).mono (by simp [blockEccRegs]))

/-! ### The parts of the command -/

/-- The block of programme `p` is missing: a gap stands, or its memory has failed. -/
def blockMissed (gap : Bool) (ecc : Option (Nat × Bool × Nat)) (p : Nat) : Bool := gap || (match ecc with | some (q, true, _) => q == p | _ => false)

/-- The block before the programmes deliver. -/
def Dev.blocksBegun (d : Dev) (ecc : Option (Nat × Bool × Nat)) : Dev :=
  let d := Dev.eccMet { d with scoreBlank := d.scoreBlank || d.blanking } ecc
  { d with clk := { d.clk with gapPrg := false } }

/-- The return blocks are taken and the interval of the programme blocks ends. -/
def Dev.blocksClosed (d : Dev) : Dev := { d with fab := { d.fab with ret := [], env := [] } }.clearGaps.prgGrid

/-- The block in which every running programme has delivered. -/
def Dev.blocksGiven (d : Dev) (t : Nat) (lost : Nat → Bool) : Dev :=
  let r := Dev.retBlocks t d.pairs d
  r.2.each r.2.prgLive (fun d p => d.prgBlock p t r.1 (lost p))

theorem Dev.BlockCalm.blocksBegun (ecc : Option (Nat × Bool × Nat)) :
    Dev.Within (blockEccRegs ecc) d (d.blocksBegun ecc) ∧ (d.blocksBegun ecc).prg = d.prg ∧ (d.blocksBegun ecc).ctx = d.ctx ∧
    (d.blocksBegun ecc).grid = d.grid ∧ (d.blocksBegun ecc).boot = d.boot := by
  obtain ⟨hw, hprg, hctx, hgrid, hboot, -⟩ := Dev.BlockCalm.eccMet (d := { d with scoreBlank := d.scoreBlank || d.blanking }) ecc
  exact ⟨Dev.Within.of_same_regs (hw.beside (g := d.blocksBegun ecc) rfl) rfl, hprg, hctx, hgrid, hboot⟩

/-- The block after a programme block while PD4 is ON. -/
def Dev.blocksDone (d : Dev) (ecc : Option (Nat × Bool × Nat)) : Dev :=
  ((d.blocksBegun ecc).blocksGiven d.grid.prg (blockMissed d.clk.gapPrg ecc)).ringsTaken.blocksClosed

/-- The block after a programme block while PD4 is not ON: what comes next begins after a gap. -/
def Dev.blocksGap (d : Dev) : Dev := (d.each d.prgLive (fun d p => d.updPrg p (fun g => { g with gap := true, last := (0, 0) }))).blocksClosed

/-- A programme block is due. -/
def Dev.blocksDue (d : Dev) : Prop := d.splStopped = false ∧ d.inReset = false ∧ d.grid.prg ≤ d.time.clk

theorem exec_programmeBlock_early (ecc : Option (Nat × Bool × Nat)) (h : ¬ s.dev.blocksDue) : exec (.programmeBlock ecc) s = .next s := by
  have hnot : (s.dev.splStopped || s.dev.inReset || !s.dev.reached s.dev.grid.prg) = true := by
    by_contra hall
    rw [Bool.not_eq_true, Bool.or_eq_false_iff, Bool.or_eq_false_iff, Bool.not_eq_false', Dev.reached, decide_eq_true_eq] at hall
    exact h ⟨hall.1.1, hall.1.2, hall.2⟩
  show execProgrammeBlock ecc s = _
  rw [execProgrammeBlock, nextDev, if_pos hnot]

theorem Dev.blocksDue.not_early (h : d.blocksDue) : ¬ (d.splStopped || d.inReset || !d.reached d.grid.prg) = true := by
  obtain ⟨hspl, hreset, hclk⟩ := h
  simp [hspl, hreset, Dev.reached, hclk]

theorem exec_programmeBlock_off (ecc : Option (Nat × Bool × Nat)) (h : s.dev.blocksDue) (hoff : s.dev.domOn 4 = false) :
    exec (.programmeBlock ecc) s = .next { s with dev := s.dev.blocksGap } := by
  show execProgrammeBlock ecc s = _
  rw [execProgrammeBlock, nextDev, if_neg h.not_early]
  simp only [hoff, Bool.not_false, if_true]
  rfl

theorem exec_programmeBlock_on (ecc : Option (Nat × Bool × Nat)) (h : s.dev.blocksDue) (hon : s.dev.domOn 4 = true) :
    exec (.programmeBlock ecc) s = .next { s with dev := s.dev.blocksDone ecc } := by
  have hgap : (Dev.eccMet { s.dev with scoreBlank := s.dev.scoreBlank || s.dev.blanking } ecc).clk.gapPrg = s.dev.clk.gapPrg := by rw [(Dev.BlockCalm.eccMet ecc).clk]
  rw [Dev.blocksDone, ← hgap]
  show execProgrammeBlock ecc s = _
  rw [execProgrammeBlock, nextDev, if_neg h.not_early]
  simp only [hon, Bool.not_true, Bool.false_eq_true, if_false]
  rfl

/-! ### What the close leaves -/

theorem Dev.blocksClosed_parts : d.blocksClosed.regs = d.regs ∧ d.blocksClosed.prg = d.prg ∧ d.blocksClosed.ctx = d.ctx ∧
    d.blocksClosed.grid.prg = d.grid.prg + Config.sysPerMs := ⟨rfl, rfl, rfl, rfl⟩

/-- The emptying of rings one after the other. -/
def Dev.ringsEmptied (d : Dev) (l : List Nat) : Dev := d.each l (fun d k => d.updCtx (k / 256) (k % 256) (fun c => { c with ring := [] }))

theorem Dev.ringsEmptied_parts (l : List Nat) (d : Dev) : (d.ringsEmptied l).regs = d.regs ∧ (d.ringsEmptied l).prg = d.prg ∧
    (d.ringsEmptied l).grid = d.grid := by
  induction l generalizing d with
  | nil => exact ⟨rfl, rfl, rfl⟩
  | cons a l ih => exact ih (d.updCtx (a / 256) (a % 256) (fun c => { c with ring := [] }))

theorem ctxKey_div (k : Nat) : ctxKey (k / 256) (k % 256) = k := by
  rw [ctxKey]
  omega

/-- A ring is empty once it has been emptied, and stays so. -/
theorem Dev.ringsEmptied_ring (l : List Nat) {k : Nat} (hk : k ∈ l ∨ (smGet (fun _ => ({} : CtxSt)) d.ctx k).ring = []) :
    (smGet (fun _ => ({} : CtxSt)) (d.ringsEmptied l).ctx k).ring = [] := by
  induction l generalizing d with
  | nil =>
    obtain hk | hk := hk
    · simp at hk
    · exact hk
  | cons a l ih =>
    refine ih (d := d.updCtx (a / 256) (a % 256) (fun c => { c with ring := [] })) ?_
    have hget : smGet (fun _ => ({} : CtxSt)) (d.updCtx (a / 256) (a % 256) (fun c => { c with ring := [] })).ctx k =
        if k = a then { smGet (fun _ => ({} : CtxSt)) d.ctx a with ring := [] } else smGet (fun _ => ({} : CtxSt)) d.ctx k := by
      rw [Dev.updCtx, Dev.ctxOf, ctxKey_div]
      exact smGet_smSet
    rw [hget]
    by_cases ha : k = a
    · rw [if_pos ha]
      exact .inr rfl
    · rw [if_neg ha]
      obtain hk | hk := hk
      · exact .inl ((List.mem_cons.1 hk).resolve_left ha)
      · exact .inr hk

/-- What a map holds at a key is listed there, or is the default. -/
theorem smGet_mem_or {dflt : Nat → α} (m : SMap α) (k : Nat) : smGet dflt m k = dflt k ∨ (k, smGet dflt m k) ∈ m := by
  induction m with
  | nil => exact .inl rfl
  | cons x m ih =>
    obtain ⟨a, v⟩ := x
    rw [smGet]
    split
    · rename_i h
      exact .inr (h ▸ List.mem_cons_self)
    · obtain h | h := ih
      · exact .inl h
      · exact .inr (List.mem_cons_of_mem _ h)

/-- The rings of the subchannels are emptied likewise. -/
def Dev.dscsEmptied (d : Dev) (l : List Nat) : Dev := d.each l (fun d n => d.updDsc n (fun e => { e with ring := [] }))

theorem Dev.dscsEmptied_parts (l : List Nat) (d : Dev) : (d.dscsEmptied l).regs = d.regs ∧ (d.dscsEmptied l).prg = d.prg ∧
    (d.dscsEmptied l).grid = d.grid ∧ (d.dscsEmptied l).ctx = d.ctx := by
  induction l generalizing d with
  | nil => exact ⟨rfl, rfl, rfl, rfl⟩
  | cons a l ih => exact ih (d.updDsc a (fun e => { e with ring := [] }))

theorem Dev.ringsTaken_eq : ∃ l, d.ringsTaken = (d.ringsEmptied ((d.ctx.filter (fun e => !e.2.ring.isEmpty)).map (·.1))).dscsEmptied l := ⟨_, rfl⟩

theorem Dev.ringsTaken_parts : d.ringsTaken.regs = d.regs ∧ d.ringsTaken.prg = d.prg ∧ d.ringsTaken.grid = d.grid := by
  obtain ⟨l, hl⟩ := Dev.ringsTaken_eq (d := d)
  obtain ⟨hregs, hprg, hgrid⟩ := Dev.ringsEmptied_parts ((d.ctx.filter (fun e => !e.2.ring.isEmpty)).map (·.1)) d
  obtain ⟨hregs', hprg', hgrid', -⟩ := Dev.dscsEmptied_parts l (d.ringsEmptied ((d.ctx.filter (fun e => !e.2.ring.isEmpty)).map (·.1)))
  rw [hl]
  exact ⟨hregs'.trans hregs, hprg'.trans hprg, hgrid'.trans hgrid⟩

/-- Every ring has been emptied. -/
theorem Dev.ringsTaken_ring (pool k : Nat) : (d.ringsTaken.ctxOf pool k).ring = [] := by
  obtain ⟨l, hl⟩ := Dev.ringsTaken_eq (d := d)
  rw [hl, Dev.ctxOf, (Dev.dscsEmptied_parts l _).2.2.2]
  refine Dev.ringsEmptied_ring _ ?_
  by_cases hempty : (smGet (fun _ => ({} : CtxSt)) d.ctx (ctxKey pool k)).ring = []
  · exact .inr hempty
  · refine .inl (List.mem_map.2 ⟨(ctxKey pool k, smGet (fun _ => ({} : CtxSt)) d.ctx (ctxKey pool k)), List.mem_filter.2 ⟨?_, ?_⟩, rfl⟩)
    · obtain hdflt | hmem := smGet_mem_or (dflt := fun _ => ({} : CtxSt)) d.ctx (ctxKey pool k)
      · rw [hdflt] at hempty
        exact absurd rfl hempty
      · exact hmem
    · simpa [List.isEmpty_iff] using hempty

end
end Sys2Proof.Machine

/-!
SUPPORT. PROGRAMME_BLOCK: the block of one programme among all, of the silence source, and of an FM source (R19, R20, R278, R280, R286).
-/
namespace Sys2Proof.Machine

section
variable {d e g : Dev} {s : State} {n p q i j t : Nat} {l : List Nat} {ecc : Option (Nat × Bool × Nat)}

/-! ### One programme among all -/

/-- The registers in which PROGRAMME_BLOCK shows. -/
def programmeRegs (ecc : Option (Nat × Bool × Nat)) : List Nat := blocksRegs ++ blockEccRegs ecc

theorem blockEccRegs_low (ecc : Option (Nat × Bool × Nat)) : ∀ k ∈ blockEccRegs ecc, k < 0x2000 := by
  match ecc with
  | none => exact fun _ h => absurd h List.not_mem_nil
  | some (_, false, _) => exact fun k hk => by simp only [blockEccRegs] at hk; revert k; decide
  | some (_, true, _) => exact fun k hk => by simp only [blockEccRegs] at hk; revert k; decide

theorem Dev.Apart.blocksBegun : Dev.Apart (programmeRegs ecc) n d (d.blocksBegun ecc) := by
  obtain ⟨hw, hprg, hctx, hgrid, hboot⟩ := Dev.BlockCalm.blocksBegun (d := d) ecc
  have hstat : R.PGT_STAT.at n ∉ blockEccRegs ecc := fun h => absurd (blockEccRegs_low ecc _ h) (by simp only [Fld.at, R.PGT_STAT]; omega)
  exact ⟨hw.mono (fun _ h => List.mem_append_right _ h), by rw [Dev.prgOf, hprg, Dev.prgOf], hw.reg _ hstat, hctx, hgrid, by rw [hboot]⟩

theorem Dev.Filters.apart (h : Dev.Filters d e) : Dev.Apart l n d e := ⟨.of_regs h.regs, h.prgOf n, Dev.reg_of_regs h.regs, h.ctx, h.grid, by rw [h.boot]⟩

theorem blocksRegs_subset {k : Nat} (h : k ∈ blocksRegs) : k ∈ programmeRegs ecc := List.mem_append_left _ h

/-- A running programme delivers once, in a block in which it stands as before. -/
theorem Dev.blocksGiven_once (lost : Nat → Bool) (hn : n < 128) (hon : (d.prgOf n).on = true) : ∃ e rets, Dev.Apart blocksRegs n d e ∧
    Dev.Apart blocksRegs n (e.prgBlock n t rets (lost n)) (d.blocksGiven t lost) := by
  have hfilt : Dev.Filters d (Dev.retBlocks t d.pairs d).2 := .retBlocks d.pairs d
  have hlive : n ∈ (Dev.retBlocks t d.pairs d).2.prgLive := Dev.mem_prgLive.2 ⟨hn, by rw [hfilt.prgOf, hon]⟩
  obtain ⟨e, hbefore, hafter⟩ := Dev.each_once (f := fun d' p => d'.prgBlock p t (Dev.retBlocks t d.pairs d).1 (lost p)) (n := n)
    (fun d p => Dev.prgBlock_beside _ _) (l := (Dev.retBlocks t d.pairs d).2.prgLive) (fun p hp => (Dev.mem_prgLive.1 hp).1) Dev.prgLive_nodup hlive
    (Dev.retBlocks t d.pairs d).2
  refine ⟨e, (Dev.retBlocks t d.pairs d).1, hfilt.apart.trans hbefore, ?_⟩
  rw [Dev.blocksGiven]
  exact hafter

theorem Dev.blocksGiven_within (lost : Nat → Bool) : Dev.Within blocksRegs d (d.blocksGiven t lost) ∧ (d.blocksGiven t lost).grid = d.grid := by
  have hfilt : Dev.Filters d (Dev.retBlocks t d.pairs d).2 := .retBlocks d.pairs d
  obtain ⟨hw, hgrid, -⟩ := Dev.each_within (f := fun d' p => d'.prgBlock p t (Dev.retBlocks t d.pairs d).1 (lost p))
    (fun d p => Dev.prgBlock_beside _ _) (l := (Dev.retBlocks t d.pairs d).2.prgLive) (fun p hp => (Dev.mem_prgLive.1 hp).1) (Dev.retBlocks t d.pairs d).2
  exact ⟨Dev.Within.of_same_regs hw hfilt.regs, hgrid.trans hfilt.grid⟩

/-- What PROGRAMME_BLOCK leaves as it was, and the next one. -/
theorem Dev.blocksDone_frame (d : Dev) (ecc : Option (Nat × Bool × Nat)) : Dev.Within (programmeRegs ecc) d (d.blocksDone ecc) ∧
    (d.blocksDone ecc).grid.prg = d.grid.prg + Config.sysPerMs ∧ ∀ pool k, ((d.blocksDone ecc).ctxOf pool k).ring = [] := by
  obtain ⟨hbegun, -, -, hgrid, -⟩ := Dev.BlockCalm.blocksBegun (d := d) ecc
  obtain ⟨hgiven, hgrid'⟩ := Dev.blocksGiven_within (d := d.blocksBegun ecc) (t := d.grid.prg) (blockMissed d.clk.gapPrg ecc)
  generalize hx : (d.blocksBegun ecc).blocksGiven d.grid.prg (blockMissed d.clk.gapPrg ecc) = x at *
  have hclosed := Dev.blocksClosed_parts (d := x.ringsTaken)
  obtain ⟨hregs, -, hctx, hprg⟩ := hclosed
  obtain ⟨hregs', -, hgrid''⟩ := Dev.ringsTaken_parts (d := x)
  have hdone : d.blocksDone ecc = x.ringsTaken.blocksClosed := by rw [Dev.blocksDone, hx]
  rw [hdone]
  refine ⟨((hbegun.mono (fun _ h => List.mem_append_right _ h)).trans (hgiven.mono (fun _ h => List.mem_append_left _ h))).beside (hregs.trans hregs'), ?_,
    fun pool k => ?_⟩
  · rw [hprg, hgrid'', hgrid', hgrid]
  · rw [Dev.ctxOf, hctx]
    exact Dev.ringsTaken_ring pool k

/-- The block of one running programme in PROGRAMME_BLOCK. -/
theorem Dev.blocksDone_once (ecc : Option (Nat × Bool × Nat)) (hn : n < 128) (hon : (d.prgOf n).on = true) : ∃ e rets, Dev.Apart (programmeRegs ecc) n d e ∧
    Dev.Delivered n d.grid.prg (if blockMissed d.clk.gapPrg ecc n then none else ((e.intaken n d.grid.prg rets).prgPlay n d.grid.prg).1)
      ((e.intaken n d.grid.prg rets).prgOf n).srcs e (e.prgBlock n d.grid.prg rets (blockMissed d.clk.gapPrg ecc n)) ∧
    (d.blocksDone ecc).prgOf n = (e.prgBlock n d.grid.prg rets (blockMissed d.clk.gapPrg ecc n)).prgOf n ∧
    (d.blocksDone ecc).reg (R.PGT_STAT.at n) = (e.prgBlock n d.grid.prg rets (blockMissed d.clk.gapPrg ecc n)).reg (R.PGT_STAT.at n) := by
  have hbegun : Dev.Apart (programmeRegs ecc) n d (d.blocksBegun ecc) := .blocksBegun
  obtain ⟨e, rets, hbefore, hafter⟩ := Dev.blocksGiven_once (d := d.blocksBegun ecc) (t := d.grid.prg) (blockMissed d.clk.gapPrg ecc) hn (by rw [hbegun.prg, hon])
  refine ⟨e, rets, hbegun.trans (hbefore.mono (fun _ h => blocksRegs_subset h)), Dev.prgBlock_delivered rets _, ?_, ?_⟩
  · rw [← hafter.prg, Dev.blocksDone, Dev.prgOf, Dev.blocksClosed_parts.2.1, Dev.ringsTaken_parts.2.1, Dev.prgOf]
  · rw [← hafter.stat, Dev.blocksDone, Dev.reg_of_regs (Dev.blocksClosed_parts.1.trans Dev.ringsTaken_parts.1)]

/-! ### What is played -/

theorem Dev.prgPlay_none (hxf : (d.prgOf p).xf = none) (hactive : (d.prgOf p).active = none) : (d.prgPlay p t).1 = none := by
  simp [Dev.prgPlay, hxf, hactive]

theorem divNearInt_zero (b : Nat) : divNearInt 0 b = 0 := by simp [divNearInt]

/-- Silence stays silence at 0 dB. -/
theorem trimmed_silence : trimmed silence 0 (fun _ => 2 ^ 40) = silence := by
  have hzero : ∀ z ∈ silence.zipIdx, both (fun x => scaledInt (2 ^ 40) (scaled (dbAmp (10 * 0)) x)) z.1 = z.1 := by
    intro z hz
    have hval : z.1 = (0, 0) := List.eq_of_mem_replicate (List.fst_mem_of_mem_zipIdx hz)
    simp [hval, both, scaled, scaledInt, divNearInt_zero]
  rw [trimmed, List.map_congr_left hzero]
  exact List.zipIdx_map_fst 0 silence

theorem silence_sat : silence.map (both sat24) = silence := by decide

/-- The silence source at 0 dB gives silence. -/
theorem Dev.prgPlay_silence {a arg m : Nat} (hxf : (d.prgOf p).xf = none) (hactive : (d.prgOf p).active = some a) (hsrc : d.srcRef p a = some (9, arg, m))
    (hpolicy : d.policy p ≠ 2) (hslew : d.fbit R.PGT_STAT_SLEW p = false) (htrim : (d.prgOf p).trim = 0) : (d.prgPlay p t).1 = some (silence, 0) := by
  have hnow : d.trimNow p = 0 := by simp [Dev.trimNow, PrgSt.switching, hxf, htrim, Dev.trimAt_zero]
  have hplay (b : Int) : d.playSrc p a b t = (silence, 0) := by simp [Dev.playSrc, hsrc]
  unfold Dev.prgPlay
  simp only [hxf, hactive, hpolicy, decide_false, Bool.false_and, Bool.false_eq_true, if_false, hplay, hnow, hslew, trimmed_silence]

/-! ### What a programme reads of itself -/

theorem Dev.srcRef_congr (hw : e.regs.applied = d.regs.applied) (hcands : (e.prgOf p).cands = (d.prgOf p).cands) : e.srcRef p i = d.srcRef p i := by
  have hstaged {f : Fld} (k : Nat) (hf : f.staged = true) : e.fget f k = d.fget f k := by simp [Dev.fget, Dev.word, hf, hw]
  have hslot : e.slotOf p i = d.slotOf p i := by rw [Dev.slotOf, hstaged _ rfl, hstaged _ rfl, Dev.slotOf]
  have hcand : e.candOf p i = d.candOf p i := by rw [Dev.candOf, hcands, Dev.candOf]
  rw [Dev.srcRef, hslot, hcand, hstaged _ rfl, Dev.srcRef]

theorem Dev.srcIdx_congr (hw : e.regs.applied = d.regs.applied) (hcands : (e.prgOf p).cands = (d.prgOf p).cands) : e.srcIdx p = d.srcIdx p := by
  simp only [Dev.srcIdx, Dev.srcRef_congr hw hcands]

theorem Dev.policy_congr (hw : e.regs.applied = d.regs.applied) (htadpole : e.boot.tadpole = d.boot.tadpole) : e.policy p = d.policy p := by
  simp [Dev.policy, Dev.geckoBase, htadpole, Dev.fget, Dev.word, hw, R.PGT_CTL_POLICY]

/-! ### The blocks of an FM source -/

/-- A block that is not missing enters its source. -/
theorem Dev.srcTake_whole {b : Blk} (hmark : b.mark ≠ 2) : ((d.srcTake p i b).srcOf p i).hist =
      ({ b with pcm := delivered (d.srcOf p i).last (d.srcOf p i).gap false b.pcm } :: (d.srcOf p i).hist).take 5700 ∧
    ((d.srcTake p i b).srcOf p i).gap = false ∧
    ((d.srcTake p i b).srcOf p i).env.head? = some (envDb (envSum (delivered (d.srcOf p i).last (d.srcOf p i).gap false b.pcm)) 48) := by
  have hmiss : (b.mark == 2) = false := by simpa using hmark
  have hfilt (key stage param k : Nat) (z : List (Int × Int)) : (d.filter2 key stage param k z).2.srcOf p i = d.srcOf p i := (Dev.Filters.filter2 ..).srcOf
  unfold Dev.srcTake
  simp [hmiss, Dev.srcOf_updSrc, hfilt]

/-- A source with a block of the present interval misses none. -/
theorem Dev.srcFill_fresh {b : Blk} {rest : List Blk} (hhist : (d.srcOf p i).hist = b :: rest) (hfresh : t < b.ready + Config.sysPerMs) (k : Nat) :
    Dev.srcFill p i t k d = d := by
  cases k with
  | zero => rfl
  | succ k =>
    rw [Dev.srcFill, hhist]
    exact if_neg (Nat.not_le.2 hfresh)

/-- An FM source takes the one block in the ring of its context. -/
theorem Dev.srcIntake_fm {b : Blk} {arg m : Nat} (rets : List (Nat × Blk)) (hsrc : d.srcRef p i = some (1, arg, m)) (hring : (d.ctxOf 0 arg).ring = [b])
    (hmark : b.mark ≠ 2) (hfresh : t < b.ready + Config.sysPerMs) : ((d.srcIntake p i t rets).srcOf p i).hist =
      ({ b with pcm := delivered (d.srcOf p i).last (d.srcOf p i).gap false b.pcm } :: (d.srcOf p i).hist).take 5700 ∧
    ((d.srcIntake p i t rets).srcOf p i).gap = false ∧
    ((d.srcIntake p i t rets).srcOf p i).env.head? = some (envDb (envSum (delivered (d.srcOf p i).last (d.srcOf p i).gap false b.pcm)) 48) := by
  have hblocks : d.srcBlocks p i rets = [b] := by simp [Dev.srcBlocks, hsrc, hring]
  obtain ⟨hhist, hgap, henv⟩ := Dev.srcTake_whole (d := d) (p := p) (i := i) hmark
  have hfill : Dev.srcFill p i t 8 (d.srcTake p i b) = d.srcTake p i b := Dev.srcFill_fresh (hhist.trans (List.take_succ_cons ..)) hfresh 8
  have hone : d.each [b] (fun d b => d.srcTake p i b) = d.srcTake p i b := rfl
  unfold Dev.srcIntake
  simp only [hblocks, hone, hfill, Dev.srcOf_updSrc, if_true]
  exact ⟨hhist, hgap, henv⟩

/-- Of the sources of a programme each takes its blocks once. -/
theorem Dev.intaken_once (rets : List (Nat × Blk)) (hi : i ∈ d.srcIdx p) : ∃ e, Dev.Intake p d e ∧ e.srcOf p i = d.srcOf p i ∧
    (d.intaken p t rets).srcOf p i = (e.srcIntake p i t rets).srcOf p i := by
  have hrest : ∀ (l : List Nat) (d : Dev), i ∉ l → (d.each l (fun d i => d.srcIntake p i t rets)).srcOf p i = d.srcOf p i := by
    intro l
    induction l with
    | nil => exact fun _ _ => rfl
    | cons a l ih =>
      intro d hnot
      have ha : i ≠ a := fun h => hnot (h ▸ List.mem_cons_self)
      exact (ih (d.srcIntake p a t rets) (fun h => hnot (List.mem_cons_of_mem _ h))).trans ((Dev.SrcStep.srcIntake rets).rest i ha)
  have hnodup : (d.srcIdx p).Nodup := List.nodup_range.filter _
  rw [Dev.intaken]
  obtain ⟨a, b, hab⟩ := List.append_of_mem hi
  rw [hab] at hnodup ⊢
  rw [List.nodup_append] at hnodup
  obtain ⟨-, hb, hdisj⟩ := hnodup
  refine ⟨d.each a (fun d i => d.srcIntake p i t rets), .sources rets a d, hrest a d (fun h => hdisj i h i List.mem_cons_self rfl), ?_⟩
  rw [show d.each (a ++ i :: b) (fun d i => d.srcIntake p i t rets) =
    ((d.each a (fun d i => d.srcIntake p i t rets)).srcIntake p i t rets).each b (fun d i => d.srcIntake p i t rets) by simp [Dev.each]]
  exact hrest b _ (List.nodup_cons.1 hb).1

end
end Sys2Proof.Machine

/-!
SUPPORT. PROGRAMME_BLOCK case by case: a gap, a missing block, the silence source, an FM source, a corrected error (R20, R278, R280, R569).
-/
namespace Sys2Proof.Machine

section
variable {d e g : Dev} {s : State} {n p q i j t : Nat} {l : List Nat} {ecc : Option (Nat × Bool × Nat)}

/-! ### A gap -/

/-- A programme that begins after a gap. -/
def PrgSt.gapped (g : PrgSt) : PrgSt := { g with gap := true, last := (0, 0) }

/-- What one programme does to itself, all running ones do once. -/
theorem Dev.each_updPrg (f : PrgSt → PrgSt) {l : List Nat} (hnodup : l.Nodup) (d : Dev) :
    (d.each l (fun d p => d.updPrg p f)).regs = d.regs ∧ (d.each l (fun d p => d.updPrg p f)).grid = d.grid ∧
    (d.each l (fun d p => d.updPrg p f)).prgOf n = if n ∈ l then f (d.prgOf n) else d.prgOf n := by
  induction l generalizing d with
  | nil => exact ⟨rfl, rfl, (if_neg List.not_mem_nil).symm⟩
  | cons a l ih =>
    obtain ⟨hnot, hrest⟩ := List.nodup_cons.1 hnodup
    obtain ⟨hregs, hgrid, hprg⟩ := ih hrest (d.updPrg a f)
    refine ⟨hregs, hgrid, hprg.trans ?_⟩
    rw [Dev.prgOf_updPrg]
    by_cases ha : n = a
    · subst ha
      rw [if_neg hnot, if_pos rfl, if_pos List.mem_cons_self]
    · simp [ha]

theorem Dev.blocksGap_parts (hn : n < 128) (hon : (d.prgOf n).on = true) : d.blocksGap.prgOf n = (d.prgOf n).gapped ∧
    d.blocksGap.grid.prg = d.grid.prg + Config.sysPerMs ∧ d.blocksGap.regs = d.regs := by
  obtain ⟨hregs, hgrid, hprg⟩ := Dev.each_updPrg (n := n) PrgSt.gapped Dev.prgLive_nodup d
  have hgap : d.blocksGap = (d.each d.prgLive (fun d p => d.updPrg p PrgSt.gapped)).blocksClosed := rfl
  obtain ⟨hregs', hprg', -, hclk⟩ := Dev.blocksClosed_parts (d := d.each d.prgLive (fun d p => d.updPrg p PrgSt.gapped))
  rw [hgap]
  refine ⟨?_, by rw [hclk, hgrid], hregs'.trans hregs⟩
  rw [Dev.prgOf, hprg', ← Dev.prgOf, hprg, if_pos (Dev.mem_prgLive.2 ⟨hn, hon⟩)]

/-! ### A missing block -/

/-- What a missing block leaves of programme `n`: a ramp from its last sample to zero, outside the loudness. -/
structure Dev.GivenMissing (n : Nat) (d e : Dev) : Prop where
  out : (e.prgOf n).out = ((d.grid.prg, delivered (d.prgOf n).last (d.prgOf n).gap true []) :: (d.prgOf n).out).take 3
  gap : (e.prgOf n).gap = true
  sil : (e.prgOf n).sil = (d.prgOf n).sil.step (d.fget R.PRG_SIL_TH) (d.fget R.PRG_SIL_TIME)
    (peakOfBlock (delivered (d.prgOf n).last (d.prgOf n).gap true []))
  meter : (e.prgOf n).meter = (d.prgOf n).meter
  kept : (e.prgOf n).loud = (d.prgOf n).loud ∧ (e.prgOf n).peaks = (d.prgOf n).peaks ∧ (e.prgOf n).active = (d.prgOf n).active

theorem Dev.blocksDone_missing (hn : n < 128) (hon : (d.prgOf n).on = true)
    (hmiss : blockMissed d.clk.gapPrg ecc n = true ∨ (d.prgOf n).xf = none ∧ (d.prgOf n).active = none) : Dev.GivenMissing n d (d.blocksDone ecc) := by
  obtain ⟨e, rets, hapart, hgiven, hprg, -⟩ := Dev.blocksDone_once (d := d) ecc hn hon
  have hplayed : (if blockMissed d.clk.gapPrg ecc n then none else ((e.intaken n d.grid.prg rets).prgPlay n d.grid.prg).1) = none := by
    obtain hlost | ⟨hxf, hactive⟩ := hmiss
    · exact if_pos hlost
    · have hin : Dev.Intake n e (e.intaken n d.grid.prg rets) := .sources rets _ e
      rw [Dev.prgPlay_none (by rw [hin.prg, hapart.prg, hxf]) (by rw [hin.prg, hapart.prg, hactive]), ite_self]
  rw [hplayed] at hgiven
  obtain ⟨-, hout, hgap, hsil, hmeter, hkept, -, -⟩ := hgiven
  rw [hapart.prg] at hout hsil hmeter hkept
  rw [hapart.within.fget (.inl rfl), hapart.within.fget (.inl rfl)] at hsil
  rw [← hprg] at hout hgap hsil hmeter hkept
  exact ⟨hout, hgap, hsil, hmeter rfl, hkept⟩

/-! ### The silence source -/

/-- The silence source plays: programme `n` delivers zeros, which its silence detector takes. -/
theorem Dev.blocksDone_silence {a arg m : Nat} (hn : n < 128) (hon : (d.prgOf n).on = true) (hmet : blockMissed d.clk.gapPrg ecc n = false)
    (hxf : (d.prgOf n).xf = none) (hactive : (d.prgOf n).active = some a) (hsrc : d.srcRef n a = some (9, arg, m)) (hpolicy : d.policy n ≠ 2)
    (hslew : d.fbit R.PGT_STAT_SLEW n = false) (htrim : (d.prgOf n).trim = 0) :
    let z := delivered (d.prgOf n).last (d.prgOf n).gap false silence
    let w := (d.blocksDone ecc).prgOf n
    w.out = ((d.grid.prg, z) :: (d.prgOf n).out).take 3 ∧ w.gap = false ∧
    w.sil = (d.prgOf n).sil.step (d.fget R.PRG_SIL_TH) (d.fget R.PRG_SIL_TIME) (peakOfBlock z) ∧
    ((d.prgOf n).sil.silent = d.fbit R.PGT_STAT_SILENT n → (d.blocksDone ecc).fbit R.PGT_STAT_SILENT n = w.sil.silent) ∧
    w.loud = (d.prgOf n).loud ∧ w.peaks = (d.prgOf n).peaks ∧ w.active = (d.prgOf n).active := by
  obtain ⟨e, rets, hapart, hgiven, hprg, hstat⟩ := Dev.blocksDone_once (d := d) ecc hn hon
  have hin : Dev.Intake n e (e.intaken n d.grid.prg rets) := .sources rets _ e
  have happlied : (e.intaken n d.grid.prg rets).regs.applied = d.regs.applied := by rw [hin.regs, hapart.within.applied]
  have hbit (f : Fld) (hs : f.staged = false) (hf : f.at n = R.PGT_STAT.at n) : e.fbit f n = d.fbit f n := by
    rw [Dev.fbit, Dev.fget_imm hs, hf, hapart.stat, ← hf, ← Dev.fget_imm hs, Dev.fbit]
  have hplay : ((e.intaken n d.grid.prg rets).prgPlay n d.grid.prg).1 = some (silence, 0) := by
    refine Dev.prgPlay_silence (a := a) (arg := arg) (m := m) ?_ ?_ ?_ ?_ ?_ ?_
    · rw [hin.prg, hapart.prg, hxf]
    · rw [hin.prg, hapart.prg, hactive]
    · rw [Dev.srcRef_congr happlied (by rw [hin.prg, hapart.prg]), hsrc]
    · rw [Dev.policy_congr happlied (hin.beside.tadpole.trans hapart.tadpole)]
      exact hpolicy
    · rw [Dev.fbit, Dev.fget_of_regs hin.regs, ← Dev.fbit, hbit R.PGT_STAT_SLEW rfl rfl, hslew]
    · rw [hin.prg, hapart.prg, htrim]
  rw [hmet] at hprg hstat hgiven
  rw [if_neg (by decide), hplay] at hgiven
  have hout' : (d.prgOf n).outOf (some (silence, 0)) = delivered (d.prgOf n).last (d.prgOf n).gap false silence := by
    show delivered _ _ false (silence.map (both sat24)) = _
    rw [silence_sat]
  obtain ⟨-, hout, hgap, hsil, -, hkept, -, hsilent⟩ := hgiven
  rw [hapart.prg] at hout hsil hkept hsilent
  rw [hout'] at hout hsil
  rw [hapart.within.fget (.inl rfl), hapart.within.fget (.inl rfl)] at hsil
  rw [← hprg] at hout hgap hsil hkept hsilent
  refine ⟨hout, hgap, hsil, fun hwas => ?_, hkept⟩
  have hshown : (d.blocksDone ecc).fbit R.PGT_STAT_SILENT n =
      (e.prgBlock n d.grid.prg rets false).fbit R.PGT_STAT_SILENT n := by
    rw [Dev.fbit_imm rfl rfl, Dev.fbit_imm rfl rfl]
    exact congrArg (fun w : Word => bitAt w.toNat 8) hstat
  rw [hshown]
  exact hsilent (by rw [hbit R.PGT_STAT_SILENT rfl rfl, hwas])

/-! ### An FM source -/

/-- A block in the ring of the context of an FM source is taken. -/
theorem Dev.blocksDone_fm {b : Blk} {arg m : Nat} (hn : n < 128) (hon : (d.prgOf n).on = true) (hi : i ∈ d.srcIdx n) (hsrc : d.srcRef n i = some (1, arg, m))
    (hring : (d.ctxOf 0 arg).ring = [b]) (hmark : b.mark ≠ 2) (hfresh : d.grid.prg < b.ready + Config.sysPerMs) :
    let c := d.srcOf n i
    let w := (d.blocksDone ecc).srcOf n i
    w.hist = ({ b with pcm := delivered c.last c.gap false b.pcm } :: c.hist).take 5700 ∧ w.gap = false ∧
    w.env.head? = some (envDb (envSum (delivered c.last c.gap false b.pcm)) 48) := by
  obtain ⟨e, rets, hapart, hgiven, hprg, -⟩ := Dev.blocksDone_once (d := d) ecc hn hon
  have hidx : i ∈ e.srcIdx n := by rw [Dev.srcIdx_congr hapart.within.applied (by rw [hapart.prg])]; exact hi
  obtain ⟨f, hin, hsrcOf, htaken⟩ := Dev.intaken_once (d := e) (p := n) (t := d.grid.prg) rets hidx
  have happlied : f.regs.applied = d.regs.applied := by rw [hin.regs, hapart.within.applied]
  have hfm := Dev.srcIntake_fm (d := f) (p := n) (i := i) (t := d.grid.prg) rets
    (by rw [Dev.srcRef_congr happlied (by rw [hin.prg, hapart.prg]), hsrc])
    (by rw [Dev.ctxOf, hin.beside.ctx, hapart.ctx, ← Dev.ctxOf, hring]) hmark hfresh
  have hc : f.srcOf n i = d.srcOf n i := by rw [hsrcOf, Dev.srcOf, hapart.prg, Dev.srcOf]
  have hw : (d.blocksDone ecc).srcOf n i = (f.srcIntake n i d.grid.prg rets).srcOf n i := by
    rw [← htaken, Dev.srcOf, hprg, hgiven.srcs, ← Dev.srcOf]
  rw [hc] at hfm
  intro c w
  rw [show w = (f.srcIntake n i d.grid.prg rets).srcOf n i from hw]
  exact hfm

/-! ### Errors of the delay memory -/

theorem Dev.blocksDone_reg {k : Nat} (hk : k ∉ blocksRegs) : (d.blocksDone ecc).reg k = (d.blocksBegun ecc).reg k := by
  rw [Dev.blocksDone, Dev.reg_of_regs (Dev.blocksClosed_parts.1.trans Dev.ringsTaken_parts.1), (Dev.blocksGiven_within _).1.reg _ hk]

theorem mon_apart_blocks {k : Nat} (hk : k < 0x2000) (hevt : k ≠ R.PRG_EVT.at 0) (haudio : k ≠ R.BOOT_T_AUDIO.at 0) : k ∉ blocksRegs := by
  intro h
  simp only [blocksRegs, List.mem_append, List.mem_map, List.mem_cons, List.not_mem_nil, or_false] at h
  obtain ⟨q, -, hq⟩ | h | h := h
  · simp only [Fld.at, R.PGT_STAT] at hq
    omega
  · exact hevt h
  · exact haudio h

/-- An uncorrectable error of the delay memory is counted. -/
theorem counted_uncorrectable (word : Nat) : Counted s { s with dev := s.dev.blocksDone (some (p, true, word)) } R.MON_ECC_UNC_COUNT 1 := by
  have hreg : (s.dev.blocksDone (some (p, true, word))).reg (R.MON_ECC_UNC_COUNT.at 1) =
      (Dev.eccMet { s.dev with scoreBlank := s.dev.scoreBlank || s.dev.blanking } (some (p, true, word))).reg (R.MON_ECC_UNC_COUNT.at 1) :=
    Dev.blocksDone_reg (mon_apart_blocks (by decide) (by decide) (by decide))
  have hnoted : ∀ d : Dev, ((d.eccUncorrectable 1).errorRecord 1 1 word).reg (R.MON_ECC_UNC_COUNT.at 1) = (d.bump R.MON_ECC_UNC_COUNT 1).reg (R.MON_ECC_UNC_COUNT.at 1) := by
    intro d
    have hevent : (d.eccUncorrectable 1).reg (R.MON_ECC_UNC_COUNT.at 1) = ((d.bump R.MON_ECC_UNC_COUNT 1).event R.MON_EVT_UNCORR).reg (R.MON_ECC_UNC_COUNT.at 1) := rfl
    rw [(Dev.BlockCalm.errorRecord 1 1 word).within.reg _ (by decide), hevent, Dev.reg_event, if_neg (by decide)]
  exact hreg.trans ((hnoted _).trans (counted_bump s R.MON_ECC_UNC_COUNT 1))

/-- A corrected error is counted where no programme runs. -/
theorem blocksDone_corrected (hlive : s.dev.prgLive = []) (word : Nat) :
    Counted s { s with dev := s.dev.blocksDone (some (p, false, word)) } R.MON_ECC_CORR_COUNT 1 ∧
    Only [R.MON_ECC_CORR.at 1] s { s with dev := s.dev.blocksDone (some (p, false, word)) } := by
  have hreg : (s.dev.blocksDone (some (p, false, word))).reg (R.MON_ECC_CORR_COUNT.at 1) = (s.dev.bump R.MON_ECC_CORR_COUNT 1).reg (R.MON_ECC_CORR_COUNT.at 1) :=
    (Dev.blocksDone_reg (mon_apart_blocks (by decide) (by decide) (by decide))).trans rfl
  obtain ⟨hbegun, hprg, -⟩ := Dev.BlockCalm.blocksBegun (d := s.dev) (some (p, false, word))
  generalize hb : s.dev.blocksBegun (some (p, false, word)) = b at *
  have hfilt : Dev.Filters b (Dev.retBlocks s.dev.grid.prg b.pairs b).2 := .retBlocks b.pairs b
  have hnone : (Dev.retBlocks s.dev.grid.prg b.pairs b).2.prgLive = [] := by
    rw [← hlive, Dev.prgLive, Dev.prgLive]
    simp only [Dev.prgOf, hfilt.prg, hprg]
  have hdone : (s.dev.blocksDone (some (p, false, word))).regs = b.regs := by
    rw [Dev.blocksDone, Dev.blocksClosed_parts.1.trans Dev.ringsTaken_parts.1, hb, Dev.blocksGiven, hnone]
    exact hfilt.regs
  exact ⟨hreg.trans (counted_bump s R.MON_ECC_CORR_COUNT 1), (hbegun.beside hdone).only⟩

end
end Sys2Proof.Machine

/-!
SUPPORT. Loudness, the reference comparison and the measurement window of programmes (R315 to R320, R323, R324).
-/
namespace Sys2Proof.Machine

section
variable {d e g : Dev} {s : State} {n p q i j t : Nat} {l : List Nat} {α : Type}

/-! ### Loudness -/

/-- A loudness below −70.0 LUFS is no value. -/
theorem lufsOf_ge {sum k : Nat} {v : Int} (h : lufsOf sum k = some v) : -700 ≤ v := by
  unfold lufsOf at h
  dsimp only at h
  split at h
  · cases h
  · split at h
    · cases h
    · rename_i hge
      cases h
      exact Int.not_lt.1 hge

theorem LoudSt.lufs_ge {m : LoudSt} {k : Nat} {v : Int} (h : m.lufs k = some v) : -700 ≤ v := by
  unfold LoudSt.lufs at h
  split at h
  · cases h
  · exact lufsOf_ge h

/-- The mean squares of the gating blocks once 100 ms have ended. -/
def PrgSt.gatesNext (g : PrgSt) : List Nat :=
  if 1 < g.gateWait ∨ (g.meter.close.span 4).2 = 0 then g.gates else divNear (g.meter.close.span 4).1 (g.meter.close.span 4).2 :: g.gates

/-- A programme whose meters have ended 100 ms. -/
def PrgSt.louder (g : PrgSt) : PrgSt :=
  { g with meter := g.meter.close, gates := g.gatesNext, gateWait := g.gateWait - 1,
           loud := (g.meter.close.lufs 4, g.meter.close.lufs 30, integrated g.gatesNext), peaks := (g.tp :: g.peaks).take 30, tp := 0 }

/-- A source whose meter has ended 100 ms. -/
def SrcSt.louder (c : SrcSt) : SrcSt := { c with meter := c.meter.close, loud := c.meter.close.lufs 30 }

theorem Dev.prgLoud_eq : d.prgLoud p = (d.updPrg p PrgSt.louder).each ((d.updPrg p PrgSt.louder).srcIdx p) (fun d i => d.updSrc p i SrcSt.louder) := rfl

/-- What each source of a programme does to itself. -/
theorem Dev.each_updSrc (f : SrcSt → SrcSt) {l : List Nat} (hnodup : l.Nodup) (d : Dev) :
    Dev.Intake p d (d.each l (fun d i => d.updSrc p i f)) ∧
    ∀ i, (d.each l (fun d i => d.updSrc p i f)).srcOf p i = if i ∈ l then f (d.srcOf p i) else d.srcOf p i := by
  induction l generalizing d with
  | nil => exact ⟨.refl, fun i => (if_neg List.not_mem_nil).symm⟩
  | cons a l ih =>
    obtain ⟨hnot, hrest⟩ := List.nodup_cons.1 hnodup
    obtain ⟨hin, hsrc⟩ := ih hrest (d.updSrc p a f)
    refine ⟨(Dev.SrcStep.updSrc f).toIntake.trans hin, fun i => (hsrc i).trans ?_⟩
    rw [Dev.srcOf_updSrc]
    by_cases ha : i = a
    · subst ha
      rw [if_neg hnot, if_pos rfl, if_pos List.mem_cons_self]
    · simp [ha]

/-- 100 ms of one programme. -/
theorem Dev.prgLoud_parts : Dev.Beside p d (d.prgLoud p) ∧ (d.prgLoud p).regs = d.regs ∧
    (d.prgLoud p).prgOf p = { (d.prgOf p).louder with srcs := ((d.prgLoud p).prgOf p).srcs } ∧
    ∀ i ∈ d.srcIdx p, (d.prgLoud p).srcOf p i = (d.srcOf p i).louder := by
  have hprg : (d.updPrg p PrgSt.louder).prgOf p = (d.prgOf p).louder := Dev.prgOf_updPrg_same ..
  have hidx : (d.updPrg p PrgSt.louder).srcIdx p = d.srcIdx p := Dev.srcIdx_congr rfl (by rw [hprg]; rfl)
  have hsrc (i : Nat) : (d.updPrg p PrgSt.louder).srcOf p i = d.srcOf p i := by rw [Dev.srcOf, hprg]; rfl
  have hnodup : (d.srcIdx p).Nodup := List.nodup_range.filter _
  obtain ⟨hin, hrest⟩ := Dev.each_updSrc (p := p) SrcSt.louder hnodup (d.updPrg p PrgSt.louder)
  rw [Dev.prgLoud_eq, hidx]
  refine ⟨(Dev.Beside.updPrg _).trans hin.beside, hin.regs, ?_, fun i hi => ?_⟩
  · rw [hin.prg, hprg]
  · rw [hrest, if_pos hi, hsrc]

theorem Dev.each_prgLoud_regs (l : List Nat) (d : Dev) : (d.each l (fun d p => d.prgLoud p)).regs = d.regs := by
  induction l generalizing d with
  | nil => rfl
  | cons a l ih => exact (ih (d.prgLoud a)).trans Dev.prgLoud_parts.2.1

/-- The block in which no loudness update is due any more. -/
def Dev.loudTaken (d : Dev) : Dev := { d with grid := { d.grid with loud := false } }

theorem exec_loudnessUpdate_due (hruns : s.dev.geckoRuns = true) (hdue : s.dev.grid.loud = true) :
    exec .loudnessUpdate s = .next { s with dev := s.dev.loudTaken.each s.dev.prgLive (fun d p => d.prgLoud p) } := by
  show execLoudnessUpdate s = _
  simp only [execLoudnessUpdate, nextDev, hruns, hdue, Bool.not_true, Bool.false_eq_true, if_false, if_true]
  rfl

theorem exec_loudnessUpdate_not (h : s.dev.geckoRuns = false ∨ s.dev.grid.loud = false) : exec .loudnessUpdate s = .next s := by
  show execLoudnessUpdate s = _
  obtain h | h := h
  · simp [execLoudnessUpdate, nextDev, h]
  · simp [execLoudnessUpdate, nextDev, h]

/-- 100 ms of every running programme end. -/
theorem Dev.loudness_parts (hn : n < 128) (hon : (d.prgOf n).on = true) :
    let e := d.loudTaken.each d.prgLive (fun d p => d.prgLoud p)
    e.regs = d.regs ∧ e.grid.loud = false ∧ (∃ m, e.prgOf n = { (d.prgOf n).louder with srcs := m }) ∧
    ∀ i ∈ d.srcIdx n, (e.srcOf n i) = (d.srcOf n i).louder := by
  intro e
  have hbeside : ∀ d p, Dev.Beside p d (Dev.prgLoud d p) := fun _ _ => Dev.prgLoud_parts.1
  have hmem : ∀ p ∈ d.prgLive, p < 128 := fun _ h => (Dev.mem_prgLive.1 h).1
  obtain ⟨b, hbefore, hafter⟩ := Dev.each_once (n := n) hbeside hmem Dev.prgLive_nodup (Dev.mem_prgLive.2 ⟨hn, hon⟩) d.loudTaken
  obtain ⟨-, -, hprg, hsrc⟩ := Dev.prgLoud_parts (d := b) (p := n)
  have hb : b.prgOf n = d.prgOf n := hbefore.prg
  have hidx : b.srcIdx n = d.srcIdx n := Dev.srcIdx_congr hbefore.within.applied (by rw [hb])
  refine ⟨Dev.each_prgLoud_regs _ _, ?_, ⟨((b.prgLoud n).prgOf n).srcs, ?_⟩, fun i hi => ?_⟩
  · rw [(Dev.each_within hbeside hmem d.loudTaken).2.1]
    rfl
  · rw [hafter.prg, hprg, hb]
  · rw [Dev.srcOf, hafter.prg, ← Dev.srcOf, hsrc i (hidx ▸ hi), Dev.srcOf, hb, Dev.srcOf]

/-- A programme whose integrated loudness starts again. -/
def PrgSt.loudCleared (g : PrgSt) : PrgSt := { g with loud := (g.loud.1, g.loud.2.1, none), gates := [], gateWait := if g.meter.n = 0 then 4 else 5 }

theorem exec_clrLoud : exec .clrLoud s = .next { s with dev := s.dev.each s.dev.prgLive (fun d p => d.updPrg p PrgSt.loudCleared) } := rfl

/-! ### The measurement window -/

/-- From `d` to `e` registers below the tables change, and nothing else. -/
structure Dev.LowRegs (d e : Dev) : Prop where
  same : e = { d with regs := e.regs }
  within : ∃ l, Dev.Within l d e ∧ ∀ k ∈ l, k < 0x1000

theorem Dev.LowRegs.refl : Dev.LowRegs d d := ⟨rfl, [], .refl, fun _ h => absurd h List.not_mem_nil⟩

theorem Dev.LowRegs.trans (h₁ : Dev.LowRegs d e) (h₂ : Dev.LowRegs e g) : Dev.LowRegs d g := by
  obtain ⟨hsame, l₁, hw₁, hl₁⟩ := h₁
  obtain ⟨hsame', l₂, hw₂, hl₂⟩ := h₂
  refine ⟨by rw [hsame', hsame], l₁ ++ l₂, ?_, ?_⟩
  · exact (hw₁.mono (fun _ h => List.mem_append_left _ h)).trans (hw₂.mono (fun _ h => List.mem_append_right _ h))
  · exact fun i hi => (List.mem_append.1 hi).elim (hl₁ i) (hl₂ i)

theorem Dev.LowRegs.fput (h : Dev.LowRegs d e) {f : Fld} {k v : Nat} (hk : f.at k < 0x1000) : Dev.LowRegs d (e.fput f k v) := by
  obtain ⟨hsame, l, hw, hl⟩ := h
  refine ⟨?_, f.at k :: l, (hw.mono (fun _ hi => List.mem_cons_of_mem _ hi)).fput List.mem_cons_self, ?_⟩
  · rw [hsame]
    rfl
  · intro j hj
    obtain rfl | hj := List.mem_cons.1 hj
    · exact hk
    · exact hl j hj

section
variable (h : Dev.LowRegs d e)
include h

theorem Dev.LowRegs.keeps (f : Dev → α) (hf : ∀ (d : Dev) r, f { d with regs := r } = f d) : f e = f d := by rw [h.same, hf]

theorem Dev.LowRegs.fget {f : Fld} {k : Nat} (hf : f.staged = true ∨ 0x1000 ≤ f.at k) : e.fget f k = d.fget f k := by
  obtain ⟨-, l, hw, hl⟩ := h
  exact hw.fget (hf.imp_right (fun hge hmem => absurd (hl _ hmem) (Nat.not_lt.2 hge)))

theorem Dev.LowRegs.prgOf (p : Nat) : e.prgOf p = d.prgOf p := h.keeps (fun d => d.prgOf p) (fun _ _ => rfl)
theorem Dev.LowRegs.srcOf (p i : Nat) : e.srcOf p i = d.srcOf p i := h.keeps (fun d => d.srcOf p i) (fun _ _ => rfl)
theorem Dev.LowRegs.refs : e.refs = d.refs := h.keeps (·.refs) (fun _ _ => rfl)

theorem Dev.LowRegs.srcRef (p i : Nat) : e.srcRef p i = d.srcRef p i := by
  obtain ⟨-, l, hw, -⟩ := id h
  exact Dev.srcRef_congr hw.applied (by rw [h.prgOf])

theorem Dev.LowRegs.slotOf (p i : Nat) : e.slotOf p i = d.slotOf p i := by rw [Dev.slotOf, h.fget (.inl rfl), h.fget (.inl rfl), Dev.slotOf]

theorem Dev.LowRegs.since (k : Nat) : e.since k = d.since k := h.keeps (fun d => d.since k) (fun _ _ => rfl)

theorem Dev.LowRegs.kpNow (p : Nat) : e.kpNow p = d.kpNow p := by
  rw [Dev.kpNow, h.prgOf, h.since, h.fget (.inl rfl), Dev.kpNow]

theorem Dev.LowRegs.trimNow (p : Nat) : e.trimNow p = d.trimNow p := by
  have htrim (a : Int) (k : Nat) : e.trimAt a k = d.trimAt a k := by rw [Dev.trimAt, h.since, h.fget (.inl rfl), Dev.trimAt]
  rw [Dev.trimNow, h.prgOf, htrim, Dev.trimNow]

theorem Dev.LowRegs.srcDsc (b sid : Nat) : e.srcDsc b sid = d.srcDsc b sid := by
  have haudio : e.audioSub b sid = d.audioSub b sid := h.keeps (fun d => d.audioSub b sid) (fun _ _ => rfl)
  have hstate (k : Nat) : e.dscState k = d.dscState k := h.fget (.inr (by simp only [Fld.at, ctxFld, poolBase]; omega))
  have hmanaged (k : Nat) : e.ctxManaged 4 k = d.ctxManaged 4 k := h.keeps (fun d => d.ctxManaged 4 k) (fun _ _ => rfl)
  have hctx (k : Nat) : e.ctxOf 4 k = d.ctxOf 4 k := h.keeps (fun d => d.ctxOf 4 k) (fun _ _ => rfl)
  have htarget (k : Nat) : e.dscTarget k = d.dscTarget k := by
    rw [Dev.dscTarget, hmanaged, hctx, h.fget (.inl rfl), h.fget (.inl rfl), Dev.dscTarget]
  have hbit (k : Nat) : e.fbit R.DSC_CTL_AUDIO k = d.fbit R.DSC_CTL_AUDIO k := by rw [Dev.fbit, h.fget (.inl rfl), Dev.fbit]
  simp only [Dev.srcDsc, haudio, Dev.dscServing, hstate, htarget, hmanaged, hbit]

/-- An entry of the measurement window does not read the window. -/
theorem Dev.LowRegs.prgEntry (p page k : Nat) : e.prgEntry p page k = d.prgEntry p page k := by
  simp only [Dev.prgEntry, Dev.kpMs, h.prgOf, h.srcOf, h.refs, h.kpNow, h.trimNow, h.srcRef, h.srcDsc, h.slotOf]

end

/-- The window of programme `p`, as the write of its entries one after the other shows it. -/
def Dev.windowShown (d : Dev) (p page : Nat) (on : Bool) (l : List Nat) : Dev :=
  d.each l (fun d k => d.fput R.PRG_MEAS_VALUE k (if on then d.prgEntry p page k else noValue))

theorem Dev.windowShown_parts {page : Nat} {on : Bool} (l : List Nat) (hl : ∀ k ∈ l, k < 30) (d : Dev) : Dev.LowRegs d (d.windowShown p page on l) ∧
    Dev.Within (l.map (fun k => R.PRG_MEAS.at k)) d (d.windowShown p page on l) ∧
    ∀ k, k ∈ l → (d.windowShown p page on l).fget R.PRG_MEAS_VALUE k = (if on then d.prgEntry p page k else noValue) % 65536 := by
  induction l generalizing d with
  | nil => exact ⟨.refl, .refl, fun k hk => absurd hk List.not_mem_nil⟩
  | cons a l ih =>
    have ha : a < 30 := hl a List.mem_cons_self
    have hlow : Dev.LowRegs d (d.fput R.PRG_MEAS_VALUE a (if on then d.prgEntry p page a else noValue)) :=
      Dev.LowRegs.refl.fput (by simp only [Fld.at, R.PRG_MEAS_VALUE]; omega)
    obtain ⟨hrest, hwithin, hget⟩ := ih (fun k hk => hl k (List.mem_cons_of_mem _ hk)) (d.fput R.PRG_MEAS_VALUE a (if on then d.prgEntry p page a else noValue))
    have hone : Dev.Within ((a :: l).map (fun k => R.PRG_MEAS.at k)) d (d.fput R.PRG_MEAS_VALUE a (if on then d.prgEntry p page a else noValue)) :=
      Dev.within_fput (by simp [Fld.at, R.PRG_MEAS_VALUE, R.PRG_MEAS])
    refine ⟨hlow.trans hrest, hone.trans (hwithin.mono (fun i hi => List.mem_cons_of_mem _ hi)), fun k hk => ?_⟩
    by_cases hkl : k ∈ l
    · refine (hget k hkl).trans ?_
      rw [hlow.prgEntry]
    · obtain rfl : k = a := (List.mem_cons.1 hk).resolve_right hkl
      have hout : R.PRG_MEAS_VALUE.at k ∉ l.map (fun j => R.PRG_MEAS.at j) := by
        intro hmem
        obtain ⟨j, hj, heq⟩ := List.mem_map.1 hmem
        have hjk : j = k := by simpa [Fld.at, R.PRG_MEAS, R.PRG_MEAS_VALUE] using heq
        exact hkl (hjk ▸ hj)
      exact (hwithin.fget (.inr hout)).trans (Dev.fget_fput _ _ _ _ (by decide) (by decide) rfl)

end
end Sys2Proof.Machine

/-!
SUPPORT. The reference comparison of a programme, second by second (R315 to R318).
-/
namespace Sys2Proof.Machine

section
variable {d e g : Dev} {s : State} {p : Nat} {n : Fin 128}

/-! ### The comparison in its parts -/

/-- Two delays within 2 ms of each other. -/
def agrees (prev found : Option Nat) : Bool := match prev, found with | some y, some x => decide (((x : Int) - y).natAbs ≤ 2) | _, _ => false

/-- A programme whose search has found the delay `found`. -/
def PrgSt.sought (g : PrgSt) (found : Option Nat) : PrgSt :=
  { g with refDue := false, refPrev := found, refD := if agrees g.refPrev found then found else g.refD }

/-- The block with the delay found by the search of programme `p`. -/
def Dev.refSought (d : Dev) (p : Nat) (found : Option Nat) : Dev := d.updPrg p (fun g => g.sought found)

/-- The reference locks where two delays agree and no mismatch stands. -/
def Dev.refLocked (d : Dev) (p : Nat) (agree : Bool) : Dev := if agree && !d.fbit R.PGT_STAT_MISMATCH p then d.setRefLock p true else d

/-- The lag at which the similarity is taken. -/
def Dev.refLag (d : Dev) (p : Nat) (found : Option Nat) : Int := if d.fbit R.PGT_STAT_REF_LOCK p then ((d.prgOf p).refD.getD 0 : Nat) else (found.getD 0 : Nat)

/-- The reference of a programme in state `g` is silent at the lag in force. -/
def Dev.refSilent (d : Dev) (p : Nat) (g : PrgSt) (found : Option Nat) : Bool := envSilent (d.fget R.PRG_SIL_TH) (g.envR.drop (d.refLag p found).toNat)

/-- The similarity of a programme in state `g` with its reference. -/
def Dev.refSim (d : Dev) (p : Nat) (g : PrgSt) (found : Option Nat) : Nat :=
  if envSilent (d.fget R.PRG_SIL_TH) g.envO != d.refSilent p g found then 0 else (g.refCorr (d.refLag p found)).score

/-- The reference has lost its clock. -/
def Dev.refLostNow (d : Dev) (p : Nat) (g : PrgSt) : Bool := g.refLost || d.pairLost (d.fget R.PGT_REF_KIND p + 5) (d.fget R.PGT_REF_ARG p)

/-- A programme of similarity `sim`. -/
def PrgSt.similar (g : PrgSt) (sim : Nat) : PrgSt := { g with sim := sim, refLost := false }

/-- The seconds below and above the threshold `th` with one of similarity `sim`. -/
def PrgSt.counted (g : PrgSt) (sim th : Nat) : PrgSt :=
  { g with low := if sim < th then min (g.low + 1) 65535 else 0, high := if th + 50 ≤ sim then min (g.high + 1) 65535 else 0 }

/-- The block with the similarity of programme `p` judged. -/
def Dev.refRated (d : Dev) (p : Nat) (g : PrgSt) (found : Option Nat) : Dev :=
  let sim := d.refSim p g found
  if (envSilent (d.fget R.PRG_SIL_TH) g.envO && d.refSilent p g found) || d.refLostNow p g then d.updPrg p (fun g => g.similar sim)
  else ((d.updPrg p (fun g => g.similar sim)).updPrg p (fun g => g.counted sim (4 * d.fget R.PRG_REF_TH))).refJudge p

theorem exec_referenceSearch_not (h : s.dev.geckoRuns = false ∨ n.val ∉ s.dev.refs ∨ (s.dev.prgOf n).refDue = false) : exec (.referenceSearch n) s = .next s := by
  show execReferenceSearch n s = _
  rw [execReferenceSearch, nextDev]
  refine congrArg (fun d => Host.Outcome.next { s with dev := d }) ?_
  dsimp only
  by_cases hruns : s.dev.geckoRuns = true
  · obtain h | h | h := h
    · exact absurd hruns (by rw [h]; decide)
    · simp [hruns, h]
    · simp [hruns, h]
  · simp [hruns]

/-- The search does not read whether it is due. -/
theorem Dev.refFound_due : (d.updPrg p (fun g => { g with refDue := false })).refFound p = d.refFound p := by
  have hprg : (d.updPrg p (fun g => { g with refDue := false })).prgOf p = { d.prgOf p with refDue := false } := Dev.prgOf_updPrg_same ..
  have hbit : (d.updPrg p (fun g => { g with refDue := false })).fbit R.PGT_STAT_REF_LOCK p = d.fbit R.PGT_STAT_REF_LOCK p := rfl
  rw [Dev.refFound, hprg, hbit]
  rfl

/-- Two changes of one programme are one. -/
theorem Dev.updPrg_updPrg (f h : PrgSt → PrgSt) : ((d.updPrg p f).updPrg p h).prgOf = (d.updPrg p (fun g => h (f g))).prgOf ∧
    ((d.updPrg p f).updPrg p h) = { d with prg := ((d.updPrg p f).updPrg p h).prg } := by
  refine ⟨?_, rfl⟩
  funext q
  by_cases hq : q = p
  · subst hq
    rw [Dev.prgOf_updPrg_same, Dev.prgOf_updPrg_same, Dev.prgOf_updPrg_same]
  · rw [Dev.prgOf_updPrg, if_neg hq, Dev.prgOf_updPrg, if_neg hq, Dev.prgOf_updPrg, if_neg hq]

/-- The block once the delay found is kept. -/
def Dev.refTaken (d : Dev) (p : Nat) (found : Option Nat) (agree : Bool) : Dev :=
  (d.updPrg p (fun g => { g with refDue := false })).updPrg p (fun g => { g with refPrev := found, refD := if agree then found else g.refD })

theorem Dev.refTaken_parts (found : Option Nat) : (d.refTaken p found (agrees (d.prgOf p).refPrev found)).prgOf p = (d.prgOf p).sought found ∧
    (d.refTaken p found (agrees (d.prgOf p).refPrev found)).regs = d.regs ∧ (d.refTaken p found (agrees (d.prgOf p).refPrev found)).prt = d.prt := by
  refine ⟨?_, rfl, rfl⟩
  rw [Dev.refTaken, Dev.prgOf_updPrg_same, Dev.prgOf_updPrg_same]
  rfl

theorem exec_referenceSearch_due (hruns : s.dev.geckoRuns = true) (hset : n.val ∈ s.dev.refs) (hdue : (s.dev.prgOf n).refDue = true) :
    exec (.referenceSearch n) s = .next { s with dev := ((s.dev.refTaken n (s.dev.refFound n) (agrees (s.dev.prgOf n).refPrev (s.dev.refFound n))).refLocked n
      (agrees (s.dev.prgOf n).refPrev (s.dev.refFound n))).refRated n (s.dev.prgOf n) (s.dev.refFound n) } := by
  have hnot : ¬ (!s.dev.refs.contains n.val || !(s.dev.prgOf n).refDue) = true := by simp [hset, hdue]
  have hg : (s.dev.updPrg n (fun g => { g with refDue := false })).prgOf n = { s.dev.prgOf n with refDue := false } := Dev.prgOf_updPrg_same ..
  show execReferenceSearch n s = _
  rw [execReferenceSearch, nextDev]
  simp only [hruns, Bool.not_true, Bool.false_eq_true, if_false, hnot, hg, Dev.refFound_due]
  rfl

/-! ### The lock -/

theorem Dev.fget_fbit {f : Fld} {k : Nat} (hs : f.staged = false) (hone : f.hi = f.lo) : d.fget f k = b2n (d.fbit f k) := by
  rw [Dev.fbit, Dev.fget_imm hs, hone, bitsOf_one]
  cases bitAt (d.reg (f.at k)).toNat f.lo <;> rfl

/-- The registers of a comparison. -/
def refRegs (p : Nat) : List Nat := [R.PGT_STAT.at p, R.PRG_EVT.at 0]

/-- From `d` to `e` the status of programme `p` changes, and its flags; the ports stand. -/
structure Dev.RefStep (p : Nat) (d e : Dev) : Prop where
  within : Dev.Within (refRegs p) d e
  prg : e.prgOf p = { d.prgOf p with flags := (e.prgOf p).flags }
  prt : e.prt = d.prt
  evt : ∀ k, bitAt (d.reg (R.PRG_EVT.at 0)).toNat k = true → bitAt (e.reg (R.PRG_EVT.at 0)).toNat k = true

theorem Dev.RefStep.refl : Dev.RefStep p d d := ⟨.refl, rfl, rfl, fun _ h => h⟩

theorem Dev.RefStep.trans (h₁ : Dev.RefStep p d e) (h₂ : Dev.RefStep p e g) : Dev.RefStep p d g :=
  ⟨h₁.within.trans h₂.within, by rw [h₂.prg, h₁.prg], h₂.prt.trans h₁.prt, fun k hk => h₂.evt k (h₁.evt k hk)⟩

theorem Dev.RefStep.fputB {f : Fld} (hf : f.at p = R.PGT_STAT.at p) (b : Bool) : Dev.RefStep p d (d.fputB f p b) := by
  refine ⟨Dev.within_fput (by rw [hf]; exact List.mem_cons_self), rfl, rfl, fun k hk => ?_⟩
  rw [Dev.fputB, Dev.reg_fput, if_neg (by rw [hf]; exact Ne.symm (pgtStat_apart (by decide)))]
  exact hk

theorem Dev.RefStep.prgFlag (k : Nat) : Dev.RefStep p d (d.prgFlag p k) := by
  have h := Dev.Noted.prgFlag (d := d) (p := p) k
  refine ⟨Dev.Within.of_same_regs (g := d.updPrg p (fun g => { g with flags := g.flags ||| 2 ^ k })) (Dev.within_setEvtBits (by simp [refRegs, Fld.at])) rfl,
    ?_, by simp [Dev.prgFlag, Dev.updPrg], (Dev.Aligning.prgFlag d p k).evt⟩
  have hprg : (d.prgFlag p k).prg = (d.updPrg p (fun g => { g with flags := g.flags ||| 2 ^ k })).prg := by simp only [Dev.prgFlag, Dev.setEvtBits_parts]
  simp [Dev.prgOf, hprg]

/-- A bit of the status stands while a flag is set. -/
theorem Dev.fget_prgFlag {f : Fld} (hf : f.at p = R.PGT_STAT.at p) (k : Nat) : (d.prgFlag p k).fget f p = d.fget f p :=
  Dev.fget_setEvtBits_other (.inr (by rw [hf]; exact pgtStat_apart (by decide)))

theorem Dev.setRefLock_parts (b : Bool) : Dev.RefStep p d (d.setRefLock p b) ∧ (d.setRefLock p b).fget R.PGT_STAT_REF_LOCK p = b2n b ∧
    (d.setRefLock p b).fget R.PGT_STAT_MISMATCH p = d.fget R.PGT_STAT_MISMATCH p := by
  unfold Dev.setRefLock
  split
  · rename_i hsame
    exact ⟨.refl, by rw [Dev.fget_fbit rfl rfl, hsame], rfl⟩
  · refine ⟨(Dev.RefStep.fputB (f := R.PGT_STAT_REF_LOCK) rfl b).trans (.prgFlag 7), ?_, ?_⟩
    · rw [Dev.fget_prgFlag (f := R.PGT_STAT_REF_LOCK) rfl, Dev.fget_fbit rfl rfl, Dev.fbit_fputB _ _ _ rfl rfl (by decide)]
    · rw [Dev.fget_prgFlag (f := R.PGT_STAT_MISMATCH) rfl]
      exact Dev.fget_fput_apart _ _ (by decide) (.inr (by decide))

theorem Dev.refLocked_parts (agree : Bool) (hmis : d.fbit R.PGT_STAT_MISMATCH p = false) : Dev.RefStep p d (d.refLocked p agree) ∧
    (d.refLocked p agree).fget R.PGT_STAT_REF_LOCK p = (if agree then 1 else d.fget R.PGT_STAT_REF_LOCK p) ∧
    (d.refLocked p agree).fget R.PGT_STAT_MISMATCH p = d.fget R.PGT_STAT_MISMATCH p := by
  rw [Dev.refLocked, hmis]
  cases agree
  · exact ⟨.refl, rfl, rfl⟩
  · exact Dev.setRefLock_parts true

/-! ### The judgement -/

/-- Too few seconds below the threshold, and no mismatch to end: the judgement changes nothing. -/
theorem Dev.refJudge_none (hmis : d.fbit R.PGT_STAT_MISMATCH p = false) (hlow : (d.prgOf p).low < d.fget R.PRG_REF_TIME) : d.refJudge p = d := by
  simp [Dev.refJudge, hmis, Nat.not_le.2 hlow]

/-- The similarity and its seconds change, and no register, while the seconds below the threshold are too few. -/
theorem Dev.refRated_none (g : PrgSt) (found : Option Nat) (hmis : d.fbit R.PGT_STAT_MISMATCH p = false) (hlow : (d.prgOf p).low + 1 < d.fget R.PRG_REF_TIME) :
    (d.refRated p g found).regs = d.regs ∧ (d.refRated p g found).prgOf p = { d.prgOf p with
      sim := ((d.refRated p g found).prgOf p).sim, refLost := ((d.refRated p g found).prgOf p).refLost, low := ((d.refRated p g found).prgOf p).low,
      high := ((d.refRated p g found).prgOf p).high } := by
  unfold Dev.refRated
  dsimp only
  split
  · exact ⟨rfl, by rw [Dev.prgOf_updPrg_same]; rfl⟩
  · have hprg : ∀ a b, ((d.updPrg p (fun g => g.similar a)).updPrg p (fun g => g.counted a b)).prgOf p = ((d.prgOf p).similar a).counted a b := by
      intro a b
      rw [Dev.prgOf_updPrg_same, Dev.prgOf_updPrg_same]
    rw [Dev.refJudge_none]
    · rw [hprg]
      exact ⟨rfl, rfl⟩
    · exact hmis
    · rw [hprg]
      have hbound (sim th : Nat) : (((d.prgOf p).similar sim).counted sim th).low ≤ (d.prgOf p).low + 1 := by
        show (if sim < th then min ((d.prgOf p).low + 1) 65535 else 0) ≤ _
        split <;> omega
      exact lt_of_le_of_lt (hbound _ _) hlow

/-- The block in which MISMATCH of programme `p` shows. -/
def Dev.mismatchShown (d : Dev) (p : Nat) : Dev := (d.fputB R.PGT_STAT_MISMATCH p true).prgFlag p 4

/-- The block in which a mismatch has been set and counted. -/
def Dev.mismatched (d : Dev) (p : Nat) : Dev :=
  (((d.mismatchShown p).bump R.PRG_MISMATCH_COUNT).setRefLock p false).updPrg p (fun g => { g with mismatches := g.mismatches + 1, refPrev := none })

/-- The mismatch that the counted seconds set. -/
theorem Dev.refJudge_set (hmis : d.fbit R.PGT_STAT_MISMATCH p = false) (hlow : d.fget R.PRG_REF_TIME ≤ (d.prgOf p).low) : d.refJudge p = d.mismatched p := by
  simp [Dev.refJudge, hmis, hlow, Dev.mismatched, Dev.mismatchShown]

theorem Dev.mismatchShown_parts : Dev.RefStep p d (d.mismatchShown p) ∧ (d.mismatchShown p).fget R.PGT_STAT_MISMATCH p = 1 ∧
    bitAt ((d.mismatchShown p).reg (R.PRG_EVT.at 0)).toNat 4 = true := by
  refine ⟨(Dev.RefStep.fputB (f := R.PGT_STAT_MISMATCH) rfl true).trans (.prgFlag 4), ?_, ?_⟩
  · rw [Dev.mismatchShown, Dev.fget_prgFlag (f := R.PGT_STAT_MISMATCH) rfl, Dev.fget_fbit rfl rfl, Dev.fbit_fputB _ _ _ rfl rfl (by decide)]
    rfl
  · rw [Dev.mismatchShown, Dev.prgFlag, Dev.reg_setEvtBits]
    exact bitAt_or_pow (by decide)

theorem mismatchCount_apart : R.PRG_MISMATCH_COUNT.at 0 ∉ refRegs p := by
  simp only [refRegs, List.mem_cons, List.not_mem_nil, or_false, not_or]
  exact ⟨Ne.symm (pgtStat_apart (by decide)), by decide⟩

theorem Dev.mismatched_parts : (d.mismatched p).fget R.PGT_STAT_MISMATCH p = 1 ∧ (d.mismatched p).fget R.PGT_STAT_REF_LOCK p = 0 ∧
    ((d.mismatched p).prgOf p).sim = (d.prgOf p).sim ∧ ((d.mismatched p).prgOf p).mismatches = (d.prgOf p).mismatches + 1 ∧
    (d.mismatched p).reg (R.PRG_MISMATCH_COUNT.at 0) = (d.bump R.PRG_MISMATCH_COUNT).reg (R.PRG_MISMATCH_COUNT.at 0) ∧
    bitAt ((d.mismatched p).reg (R.PRG_EVT.at 0)).toNat 4 = true ∧ Dev.Within (R.PRG_MISMATCH.at 0 :: refRegs p) d (d.mismatched p) := by
  obtain ⟨hshown, hset, hevt⟩ := Dev.mismatchShown_parts (d := d) (p := p)
  obtain ⟨hlock, hoff, hstands⟩ := Dev.setRefLock_parts (d := (d.mismatchShown p).bump R.PRG_MISMATCH_COUNT) (p := p) false
  have hprg : (d.mismatched p).prgOf p = { d.prgOf p with
      flags := ((((d.mismatchShown p).bump R.PRG_MISMATCH_COUNT).setRefLock p false).prgOf p).flags, mismatches := (d.prgOf p).mismatches + 1, refPrev := none } := by
    have hbump : ((d.mismatchShown p).bump R.PRG_MISMATCH_COUNT).prgOf p = (d.mismatchShown p).prgOf p := rfl
    rw [Dev.mismatched, Dev.prgOf_updPrg_same]
    generalize (((d.mismatchShown p).bump R.PRG_MISMATCH_COUNT).setRefLock p false) = e at *
    rw [hlock.prg, hbump, hshown.prg]
  refine ⟨?_, hoff, by rw [hprg], by rw [hprg], ?_, ?_, ?_⟩
  · have hbump : ((d.mismatchShown p).bump R.PRG_MISMATCH_COUNT).fget R.PGT_STAT_MISMATCH p = (d.mismatchShown p).fget R.PGT_STAT_MISMATCH p :=
      Dev.fget_fput_apart _ _ (by decide) (.inl (pgtStat_apart (by decide)))
    exact hstands.trans (hbump.trans hset)
  · exact (hlock.within.reg _ mismatchCount_apart).trans ((hshown.within.reg_bump mismatchCount_apart).trans (Dev.Within.reg_bump (l := []) .refl List.not_mem_nil).symm)
  · refine hlock.evt 4 ?_
    rw [Dev.bump, Dev.bumpBy, Dev.reg_fput, if_neg (by decide)]
    exact hevt
  · refine (((hshown.within.mono (fun _ h => List.mem_cons_of_mem _ h)).bump ?_).trans (hlock.within.mono (fun _ h => List.mem_cons_of_mem _ h))).beside rfl
    exact List.mem_cons_self

/-- Silence of the reference alone counts as a second below the threshold, and sets the mismatch when the seconds suffice. -/
theorem Dev.refRated_mismatch (g : PrgSt) (found : Option Nat) (hmis : d.fbit R.PGT_STAT_MISMATCH p = false) (hsilent : d.refSilent p g found = true)
    (hloud : envSilent (d.fget R.PRG_SIL_TH) g.envO = false) (hlost : d.refLostNow p g = false) (hth : 0 < d.fget R.PRG_REF_TH)
    (htime : d.fget R.PRG_REF_TIME ≤ min ((d.prgOf p).low + 1) 65535) :
    d.refRated p g found = ((d.updPrg p (fun g => g.similar 0)).updPrg p (fun g => g.counted 0 (4 * d.fget R.PRG_REF_TH))).mismatched p := by
  have hsim : d.refSim p g found = 0 := by simp [Dev.refSim, hsilent, hloud]
  rw [Dev.refRated, hsim, hloud, hlost, Bool.false_and, Bool.false_or, if_neg (by decide), Dev.refJudge_set]
  · exact hmis
  · have hlow : (((d.prgOf p).similar 0).counted 0 (4 * d.fget R.PRG_REF_TH)).low = min ((d.prgOf p).low + 1) 65535 := if_pos (by omega)
    rw [Dev.prgOf_updPrg_same, Dev.prgOf_updPrg_same, hlow]
    exact htime

end
end Sys2Proof.Machine

/-!
SUPPORT. Programme blocks and meters: the comparison of a second, and the obligation (R280, R315 to R324).
-/
namespace Sys2Proof.Machine

section
variable {d : Dev} {s : State} {n : Fin 128}

/-! ### A second of the comparison -/

/-- The block when the similarity of programme `n` is judged. -/
def Dev.refHeard (d : Dev) (n : Nat) : Dev :=
  (d.refTaken n (d.refFound n) (agrees (d.prgOf n).refPrev (d.refFound n))).refLocked n (agrees (d.prgOf n).refPrev (d.refFound n))

theorem Dev.refHeard_parts {p : Nat} (hmis : d.fbit R.PGT_STAT_MISMATCH p = false) : Dev.Within (refRegs p) d (d.refHeard p) ∧
    (d.refHeard p).prgOf p = { (d.prgOf p).sought (d.refFound p) with flags := ((d.refHeard p).prgOf p).flags } ∧ (d.refHeard p).prt = d.prt ∧
    (d.refHeard p).fget R.PGT_STAT_REF_LOCK p = (if agrees (d.prgOf p).refPrev (d.refFound p) then 1 else d.fget R.PGT_STAT_REF_LOCK p) ∧
    (d.refHeard p).fbit R.PGT_STAT_MISMATCH p = false := by
  obtain ⟨hprg, hregs, hprt⟩ := Dev.refTaken_parts (d := d) (p := p) (d.refFound p)
  have hbit : (d.refTaken p (d.refFound p) (agrees (d.prgOf p).refPrev (d.refFound p))).fbit R.PGT_STAT_MISMATCH p = false := by
    rw [Dev.fbit, Dev.fget_of_regs hregs, ← Dev.fbit, hmis]
  obtain ⟨hstep, hlock, hstands⟩ := Dev.refLocked_parts (agrees (d.prgOf p).refPrev (d.refFound p)) hbit
  refine ⟨Dev.Within.of_same_regs hstep.within hregs, ?_, hstep.prt.trans hprt, ?_, ?_⟩
  · rw [Dev.refHeard, hstep.prg, hprg]
  · rw [Dev.refHeard, hlock, Dev.fget_of_regs hregs]
  · rw [Dev.refHeard, Dev.fbit, hstands, ← Dev.fbit, hbit]

/-- Seconds below the threshold that do not suffice: the search keeps its delay, and two that agree lock the reference. -/
theorem runs_referenceSearch_kept (hruns : s.dev.geckoRuns = true) (hset : n.val ∈ s.dev.refs) (hdue : (s.dev.prgOf n).refDue = true)
    (hmis : s.dev.fbit R.PGT_STAT_MISMATCH n = false) (hlow : (s.dev.prgOf n).low + 1 < s.dev.fget R.PRG_REF_TIME) :
    Runs (.referenceSearch n) s (fun t => (t.dev.prgOf n).refPrev = s.dev.refFound n ∧ (t.dev.prgOf n).refDue = false ∧
      (agrees (s.dev.prgOf n).refPrev (s.dev.refFound n) = true → t.dev.fget R.PGT_STAT_REF_LOCK n = 1 ∧ (t.dev.prgOf n).refD = s.dev.refFound n) ∧
      (¬ agrees (s.dev.prgOf n).refPrev (s.dev.refFound n) = true → t.dev.fget R.PGT_STAT_REF_LOCK n = s.dev.fget R.PGT_STAT_REF_LOCK n ∧
        (t.dev.prgOf n).refD = (s.dev.prgOf n).refD) ∧
      t.dev.fget R.PGT_STAT_MISMATCH n = 0 ∧ Only (refRegs n) s t) := by
  obtain ⟨hw, hprg, -, hlock, hmis'⟩ := Dev.refHeard_parts hmis
  have hlow' : ((s.dev.refHeard n).prgOf n).low + 1 < (s.dev.refHeard n).fget R.PRG_REF_TIME := by
    rw [hprg, hw.fget (.inl rfl)]
    exact hlow
  obtain ⟨hregs, hrated⟩ := Dev.refRated_none (s.dev.prgOf n) (s.dev.refFound n) hmis' hlow'
  have hdue' : (((s.dev.refHeard n).refRated n (s.dev.prgOf n) (s.dev.refFound n)).prgOf n).refDue = false := by rw [hrated, hprg]; rfl
  refine ⟨_, exec_referenceSearch_due hruns hset hdue, ?_⟩
  show (((s.dev.refHeard n).refRated n (s.dev.prgOf n) (s.dev.refFound n)).prgOf n).refPrev = _ ∧ _
  refine ⟨by rw [hrated, hprg]; rfl, hdue', fun hagree => ⟨?_, ?_⟩, fun hnot => ⟨?_, ?_⟩, ?_, (hw.beside hregs).only⟩
  · exact (Dev.fget_of_regs hregs _ _).trans (hlock.trans (if_pos hagree))
  · show (((s.dev.refHeard n).refRated n (s.dev.prgOf n) (s.dev.refFound n)).prgOf n).refD = _
    rw [hrated, hprg]
    exact if_pos hagree
  · exact (Dev.fget_of_regs hregs _ _).trans (hlock.trans (if_neg hnot))
  · show (((s.dev.refHeard n).refRated n (s.dev.prgOf n) (s.dev.refFound n)).prgOf n).refD = _
    rw [hrated, hprg]
    exact if_neg hnot
  · refine (Dev.fget_of_regs hregs _ _).trans ?_
    rw [Dev.fget_fbit rfl rfl, hmis']
    rfl

/-- An envelope below the threshold all over is silent from any lag on. -/
theorem envSilent_drop {th : Nat} {l : List Int} (h : l.all (fun v => decide (v < -100 * (th : Int))) = true) (k : Nat) : envSilent th (l.drop k) = true := by
  rw [envSilent, List.all_eq_true]
  exact fun v hv => List.all_eq_true.1 h v (List.mem_of_mem_drop (List.mem_of_mem_take hv))

/-- A reference that alone is silent long enough: a mismatch. -/
theorem runs_referenceSearch_mismatch (hruns : s.dev.geckoRuns = true) (hset : n.val ∈ s.dev.refs) (hdue : (s.dev.prgOf n).refDue = true)
    (hlost : (s.dev.prgOf n).refLost = false) (hpair : s.dev.pairLost (s.dev.fget R.PGT_REF_KIND n + 5) (s.dev.fget R.PGT_REF_ARG n) = false)
    (hloud : envSilent (s.dev.fget R.PRG_SIL_TH) (s.dev.prgOf n).envO = false)
    (hsilent : (s.dev.prgOf n).envR.all (fun v => decide (v < -100 * (s.dev.fget R.PRG_SIL_TH : Int))) = true) (hth : 0 < s.dev.fget R.PRG_REF_TH)
    (htime : s.dev.fget R.PRG_REF_TIME ≤ min ((s.dev.prgOf n).low + 1) 65535) (hmis : s.dev.fbit R.PGT_STAT_MISMATCH n = false) :
    Runs (.referenceSearch n) s (fun t => t.dev.fget R.PGT_STAT_MISMATCH n = 1 ∧ t.dev.fget R.PGT_STAT_REF_LOCK n = 0 ∧
      (t.dev.prgOf n).sim = 0 ∧ (t.dev.prgOf n).mismatches = (s.dev.prgOf n).mismatches + 1 ∧ Counted s t R.PRG_MISMATCH_COUNT ∧
      bitAt (t.reg (R.PRG_EVT.at 0)).toNat 4 = true ∧ Only [R.PGT_STAT.at n, R.PRG_EVT.at 0, R.PRG_MISMATCH.at 0] s t) := by
  obtain ⟨hw, hprg, hprt, -, hmis'⟩ := Dev.refHeard_parts hmis
  have hstate (k : Nat) : (s.dev.refHeard n).fget R.P_STAT_STATE k = s.dev.fget R.P_STAT_STATE k := by
    refine hw.fget (.inr ?_)
    simp only [refRegs, List.mem_cons, List.not_mem_nil, or_false, Fld.at, R.P_STAT_STATE, R.PGT_STAT, R.PRG_EVT]
    omega
  have hpair' : (s.dev.refHeard n).pairLost ((s.dev.refHeard n).fget R.PGT_REF_KIND n + 5) ((s.dev.refHeard n).fget R.PGT_REF_ARG n) = false := by
    rw [← hpair, hw.fget (.inl rfl), hw.fget (.inl rfl)]
    simp only [Dev.pairLost, hstate, hprt, hw.fbit (f := R.SPD_RX_CFG_EN) (.inl rfl)]
  have hth' : (s.dev.refHeard n).fget R.PRG_SIL_TH = s.dev.fget R.PRG_SIL_TH := hw.fget (.inl rfl)
  have hrated := Dev.refRated_mismatch (d := s.dev.refHeard n) (p := n) (s.dev.prgOf n) (s.dev.refFound n) hmis'
    (by rw [Dev.refSilent, hth']; exact envSilent_drop hsilent _) (by rw [hth', hloud]) (by rw [Dev.refLostNow, hlost, hpair', Bool.or_self])
    (by rw [hw.fget (.inl rfl)]; exact hth) (by rw [hw.fget (.inl rfl), hprg]; exact htime)
  generalize hx : ((s.dev.refHeard n).updPrg n (fun g => g.similar 0)).updPrg n (fun g => g.counted 0 (4 * (s.dev.refHeard n).fget R.PRG_REF_TH)) = x at hrated
  have hxprg : x.prgOf n = (((s.dev.refHeard n).prgOf n).similar 0).counted 0 (4 * (s.dev.refHeard n).fget R.PRG_REF_TH) := by
    rw [← hx, Dev.prgOf_updPrg_same, Dev.prgOf_updPrg_same]
  have hxw : Dev.Within (refRegs n) s.dev x := hw.beside (by rw [← hx]; rfl)
  obtain ⟨hset', hoff, hsim, hcount, hcounted, hevt, hwithin⟩ := Dev.mismatched_parts (d := x) (p := n)
  refine ⟨_, exec_referenceSearch_due hruns hset hdue, ?_⟩
  have hdone : ((s.dev.refTaken n (s.dev.refFound n) (agrees (s.dev.prgOf n).refPrev (s.dev.refFound n))).refLocked n
      (agrees (s.dev.prgOf n).refPrev (s.dev.refFound n))).refRated n (s.dev.prgOf n) (s.dev.refFound n) = x.mismatched n := hrated
  rw [hdone]
  refine ⟨hset', hoff, hsim.trans ?_, hcount.trans ?_, hcounted.trans (hxw.reg_bump mismatchCount_apart), hevt, ?_⟩
  · rw [hxprg]
    rfl
  · rw [hxprg, hprg]
    rfl
  · refine ((hxw.mono (fun i hi => ?_)).trans (hwithin.mono (fun i hi => ?_))).only
    · simp only [refRegs, List.mem_cons, List.not_mem_nil, or_false] at hi ⊢
      tauto
    · simp only [refRegs, List.mem_cons, List.not_mem_nil, or_false] at hi ⊢
      tauto

/-! ### The window -/

/-- The block with page and programme of the window written. -/
def Dev.windowSet (d : Dev) (page n : Nat) : Dev :=
  (((d.fput R.PRG_MEAS_SEL_PAGE 0 page).fput R.PRG_MEAS_SEL_INDEX 0 n).fputB R.PRG_MEAS_HDR_VALID 0 (d.prgOf n).on)

theorem exec_prgMeasLatch (page : Fin 4) : exec (.prgMeasLatch page n) s =
    .next { s with dev := (s.dev.windowSet (min page 2) n).windowShown n (min page 2) (s.dev.prgOf n).on (List.range 30) } := rfl

theorem Dev.windowSet_parts (page : Nat) (hpage : page < 4) : Dev.LowRegs d (d.windowSet page n) ∧
    Dev.Within [R.PRG_MEAS_SEL.at 0, R.PRG_MEAS_HDR.at 0] d (d.windowSet page n) ∧ (d.windowSet page n).fget R.PRG_MEAS_SEL_PAGE = page ∧
    (d.windowSet page n).fget R.PRG_MEAS_SEL_INDEX = n ∧ (d.windowSet page n).fbit R.PRG_MEAS_HDR_VALID = (d.prgOf n).on := by
  refine ⟨((Dev.LowRegs.refl.fput (by decide)).fput (by decide)).fput (by decide), ((Dev.within_fput (by decide)).fput (by decide)).fput (by decide), ?_, ?_, ?_⟩
  · refine (Dev.fget_fput_apart _ _ (by decide) (.inl (by decide))).trans ((Dev.fget_fput_apart _ _ (by decide) (.inr (by decide))).trans ?_)
    exact (Dev.fget_fput _ _ _ _ (by decide) (by decide) rfl).trans (Nat.mod_eq_of_lt hpage)
  · refine (Dev.fget_fput_apart _ _ (by decide) (.inl (by decide))).trans ?_
    exact (Dev.fget_fput _ _ _ _ (by decide) (by decide) rfl).trans (Nat.mod_eq_of_lt n.isLt)
  · exact Dev.fbit_fputB _ _ _ rfl rfl (by decide)

theorem runs_prgMeasLatch (page : Fin 4) {k : Nat} (hk : k < 30) : Runs (.prgMeasLatch page n) s (fun t =>
    t.dev.fget R.PRG_MEAS_SEL_PAGE = min page.val 2 ∧ t.dev.fget R.PRG_MEAS_SEL_INDEX = n ∧ t.dev.fbit R.PRG_MEAS_HDR_VALID = (s.dev.prgOf n).on ∧
    t.dev.fget R.PRG_MEAS_VALUE k = (if (s.dev.prgOf n).on then s.dev.prgEntry n (min page.val 2) k else noValue) % 65536 ∧
    Only ([R.PRG_MEAS_SEL.at 0, R.PRG_MEAS_HDR.at 0] ++ (List.range 30).map (fun k => R.PRG_MEAS.at k)) s t) := by
  obtain ⟨hlow, hset, hpage, hindex, hvalid⟩ := Dev.windowSet_parts (d := s.dev) (n := n) (min page.val 2) (by omega)
  obtain ⟨-, hshown, hvalue⟩ := Dev.windowShown_parts (p := n) (page := min page.val 2) (on := (s.dev.prgOf n).on) (List.range 30)
    (fun _ h => List.mem_range.1 h) (s.dev.windowSet (min page.val 2) n)
  rw [runs_iff_of_exec (exec_prgMeasLatch page)]
  refine ⟨(hshown.fget (.inr (by decide))).trans hpage, (hshown.fget (.inr (by decide))).trans hindex, (hshown.fbit (.inr (by decide))).trans hvalid, ?_, ?_⟩
  · refine (hvalue k (List.mem_range.2 hk)).trans ?_
    rw [hlow.prgEntry]
  · exact ((hset.mono (fun _ h => List.mem_append_left _ h)).trans (hshown.mono (fun _ h => List.mem_append_right _ h))).only

end

/-- Settles O24: each programme delivers once among the others, the meters and the comparison one programme at a time. -/
theorem prgBlocksAndMeters : Obligations.PrgBlocksAndMeters := by
  unfold Obligations.PrgBlocksAndMeters
  intro s n ecc word i a arg m b v bits page e g pg c t0 due lost none' same own runs unc
  have hruns (h : runs) : s.dev.geckoRuns = true := Dev.geckoRuns_iff.2 h
  have hstopped (h : ¬ runs) : s.dev.geckoRuns = false := Bool.eq_false_iff.2 (fun hr => h (Dev.geckoRuns_iff.1 hr))
  have howned (ecc : Option (Nat × Bool × Nat)) (hecc : ecc = none) : Only own s { s with dev := s.dev.blocksDone ecc } := by
    subst hecc
    exact ((s.dev.blocksDone_frame none).1.mono (fun k hk => (List.mem_append.1 hk).elim id (fun h => absurd h List.not_mem_nil))).only
  refine ⟨fun hnot => runs_self_of_exec (exec_programmeBlock_early ecc hnot), fun hdue hoff hon => ?_, fun hdue h4 hon hxf hactive hecc => ?_,
    fun hdue h4 hon hecc => ?_, fun hdue h4 hon hxf hactive hsrc hpolicy hslew hgap hecc htrim => ?_, fun hdue h4 hon hi hsrc hring hmark hfresh hecc => ?_,
    fun hdue h4 hlive => ?_, fun hnot => ⟨runs_self_of_exec (exec_loudnessUpdate_not (.inl (hstopped hnot))),
      runs_self_of_exec (exec_referenceSearch_not (.inl (hstopped hnot)))⟩,
    fun hloud => runs_self_of_exec (exec_loudnessUpdate_not (.inr hloud)), fun hrun hloud hon => ?_, fun hon => ?_,
    fun hnot => runs_self_of_exec (exec_referenceSearch_not (.inr hnot)), fun hrun hset hdue hmis hlow => ?_,
    fun hrun hset hdue hlost hpair hloud hsilent hth htime hmis =>
      runs_referenceSearch_mismatch (hruns hrun) hset hdue hlost hpair hloud hsilent hth htime hmis, ?_, fun he => runs_prgMeasLatch page he⟩
  · rw [runs_iff_of_exec (exec_programmeBlock_off ecc hdue hoff)]
    obtain ⟨hprg, hclk, hregs⟩ := Dev.blocksGap_parts n.isLt hon
    exact ⟨hprg, hclk, (Dev.Within.of_regs hregs).only⟩
  · rw [runs_iff_of_exec (exec_programmeBlock_on ecc hdue h4)]
    obtain ⟨hout, hgap, hsil, hmeter, hkept⟩ := Dev.blocksDone_missing (ecc := ecc) n.isLt hon (.inr ⟨hxf, hactive⟩)
    exact ⟨hout, hgap, hsil, hmeter, hkept, (s.dev.blocksDone_frame ecc).2.1, howned ecc hecc⟩
  · subst hecc
    rw [runs_iff_of_exec (exec_programmeBlock_on _ hdue h4)]
    have hmiss : blockMissed s.dev.clk.gapPrg (some (n.val, true, word)) n = true := by simp [blockMissed]
    obtain ⟨hout, hgap, hsil, hmeter, hkept⟩ := Dev.blocksDone_missing n.isLt hon (.inl hmiss)
    exact ⟨hout, hgap, hsil, hmeter, hkept, counted_uncorrectable word, (s.dev.blocksDone_frame _).1.only⟩
  · subst hecc
    rw [runs_iff_of_exec (exec_programmeBlock_on none hdue h4)]
    have hmet : blockMissed s.dev.clk.gapPrg none n = false := by simp [blockMissed, hgap]
    obtain ⟨hout, hgap', hsil, hsilent, hkept⟩ := Dev.blocksDone_silence n.isLt hon hmet hxf hactive hsrc hpolicy hslew htrim
    exact ⟨hout, hgap', hsil, hsilent, hkept, howned none rfl⟩
  · rw [runs_iff_of_exec (exec_programmeBlock_on ecc hdue h4)]
    obtain ⟨hhist, hgap, henv⟩ := Dev.blocksDone_fm (ecc := ecc) n.isLt hon hi hsrc hring hmark hfresh
    exact ⟨hhist, hgap, henv, (s.dev.blocksDone_frame ecc).2.2 0 arg, howned ecc hecc⟩
  · rw [runs_iff_of_exec (exec_programmeBlock_on _ hdue h4)]
    exact blocksDone_corrected hlive word
  · rw [runs_iff_of_exec (exec_loudnessUpdate_due (hruns hrun) hloud)]
    obtain ⟨hregs, hgrid, ⟨srcs, hprg⟩, hsrc⟩ := Dev.loudness_parts n.isLt hon
    dsimp only
    rw [hprg]
    exact ⟨rfl, rfl, fun h => LoudSt.lufs_ge h, fun h => lufsOf_ge h, rfl, rfl, rfl, hgrid, fun hi => by rw [hsrc i hi]; rfl, (Dev.Within.of_regs hregs).only⟩
  · rw [runs_iff_of_exec exec_clrLoud]
    obtain ⟨hregs, -, hprg⟩ := Dev.each_updPrg (n := n) PrgSt.loudCleared Dev.prgLive_nodup s.dev
    exact ⟨hprg.trans (if_pos (Dev.mem_prgLive.2 ⟨n.isLt, hon⟩)), (Dev.Within.of_regs hregs).only⟩
  · obtain ⟨t, hexec, hprev, hdue', hlock, hkeep, hstands, honly⟩ := runs_referenceSearch_kept (hruns hrun) hset hdue hmis hlow
    have hagrees : (match s.dev.refFound n, g.refPrev with | some x, some y => decide (((x : Int) - y).natAbs ≤ 2) | _, _ => false) =
        agrees g.refPrev (s.dev.refFound n) := by
      cases s.dev.refFound n <;> cases g.refPrev <;> rfl
    refine ⟨t, hexec, hprev, hdue', fun hagree => hlock (hagrees.symm.trans hagree), fun hnot => hkeep (fun h => hnot (hagrees.trans h)), hstands, honly⟩
  · refine ⟨_, rfl, ?_, (Dev.Within.of_regs rfl).only⟩
    exact Dev.prgOf_updPrg_same ..

end Sys2Proof.Machine

/-!
SUPPORT. The power domains at the boot: what their drive may change where no domain is ON, and that it changes nothing where every one is as it is ordered
(R38, R561).
-/
namespace Sys2Proof.Machine

section
variable {d e g : Dev} {pd : Nat} {l : List Nat}

/-- Raising an event leaves the boot and the reset causes. -/
theorem Dev.event_boot_pwr (d : Dev) (f : Fld) (n : Nat) : (d.event f n).boot = d.boot ∧ (d.event f n).pwr = d.pwr := by simp [Dev.event]

/-- From `d` to `e` domains begin transitions: `PWR_DOM_STAT` and the events of `PWR_EVT` may change, and no event is lost. -/
structure Dev.Driven (d e : Dev) : Prop where
  within : Dev.Within [R.PWR_DOM_STAT.at 0, R.PWR_EVT.at 0] d e
  boot : e.boot = d.boot
  time : e.time = d.time
  seen : e.pwr.seen = d.pwr.seen
  reset : d.fbit R.PWR_EVT_RESET = true → e.fbit R.PWR_EVT_RESET = true

theorem Dev.Driven.refl : Dev.Driven d d := ⟨.refl, rfl, rfl, rfl, id⟩

theorem Dev.Driven.trans (h₁ : Dev.Driven d e) (h₂ : Dev.Driven e g) : Dev.Driven d g :=
  ⟨h₁.within.trans h₂.within, h₂.boot.trans h₁.boot, h₂.time.trans h₁.time, h₂.seen.trans h₁.seen, h₂.reset ∘ h₁.reset⟩

theorem Dev.driven_updDom (d : Dev) (pd : Nat) (f : DomSt → DomSt) : Dev.Driven d (d.updDom pd f) :=
  ⟨.of_regs rfl, rfl, rfl, rfl, id⟩

/-- A field of one bit apart from the one written keeps its value. -/
theorem Dev.fbit_fput_apart (d : Dev) {f h : Fld} {n m : Nat} (v : Nat) (hf : f.lo ≤ f.hi ∧ f.hi < 16)
    (hapart : h.at m ≠ f.at n ∨ h.hi < f.lo ∨ f.hi < h.lo) : (d.fput f n v).fbit h m = d.fbit h m := by
  rw [Dev.fbit, Dev.fget_fput_apart d v hf hapart, Dev.fbit]

theorem Dev.driven_setDom (d : Dev) (pd st : Nat) : Dev.Driven d (d.setDom pd st) :=
  ⟨Dev.within_fput (by decide), rfl, rfl, rfl, (Dev.fbit_fput_apart d _ (by decide) (.inl (by decide))).trans⟩

/-- No domain is ON: no digit of the state word reads 2. -/
def noneOn (w : Nat) : Prop := ∀ k < 6, w / 4 ^ k % 4 ≠ 2

theorem noneOn_zero : noneOn 0 := fun k _ => by simp

theorem noneOn_changing {w k : Nat} (hw : w < 4096) (hk : k < 6) (h : noneOn w) : noneOn ((w - w / 4 ^ k % 4 * 4 ^ k + 3 * 4 ^ k) % 2 ^ 12) := by
  intro j hj
  have hself := h k hk
  have hother := h j hj
  interval_cases k <;> interval_cases j <;> omega

theorem Dev.driven_event (d : Dev) : Dev.Driven d (d.event R.PWR_EVT_DOM_HELD) :=
  ⟨Dev.within_event (by decide), (Dev.event_boot_pwr d _ _).1, by simp, by rw [(Dev.event_boot_pwr d _ _).2], Dev.fbit_event_mono rfl rfl⟩

theorem Dev.driven_domBegin (g : Nat) (h : d.domState pd ≠ 2) : Dev.Driven d (d.domBegin pd g) := by
  rw [Dev.domBegin, if_neg h]
  exact (Dev.driven_updDom ..).trans (Dev.driven_setDom ..)

theorem Dev.driven_domHeld (d : Dev) (pd : Nat) : Dev.Driven d (d.domHeld pd) := by
  unfold Dev.domHeld
  dsimp only
  split
  · split
    · exact .refl
    · exact (Dev.driven_event d).trans (Dev.driven_updDom ..)
  · split
    · exact .refl
    · exact Dev.driven_updDom ..

theorem Dev.state_domHeld (d : Dev) (pd : Nat) : (d.domHeld pd).fget R.PWR_DOM_STAT_STATE = d.fget R.PWR_DOM_STAT_STATE := by
  unfold Dev.domHeld
  dsimp only
  split
  · split
    · rfl
    · exact (Dev.within_event (l := [R.PWR_EVT.at 0]) (by decide)).fget (.inr (by decide))
  · split <;> rfl

/-- What the drive does for domain `pd`. -/
def Dev.driveOne (d : Dev) (pd : Nat) : Dev := (if d.domMay pd then d.domBegin pd (d.domWant pd) else d).domHeld pd

theorem Dev.domDrive_eq (d : Dev) : d.domDrive = d.each [5, 4, 2, 3, 6, 7] Dev.driveOne := rfl

theorem Dev.domState_ne_two (hnone : noneOn (d.fget R.PWR_DOM_STAT_STATE)) (hpd : 2 ≤ pd ∧ pd ≤ 7) : d.domState pd ≠ 2 := hnone (pd - 2) (by omega)

theorem Dev.driven_driveOne (hnone : noneOn (d.fget R.PWR_DOM_STAT_STATE)) (hpd : 2 ≤ pd ∧ pd ≤ 7) : Dev.Driven d (d.driveOne pd) := by
  refine .trans ?_ (Dev.driven_domHeld _ pd)
  split
  · exact Dev.driven_domBegin _ (Dev.domState_ne_two hnone hpd)
  · exact .refl

theorem Dev.noneOn_driveOne (hnone : noneOn (d.fget R.PWR_DOM_STAT_STATE)) (hpd : 2 ≤ pd ∧ pd ≤ 7) :
    noneOn ((d.driveOne pd).fget R.PWR_DOM_STAT_STATE) := by
  rw [Dev.driveOne, Dev.state_domHeld]
  split
  · rw [Dev.domBegin, if_neg (Dev.domState_ne_two hnone hpd), Dev.setDom, Dev.fget_fput _ _ _ _ (by decide) (by decide) rfl]
    exact noneOn_changing (bitsOf_lt _ _ _) (by omega) hnone
  · exact hnone

theorem Dev.driven_each (l : List Nat) (hl : ∀ pd ∈ l, 2 ≤ pd ∧ pd ≤ 7) (d : Dev) (hnone : noneOn (d.fget R.PWR_DOM_STAT_STATE)) :
    Dev.Driven d (d.each l Dev.driveOne) := by
  induction l generalizing d with
  | nil => exact .refl
  | cons pd l ih =>
    have hpd := hl pd (by simp)
    exact (Dev.driven_driveOne hnone hpd).trans (ih (fun q hq => hl q (by simp [hq])) _ (Dev.noneOn_driveOne hnone hpd))

/-- Where no domain is ON the drive stops none. -/
theorem Dev.driven_domDrive (hoff : d.fget R.PWR_DOM_STAT_STATE = 0) : Dev.Driven d d.domDrive :=
  Dev.driven_each _ (by decide) d (by rw [hoff]; exact noneOn_zero)

/-! ### Every domain as it is ordered -/

/-- The engines run, and every domain is ordered ON and is ON. -/
structure Dev.AllOn (d : Dev) : Prop where
  phase : d.boot.phase = .released
  order : d.fget R.PWR_DOM = 0xAAA
  state : d.fget R.PWR_DOM_STAT_STATE = 0xAAA
  still : d.pwr.doms = []

theorem Dev.AllOn.domState (hon : d.AllOn) (hpd : 2 ≤ pd ∧ pd ≤ 7) : d.domState pd = 2 := by
  obtain ⟨hlo, hhi⟩ := hpd
  rw [Dev.domState, hon.state]
  interval_cases pd <;> rfl

theorem Dev.AllOn.domOrder (hon : d.AllOn) (hpd : 2 ≤ pd ∧ pd ≤ 7) : d.domOrder pd = 2 := by
  obtain ⟨hlo, hhi⟩ := hpd
  rw [Dev.domOrder, hon.phase, hon.order]
  interval_cases pd <;> simp

theorem Dev.AllOn.driveOne (hon : d.AllOn) (hpd : 2 ≤ pd ∧ pd ≤ 7) : d.driveOne pd = d := by
  have hneeds : d.domNeeds pd = true := by simp [Dev.domNeeds, Dev.domOn, hon.domOrder, hon.domState]
  have hmay : d.domMay pd = false := by simp [Dev.domMay, Dev.domWant, hneeds, hon.domState hpd, hon.domOrder hpd]
  simp [Dev.driveOne, hmay, Dev.domHeld, hon.domState hpd, hon.domOrder hpd]

theorem Dev.AllOn.each (hon : d.AllOn) (l : List Nat) (hl : ∀ pd ∈ l, 2 ≤ pd ∧ pd ≤ 7) : d.each l Dev.driveOne = d := by
  induction l with
  | nil => rfl
  | cons pd l ih =>
    have hrest := ih (fun q hq => hl q (by simp [hq]))
    rw [Dev.each, List.foldl_cons, hon.driveOne (hl pd (by simp))]
    exact hrest

/-- The drive has nothing to do where every domain is as it is ordered. -/
theorem Dev.AllOn.domDrive (hon : d.AllOn) : d.domDrive = d := hon.each _ (by decide)

end

end Sys2Proof.Machine

/-!
SUPPORT. The release of reset and the ROM checksum (R32, R55, R57, R58, R518, R556).
-/
namespace Sys2Proof.Machine

section
variable {d e g : Dev} {s : State} {l l' : List Nat} {f h : Fld} {n m v : Nat} {boot addr : Fin 4} {sfdp : Option Sfdp}

/-- From `d` to `e` registers of `l` change; the boot, the reset causes with the domains, and the time stand. -/
structure Dev.Setup (l : List Nat) (d e : Dev) : Prop where
  within : Dev.Within l d e
  boot : e.boot = d.boot
  pwr : e.pwr = d.pwr
  time : e.time = d.time

theorem Dev.Setup.refl : Dev.Setup l d d := ⟨.refl, rfl, rfl, rfl⟩

theorem Dev.Setup.trans (h₁ : Dev.Setup l d e) (h₂ : Dev.Setup l e g) : Dev.Setup l d g :=
  ⟨h₁.within.trans h₂.within, h₂.boot.trans h₁.boot, h₂.pwr.trans h₁.pwr, h₂.time.trans h₁.time⟩

theorem Dev.Setup.mono (hs : Dev.Setup l d e) (hl : ∀ i ∈ l, i ∈ l') : Dev.Setup l' d e := ⟨hs.within.mono hl, hs.boot, hs.pwr, hs.time⟩

theorem Dev.Setup.fput (hs : Dev.Setup l d e) (hf : f.at n ∈ l) : Dev.Setup l d (e.fput f n v) := hs.trans ⟨Dev.within_fput hf, rfl, rfl, rfl⟩

theorem Dev.Setup.event (hs : Dev.Setup l d e) (hf : f.at n ∈ l) : Dev.Setup l d (e.event f n) :=
  hs.trans ⟨Dev.within_event hf, (Dev.event_boot_pwr e f n).1, (Dev.event_boot_pwr e f n).2, by simp⟩

/-! ### What the release latches -/

/-- The block with the causes shown and the straps latched. -/
def Dev.strapped (d : Dev) (boot addr : Nat) : Dev :=
  (((d.causesShow 0).fput R.BOOT_STAT_MODE 0 boot).fput R.HIF_STAT_STRAP 0 addr).fput R.HIF_STAT_ADDRESS 0 (0x58 + addr)

/-- A release after a reset by the temperature reports it. -/
def Dev.tripTold (d : Dev) (cause : Nat) : Dev := if bitAt cause 2 then d.event R.TMP_EVT_TRIPPED else d

/-- The first release after the backup supply came reports it. -/
def Dev.coldTold (d : Dev) : Dev := if d.rtc.cold then ({ d with rtc := { d.rtc with cold := false } }).event R.RTC_EVT_COLD else d

/-- The device time is set from the RTC. -/
def Dev.started (d : Dev) : Dev :=
  { d with
    time := { d.time with sec := d.rtcSeconds % 2 ^ 32, cyc := 0 }
    boot := { d.boot with releaseClk := d.time.clk }
    mon := { d.mon with bootPair := true } }

/-- The ring is read, and the reset is counted by its cause. -/
def Dev.ringTold (d : Dev) (flash : SMap Byte) (cause : Nat) : Dev :=
  if bitAt cause 0 then ((d.ringLoad flash).lifeBy (0x18 + 4 * lowestCause cause) 4 1).lifeBy 0x14 4 1
  else (d.ringLoad flash).lifeBy (0x18 + 4 * lowestCause cause) 4 1

theorem Dev.resetReleased_eq (flash : SMap Byte) (boot addr : Nat) :
    d.resetReleased flash boot addr = (((d.strapped boot addr).tripTold d.pwr.seen).coldTold.started).ringTold flash d.pwr.seen := rfl

/-- The registers in which the ring shows. -/
def ringRegs : List Nat := [R.MON_STAT.at 0, R.MON_LOG_POS.at 0, R.MON_SEQ_HI.at 0]

/-- The registers of what the release reports beside the causes and the straps. -/
def toldRegs : List Nat := [R.TMP_EVT.at 0, R.RTC_EVT.at 0] ++ ringRegs

theorem Dev.setup_tripTold (cause : Nat) : Dev.Setup [R.TMP_EVT.at 0] d (d.tripTold cause) := by
  unfold Dev.tripTold
  split
  · exact .event .refl (by decide)
  · exact .refl

theorem Dev.setup_coldTold : Dev.Setup [R.RTC_EVT.at 0] d d.coldTold := by
  unfold Dev.coldTold
  split
  · exact .event ⟨.of_regs rfl, rfl, rfl, rfl⟩ (by decide)
  · exact .refl

theorem Dev.setup_lifeLoad (r : List RingRec) : Dev.Setup ringRegs d (d.lifeLoad r) := by
  unfold Dev.lifeLoad
  exact .fput (.fput ⟨.of_regs rfl, rfl, rfl, rfl⟩ (by decide)) (by decide)

theorem Dev.setup_ringLoad (flash : SMap Byte) : Dev.Setup ringRegs d (d.ringLoad flash) := by
  unfold Dev.ringLoad
  refine .fput (.fput (.trans (Dev.setup_lifeLoad (ringAll flash)) ?_) (by decide)) (by decide)
  generalize d.lifeLoad (ringAll flash) = e
  split
  · exact ⟨.of_regs rfl, rfl, rfl, rfl⟩
  · exact .refl

theorem Dev.setup_ringTold (flash : SMap Byte) (cause : Nat) : Dev.Setup ringRegs d (d.ringTold flash cause) := by
  refine .trans (Dev.setup_ringLoad flash) ?_
  unfold Dev.ringTold
  generalize d.ringLoad flash = e
  split <;> exact ⟨.of_regs rfl, rfl, rfl, rfl⟩

/-- What the release of reset from `d` shows in `e` (R23, R55, R518, R556). -/
structure Dev.Latched (d : Dev) (boot addr : Fin 4) (e : Dev) : Prop where
  mode : e.fget R.BOOT_STAT_MODE = boot
  address : e.fget R.HIF_STAT_ADDRESS = 0x58 + addr
  strap : e.fget R.HIF_STAT_STRAP = addr
  cause : e.fget R.PWR_RST_CAUSE_CAUSE = d.pwr.seen % 256
  seen : e.pwr.seen = 0
  reset : e.fbit R.PWR_EVT_RESET = true
  sec : e.time.sec = d.rtcSeconds % 2 ^ 32
  trip : bitAt d.pwr.seen 2 = true → e.fbit R.TMP_EVT_TRIPPED = true

/-- The registers that show the causes and the straps. -/
def strapRegs : List Nat := [R.PWR_RST_CAUSE.at 0, R.PWR_BO_SRC.at 0, R.PWR_EVT.at 0, R.BOOT_STAT.at 0, R.HIF_STAT.at 0]

theorem Dev.within_strapped (boot addr : Nat) : Dev.Within strapRegs d (d.strapped boot addr) :=
  .fput (.fput (.fput (.beside (.event (.fput (.fput .refl (by decide)) (by decide)) (by decide)) rfl) (by decide)) (by decide)) (by decide)

theorem Dev.rtcSeconds_within (hw : Dev.Within l d e) (hl : R.RTC_YEAR.at 0 ∉ l ∧ R.RTC_MW.at 0 ∉ l ∧ R.RTC_HD.at 0 ∉ l ∧ R.RTC_MS.at 0 ∉ l) :
    e.rtcSeconds = d.rtcSeconds := by
  obtain ⟨hy, hm, hd, hs⟩ := hl
  rw [Dev.rtcSeconds, hw.fget (f := R.RTC_YEAR_YEAR) (.inr hy), hw.fget (f := R.RTC_MW_MONTH) (.inr hm), hw.fget (f := R.RTC_HD_DAY) (.inr hd),
    hw.fget (f := R.RTC_HD_HOUR) (.inr hd), hw.fget (f := R.RTC_MS_MIN) (.inr hs), hw.fget (f := R.RTC_MS_SEC) (.inr hs), Dev.rtcSeconds]

/-- A field through the latching of the straps, in the order of the writes. -/
theorem Dev.strapped_shows (boot addr : Fin 4) :
    (d.strapped boot addr).fget R.BOOT_STAT_MODE = boot ∧ (d.strapped boot addr).fget R.HIF_STAT_ADDRESS = 0x58 + addr ∧
    (d.strapped boot addr).fget R.HIF_STAT_STRAP = addr ∧ (d.strapped boot addr).fget R.PWR_RST_CAUSE_CAUSE = d.pwr.seen % 256 ∧
    (d.strapped boot addr).fbit R.PWR_EVT_RESET = true := by
  have hboot : (boot : Nat) % 2 ^ 2 = boot := Nat.mod_eq_of_lt boot.isLt
  have haddr : (addr : Nat) % 2 ^ 2 = addr := Nat.mod_eq_of_lt addr.isLt
  have hcode : (0x58 + (addr : Nat)) % 2 ^ 7 = 0x58 + addr := by omega
  have hcauses : (d.causesShow 0).fget R.PWR_RST_CAUSE_CAUSE = d.pwr.seen % 256 ∧ (d.causesShow 0).fbit R.PWR_EVT_RESET = true := by
    refine ⟨?_, Dev.fbit_event _ 0 rfl rfl (by decide)⟩
    refine (Dev.fget_setEvtBits_other (f := R.PWR_RST_CAUSE_CAUSE) (k := 0) (.inr (by decide))).trans ?_
    rw [Dev.fget_fput_apart _ _ (by decide) (.inl (by decide)), Dev.fget_fput _ _ _ _ (by decide) (by decide) rfl, Nat.or_zero]
    rfl
  refine ⟨?_, ?_, ?_, ?_, ?_⟩
  · rw [Dev.strapped, Dev.fget_fput_apart _ _ (by decide) (.inl (by decide)), Dev.fget_fput_apart _ _ (by decide) (.inl (by decide)),
      Dev.fget_fput _ _ _ _ (by decide) (by decide) rfl]
    exact hboot
  · rw [Dev.strapped, Dev.fget_fput _ _ _ _ (by decide) (by decide) rfl]
    exact hcode
  · rw [Dev.strapped, Dev.fget_fput_apart _ _ (by decide) (.inr (by decide)), Dev.fget_fput _ _ _ _ (by decide) (by decide) rfl]
    exact haddr
  · rw [Dev.strapped, Dev.fget_fput_apart _ _ (by decide) (.inl (by decide)), Dev.fget_fput_apart _ _ (by decide) (.inl (by decide)),
      Dev.fget_fput_apart _ _ (by decide) (.inl (by decide)), hcauses.1]
  · rw [Dev.strapped, Dev.fbit_fput_apart _ _ (by decide) (.inl (by decide)), Dev.fbit_fput_apart _ _ (by decide) (.inl (by decide)),
      Dev.fbit_fput_apart _ _ (by decide) (.inl (by decide)), hcauses.2]

/-- What the release does after the straps are latched. -/
theorem Dev.within_resetReleased_told (flash : SMap Byte) (boot addr : Nat) : Dev.Within toldRegs (d.strapped boot addr) (d.resetReleased flash boot addr) := by
  have htold : Dev.Setup toldRegs (d.strapped boot addr) ((d.strapped boot addr).tripTold d.pwr.seen).coldTold :=
    ((Dev.setup_tripTold _).mono (by decide)).trans (Dev.setup_coldTold.mono (by decide))
  have hstarted : Dev.Within toldRegs (d.strapped boot addr) ((d.strapped boot addr).tripTold d.pwr.seen).coldTold.started := htold.within.beside rfl
  exact hstarted.trans ((Dev.setup_ringTold flash d.pwr.seen).within.mono (by decide))

theorem Dev.within_resetReleased (flash : SMap Byte) (boot addr : Nat) : Dev.Within (strapRegs ++ toldRegs) d (d.resetReleased flash boot addr) :=
  ((Dev.within_strapped ..).mono (by decide)).trans ((Dev.within_resetReleased_told ..).mono (by decide))

theorem Dev.latched_resetReleased (flash : SMap Byte) (boot addr : Fin 4) : Dev.Latched d boot addr (d.resetReleased flash boot addr) := by
  obtain ⟨hmode, haddress, hstrap, hcause, hreset⟩ := d.strapped_shows boot addr
  have htold : Dev.Setup toldRegs (d.strapped boot addr) ((d.strapped boot addr).tripTold d.pwr.seen).coldTold :=
    ((Dev.setup_tripTold _).mono (by decide)).trans (Dev.setup_coldTold.mono (by decide))
  have hring := Dev.setup_ringTold (d := ((d.strapped boot addr).tripTold d.pwr.seen).coldTold.started) flash d.pwr.seen
  have hw : Dev.Within toldRegs (d.strapped boot addr) (d.resetReleased flash boot addr) := Dev.within_resetReleased_told ..
  refine ⟨(hw.fget (.inr (by decide))).trans hmode, (hw.fget (.inr (by decide))).trans haddress, (hw.fget (.inr (by decide))).trans hstrap,
    (hw.fget (.inr (by decide))).trans hcause, ?_, (hw.fbit (.inr (by decide))).trans hreset, ?_, fun htrip => ?_⟩
  · exact (congrArg PwrSt.seen hring.pwr).trans (congrArg PwrSt.seen htold.pwr)
  · rw [Dev.resetReleased_eq, hring.time]
    exact congrArg (· % 2 ^ 32) ((Dev.rtcSeconds_within htold.within (by decide)).trans (Dev.rtcSeconds_within (Dev.within_strapped ..) (by decide)))
  · have hcold : Dev.Within ([R.RTC_EVT.at 0] ++ ringRegs) ((d.strapped boot addr).tripTold d.pwr.seen)
        ((d.strapped boot addr).tripTold d.pwr.seen).coldTold.started := (Dev.setup_coldTold.within.mono (by decide)).beside rfl
    refine ((hcold.trans (hring.within.mono (by decide))).fbit (.inr (by decide))).trans ?_
    rw [Dev.tripTold, if_pos htrip]
    exact Dev.fbit_event _ 0 rfl rfl (by decide)

/-! ### After the ROM checksum -/

/-- From `d` to `e` what the release has shown stands. -/
structure Dev.RomStep (d e : Dev) : Prop where
  within : Dev.Within [R.BOOT_STAT.at 0, R.BIC_JNL_STAT.at 0, R.MON_STAT.at 0, R.PWR_DOM_STAT.at 0, R.PWR_EVT.at 0] d e
  mode : e.fget R.BOOT_STAT_MODE = d.fget R.BOOT_STAT_MODE
  reset : d.fbit R.PWR_EVT_RESET = true → e.fbit R.PWR_EVT_RESET = true
  seen : e.pwr.seen = d.pwr.seen
  time : e.time = d.time

theorem Dev.RomStep.trans (h₁ : Dev.RomStep d e) (h₂ : Dev.RomStep e g) : Dev.RomStep d g :=
  ⟨h₁.within.trans h₂.within, h₂.mode.trans h₁.mode, h₂.reset ∘ h₁.reset, h₂.seen.trans h₁.seen, h₂.time.trans h₁.time⟩

theorem Dev.romStep_boot (d : Dev) (b : BootSt) : Dev.RomStep d { d with boot := b } := ⟨.of_regs rfl, rfl, id, rfl, rfl⟩

theorem Dev.RomStep.fputB (hs : Dev.RomStep d e) (b : Bool) (hf : f.lo ≤ f.hi ∧ f.hi < 16)
    (hat : f.at n ∈ [R.BOOT_STAT.at 0, R.BIC_JNL_STAT.at 0, R.MON_STAT.at 0]) (hmode : f.at n ≠ R.BOOT_STAT.at 0 ∨ f.hi < 8 ∨ 9 < f.lo) :
    Dev.RomStep d (e.fputB f n b) := by
  refine hs.trans ⟨Dev.within_fput (by revert hat; simp; tauto), ?_, ?_, rfl, rfl⟩
  · exact Dev.fget_fput_apart e _ hf (by obtain h | h | h := hmode; exacts [.inl h.symm, .inr (.inr h), .inr (.inl h)])
  · refine (Dev.fbit_fput_apart e _ hf (.inl (fun h => ?_))).trans
    rw [← h] at hat
    exact absurd hat (by decide)

theorem Dev.Latched.after (hl : Dev.Latched d boot addr e) (hs : Dev.RomStep e g) : Dev.Latched d boot addr g :=
  ⟨hs.mode.trans hl.mode, (hs.within.fget (.inr (by decide))).trans hl.address, (hs.within.fget (.inr (by decide))).trans hl.strap,
    (hs.within.fget (.inr (by decide))).trans hl.cause, hs.seen.trans hl.seen, hs.reset hl.reset, (congrArg TimeSt.sec hs.time).trans hl.sec,
    fun h => (hs.within.fbit (.inr (by decide))).trans (hl.trip h)⟩

/-- The phase in which the boot goes on (R55, R58). -/
def phaseAfter (mode : Nat) : BootPhase := if mode = 2 then .imgWait else if mode = 3 then .baseline else .headers

/-- The boot with the flash started. -/
def Dev.flashBoot (d : Dev) (sfdp : Option Sfdp) : BootSt :=
  { d.boot with phase := phaseAfter (d.fget R.BOOT_STAT_MODE), sfdp := sfdp, sent := [0x66, 0x99, 0x5A], read := flashReadOf sfdp }

/-- The block with the flash started, its reading and the wait for an image shown. -/
def Dev.flashShown (d : Dev) (sfdp : Option Sfdp) : Dev :=
  (({ d with boot := d.flashBoot sfdp }).fputB R.BOOT_STAT_SLOW_FLASH 0 ((flashReadOf sfdp).dataLines == 1)).fputB R.BOOT_STAT_IMG_WAIT 0
    (d.fget R.BOOT_STAT_MODE == 2)

/-- Without an SFDP table neither the journal nor the log is written. -/
def Dev.flashLost (d : Dev) (sfdp : Option Sfdp) : Dev :=
  if sfdp.isSome then d else (d.fputB R.BIC_JNL_STAT_STOPPED 0 true).fputB R.MON_STAT_LOG_STOP 0 true

theorem Dev.romPassed_eq (sfdp : Option Sfdp) : d.romPassed sfdp = ((d.flashShown sfdp).flashLost sfdp).domDrive := rfl

theorem Dev.romStep_flashLost (sfdp : Option Sfdp) : Dev.RomStep d ((d.flashShown sfdp).flashLost sfdp) := by
  have hshown : Dev.RomStep d (d.flashShown sfdp) :=
    .fputB (.fputB (Dev.romStep_boot d _) _ (by decide) (by decide) (by decide)) _ (by decide) (by decide) (by decide)
  unfold Dev.flashLost
  split
  · exact hshown
  · exact .fputB (.fputB hshown _ (by decide) (by decide) (by decide)) _ (by decide) (by decide) (by decide)

theorem Dev.romStep_driven (h : Dev.Driven d e) : Dev.RomStep d e :=
  ⟨h.within.mono (by decide), h.within.fget (.inr (by decide)), h.reset, h.seen, h.time⟩

theorem Dev.flashLost_shows (sfdp : Option Sfdp) :
    ((d.flashShown sfdp).flashLost sfdp).boot = d.flashBoot sfdp ∧
    ((d.flashShown sfdp).flashLost sfdp).fbit R.BOOT_STAT_SLOW_FLASH = ((flashReadOf sfdp).dataLines == 1) ∧
    (sfdp = none → ((d.flashShown sfdp).flashLost sfdp).fbit R.BIC_JNL_STAT_STOPPED = true ∧
      ((d.flashShown sfdp).flashLost sfdp).fbit R.MON_STAT_LOG_STOP = true) := by
  have hslow : (d.flashShown sfdp).fbit R.BOOT_STAT_SLOW_FLASH = ((flashReadOf sfdp).dataLines == 1) := by
    rw [Dev.flashShown, Dev.fputB, Dev.fbit_fput_apart _ _ (by decide) (.inr (by decide)), Dev.fbit_fputB _ _ _ rfl rfl (by decide)]
  cases sfdp with
  | some t => exact ⟨rfl, hslow, by simp⟩
  | none =>
    refine ⟨rfl, ?_, fun _ => ⟨?_, Dev.fbit_fputB _ _ _ rfl rfl (by decide)⟩⟩
    · refine (Dev.fbit_fput_apart _ _ (by decide) (.inl (by decide))).trans ((Dev.fbit_fput_apart _ _ (by decide) (.inl (by decide))).trans hslow)
    · exact (Dev.fbit_fput_apart _ _ (by decide) (.inl (by decide))).trans (Dev.fbit_fputB _ _ _ rfl rfl (by decide))

/-- The boot after a ROM checksum that has passed, from a block with every domain OFF (R32, R57, R58). -/
theorem Dev.romPassed_shows (sfdp : Option Sfdp) (hoff : d.fget R.PWR_DOM_STAT_STATE = 0) :
    Dev.RomStep d (d.romPassed sfdp) ∧ (d.romPassed sfdp).boot = d.flashBoot sfdp ∧
    (d.romPassed sfdp).fbit R.BOOT_STAT_SLOW_FLASH = ((flashReadOf sfdp).dataLines == 1) ∧
    (sfdp = none → (d.romPassed sfdp).fbit R.BIC_JNL_STAT_STOPPED = true ∧ (d.romPassed sfdp).fbit R.MON_STAT_LOG_STOP = true) := by
  have hstep : Dev.RomStep d ((d.flashShown sfdp).flashLost sfdp) := Dev.romStep_flashLost sfdp
  obtain ⟨hboot, hslow, hnone⟩ := d.flashLost_shows sfdp
  have hstate : ((d.flashShown sfdp).flashLost sfdp).fget R.PWR_DOM_STAT_STATE = 0 := by
    have hw : Dev.Within [R.BOOT_STAT.at 0, R.BIC_JNL_STAT.at 0, R.MON_STAT.at 0] d ((d.flashShown sfdp).flashLost sfdp) := by
      unfold Dev.flashLost
      split
      · exact .fput (.fput (.of_regs rfl) (by decide)) (by decide)
      · exact .fput (.fput (.fput (.fput (.of_regs rfl) (by decide)) (by decide)) (by decide)) (by decide)
    exact (hw.fget (.inr (by decide))).trans hoff
  rw [Dev.romPassed_eq]
  have hdriven := Dev.driven_domDrive hstate
  exact ⟨hstep.trans (Dev.romStep_driven hdriven), hdriven.boot.trans hboot, (hdriven.within.fbit (.inr (by decide))).trans hslow,
    fun h => ⟨(hdriven.within.fbit (.inr (by decide))).trans (hnone h).1, (hdriven.within.fbit (.inr (by decide))).trans (hnone h).2⟩⟩

end

end Sys2Proof.Machine

/-!
SUPPORT. RESET_RELEASE and ROM_CHECK_RETRY as commands (R32, R55, R57, R58, R556).
-/
namespace Sys2Proof.Machine

section
variable {d e : Dev} {s : State} {boot addr : Fin 4} {sfdp : Option Sfdp} {f : Sfdp} {c : FlashCmd}

/-- The reset may be released (R556). -/
def Dev.freed (d : Dev) : Prop :=
  d.boot.phase = .inReset ∧ d.pwr.active = 0 ∧ d.pwr.test = false ∧ d.pwr.endClk + Config.sysPerSecond / 10000 ≤ d.time.clk

/-- The ROM checksum may be tried again (R32). -/
def Dev.again (d : Dev) : Prop := d.boot.phase = .romHold ∧ d.boot.releaseClk + Config.sysPerSecond ≤ d.time.clk

theorem exec_resetRelease (h : s.dev.freed) (romOk : Bool) :
    exec (.resetRelease boot addr romOk sfdp) s = .next { s with
      dev := if romOk then (s.dev.resetReleased s.flash boot addr).romPassed sfdp
        else { s.dev.resetReleased s.flash boot addr with boot := { (s.dev.resetReleased s.flash boot addr).boot with phase := .romHold } }
      lily := [] } := by
  obtain ⟨hphase, hactive, htest, hend⟩ := h
  have hus : usCycles 100 = Config.sysPerSecond / 10000 := by decide
  show execResetRelease boot addr romOk sfdp s = _
  rw [execResetRelease, if_neg (by simp [hphase, hactive, htest, Dev.reached, hus, hend])]

theorem exec_resetRelease_not (h : ¬ s.dev.freed) (romOk : Bool) : exec (.resetRelease boot addr romOk sfdp) s = .next s := by
  have hus : usCycles 100 = Config.sysPerSecond / 10000 := by decide
  show execResetRelease boot addr romOk sfdp s = _
  rw [execResetRelease]
  refine if_pos (by_contra fun hno => h ?_)
  simpa [Dev.freed, Dev.reached, hus, and_assoc] using hno

theorem Dev.state_resetReleased (flash : SMap Byte) (hoff : d.fget R.PWR_DOM_STAT_STATE = 0) :
    (d.resetReleased flash boot addr).fget R.PWR_DOM_STAT_STATE = 0 :=
  ((Dev.within_resetReleased flash boot addr).fget (.inr (by decide))).trans hoff

/-- How the flash is read where its SFDP table is `f` (R57, R58). -/
theorem flashReadOf_some :
    (f.read144 = some c → flashReadOf (some f) = { addrLines := 4, dataLines := 4, command := c, mhz := 104, enable := some f.quadEnable }) ∧
    (f.read144 = none → f.read114 = some c →
      flashReadOf (some f) = { addrLines := 1, dataLines := 4, command := c, mhz := 104, enable := some f.quadEnable }) ∧
    (f.read144 = none → f.read114 = none → flashReadOf (some f) = {}) := by
  unfold flashReadOf
  exact ⟨fun h => by simp only [h], fun h h' => by simp only [h, h'], fun h h' => by simp only [h, h']⟩

/-- What the flash is asked, and how it is read, where its SFDP table is `f` (R57, R58). -/
def Dev.FlashAsked (f : Sfdp) (c : FlashCmd) (e : Dev) : Prop :=
  e.boot.sfdp = some f ∧ e.boot.sent = [0x66, 0x99, 0x5A] ∧
  (f.read144 = some c → e.boot.read = { addrLines := 4, dataLines := 4, command := c, mhz := 104, enable := some f.quadEnable } ∧
    e.fbit R.BOOT_STAT_SLOW_FLASH = false) ∧
  (f.read144 = none → f.read114 = some c →
    e.boot.read = { addrLines := 1, dataLines := 4, command := c, mhz := 104, enable := some f.quadEnable } ∧ e.fbit R.BOOT_STAT_SLOW_FLASH = false) ∧
  (f.read144 = none → f.read114 = none → e.boot.read = {} ∧ e.fbit R.BOOT_STAT_SLOW_FLASH = true)

theorem Dev.flashAsked_romPassed (hoff : d.fget R.PWR_DOM_STAT_STATE = 0) : Dev.FlashAsked f c (d.romPassed (some f)) := by
  obtain ⟨-, hboot, hslow, -⟩ := Dev.romPassed_shows (some f) hoff
  obtain ⟨h144, h114, hnone⟩ := flashReadOf_some (f := f) (c := c)
  have hread : (d.romPassed (some f)).boot.read = flashReadOf (some f) := by rw [hboot]; rfl
  refine ⟨by rw [hboot]; rfl, by rw [hboot]; rfl, fun h => ?_, fun h h' => ?_, fun h h' => ?_⟩
  · rw [hread, hslow, h144 h]; exact ⟨rfl, rfl⟩
  · rw [hread, hslow, h114 h h']; exact ⟨rfl, rfl⟩
  · rw [hread, hslow, hnone h h']; exact ⟨rfl, rfl⟩

theorem Dev.phase_romPassed (hoff : d.fget R.PWR_DOM_STAT_STATE = 0) : (d.romPassed sfdp).boot.phase = phaseAfter (d.fget R.BOOT_STAT_MODE) := by
  rw [(Dev.romPassed_shows sfdp hoff).2.1]
  rfl

theorem Dev.romPassed_none (hoff : d.fget R.PWR_DOM_STAT_STATE = 0) :
    (d.romPassed none).boot.sfdp = none ∧ (d.romPassed none).boot.read = {} ∧ (d.romPassed none).fbit R.BOOT_STAT_SLOW_FLASH = true ∧
    (d.romPassed none).fbit R.BIC_JNL_STAT_STOPPED = true ∧ (d.romPassed none).fbit R.MON_STAT_LOG_STOP = true := by
  obtain ⟨-, hboot, hslow, hstops⟩ := Dev.romPassed_shows none hoff
  exact ⟨by rw [hboot]; rfl, by rw [hboot]; rfl, hslow, hstops rfl⟩

/-! ### The release -/

/-- The release with a ROM checksum that has passed. -/
theorem Dev.released_passed (flash : SMap Byte) (hoff : d.fget R.PWR_DOM_STAT_STATE = 0) :
    ((d.resetReleased flash boot addr).romPassed sfdp).boot.phase = phaseAfter boot ∧
    Dev.Latched d boot addr ((d.resetReleased flash boot addr).romPassed sfdp) := by
  have hl := Dev.latched_resetReleased (d := d) flash boot addr
  have hoff' : (d.resetReleased flash boot addr).fget R.PWR_DOM_STAT_STATE = 0 := Dev.state_resetReleased flash hoff
  exact ⟨by rw [Dev.phase_romPassed hoff', hl.mode], hl.after (Dev.romPassed_shows sfdp hoff').1⟩

theorem runs_resetRelease (h : s.dev.freed) (hoff : s.dev.fget R.PWR_DOM_STAT_STATE = 0) :
    Runs (.resetRelease boot addr true sfdp) s (fun t => t.dev = (s.dev.resetReleased s.flash boot addr).romPassed sfdp ∧
      t.dev.boot.phase = phaseAfter boot ∧ Dev.Latched s.dev boot addr t.dev ∧ t.lily = [] ∧ t.flash = s.flash ∧ t.pending = s.pending) := by
  obtain ⟨hphase, hl⟩ := Dev.released_passed (sfdp := sfdp) (boot := boot) (addr := addr) s.flash hoff
  have hexec := exec_resetRelease (boot := boot) (addr := addr) (sfdp := sfdp) h true
  rw [if_pos (rfl : true = true)] at hexec
  generalize (s.dev.resetReleased s.flash boot addr).romPassed sfdp = e at hexec hphase hl ⊢
  exact ⟨_, hexec, rfl, hphase, hl, rfl, rfl, rfl⟩

theorem runs_resetRelease_failed (h : s.dev.freed) :
    Runs (.resetRelease boot addr false sfdp) s (fun t => t.dev.boot.phase = .romHold ∧ Dev.Latched s.dev boot addr t.dev ∧ t.lily = [] ∧
      t.flash = s.flash ∧ t.pending = s.pending) := by
  refine ⟨_, exec_resetRelease h false, ?_⟩
  rw [if_neg (by decide)]
  exact ⟨rfl, (Dev.latched_resetReleased s.flash boot addr).after (Dev.romStep_boot ..), rfl, rfl, rfl⟩

/-! ### Another try of the ROM checksum -/

/-- The block as the ROM checksum is tried again. -/
def Dev.retried (d : Dev) : Dev := { d with boot := { d.boot with releaseClk := d.time.clk } }

theorem exec_romCheckRetry (h : s.dev.again) (ok : Bool) :
    exec (.romCheckRetry ok sfdp) s = .next { s with dev := if ok then s.dev.retried.romPassed sfdp else s.dev.retried } := by
  obtain ⟨hphase, hclk⟩ := h
  show execRomCheckRetry ok sfdp s = _
  rw [execRomCheckRetry, nextDev]
  refine congrArg (fun d => Host.Outcome.next { s with dev := d }) (if_neg ?_)
  have hsince : ¬ s.dev.time.clk - s.dev.boot.releaseClk < Config.sysPerSecond := by omega
  simp [hphase, Dev.since, hsince]

theorem exec_romCheckRetry_not (h : ¬ s.dev.again) (ok : Bool) : exec (.romCheckRetry ok sfdp) s = .next s := by
  show execRomCheckRetry ok sfdp s = _
  rw [execRomCheckRetry, nextDev]
  refine congrArg (fun d => Host.Outcome.next { s with dev := d }) (if_pos (by_contra fun hno => h ?_))
  simp only [Bool.not_eq_true, Bool.or_eq_false_iff, decide_eq_false_iff_not, not_not, Dev.since] at hno
  obtain ⟨hphase, hclk⟩ := hno
  have hsince := of_decide_eq_false hclk
  have hpos : 0 < Config.sysPerSecond := by decide
  exact ⟨hphase, by omega⟩

theorem runs_romCheckRetry (h : s.dev.again) (hoff : s.dev.fget R.PWR_DOM_STAT_STATE = 0) :
    Runs (.romCheckRetry true (some f)) s (fun t => t.dev.boot.phase = phaseAfter (s.dev.fget R.BOOT_STAT_MODE) ∧ Dev.FlashAsked f c t.dev ∧
      (t.flash = s.flash ∧ t.pending = s.pending) ∧ t.lily = s.lily) := by
  have hphase : (s.dev.retried.romPassed (some f)).boot.phase = phaseAfter (s.dev.fget R.BOOT_STAT_MODE) := Dev.phase_romPassed hoff
  have hasked : Dev.FlashAsked f c (s.dev.retried.romPassed (some f)) := Dev.flashAsked_romPassed hoff
  have hexec := exec_romCheckRetry (sfdp := some f) h true
  rw [if_pos (rfl : true = true)] at hexec
  generalize s.dev.retried.romPassed (some f) = e at hexec hphase hasked
  exact ⟨_, hexec, hphase, hasked, ⟨rfl, rfl⟩, rfl⟩

theorem runs_romCheckRetry_failed (h : s.dev.again) :
    Runs (.romCheckRetry false sfdp) s (fun t => t.dev.boot.phase = .romHold ∧ t.dev.boot.releaseClk = s.dev.time.clk ∧ Only [] s t) := by
  refine ⟨_, exec_romCheckRetry h false, ?_⟩
  rw [if_neg (by decide)]
  exact ⟨h.1, rfl, (Dev.Within.of_regs rfl).only⟩

end

end Sys2Proof.Machine

/-!
SUPPORT. The choice of the bank: the headers of both, and a bank that does not run (R62, R65, R66, R70).
-/
namespace Sys2Proof.Machine

section
variable {d e : Dev} {s : State} {ca cb fail : Nat} {b : Fin 2} {first : Bool}

theorem headerCheck_le (img : BootImage) (len : Option Nat) : headerCheck img len ≤ 4 := by
  unfold headerCheck
  dsimp only
  split_ifs <;> decide

theorem imageCheck_le (img : BootImage) (len : Option Nat) : imageCheck img len ≤ 7 := by
  have hheader := headerCheck_le img len
  unfold imageCheck
  dsimp only
  split_ifs <;> omega

/-! ### Classes that fail -/

/-- Classes that run their baseline show (R69). -/
theorem Dev.mismatch_shows (hfail : fail ≠ 0) (hlt : fail < 128) :
    (d.mismatch fail).fget R.BOOT_MISMATCH_CLASS = fail ∧ (d.mismatch fail).fbit R.BOOT_STAT_FW_MISMATCH = true ∧
    (d.mismatch fail).fbit R.BOOT_EVT_FW_MISMATCH = true := by
  rw [Dev.mismatch, if_neg hfail]
  refine ⟨?_, ?_, Dev.fbit_event _ 0 rfl rfl (by decide)⟩
  · refine (Dev.fget_setEvtBits_other (f := R.BOOT_MISMATCH_CLASS) (k := 0) (.inr (by decide))).trans ?_
    refine (Dev.fget_fput_apart _ _ (by decide) (.inl (by decide))).trans ((Dev.fget_fput _ _ _ _ (by decide) (by decide) rfl).trans ?_)
    exact Nat.mod_eq_of_lt hlt
  · exact Dev.fbit_event_mono rfl rfl (Dev.fbit_fputB _ 0 true rfl rfl (by decide))

/-- The registers that report classes that fail. -/
def mismatchRegs : List Nat := [R.BOOT_STAT.at 0, R.BOOT_MISMATCH.at 0, R.BOOT_EVT.at 0]

theorem Dev.setup_mismatch (fail : Nat) : Dev.Setup mismatchRegs d (d.mismatch fail) := by
  unfold Dev.mismatch
  split
  · exact .refl
  · exact .event (.fput (.fput .refl (by decide)) (by decide)) (by decide)

/-- What a boot without a valid image shows (R70). -/
def Dev.NoImage (e : Dev) : Prop :=
  e.boot.phase = .baseline ∧ e.boot.noImage = true ∧ e.fbit R.BOOT_STAT_NO_IMAGE = true ∧ e.fbit R.BOOT_STAT_FW_MISMATCH = true ∧
  e.fget R.BOOT_MISMATCH_CLASS = 0x7F ∧ e.fbit R.BOOT_EVT_FW_MISMATCH = true

theorem Dev.noImage_noImageBoot : Dev.NoImage d.noImageBoot ∧ Dev.Within mismatchRegs d d.noImageBoot := by
  obtain ⟨hclass, hstat, hevt⟩ := Dev.mismatch_shows (fail := 0x7F)
    (d := ({ d with boot := { d.boot with phase := .baseline, noImage := true } }).fputB R.BOOT_STAT_NO_IMAGE 0 true) (by decide) (by decide)
  have hset := Dev.setup_mismatch (d := ({ d with boot := { d.boot with phase := .baseline, noImage := true } }).fputB R.BOOT_STAT_NO_IMAGE 0 true) 0x7F
  have hno : d.noImageBoot.fbit R.BOOT_STAT_NO_IMAGE = true := by
    rw [Dev.noImageBoot, Dev.mismatch, if_neg (by decide)]
    refine Dev.fbit_event_mono rfl rfl ?_
    rw [Dev.fputB, Dev.fbit_fput_apart _ _ (by decide) (.inr (by decide)), Dev.fbit_fput_apart _ _ (by decide) (.inl (by decide)),
      Dev.fbit_fputB _ _ _ rfl rfl (by decide)]
  have hw : Dev.Within mismatchRegs d (({ d with boot := { d.boot with phase := .baseline, noImage := true } }).fputB R.BOOT_STAT_NO_IMAGE 0 true) :=
    .fput (.of_regs rfl) (by decide)
  exact ⟨⟨congrArg BootSt.phase hset.boot, congrArg BootSt.noImage hset.boot, hno, hstat, hclass, hevt⟩, hw.trans hset.within⟩

/-! ### The headers of both banks -/

/-- The result that a bank's header shows: its first failing check, or 9. -/
def shownResult (c : Nat) : Nat := if c = 0 then 9 else c

/-- The block with the results of both banks' headers. -/
def Dev.headersShown (d : Dev) (ca cb : Nat) : Dev := (d.fput R.BOOT_A_RES 0 (shownResult ca)).fput R.BOOT_B_RES 0 (shownResult cb)

/-- The block as it goes on to read `bank` in full. -/
def Dev.readsBank (d : Dev) (bank : Fin 2) (first : Bool) : Dev := { d with boot := { d.boot with phase := .reading bank first } }

/-- Where the headers lead (R65, R66). -/
def Dev.headersLead (d : Dev) (ca cb : Nat) (newerB : Bool) : Dev :=
  if ca = 0 ∧ cb = 0 then (if newerB then d.readsBank 1 true else d.readsBank 0 true)
  else if ca = 0 then d.readsBank 0 true
  else if cb = 0 then d.readsBank 1 true
  else d.noImageBoot

theorem exec_bankHeadersRead (h : s.dev.boot.phase = .headers) :
    exec .bankHeadersRead s = .next { s with
      dev := (s.dev.headersShown (headerCheck (bankImage s.flash 0) none) (headerCheck (bankImage s.flash 1) none)).headersLead
        (headerCheck (bankImage s.flash 0) none) (headerCheck (bankImage s.flash 1) none)
        (seqNewer (imgSeq (bankImage s.flash 1)) (imgSeq (bankImage s.flash 0))) } := by
  show execBankHeadersRead s = _
  rw [execBankHeadersRead, nextDev]
  exact congrArg (fun d => Host.Outcome.next { s with dev := d }) (if_neg (not_not.2 h))

theorem Dev.headersShown_shows (hca : ca ≤ 4) (hcb : cb ≤ 4) :
    (d.headersShown ca cb).fget R.BOOT_A_RES = shownResult ca ∧ (d.headersShown ca cb).fget R.BOOT_B_RES = shownResult cb := by
  have ha : shownResult ca % 2 ^ 16 = shownResult ca := Nat.mod_eq_of_lt (by unfold shownResult; split <;> omega)
  have hb : shownResult cb % 2 ^ 16 = shownResult cb := Nat.mod_eq_of_lt (by unfold shownResult; split <;> omega)
  constructor
  · rw [Dev.headersShown, Dev.fget_fput_apart _ _ (by decide) (.inl (by decide)), Dev.fget_fput _ _ _ _ (by decide) (by decide) rfl]
    exact ha
  · rw [Dev.headersShown, Dev.fget_fput _ _ _ _ (by decide) (by decide) rfl]
    exact hb

/-- Both results as they show after the headers. -/
def Dev.Results (x y : Nat) (s t : State) : Prop :=
  t.dev.fget R.BOOT_A_RES = x ∧ t.dev.fget R.BOOT_B_RES = y ∧ (t.flash = s.flash ∧ t.pending = s.pending) ∧ t.lily = s.lily

theorem Dev.results_headers (hca : ca ≤ 4) (hcb : cb ≤ 4) (hw : Dev.Within mismatchRegs (s.dev.headersShown ca cb) e) :
    Dev.Results (shownResult ca) (shownResult cb) s { s with dev := e } := by
  obtain ⟨ha, hb⟩ := Dev.headersShown_shows (d := s.dev) hca hcb
  exact ⟨(hw.fget (.inr (by decide))).trans ha, (hw.fget (.inr (by decide))).trans hb, ⟨rfl, rfl⟩, rfl⟩

theorem runs_bankHeadersRead_reads (h : s.dev.boot.phase = .headers) (hca : headerCheck (bankImage s.flash 0) none = ca)
    (hcb : headerCheck (bankImage s.flash 1) none = cb)
    (hlead : (s.dev.headersShown ca cb).headersLead ca cb (seqNewer (imgSeq (bankImage s.flash 1)) (imgSeq (bankImage s.flash 0))) =
      (s.dev.headersShown ca cb).readsBank b true) :
    Runs .bankHeadersRead s (fun t => t.dev.boot.phase = .reading b true ∧ Dev.Results (shownResult ca) (shownResult cb) s t) := by
  have hexec := exec_bankHeadersRead h
  rw [hca, hcb, hlead] at hexec
  exact ⟨_, hexec, rfl, Dev.results_headers (hca ▸ headerCheck_le _ _) (hcb ▸ headerCheck_le _ _) (.of_regs rfl)⟩

theorem runs_bankHeadersRead_none (h : s.dev.boot.phase = .headers) (hca : headerCheck (bankImage s.flash 0) none = ca)
    (hcb : headerCheck (bankImage s.flash 1) none = cb) (ha : ca ≠ 0) (hb : cb ≠ 0) :
    Runs .bankHeadersRead s (fun t => t.dev.NoImage ∧ Dev.Results ca cb s t) := by
  have hexec := exec_bankHeadersRead h
  rw [hca, hcb, Dev.headersLead, if_neg (fun h => ha h.1), if_neg ha, if_neg hb] at hexec
  obtain ⟨hno, hw⟩ := Dev.noImage_noImageBoot (d := s.dev.headersShown ca cb)
  have hres := Dev.results_headers (s := s) (hca ▸ headerCheck_le _ _) (hcb ▸ headerCheck_le _ _) hw
  rw [shownResult, if_neg ha, shownResult, if_neg hb] at hres
  generalize (s.dev.headersShown ca cb).noImageBoot = e at hexec hno hres
  exact ⟨_, hexec, hno, hres⟩

/-! ### A bank that does not run -/

/-- A bank is read in full, and the engine memories can be written. -/
def Dev.bankReads (d : Dev) (b : Fin 2) (first : Bool) : Prop := d.boot.phase = .reading b first ∧ d.enginesUp = true

/-- Classes of an image that fail where its checks pass. -/
def failOf (img : BootImage) : Nat := if imageCheck img none = 0 then compatFail img else 0

/-- The block with the result of a bank read in full. -/
def Dev.bankShown (d : Dev) (b : Fin 2) (img : BootImage) : Dev :=
  d.fput (resField b) 0 (if imageCheck img none ≠ 0 then imageCheck img none else if failOf img ≠ 0 then failOf img * 256 + 8 else 0)

/-- What follows the first bank read in full. -/
def Dev.firstRead (d : Dev) (flash : SMap Byte) (b : Fin 2) (img : BootImage) : Dev :=
  if imageCheck img none = 0 ∧ failOf img = 0 then d.runImage flash (bankImage flash b) b 0 false
  else if headerCheck (bankImage flash (1 - (b : Nat))) none = 0 then
    { d with boot := { d.boot with
      phase := .reading (if b = 0 then 1 else 0) false, prefValid := imageCheck img none == 0, prefFail := failOf img } }
  else if imageCheck img none = 0 then d.runImage flash (bankImage flash b) b (failOf img) false
  else d.noImageBoot

/-- What follows the other bank read in full. -/
def Dev.otherRead (d : Dev) (flash : SMap Byte) (b : Fin 2) (img : BootImage) : Dev :=
  if imageCheck img none = 0 ∧ failOf img = 0 then d.runImage flash (bankImage flash b) b 0 true
  else if d.boot.prefValid then d.runImage flash (bankImage flash (1 - (b : Nat))) (1 - (b : Nat)) d.boot.prefFail false
  else if imageCheck img none = 0 then d.runImage flash (bankImage flash b) b (failOf img) true
  else d.noImageBoot

theorem exec_bankReadDone (h : s.dev.bankReads b first) :
    exec .bankReadDone s = .next { s with
      dev := if first then (s.dev.bankShown b (bankImage s.flash b)).firstRead s.flash b (bankImage s.flash b)
        else (s.dev.bankShown b (bankImage s.flash b)).otherRead s.flash b (bankImage s.flash b) } := by
  obtain ⟨hphase, hup⟩ := h
  show execBankReadDone s = _
  rw [execBankReadDone, nextDev]
  refine congrArg (fun d => Host.Outcome.next { s with dev := d }) ?_
  simp only [hphase, hup, Bool.not_true, Bool.false_eq_true, if_false]
  rfl

end

end Sys2Proof.Machine

/-!
SUPPORT. An image runs: its firmware shown, the engines released, its configuration applied and committed (R56, R67 to R70).
-/
namespace Sys2Proof.Machine

section
variable {d e g : Dev} {s : State} {l : List Nat} {bank fail : Nat} {b : Fin 2} {first fallback : Bool} {m : BootImage} {α : Type}

theorem Dev.Setup.each {f : Dev → α → Dev} {xs : List α} (hf : ∀ a ∈ xs, ∀ d, Dev.Setup l d (f d a)) (d : Dev) : Dev.Setup l d (d.each xs f) := by
  induction xs generalizing d with
  | nil => exact .refl
  | cons a xs ih => exact (hf a (by simp) d).trans (ih (fun b hb => hf b (by simp [hb])) _)

/-! ### The firmware of the classes -/

/-- The registers of `BOOT_FW`. -/
def fwRegs : List Nat := (List.range 21).map (0x0090 + ·)

/-- `BOOT_FW` of class `c` with its version, build and generation. -/
def Dev.fwClass (d : Dev) (c ver build gen : Nat) : Dev := ((d.fput R.BOOT_FW_VER c ver).fput R.BOOT_FW_BUILD c build).fput R.BOOT_FW_GEN c gen

theorem Dev.setup_fwClass {c : Nat} (hc : c < 7) (ver build gen : Nat) : Dev.Setup fwRegs d (d.fwClass c ver build gen) :=
  .fput (.fput (.fput .refl (by interval_cases c <;> decide)) (by interval_cases c <;> decide)) (by interval_cases c <;> decide)

theorem Dev.setup_fwShow (img : Option BootImage) (fail : Nat) : Dev.Setup fwRegs d (d.fwShow img fail) := by
  refine Dev.Setup.each (fun c hc d => ?_) d
  have hlt : c < 7 := List.mem_range.1 hc
  cases img with
  | none => exact Dev.setup_fwClass hlt ..
  | some m =>
    dsimp only
    split <;> exact Dev.setup_fwClass hlt ..

theorem Dev.fwVer_fwClass {c : Nat} (hc : c < 7) (build gen : Nat) :
    (d.fwClass c 0 build gen).fget R.BOOT_FW_VER 3 = if c = 3 then 0 else d.fget R.BOOT_FW_VER 3 := by
  rw [Dev.fwClass, Dev.fget_fput_apart _ _ (by decide) (.inl (by interval_cases c <;> decide)),
    Dev.fget_fput_apart _ _ (by decide) (.inl (by interval_cases c <;> decide))]
  split
  · rename_i heq
    rw [heq, Dev.fget_fput _ _ _ _ (by decide) (by decide) rfl]
    rfl
  · rename_i hne
    refine Dev.fget_fput_apart _ _ (by decide) (.inl (fun hat => hne ?_))
    have heq : 0x0090 + 3 * 3 = 0x0090 + 3 * c := hat
    omega

/-- The baseline of class 3 has version 0 (R637). -/
theorem Dev.fwVer_baseline (fail : Nat) : (d.fwShow none fail).fget R.BOOT_FW_VER 3 = 0 := by
  have hstep (e : Dev) (c : Nat) (hc : c < 7) := Dev.fwVer_fwClass (d := e) hc 0x0B01 0x8000
  show (Dev.each d [0, 1, 2, 3, 4, 5, 6] fun d c => d.fwClass c 0 0x0B01 0x8000).fget R.BOOT_FW_VER 3 = 0
  simp only [Dev.each, List.foldl]
  rw [hstep _ 6 (by decide), if_neg (by decide), hstep _ 5 (by decide), if_neg (by decide), hstep _ 4 (by decide), if_neg (by decide),
    hstep _ 3 (by decide), if_pos rfl]

/-! ### The engines -/

/-- The registers of the correction as it is loaded from the journal. -/
def jnlRegs : List Nat := [R.BICX_STAT_SRC.at 0, R.BICX_STAT_SRC.at 1, R.BIC_JNL_STAT.at 0]

theorem Dev.setup_jnlShow : Dev.Setup jnlRegs d d.jnlShow := .fput (.fput .refl (by decide)) (by decide)

/-- Input `x` with a correction set. -/
theorem Dev.setup_jnlTake (f : BicSt → BicSt) (x : Nat) (hx : R.BICX_STAT_SRC.at x ∈ jnlRegs) (v : Nat) :
    Dev.Setup jnlRegs d ((d.updBic x f).fput R.BICX_STAT_SRC x v) :=
  .fput ⟨.of_regs rfl, rfl, rfl, rfl⟩ hx

theorem Dev.setup_jnl (j : JnlSt) : Dev.Setup l d { d with jnl := j } := ⟨.of_regs rfl, rfl, rfl, rfl⟩

theorem Dev.setup_journalLoad (flash : SMap Byte) : Dev.Setup jnlRegs d (d.journalLoad flash) := by
  unfold Dev.journalLoad
  dsimp only
  split
  · exact (Dev.setup_jnl _).trans Dev.setup_jnlShow
  · exact (Dev.setup_jnl _).trans ((Dev.setup_jnlTake _ 0 (by decide) _).trans ((Dev.setup_jnlTake _ 1 (by decide) _).trans Dev.setup_jnlShow))

/-- Every domain of `d` is ordered ON and ON. -/
def Dev.ordered (d : Dev) : Prop := d.fget R.PWR_DOM = 0xAAA ∧ d.fget R.PWR_DOM_STAT_STATE = 0xAAA ∧ d.pwr.doms = []

/-- The block with its engines released. -/
def Dev.enginesRun (d : Dev) : Dev := ({ d with boot := { d.boot with phase := .released } }).event R.BOOT_EVT_IMAGE_LOADED

/-- The block with the correction loaded. -/
def Dev.correctionRead (d : Dev) (flash : SMap Byte) : Dev := if d.boot.sfdp.isNone then d else d.journalLoad flash

theorem Dev.engineRelease_eq (flash : SMap Byte) : d.engineRelease flash = (d.enginesRun.correctionRead flash).domDrive := rfl

theorem Dev.setup_correctionRead (flash : SMap Byte) : Dev.Setup jnlRegs d (d.correctionRead flash) := by
  unfold Dev.correctionRead
  split
  · exact .refl
  · exact Dev.setup_journalLoad flash

/-- The registers of the release of the engines. -/
def releaseRegs : List Nat := R.BOOT_EVT.at 0 :: jnlRegs

/-- The engines are released where every domain is ordered ON and ON (R69, R561). -/
theorem Dev.engineRelease_shows (flash : SMap Byte) (hord : d.ordered) :
    Dev.Within releaseRegs d (d.engineRelease flash) ∧ (d.engineRelease flash).boot = { d.boot with phase := .released } ∧
    (d.engineRelease flash).fbit R.BOOT_EVT_IMAGE_LOADED = true := by
  obtain ⟨horder, hstate, hdoms⟩ := hord
  have hrun : Dev.Within [R.BOOT_EVT.at 0] d d.enginesRun := .event (.of_regs rfl) (by decide)
  obtain ⟨hboot, hpwr⟩ := Dev.event_boot_pwr { d with boot := { d.boot with phase := .released } } R.BOOT_EVT_IMAGE_LOADED 0
  have hread := Dev.setup_correctionRead (d := d.enginesRun) flash
  have hw : Dev.Within releaseRegs d (d.enginesRun.correctionRead flash) := (hrun.mono (by decide)).trans (hread.within.mono (by decide))
  have hon : (d.enginesRun.correctionRead flash).AllOn :=
    ⟨congrArg BootSt.phase (hread.boot.trans hboot), (hw.fget (.inl rfl)).trans horder, (hw.fget (.inr (by decide))).trans hstate,
      (congrArg PwrSt.doms (hread.pwr.trans hpwr)).trans hdoms⟩
  rw [Dev.engineRelease_eq, hon.domDrive]
  exact ⟨hw, hread.boot.trans hboot, (hread.within.fbit (.inr (by decide))).trans (Dev.fbit_event _ 0 rfl rfl (by decide))⟩

end

end Sys2Proof.Machine

/-!
SUPPORT. BANK_READ_DONE and BASELINE_LOAD_DONE: the image that runs, and the end of the boot by its mode (R56, R62, R66 to R70).
-/
namespace Sys2Proof.Machine

section
variable {d e g : Dev} {s : State} {l : List Nat} {bank fail mode : Nat} {b : Fin 2} {first fallback : Bool} {m : BootImage} {flash : SMap Byte}

theorem ofBe_lt (bs : List Nat) : ofBe bs < 256 ^ bs.length := by
  induction bs using List.reverseRecOn with
  | nil => decide
  | append_singleton bs b ih =>
    rw [ofBe] at ih ⊢
    rw [List.foldl_append, List.length_append, List.length_singleton, pow_succ]
    simp only [List.foldl]
    omega

theorem imgSeq_lt (m : BootImage) : imgSeq m < 2 ^ 32 := by
  have h := ofBe_lt (imgPart m 0x008 4)
  rwa [show (imgPart m 0x008 4).length = 4 by simp [imgPart]] at h

/-! ### An image that runs -/

/-- The configuration of an image is empty: it has no records and no scripts. -/
def plainImage (m : BootImage) : Prop := imgRecords m = [] ∧ imgScripts m = none

/-- What a running image shows. -/
def Dev.RunsImage (bank : Nat) (m : BootImage) (fallback : Bool) (fail : Nat) (e : Dev) : Prop :=
  e.boot.phase = .released ∧ e.boot.noImage = false ∧ e.boot.tadpole = fail ∧ e.fget R.BOOT_STAT_BANK = bank ∧
  e.fbit R.BOOT_STAT_FALLBACK = fallback ∧ e.fget R.BOOT_SEQ_HI_SEQ_HI * 65536 + e.fget R.BOOT_SEQ_LO_SEQ_LO = imgSeq m ∧
  e.fbit R.BOOT_EVT_IMAGE_LOADED = true

/-- The block with the firmware of an image shown, and the classes that fail. -/
def Dev.fwTold (d : Dev) (m : BootImage) (fail : Nat) : Dev :=
  (({ d with boot := { d.boot with tadpole := fail, noImage := false } }).fwShow (some m) fail).mismatch fail

/-- The block before the commit that ends the boot. -/
def Dev.imaged (d : Dev) (flash : SMap Byte) (m : BootImage) (bank fail : Nat) (fallback : Bool) : Dev :=
  (((d.fwTold m fail).engineRelease flash).imageShow bank (imgSeq m) fallback).configApply flash m

theorem Dev.runImage_eq : d.runImage flash m bank fail fallback = (d.imaged flash m bank fail fallback).bootCommit := rfl

theorem Dev.configApply_plain (hplain : plainImage m) :
    d.configApply flash m = (d.updLif (fun c => { c with scripts := [] })).fput R.LIF_STAT_NSCR 0 0 := by
  rw [Dev.configApply, hplain.1, hplain.2]
  rfl

/-- The registers that report the source of the image. -/
def sourceRegs : List Nat := [R.BOOT_STAT.at 0, R.BOOT_SEQ_HI.at 0, R.BOOT_SEQ_LO.at 0]

theorem Dev.setup_imageShow (bank seq : Nat) (fallback : Bool) : Dev.Setup sourceRegs d (d.imageShow bank seq fallback) :=
  .fput (.fput (.fput (.fput (.fput .refl (by decide)) (by decide)) (by decide)) (by decide)) (by decide)

theorem Dev.imageShow_shows {seq : Nat} (hbank : bank < 4) (hseq : seq < 2 ^ 32) :
    (d.imageShow bank seq fallback).fget R.BOOT_STAT_BANK = bank ∧ (d.imageShow bank seq fallback).fbit R.BOOT_STAT_FALLBACK = fallback ∧
    (d.imageShow bank seq fallback).fget R.BOOT_SEQ_HI_SEQ_HI * 65536 + (d.imageShow bank seq fallback).fget R.BOOT_SEQ_LO_SEQ_LO = seq ∧
    (d.imageShow bank seq fallback).fget R.BOOT_STAT_MODE = d.fget R.BOOT_STAT_MODE := by
  have hapart {e : Dev} {h f : Fld} (v : Nat) (hf : f.lo ≤ f.hi ∧ f.hi < 16) (ha : h.at 0 ≠ f.at 0 ∨ h.hi < f.lo ∨ f.hi < h.lo) :
      (e.fput f 0 v).fget h 0 = e.fget h 0 := Dev.fget_fput_apart e v hf ha
  rw [Dev.imageShow]
  refine ⟨?_, ?_, ?_, ?_⟩
  · rw [hapart _ (by decide) (by decide), hapart _ (by decide) (by decide), Dev.fputB, hapart _ (by decide) (by decide), Dev.fputB,
      hapart _ (by decide) (by decide), Dev.fget_fput _ _ _ _ (by decide) (by decide) rfl]
    exact Nat.mod_eq_of_lt hbank
  · rw [Dev.fbit, hapart _ (by decide) (by decide), hapart _ (by decide) (by decide), Dev.fputB, hapart _ (by decide) (by decide)]
    exact Dev.fbit_fputB _ _ _ rfl rfl (by decide)
  · rw [hapart _ (by decide) (by decide), Dev.fget_fput _ _ _ _ (by decide) (by decide) rfl, Dev.fget_fput _ _ _ _ (by decide) (by decide) rfl]
    show seq / 65536 % 2 ^ 16 * 65536 + seq % 65536 % 2 ^ 16 = seq
    omega
  · rw [hapart _ (by decide) (by decide), hapart _ (by decide) (by decide), Dev.fputB, hapart _ (by decide) (by decide), Dev.fputB,
      hapart _ (by decide) (by decide), hapart _ (by decide) (by decide)]

/-- The registers of the firmware and the classes that fail. -/
def fwToldRegs : List Nat := fwRegs ++ mismatchRegs

theorem Dev.mode_mismatch : (d.mismatch fail).fget R.BOOT_STAT_MODE = d.fget R.BOOT_STAT_MODE := by
  unfold Dev.mismatch
  split
  · rfl
  · refine (Dev.fget_setEvtBits_other (f := R.BOOT_STAT_MODE) (k := 0) (.inr (by decide))).trans ?_
    exact (Dev.fget_fput_apart _ _ (by decide) (.inr (by decide))).trans (Dev.fget_fput_apart _ _ (by decide) (.inl (by decide)))

theorem Dev.fwTold_shows (d : Dev) (m : BootImage) (fail : Nat) :
    Dev.Within fwToldRegs d (d.fwTold m fail) ∧ (d.fwTold m fail).boot = { d.boot with tadpole := fail, noImage := false } ∧
    (d.fwTold m fail).pwr = d.pwr ∧ (d.fwTold m fail).fget R.BOOT_STAT_MODE = d.fget R.BOOT_STAT_MODE := by
  have hfw := Dev.setup_fwShow (d := { d with boot := { d.boot with tadpole := fail, noImage := false } }) (some m) fail
  have hmis := Dev.setup_mismatch (d := ({ d with boot := { d.boot with tadpole := fail, noImage := false } }).fwShow (some m) fail) fail
  have hw : Dev.Within fwToldRegs d (({ d with boot := { d.boot with tadpole := fail, noImage := false } }).fwShow (some m) fail) :=
    (hfw.within.mono (l' := fwToldRegs) (by decide)).of_same_regs rfl
  refine ⟨hw.trans (hmis.within.mono (by decide)), hmis.boot.trans hfw.boot, hmis.pwr.trans hfw.pwr, ?_⟩
  exact Dev.mode_mismatch.trans (hfw.within.fget (.inr (by decide)))

/-- The registers of an image that runs, before the commit. -/
def imagedRegs : List Nat := fwToldRegs ++ releaseRegs ++ sourceRegs ++ [R.LIF_STAT.at 0]

theorem Dev.Within.ordered (hw : Dev.Within l d e) (hl : R.PWR_DOM_STAT.at 0 ∉ l) (hpwr : e.pwr = d.pwr) (hord : d.ordered) : e.ordered := by
  obtain ⟨horder, hstate, hdoms⟩ := hord
  exact ⟨(hw.fget (.inl rfl)).trans horder, (hw.fget (f := R.PWR_DOM_STAT_STATE) (.inr hl)).trans hstate, (congrArg PwrSt.doms hpwr).trans hdoms⟩

/-- An image with an empty configuration runs where every domain is ordered ON and ON. -/
theorem Dev.imaged_shows (hord : d.ordered) (hplain : plainImage m) (hbank : bank < 4) :
    Dev.Within imagedRegs d (d.imaged flash m bank fail fallback) ∧ Dev.RunsImage bank m fallback fail (d.imaged flash m bank fail fallback) ∧
    (d.imaged flash m bank fail fallback).fget R.BOOT_STAT_MODE = d.fget R.BOOT_STAT_MODE := by
  obtain ⟨hfw, hfwBoot, hfwPwr, hfwMode⟩ := d.fwTold_shows m fail
  obtain ⟨hrel, hrelBoot, hloaded⟩ := Dev.engineRelease_shows (d := d.fwTold m fail) flash (hfw.ordered (by decide) hfwPwr hord)
  rw [Dev.imaged, Dev.configApply_plain hplain]
  generalize (d.fwTold m fail).engineRelease flash = e at hrel hrelBoot hloaded ⊢
  obtain ⟨hshowBank, hshowFall, hshowSeq, hshowMode⟩ := Dev.imageShow_shows (d := e) (fallback := fallback) hbank (imgSeq_lt m)
  have hsource := Dev.setup_imageShow (d := e) bank (imgSeq m) fallback
  generalize e.imageShow bank (imgSeq m) fallback = g at hshowBank hshowFall hshowSeq hshowMode hsource ⊢
  have hlif : Dev.Within [R.LIF_STAT.at 0] g ((g.updLif (fun c => { c with scripts := [] })).fput R.LIF_STAT_NSCR 0 0) :=
    .fput (.of_regs rfl) (by decide)
  have hboot : g.boot = { d.boot with tadpole := fail, noImage := false, phase := .released } := by
    rw [hsource.boot, hrelBoot, hfwBoot]
  refine ⟨?_, ⟨congrArg BootSt.phase hboot, congrArg BootSt.noImage hboot, congrArg BootSt.tadpole hboot, ?_, ?_, ?_, ?_⟩, ?_⟩
  · exact (hfw.mono (by decide)).trans ((hrel.mono (by decide)).trans ((hsource.within.mono (by decide)).trans (hlif.mono (by decide))))
  · exact (hlif.fget (.inr (by decide))).trans hshowBank
  · exact (hlif.fbit (.inr (by decide))).trans hshowFall
  · rw [hlif.fget (.inr (by decide)), hlif.fget (.inr (by decide)), hshowSeq]
  · exact (hlif.fbit (.inr (by decide))).trans ((hsource.within.fbit (.inr (by decide))).trans hloaded)
  · exact (hlif.fget (.inr (by decide))).trans (hshowMode.trans ((hrel.fget (.inr (by decide))).trans hfwMode))

/-! ### The end of the boot -/

/-- What is written to other fields leaves what a running image shows. -/
theorem Dev.RunsImage.fputB {f : Fld} (h : Dev.RunsImage bank m fallback fail d) (v : Bool) (hf : f.lo ≤ f.hi ∧ f.hi < 16)
    (hat : f.at 0 ∉ [R.BOOT_SEQ_HI.at 0, R.BOOT_SEQ_LO.at 0, R.BOOT_EVT.at 0]) (hbits : f.at 0 ≠ R.BOOT_STAT.at 0 ∨ f.hi < 6 ∨ 7 < f.lo ∧ f.hi < 13 ∨ 13 < f.lo) :
    Dev.RunsImage bank m fallback fail (d.fputB f 0 v) := by
  obtain ⟨hphase, hno, htad, hbank, hfall, hseq, hload⟩ := h
  simp only [List.mem_cons, List.not_mem_nil, or_false, not_or] at hat
  obtain ⟨hhi, hlo, hevt⟩ := hat
  refine ⟨hphase, hno, htad, ?_, ?_, ?_, ?_⟩
  · refine (Dev.fget_fput_apart d _ hf ?_).trans hbank
    obtain h | h | h | h := hbits
    exacts [.inl h.symm, .inr (.inr h), .inr (.inl h.1), .inr (.inl (h.trans' (by decide)))]
  · refine (Dev.fbit_fput_apart d _ hf ?_).trans hfall
    obtain h | h | h | h := hbits
    exacts [.inl h.symm, .inr (.inr (h.trans (by decide))), .inr (.inr h.2), .inr (.inl h)]
  · rw [Dev.fputB, Dev.fget_fput_apart (h := R.BOOT_SEQ_HI_SEQ_HI) d _ hf (.inl (Ne.symm hhi)),
      Dev.fget_fput_apart (h := R.BOOT_SEQ_LO_SEQ_LO) d _ hf (.inl (Ne.symm hlo)), hseq]
  · exact (Dev.fbit_fput_apart (h := R.BOOT_EVT_IMAGE_LOADED) d _ hf (.inl (Ne.symm hevt))).trans hload

theorem Dev.RunsImage.event (h : Dev.RunsImage bank m fallback fail d) :
    Dev.RunsImage bank m fallback fail (d.event R.BOOT_EVT_WAIT_COMMIT) := by
  obtain ⟨hphase, hno, htad, hbank, hfall, hseq, hload⟩ := h
  have hw : Dev.Within [R.BOOT_EVT.at 0] d (d.event R.BOOT_EVT_WAIT_COMMIT) := Dev.within_event (by decide)
  have hboot := (Dev.event_boot_pwr d R.BOOT_EVT_WAIT_COMMIT 0).1
  refine ⟨(congrArg BootSt.phase hboot).trans hphase, (congrArg BootSt.noImage hboot).trans hno, (congrArg BootSt.tadpole hboot).trans htad,
    (hw.fget (.inr (by decide))).trans hbank, (hw.fbit (.inr (by decide))).trans hfall, ?_, Dev.fbit_event_mono rfl rfl hload⟩
  rw [hw.fget (.inr (by decide)), hw.fget (.inr (by decide)), hseq]

/-- In mode 0b01 the configuration waits for the host's commit (R56). -/
theorem Dev.bootCommit_waits (hmode : d.fget R.BOOT_STAT_MODE = 1) (h : Dev.RunsImage bank m fallback fail d) :
    Dev.RunsImage bank m fallback fail d.bootCommit ∧ d.bootCommit.fbit R.BOOT_STAT_WAIT_COMMIT = true ∧
    d.bootCommit.fbit R.BOOT_EVT_WAIT_COMMIT = true ∧ Dev.Within [R.BOOT_STAT.at 0, R.BOOT_EVT.at 0] d d.bootCommit ∧
    (∀ f : Fld, f.at 0 = R.BOOT_STAT.at 0 → 11 < f.lo → d.bootCommit.fbit f = d.fbit f) := by
  rw [Dev.bootCommit, if_pos hmode]
  refine ⟨(h.fputB true (by decide) (by decide) (by decide)).event, Dev.fbit_event_mono rfl rfl (Dev.fbit_fputB _ 0 true rfl rfl (by decide)),
    Dev.fbit_event _ 0 rfl rfl (by decide), .event (.fput .refl (by decide)) (by decide), fun f hat hlo => ?_⟩
  have hw : Dev.Within [R.BOOT_EVT.at 0] (d.fputB R.BOOT_STAT_WAIT_COMMIT 0 true) ((d.fputB R.BOOT_STAT_WAIT_COMMIT 0 true).event R.BOOT_EVT_WAIT_COMMIT) :=
    Dev.within_event (by decide)
  exact (hw.fbit (.inr (by rw [hat]; decide))).trans (Dev.fbit_fput_apart d _ (by decide) (.inr (.inr hlo)))

/-- The block with the staged configuration committed, which its blocks have to apply. -/
def Dev.captured (d : Dev) : Dev :=
  let units := (layerDiff d.regs.committed d.regs.staged).foldl (fun l k => if l.contains (unitOf k) then l else l ++ [unitOf k]) []
  { d with regs := { d.regs with committed := d.regs.staged }, epoch := { d.epoch with waiting := units } }

theorem Dev.epochCapture_eq : d.epochCapture = ((d.captured.fput R.SYS_EPOCH_NUM 0 (epochNext (d.captured.fget R.SYS_EPOCH_NUM))).fputB
    R.SYS_EPOCH_STAT_APPLYING 0 true).fputB R.BOOT_STAT_WAIT_COMMIT 0 false := rfl

theorem Dev.fget_captured (f : Fld) (n : Nat) : d.captured.fget f n = d.fget f n := rfl

theorem Dev.boot_captured : d.captured.boot = d.boot := rfl

theorem Dev.RunsImage.captured (h : Dev.RunsImage bank m fallback fail d) : Dev.RunsImage bank m fallback fail d.captured := by
  simpa only [Dev.RunsImage, Dev.fbit, Dev.fget_captured, Dev.boot_captured] using h

theorem Dev.RunsImage.fput_epochNum (h : Dev.RunsImage bank m fallback fail d) (v : Nat) :
    Dev.RunsImage bank m fallback fail (d.fput R.SYS_EPOCH_NUM 0 v) := by
  have hw : Dev.Within [R.SYS_EPOCH_NUM.at 0] d (d.fput R.SYS_EPOCH_NUM 0 v) := Dev.within_fput (by decide)
  obtain ⟨hphase, hno, htad, hbank, hfall, hseq, hload⟩ := h
  refine ⟨hphase, hno, htad, (hw.fget (.inr (by decide))).trans hbank, (hw.fbit (.inr (by decide))).trans hfall, ?_,
    (hw.fbit (.inr (by decide))).trans hload⟩
  rw [hw.fget (.inr (by decide)), hw.fget (.inr (by decide)), hseq]

/-- In mode 0b00 the configuration is committed as epoch 1 (R56). -/
theorem Dev.bootCommit_commits (hmode : d.fget R.BOOT_STAT_MODE = 0) (hcalm : d.fbit R.SYS_EPOCH_STAT_APPLYING = false)
    (h : Dev.RunsImage bank m fallback fail d) :
    Dev.RunsImage bank m fallback fail d.bootCommit ∧ d.bootCommit.fbit R.SYS_EPOCH_STAT_APPLYING = true ∧
    d.bootCommit.regs.committed = d.regs.staged ∧
    ∀ f : Fld, f.staged = false → f.at 0 ∉ [R.SYS_EPOCH_NUM.at 0, R.SYS_EPOCH_STAT.at 0, R.BOOT_STAT.at 0] → d.bootCommit.fget f = d.fget f := by
  rw [Dev.bootCommit, if_neg (by rw [hmode]; decide), Dev.epochCommit, hcalm, if_neg (by decide), Dev.epochCapture_eq]
  have hnum : Dev.RunsImage bank m fallback fail (d.captured.fput R.SYS_EPOCH_NUM 0 (epochNext (d.captured.fget R.SYS_EPOCH_NUM))) :=
    h.captured.fput_epochNum _
  refine ⟨(hnum.fputB true (by decide) (by decide) (by decide)).fputB false (by decide) (by decide) (by decide), ?_, rfl, fun f _ hat => ?_⟩
  · exact (Dev.fbit_fput_apart _ _ (by decide) (.inl (by decide))).trans (Dev.fbit_fputB _ 0 true rfl rfl (by decide))
  · have hw : Dev.Within [R.SYS_EPOCH_NUM.at 0, R.SYS_EPOCH_STAT.at 0, R.BOOT_STAT.at 0] d.captured
        (((d.captured.fput R.SYS_EPOCH_NUM 0 (epochNext (d.captured.fget R.SYS_EPOCH_NUM))).fputB R.SYS_EPOCH_STAT_APPLYING 0 true).fputB
          R.BOOT_STAT_WAIT_COMMIT 0 false) := .fput (.fput (.fput .refl (by decide)) (by decide)) (by decide)
    exact hw.fget (.inr hat)

/-! ### The bank read in full -/

theorem resField_parts (b : Fin 2) : (resField b).at 0 = 0x0084 + b ∧ (resField b).lo = 0 ∧ (resField b).hi = 15 ∧ (resField b).staged = false := by
  fin_cases b <;> exact ⟨rfl, rfl, rfl, rfl⟩

/-- The result registers stand apart from what a running image writes. -/
theorem resField_apart (b : Fin 2) : (resField b).at 0 ∉ imagedRegs ∧ (resField b).at 0 ∉ [R.SYS_EPOCH_NUM.at 0, R.SYS_EPOCH_STAT.at 0, R.BOOT_STAT.at 0] := by
  fin_cases b <;> decide

theorem Dev.bankShown_shows (b : Fin 2) {m : BootImage} (hfail : imageCheck m none ≠ 0 ∨ failOf m = 0) :
    (d.bankShown b m).fget (resField b) = imageCheck m none ∧ Dev.Within [0x0084, 0x0085] d (d.bankShown b m) := by
  obtain ⟨hat, hlo, hhi, hst⟩ := resField_parts b
  have hcode := imageCheck_le m none
  have hput : d.bankShown b m = d.fput (resField b) 0 (imageCheck m none) := by
    rw [Dev.bankShown]
    obtain h | h := hfail
    · rw [if_pos h]
    · by_cases h0 : imageCheck m none = 0
      · rw [if_neg (not_not.2 h0), if_neg (not_not.2 h), h0]
      · rw [if_pos h0]
  rw [hput]
  refine ⟨?_, Dev.within_fput (by rw [hat]; simp only [List.mem_cons, List.not_mem_nil, or_false]; omega)⟩
  rw [Dev.fget_fput _ _ _ _ (by omega) (by omega) hst, hlo, hhi]
  exact Nat.mod_eq_of_lt (by omega)

/-- The other bank is read where the first is invalid and the header of the other is valid (R66). -/
theorem runs_bankReadDone_other (h : s.dev.bankReads b first) (hfirst : first = true) (hcode : imageCheck (bankImage s.flash b) none ≠ 0)
    (hother : headerCheck (bankImage s.flash (1 - (b : Nat))) none = 0) :
    Runs .bankReadDone s (fun t => t.dev.boot.phase = .reading (1 - b) false ∧ t.dev.boot.prefValid = false ∧
      t.dev.fget (resField b) = imageCheck (bankImage s.flash b) none ∧ (t.flash = s.flash ∧ t.pending = s.pending) ∧ t.lily = s.lily) := by
  have hexec := exec_bankReadDone h
  rw [hfirst, if_pos rfl, Dev.firstRead, if_neg (fun h => hcode h.1), if_pos hother] at hexec
  refine ⟨_, hexec, congrArg (BootPhase.reading · false) ?_, beq_eq_false_iff_ne.2 hcode, ?_, ⟨rfl, rfl⟩, rfl⟩
  · fin_cases b <;> rfl
  · exact (Dev.bankShown_shows b (.inl hcode)).1

/-- Neither bank is valid (R70). -/
theorem runs_bankReadDone_none (h : s.dev.bankReads b first) (hfirst : first = true) (hcode : imageCheck (bankImage s.flash b) none ≠ 0)
    (hother : headerCheck (bankImage s.flash (1 - (b : Nat))) none ≠ 0) :
    Runs .bankReadDone s (fun t => t.dev.NoImage ∧ (t.flash = s.flash ∧ t.pending = s.pending) ∧ t.lily = s.lily) := by
  have hexec := exec_bankReadDone h
  rw [hfirst, if_pos rfl, Dev.firstRead, if_neg (fun h => hcode h.1), if_neg hother, if_neg hcode] at hexec
  exact ⟨_, hexec, Dev.noImage_noImageBoot.1, ⟨rfl, rfl⟩, rfl⟩

/-- A bank that is valid and compatible runs (R66 to R69). -/
theorem exec_bankReadDone_runs (h : s.dev.bankReads b first) (hcode : imageCheck (bankImage s.flash b) none = 0)
    (hfail : compatFail (bankImage s.flash b) = 0) :
    exec .bankReadDone s = .next { s with
      dev := (s.dev.bankShown b (bankImage s.flash b)).runImage s.flash (bankImage s.flash b) b 0 (!first) } := by
  have hnone : failOf (bankImage s.flash b) = 0 := by rw [failOf, if_pos hcode, hfail]
  have hexec := exec_bankReadDone h
  cases first
  · rw [if_neg (by decide), Dev.otherRead, if_pos ⟨hcode, hnone⟩] at hexec
    exact hexec
  · rw [if_pos rfl, Dev.firstRead, if_pos ⟨hcode, hnone⟩] at hexec
    exact hexec

/-- The preferred bank runs with the baselines of the classes that fail where the other is invalid (R66, R68). -/
theorem exec_bankReadDone_preferred (h : s.dev.bankReads b first) (hfirst : first = false) (hcode : imageCheck (bankImage s.flash b) none ≠ 0)
    (hpref : s.dev.boot.prefValid = true) :
    exec .bankReadDone s = .next { s with
      dev := (s.dev.bankShown b (bankImage s.flash b)).runImage s.flash (bankImage s.flash (1 - (b : Nat))) (1 - (b : Nat)) s.dev.boot.prefFail false } := by
  have hpref' : (s.dev.bankShown b (bankImage s.flash b)).boot.prefValid = true := hpref
  have hexec := exec_bankReadDone h
  rw [hfirst, if_neg (by decide), Dev.otherRead, if_neg (fun h => hcode h.1), if_pos hpref'] at hexec
  exact hexec

/-- In mode 0b01 the image of bank `b` runs, and its configuration waits for the host's commit. -/
theorem Dev.runImage_waits (hord : d.ordered) (hplain : plainImage m) (hbank : bank < 4) (hmode : d.fget R.BOOT_STAT_MODE = 1) :
    Dev.RunsImage bank m fallback fail (d.runImage flash m bank fail fallback) ∧
    (d.runImage flash m bank fail fallback).fbit R.BOOT_STAT_WAIT_COMMIT = true ∧
    (d.runImage flash m bank fail fallback).fbit R.BOOT_EVT_WAIT_COMMIT = true ∧
    Dev.Within imagedRegs d (d.runImage flash m bank fail fallback) := by
  obtain ⟨hw, hruns, himgMode⟩ := Dev.imaged_shows (flash := flash) (fail := fail) (fallback := fallback) hord hplain hbank
  obtain ⟨hr, hstat, hevt, hcommit, -⟩ := Dev.bootCommit_waits (himgMode.trans hmode) hruns
  exact ⟨hr, hstat, hevt, hw.trans (hcommit.mono (by decide))⟩

/-- In mode 0b00 the image of bank `b` runs, and its configuration is committed. -/
theorem Dev.runImage_commits (hord : d.ordered) (hplain : plainImage m) (hbank : bank < 4) (hmode : d.fget R.BOOT_STAT_MODE = 0)
    (hcalm : d.fbit R.SYS_EPOCH_STAT_APPLYING = false) :
    Dev.RunsImage bank m fallback fail (d.runImage flash m bank fail fallback) ∧
    (d.runImage flash m bank fail fallback).fbit R.SYS_EPOCH_STAT_APPLYING = true ∧
    (d.runImage flash m bank fail fallback).regs.committed = d.regs.staged ∧
    ∀ b : Fin 2, (d.runImage flash m bank fail fallback).fget (resField b) = d.fget (resField b) := by
  obtain ⟨hw, hruns, himgMode⟩ := Dev.imaged_shows (flash := flash) (fail := fail) (fallback := fallback) hord hplain hbank
  obtain ⟨hr, happlying, hcommitted, hfields⟩ := Dev.bootCommit_commits (himgMode.trans hmode) ((hw.fbit (.inr (by decide))).trans hcalm) hruns
  exact ⟨hr, happlying, hcommitted.trans hw.staged, fun b => (hfields _ (resField_parts b).2.2.2 (resField_apart b).2).trans
    (hw.fget (.inr (resField_apart b).1))⟩

/-- The block with the result of the bank: what the boot looks at stands. -/
theorem Dev.bankShown_ready (hshown : Dev.Within [0x0084, 0x0085] d (d.bankShown b m)) (hord : d.ordered) :
    (d.bankShown b m).ordered ∧ (d.bankShown b m).fget R.BOOT_STAT_MODE = d.fget R.BOOT_STAT_MODE ∧
    (d.bankShown b m).fbit R.SYS_EPOCH_STAT_APPLYING = d.fbit R.SYS_EPOCH_STAT_APPLYING :=
  ⟨hshown.ordered (by decide) rfl hord, hshown.fget (.inr (by decide)), hshown.fbit (.inr (by decide))⟩

theorem runs_bankReadDone_commits (h : s.dev.bankReads b first) (hord : s.dev.ordered) (hcode : imageCheck (bankImage s.flash b) none = 0)
    (hfail : compatFail (bankImage s.flash b) = 0) (hplain : plainImage (bankImage s.flash b)) (hmode : s.dev.fget R.BOOT_STAT_MODE = 0)
    (hcalm : s.dev.fbit R.SYS_EPOCH_STAT_APPLYING = false) :
    Runs .bankReadDone s (fun t => Dev.RunsImage b (bankImage s.flash b) (!first) 0 t.dev ∧ t.dev.fget (resField b) = 0 ∧
      t.dev.fbit R.SYS_EPOCH_STAT_APPLYING = true ∧ t.dev.regs.committed = s.dev.regs.staged ∧ t.flash = s.flash ∧ t.pending = s.pending ∧
      t.lily = s.lily) := by
  have hnone : failOf (bankImage s.flash b) = 0 := by rw [failOf, if_pos hcode, hfail]
  have hexec := exec_bankReadDone_runs h hcode hfail
  obtain ⟨hres, hshown⟩ := Dev.bankShown_shows (d := s.dev) b (.inr hnone)
  obtain ⟨hord', hmode', hcalm'⟩ := Dev.bankShown_ready hshown hord
  obtain ⟨hr, happlying, hcommitted, hfield⟩ := Dev.runImage_commits (flash := s.flash) (fail := 0) (fallback := !first) (bank := b) hord' hplain (by omega)
    (hmode'.trans hmode) (hcalm'.trans hcalm)
  have hfield' := (hfield b).trans (hres.trans hcode)
  have hstaged := hcommitted.trans hshown.staged
  generalize (s.dev.bankShown b (bankImage s.flash b)).runImage s.flash (bankImage s.flash b) b 0 (!first) = e at hexec hr happlying hfield' hstaged
  exact ⟨_, hexec, hr, hfield', happlying, hstaged, rfl, rfl, rfl⟩

theorem runs_bankReadDone_waits (h : s.dev.bankReads b first) (hord : s.dev.ordered) (hcode : imageCheck (bankImage s.flash b) none = 0)
    (hfail : compatFail (bankImage s.flash b) = 0) (hplain : plainImage (bankImage s.flash b)) (hmode : s.dev.fget R.BOOT_STAT_MODE = 1) :
    Runs .bankReadDone s (fun t => Dev.RunsImage b (bankImage s.flash b) (!first) 0 t.dev ∧ t.dev.fget (resField b) = 0 ∧
      t.dev.fbit R.BOOT_STAT_WAIT_COMMIT = true ∧ t.dev.fbit R.BOOT_EVT_WAIT_COMMIT = true ∧ t.dev.regs.committed = s.dev.regs.committed ∧
      t.flash = s.flash ∧ t.pending = s.pending ∧ t.lily = s.lily) := by
  have hnone : failOf (bankImage s.flash b) = 0 := by rw [failOf, if_pos hcode, hfail]
  have hexec := exec_bankReadDone_runs h hcode hfail
  obtain ⟨hres, hshown⟩ := Dev.bankShown_shows (d := s.dev) b (.inr hnone)
  obtain ⟨hord', hmode', -⟩ := Dev.bankShown_ready hshown hord
  obtain ⟨hr, hstat, hevt, hw⟩ := Dev.runImage_waits (flash := s.flash) (fail := 0) (fallback := !first) (bank := b) hord' hplain (by omega) (hmode'.trans hmode)
  have hfield := (hw.fget (f := resField b) (.inr (resField_apart b).1)).trans (hres.trans hcode)
  have hcommitted := hw.committed.trans hshown.committed
  generalize (s.dev.bankShown b (bankImage s.flash b)).runImage s.flash (bankImage s.flash b) b 0 (!first) = e at hexec hr hstat hevt hfield hcommitted
  exact ⟨_, hexec, hr, hfield, hstat, hevt, hcommitted, rfl, rfl, rfl⟩

/-! ### The preferred bank with classes that fail -/

/-- Classes that fail show until the commit that ends the boot. -/
theorem Dev.imaged_mismatch (hord : d.ordered) (hplain : plainImage m) (hfail : fail ≠ 0) (hlt : fail < 128) :
    (d.imaged flash m bank fail fallback).fget R.BOOT_MISMATCH_CLASS = fail ∧
    (d.imaged flash m bank fail fallback).fbit R.BOOT_STAT_FW_MISMATCH = true := by
  obtain ⟨hfw, -, hfwPwr, -⟩ := d.fwTold_shows m fail
  obtain ⟨hclass, hstat, -⟩ : (d.fwTold m fail).fget R.BOOT_MISMATCH_CLASS = fail ∧ (d.fwTold m fail).fbit R.BOOT_STAT_FW_MISMATCH = true ∧
      (d.fwTold m fail).fbit R.BOOT_EVT_FW_MISMATCH = true := Dev.mismatch_shows hfail hlt
  obtain ⟨hrel, -, -⟩ := Dev.engineRelease_shows (d := d.fwTold m fail) flash (hfw.ordered (by decide) hfwPwr hord)
  rw [Dev.imaged, Dev.configApply_plain hplain]
  have hclass' := (hrel.fget (f := R.BOOT_MISMATCH_CLASS) (.inr (by decide))).trans hclass
  have hstat' := (hrel.fbit (f := R.BOOT_STAT_FW_MISMATCH) (.inr (by decide))).trans hstat
  generalize (d.fwTold m fail).engineRelease flash = e at hclass' hstat' ⊢
  have hsource := Dev.setup_imageShow (d := e) bank (imgSeq m) fallback
  have hshow : (e.imageShow bank (imgSeq m) fallback).fbit R.BOOT_STAT_FW_MISMATCH = e.fbit R.BOOT_STAT_FW_MISMATCH := by
    have hapart {x : Dev} {f : Fld} (v : Nat) (hf : f.lo ≤ f.hi ∧ f.hi < 16)
        (ha : R.BOOT_STAT_FW_MISMATCH.at 0 ≠ f.at 0 ∨ R.BOOT_STAT_FW_MISMATCH.hi < f.lo ∨ f.hi < R.BOOT_STAT_FW_MISMATCH.lo) :
        (x.fput f 0 v).fbit R.BOOT_STAT_FW_MISMATCH 0 = x.fbit R.BOOT_STAT_FW_MISMATCH 0 := Dev.fbit_fput_apart x v hf ha
    rw [Dev.imageShow, hapart _ (by decide) (by decide), hapart _ (by decide) (by decide), Dev.fputB, hapart _ (by decide) (by decide), Dev.fputB,
      hapart _ (by decide) (by decide), hapart _ (by decide) (by decide)]
  have hlif : Dev.Within [R.LIF_STAT.at 0] (e.imageShow bank (imgSeq m) fallback)
      (((e.imageShow bank (imgSeq m) fallback).updLif (fun c => { c with scripts := [] })).fput R.LIF_STAT_NSCR 0 0) :=
    .fput (.of_regs rfl) (by decide)
  exact ⟨(hlif.fget (.inr (by decide))).trans ((hsource.within.fget (.inr (by decide))).trans hclass'),
    (hlif.fbit (.inr (by decide))).trans (hshow.trans hstat')⟩

theorem runs_bankReadDone_preferred {w : Nat} (h : s.dev.bankReads b first) (hord : s.dev.ordered) (hfirst : first = false)
    (hcode : imageCheck (bankImage s.flash b) none ≠ 0) (hpref : s.dev.boot.prefValid = true)
    (hplain : plainImage (bankImage s.flash (1 - (b : Nat)))) (hmode : s.dev.fget R.BOOT_STAT_MODE = 1) (hw : w = s.dev.boot.prefFail)
    (hlt : w < 128) (hne : w ≠ 0) :
    Runs .bankReadDone s (fun t => (Dev.RunsImage (1 - (b : Nat)) (bankImage s.flash (1 - (b : Nat))) false w t.dev ∧
      t.flash = s.flash ∧ t.pending = s.pending ∧ t.lily = s.lily) ∧
      t.dev.fget R.BOOT_MISMATCH_CLASS = w ∧ t.dev.fbit R.BOOT_STAT_FW_MISMATCH = true) := by
  have hexec := exec_bankReadDone_preferred h hfirst hcode hpref
  obtain ⟨-, hshown⟩ := Dev.bankShown_shows (d := s.dev) b (.inl hcode)
  obtain ⟨hord', hmode', -⟩ := Dev.bankShown_ready hshown hord
  obtain ⟨-, hruns, himgMode⟩ := Dev.imaged_shows (flash := s.flash) (fail := w) (fallback := false) (bank := 1 - (b : Nat)) hord' hplain (by omega)
  obtain ⟨hr, -, -, hcommit, hstat⟩ := Dev.bootCommit_waits (himgMode.trans (hmode'.trans hmode)) hruns
  obtain ⟨hclass, hmis⟩ := Dev.imaged_mismatch (flash := s.flash) (fallback := false) (bank := 1 - (b : Nat)) hord' hplain hne hlt
  have hclass' := (hcommit.fget (f := R.BOOT_MISMATCH_CLASS) (.inr (by decide))).trans hclass
  have hmis' := (hstat R.BOOT_STAT_FW_MISMATCH rfl (by decide)).trans hmis
  rw [← hw, Dev.runImage_eq] at hexec
  generalize ((s.dev.bankShown b (bankImage s.flash b)).imaged s.flash (bankImage s.flash (1 - (b : Nat))) (1 - (b : Nat)) w false).bootCommit = e
    at hexec hr hclass' hmis'
  exact ⟨_, hexec, ⟨hr, rfl, rfl, rfl⟩, hclass', hmis'⟩

/-! ### The baselines -/

theorem Dev.firstLock_parts : d.firstLock.boot = d.boot ∧ d.firstLock.regs = d.regs := by
  have hgo (e : Dev) (p : Pll) : (e.wantLock p).boot = e.boot ∧ (e.wantLock p).regs = e.regs := by cases p <;> exact ⟨rfl, rfl⟩
  unfold Dev.firstLock
  dsimp only
  split <;> split <;> simp [hgo]

/-- BASELINE_LOAD_DONE releases the engines (R70, R637). -/
theorem runs_baselineLoadDone (hphase : s.dev.boot.phase = .baseline) (hord : s.dev.ordered) (hup : s.dev.enginesUp = true) :
    Runs .baselineLoadDone s (fun t => t.dev.boot.phase = .released ∧ t.dev.boot.tadpole = 127 ∧ t.dev.fget R.BOOT_FW_VER 3 = 0 ∧
      t.dev.fbit R.BOOT_EVT_IMAGE_LOADED = true ∧ t.dev.regs.committed = s.dev.regs.committed ∧ (t.flash = s.flash ∧ t.pending = s.pending) ∧
      t.lily = s.lily) := by
  have hexec : exec .baselineLoadDone s = .next { s with
      dev := ((({ s.dev with boot := { s.dev.boot with tadpole := 127 } }).fwShow none 127).engineRelease s.flash).firstLock } := by
    show execBaselineLoadDone s = _
    rw [execBaselineLoadDone, nextDev]
    refine congrArg (fun d => Host.Outcome.next { s with dev := d }) (if_neg ?_)
    simp [hphase, hup]
  have hfw := Dev.setup_fwShow (d := { s.dev with boot := { s.dev.boot with tadpole := 127 } }) none 127
  have hver := Dev.fwVer_baseline (d := { s.dev with boot := { s.dev.boot with tadpole := 127 } }) 127
  have hw : Dev.Within fwRegs s.dev (({ s.dev with boot := { s.dev.boot with tadpole := 127 } }).fwShow none 127) := hfw.within.of_same_regs rfl
  have hboot := hfw.boot
  have hord' := hw.ordered (by decide) hfw.pwr hord
  generalize ({ s.dev with boot := { s.dev.boot with tadpole := 127 } } : Dev).fwShow none 127 = e at hexec hver hw hboot hord'
  obtain ⟨hrel, hrelBoot, hloaded⟩ := Dev.engineRelease_shows s.flash hord'
  generalize e.engineRelease s.flash = g at hexec hrel hrelBoot hloaded
  obtain ⟨hlockBoot, hlockRegs⟩ := Dev.firstLock_parts (d := g)
  have hlock : Dev.Within [] g g.firstLock := .of_regs hlockRegs
  refine ⟨_, hexec, ?_, ?_, ?_, ?_, ?_, ⟨rfl, rfl⟩, rfl⟩
  · rw [hlockBoot, hrelBoot]
  · rw [hlockBoot, hrelBoot]
    exact congrArg BootSt.tadpole hboot
  · exact (hlock.fget (.inr (by decide))).trans ((hrel.fget (.inr (by decide))).trans hver)
  · exact (hlock.fbit (.inr (by decide))).trans hloaded
  · exact hlock.committed.trans (hrel.committed.trans hw.committed)

theorem exec_baselineLoadDone_not (hphase : s.dev.boot.phase ≠ .baseline) : exec .baselineLoadDone s = .next s := by
  show execBaselineLoadDone s = _
  rw [execBaselineLoadDone, nextDev]
  refine congrArg (fun d => Host.Outcome.next { s with dev := d }) (if_pos ?_)
  simp [hphase]

end

end Sys2Proof.Machine

/-!
SUPPORT. FULL_WARM_RESTART, the load of an image by the host and the flash requests of the mailbox (R74 to R79).
-/
namespace Sys2Proof.Machine

section
variable {d e : Dev} {s : State} {w n op status : Nat} {cntOk : Bool} {r : MbxReq} {f : Sfdp}

/-! ### The full warm restart -/

/-- The block as a full warm restart leaves it before the staged values return. -/
def Dev.warmReady (d : Dev) (flash : SMap Byte) (cntOk : Bool) : Dev :=
  let e := (d.epochRestore.warmRecords flash).warmDomains
  ((if cntOk then e else e.countsLost flash).causesShow 0x80).lifeBy (0x18 + 28) 4 1

/-- The recoveries and the call for the restart, once it is done. -/
def MonSt.warmDone (m was : MonSt) : MonSt :=
  { m with warm := none, recov := was.recov.map (fun r => if r.domain == 7 && !r.done then { r with acted := true } else r) }

theorem Dev.warmRestart_eq (flash : SMap Byte) (cntOk : Bool) :
    d.warmRestart flash cntOk = { (d.warmReady flash cntOk).epochAbandon with
      mon := (d.warmReady flash cntOk).epochAbandon.mon.warmDone (d.warmReady flash cntOk).epochAbandon.mon } := rfl

theorem Dev.epochAbandon_shows : d.epochAbandon.regs.staged = d.epochAbandon.regs.committed ∧ d.epochAbandon.fbit R.SYS_EPOCH_STAT_HELD = false :=
  ⟨rfl, Dev.fbit_fputB _ 0 false rfl rfl (by decide)⟩

theorem exec_fullWarmRestart (hwarm : s.dev.mon.warm = some w) (hbusy : s.dev.flashBusy = false) (storeOk : Bool) :
    exec (.fullWarmRestart storeOk cntOk) s =
      if storeOk then .next { s with dev := s.dev.warmRestart s.flash cntOk, lily := if s.dev.fspRuns then [] else s.lily }
      else .next { s with dev := (s.dev.event R.MON_EVT_ESCALATE).assertCause 5 false } := by
  show execFullWarmRestart storeOk cntOk s = _
  rw [execFullWarmRestart, hwarm]
  simp only [hbusy, Bool.false_eq_true, if_false]
  rfl

theorem exec_fullWarmRestart_not (h : s.dev.mon.warm = none ∨ s.dev.flashBusy = true) (storeOk : Bool) :
    exec (.fullWarmRestart storeOk cntOk) s = .next s := by
  show execFullWarmRestart storeOk cntOk s = _
  rw [execFullWarmRestart]
  cases hwarm : s.dev.mon.warm with
  | none => rfl
  | some w =>
    have hbusy : s.dev.flashBusy = true := h.resolve_left (by simp [hwarm])
    exact if_pos hbusy

/-- The staged values return to the last committed epoch (R74, R91). -/
theorem runs_fullWarmRestart (hwarm : s.dev.mon.warm = some w) (hbusy : s.dev.flashBusy = false) :
    Runs (.fullWarmRestart true cntOk) s (fun t => t.dev.mon.warm = none ∧ t.dev.regs.staged = t.dev.regs.committed ∧
      t.dev.fbit R.SYS_EPOCH_STAT_HELD = false ∧ t.flash = s.flash ∧ t.pending = s.pending ∧ t.lily = (if s.dev.fspRuns then [] else s.lily)) := by
  have hexec := exec_fullWarmRestart (cntOk := cntOk) hwarm hbusy true
  rw [if_pos rfl, Dev.warmRestart_eq] at hexec
  generalize s.dev.warmReady s.flash cntOk = e at hexec
  obtain ⟨hstaged, hheld⟩ := Dev.epochAbandon_shows (d := e)
  exact ⟨_, hexec, rfl, hstaged, hheld, rfl, rfl, rfl⟩

/-- A reset cause asserted in operation. -/
theorem Dev.assertCause_shows {c : Nat} (hphase : d.boot.phase ≠ .inReset) (hold : Bool) :
    (d.assertCause c hold).boot.phase = .inReset ∧ bitAt (d.assertCause c hold).pwr.seen c = true := by
  rw [Dev.assertCause, if_neg hphase]
  refine ⟨rfl, ?_⟩
  show bitAt (d.mainReset.pwr.seen ||| 2 ^ c) c = true
  rw [bitAt_eq_testBit, Nat.testBit_or, Nat.testBit_two_pow_self, Bool.or_true]

/-- With a bad epoch store a reset with cause 5 follows (R74). -/
theorem runs_fullWarmRestart_reset (hwarm : s.dev.mon.warm = some w) (hbusy : s.dev.flashBusy = false) (hphase : s.dev.boot.phase = .released) :
    Runs (.fullWarmRestart false cntOk) s (fun t => t.dev.boot.phase = .inReset ∧ bitAt t.dev.pwr.seen 5 = true ∧
      (t.flash = s.flash ∧ t.pending = s.pending) ∧ t.lily = s.lily) := by
  have hexec := exec_fullWarmRestart (cntOk := cntOk) hwarm hbusy false
  rw [if_neg (by decide)] at hexec
  have hup : (s.dev.event R.MON_EVT_ESCALATE).boot.phase ≠ .inReset := by
    rw [(Dev.event_boot_pwr s.dev R.MON_EVT_ESCALATE 0).1, hphase]
    decide
  obtain ⟨hreset, hseen⟩ := Dev.assertCause_shows (c := 5) hup false
  generalize (s.dev.event R.MON_EVT_ESCALATE).assertCause 5 false = e at hexec hreset hseen
  exact ⟨_, hexec, hreset, hseen, ⟨rfl, rfl⟩, rfl⟩

/-! ### Requests of the mailbox -/

/-- Request `r` of the opcode waits for its work. -/
def Dev.asks (d : Dev) (r : MbxReq) (op : Nat) : Prop := d.mbx.req = some r ∧ d.mbx.result = none ∧ r.opcode = op

theorem Dev.asks.work (h : d.asks r op) : d.mbxWork op = some r := by
  obtain ⟨hreq, hres, hop⟩ := h
  simp [Dev.mbxWork, hreq, hres, hop]

/-- The flash has an SFDP table that reaches to `n`. -/
def Dev.hasFlash (d : Dev) (f : Sfdp) (n : Nat) : Prop := d.boot.sfdp = some f ∧ n ≤ f.size

theorem Dev.hasFlash.has (h : d.hasFlash f n) : d.flashHas n = true := by simp [Dev.flashHas, h.1, h.2]

/-- In mode 0b11 every byte may be erased and written (R78). -/
theorem Dev.hasFlash.may {a : Nat} (h : d.hasFlash f n) (hmode : d.fget R.BOOT_STAT_MODE = 3) : d.flashMay d.flashSize a n = true := by
  simp [Dev.flashMay, Dev.flashRegions, Dev.flashSize, hmode, h.1, h.2]

theorem Dev.within_mbxDone (payload : List Nat) : Dev.Within [] d (d.mbxDone status payload) := .of_regs rfl

/-- The host may load an image. -/
def Dev.hostLoads (d : Dev) : Prop := d.fget R.BOOT_STAT_MODE = 2 ∧ d.boot.hostLoaded = false

theorem Dev.hostLoads.allowed (h : d.hostLoads) : d.loadAllowed = true := by simp [Dev.loadAllowed, h.1, h.2]

theorem runs_loadChunk (h : s.dev.asks r 0x10) (hhost : s.dev.hostLoads) (hfits : r.offset + r.data.length ≤ 4194304) (hon : s.dev.domOn 4 = true) :
    Runs .loadChunk s (fun t => t.dev.mbx = { s.dev.mbx with result := some (0, []) } ∧
      t.lily = smSetList (fun _ => 0) s.lily r.offset (r.data.map (BitVec.ofNat 8)) ∧ t.flash = s.flash ∧ OnlyRegs [] s t) := by
  have hexec : exec .loadChunk s = .next { s with
      dev := s.dev.mbxDone 0 [], lily := smSetList (fun _ => 0) s.lily r.offset (r.data.map (BitVec.ofNat 8)) } := by
    show execLoadChunk s = _
    rw [execLoadChunk]
    simp [h.work, hhost.allowed, hon, Nat.not_lt.2 hfits]
  exact ⟨_, hexec, rfl, rfl, rfl, (Dev.within_mbxDone []).only.2.2⟩

theorem runs_loadEnd_failed (h : s.dev.asks r 0x11) (hhost : s.dev.hostLoads) (hat : r.offset % 256 = 0) (hle : r.offset ≤ 4194304)
    (hup : s.dev.enginesUp = true) (hcode : imageCheck (hostImage s.lily) (some r.offset) ≠ 0) :
    Runs .loadEnd s (fun t => t.dev.mbx = { s.dev.mbx with result := some (5, []) } ∧
      Wrote s t R.BOOT_H_RES 0 (imageCheck (hostImage s.lily) (some r.offset)) ∧ Only [R.BOOT_H_RES.at 0] s t) := by
  have hexec : exec .loadEnd s = .next { s with
      dev := (s.dev.fput R.BOOT_H_RES 0 (imageCheck (hostImage s.lily) (some r.offset))).mbxDone 5 [] } := by
    show execLoadEnd s = _
    rw [execLoadEnd, nextDev]
    simp [h.work, hhost.allowed, hat, Nat.not_lt.2 hle, hup, hcode]
  have hw : Dev.Within [R.BOOT_H_RES.at 0] s.dev ((s.dev.fput R.BOOT_H_RES 0 (imageCheck (hostImage s.lily) (some r.offset))).mbxDone 5 []) :=
    .beside (Dev.within_fput (by decide)) rfl
  exact ⟨_, hexec, rfl, wrote_fput _ _ _ _, hw.only⟩

theorem runs_flashErase (h : s.dev.asks r 0x20) (hn : ofBe r.data ≠ 0) (hat : r.offset % 65536 = 0)
    (hhas : s.dev.hasFlash f (r.offset + 65536 * ofBe r.data)) (hmode : s.dev.fget R.BOOT_STAT_MODE = 3) :
    Runs (.flashErase none) s (fun t => t.dev.mbx = { s.dev.mbx with result := some (0, []) } ∧
      t.flash = flashErase s.flash r.offset (65536 * ofBe r.data) ∧ OnlyRegs [] s t) := by
  have hexec : exec (.flashErase none) s = .next { s with dev := s.dev.mbxDone 0 [], flash := flashErase s.flash r.offset (65536 * ofBe r.data) } := by
    show execFlashErase none s = _
    rw [execFlashErase]
    simp [h.work, hn, hat, hhas.has, hhas.may hmode]
  exact ⟨_, hexec, rfl, rfl, (Dev.within_mbxDone []).only.2.2⟩

theorem runs_flashWrite (h : s.dev.asks r 0x21) (hn : 0 < r.data.length) (hat : r.offset % 4 = 0)
    (hhas : s.dev.hasFlash f (r.offset + r.data.length)) (hmode : s.dev.fget R.BOOT_STAT_MODE = 3) :
    Runs (.flashWrite none) s (fun t => t.dev.mbx = { s.dev.mbx with result := some (0, []) } ∧
      t.flash = flashProg s.flash r.offset r.data ∧ OnlyRegs [] s t) := by
  have hexec : exec (.flashWrite none) s = .next { s with dev := s.dev.mbxDone 0 [], flash := flashProg s.flash r.offset r.data } := by
    show execFlashWrite none s = _
    rw [execFlashWrite]
    simp [h.work, List.ne_nil_of_length_pos hn, hat, hhas.has, hhas.may hmode]
  exact ⟨_, hexec, rfl, rfl, (Dev.within_mbxDone []).only.2.2⟩

theorem runs_flashRead (h : s.dev.asks r 0x22) (hpos : 0 < r.data.headD 0) (hle : r.data.headD 0 ≤ 248)
    (hhas : s.dev.hasFlash f (r.offset + r.data.headD 0)) :
    Runs .flashRead s (fun t => t.dev.mbx = { s.dev.mbx with result := some (0, flashBytes s.flash r.offset (r.data.headD 0)) } ∧ Only [] s t) := by
  have hexec : exec .flashRead s = .next { s with dev := s.dev.mbxDone 0 (flashBytes s.flash r.offset (r.data.headD 0)) } := by
    show execFlashRead s = _
    rw [execFlashRead, nextDev]
    have hgo : ¬ (decide (r.data.headD 0 = 0) || decide (248 < r.data.headD 0) || !s.dev.flashHas (r.offset + r.data.headD 0)) = true := by
      rw [hhas.has, decide_eq_false (by omega), decide_eq_false (by omega)]
      decide
    simp only [h.work]
    rw [if_neg hgo]
  exact ⟨_, hexec, rfl, (Dev.within_mbxDone _).only⟩

theorem runs_flashCrc (h : s.dev.asks r 0x23) (hhas : s.dev.hasFlash f (r.offset + ofBe r.data)) :
    Runs .flashCrc s (fun t => t.dev.mbx = { s.dev.mbx with result := some (0, be32 (crc32 (flashBytes s.flash r.offset (ofBe r.data)))) } ∧ Only [] s t) := by
  have hexec : exec .flashCrc s = .next { s with dev := s.dev.mbxDone 0 (be32 (crc32 (flashBytes s.flash r.offset (ofBe r.data)))) } := by
    show execFlashCrc s = _
    rw [execFlashCrc, nextDev]
    simp only [h.work, hhas.has]
    rfl
  exact ⟨_, hexec, rfl, (Dev.within_mbxDone _).only⟩

end

end Sys2Proof.Machine

/-!
SUPPORT. The obligation about the boot and the release of reset (R32, R55 to R58, R62, R65, R66, R69, R70, R74, R76 to R79, R556).
-/
namespace Sys2Proof.Machine

/-- Settles O53: the release and each stage of the boot by its rule, then the warm restart and the requests of the mailbox. -/
theorem bootAndRelease : Obligations.BootAndRelease := by
  unfold Obligations.BootAndRelease
  intro s boot addr f c b first w cntOk r d free again off kept latched quad single slow asked after ia ib ca cb headers results noImage reads img other
    ordered plain runs mode calm o n asks answers host has any
  have hlatched {t : State} (hl : Dev.Latched s.dev boot addr t.dev) (hlily : t.lily = []) (hflash : t.flash = s.flash) (hpend : t.pending = s.pending) :
      latched t := ⟨hl.mode, hl.address, hl.strap, hl.cause, hl.seen, hl.reset, hl.sec, hl.trip, hlily, hflash, hpend⟩
  have hruns {k fail : Nat} {m : BootImage} {fb : Bool} {t : State} (hr : Dev.RunsImage k m fb fail t.dev) (hflash : t.flash = s.flash)
      (hpend : t.pending = s.pending) (hlily : t.lily = s.lily) : runs k m fb fail t := by
    obtain ⟨hphase, hno, htad, hbank, hfall, hseq, hload⟩ := hr
    exact ⟨hphase, hno, htad, hbank, hfall, hseq, hload, ⟨hflash, hpend⟩, hlily⟩
  have hcaseA (ha : ca = 0) (hb : cb ≠ 0) : (s.dev.headersShown ca cb).headersLead ca cb (seqNewer (imgSeq ib) (imgSeq ia)) =
      (s.dev.headersShown ca cb).readsBank 0 true := by rw [Dev.headersLead, if_neg (fun h => hb h.2), if_pos ha]
  have hcaseB (ha : ca ≠ 0) (hb : cb = 0) : (s.dev.headersShown ca cb).headersLead ca cb (seqNewer (imgSeq ib) (imgSeq ia)) =
      (s.dev.headersShown ca cb).readsBank 1 true := by rw [Dev.headersLead, if_neg (fun h => ha h.1), if_neg ha, if_pos hb]
  have hcaseBoth (ha : ca = 0) (hb : cb = 0) (hnew : seqNewer (imgSeq ib) (imgSeq ia) = true) :
      (s.dev.headersShown ca cb).headersLead ca cb (seqNewer (imgSeq ib) (imgSeq ia)) = (s.dev.headersShown ca cb).readsBank 1 true := by
    rw [Dev.headersLead, if_pos ⟨ha, hb⟩, if_pos hnew]
  have hzero {x : Nat} (h : x = 0) : shownResult x = 9 := by rw [shownResult, if_pos h]
  have hcode {x : Nat} (h : x ≠ 0) : shownResult x = x := by rw [shownResult, if_neg h]
  refine ⟨fun hfree hoff => ?_, fun hfree hoff => ?_, fun hfree => ?_, fun hno => ?_, fun hagain hoff => runs_romCheckRetry hagain hoff.1,
    fun hagain => runs_romCheckRetry_failed hagain, fun hno => runs_self_of_exec (exec_romCheckRetry_not hno true), fun hh ha hb hnew => ?_, fun hh ha hb => ?_,
    fun hh ha hb => ?_, fun hh ha hb => runs_bankHeadersRead_none hh rfl rfl ha hb, fun hr hf hc ho => runs_bankReadDone_other hr hf hc ho,
    fun hr hf hc ho => runs_bankReadDone_none hr hf hc ho, fun hr hord hc hf hp hm hcalm => ?_, fun hr hord hc hf hp hm => ?_,
    fun hr hord hf hc hpref hp hm hw hlt hne => ?_, fun hp hord hup => runs_baselineLoadDone hp hord hup,
    fun hp => runs_self_of_exec (exec_baselineLoadDone_not hp), fun hwarm hbusy => runs_fullWarmRestart hwarm hbusy,
    fun hwarm hbusy hp => runs_fullWarmRestart_reset hwarm hbusy hp, fun h => runs_self_of_exec (exec_fullWarmRestart_not h true),
    fun h hhost hfits hon => runs_loadChunk h hhost hfits hon, fun h hhost hat hle hup hc => runs_loadEnd_failed h hhost hat hle hup hc,
    fun h hn hat hhas hm => runs_flashErase h hn hat hhas hm, fun h hn hat hhas hm => runs_flashWrite h hn hat hhas hm,
    fun h hpos hle hhas => runs_flashRead h hpos hle hhas, fun h hhas => runs_flashCrc h hhas⟩
  · obtain ⟨t, hexec, hdev, hphase, hl, hlily, hflash, hpend⟩ := runs_resetRelease (sfdp := some f) (boot := boot) (addr := addr) hfree hoff.1
    have hasked : Dev.FlashAsked f c t.dev := hdev ▸ Dev.flashAsked_romPassed (Dev.state_resetReleased s.flash hoff.1)
    exact ⟨t, hexec, hphase, hasked, hlatched hl hlily hflash hpend⟩
  · obtain ⟨t, hexec, hdev, hphase, hl, hlily, hflash, hpend⟩ := runs_resetRelease (sfdp := none) (boot := boot) (addr := addr) hfree hoff.1
    obtain ⟨hsfdp, hread, hslow, hstop, hlog⟩ := Dev.romPassed_none (d := s.dev.resetReleased s.flash boot addr)
      (Dev.state_resetReleased s.flash hoff.1)
    rw [← hdev] at hsfdp hread hslow hstop hlog
    exact ⟨t, hexec, hphase, hsfdp, ⟨hread, hslow⟩, hstop, hlog, hlatched hl hlily hflash hpend⟩
  · obtain ⟨t, hexec, hphase, hl, hlily, hflash, hpend⟩ := runs_resetRelease_failed (sfdp := none) (boot := boot) (addr := addr) hfree
    exact ⟨t, hexec, hphase, hlatched hl hlily hflash hpend⟩
  · exact runs_self_of_exec (exec_resetRelease_not hno true)
  · have h := runs_bankHeadersRead_reads hh rfl rfl (hcaseBoth ha hb hnew)
    rwa [hzero ha, hzero hb] at h
  · have h := runs_bankHeadersRead_reads hh rfl rfl (hcaseA ha hb)
    rwa [hzero ha, hcode hb] at h
  · have h := runs_bankHeadersRead_reads hh rfl rfl (hcaseB ha hb)
    rwa [hcode ha, hzero hb] at h
  · obtain ⟨t, hexec, hri, hres, happ, hcom, hflash, hpend, hlily⟩ := runs_bankReadDone_commits hr hord hc hf hp hm hcalm
    exact ⟨t, hexec, hruns hri hflash hpend hlily, hres, happ, hcom⟩
  · obtain ⟨t, hexec, hri, hres, hstat, hevt, hcom, hflash, hpend, hlily⟩ := runs_bankReadDone_waits hr hord hc hf hp hm
    exact ⟨t, hexec, hruns hri hflash hpend hlily, hres, hstat, hevt, hcom⟩
  · obtain ⟨t, hexec, ⟨hri, hflash, hpend, hlily⟩, hclass, hmis⟩ := runs_bankReadDone_preferred hr hord hf hc hpref hp hm hw hlt hne
    exact ⟨t, hexec, hruns hri hflash hpend hlily, hclass, hmis⟩

end Sys2Proof.Machine
